-- ==== Sys2Proof/Word.lean ====
section
/-! DEFINITION. The widths of R4 and the plainest arithmetic on them: byte, half, word, double. -/

namespace Sys2Proof

abbrev Byte := BitVec 8
abbrev Half := BitVec 16
abbrev Word := BitVec 32
abbrev Dbl := BitVec 64

end Sys2Proof
end

