-- ==== Sys2Proof/Machine/Regs.lean ====
section
/-! DEFINITION. The registers of the register tables of the spec: the offset of each register in its BAR
(`A.<register>`, with the unit numbers as arguments), each field (`F.<register>_<field>`: bits, type, reset value,
the encodings that are not reserved (R8), whether it is writable only through the P view (R23)), and the table of
all registers with their view, reset domain and lock (R5, R6, R22). A field of kind `own` has a command row of its
own: a generic register write leaves it alone (assumption 4). -/

namespace Sys2Proof.Machine

/-- Field types of R5; `own` is an RW field whose write is a row of its own in the command table. -/
inductive Kind where
  | rw | ro | wo | w1c | w1s | rwl | own
  deriving DecidableEq, Repr

/-- Reset domains of R6. -/
inductive Domain where
  | aon | pwr | dev | ret
  deriving DecidableEq, Repr

/-- One field of a register: bits `[hi:lo]`, type, reset value, defined encodings (empty: all), P-only mark. -/
structure Fld where
  hi : Nat
  lo : Nat
  kind : Kind
  reset : Nat
  legal : List (Nat × Nat)
  ponly : Bool
  deriving DecidableEq, Repr

/-- One register heading of the spec: first offset, array dimensions (count, stride), view, domain, the register whose
bit 31 locks its RWL fields, and whether each requester has its own copy, it is the _LO of an R10 pair, or a P-view
write of any value clears it. -/
structure RegDesc where
  base : Nat
  dims : List (Nat × Nat)
  uview : Bool
  dom : Domain
  lock : Option Nat
  perReq : Bool
  pair : Bool
  clr : Bool
  fields : List Fld
  deriving DecidableEq, Repr

namespace A

def SYS_ID : Nat := 0x0
def SYS_UVIOL_CNT : Nat := 0x10
def SYS_UVIOL_LAST : Nat := 0x14
def SYS_MMAP (i : Nat) : Nat := 0x200 + i * 0x4
def SYS_HOST_CFG : Nat := 0x300
def SYS_FRC_SEL : Nat := 0x400
def SYS_FRC_KEY : Nat := 0x404
def SYS_FRC_SYM : Nat := 0x408
def SYS_FRC_MASK : Nat := 0x40C
def SYS_FRC_VAL : Nat := 0x410
def SYS_FRC_CTL : Nat := 0x414
def SYS_FRC_STAT : Nat := 0x418
def SYS_PWR_STAT : Nat := 0x500
def SYS_START_STAT : Nat := 0x504
def SYS_START_OFF : Nat := 0x508
def SYS_START_CFG : Nat := 0x50C
def SYS_RST_CTL : Nat := 0x510
def AON_CAL_SEC_LO : Nat := 0x10100
def AON_CAL_SEC_HI : Nat := 0x10104
def AON_CAL_TICK : Nat := 0x10108
def AON_CAL_STAT : Nat := 0x1010C
def SEC_LCS_STAT : Nat := 0x20000
def SEC_LCS_CTL : Nat := 0x20004
def SEC_KEY_CTL : Nat := 0x20008
def SEC_OWNKEY (i : Nat) : Nat := 0x20010 + i * 0x4
def SEC_ID_STAT : Nat := 0x20020
def SEC_IDX_BLK : Nat := 0x20024
def SEC_MINVER : Nat := 0x20028
def SEC_ATT_NONCE (i : Nat) : Nat := 0x20040 + i * 0x4
def SEC_ATT_CTL : Nat := 0x20060
def SEC_ATT_STAT : Nat := 0x20064
def SEC_TAMP_CFG : Nat := 0x20080
def SEC_TAMP_STAT : Nat := 0x20084
def MEM_BANK_CTL (i : Nat) : Nat := 0x40000 + i * 0x10
def MEM_BANK_STAT (i : Nat) : Nat := 0x40004 + i * 0x10
def MEM_BANK_ERR (i : Nat) : Nat := 0x40008 + i * 0x10
def MEM_COLL : Nat := 0x41000
def MEM_COLL_LAST : Nat := 0x41004
def MEM_POISON_LAST : Nat := 0x41008
def MEM_WDENY : Nat := 0x4100C
def MEM_SCRUB_CTL : Nat := 0x41010
def MEM_SHADOW_STAT : Nat := 0x41014
def MEM_JIG_CTL : Nat := 0x41020
def MEM_JIG_STAT : Nat := 0x41024
def MEM_JIG_BOOT : Nat := 0x41028
def MEM_JIG_BG : Nat := 0x4102C
def MEM_RM_THR : Nat := 0x41030
def MEM_RM_SUB (i : Nat) : Nat := 0x42000 + i * 0x4
def MBX_CH_CFG (i : Nat) : Nat := 0x80000 + i * 0x40
def MBX_POST_LO (i : Nat) : Nat := 0x80004 + i * 0x40
def MBX_POST_HI (i : Nat) : Nat := 0x80008 + i * 0x40
def MBX_POST_TAG (i : Nat) : Nat := 0x8000C + i * 0x40
def MBX_TAKEN_LO (i : Nat) : Nat := 0x80010 + i * 0x40
def MBX_TAKEN_HI (i : Nat) : Nat := 0x80014 + i * 0x40
def MBX_TAKEN_TAG (i : Nat) : Nat := 0x80018 + i * 0x40
def MBX_TAKEN_STAMP (i : Nat) : Nat := 0x8001C + i * 0x40
def MBX_RX_CTL (i : Nat) : Nat := 0x80020 + i * 0x40
def MBX_STAT (i : Nat) : Nat := 0x80024 + i * 0x40
def MBX_PAGE (i : Nat) : Nat := 0x80028 + i * 0x40
def MBX_EPOCH (i : Nat) : Nat := 0x8F000 + i * 0x4
def PE_CTL (i : Nat) : Nat := 0x100000 + i * 0x10000
def PE_STAT (i : Nat) : Nat := 0x100004 + i * 0x10000
def PE_CODE (i : Nat) : Nat := 0x100008 + i * 0x10000
def PE_DBG (i : Nat) : Nat := 0x10000C + i * 0x10000
def PE_BRK (i j : Nat) : Nat := 0x100010 + i * 0x10000 + j * 0x4
def PE_FAULT (i : Nat) : Nat := 0x100030 + i * 0x10000
def PE_FAULT_INFO (i : Nat) : Nat := 0x100034 + i * 0x10000
def PE_VNR_CTL (i : Nat) : Nat := 0x100040 + i * 0x10000
def PE_VNR_STAT (i : Nat) : Nat := 0x100044 + i * 0x10000
def PE_FORCE_ORPHAN (i : Nat) : Nat := 0x100048 + i * 0x10000
def PE_IREG (i j : Nat) : Nat := 0x100100 + i * 0x10000 + j * 0x4
def PE_QREG (i j : Nat) : Nat := 0x100140 + i * 0x10000 + j * 0x4
def PE_TCRES (i : Nat) : Nat := 0x100180 + i * 0x10000
def PE_TASK_CTL (i j : Nat) : Nat := 0x100400 + i * 0x10000 + j * 0x20
def PE_TASK_MASK (i j : Nat) : Nat := 0x100404 + i * 0x10000 + j * 0x20
def PE_TASK_WDT (i j : Nat) : Nat := 0x100408 + i * 0x10000 + j * 0x20
def PE_TASK_STAT (i j : Nat) : Nat := 0x10040C + i * 0x10000 + j * 0x20
def PE_TASK_OVR (i j : Nat) : Nat := 0x100410 + i * 0x10000 + j * 0x20
def PE_TASK_EXEC (i j : Nat) : Nat := 0x100414 + i * 0x10000 + j * 0x20
def PE_TASK_HSKIP (i j : Nat) : Nat := 0x100418 + i * 0x10000 + j * 0x20
def PE_TASK_EXMAX (i j : Nat) : Nat := 0x10041C + i * 0x10000 + j * 0x20
def LT_SLOT_SP (i j : Nat) : Nat := 0x200000 + i * 0x20000 + j * 0x100
def LT_SLOT_FB (i j : Nat) : Nat := 0x200004 + i * 0x20000 + j * 0x100
def LT_SLOT_FF (i j : Nat) : Nat := 0x200008 + i * 0x20000 + j * 0x100
def LT_SLOT_DST (i j : Nat) : Nat := 0x20000C + i * 0x20000 + j * 0x100
def LT_SLOT_TRIG (i j : Nat) : Nat := 0x200010 + i * 0x20000 + j * 0x100
def LT_SLOT_MINIV (i j : Nat) : Nat := 0x200014 + i * 0x20000 + j * 0x100
def LT_SLOT_CFG (i j : Nat) : Nat := 0x200018 + i * 0x20000 + j * 0x100
def LT_SLOT_GAIN (i j : Nat) : Nat := 0x20001C + i * 0x20000 + j * 0x100
def LT_SLOT_NUM0 (i j : Nat) : Nat := 0x200020 + i * 0x20000 + j * 0x100
def LT_SLOT_NUM1 (i j : Nat) : Nat := 0x200024 + i * 0x20000 + j * 0x100
def LT_SLOT_NUM2 (i j : Nat) : Nat := 0x200028 + i * 0x20000 + j * 0x100
def LT_SLOT_DEN1 (i j : Nat) : Nat := 0x20002C + i * 0x20000 + j * 0x100
def LT_SLOT_DEN2 (i j : Nat) : Nat := 0x200030 + i * 0x20000 + j * 0x100
def LT_SLOT_FNUM0 (i j : Nat) : Nat := 0x200034 + i * 0x20000 + j * 0x100
def LT_SLOT_FNUM1 (i j : Nat) : Nat := 0x200038 + i * 0x20000 + j * 0x100
def LT_SLOT_FDEN1 (i j : Nat) : Nat := 0x20003C + i * 0x20000 + j * 0x100
def LT_SLOT_SPSC (i j : Nat) : Nat := 0x200040 + i * 0x20000 + j * 0x100
def LT_SLOT_SPOF (i j : Nat) : Nat := 0x200044 + i * 0x20000 + j * 0x100
def LT_SLOT_FBSC (i j : Nat) : Nat := 0x200048 + i * 0x20000 + j * 0x100
def LT_SLOT_FBOF (i j : Nat) : Nat := 0x20004C + i * 0x20000 + j * 0x100
def LT_SLOT_KFF (i j : Nat) : Nat := 0x200050 + i * 0x20000 + j * 0x100
def LT_SLOT_SLO (i j : Nat) : Nat := 0x200054 + i * 0x20000 + j * 0x100
def LT_SLOT_SHI (i j : Nat) : Nat := 0x200058 + i * 0x20000 + j * 0x100
def LT_SLOT_SLEW (i j : Nat) : Nat := 0x20005C + i * 0x20000 + j * 0x100
def LT_SLOT_OSC (i j : Nat) : Nat := 0x200060 + i * 0x20000 + j * 0x100
def LT_SLOT_OOF (i j : Nat) : Nat := 0x200064 + i * 0x20000 + j * 0x100
def LT_SLOT_MAN (i j : Nat) : Nat := 0x200068 + i * 0x20000 + j * 0x100
def LT_SLOT_SUPV (i j : Nat) : Nat := 0x20006C + i * 0x20000 + j * 0x100
def LT_SLOT_FRZDB (i j : Nat) : Nat := 0x200070 + i * 0x20000 + j * 0x100
def LT_SLOT_SAFEV (i j : Nat) : Nat := 0x200074 + i * 0x20000 + j * 0x100
def LT_SLOT_RAMP (i j : Nat) : Nat := 0x200078 + i * 0x20000 + j * 0x100
def LT_SLOT_RSVD (i j : Nat) : Nat := 0x20007C + i * 0x20000 + j * 0x100
def LT_SLOT_ST1_LO (i j : Nat) : Nat := 0x200080 + i * 0x20000 + j * 0x100
def LT_SLOT_ST1_HI (i j : Nat) : Nat := 0x200084 + i * 0x20000 + j * 0x100
def LT_SLOT_ST2_LO (i j : Nat) : Nat := 0x200088 + i * 0x20000 + j * 0x100
def LT_SLOT_ST2_HI (i j : Nat) : Nat := 0x20008C + i * 0x20000 + j * 0x100
def LT_SLOT_ST3_LO (i j : Nat) : Nat := 0x200090 + i * 0x20000 + j * 0x100
def LT_SLOT_ST3_HI (i j : Nat) : Nat := 0x200094 + i * 0x20000 + j * 0x100
def LT_SLOT_YPV_LO (i j : Nat) : Nat := 0x200098 + i * 0x20000 + j * 0x100
def LT_SLOT_YPV_HI (i j : Nat) : Nat := 0x20009C + i * 0x20000 + j * 0x100
def LT_SLOT_CTL (i j : Nat) : Nat := 0x2000A0 + i * 0x20000 + j * 0x100
def LT_SLOT_STAT (i j : Nat) : Nat := 0x2000A4 + i * 0x20000 + j * 0x100
def LT_SLOT_DLY (i j : Nat) : Nat := 0x2000A8 + i * 0x20000 + j * 0x100
def LT_SLOT_HLO (i j : Nat) : Nat := 0x2000AC + i * 0x20000 + j * 0x100
def LT_SLOT_HHI (i j : Nat) : Nat := 0x2000B0 + i * 0x20000 + j * 0x100
def LT_SLOT_HSTAT (i j : Nat) : Nat := 0x2000B4 + i * 0x20000 + j * 0x100
def LT_SLOT_OVR (i j : Nat) : Nat := 0x2000B8 + i * 0x20000 + j * 0x100
def LT_SLOT_FBCNT (i j : Nat) : Nat := 0x2000BC + i * 0x20000 + j * 0x100
def LT_SLOT_FBCMD (i j : Nat) : Nat := 0x2000C0 + i * 0x20000 + j * 0x100
def LT_SLOT_HCFG (i j : Nat) : Nat := 0x2000C4 + i * 0x20000 + j * 0x100
def LT_SLOT_FRZREF (i j : Nat) : Nat := 0x2000C8 + i * 0x20000 + j * 0x100
def LT_SLOT_FBTS (i j : Nat) : Nat := 0x2000CC + i * 0x20000 + j * 0x100
def LT_CFG (i : Nat) : Nat := 0x210000 + i * 0x20000
def LT_LOAD (i : Nat) : Nat := 0x210004 + i * 0x20000
def LT_STAT (i : Nat) : Nat := 0x210008 + i * 0x20000
def LT_OVR (i : Nat) : Nat := 0x21000C + i * 0x20000
def SEQ_CTX_PROG (i : Nat) : Nat := 0x300000 + i * 0x100
def SEQ_CTX_CTL (i : Nat) : Nat := 0x300004 + i * 0x100
def SEQ_CTX_STAT (i : Nat) : Nat := 0x300008 + i * 0x100
def SEQ_CTX_MISS (i : Nat) : Nat := 0x30000C + i * 0x100
def SEQ_UNIT_CFG (i : Nat) : Nat := 0x302000 + i * 0x10
def GLU_CTL (i : Nat) : Nat := 0x340000 + i * 0x200
def GLU_T_LO (i : Nat) : Nat := 0x340004 + i * 0x200
def GLU_T_HI (i : Nat) : Nat := 0x340008 + i * 0x200
def GLU_STAT (i : Nat) : Nat := 0x34000C + i * 0x200
def GLU_MARGIN (i : Nat) : Nat := 0x340010 + i * 0x200
def GLU_PART (i j : Nat) : Nat := 0x340040 + i * 0x200 + j * 0x4
def GLU_STG_H (i j : Nat) : Nat := 0x3400C0 + i * 0x200 + j * 0x8
def GLU_STG_V (i j : Nat) : Nat := 0x3400C4 + i * 0x200 + j * 0x8
def ANA_CTL (i : Nat) : Nat := 0x380000 + i * 0x400
def ANA_STAT (i : Nat) : Nat := 0x380004 + i * 0x400
def ANA_RDUR (i : Nat) : Nat := 0x380008 + i * 0x400
def ANA_ROVR (i : Nat) : Nat := 0x38000C + i * 0x400
def ANA_ENT (i j : Nat) : Nat := 0x380040 + i * 0x400 + j * 0x4
def ANA_RES (i j : Nat) : Nat := 0x380080 + i * 0x400 + j * 0x8
def ANA_RTS (i j : Nat) : Nat := 0x380084 + i * 0x400 + j * 0x8
def ANA_ENT_STAT (i j : Nat) : Nat := 0x380100 + i * 0x400 + j * 0x4
def ANA_AO_CTL (i : Nat) : Nat := 0x384000 + i * 0x20
def ANA_AO_SAFE (i : Nat) : Nat := 0x384004 + i * 0x20
def ANA_AO_VAL (i : Nat) : Nat := 0x384008 + i * 0x20
def ANA_AO_STAT (i : Nat) : Nat := 0x38400C + i * 0x20
def POS_CTL (i : Nat) : Nat := 0x3C0000 + i * 0x80
def POS_PUB (i : Nat) : Nat := 0x3C0004 + i * 0x80
def POS_IDX (i : Nat) : Nat := 0x3C0008 + i * 0x80
def POS_IDXREF (i : Nat) : Nat := 0x3C000C + i * 0x80
def POS_IDXPER (i : Nat) : Nat := 0x3C0010 + i * 0x80
def POS_WHL (i : Nat) : Nat := 0x3C0014 + i * 0x80
def POS_AMP (i : Nat) : Nat := 0x3C0018 + i * 0x80
def POS_VEL (i : Nat) : Nat := 0x3C001C + i * 0x80
def POS_VLOW (i : Nat) : Nat := 0x3C0020 + i * 0x80
def POS_SSI (i : Nat) : Nat := 0x3C0024 + i * 0x80
def POS_SSIOFS (i : Nat) : Nat := 0x3C0028 + i * 0x80
def POS_CMD (i : Nat) : Nat := 0x3C002C + i * 0x80
def POS_STAT (i : Nat) : Nat := 0x3C0030 + i * 0x80
def POS_RAW (i : Nat) : Nat := 0x3C0034 + i * 0x80
def POS_QERR (i : Nat) : Nat := 0x3C0038 + i * 0x80
def POS_IDXDIFF (i : Nat) : Nat := 0x3C003C + i * 0x80
def POS_LATCH (i : Nat) : Nat := 0x3C0040 + i * 0x80
def DIO_DIG_CTL (i : Nat) : Nat := 0x400000 + i * 0x4
def DIO_DI_CTL (i : Nat) : Nat := 0x400100 + i * 0x4
def DIO_DI_STAT (i : Nat) : Nat := 0x400200 + i * 0x4
def DIO_LPI_STAT : Nat := 0x400300
def DIO_DQ_CTL (i : Nat) : Nat := 0x401000 + i * 0x10
def DIO_DQ_VAL (i : Nat) : Nat := 0x401004 + i * 0x10
def DIO_DQ_STAT (i : Nat) : Nat := 0x401008 + i * 0x10
def DIO_DQ_CMD (i : Nat) : Nat := 0x40100C + i * 0x10
def DIO_DQG_STAT (i : Nat) : Nat := 0x402000 + i * 0x4
def SAF_STAT : Nat := 0x440000
def SAF_SI_STAT (i : Nat) : Nat := 0x440100 + i * 0x4
def SAF_STO_STAT (i : Nat) : Nat := 0x440200 + i * 0x4
def SAF_CFG_CRC : Nat := 0x440300
def SAF_LOG_SEQ : Nat := 0x440304
def REC_CTL : Nat := 0x480000
def REC_STAT : Nat := 0x480004
def REC_RING : Nat := 0x480008
def REC_SEQ : Nat := 0x48000C
def REC_FREE : Nat := 0x480010
def REC_TRGPOS : Nat := 0x480014
def REC_PRE : Nat := 0x480018
def REC_POST : Nat := 0x48001C
def REC_TRG_CTL : Nat := 0x480020
def REC_TRG_STAT : Nat := 0x480024
def REC_COND_HND (i : Nat) : Nat := 0x480040 + i * 0x10
def REC_COND_THR (i : Nat) : Nat := 0x480044 + i * 0x10
def REC_COND_CFG (i : Nat) : Nat := 0x480048 + i * 0x10
def REC_HB_BASE_LO : Nat := 0x480100
def REC_HB_BASE_HI : Nat := 0x480104
def REC_HB_SIZE : Nat := 0x480108
def REC_HB_RD : Nat := 0x48010C
def REC_HB_WR : Nat := 0x480110
def REC_ETH_CTL : Nat := 0x480120
def REC_ETH_DMAC_LO : Nat := 0x480124
def REC_ETH_DMAC_HI : Nat := 0x480128
def REC_LOSSCNT (i : Nat) : Nat := 0x481000 + i * 0x4
def REC_ENR_HND (i : Nat) : Nat := 0x4A0000 + i * 0x10
def REC_ENR_DB (i : Nat) : Nat := 0x4A0004 + i * 0x10
def REC_ENR_CFG (i : Nat) : Nat := 0x4A0008 + i * 0x10
def EVR_CTL : Nat := 0x4C0000
def EVR_CFG : Nat := 0x4C0004
def EVR_STAT : Nat := 0x4C0008
def EVR_NEXT : Nat := 0x4C000C
def EVR_OLDEST : Nat := 0x4C0010
def EVR_LOSS : Nat := 0x4C0014
def EVR_CURSOR : Nat := 0x4C0020
def EVR_WSTAT : Nat := 0x4C0024
def EVR_WIN (i : Nat) : Nat := 0x4C0100 + i * 0x4
def EVR_LIM_CFG (i : Nat) : Nat := 0x4C1000 + i * 0x8
def EVR_LIM_STAT (i : Nat) : Nat := 0x4C1004 + i * 0x8
def EVR_LMAP (i : Nat) : Nat := 0x4C2000 + i * 0x4
def CN_CTL (i : Nat) : Nat := 0x500000 + i * 0x1000
def CN_STAT (i : Nat) : Nat := 0x500004 + i * 0x1000
def CN_BTR_N (i : Nat) : Nat := 0x500008 + i * 0x1000
def CN_BTR_D (i : Nat) : Nat := 0x50000C + i * 0x1000
def CN_ERR (i : Nat) : Nat := 0x500010 + i * 0x1000
def CN_SOFCNT (i : Nat) : Nat := 0x500018 + i * 0x1000
def CN_SNAP_CNT (i : Nat) : Nat := 0x50001C + i * 0x1000
def CN_SNAP_TS_LO (i : Nat) : Nat := 0x500020 + i * 0x1000
def CN_SNAP_TS_HI (i : Nat) : Nat := 0x500024 + i * 0x1000
def CN_LOST (i : Nat) : Nat := 0x500028 + i * 0x1000
def CN_TXCMD (i : Nat) : Nat := 0x500040 + i * 0x1000
def CN_TXSTAT (i : Nat) : Nat := 0x500044 + i * 0x1000
def CN_TXDONE_A (i : Nat) : Nat := 0x500048 + i * 0x1000
def CN_TXDONE_B (i : Nat) : Nat := 0x50004C + i * 0x1000
def CN_TXW (i j : Nat) : Nat := 0x500080 + i * 0x1000 + j * 0x4
def CN_RXW (i j : Nat) : Nat := 0x500100 + i * 0x1000 + j * 0x4
def CN_RXCMD (i : Nat) : Nat := 0x500150 + i * 0x1000
def CN_FLT_ID (i j : Nat) : Nat := 0x500200 + i * 0x1000 + j * 0x10
def CN_FLT_MASK (i j : Nat) : Nat := 0x500204 + i * 0x1000 + j * 0x10
def CN_FLT_CFG (i j : Nat) : Nat := 0x500208 + i * 0x1000 + j * 0x10
def CN_TXO_ID (i j : Nat) : Nat := 0x500400 + i * 0x1000 + j * 0x10
def CN_TXO_CFG (i j : Nat) : Nat := 0x500404 + i * 0x1000 + j * 0x10
def CN_FLD_CFG (i j : Nat) : Nat := 0x500800 + i * 0x1000 + j * 0x8
def CN_FLD_SUB (i j : Nat) : Nat := 0x500804 + i * 0x1000 + j * 0x8
def ETH_PORT_CTL (i : Nat) : Nat := 0x540000 + i * 0x40
def ETH_PORT_DLY (i : Nat) : Nat := 0x540004 + i * 0x40
def ETH_PTP_CFG : Nat := 0x541000
def ETH_STAT : Nat := 0x541004
def ETH_PTP_HOLD : Nat := 0x541008
def ETH_PAIR_CTL (i : Nat) : Nat := 0x542000 + i * 0x10
def ETH_PAIR_STAT (i : Nat) : Nat := 0x542004 + i * 0x10
def ETH_TXO_CFG (i : Nat) : Nat := 0x544000 + i * 0x20
def ETH_TXO_TPL (i : Nat) : Nat := 0x544004 + i * 0x20
def ETH_TXO_SEQ (i : Nat) : Nat := 0x544008 + i * 0x20
def ETH_RXO_MAC_LO (i : Nat) : Nat := 0x546000 + i * 0x20
def ETH_RXO_MAC_HI (i : Nat) : Nat := 0x546004 + i * 0x20
def ETH_RXO_CFG (i : Nat) : Nat := 0x546008 + i * 0x20
def ETH_FLD_CFG (i : Nat) : Nat := 0x548000 + i * 0x8
def ETH_FLD_SUB (i : Nat) : Nat := 0x548004 + i * 0x8
def TIME_CTL : Nat := 0x580000
def TIME_STAT : Nat := 0x580004
def TIME_NOW_LO : Nat := 0x580008
def TIME_NOW_HI : Nat := 0x58000C
def TIME_TOD_SEC_LO : Nat := 0x580010
def TIME_TOD_SEC_HI : Nat := 0x580014
def TIME_TOD_NS : Nat := 0x580018
def TIME_ADDEND_LO : Nat := 0x580020
def TIME_ADDEND_HI : Nat := 0x580024
def TIME_STEP_LO : Nat := 0x580028
def TIME_STEP_HI : Nat := 0x58002C
def TIME_UTC_OFS : Nat := 0x580030
def TIME_OFS_EST : Nat := 0x580034
def TIME_PPS_CTL : Nat := 0x580038
def TIME_TT_CTL (i : Nat) : Nat := 0x581000 + i * 0x20
def TIME_TT_CMP_LO (i : Nat) : Nat := 0x581004 + i * 0x20
def TIME_TT_CMP_HI (i : Nat) : Nat := 0x581008 + i * 0x20
def TIME_TT_PER (i : Nat) : Nat := 0x58100C + i * 0x20
def TIME_TT_MISS (i : Nat) : Nat := 0x581010 + i * 0x20
def TIME_CU_CTL (i : Nat) : Nat := 0x582000 + i * 0x20
def TIME_CU_STAT (i : Nat) : Nat := 0x582004 + i * 0x20
def TIME_CU_TS_LO (i : Nat) : Nat := 0x582008 + i * 0x20
def TIME_CU_TS_HI (i : Nat) : Nat := 0x58200C + i * 0x20
def PLJ_ID : Nat := 0x5C0000
def PLJ_CFG : Nat := 0x5C0004
def PLJ_STAT : Nat := 0x5C0008
def PLJ_PRESENT : Nat := 0x5C000C
def PLJ_PORT_CTL (i : Nat) : Nat := 0x5C0100 + i * 0x10
def PLJ_PORT_STAT (i : Nat) : Nat := 0x5C0104 + i * 0x10
def PLJ_PORT_ERR (i : Nat) : Nat := 0x5C0108 + i * 0x10
def PLJ_MBX_ROUTE (i : Nat) : Nat := 0x5C0200 + i * 0x4
def PLJ_SEGT_CFG (i : Nat) : Nat := 0x5D0000 + i * 0x8
def PLJ_SEGT_RHND (i : Nat) : Nat := 0x5D0004 + i * 0x8
def DUO_CFG : Nat := 0x600000
def DUO_CTL : Nat := 0x600004
def DUO_STAT : Nat := 0x600008
def DUO_EPOCH : Nat := 0x60000C
def DUO_ERRCNT : Nat := 0x600010
def DUO_GAP : Nat := 0x600014
def DUO_SWIGN : Nat := 0x600018
def DUO_MLAG : Nat := 0x60001C
def DUO_MAC_LO : Nat := 0x600020
def DUO_MAC_HI : Nat := 0x600024
def DUO_FOUT : Nat := 0x600028
def DUO_JCFG : Nat := 0x60002C
def DUO_JCH_LO : Nat := 0x600030
def DUO_JCH_HI : Nat := 0x600034
def DUO_MIRB_LO : Nat := 0x600038
def DUO_MIRB_HI : Nat := 0x60003C
def DUO_SRC (i : Nat) : Nat := 0x600100 + i * 0x4

end A

namespace F

def SYS_ID_PART : Fld := ⟨31, 16, .ro, 0x7480, [], false⟩
def SYS_ID_REV : Fld := ⟨15, 8, .ro, 0xb0, [], false⟩
def SYS_ID_VAR : Fld := ⟨3, 0, .ro, 1, [], false⟩
def SYS_UVIOL_CNT_COUNT : Fld := ⟨31, 0, .ro, 0, [], false⟩
def SYS_UVIOL_LAST_WR : Fld := ⟨31, 31, .ro, 0, [], false⟩
def SYS_UVIOL_LAST_CLR : Fld := ⟨30, 30, .wo, 0, [], false⟩
def SYS_UVIOL_LAST_OFFSET : Fld := ⟨25, 0, .ro, 0, [], false⟩
def SYS_MMAP_EN : Fld := ⟨31, 31, .own, 0, [], false⟩
def SYS_MMAP_BANK : Fld := ⟨14, 8, .own, 0, [], false⟩
def SYS_MMAP_ENG : Fld := ⟨2, 0, .own, 0, [], false⟩
def SYS_HOST_CFG_LOCK : Fld := ⟨31, 31, .w1s, 0, [], false⟩
def SYS_HOST_CFG_SPIPEN : Fld := ⟨2, 2, .rwl, 1, [], false⟩
def SYS_HOST_CFG_SPIEN : Fld := ⟨1, 1, .rwl, 1, [], false⟩
def SYS_HOST_CFG_PCIEN : Fld := ⟨0, 0, .rwl, 1, [], false⟩
def SYS_FRC_SEL_ENTRY : Fld := ⟨9, 0, .rw, 0, [], false⟩
def SYS_FRC_KEY_DATA : Fld := ⟨31, 0, .rw, 0, [], true⟩
def SYS_FRC_SYM_DATA : Fld := ⟨31, 0, .rw, 0, [], true⟩
def SYS_FRC_MASK_DATA : Fld := ⟨31, 0, .rw, 0, [], true⟩
def SYS_FRC_VAL_DATA : Fld := ⟨31, 0, .rw, 0, [], true⟩
def SYS_FRC_CTL_OP : Fld := ⟨7, 6, .wo, 0, [], true⟩
def SYS_FRC_CTL_ORPH : Fld := ⟨5, 5, .ro, 0, [], false⟩
def SYS_FRC_CTL_EN : Fld := ⟨4, 4, .ro, 0, [], false⟩
def SYS_FRC_CTL_VALID : Fld := ⟨3, 3, .rw, 1, [], false⟩
def SYS_FRC_CTL_ENG : Fld := ⟨2, 0, .rw, 0, [], false⟩
def SYS_FRC_STAT_LAST : Fld := ⟨26, 24, .ro, 0, [], false⟩
def SYS_FRC_STAT_USED : Fld := ⟨10, 0, .ro, 0, [], false⟩
def SYS_PWR_STAT_RIDES : Fld := ⟨31, 16, .ro, 0, [], false⟩
def SYS_PWR_STAT_HUPERR : Fld := ⟨7, 7, .w1c, 0, [], true⟩
def SYS_PWR_STAT_HUPRDY : Fld := ⟨6, 6, .ro, 0, [], false⟩
def SYS_PWR_STAT_RIDE : Fld := ⟨5, 5, .ro, 0, [], false⟩
def SYS_PWR_STAT_LOWB : Fld := ⟨4, 4, .ro, 0, [], false⟩
def SYS_PWR_STAT_LOWA : Fld := ⟨3, 3, .ro, 0, [], false⟩
def SYS_PWR_STAT_FEEDB : Fld := ⟨2, 2, .ro, 1, [], false⟩
def SYS_PWR_STAT_FEEDA : Fld := ⟨1, 1, .ro, 1, [], false⟩
def SYS_START_STAT_CAUSE : Fld := ⟨15, 12, .ro, 0, [], false⟩
def SYS_START_STAT_KIND : Fld := ⟨11, 8, .ro, 1, [], false⟩
def SYS_START_STAT_BOOT : Fld := ⟨7, 6, .ro, 0, [], false⟩
def SYS_START_STAT_BOOTREF : Fld := ⟨5, 5, .w1c, 0, [], true⟩
def SYS_START_STAT_SAVED : Fld := ⟨4, 4, .ro, 0, [], false⟩
def SYS_START_STAT_TYPE : Fld := ⟨2, 0, .ro, 2, [], false⟩
def SYS_START_OFF_SEC : Fld := ⟨31, 0, .ro, 0xffffffff, [], false⟩
def SYS_START_CFG_LOCK : Fld := ⟨31, 31, .w1s, 0, [], false⟩
def SYS_START_CFG_RESPOL : Fld := ⟨25, 24, .rwl, 1, [(0, 2)], false⟩
def SYS_START_CFG_SAVEBANK : Fld := ⟨22, 16, .rwl, 0x2f, [(0, 47)], false⟩
def SYS_START_CFG_MAXOFF : Fld := ⟨15, 0, .rwl, 0xe10, [(1, 65535)], false⟩
def SYS_RST_CTL_UNIT : Fld := ⟨23, 16, .own, 0, [], false⟩
def SYS_RST_CTL_KIND : Fld := ⟨2, 0, .wo, 0, [], false⟩
def AON_CAL_SEC_LO_SEC : Fld := ⟨31, 0, .own, 0, [], false⟩
def AON_CAL_SEC_HI_SEC : Fld := ⟨15, 0, .own, 0, [], false⟩
def AON_CAL_TICK_TICK : Fld := ⟨14, 0, .ro, 0, [], false⟩
def AON_CAL_STAT_VALID : Fld := ⟨0, 0, .ro, 0, [], false⟩
def SEC_LCS_STAT_TCOUNT : Fld := ⟨31, 16, .ro, 1, [], false⟩
def SEC_LCS_STAT_SVCLEFT : Fld := ⟨15, 10, .ro, 0x3f, [], false⟩
def SEC_LCS_STAT_RES : Fld := ⟨6, 4, .ro, 0, [], false⟩
def SEC_LCS_STAT_STATE : Fld := ⟨2, 0, .ro, 1, [], false⟩
def SEC_LCS_CTL_GO : Fld := ⟨31, 31, .wo, 0, [], false⟩
def SEC_LCS_CTL_TARGET : Fld := ⟨22, 20, .rw, 0, [(0, 4)], false⟩
def SEC_LCS_CTL_PAGE : Fld := ⟨13, 0, .rw, 0, [], false⟩
def SEC_KEY_CTL_GO : Fld := ⟨31, 31, .wo, 0, [], false⟩
def SEC_KEY_CTL_RES : Fld := ⟨30, 28, .ro, 0, [], false⟩
def SEC_KEY_CTL_OP : Fld := ⟨19, 18, .rw, 0, [(1, 2)], false⟩
def SEC_KEY_CTL_SLOT : Fld := ⟨17, 16, .rw, 0, [], false⟩
def SEC_KEY_CTL_PAGE : Fld := ⟨13, 0, .rw, 0, [], false⟩
def SEC_OWNKEY_REVOKED : Fld := ⟨1, 1, .ro, 0, [], false⟩
def SEC_OWNKEY_ENROLLED : Fld := ⟨0, 0, .ro, 0, [], false⟩
def SEC_ID_STAT_STATE : Fld := ⟨31, 30, .ro, 0, [], false⟩
def SEC_ID_STAT_LEFT : Fld := ⟨20, 0, .ro, 0x100000, [], false⟩
def SEC_IDX_BLK_C : Fld := ⟨14, 0, .ro, 0, [], false⟩
def SEC_MINVER_POLICY : Fld := ⟨15, 8, .ro, 0, [], false⟩
def SEC_MINVER_SYSFW : Fld := ⟨7, 0, .ro, 0, [], false⟩
def SEC_ATT_NONCE_NONCE : Fld := ⟨31, 0, .rw, 0, [], false⟩
def SEC_ATT_CTL_GO : Fld := ⟨31, 31, .wo, 0, [], false⟩
def SEC_ATT_CTL_PAGE : Fld := ⟨13, 0, .rw, 0, [], false⟩
def SEC_ATT_STAT_CAUSE : Fld := ⟨7, 4, .ro, 0, [], false⟩
def SEC_ATT_STAT_STATE : Fld := ⟨1, 0, .ro, 0, [], false⟩
def SEC_TAMP_CFG_LOCK : Fld := ⟨31, 31, .w1s, 0, [], false⟩
def SEC_TAMP_CFG_LIDEN : Fld := ⟨0, 0, .rwl, 1, [], false⟩
def SEC_TAMP_STAT_WIPED : Fld := ⟨3, 3, .w1c, 0, [], false⟩
def SEC_TAMP_STAT_TEMP : Fld := ⟨2, 2, .w1c, 0, [], false⟩
def SEC_TAMP_STAT_GLITCH : Fld := ⟨1, 1, .w1c, 0, [], false⟩
def SEC_TAMP_STAT_LID : Fld := ⟨0, 0, .w1c, 0, [], false⟩
def MEM_BANK_CTL_OWNER : Fld := ⟨15, 8, .own, 0, [], false⟩
def MEM_BANK_CTL_WIPE : Fld := ⟨7, 7, .own, 0, [], false⟩
def MEM_BANK_CTL_RELCAN : Fld := ⟨6, 6, .wo, 0, [], false⟩
def MEM_BANK_CTL_RELREQ : Fld := ⟨5, 5, .wo, 0, [], false⟩
def MEM_BANK_CTL_UWIN : Fld := ⟨3, 2, .own, 0, [], false⟩
def MEM_BANK_CTL_PWIN : Fld := ⟨1, 0, .own, 0, [], false⟩
def MEM_BANK_STAT_OWNER : Fld := ⟨15, 8, .ro, 0, [], false⟩
def MEM_BANK_STAT_FUSED : Fld := ⟨7, 6, .ro, 0, [], false⟩
def MEM_BANK_STAT_SOFT : Fld := ⟨5, 4, .ro, 0, [], false⟩
def MEM_BANK_STAT_DEGRADED : Fld := ⟨3, 3, .ro, 0, [], false⟩
def MEM_BANK_STAT_WIPING : Fld := ⟨2, 2, .ro, 0, [], false⟩
def MEM_BANK_STAT_HOREF : Fld := ⟨1, 1, .w1c, 0, [], true⟩
def MEM_BANK_STAT_REL : Fld := ⟨0, 0, .ro, 0, [], false⟩
def MEM_BANK_ERR_UE : Fld := ⟨31, 16, .ro, 0, [], false⟩
def MEM_BANK_ERR_CE : Fld := ⟨15, 0, .ro, 0, [], false⟩
def MEM_COLL_COUNT : Fld := ⟨31, 0, .ro, 0, [], false⟩
def MEM_COLL_LAST_BANK : Fld := ⟨22, 16, .ro, 0, [], false⟩
def MEM_COLL_LAST_LINE : Fld := ⟨14, 0, .ro, 0, [], false⟩
def MEM_POISON_LAST_BANK : Fld := ⟨22, 16, .ro, 0, [], false⟩
def MEM_POISON_LAST_LINE : Fld := ⟨14, 0, .ro, 0, [], false⟩
def MEM_WDENY_COUNT : Fld := ⟨31, 0, .ro, 0, [], false⟩
def MEM_SCRUB_CTL_CETHR : Fld := ⟨25, 10, .rw, 0x10, [(1, 65535)], false⟩
def MEM_SCRUB_CTL_INTERVAL : Fld := ⟨9, 0, .rw, 0x1e, [(1, 1000)], false⟩
def MEM_SHADOW_STAT_STORES : Fld := ⟨31, 0, .ro, 0, [], false⟩
def MEM_JIG_CTL_SAVE : Fld := ⟨23, 17, .rw, 0, [(48, 79)], false⟩
def MEM_JIG_CTL_BANK : Fld := ⟨14, 8, .rw, 0, [(0, 79)], false⟩
def MEM_JIG_CTL_MODE : Fld := ⟨2, 1, .rw, 0, [(0, 2)], false⟩
def MEM_JIG_CTL_GO : Fld := ⟨0, 0, .wo, 0, [], false⟩
def MEM_JIG_STAT_FAILROWS : Fld := ⟨31, 16, .ro, 0, [], false⟩
def MEM_JIG_STAT_BUSY : Fld := ⟨2, 2, .w1c, 0, [], true⟩
def MEM_JIG_STAT_DONE : Fld := ⟨1, 1, .w1c, 0, [], true⟩
def MEM_JIG_STAT_RUN : Fld := ⟨0, 0, .ro, 0, [], false⟩
def MEM_JIG_BOOT_RET : Fld := ⟨1, 1, .rw, 1, [], false⟩
def MEM_JIG_BOOT_EN : Fld := ⟨0, 0, .rw, 1, [], false⟩
def MEM_JIG_BG_GAP : Fld := ⟨17, 2, .rw, 0x3e8, [(1, 65535)], false⟩
def MEM_JIG_BG_EN : Fld := ⟨0, 0, .rw, 0, [], false⟩
def MEM_RM_THR_THR3 : Fld := ⟨31, 24, .rw, 0x20, [], false⟩
def MEM_RM_THR_THR2 : Fld := ⟨23, 16, .rw, 0x10, [], false⟩
def MEM_RM_THR_THR1 : Fld := ⟨15, 8, .rw, 4, [], false⟩
def MEM_RM_SUB_PRIO : Fld := ⟨31, 30, .rw, 0, [], false⟩
def MEM_RM_SUB_OUT : Fld := ⟨27, 14, .ro, 0, [], false⟩
def MEM_RM_SUB_QUOTA : Fld := ⟨13, 0, .rw, 0, [(0, 4096)], false⟩
def MBX_CH_CFG_EN : Fld := ⟨31, 31, .own, 0, [], false⟩
def MBX_CH_CFG_VEC : Fld := ⟨28, 24, .own, 0, [], false⟩
def MBX_CH_CFG_IRQEN : Fld := ⟨23, 23, .own, 0, [], false⟩
def MBX_CH_CFG_END1 : Fld := ⟨15, 8, .own, 0, [], false⟩
def MBX_CH_CFG_END0 : Fld := ⟨7, 0, .own, 0, [], false⟩
def MBX_POST_LO_DATA : Fld := ⟨31, 0, .rw, 0, [], false⟩
def MBX_POST_HI_DATA : Fld := ⟨31, 0, .rw, 0, [], false⟩
def MBX_POST_TAG_DATA : Fld := ⟨31, 0, .wo, 0, [], false⟩
def MBX_TAKEN_LO_DATA : Fld := ⟨31, 0, .ro, 0, [], false⟩
def MBX_TAKEN_HI_DATA : Fld := ⟨31, 0, .ro, 0, [], false⟩
def MBX_TAKEN_TAG_DATA : Fld := ⟨31, 0, .ro, 0, [], false⟩
def MBX_TAKEN_STAMP_DATA : Fld := ⟨31, 0, .ro, 0, [], false⟩
def MBX_RX_CTL_REL : Fld := ⟨1, 1, .wo, 0, [], false⟩
def MBX_RX_CTL_TAKE : Fld := ⟨0, 0, .wo, 0, [], false⟩
def MBX_STAT_PRES : Fld := ⟨31, 30, .ro, 0, [], false⟩
def MBX_STAT_ECAUSE : Fld := ⟨29, 27, .ro, 0, [], false⟩
def MBX_STAT_TXLVL : Fld := ⟨21, 17, .ro, 0, [], false⟩
def MBX_STAT_RXLVL : Fld := ⟨16, 12, .ro, 0, [], false⟩
def MBX_STAT_CFGERR : Fld := ⟨2, 2, .w1c, 0, [], true⟩
def MBX_STAT_TOK : Fld := ⟨1, 1, .ro, 0, [], false⟩
def MBX_STAT_DISCP : Fld := ⟨0, 0, .ro, 0, [], false⟩
def MBX_PAGE_ALLOC : Fld := ⟨31, 31, .wo, 0, [], false⟩
def MBX_PAGE_RES : Fld := ⟨30, 29, .ro, 0, [], false⟩
def MBX_PAGE_PAGE : Fld := ⟨13, 0, .ro, 0, [], false⟩
def MBX_EPOCH_EPOCH : Fld := ⟨7, 0, .ro, 0, [], false⟩
def PE_CTL_LOCK : Fld := ⟨2, 2, .w1s, 0, [], false⟩
def PE_CTL_REQ : Fld := ⟨1, 0, .wo, 0, [], false⟩
def PE_STAT_RUNREF : Fld := ⟨13, 13, .w1c, 0, [], true⟩
def PE_STAT_CFGERR : Fld := ⟨12, 12, .w1c, 0, [], true⟩
def PE_STAT_TASK : Fld := ⟨11, 8, .ro, 0, [], false⟩
def PE_STAT_CAUSE : Fld := ⟨7, 4, .ro, 0, [], false⟩
def PE_STAT_PEND : Fld := ⟨3, 2, .ro, 0, [], false⟩
def PE_STAT_MODE : Fld := ⟨1, 0, .ro, 0, [], false⟩
def PE_CODE_VVAL : Fld := ⟨15, 15, .own, 0, [], false⟩
def PE_CODE_VEN : Fld := ⟨14, 8, .own, 0, [], false⟩
def PE_CODE_AVAL : Fld := ⟨7, 7, .own, 0, [], false⟩
def PE_CODE_ACT : Fld := ⟨6, 0, .own, 0, [], false⟩
def PE_DBG_CYC : Fld := ⟨1, 1, .wo, 0, [], false⟩
def PE_DBG_STEP : Fld := ⟨0, 0, .wo, 0, [], false⟩
def PE_BRK_EN : Fld := ⟨31, 31, .own, 0, [], false⟩
def PE_BRK_ADDR : Fld := ⟨16, 0, .own, 0, [], false⟩
def PE_FAULT_CODE : Fld := ⟨31, 28, .ro, 0, [], false⟩
def PE_FAULT_TASK : Fld := ⟨27, 24, .ro, 0, [], false⟩
def PE_FAULT_CNT : Fld := ⟨23, 17, .ro, 0, [], false⟩
def PE_FAULT_ADDR : Fld := ⟨16, 0, .ro, 0, [], false⟩
def PE_FAULT_INFO_INFO : Fld := ⟨31, 0, .ro, 0, [], false⟩
def PE_VNR_CTL_REQ : Fld := ⟨1, 0, .wo, 0, [], false⟩
def PE_VNR_STAT_CAUSE : Fld := ⟨31, 28, .ro, 0, [], false⟩
def PE_VNR_STAT_PEND : Fld := ⟨27, 27, .ro, 0, [], false⟩
def PE_VNR_STAT_SAT : Fld := ⟨26, 26, .w1c, 0, [], true⟩
def PE_VNR_STAT_DUR : Fld := ⟨19, 0, .ro, 0, [], false⟩
def PE_FORCE_ORPHAN_COUNT : Fld := ⟨10, 0, .ro, 0, [], false⟩
def PE_IREG_EN : Fld := ⟨31, 31, .own, 0, [], false⟩
def PE_IREG_COUNT : Fld := ⟨28, 16, .own, 1, [], false⟩
def PE_IREG_BASE : Fld := ⟨11, 0, .own, 0, [], false⟩
def PE_QREG_EN : Fld := ⟨31, 31, .own, 0, [], false⟩
def PE_QREG_COUNT : Fld := ⟨28, 16, .own, 1, [], false⟩
def PE_QREG_STOPV : Fld := ⟨15, 15, .own, 0, [], false⟩
def PE_QREG_BASE : Fld := ⟨11, 0, .own, 0, [], false⟩
def PE_TCRES_CBASE : Fld := ⟨29, 24, .own, 0, [], false⟩
def PE_TCRES_CCNT : Fld := ⟨22, 16, .own, 0, [], false⟩
def PE_TCRES_TBASE : Fld := ⟨13, 8, .own, 0, [], false⟩
def PE_TCRES_TCNT : Fld := ⟨6, 0, .own, 0, [], false⟩
def PE_TASK_CTL_EN : Fld := ⟨31, 31, .own, 0, [], false⟩
def PE_TASK_CTL_KIND : Fld := ⟨30, 30, .own, 0, [], false⟩
def PE_TASK_CTL_PRIO : Fld := ⟨29, 26, .own, 0, [], false⟩
def PE_TASK_CTL_HOLDOUT : Fld := ⟨25, 25, .own, 0, [], false⟩
def PE_TASK_CTL_PRIV : Fld := ⟨24, 24, .own, 0, [], false⟩
def PE_TASK_CTL_ECLS : Fld := ⟨19, 16, .own, 0, [], false⟩
def PE_TASK_CTL_EIDX : Fld := ⟨15, 0, .own, 0, [], false⟩
def PE_TASK_MASK_QMASK : Fld := ⟨31, 16, .own, 0, [], false⟩
def PE_TASK_MASK_IMASK : Fld := ⟨15, 0, .own, 0, [], false⟩
def PE_TASK_WDT_LIMIT : Fld := ⟨31, 0, .rw, 0x2710, [(1, 10000000)], false⟩
def PE_TASK_STAT_PERR : Fld := ⟨17, 17, .w1c, 0, [], true⟩
def PE_TASK_STAT_WDF : Fld := ⟨16, 16, .w1c, 0, [], true⟩
def PE_TASK_STAT_PEND : Fld := ⟨11, 8, .ro, 0, [], false⟩
def PE_TASK_STAT_STATE : Fld := ⟨2, 0, .ro, 0, [], false⟩
def PE_TASK_OVR_COUNT : Fld := ⟨31, 0, .ro, 0, [], false⟩
def PE_TASK_EXEC_NS : Fld := ⟨31, 0, .ro, 0, [], false⟩
def PE_TASK_HSKIP_COUNT : Fld := ⟨31, 0, .ro, 0, [], false⟩
def PE_TASK_EXMAX_NS : Fld := ⟨31, 0, .ro, 0, [], false⟩
def LT_SLOT_SP_DATA : Fld := ⟨31, 0, .own, 0, [], false⟩
def LT_SLOT_FB_DATA : Fld := ⟨31, 0, .own, 0, [], false⟩
def LT_SLOT_FF_DATA : Fld := ⟨31, 0, .own, 0, [], false⟩
def LT_SLOT_DST_DATA : Fld := ⟨31, 0, .own, 0, [], false⟩
def LT_SLOT_TRIG_KIND : Fld := ⟨31, 30, .own, 0, [], false⟩
def LT_SLOT_TRIG_IDX : Fld := ⟨8, 0, .own, 0, [], false⟩
def LT_SLOT_MINIV_DATA : Fld := ⟨31, 0, .own, 0x7d0, [], false⟩
def LT_SLOT_CFG_PWMF : Fld := ⟨20, 10, .own, 1, [], false⟩
def LT_SLOT_CFG_FORM : Fld := ⟨8, 8, .own, 0, [], false⟩
def LT_SLOT_CFG_DSTFMT : Fld := ⟨7, 6, .own, 0, [], false⟩
def LT_SLOT_CFG_FFFMT : Fld := ⟨5, 4, .own, 0, [], false⟩
def LT_SLOT_CFG_FBFMT : Fld := ⟨3, 2, .own, 0, [], false⟩
def LT_SLOT_CFG_SPFMT : Fld := ⟨1, 0, .own, 0, [], false⟩
def LT_SLOT_GAIN_DATA : Fld := ⟨31, 0, .own, 0, [], false⟩
def LT_SLOT_NUM0_DATA : Fld := ⟨31, 0, .own, 0, [], false⟩
def LT_SLOT_NUM1_DATA : Fld := ⟨31, 0, .own, 0, [], false⟩
def LT_SLOT_NUM2_DATA : Fld := ⟨31, 0, .own, 0, [], false⟩
def LT_SLOT_DEN1_DATA : Fld := ⟨31, 0, .own, 0, [], false⟩
def LT_SLOT_DEN2_DATA : Fld := ⟨31, 0, .own, 0, [], false⟩
def LT_SLOT_FNUM0_DATA : Fld := ⟨31, 0, .own, 0x3f800000, [], false⟩
def LT_SLOT_FNUM1_DATA : Fld := ⟨31, 0, .own, 0, [], false⟩
def LT_SLOT_FDEN1_DATA : Fld := ⟨31, 0, .own, 0, [], false⟩
def LT_SLOT_SPSC_DATA : Fld := ⟨31, 0, .own, 0x3f800000, [], false⟩
def LT_SLOT_SPOF_DATA : Fld := ⟨31, 0, .own, 0, [], false⟩
def LT_SLOT_FBSC_DATA : Fld := ⟨31, 0, .own, 0x3f800000, [], false⟩
def LT_SLOT_FBOF_DATA : Fld := ⟨31, 0, .own, 0, [], false⟩
def LT_SLOT_KFF_DATA : Fld := ⟨31, 0, .own, 0, [], false⟩
def LT_SLOT_SLO_DATA : Fld := ⟨31, 0, .own, 0xff800000, [], false⟩
def LT_SLOT_SHI_DATA : Fld := ⟨31, 0, .own, 0x7f800000, [], false⟩
def LT_SLOT_SLEW_DATA : Fld := ⟨31, 0, .own, 0x7f800000, [], false⟩
def LT_SLOT_OSC_DATA : Fld := ⟨31, 0, .own, 0x3f800000, [], false⟩
def LT_SLOT_OOF_DATA : Fld := ⟨31, 0, .own, 0, [], false⟩
def LT_SLOT_MAN_DATA : Fld := ⟨31, 0, .own, 0, [], false⟩
def LT_SLOT_SUPV_OVRN : Fld := ⟨31, 24, .own, 3, [], false⟩
def LT_SLOT_SUPV_FRZN : Fld := ⟨23, 16, .own, 0x10, [], false⟩
def LT_SLOT_SUPV_STALEN : Fld := ⟨15, 8, .own, 3, [], false⟩
def LT_SLOT_SUPV_FRZEN : Fld := ⟨2, 2, .own, 0, [], false⟩
def LT_SLOT_SUPV_FBK : Fld := ⟨1, 0, .own, 0, [], false⟩
def LT_SLOT_FRZDB_DATA : Fld := ⟨31, 0, .own, 0, [], false⟩
def LT_SLOT_SAFEV_DATA : Fld := ⟨31, 0, .own, 0, [], false⟩
def LT_SLOT_RAMP_DATA : Fld := ⟨31, 0, .own, 0x7f800000, [], false⟩
def LT_SLOT_ST1_LO_DATA : Fld := ⟨31, 0, .own, 0, [], false⟩
def LT_SLOT_ST1_HI_DATA : Fld := ⟨31, 0, .own, 0, [], false⟩
def LT_SLOT_ST2_LO_DATA : Fld := ⟨31, 0, .own, 0, [], false⟩
def LT_SLOT_ST2_HI_DATA : Fld := ⟨31, 0, .own, 0, [], false⟩
def LT_SLOT_ST3_LO_DATA : Fld := ⟨31, 0, .own, 0, [], false⟩
def LT_SLOT_ST3_HI_DATA : Fld := ⟨31, 0, .own, 0, [], false⟩
def LT_SLOT_YPV_LO_DATA : Fld := ⟨31, 0, .own, 0, [], false⟩
def LT_SLOT_YPV_HI_DATA : Fld := ⟨31, 0, .own, 0, [], false⟩
def LT_SLOT_CTL_GLU : Fld := ⟨8, 4, .rw, 0, [], false⟩
def LT_SLOT_CTL_GLUEN : Fld := ⟨3, 3, .rw, 0, [], false⟩
def LT_SLOT_CTL_REQ : Fld := ⟨2, 0, .wo, 0, [], false⟩
def LT_SLOT_STAT_HELD : Fld := ⟨25, 25, .ro, 0, [], false⟩
def LT_SLOT_STAT_SLEWA : Fld := ⟨24, 24, .ro, 0, [], false⟩
def LT_SLOT_STAT_CLAMPL : Fld := ⟨23, 23, .ro, 0, [], false⟩
def LT_SLOT_STAT_CLAMPH : Fld := ⟨22, 22, .ro, 0, [], false⟩
def LT_SLOT_STAT_FBACT : Fld := ⟨21, 21, .ro, 0, [], false⟩
def LT_SLOT_STAT_CCLR : Fld := ⟨20, 20, .wo, 0, [], true⟩
def LT_SLOT_STAT_CAUSE : Fld := ⟨19, 16, .ro, 0, [], false⟩
def LT_SLOT_STAT_MAN : Fld := ⟨15, 15, .ro, 0, [], false⟩
def LT_SLOT_STAT_LIMERR : Fld := ⟨12, 12, .ro, 0, [], false⟩
def LT_SLOT_STAT_TERR : Fld := ⟨11, 11, .w1c, 0, [], true⟩
def LT_SLOT_STAT_PZ : Fld := ⟨10, 10, .w1c, 0, [], true⟩
def LT_SLOT_STAT_CFGERR : Fld := ⟨9, 9, .w1c, 0, [], true⟩
def LT_SLOT_STAT_ADMREF : Fld := ⟨8, 8, .w1c, 0, [], true⟩
def LT_SLOT_STAT_CWR : Fld := ⟨7, 7, .w1c, 0, [], true⟩
def LT_SLOT_STAT_WERR : Fld := ⟨6, 6, .w1c, 0, [], true⟩
def LT_SLOT_STAT_GLUW : Fld := ⟨5, 5, .ro, 0, [], false⟩
def LT_SLOT_STAT_PEND : Fld := ⟨4, 2, .ro, 0, [], false⟩
def LT_SLOT_STAT_MODE : Fld := ⟨1, 0, .ro, 0, [], false⟩
def LT_SLOT_DLY_MAX : Fld := ⟨31, 16, .ro, 0, [], false⟩
def LT_SLOT_DLY_LAST : Fld := ⟨15, 0, .ro, 0, [], false⟩
def LT_SLOT_HLO_LIM : Fld := ⟨31, 0, .own, 0xff800000, [], false⟩
def LT_SLOT_HHI_LIM : Fld := ⟨31, 0, .own, 0x7f800000, [], false⟩
def LT_SLOT_HSTAT_OVRCNT : Fld := ⟨31, 24, .ro, 0, [], false⟩
def LT_SLOT_HSTAT_FRZCNT : Fld := ⟨23, 16, .ro, 0, [], false⟩
def LT_SLOT_HSTAT_STALECNT : Fld := ⟨15, 8, .ro, 0, [], false⟩
def LT_SLOT_HSTAT_KSKIP : Fld := ⟨6, 6, .ro, 0, [], false⟩
def LT_SLOT_HSTAT_FFINV : Fld := ⟨5, 5, .ro, 0, [], false⟩
def LT_SLOT_HSTAT_SPINV : Fld := ⟨4, 4, .ro, 0, [], false⟩
def LT_SLOT_HSTAT_DLOST : Fld := ⟨3, 3, .ro, 0, [], false⟩
def LT_SLOT_HSTAT_FLOSS : Fld := ⟨2, 2, .ro, 0, [], false⟩
def LT_SLOT_HSTAT_RAMPING : Fld := ⟨1, 1, .ro, 0, [], false⟩
def LT_SLOT_OVR_COUNT : Fld := ⟨31, 0, .ro, 0, [], false⟩
def LT_SLOT_FBCNT_COUNT : Fld := ⟨31, 0, .ro, 0, [], false⟩
def LT_SLOT_FBCMD_GO : Fld := ⟨0, 0, .wo, 0, [], false⟩
def LT_SLOT_HCFG_SPLOSS : Fld := ⟨1, 1, .rw, 0, [], false⟩
def LT_SLOT_HCFG_KERFP : Fld := ⟨0, 0, .rw, 0, [], false⟩
def LT_SLOT_FRZREF_DATA : Fld := ⟨31, 0, .ro, 0, [], false⟩
def LT_SLOT_FBTS_DATA : Fld := ⟨31, 0, .ro, 0, [], false⟩
def LT_CFG_LOCK : Fld := ⟨31, 31, .w1s, 0, [], false⟩
def LT_CFG_BANK : Fld := ⟨6, 0, .own, 0, [], false⟩
def LT_LOAD_SUM : Fld := ⟨31, 0, .ro, 0, [], false⟩
def LT_STAT_CFGERR : Fld := ⟨8, 8, .w1c, 0, [], true⟩
def LT_STAT_GATED : Fld := ⟨7, 7, .ro, 0, [], false⟩
def LT_STAT_ACTIVE : Fld := ⟨6, 0, .ro, 0, [], false⟩
def LT_OVR_COUNT : Fld := ⟨31, 0, .ro, 0, [], false⟩
def SEQ_CTX_PROG_SRC : Fld := ⟨31, 31, .own, 0, [], false⟩
def SEQ_CTX_PROG_BANK : Fld := ⟨24, 18, .own, 0, [], false⟩
def SEQ_CTX_PROG_ADDR : Fld := ⟨17, 0, .own, 0, [], false⟩
def SEQ_CTX_CTL_REQ : Fld := ⟨18, 16, .wo, 0, [], false⟩
def SEQ_CTX_CTL_STEP : Fld := ⟨15, 0, .rw, 0xffff, [], false⟩
def SEQ_CTX_STAT_WIGN : Fld := ⟨11, 11, .w1c, 0, [], true⟩
def SEQ_CTX_STAT_MISS : Fld := ⟨10, 10, .w1c, 0, [], true⟩
def SEQ_CTX_STAT_CFGERR : Fld := ⟨9, 9, .w1c, 0, [], true⟩
def SEQ_CTX_STAT_LASTTR : Fld := ⟨8, 6, .ro, 0, [], false⟩
def SEQ_CTX_STAT_CAUSE : Fld := ⟨5, 2, .ro, 0, [], false⟩
def SEQ_CTX_STAT_MODE : Fld := ⟨1, 0, .ro, 0, [], false⟩
def SEQ_CTX_MISS_COUNT : Fld := ⟨31, 16, .ro, 0, [], false⟩
def SEQ_CTX_MISS_LAST : Fld := ⟨15, 0, .ro, 0, [], false⟩
def SEQ_UNIT_CFG_CFGERR : Fld := ⟨8, 8, .w1c, 0, [], false⟩
def SEQ_UNIT_CFG_BANK : Fld := ⟨6, 0, .own, 0, [], false⟩
def GLU_CTL_CMD : Fld := ⟨31, 29, .wo, 0, [], false⟩
def GLU_CTL_NSTG : Fld := ⟨28, 24, .rw, 0, [(0, 16)], false⟩
def GLU_CTL_NPART : Fld := ⟨23, 18, .rw, 0, [(0, 32)], false⟩
def GLU_CTL_RWIN : Fld := ⟨17, 8, .rw, 0xa, [(1, 1000)], false⟩
def GLU_T_LO_T : Fld := ⟨31, 0, .own, 0, [], false⟩
def GLU_T_HI_T : Fld := ⟨31, 0, .own, 0, [], false⟩
def GLU_STAT_STATE : Fld := ⟨31, 28, .ro, 0, [], false⟩
def GLU_STAT_CAUSE : Fld := ⟨27, 24, .ro, 0, [], false⟩
def GLU_STAT_OFFSYNC : Fld := ⟨23, 23, .ro, 0, [], false⟩
def GLU_STAT_LATE : Fld := ⟨22, 22, .ro, 0, [], false⟩
def GLU_STAT_COORD : Fld := ⟨21, 21, .ro, 0, [], false⟩
def GLU_STAT_CMDERR : Fld := ⟨20, 20, .w1c, 0, [], true⟩
def GLU_STAT_CSEG : Fld := ⟨12, 9, .ro, 0, [], false⟩
def GLU_STAT_CDEV : Fld := ⟨8, 4, .ro, 0, [], false⟩
def GLU_MARGIN_MARGIN : Fld := ⟨16, 0, .rw, 0x14, [(1, 100000)], false⟩
def GLU_PART_KIND : Fld := ⟨31, 28, .rw, 0, [(0, 4)], false⟩
def GLU_PART_ARM : Fld := ⟨27, 27, .ro, 0, [], false⟩
def GLU_PART_SW : Fld := ⟨26, 26, .ro, 0, [], false⟩
def GLU_PART_OFS : Fld := ⟨25, 25, .ro, 0, [], false⟩
def GLU_PART_IDX : Fld := ⟨11, 0, .rw, 0, [], false⟩
def GLU_STG_H_DATA : Fld := ⟨31, 0, .rw, 0, [], false⟩
def GLU_STG_V_DATA : Fld := ⟨31, 0, .rw, 0, [], false⟩
def ANA_CTL_CAL : Fld := ⟨15, 15, .wo, 0, [], false⟩
def ANA_CTL_NENT : Fld := ⟨14, 10, .own, 1, [], false⟩
def ANA_CTL_TT : Fld := ⟨9, 4, .own, 0, [], false⟩
def ANA_CTL_MODE : Fld := ⟨1, 0, .own, 0, [], false⟩
def ANA_STAT_RCNT : Fld := ⟨31, 20, .ro, 0, [], false⟩
def ANA_STAT_CALSKIP : Fld := ⟨7, 7, .w1c, 0, [], true⟩
def ANA_STAT_CALPEND : Fld := ⟨6, 6, .ro, 0, [], false⟩
def ANA_STAT_REFERR : Fld := ⟨5, 5, .w1c, 0, [], true⟩
def ANA_STAT_ROVR : Fld := ⟨4, 4, .w1c, 0, [], true⟩
def ANA_STAT_CFGERR : Fld := ⟨3, 3, .w1c, 0, [], true⟩
def ANA_STAT_MODE : Fld := ⟨1, 0, .ro, 0, [], false⟩
def ANA_RDUR_DATA : Fld := ⟨31, 0, .ro, 0, [], false⟩
def ANA_ROVR_DATA : Fld := ⟨31, 0, .ro, 0, [], false⟩
def ANA_ENT_FLEN : Fld := ⟨28, 20, .own, 0, [], false⟩
def ANA_ENT_FILT : Fld := ⟨19, 18, .own, 0, [], false⟩
def ANA_ENT_TS : Fld := ⟨17, 11, .own, 1, [], false⟩
def ANA_ENT_GAIN : Fld := ⟨10, 8, .own, 0, [], false⟩
def ANA_ENT_AOSEL : Fld := ⟨7, 4, .own, 0, [], false⟩
def ANA_ENT_INP : Fld := ⟨3, 0, .own, 0, [], false⟩
def ANA_RES_RCNT : Fld := ⟨31, 20, .ro, 0, [], false⟩
def ANA_RES_VALID : Fld := ⟨19, 19, .ro, 0, [], false⟩
def ANA_RES_STALE : Fld := ⟨18, 18, .ro, 0, [], false⟩
def ANA_RES_OVR : Fld := ⟨17, 17, .ro, 0, [], false⟩
def ANA_RES_KERF : Fld := ⟨16, 16, .ro, 0, [], false⟩
def ANA_RES_VALUE : Fld := ⟨15, 0, .ro, 0, [], false⟩
def ANA_RTS_TS32 : Fld := ⟨31, 0, .ro, 0, [], false⟩
def ANA_ENT_STAT_KREM : Fld := ⟨8, 0, .ro, 0, [], false⟩
def ANA_AO_CTL_HCLM : Fld := ⟨2, 2, .own, 0, [], false⟩
def ANA_AO_CTL_PFM : Fld := ⟨1, 1, .rw, 0, [], false⟩
def ANA_AO_CTL_STOPM : Fld := ⟨0, 0, .rw, 0, [], false⟩
def ANA_AO_SAFE_PFV : Fld := ⟨31, 16, .rw, 0, [], false⟩
def ANA_AO_SAFE_STOPV : Fld := ⟨15, 0, .rw, 0, [], false⟩
def ANA_AO_VAL_CODE : Fld := ⟨15, 0, .own, 0, [], false⟩
def ANA_AO_STAT_CLAIM : Fld := ⟨20, 18, .ro, 0, [], false⟩
def ANA_AO_STAT_PF : Fld := ⟨17, 17, .ro, 0, [], false⟩
def ANA_AO_STAT_STOPPED : Fld := ⟨16, 16, .ro, 0, [], false⟩
def ANA_AO_STAT_COAL : Fld := ⟨15, 15, .w1c, 0, [], true⟩
def POS_CTL_FILT : Fld := ⟨19, 16, .own, 4, [], false⟩
def POS_CTL_RESV : Fld := ⟨5, 5, .own, 0, [], false⟩
def POS_CTL_DIR : Fld := ⟨4, 4, .own, 0, [], false⟩
def POS_CTL_HYST : Fld := ⟨3, 3, .own, 1, [], false⟩
def POS_CTL_TYPE : Fld := ⟨2, 0, .own, 0, [], false⟩
def POS_PUB_SRC : Fld := ⟨31, 31, .rw, 0, [], false⟩
def POS_PUB_TT : Fld := ⟨16, 11, .rw, 0, [], false⟩
def POS_PUB_IVL : Fld := ⟨10, 0, .rw, 2, [(1, 2000)], false⟩
def POS_IDX_WIN : Fld := ⟨31, 16, .rw, 4, [], false⟩
def POS_IDX_IDXQ : Fld := ⟨5, 4, .rw, 3, [], false⟩
def POS_IDX_CORR : Fld := ⟨3, 3, .rw, 0, [], false⟩
def POS_IDX_IMODE : Fld := ⟨1, 0, .rw, 0, [(0, 2)], false⟩
def POS_IDXREF_DATA : Fld := ⟨31, 0, .rw, 0, [], false⟩
def POS_IDXPER_DATA : Fld := ⟨31, 0, .rw, 0, [], false⟩
def POS_WHL_REFK : Fld := ⟨13, 11, .rw, 1, [(1, 4)], false⟩
def POS_WHL_T : Fld := ⟨10, 0, .rw, 0x3c, [(8, 2000)], false⟩
def POS_AMP_AMPHI : Fld := ⟨31, 16, .rw, 0x3840, [], false⟩
def POS_AMP_AMPLO : Fld := ⟨15, 0, .rw, 0x9c4, [], false⟩
def POS_VEL_VZERO : Fld := ⟨31, 16, .rw, 0x64, [(1, 65535)], false⟩
def POS_VEL_VWIN : Fld := ⟨15, 0, .rw, 0x3e8, [(1, 65535)], false⟩
def POS_VLOW_SPEED : Fld := ⟨31, 0, .rw, 0x447a0000, [], false⟩
def POS_SSI_EN : Fld := ⟨31, 31, .rw, 0, [], false⟩
def POS_SSI_PORT : Fld := ⟨30, 29, .rw, 0, [], false⟩
def POS_SSI_GRAY : Fld := ⟨28, 28, .rw, 0, [], false⟩
def POS_SSI_SHIFT : Fld := ⟨27, 24, .rw, 0, [], false⟩
def POS_SSI_BITS : Fld := ⟨23, 18, .rw, 0x19, [(8, 32)], false⟩
def POS_SSI_RATE : Fld := ⟨17, 10, .rw, 0x64, [(10, 200)], false⟩
def POS_SSI_TT : Fld := ⟨5, 0, .rw, 0, [], false⟩
def POS_SSIOFS_DATA : Fld := ⟨31, 0, .rw, 0, [], false⟩
def POS_CMD_SETP : Fld := ⟨1, 1, .wo, 0, [], false⟩
def POS_CMD_CLR : Fld := ⟨0, 0, .wo, 0, [], false⟩
def POS_STAT_FCAUSE : Fld := ⟨31, 28, .ro, 0, [], false⟩
def POS_STAT_PWRGAP : Fld := ⟨11, 11, .w1c, 0, [], true⟩
def POS_STAT_HOMED : Fld := ⟨10, 10, .ro, 0, [], false⟩
def POS_STAT_VMODE : Fld := ⟨9, 9, .ro, 0, [], false⟩
def POS_STAT_CFGERR : Fld := ⟨8, 8, .w1c, 0, [], true⟩
def POS_STAT_SSIERR : Fld := ⟨7, 7, .w1c, 0, [], true⟩
def POS_STAT_IDXERR : Fld := ⟨6, 6, .w1c, 0, [], true⟩
def POS_STAT_MODE : Fld := ⟨0, 0, .ro, 0, [], false⟩
def POS_RAW_DATA : Fld := ⟨31, 0, .ro, 0, [], false⟩
def POS_QERR_DATA : Fld := ⟨31, 0, .ro, 0, [], false⟩
def POS_IDXDIFF_DATA : Fld := ⟨31, 0, .ro, 0, [], false⟩
def POS_LATCH_DATA : Fld := ⟨31, 0, .ro, 0, [], false⟩
def DIO_DIG_CTL_PER : Fld := ⟨8, 2, .own, 0xa, [], false⟩
def DIO_DIG_CTL_MODE : Fld := ⟨1, 1, .own, 0, [], false⟩
def DIO_DIG_CTL_TYPE : Fld := ⟨0, 0, .own, 0, [], false⟩
def DIO_DI_CTL_BRKEN : Fld := ⟨16, 16, .rw, 0, [], false⟩
def DIO_DI_CTL_DEB : Fld := ⟨15, 0, .rw, 0x3e8, [(1, 65535)], false⟩
def DIO_DI_STAT_BRK : Fld := ⟨4, 4, .ro, 0, [], false⟩
def DIO_DI_STAT_LPINV : Fld := ⟨3, 3, .ro, 0, [], false⟩
def DIO_DI_STAT_VALID : Fld := ⟨2, 2, .ro, 0, [], false⟩
def DIO_DI_STAT_RAW : Fld := ⟨1, 1, .ro, 0, [], false⟩
def DIO_DI_STAT_STATE : Fld := ⟨0, 0, .ro, 0, [], false⟩
def DIO_LPI_STAT_VOLT : Fld := ⟨31, 16, .ro, 0, [], false⟩
def DIO_LPI_STAT_T3INV : Fld := ⟨1, 1, .ro, 0, [], false⟩
def DIO_LPI_STAT_T1INV : Fld := ⟨0, 0, .ro, 0, [], false⟩
def DIO_DQ_CTL_PWMF : Fld := ⟨20, 10, .rw, 1, [(1, 2000)], false⟩
def DIO_DQ_CTL_PWM : Fld := ⟨9, 9, .rw, 0, [], false⟩
def DIO_DQ_CTL_HCLM : Fld := ⟨8, 8, .own, 0, [], false⟩
def DIO_DQ_CTL_OLEN : Fld := ⟨7, 7, .rw, 0, [], false⟩
def DIO_DQ_CTL_LATCH : Fld := ⟨6, 6, .rw, 0, [], false⟩
def DIO_DQ_CTL_PFM : Fld := ⟨5, 4, .rw, 0, [(0, 2)], false⟩
def DIO_DQ_CTL_STOPM : Fld := ⟨3, 2, .rw, 0, [(0, 2)], false⟩
def DIO_DQ_VAL_CMD : Fld := ⟨15, 0, .own, 0, [], false⟩
def DIO_DQ_STAT_CLAIM : Fld := ⟨10, 8, .ro, 0, [], false⟩
def DIO_DQ_STAT_PF : Fld := ⟨7, 7, .ro, 0, [], false⟩
def DIO_DQ_STAT_STOPPED : Fld := ⟨6, 6, .ro, 0, [], false⟩
def DIO_DQ_STAT_MISM : Fld := ⟨5, 5, .w1c, 0, [], true⟩
def DIO_DQ_STAT_OLOFF : Fld := ⟨4, 4, .w1c, 0, [], true⟩
def DIO_DQ_STAT_OLON : Fld := ⟨3, 3, .w1c, 0, [], true⟩
def DIO_DQ_STAT_OVT : Fld := ⟨2, 2, .ro, 0, [], false⟩
def DIO_DQ_STAT_RBV : Fld := ⟨1, 1, .ro, 0, [], false⟩
def DIO_DQ_STAT_RB : Fld := ⟨0, 0, .ro, 0, [], false⟩
def DIO_DQ_CMD_RST : Fld := ⟨0, 0, .wo, 0, [], false⟩
def DIO_DQG_STAT_VOLT : Fld := ⟨31, 16, .ro, 0, [], false⟩
def DIO_DQG_STAT_GOVL : Fld := ⟨4, 4, .w1c, 0, [], true⟩
def DIO_DQG_STAT_UNPWR : Fld := ⟨3, 3, .ro, 1, [], false⟩
def DIO_DQG_STAT_SUSP : Fld := ⟨2, 2, .ro, 1, [], false⟩
def DIO_DQG_STAT_SAG : Fld := ⟨1, 1, .ro, 1, [], false⟩
def SAF_STAT_FAILS : Fld := ⟨7, 4, .ro, 0, [], false⟩
def SAF_STAT_LOCKOUT : Fld := ⟨3, 3, .ro, 0, [], false⟩
def SAF_STAT_PWSET : Fld := ⟨2, 2, .ro, 0, [], false⟩
def SAF_STAT_IFAULT : Fld := ⟨1, 1, .ro, 0, [], false⟩
def SAF_STAT_READY : Fld := ⟨0, 0, .ro, 0, [], false⟩
def SAF_SI_STAT_ROLE : Fld := ⟨7, 6, .ro, 0, [], false⟩
def SAF_SI_STAT_SEQOK : Fld := ⟨5, 5, .ro, 0, [], false⟩
def SAF_SI_STAT_DISC : Fld := ⟨4, 4, .ro, 0, [], false⟩
def SAF_SI_STAT_DEMAND : Fld := ⟨3, 3, .ro, 0, [], false⟩
def SAF_SI_STAT_FB : Fld := ⟨1, 1, .ro, 0, [], false⟩
def SAF_SI_STAT_FA : Fld := ⟨0, 0, .ro, 0, [], false⟩
def SAF_STO_STAT_RSTW : Fld := ⟨6, 6, .ro, 1, [], false⟩
def SAF_STO_STAT_OFAULT : Fld := ⟨5, 5, .ro, 0, [], false⟩
def SAF_STO_STAT_TPLAST : Fld := ⟨4, 4, .ro, 0, [], false⟩
def SAF_STO_STAT_SCOPEN : Fld := ⟨3, 3, .ro, 1, [], false⟩
def SAF_STO_STAT_HWOPEN : Fld := ⟨2, 2, .ro, 1, [], false⟩
def SAF_STO_STAT_DEM : Fld := ⟨1, 1, .ro, 0, [], false⟩
def SAF_STO_STAT_ON : Fld := ⟨0, 0, .ro, 0, [], false⟩
def SAF_CFG_CRC_DATA : Fld := ⟨31, 0, .ro, 0, [], false⟩
def SAF_LOG_SEQ_DATA : Fld := ⟨31, 0, .ro, 0, [], false⟩
def REC_CTL_CMD : Fld := ⟨6, 4, .wo, 0, [], false⟩
def REC_CTL_SINK : Fld := ⟨2, 2, .rw, 0, [], false⟩
def REC_CTL_MODE : Fld := ⟨1, 1, .rw, 0, [], false⟩
def REC_CTL_EN : Fld := ⟨0, 0, .own, 0, [], false⟩
def REC_STAT_MLOST : Fld := ⟨8, 8, .w1c, 0, [], true⟩
def REC_STAT_CFGERR : Fld := ⟨7, 7, .w1c, 0, [], true⟩
def REC_STAT_ALLOCREF : Fld := ⟨6, 6, .w1c, 0, [], true⟩
def REC_STAT_SHORT : Fld := ⟨5, 5, .w1c, 0, [], true⟩
def REC_STAT_LOSSPEND : Fld := ⟨4, 4, .ro, 0, [], false⟩
def REC_STAT_FULL : Fld := ⟨3, 3, .ro, 0, [], false⟩
def REC_STAT_STATE : Fld := ⟨2, 0, .ro, 0, [], false⟩
def REC_RING_PAGES : Fld := ⟨12, 0, .rw, 0x1000, [(1, 4096)], false⟩
def REC_SEQ_DATA : Fld := ⟨31, 0, .ro, 0, [], false⟩
def REC_FREE_DATA : Fld := ⟨31, 0, .ro, 0, [], false⟩
def REC_TRGPOS_DATA : Fld := ⟨31, 0, .ro, 0, [], false⟩
def REC_PRE_DEPTH : Fld := ⟨19, 0, .rw, 0, [], false⟩
def REC_POST_DEPTH : Fld := ⟨19, 0, .rw, 0, [], false⟩
def REC_TRG_CTL_EDGE3 : Fld := ⟨25, 24, .rw, 0, [(0, 2)], false⟩
def REC_TRG_CTL_EDGE2 : Fld := ⟨23, 22, .rw, 0, [(0, 2)], false⟩
def REC_TRG_CTL_EDGE1 : Fld := ⟨21, 20, .rw, 0, [(0, 2)], false⟩
def REC_TRG_CTL_EDGE0 : Fld := ⟨19, 18, .rw, 0, [(0, 2)], false⟩
def REC_TRG_CTL_BUSNUM : Fld := ⟨17, 14, .rw, 0, [], false⟩
def REC_TRG_CTL_BUSOUT : Fld := ⟨13, 13, .rw, 0, [], false⟩
def REC_TRG_CTL_BUSIN : Fld := ⟨12, 12, .rw, 0, [], false⟩
def REC_TRG_CTL_COND : Fld := ⟨11, 4, .rw, 0, [], false⟩
def REC_TRG_CTL_TIN : Fld := ⟨3, 0, .rw, 0, [], false⟩
def REC_TRG_STAT_MISSED : Fld := ⟨31, 16, .ro, 0, [], false⟩
def REC_TRG_STAT_COUNT : Fld := ⟨15, 0, .ro, 0, [], false⟩
def REC_COND_HND_DATA : Fld := ⟨31, 0, .rw, 0, [], false⟩
def REC_COND_THR_DATA : Fld := ⟨31, 0, .rw, 0, [], false⟩
def REC_COND_CFG_FMT : Fld := ⟨5, 4, .rw, 0, [], false⟩
def REC_COND_CFG_OP : Fld := ⟨2, 0, .rw, 0, [(0, 3)], false⟩
def REC_HB_BASE_LO_DATA : Fld := ⟨31, 0, .own, 0, [], false⟩
def REC_HB_BASE_HI_DATA : Fld := ⟨31, 0, .own, 0, [], false⟩
def REC_HB_SIZE_DATA : Fld := ⟨15, 0, .rw, 0, [], false⟩
def REC_HB_RD_SEQ : Fld := ⟨31, 0, .own, 0, [], false⟩
def REC_HB_WR_SEQ : Fld := ⟨31, 0, .ro, 0, [], false⟩
def REC_ETH_CTL_PCP : Fld := ⟨18, 16, .rw, 0, [], false⟩
def REC_ETH_CTL_VID : Fld := ⟨15, 4, .rw, 0, [], false⟩
def REC_ETH_CTL_VLAN : Fld := ⟨3, 3, .rw, 0, [], false⟩
def REC_ETH_CTL_PORT : Fld := ⟨2, 0, .rw, 0, [], false⟩
def REC_ETH_DMAC_LO_DATA : Fld := ⟨31, 0, .own, 0, [], false⟩
def REC_ETH_DMAC_HI_DATA : Fld := ⟨15, 0, .own, 0, [], false⟩
def REC_LOSSCNT_COUNT : Fld := ⟨31, 0, .ro, 0, [], false⟩
def REC_ENR_HND_DATA : Fld := ⟨31, 0, .rw, 0, [], true⟩
def REC_ENR_DB_DATA : Fld := ⟨31, 0, .rw, 0, [], true⟩
def REC_ENR_CFG_PEND : Fld := ⟨3, 3, .ro, 0, [], false⟩
def REC_ENR_CFG_FMT : Fld := ⟨2, 1, .own, 0, [], false⟩
def REC_ENR_CFG_EN : Fld := ⟨0, 0, .own, 0, [], true⟩
def EVR_CTL_CLR : Fld := ⟨1, 1, .wo, 0, [], false⟩
def EVR_CTL_EN : Fld := ⟨0, 0, .own, 0, [], false⟩
def EVR_CFG_LOCK : Fld := ⟨31, 31, .w1s, 0, [], false⟩
def EVR_CFG_CLRPERM : Fld := ⟨30, 30, .rwl, 0, [], false⟩
def EVR_CFG_BANKB : Fld := ⟨13, 7, .rw, 0, [], false⟩
def EVR_CFG_BANKA : Fld := ⟨6, 0, .rw, 0, [], false⟩
def EVR_STAT_CLRREF : Fld := ⟨10, 10, .w1c, 0, [], true⟩
def EVR_STAT_CFGERR : Fld := ⟨9, 9, .w1c, 0, [], true⟩
def EVR_STAT_LOSSPEND : Fld := ⟨8, 8, .ro, 0, [], false⟩
def EVR_STAT_QLEVEL : Fld := ⟨6, 0, .ro, 0, [], false⟩
def EVR_NEXT_DATA : Fld := ⟨31, 0, .ro, 0, [], false⟩
def EVR_OLDEST_DATA : Fld := ⟨31, 0, .ro, 0, [], false⟩
def EVR_LOSS_DATA : Fld := ⟨31, 0, .ro, 0, [], false⟩
def EVR_CURSOR_SEQ : Fld := ⟨31, 0, .own, 0, [], false⟩
def EVR_WSTAT_MASKED : Fld := ⟨9, 9, .ro, 0, [], false⟩
def EVR_WSTAT_LEN : Fld := ⟨8, 4, .ro, 0, [], false⟩
def EVR_WSTAT_STATE : Fld := ⟨1, 0, .ro, 2, [], false⟩
def EVR_WIN_DATA : Fld := ⟨31, 0, .ro, 0, [], false⟩
def EVR_LIM_CFG_REFILL : Fld := ⟨31, 8, .own, 0x3e8, [], false⟩
def EVR_LIM_CFG_DEPTH : Fld := ⟨7, 0, .own, 8, [], false⟩
def EVR_LIM_STAT_COUNT : Fld := ⟨31, 0, .ro, 0, [], false⟩
def EVR_LMAP_LIM : Fld := ⟨8, 0, .rw, 0, [], false⟩
def CN_CTL_RETRY : Fld := ⟨13, 6, .rw, 0xff, [], false⟩
def CN_CTL_SNAP : Fld := ⟨5, 5, .wo, 0, [], false⟩
def CN_CTL_SNAPAUTO : Fld := ⟨4, 4, .rw, 0, [], false⟩
def CN_CTL_SELFRX : Fld := ⟨3, 3, .rw, 0, [], false⟩
def CN_CTL_MODE : Fld := ⟨1, 0, .own, 0, [], false⟩
def CN_STAT_DOVF : Fld := ⟨7, 7, .w1c, 0, [], true⟩
def CN_STAT_CFGERR : Fld := ⟨6, 6, .w1c, 0, [], true⟩
def CN_STAT_RECOV : Fld := ⟨5, 5, .ro, 0, [], false⟩
def CN_STAT_BOFF : Fld := ⟨4, 4, .ro, 0, [], false⟩
def CN_STAT_ALONE : Fld := ⟨3, 3, .ro, 0, [], false⟩
def CN_STAT_INTEG : Fld := ⟨2, 2, .ro, 0, [], false⟩
def CN_STAT_STATE : Fld := ⟨1, 0, .ro, 0, [], false⟩
def CN_BTR_N_BRP : Fld := ⟨31, 24, .rw, 3, [], false⟩
def CN_BTR_N_TSEG1 : Fld := ⟨23, 16, .rw, 0xf, [(1, 255)], false⟩
def CN_BTR_N_TSEG2 : Fld := ⟨15, 9, .rw, 3, [], false⟩
def CN_BTR_N_SJW : Fld := ⟨8, 2, .rw, 3, [], false⟩
def CN_BTR_D_BRP : Fld := ⟨31, 24, .rw, 3, [(0, 31)], false⟩
def CN_BTR_D_TSEG1 : Fld := ⟨23, 16, .rw, 0xf, [(0, 31)], false⟩
def CN_BTR_D_TSEG2 : Fld := ⟨15, 9, .rw, 3, [(0, 15)], false⟩
def CN_BTR_D_SJW : Fld := ⟨8, 2, .rw, 3, [], false⟩
def CN_ERR_TDCO : Fld := ⟨31, 26, .rw, 0, [], true⟩
def CN_ERR_LEC : Fld := ⟨25, 23, .ro, 0, [], false⟩
def CN_ERR_REC : Fld := ⟨22, 15, .ro, 0, [], false⟩
def CN_ERR_TEC : Fld := ⟨8, 0, .ro, 0, [], false⟩
def CN_SOFCNT_DATA : Fld := ⟨31, 0, .ro, 0, [], false⟩
def CN_SNAP_CNT_DATA : Fld := ⟨31, 0, .ro, 0, [], false⟩
def CN_SNAP_TS_LO_DATA : Fld := ⟨31, 0, .ro, 0, [], false⟩
def CN_SNAP_TS_HI_DATA : Fld := ⟨31, 0, .ro, 0, [], false⟩
def CN_LOST_TXO : Fld := ⟨31, 16, .ro, 0, [], false⟩
def CN_LOST_RX : Fld := ⟨15, 0, .ro, 0, [], false⟩
def CN_TXCMD_TAG : Fld := ⟨31, 16, .wo, 0, [], false⟩
def CN_TXCMD_RECOVER : Fld := ⟨3, 3, .wo, 0, [], true⟩
def CN_TXCMD_DPOP : Fld := ⟨2, 2, .wo, 0, [], false⟩
def CN_TXCMD_CANCEL : Fld := ⟨1, 1, .wo, 0, [], false⟩
def CN_TXCMD_PUSH : Fld := ⟨0, 0, .wo, 0, [], false⟩
def CN_TXSTAT_PRES : Fld := ⟨15, 14, .ro, 0, [], false⟩
def CN_TXSTAT_CRES : Fld := ⟨13, 12, .ro, 0, [], false⟩
def CN_TXSTAT_DLEVEL : Fld := ⟨11, 6, .ro, 0, [], false⟩
def CN_TXSTAT_LEVEL : Fld := ⟨5, 0, .ro, 0, [], false⟩
def CN_TXDONE_A_DATA : Fld := ⟨31, 0, .ro, 0, [], false⟩
def CN_TXDONE_B_DATA : Fld := ⟨31, 0, .ro, 0, [], false⟩
def CN_TXW_DATA : Fld := ⟨31, 0, .rw, 0, [], false⟩
def CN_RXW_DATA : Fld := ⟨31, 0, .ro, 0, [], false⟩
def CN_RXCMD_LEVEL : Fld := ⟨7, 1, .ro, 0, [], false⟩
def CN_RXCMD_POP : Fld := ⟨0, 0, .wo, 0, [], false⟩
def CN_FLT_ID_DATA : Fld := ⟨28, 0, .rw, 0, [], false⟩
def CN_FLT_MASK_DATA : Fld := ⟨28, 0, .rw, 0, [], false⟩
def CN_FLT_CFG_TMO : Fld := ⟨31, 16, .rw, 0, [], false⟩
def CN_FLT_CFG_ABS : Fld := ⟨4, 4, .ro, 0, [], false⟩
def CN_FLT_CFG_IDE : Fld := ⟨3, 3, .rw, 0, [], false⟩
def CN_FLT_CFG_ACT : Fld := ⟨2, 1, .rw, 0, [], false⟩
def CN_FLT_CFG_EN : Fld := ⟨0, 0, .rw, 0, [], false⟩
def CN_TXO_ID_ID : Fld := ⟨31, 0, .rw, 0, [], false⟩
def CN_TXO_CFG_EN : Fld := ⟨31, 31, .rw, 0, [], false⟩
def CN_TXO_CFG_TT : Fld := ⟨30, 25, .rw, 0, [], false⟩
def CN_TXO_CFG_STN : Fld := ⟨24, 20, .rw, 0, [], false⟩
def CN_TXO_CFG_STNEN : Fld := ⟨19, 19, .rw, 0, [], false⟩
def CN_TXO_CFG_SEQOFS : Fld := ⟨18, 13, .rw, 0, [], false⟩
def CN_TXO_CFG_SEQEN : Fld := ⟨12, 12, .rw, 0, [], false⟩
def CN_TXO_CFG_BRS : Fld := ⟨4, 4, .rw, 0, [], false⟩
def CN_TXO_CFG_DLC : Fld := ⟨3, 0, .rw, 0, [], false⟩
def CN_FLD_CFG_EN : Fld := ⟨31, 31, .rw, 0, [], false⟩
def CN_FLD_CFG_DIR : Fld := ⟨30, 30, .rw, 0, [], false⟩
def CN_FLD_CFG_SUBM : Fld := ⟨29, 29, .rw, 0, [], false⟩
def CN_FLD_CFG_OBJ : Fld := ⟨28, 24, .rw, 0, [], false⟩
def CN_FLD_CFG_BE : Fld := ⟨23, 23, .rw, 0, [], false⟩
def CN_FLD_CFG_OFS : Fld := ⟨21, 16, .rw, 0, [], false⟩
def CN_FLD_CFG_BIT : Fld := ⟨15, 13, .rw, 0, [], false⟩
def CN_FLD_CFG_FMT : Fld := ⟨12, 10, .rw, 0, [(0, 6)], false⟩
def CN_FLD_SUB_SUB : Fld := ⟨31, 0, .rw, 0, [], false⟩
def ETH_PORT_CTL_PVID : Fld := ⟨27, 16, .rw, 1, [(1, 4094)], false⟩
def ETH_PORT_CTL_PTPEN : Fld := ⟨5, 5, .rw, 0, [], false⟩
def ETH_PORT_CTL_ONESTEP : Fld := ⟨4, 4, .rw, 0, [], false⟩
def ETH_PORT_CTL_AN : Fld := ⟨3, 3, .rw, 1, [], false⟩
def ETH_PORT_CTL_MODE : Fld := ⟨2, 0, .own, 0, [], false⟩
def ETH_PORT_DLY_RXDLY : Fld := ⟨31, 16, .rw, 0, [], false⟩
def ETH_PORT_DLY_TXDLY : Fld := ⟨15, 0, .rw, 0, [], false⟩
def ETH_PTP_CFG_TRANSPORT : Fld := ⟨22, 22, .rw, 0, [], false⟩
def ETH_PTP_CFG_DOMB : Fld := ⟨21, 14, .rw, 1, [], false⟩
def ETH_PTP_CFG_DOMA : Fld := ⟨13, 6, .rw, 0, [], false⟩
def ETH_PTP_CFG_AUTOREV : Fld := ⟨5, 5, .rw, 0, [], false⟩
def ETH_PTP_CFG_DUAL : Fld := ⟨4, 4, .rw, 0, [], false⟩
def ETH_PTP_CFG_PROFILE : Fld := ⟨3, 3, .rw, 0, [], false⟩
def ETH_PTP_CFG_MECH : Fld := ⟨2, 2, .rw, 0, [], false⟩
def ETH_PTP_CFG_ROLE : Fld := ⟨1, 0, .rw, 0, [], false⟩
def ETH_STAT_HAGE : Fld := ⟨31, 16, .ro, 0, [], false⟩
def ETH_STAT_CFGERR : Fld := ⟨5, 5, .w1c, 0, [], true⟩
def ETH_STAT_HOLD : Fld := ⟨4, 4, .ro, 0, [], false⟩
def ETH_STAT_ACTB : Fld := ⟨3, 3, .ro, 0, [], false⟩
def ETH_STAT_LOCKB : Fld := ⟨2, 2, .ro, 0, [], false⟩
def ETH_STAT_LOCKA : Fld := ⟨1, 1, .ro, 0, [], false⟩
def ETH_PTP_HOLD_SLEW : Fld := ⟨31, 16, .rw, 0x64, [(1, 65535)], false⟩
def ETH_PTP_HOLD_HDRIFT : Fld := ⟨15, 0, .rw, 0x64, [(1, 65535)], false⟩
def ETH_PAIR_CTL_DDTIME : Fld := ⟨31, 16, .rw, 0x190, [(1, 65535)], false⟩
def ETH_PAIR_CTL_MODE : Fld := ⟨1, 0, .rw, 0, [(0, 2)], false⟩
def ETH_PAIR_STAT_DDOVF : Fld := ⟨31, 16, .ro, 0, [], false⟩
def ETH_PAIR_STAT_USED : Fld := ⟨10, 0, .ro, 0, [], false⟩
def ETH_TXO_CFG_EN : Fld := ⟨31, 31, .rw, 0, [], false⟩
def ETH_TXO_CFG_TT : Fld := ⟨30, 25, .rw, 0, [], false⟩
def ETH_TXO_CFG_STN : Fld := ⟨24, 19, .rw, 0, [], false⟩
def ETH_TXO_CFG_STNEN : Fld := ⟨18, 18, .rw, 0, [], false⟩
def ETH_TXO_CFG_PORT : Fld := ⟨17, 15, .rw, 0, [], false⟩
def ETH_TXO_CFG_SEQEN : Fld := ⟨14, 14, .rw, 0, [], false⟩
def ETH_TXO_TPL_LEN : Fld := ⟨31, 21, .rw, 0, [(60, 1514)], false⟩
def ETH_TXO_TPL_BANK : Fld := ⟨20, 14, .rw, 0, [], false⟩
def ETH_TXO_TPL_PAGE : Fld := ⟨13, 7, .rw, 0, [], false⟩
def ETH_TXO_SEQ_SEQ : Fld := ⟨31, 16, .ro, 0, [], false⟩
def ETH_TXO_SEQ_LOST : Fld := ⟨15, 11, .ro, 0, [], false⟩
def ETH_TXO_SEQ_SEQOFS : Fld := ⟨10, 0, .rw, 0, [], false⟩
def ETH_RXO_MAC_LO_DATA : Fld := ⟨31, 0, .own, 0, [], false⟩
def ETH_RXO_MAC_HI_DATA : Fld := ⟨31, 0, .own, 0, [], false⟩
def ETH_RXO_CFG_EN : Fld := ⟨31, 31, .rw, 0, [], false⟩
def ETH_RXO_CFG_ABS : Fld := ⟨30, 30, .ro, 0, [], false⟩
def ETH_RXO_CFG_VID : Fld := ⟨29, 18, .rw, 0, [], false⟩
def ETH_RXO_CFG_VIDEN : Fld := ⟨17, 17, .rw, 0, [], false⟩
def ETH_RXO_CFG_TMO : Fld := ⟨15, 0, .rw, 0, [], false⟩
def ETH_FLD_CFG_EN : Fld := ⟨31, 31, .rw, 0, [], false⟩
def ETH_FLD_CFG_DIR : Fld := ⟨30, 30, .rw, 0, [], false⟩
def ETH_FLD_CFG_SUBM : Fld := ⟨29, 29, .rw, 0, [], false⟩
def ETH_FLD_CFG_OBJ : Fld := ⟨28, 23, .rw, 0, [], false⟩
def ETH_FLD_CFG_BE : Fld := ⟨22, 22, .rw, 0, [], false⟩
def ETH_FLD_CFG_OFS : Fld := ⟨21, 11, .rw, 0, [(0, 1513)], false⟩
def ETH_FLD_CFG_BIT : Fld := ⟨10, 8, .rw, 0, [], false⟩
def ETH_FLD_CFG_FMT : Fld := ⟨7, 5, .rw, 0, [(0, 6)], false⟩
def ETH_FLD_SUB_SUB : Fld := ⟨31, 0, .rw, 0, [], false⟩
def TIME_CTL_SEED : Fld := ⟨3, 3, .wo, 0, [], false⟩
def TIME_CTL_SRC : Fld := ⟨2, 0, .rw, 0, [(0, 5)], false⟩
def TIME_STAT_STEPERR : Fld := ⟨2, 2, .w1c, 0, [], true⟩
def TIME_STAT_ADDERR : Fld := ⟨1, 1, .w1c, 0, [], true⟩
def TIME_STAT_OFFSYNC : Fld := ⟨0, 0, .ro, 1, [], false⟩
def TIME_NOW_LO_TS : Fld := ⟨31, 0, .ro, 0, [], false⟩
def TIME_NOW_HI_TS : Fld := ⟨31, 0, .ro, 0, [], false⟩
def TIME_TOD_SEC_LO_SEC : Fld := ⟨31, 0, .ro, 0, [], false⟩
def TIME_TOD_SEC_HI_SEC : Fld := ⟨15, 0, .ro, 0, [], false⟩
def TIME_TOD_NS_NS : Fld := ⟨29, 0, .ro, 0, [], false⟩
def TIME_ADDEND_LO_FRAC : Fld := ⟨31, 0, .own, 0, [], false⟩
def TIME_ADDEND_HI_INT : Fld := ⟨3, 0, .own, 4, [], false⟩
def TIME_STEP_LO_STEP : Fld := ⟨31, 0, .wo, 0, [], false⟩
def TIME_STEP_HI_STEP : Fld := ⟨31, 0, .wo, 0, [], false⟩
def TIME_UTC_OFS_OFS : Fld := ⟨15, 0, .rw, 0, [], true⟩
def TIME_OFS_EST_EST : Fld := ⟨31, 0, .own, 0x7fffffff, [], false⟩
def TIME_PPS_CTL_WIDTH : Fld := ⟨9, 1, .rw, 0x64, [(1, 500)], false⟩
def TIME_PPS_CTL_EN : Fld := ⟨0, 0, .rw, 0, [], false⟩
def TIME_TT_CTL_FIRED : Fld := ⟨17, 17, .w1c, 0, [], false⟩
def TIME_TT_CTL_LATE : Fld := ⟨16, 16, .w1c, 0, [], false⟩
def TIME_TT_CTL_PW : Fld := ⟨15, 8, .rw, 1, [(1, 255)], false⟩
def TIME_TT_CTL_OUTSEL : Fld := ⟨5, 4, .rw, 0, [], false⟩
def TIME_TT_CTL_OUTEN : Fld := ⟨3, 3, .rw, 0, [], false⟩
def TIME_TT_CTL_STEP : Fld := ⟨2, 2, .rw, 0, [], false⟩
def TIME_TT_CTL_MODE : Fld := ⟨1, 1, .rw, 0, [], false⟩
def TIME_TT_CTL_EN : Fld := ⟨0, 0, .rw, 0, [], false⟩
def TIME_TT_CMP_LO_CMP : Fld := ⟨31, 0, .own, 0, [], false⟩
def TIME_TT_CMP_HI_CMP : Fld := ⟨31, 0, .own, 0, [], false⟩
def TIME_TT_PER_PER : Fld := ⟨31, 0, .rw, 0xfa, [(250, 2500000000)], false⟩
def TIME_TT_MISS_MISS : Fld := ⟨31, 0, .ro, 0, [], false⟩
def TIME_CU_CTL_CLR : Fld := ⟨13, 13, .wo, 0, [], false⟩
def TIME_CU_CTL_POP : Fld := ⟨12, 12, .wo, 0, [], false⟩
def TIME_CU_CTL_NOTIFY : Fld := ⟨11, 11, .rw, 0, [], false⟩
def TIME_CU_CTL_EN : Fld := ⟨10, 10, .rw, 0, [], false⟩
def TIME_CU_CTL_EDGE : Fld := ⟨9, 8, .rw, 0, [(0, 2)], false⟩
def TIME_CU_CTL_SRC : Fld := ⟨7, 0, .rw, 0, [(0, 5), (16, 79), (80, 95), (128, 191)], false⟩
def TIME_CU_STAT_LOST : Fld := ⟨31, 16, .ro, 0, [], false⟩
def TIME_CU_STAT_HEADPOL : Fld := ⟨8, 8, .ro, 0, [], false⟩
def TIME_CU_STAT_HEADFRAC : Fld := ⟨7, 4, .ro, 0, [], false⟩
def TIME_CU_STAT_LEVEL : Fld := ⟨3, 0, .ro, 0, [], false⟩
def TIME_CU_TS_LO_TS : Fld := ⟨31, 0, .ro, 0, [], false⟩
def TIME_CU_TS_HI_TS : Fld := ⟨31, 0, .ro, 0, [], false⟩
def PLJ_ID_LOCK : Fld := ⟨31, 31, .w1s, 0, [], false⟩
def PLJ_ID_DEV : Fld := ⟨8, 4, .rwl, 0, [], true⟩
def PLJ_ID_SEG : Fld := ⟨3, 0, .rwl, 0, [], true⟩
def PLJ_CFG_GWPORT : Fld := ⟨31, 29, .rw, 0, [], false⟩
def PLJ_CFG_ROOT : Fld := ⟨28, 24, .rw, 0, [], false⟩
def PLJ_CFG_BUDGET : Fld := ⟨17, 0, .rw, 0x3e8, [(25, 250000)], false⟩
def PLJ_STAT_TLATE : Fld := ⟨31, 16, .ro, 0, [], false⟩
def PLJ_STAT_CFGERR : Fld := ⟨4, 4, .w1c, 0, [], true⟩
def PLJ_STAT_BUDERR : Fld := ⟨3, 3, .ro, 0, [], false⟩
def PLJ_STAT_BREAK : Fld := ⟨2, 2, .ro, 0, [], false⟩
def PLJ_STAT_SLOCK : Fld := ⟨0, 0, .ro, 0, [], false⟩
def PLJ_PRESENT_DEV : Fld := ⟨31, 0, .ro, 0, [], false⟩
def PLJ_PORT_CTL_ROLE : Fld := ⟨1, 0, .rw, 0, [(0, 2)], false⟩
def PLJ_PORT_STAT_DLY : Fld := ⟨31, 12, .ro, 0, [], false⟩
def PLJ_PORT_STAT_V1 : Fld := ⟨2, 2, .ro, 0, [], false⟩
def PLJ_PORT_STAT_STATE : Fld := ⟨1, 0, .ro, 0, [], false⟩
def PLJ_PORT_ERR_REPLAY : Fld := ⟨31, 20, .ro, 0, [], false⟩
def PLJ_PORT_ERR_CE : Fld := ⟨19, 8, .ro, 0, [], false⟩
def PLJ_PORT_ERR_UE : Fld := ⟨7, 0, .ro, 0, [], false⟩
def PLJ_MBX_ROUTE_EN : Fld := ⟨31, 31, .rw, 0, [], false⟩
def PLJ_MBX_ROUTE_PAY : Fld := ⟨30, 30, .rw, 0, [], false⟩
def PLJ_MBX_ROUTE_RCH : Fld := ⟨29, 24, .rw, 0, [], false⟩
def PLJ_MBX_ROUTE_ENT : Fld := ⟨11, 0, .rw, 0, [], false⟩
def PLJ_SEGT_CFG_EN : Fld := ⟨31, 31, .rw, 0, [], false⟩
def PLJ_SEGT_CFG_DIR : Fld := ⟨30, 30, .rw, 0, [], false⟩
def PLJ_SEGT_CFG_REACH : Fld := ⟨29, 29, .ro, 0, [], false⟩
def PLJ_SEGT_CFG_SEG : Fld := ⟨12, 9, .rw, 0, [], false⟩
def PLJ_SEGT_CFG_DEV : Fld := ⟨8, 4, .rw, 0, [], false⟩
def PLJ_SEGT_RHND_RHND : Fld := ⟨31, 0, .rw, 0, [], false⟩
def DUO_CFG_LOCK : Fld := ⟨31, 31, .w1s, 0, [], false⟩
def DUO_CFG_PREF : Fld := ⟨30, 30, .rwl, 0, [], false⟩
def DUO_CFG_PDEV : Fld := ⟨29, 25, .rwl, 0, [], false⟩
def DUO_CFG_CWAIT : Fld := ⟨24, 19, .rw, 0xa, [(5, 50)], false⟩
def DUO_CFG_LAG : Fld := ⟨18, 13, .rwl, 0x14, [(12, 50)], false⟩
def DUO_CFG_WPORT : Fld := ⟨12, 10, .rw, 0, [], false⟩
def DUO_CFG_PORTB : Fld := ⟨9, 8, .rwl, 1, [], false⟩
def DUO_CFG_PORTA : Fld := ⟨7, 6, .rwl, 0, [], false⟩
def DUO_CFG_WITEN : Fld := ⟨2, 2, .rw, 1, [], false⟩
def DUO_CFG_SOLOACK : Fld := ⟨1, 1, .rw, 0, [], false⟩
def DUO_CFG_EN : Fld := ⟨0, 0, .rw, 0, [], false⟩
def DUO_CTL_LEAVE : Fld := ⟨2, 2, .wo, 0, [], false⟩
def DUO_CTL_RESYNC : Fld := ⟨1, 1, .wo, 0, [], false⟩
def DUO_CTL_SWITCH : Fld := ⟨0, 0, .wo, 0, [], false⟩
def DUO_STAT_TPCT : Fld := ⟨31, 24, .ro, 0, [], false⟩
def DUO_STAT_ACKHOLD : Fld := ⟨12, 12, .ro, 0, [], false⟩
def DUO_STAT_DRY : Fld := ⟨11, 11, .ro, 0, [], false⟩
def DUO_STAT_WIT : Fld := ⟨10, 10, .ro, 0, [], false⟩
def DUO_STAT_LNKB : Fld := ⟨9, 9, .ro, 0, [], false⟩
def DUO_STAT_LNKA : Fld := ⟨8, 8, .ro, 0, [], false⟩
def DUO_STAT_CAUSE : Fld := ⟨7, 4, .ro, 0, [], false⟩
def DUO_STAT_SYNC : Fld := ⟨3, 2, .ro, 0, [], false⟩
def DUO_STAT_ROLE : Fld := ⟨1, 0, .ro, 0, [], false⟩
def DUO_EPOCH_DATA : Fld := ⟨31, 0, .ro, 0, [], false⟩
def DUO_ERRCNT_DIV : Fld := ⟨31, 24, .ro, 0, [], false⟩
def DUO_ERRCNT_LATE : Fld := ⟨23, 16, .ro, 0, [], false⟩
def DUO_ERRCNT_CTO : Fld := ⟨15, 0, .ro, 0, [], false⟩
def DUO_GAP_TKO : Fld := ⟨31, 16, .ro, 0, [], false⟩
def DUO_GAP_GAP : Fld := ⟨15, 0, .ro, 0, [], false⟩
def DUO_SWIGN_DATA : Fld := ⟨31, 0, .ro, 0, [], false⟩
def DUO_MLAG_DATA : Fld := ⟨31, 0, .ro, 0, [], false⟩
def DUO_MAC_LO_DATA : Fld := ⟨31, 0, .own, 0, [], false⟩
def DUO_MAC_HI_DATA : Fld := ⟨15, 0, .own, 0, [], false⟩
def DUO_FOUT_DATA : Fld := ⟨31, 0, .rw, 0, [], false⟩
def DUO_JCFG_JBANK : Fld := ⟨6, 0, .rw, 0, [], false⟩
def DUO_JCH_LO_MASK : Fld := ⟨31, 0, .own, 0, [], false⟩
def DUO_JCH_HI_MASK : Fld := ⟨31, 0, .own, 0, [], false⟩
def DUO_MIRB_LO_MASK : Fld := ⟨31, 0, .own, 0, [], false⟩
def DUO_MIRB_HI_MASK : Fld := ⟨15, 0, .own, 0, [], false⟩
def DUO_SRC_SEQ : Fld := ⟨31, 0, .ro, 0, [], false⟩

end F

/-! ## The register tables, one per block -/

def regsSys : List RegDesc := [
  ⟨0x0, [], true, .pwr, none, false, false, false, [F.SYS_ID_PART, F.SYS_ID_REV, F.SYS_ID_VAR]⟩,
  ⟨0x10, [], false, .dev, none, false, false, false, [F.SYS_UVIOL_CNT_COUNT]⟩,
  ⟨0x14, [], false, .dev, none, false, false, false, [F.SYS_UVIOL_LAST_WR, F.SYS_UVIOL_LAST_CLR, F.SYS_UVIOL_LAST_OFFSET]⟩,
  ⟨0x200, [(8, 4)], false, .ret, none, false, false, false, [F.SYS_MMAP_EN, F.SYS_MMAP_BANK, F.SYS_MMAP_ENG]⟩,
  ⟨0x300, [], false, .ret, (some 0x300), false, false, false, [F.SYS_HOST_CFG_LOCK, F.SYS_HOST_CFG_SPIPEN, F.SYS_HOST_CFG_SPIEN, F.SYS_HOST_CFG_PCIEN]⟩,
  ⟨0x400, [], true, .dev, none, true, false, false, [F.SYS_FRC_SEL_ENTRY]⟩,
  ⟨0x404, [], true, .dev, none, true, false, false, [F.SYS_FRC_KEY_DATA]⟩,
  ⟨0x408, [], true, .dev, none, true, false, false, [F.SYS_FRC_SYM_DATA]⟩,
  ⟨0x40C, [], true, .dev, none, true, false, false, [F.SYS_FRC_MASK_DATA]⟩,
  ⟨0x410, [], true, .dev, none, true, false, false, [F.SYS_FRC_VAL_DATA]⟩,
  ⟨0x414, [], true, .dev, none, true, false, false, [F.SYS_FRC_CTL_OP, F.SYS_FRC_CTL_ORPH, F.SYS_FRC_CTL_EN, F.SYS_FRC_CTL_VALID, F.SYS_FRC_CTL_ENG]⟩,
  ⟨0x418, [], true, .dev, none, false, false, false, [F.SYS_FRC_STAT_LAST, F.SYS_FRC_STAT_USED]⟩,
  ⟨0x500, [], true, .dev, none, false, false, false, [F.SYS_PWR_STAT_RIDES, F.SYS_PWR_STAT_HUPERR, F.SYS_PWR_STAT_HUPRDY, F.SYS_PWR_STAT_RIDE, F.SYS_PWR_STAT_LOWB, F.SYS_PWR_STAT_LOWA, F.SYS_PWR_STAT_FEEDB, F.SYS_PWR_STAT_FEEDA]⟩,
  ⟨0x504, [], true, .dev, none, false, false, false, [F.SYS_START_STAT_CAUSE, F.SYS_START_STAT_KIND, F.SYS_START_STAT_BOOT, F.SYS_START_STAT_BOOTREF, F.SYS_START_STAT_SAVED, F.SYS_START_STAT_TYPE]⟩,
  ⟨0x508, [], true, .dev, none, false, false, false, [F.SYS_START_OFF_SEC]⟩,
  ⟨0x50C, [], false, .ret, (some 0x50C), false, false, false, [F.SYS_START_CFG_LOCK, F.SYS_START_CFG_RESPOL, F.SYS_START_CFG_SAVEBANK, F.SYS_START_CFG_MAXOFF]⟩,
  ⟨0x510, [], false, .dev, none, false, false, false, [F.SYS_RST_CTL_UNIT, F.SYS_RST_CTL_KIND]⟩]

def regsAon : List RegDesc := [
  ⟨0x10100, [], false, .aon, none, false, true, false, [F.AON_CAL_SEC_LO_SEC]⟩,
  ⟨0x10104, [], false, .aon, none, false, false, false, [F.AON_CAL_SEC_HI_SEC]⟩,
  ⟨0x10108, [], false, .aon, none, false, false, false, [F.AON_CAL_TICK_TICK]⟩,
  ⟨0x1010C, [], false, .aon, none, false, false, false, [F.AON_CAL_STAT_VALID]⟩]

def regsSec : List RegDesc := [
  ⟨0x20000, [], false, .pwr, none, false, false, false, [F.SEC_LCS_STAT_TCOUNT, F.SEC_LCS_STAT_SVCLEFT, F.SEC_LCS_STAT_RES, F.SEC_LCS_STAT_STATE]⟩,
  ⟨0x20004, [], false, .dev, none, false, false, false, [F.SEC_LCS_CTL_GO, F.SEC_LCS_CTL_TARGET, F.SEC_LCS_CTL_PAGE]⟩,
  ⟨0x20008, [], false, .dev, none, false, false, false, [F.SEC_KEY_CTL_GO, F.SEC_KEY_CTL_RES, F.SEC_KEY_CTL_OP, F.SEC_KEY_CTL_SLOT, F.SEC_KEY_CTL_PAGE]⟩,
  ⟨0x20010, [(4, 4)], false, .pwr, none, false, false, false, [F.SEC_OWNKEY_REVOKED, F.SEC_OWNKEY_ENROLLED]⟩,
  ⟨0x20020, [], false, .pwr, none, false, false, false, [F.SEC_ID_STAT_STATE, F.SEC_ID_STAT_LEFT]⟩,
  ⟨0x20024, [], false, .pwr, none, false, false, false, [F.SEC_IDX_BLK_C]⟩,
  ⟨0x20028, [], false, .pwr, none, false, false, false, [F.SEC_MINVER_POLICY, F.SEC_MINVER_SYSFW]⟩,
  ⟨0x20040, [(8, 4)], false, .dev, none, false, false, false, [F.SEC_ATT_NONCE_NONCE]⟩,
  ⟨0x20060, [], false, .dev, none, false, false, false, [F.SEC_ATT_CTL_GO, F.SEC_ATT_CTL_PAGE]⟩,
  ⟨0x20064, [], false, .dev, none, false, false, false, [F.SEC_ATT_STAT_CAUSE, F.SEC_ATT_STAT_STATE]⟩,
  ⟨0x20080, [], false, .aon, (some 0x20080), false, false, false, [F.SEC_TAMP_CFG_LOCK, F.SEC_TAMP_CFG_LIDEN]⟩,
  ⟨0x20084, [], false, .aon, none, false, false, false, [F.SEC_TAMP_STAT_WIPED, F.SEC_TAMP_STAT_TEMP, F.SEC_TAMP_STAT_GLITCH, F.SEC_TAMP_STAT_LID]⟩]

def regsMem : List RegDesc := [
  ⟨0x40000, [(80, 16)], false, .ret, none, false, false, false, [F.MEM_BANK_CTL_OWNER, F.MEM_BANK_CTL_WIPE, F.MEM_BANK_CTL_RELCAN, F.MEM_BANK_CTL_RELREQ, F.MEM_BANK_CTL_UWIN, F.MEM_BANK_CTL_PWIN]⟩,
  ⟨0x40004, [(80, 16)], true, .ret, none, false, false, false, [F.MEM_BANK_STAT_OWNER, F.MEM_BANK_STAT_FUSED, F.MEM_BANK_STAT_SOFT, F.MEM_BANK_STAT_DEGRADED, F.MEM_BANK_STAT_WIPING, F.MEM_BANK_STAT_HOREF, F.MEM_BANK_STAT_REL]⟩,
  ⟨0x40008, [(80, 16)], true, .ret, none, false, false, true, [F.MEM_BANK_ERR_UE, F.MEM_BANK_ERR_CE]⟩,
  ⟨0x41000, [], true, .dev, none, false, false, false, [F.MEM_COLL_COUNT]⟩,
  ⟨0x41004, [], false, .dev, none, false, false, false, [F.MEM_COLL_LAST_BANK, F.MEM_COLL_LAST_LINE]⟩,
  ⟨0x41008, [], false, .dev, none, false, false, false, [F.MEM_POISON_LAST_BANK, F.MEM_POISON_LAST_LINE]⟩,
  ⟨0x4100C, [], false, .dev, none, false, false, false, [F.MEM_WDENY_COUNT]⟩,
  ⟨0x41010, [], false, .ret, none, false, false, false, [F.MEM_SCRUB_CTL_CETHR, F.MEM_SCRUB_CTL_INTERVAL]⟩,
  ⟨0x41014, [], true, .aon, none, false, false, false, [F.MEM_SHADOW_STAT_STORES]⟩,
  ⟨0x41020, [], false, .dev, none, false, false, false, [F.MEM_JIG_CTL_SAVE, F.MEM_JIG_CTL_BANK, F.MEM_JIG_CTL_MODE, F.MEM_JIG_CTL_GO]⟩,
  ⟨0x41024, [], true, .dev, none, false, false, false, [F.MEM_JIG_STAT_FAILROWS, F.MEM_JIG_STAT_BUSY, F.MEM_JIG_STAT_DONE, F.MEM_JIG_STAT_RUN]⟩,
  ⟨0x41028, [], false, .ret, none, false, false, false, [F.MEM_JIG_BOOT_RET, F.MEM_JIG_BOOT_EN]⟩,
  ⟨0x4102C, [], false, .ret, none, false, false, false, [F.MEM_JIG_BG_GAP, F.MEM_JIG_BG_EN]⟩,
  ⟨0x41030, [], false, .ret, none, false, false, false, [F.MEM_RM_THR_THR3, F.MEM_RM_THR_THR2, F.MEM_RM_THR_THR1]⟩,
  ⟨0x42000, [(81, 4)], false, .ret, none, false, false, false, [F.MEM_RM_SUB_PRIO, F.MEM_RM_SUB_OUT, F.MEM_RM_SUB_QUOTA]⟩]

def regsMbx : List RegDesc := [
  ⟨0x80000, [(64, 64)], false, .ret, none, false, false, false, [F.MBX_CH_CFG_EN, F.MBX_CH_CFG_VEC, F.MBX_CH_CFG_IRQEN, F.MBX_CH_CFG_END1, F.MBX_CH_CFG_END0]⟩,
  ⟨0x80004, [(64, 64)], true, .dev, none, true, false, false, [F.MBX_POST_LO_DATA]⟩,
  ⟨0x80008, [(64, 64)], true, .dev, none, true, false, false, [F.MBX_POST_HI_DATA]⟩,
  ⟨0x8000C, [(64, 64)], true, .dev, none, true, false, false, [F.MBX_POST_TAG_DATA]⟩,
  ⟨0x80010, [(64, 64)], true, .ret, none, true, true, false, [F.MBX_TAKEN_LO_DATA]⟩,
  ⟨0x80014, [(64, 64)], true, .ret, none, true, false, false, [F.MBX_TAKEN_HI_DATA]⟩,
  ⟨0x80018, [(64, 64)], true, .ret, none, true, false, false, [F.MBX_TAKEN_TAG_DATA]⟩,
  ⟨0x8001C, [(64, 64)], true, .ret, none, true, false, false, [F.MBX_TAKEN_STAMP_DATA]⟩,
  ⟨0x80020, [(64, 64)], true, .dev, none, false, false, false, [F.MBX_RX_CTL_REL, F.MBX_RX_CTL_TAKE]⟩,
  ⟨0x80024, [(64, 64)], true, .ret, none, true, false, false, [F.MBX_STAT_PRES, F.MBX_STAT_ECAUSE, F.MBX_STAT_TXLVL, F.MBX_STAT_RXLVL, F.MBX_STAT_CFGERR, F.MBX_STAT_TOK, F.MBX_STAT_DISCP]⟩,
  ⟨0x80028, [(64, 64)], true, .dev, none, true, false, false, [F.MBX_PAGE_ALLOC, F.MBX_PAGE_RES, F.MBX_PAGE_PAGE]⟩,
  ⟨0x8F000, [(256, 4)], true, .ret, none, false, false, false, [F.MBX_EPOCH_EPOCH]⟩]

def regsPe : List RegDesc := [
  ⟨0x100000, [(8, 65536)], false, .dev, none, false, false, false, [F.PE_CTL_LOCK, F.PE_CTL_REQ]⟩,
  ⟨0x100004, [(8, 65536)], true, .ret, none, false, false, false, [F.PE_STAT_RUNREF, F.PE_STAT_CFGERR, F.PE_STAT_TASK, F.PE_STAT_CAUSE, F.PE_STAT_PEND, F.PE_STAT_MODE]⟩,
  ⟨0x100008, [(8, 65536)], false, .ret, none, false, false, false, [F.PE_CODE_VVAL, F.PE_CODE_VEN, F.PE_CODE_AVAL, F.PE_CODE_ACT]⟩,
  ⟨0x10000C, [(8, 65536)], false, .dev, none, false, false, false, [F.PE_DBG_CYC, F.PE_DBG_STEP]⟩,
  ⟨0x100010, [(8, 65536), (8, 4)], false, .dev, none, false, false, false, [F.PE_BRK_EN, F.PE_BRK_ADDR]⟩,
  ⟨0x100030, [(8, 65536)], true, .ret, none, false, false, true, [F.PE_FAULT_CODE, F.PE_FAULT_TASK, F.PE_FAULT_CNT, F.PE_FAULT_ADDR]⟩,
  ⟨0x100034, [(8, 65536)], true, .ret, none, false, false, false, [F.PE_FAULT_INFO_INFO]⟩,
  ⟨0x100040, [(8, 65536)], false, .dev, none, false, false, false, [F.PE_VNR_CTL_REQ]⟩,
  ⟨0x100044, [(8, 65536)], true, .ret, none, false, false, false, [F.PE_VNR_STAT_CAUSE, F.PE_VNR_STAT_PEND, F.PE_VNR_STAT_SAT, F.PE_VNR_STAT_DUR]⟩,
  ⟨0x100048, [(8, 65536)], true, .ret, none, false, false, false, [F.PE_FORCE_ORPHAN_COUNT]⟩,
  ⟨0x100100, [(8, 65536), (16, 4)], false, .ret, none, false, false, false, [F.PE_IREG_EN, F.PE_IREG_COUNT, F.PE_IREG_BASE]⟩,
  ⟨0x100140, [(8, 65536), (16, 4)], false, .ret, none, false, false, false, [F.PE_QREG_EN, F.PE_QREG_COUNT, F.PE_QREG_STOPV, F.PE_QREG_BASE]⟩,
  ⟨0x100180, [(8, 65536)], false, .ret, none, false, false, false, [F.PE_TCRES_CBASE, F.PE_TCRES_CCNT, F.PE_TCRES_TBASE, F.PE_TCRES_TCNT]⟩,
  ⟨0x100400, [(8, 65536), (16, 32)], false, .ret, (some 0x100000), false, false, false, [F.PE_TASK_CTL_EN, F.PE_TASK_CTL_KIND, F.PE_TASK_CTL_PRIO, F.PE_TASK_CTL_HOLDOUT, F.PE_TASK_CTL_PRIV, F.PE_TASK_CTL_ECLS, F.PE_TASK_CTL_EIDX]⟩,
  ⟨0x100404, [(8, 65536), (16, 32)], false, .ret, none, false, false, false, [F.PE_TASK_MASK_QMASK, F.PE_TASK_MASK_IMASK]⟩,
  ⟨0x100408, [(8, 65536), (16, 32)], false, .ret, none, false, false, false, [F.PE_TASK_WDT_LIMIT]⟩,
  ⟨0x10040C, [(8, 65536), (16, 32)], true, .ret, none, false, false, false, [F.PE_TASK_STAT_PERR, F.PE_TASK_STAT_WDF, F.PE_TASK_STAT_PEND, F.PE_TASK_STAT_STATE]⟩,
  ⟨0x100410, [(8, 65536), (16, 32)], true, .ret, none, false, false, true, [F.PE_TASK_OVR_COUNT]⟩,
  ⟨0x100414, [(8, 65536), (16, 32)], true, .dev, none, false, false, false, [F.PE_TASK_EXEC_NS]⟩,
  ⟨0x100418, [(8, 65536), (16, 32)], true, .ret, none, false, false, true, [F.PE_TASK_HSKIP_COUNT]⟩,
  ⟨0x10041C, [(8, 65536), (16, 32)], true, .dev, none, false, false, true, [F.PE_TASK_EXMAX_NS]⟩]

def regsLt0 : List RegDesc := [
  ⟨0x200000, [(8, 131072), (64, 256)], false, .ret, none, false, false, false, [F.LT_SLOT_SP_DATA]⟩,
  ⟨0x200004, [(8, 131072), (64, 256)], false, .ret, none, false, false, false, [F.LT_SLOT_FB_DATA]⟩,
  ⟨0x200008, [(8, 131072), (64, 256)], false, .ret, none, false, false, false, [F.LT_SLOT_FF_DATA]⟩,
  ⟨0x20000C, [(8, 131072), (64, 256)], false, .ret, none, false, false, false, [F.LT_SLOT_DST_DATA]⟩,
  ⟨0x200010, [(8, 131072), (64, 256)], false, .ret, none, false, false, false, [F.LT_SLOT_TRIG_KIND, F.LT_SLOT_TRIG_IDX]⟩,
  ⟨0x200014, [(8, 131072), (64, 256)], false, .ret, none, false, false, false, [F.LT_SLOT_MINIV_DATA]⟩,
  ⟨0x200018, [(8, 131072), (64, 256)], false, .ret, none, false, false, false, [F.LT_SLOT_CFG_PWMF, F.LT_SLOT_CFG_FORM, F.LT_SLOT_CFG_DSTFMT, F.LT_SLOT_CFG_FFFMT, F.LT_SLOT_CFG_FBFMT, F.LT_SLOT_CFG_SPFMT]⟩,
  ⟨0x20001C, [(8, 131072), (64, 256)], true, .ret, none, false, false, false, [F.LT_SLOT_GAIN_DATA]⟩,
  ⟨0x200020, [(8, 131072), (64, 256)], true, .ret, none, false, false, false, [F.LT_SLOT_NUM0_DATA]⟩,
  ⟨0x200024, [(8, 131072), (64, 256)], true, .ret, none, false, false, false, [F.LT_SLOT_NUM1_DATA]⟩,
  ⟨0x200028, [(8, 131072), (64, 256)], true, .ret, none, false, false, false, [F.LT_SLOT_NUM2_DATA]⟩,
  ⟨0x20002C, [(8, 131072), (64, 256)], true, .ret, none, false, false, false, [F.LT_SLOT_DEN1_DATA]⟩,
  ⟨0x200030, [(8, 131072), (64, 256)], true, .ret, none, false, false, false, [F.LT_SLOT_DEN2_DATA]⟩,
  ⟨0x200034, [(8, 131072), (64, 256)], true, .ret, none, false, false, false, [F.LT_SLOT_FNUM0_DATA]⟩,
  ⟨0x200038, [(8, 131072), (64, 256)], true, .ret, none, false, false, false, [F.LT_SLOT_FNUM1_DATA]⟩,
  ⟨0x20003C, [(8, 131072), (64, 256)], true, .ret, none, false, false, false, [F.LT_SLOT_FDEN1_DATA]⟩,
  ⟨0x200040, [(8, 131072), (64, 256)], true, .ret, none, false, false, false, [F.LT_SLOT_SPSC_DATA]⟩,
  ⟨0x200044, [(8, 131072), (64, 256)], true, .ret, none, false, false, false, [F.LT_SLOT_SPOF_DATA]⟩,
  ⟨0x200048, [(8, 131072), (64, 256)], true, .ret, none, false, false, false, [F.LT_SLOT_FBSC_DATA]⟩,
  ⟨0x20004C, [(8, 131072), (64, 256)], true, .ret, none, false, false, false, [F.LT_SLOT_FBOF_DATA]⟩,
  ⟨0x200050, [(8, 131072), (64, 256)], true, .ret, none, false, false, false, [F.LT_SLOT_KFF_DATA]⟩,
  ⟨0x200054, [(8, 131072), (64, 256)], true, .ret, none, false, false, false, [F.LT_SLOT_SLO_DATA]⟩,
  ⟨0x200058, [(8, 131072), (64, 256)], true, .ret, none, false, false, false, [F.LT_SLOT_SHI_DATA]⟩,
  ⟨0x20005C, [(8, 131072), (64, 256)], true, .ret, none, false, false, false, [F.LT_SLOT_SLEW_DATA]⟩,
  ⟨0x200060, [(8, 131072), (64, 256)], true, .ret, none, false, false, false, [F.LT_SLOT_OSC_DATA]⟩]

def regsLt1 : List RegDesc := [
  ⟨0x200064, [(8, 131072), (64, 256)], true, .ret, none, false, false, false, [F.LT_SLOT_OOF_DATA]⟩,
  ⟨0x200068, [(8, 131072), (64, 256)], true, .ret, none, false, false, false, [F.LT_SLOT_MAN_DATA]⟩,
  ⟨0x20006C, [(8, 131072), (64, 256)], false, .ret, none, false, false, false, [F.LT_SLOT_SUPV_OVRN, F.LT_SLOT_SUPV_FRZN, F.LT_SLOT_SUPV_STALEN, F.LT_SLOT_SUPV_FRZEN, F.LT_SLOT_SUPV_FBK]⟩,
  ⟨0x200070, [(8, 131072), (64, 256)], false, .ret, none, false, false, false, [F.LT_SLOT_FRZDB_DATA]⟩,
  ⟨0x200074, [(8, 131072), (64, 256)], false, .ret, none, false, false, false, [F.LT_SLOT_SAFEV_DATA]⟩,
  ⟨0x200078, [(8, 131072), (64, 256)], false, .ret, none, false, false, false, [F.LT_SLOT_RAMP_DATA]⟩,
  ⟨0x20007C, [(8, 131072), (64, 256)], false, .ret, none, false, false, false, []⟩,
  ⟨0x200080, [(8, 131072), (64, 256)], true, .ret, none, false, true, false, [F.LT_SLOT_ST1_LO_DATA]⟩,
  ⟨0x200084, [(8, 131072), (64, 256)], true, .ret, none, false, false, false, [F.LT_SLOT_ST1_HI_DATA]⟩,
  ⟨0x200088, [(8, 131072), (64, 256)], true, .ret, none, false, true, false, [F.LT_SLOT_ST2_LO_DATA]⟩,
  ⟨0x20008C, [(8, 131072), (64, 256)], true, .ret, none, false, false, false, [F.LT_SLOT_ST2_HI_DATA]⟩,
  ⟨0x200090, [(8, 131072), (64, 256)], true, .ret, none, false, true, false, [F.LT_SLOT_ST3_LO_DATA]⟩,
  ⟨0x200094, [(8, 131072), (64, 256)], true, .ret, none, false, false, false, [F.LT_SLOT_ST3_HI_DATA]⟩,
  ⟨0x200098, [(8, 131072), (64, 256)], true, .ret, none, false, true, false, [F.LT_SLOT_YPV_LO_DATA]⟩,
  ⟨0x20009C, [(8, 131072), (64, 256)], true, .ret, none, false, false, false, [F.LT_SLOT_YPV_HI_DATA]⟩,
  ⟨0x2000A0, [(8, 131072), (64, 256)], true, .dev, none, false, false, false, [F.LT_SLOT_CTL_GLU, F.LT_SLOT_CTL_GLUEN, F.LT_SLOT_CTL_REQ]⟩,
  ⟨0x2000A4, [(8, 131072), (64, 256)], true, .ret, none, false, false, false, [F.LT_SLOT_STAT_HELD, F.LT_SLOT_STAT_SLEWA, F.LT_SLOT_STAT_CLAMPL, F.LT_SLOT_STAT_CLAMPH, F.LT_SLOT_STAT_FBACT, F.LT_SLOT_STAT_CCLR, F.LT_SLOT_STAT_CAUSE, F.LT_SLOT_STAT_MAN, F.LT_SLOT_STAT_LIMERR, F.LT_SLOT_STAT_TERR, F.LT_SLOT_STAT_PZ, F.LT_SLOT_STAT_CFGERR, F.LT_SLOT_STAT_ADMREF, F.LT_SLOT_STAT_CWR, F.LT_SLOT_STAT_WERR, F.LT_SLOT_STAT_GLUW, F.LT_SLOT_STAT_PEND, F.LT_SLOT_STAT_MODE]⟩,
  ⟨0x2000A8, [(8, 131072), (64, 256)], true, .dev, none, false, false, true, [F.LT_SLOT_DLY_MAX, F.LT_SLOT_DLY_LAST]⟩,
  ⟨0x2000AC, [(8, 131072), (64, 256)], false, .ret, (some 0x210000), false, false, false, [F.LT_SLOT_HLO_LIM]⟩,
  ⟨0x2000B0, [(8, 131072), (64, 256)], false, .ret, (some 0x210000), false, false, false, [F.LT_SLOT_HHI_LIM]⟩,
  ⟨0x2000B4, [(8, 131072), (64, 256)], true, .ret, none, false, false, false, [F.LT_SLOT_HSTAT_OVRCNT, F.LT_SLOT_HSTAT_FRZCNT, F.LT_SLOT_HSTAT_STALECNT, F.LT_SLOT_HSTAT_KSKIP, F.LT_SLOT_HSTAT_FFINV, F.LT_SLOT_HSTAT_SPINV, F.LT_SLOT_HSTAT_DLOST, F.LT_SLOT_HSTAT_FLOSS, F.LT_SLOT_HSTAT_RAMPING]⟩,
  ⟨0x2000B8, [(8, 131072), (64, 256)], true, .ret, none, false, false, true, [F.LT_SLOT_OVR_COUNT]⟩,
  ⟨0x2000BC, [(8, 131072), (64, 256)], true, .ret, none, false, false, true, [F.LT_SLOT_FBCNT_COUNT]⟩,
  ⟨0x2000C0, [(8, 131072), (64, 256)], false, .dev, none, false, false, false, [F.LT_SLOT_FBCMD_GO]⟩,
  ⟨0x2000C4, [(8, 131072), (64, 256)], false, .ret, none, false, false, false, [F.LT_SLOT_HCFG_SPLOSS, F.LT_SLOT_HCFG_KERFP]⟩]

def regsLt2 : List RegDesc := [
  ⟨0x2000C8, [(8, 131072), (64, 256)], true, .ret, none, false, false, false, [F.LT_SLOT_FRZREF_DATA]⟩,
  ⟨0x2000CC, [(8, 131072), (64, 256)], true, .ret, none, false, false, false, [F.LT_SLOT_FBTS_DATA]⟩,
  ⟨0x210000, [(8, 131072)], false, .ret, none, false, false, false, [F.LT_CFG_LOCK, F.LT_CFG_BANK]⟩,
  ⟨0x210004, [(8, 131072)], true, .ret, none, false, false, false, [F.LT_LOAD_SUM]⟩,
  ⟨0x210008, [(8, 131072)], true, .dev, none, false, false, false, [F.LT_STAT_CFGERR, F.LT_STAT_GATED, F.LT_STAT_ACTIVE]⟩,
  ⟨0x21000C, [(8, 131072)], true, .ret, none, false, false, true, [F.LT_OVR_COUNT]⟩]

def regsLt : List RegDesc := regsLt0 ++ regsLt1 ++ regsLt2

def regsSeq : List RegDesc := [
  ⟨0x300000, [(16, 256)], false, .ret, none, false, false, false, [F.SEQ_CTX_PROG_SRC, F.SEQ_CTX_PROG_BANK, F.SEQ_CTX_PROG_ADDR]⟩,
  ⟨0x300004, [(16, 256)], true, .dev, none, false, false, false, [F.SEQ_CTX_CTL_REQ, F.SEQ_CTX_CTL_STEP]⟩,
  ⟨0x300008, [(16, 256)], true, .ret, none, false, false, false, [F.SEQ_CTX_STAT_WIGN, F.SEQ_CTX_STAT_MISS, F.SEQ_CTX_STAT_CFGERR, F.SEQ_CTX_STAT_LASTTR, F.SEQ_CTX_STAT_CAUSE, F.SEQ_CTX_STAT_MODE]⟩,
  ⟨0x30000C, [(16, 256)], true, .ret, none, false, false, true, [F.SEQ_CTX_MISS_COUNT, F.SEQ_CTX_MISS_LAST]⟩,
  ⟨0x302000, [(2, 16)], false, .ret, none, false, false, false, [F.SEQ_UNIT_CFG_CFGERR, F.SEQ_UNIT_CFG_BANK]⟩]

def regsGlu : List RegDesc := [
  ⟨0x340000, [(32, 512)], true, .ret, none, false, false, false, [F.GLU_CTL_CMD, F.GLU_CTL_NSTG, F.GLU_CTL_NPART, F.GLU_CTL_RWIN]⟩,
  ⟨0x340004, [(32, 512)], true, .ret, none, false, true, false, [F.GLU_T_LO_T]⟩,
  ⟨0x340008, [(32, 512)], true, .ret, none, false, false, false, [F.GLU_T_HI_T]⟩,
  ⟨0x34000C, [(32, 512)], true, .ret, none, false, false, false, [F.GLU_STAT_STATE, F.GLU_STAT_CAUSE, F.GLU_STAT_OFFSYNC, F.GLU_STAT_LATE, F.GLU_STAT_COORD, F.GLU_STAT_CMDERR, F.GLU_STAT_CSEG, F.GLU_STAT_CDEV]⟩,
  ⟨0x340010, [(32, 512)], true, .ret, none, false, false, false, [F.GLU_MARGIN_MARGIN]⟩,
  ⟨0x340040, [(32, 512), (32, 4)], true, .ret, none, false, false, false, [F.GLU_PART_KIND, F.GLU_PART_ARM, F.GLU_PART_SW, F.GLU_PART_OFS, F.GLU_PART_IDX]⟩,
  ⟨0x3400C0, [(32, 512), (16, 8)], true, .ret, none, false, false, false, [F.GLU_STG_H_DATA]⟩,
  ⟨0x3400C4, [(32, 512), (16, 8)], true, .ret, none, false, false, false, [F.GLU_STG_V_DATA]⟩]

def regsAna : List RegDesc := [
  ⟨0x380000, [(8, 1024)], false, .ret, none, false, false, false, [F.ANA_CTL_CAL, F.ANA_CTL_NENT, F.ANA_CTL_TT, F.ANA_CTL_MODE]⟩,
  ⟨0x380004, [(8, 1024)], true, .ret, none, false, false, false, [F.ANA_STAT_RCNT, F.ANA_STAT_CALSKIP, F.ANA_STAT_CALPEND, F.ANA_STAT_REFERR, F.ANA_STAT_ROVR, F.ANA_STAT_CFGERR, F.ANA_STAT_MODE]⟩,
  ⟨0x380008, [(8, 1024)], true, .ret, none, false, false, false, [F.ANA_RDUR_DATA]⟩,
  ⟨0x38000C, [(8, 1024)], true, .ret, none, false, false, true, [F.ANA_ROVR_DATA]⟩,
  ⟨0x380040, [(8, 1024), (16, 4)], false, .ret, none, false, false, false, [F.ANA_ENT_FLEN, F.ANA_ENT_FILT, F.ANA_ENT_TS, F.ANA_ENT_GAIN, F.ANA_ENT_AOSEL, F.ANA_ENT_INP]⟩,
  ⟨0x380080, [(8, 1024), (16, 8)], true, .ret, none, false, false, false, [F.ANA_RES_RCNT, F.ANA_RES_VALID, F.ANA_RES_STALE, F.ANA_RES_OVR, F.ANA_RES_KERF, F.ANA_RES_VALUE]⟩,
  ⟨0x380084, [(8, 1024), (16, 8)], true, .ret, none, false, false, false, [F.ANA_RTS_TS32]⟩,
  ⟨0x380100, [(8, 1024), (16, 4)], true, .ret, none, false, false, false, [F.ANA_ENT_STAT_KREM]⟩,
  ⟨0x384000, [(16, 32)], false, .ret, none, false, false, false, [F.ANA_AO_CTL_HCLM, F.ANA_AO_CTL_PFM, F.ANA_AO_CTL_STOPM]⟩,
  ⟨0x384004, [(16, 32)], false, .ret, none, false, false, false, [F.ANA_AO_SAFE_PFV, F.ANA_AO_SAFE_STOPV]⟩,
  ⟨0x384008, [(16, 32)], true, .ret, none, false, false, false, [F.ANA_AO_VAL_CODE]⟩,
  ⟨0x38400C, [(16, 32)], true, .ret, none, false, false, false, [F.ANA_AO_STAT_CLAIM, F.ANA_AO_STAT_PF, F.ANA_AO_STAT_STOPPED, F.ANA_AO_STAT_COAL]⟩]

def regsPos : List RegDesc := [
  ⟨0x3C0000, [(16, 128)], false, .ret, none, false, false, false, [F.POS_CTL_FILT, F.POS_CTL_RESV, F.POS_CTL_DIR, F.POS_CTL_HYST, F.POS_CTL_TYPE]⟩,
  ⟨0x3C0004, [(16, 128)], false, .ret, none, false, false, false, [F.POS_PUB_SRC, F.POS_PUB_TT, F.POS_PUB_IVL]⟩,
  ⟨0x3C0008, [(16, 128)], false, .ret, none, false, false, false, [F.POS_IDX_WIN, F.POS_IDX_IDXQ, F.POS_IDX_CORR, F.POS_IDX_IMODE]⟩,
  ⟨0x3C000C, [(16, 128)], false, .ret, none, false, false, false, [F.POS_IDXREF_DATA]⟩,
  ⟨0x3C0010, [(16, 128)], false, .ret, none, false, false, false, [F.POS_IDXPER_DATA]⟩,
  ⟨0x3C0014, [(16, 128)], false, .ret, none, false, false, false, [F.POS_WHL_REFK, F.POS_WHL_T]⟩,
  ⟨0x3C0018, [(16, 128)], false, .ret, none, false, false, false, [F.POS_AMP_AMPHI, F.POS_AMP_AMPLO]⟩,
  ⟨0x3C001C, [(16, 128)], false, .ret, none, false, false, false, [F.POS_VEL_VZERO, F.POS_VEL_VWIN]⟩,
  ⟨0x3C0020, [(16, 128)], false, .ret, none, false, false, false, [F.POS_VLOW_SPEED]⟩,
  ⟨0x3C0024, [(16, 128)], false, .ret, none, false, false, false, [F.POS_SSI_EN, F.POS_SSI_PORT, F.POS_SSI_GRAY, F.POS_SSI_SHIFT, F.POS_SSI_BITS, F.POS_SSI_RATE, F.POS_SSI_TT]⟩,
  ⟨0x3C0028, [(16, 128)], false, .ret, none, false, false, false, [F.POS_SSIOFS_DATA]⟩,
  ⟨0x3C002C, [(16, 128)], false, .dev, none, false, false, false, [F.POS_CMD_SETP, F.POS_CMD_CLR]⟩,
  ⟨0x3C0030, [(16, 128)], true, .ret, none, false, false, false, [F.POS_STAT_FCAUSE, F.POS_STAT_PWRGAP, F.POS_STAT_HOMED, F.POS_STAT_VMODE, F.POS_STAT_CFGERR, F.POS_STAT_SSIERR, F.POS_STAT_IDXERR, F.POS_STAT_MODE]⟩,
  ⟨0x3C0034, [(16, 128)], true, .ret, none, false, false, false, [F.POS_RAW_DATA]⟩,
  ⟨0x3C0038, [(16, 128)], true, .ret, none, false, false, true, [F.POS_QERR_DATA]⟩,
  ⟨0x3C003C, [(16, 128)], true, .ret, none, false, false, false, [F.POS_IDXDIFF_DATA]⟩,
  ⟨0x3C0040, [(16, 128)], true, .ret, none, false, false, false, [F.POS_LATCH_DATA]⟩]

def regsDio : List RegDesc := [
  ⟨0x400000, [(8, 4)], false, .ret, none, false, false, false, [F.DIO_DIG_CTL_PER, F.DIO_DIG_CTL_MODE, F.DIO_DIG_CTL_TYPE]⟩,
  ⟨0x400100, [(64, 4)], false, .ret, none, false, false, false, [F.DIO_DI_CTL_BRKEN, F.DIO_DI_CTL_DEB]⟩,
  ⟨0x400200, [(64, 4)], true, .ret, none, false, false, false, [F.DIO_DI_STAT_BRK, F.DIO_DI_STAT_LPINV, F.DIO_DI_STAT_VALID, F.DIO_DI_STAT_RAW, F.DIO_DI_STAT_STATE]⟩,
  ⟨0x400300, [], true, .dev, none, false, false, false, [F.DIO_LPI_STAT_VOLT, F.DIO_LPI_STAT_T3INV, F.DIO_LPI_STAT_T1INV]⟩,
  ⟨0x401000, [(32, 16)], false, .ret, none, false, false, false, [F.DIO_DQ_CTL_PWMF, F.DIO_DQ_CTL_PWM, F.DIO_DQ_CTL_HCLM, F.DIO_DQ_CTL_OLEN, F.DIO_DQ_CTL_LATCH, F.DIO_DQ_CTL_PFM, F.DIO_DQ_CTL_STOPM]⟩,
  ⟨0x401004, [(32, 16)], true, .ret, none, false, false, false, [F.DIO_DQ_VAL_CMD]⟩,
  ⟨0x401008, [(32, 16)], true, .ret, none, false, false, false, [F.DIO_DQ_STAT_CLAIM, F.DIO_DQ_STAT_PF, F.DIO_DQ_STAT_STOPPED, F.DIO_DQ_STAT_MISM, F.DIO_DQ_STAT_OLOFF, F.DIO_DQ_STAT_OLON, F.DIO_DQ_STAT_OVT, F.DIO_DQ_STAT_RBV, F.DIO_DQ_STAT_RB]⟩,
  ⟨0x40100C, [(32, 16)], false, .dev, none, false, false, false, [F.DIO_DQ_CMD_RST]⟩,
  ⟨0x402000, [(4, 4)], true, .dev, none, false, false, false, [F.DIO_DQG_STAT_VOLT, F.DIO_DQG_STAT_GOVL, F.DIO_DQG_STAT_UNPWR, F.DIO_DQG_STAT_SUSP, F.DIO_DQG_STAT_SAG]⟩]

def regsSaf : List RegDesc := [
  ⟨0x440000, [], true, .dev, none, false, false, false, [F.SAF_STAT_FAILS, F.SAF_STAT_LOCKOUT, F.SAF_STAT_PWSET, F.SAF_STAT_IFAULT, F.SAF_STAT_READY]⟩,
  ⟨0x440100, [(8, 4)], true, .dev, none, false, false, false, [F.SAF_SI_STAT_ROLE, F.SAF_SI_STAT_SEQOK, F.SAF_SI_STAT_DISC, F.SAF_SI_STAT_DEMAND, F.SAF_SI_STAT_FB, F.SAF_SI_STAT_FA]⟩,
  ⟨0x440200, [(4, 4)], true, .dev, none, false, false, false, [F.SAF_STO_STAT_RSTW, F.SAF_STO_STAT_OFAULT, F.SAF_STO_STAT_TPLAST, F.SAF_STO_STAT_SCOPEN, F.SAF_STO_STAT_HWOPEN, F.SAF_STO_STAT_DEM, F.SAF_STO_STAT_ON]⟩,
  ⟨0x440300, [], true, .dev, none, false, false, false, [F.SAF_CFG_CRC_DATA]⟩,
  ⟨0x440304, [], true, .dev, none, false, false, false, [F.SAF_LOG_SEQ_DATA]⟩]

def regsRec : List RegDesc := [
  ⟨0x480000, [], false, .ret, none, false, false, false, [F.REC_CTL_CMD, F.REC_CTL_SINK, F.REC_CTL_MODE, F.REC_CTL_EN]⟩,
  ⟨0x480004, [], true, .ret, none, false, false, false, [F.REC_STAT_MLOST, F.REC_STAT_CFGERR, F.REC_STAT_ALLOCREF, F.REC_STAT_SHORT, F.REC_STAT_LOSSPEND, F.REC_STAT_FULL, F.REC_STAT_STATE]⟩,
  ⟨0x480008, [], false, .ret, none, false, false, false, [F.REC_RING_PAGES]⟩,
  ⟨0x48000C, [], true, .ret, none, false, false, false, [F.REC_SEQ_DATA]⟩,
  ⟨0x480010, [], true, .ret, none, false, false, false, [F.REC_FREE_DATA]⟩,
  ⟨0x480014, [], true, .ret, none, false, false, false, [F.REC_TRGPOS_DATA]⟩,
  ⟨0x480018, [], false, .ret, none, false, false, false, [F.REC_PRE_DEPTH]⟩,
  ⟨0x48001C, [], false, .ret, none, false, false, false, [F.REC_POST_DEPTH]⟩,
  ⟨0x480020, [], false, .ret, none, false, false, false, [F.REC_TRG_CTL_EDGE3, F.REC_TRG_CTL_EDGE2, F.REC_TRG_CTL_EDGE1, F.REC_TRG_CTL_EDGE0, F.REC_TRG_CTL_BUSNUM, F.REC_TRG_CTL_BUSOUT, F.REC_TRG_CTL_BUSIN, F.REC_TRG_CTL_COND, F.REC_TRG_CTL_TIN]⟩,
  ⟨0x480024, [], true, .ret, none, false, false, false, [F.REC_TRG_STAT_MISSED, F.REC_TRG_STAT_COUNT]⟩,
  ⟨0x480040, [(8, 16)], false, .ret, none, false, false, false, [F.REC_COND_HND_DATA]⟩,
  ⟨0x480044, [(8, 16)], false, .ret, none, false, false, false, [F.REC_COND_THR_DATA]⟩,
  ⟨0x480048, [(8, 16)], false, .ret, none, false, false, false, [F.REC_COND_CFG_FMT, F.REC_COND_CFG_OP]⟩,
  ⟨0x480100, [], false, .dev, none, false, true, false, [F.REC_HB_BASE_LO_DATA]⟩,
  ⟨0x480104, [], false, .dev, none, false, false, false, [F.REC_HB_BASE_HI_DATA]⟩,
  ⟨0x480108, [], false, .dev, none, false, false, false, [F.REC_HB_SIZE_DATA]⟩,
  ⟨0x48010C, [], false, .ret, none, false, false, false, [F.REC_HB_RD_SEQ]⟩,
  ⟨0x480110, [], false, .ret, none, false, false, false, [F.REC_HB_WR_SEQ]⟩,
  ⟨0x480120, [], false, .ret, none, false, false, false, [F.REC_ETH_CTL_PCP, F.REC_ETH_CTL_VID, F.REC_ETH_CTL_VLAN, F.REC_ETH_CTL_PORT]⟩,
  ⟨0x480124, [], false, .ret, none, false, true, false, [F.REC_ETH_DMAC_LO_DATA]⟩,
  ⟨0x480128, [], false, .ret, none, false, false, false, [F.REC_ETH_DMAC_HI_DATA]⟩,
  ⟨0x481000, [(128, 4)], true, .ret, none, false, false, false, [F.REC_LOSSCNT_COUNT]⟩,
  ⟨0x4A0000, [(8192, 16)], true, .ret, none, false, false, false, [F.REC_ENR_HND_DATA]⟩,
  ⟨0x4A0004, [(8192, 16)], true, .ret, none, false, false, false, [F.REC_ENR_DB_DATA]⟩,
  ⟨0x4A0008, [(8192, 16)], true, .ret, none, false, false, false, [F.REC_ENR_CFG_PEND, F.REC_ENR_CFG_FMT, F.REC_ENR_CFG_EN]⟩]

def regsEvr : List RegDesc := [
  ⟨0x4C0000, [], false, .dev, none, false, false, false, [F.EVR_CTL_CLR, F.EVR_CTL_EN]⟩,
  ⟨0x4C0004, [], false, .ret, (some 0x4C0004), false, false, false, [F.EVR_CFG_LOCK, F.EVR_CFG_CLRPERM, F.EVR_CFG_BANKB, F.EVR_CFG_BANKA]⟩,
  ⟨0x4C0008, [], true, .ret, none, false, false, false, [F.EVR_STAT_CLRREF, F.EVR_STAT_CFGERR, F.EVR_STAT_LOSSPEND, F.EVR_STAT_QLEVEL]⟩,
  ⟨0x4C000C, [], true, .ret, none, false, false, false, [F.EVR_NEXT_DATA]⟩,
  ⟨0x4C0010, [], true, .ret, none, false, false, false, [F.EVR_OLDEST_DATA]⟩,
  ⟨0x4C0014, [], true, .ret, none, false, false, true, [F.EVR_LOSS_DATA]⟩,
  ⟨0x4C0020, [], true, .dev, none, true, false, false, [F.EVR_CURSOR_SEQ]⟩,
  ⟨0x4C0024, [], true, .dev, none, true, false, false, [F.EVR_WSTAT_MASKED, F.EVR_WSTAT_LEN, F.EVR_WSTAT_STATE]⟩,
  ⟨0x4C0100, [(64, 4)], true, .ret, none, true, false, false, [F.EVR_WIN_DATA]⟩,
  ⟨0x4C1000, [(512, 8)], false, .ret, none, false, false, false, [F.EVR_LIM_CFG_REFILL, F.EVR_LIM_CFG_DEPTH]⟩,
  ⟨0x4C1004, [(512, 8)], true, .ret, none, false, false, false, [F.EVR_LIM_STAT_COUNT]⟩,
  ⟨0x4C2000, [(4096, 4)], false, .ret, none, false, false, false, [F.EVR_LMAP_LIM]⟩]

def regsCn : List RegDesc := [
  ⟨0x500000, [(16, 4096)], false, .ret, none, false, false, false, [F.CN_CTL_RETRY, F.CN_CTL_SNAP, F.CN_CTL_SNAPAUTO, F.CN_CTL_SELFRX, F.CN_CTL_MODE]⟩,
  ⟨0x500004, [(16, 4096)], true, .ret, none, false, false, false, [F.CN_STAT_DOVF, F.CN_STAT_CFGERR, F.CN_STAT_RECOV, F.CN_STAT_BOFF, F.CN_STAT_ALONE, F.CN_STAT_INTEG, F.CN_STAT_STATE]⟩,
  ⟨0x500008, [(16, 4096)], false, .ret, none, false, false, false, [F.CN_BTR_N_BRP, F.CN_BTR_N_TSEG1, F.CN_BTR_N_TSEG2, F.CN_BTR_N_SJW]⟩,
  ⟨0x50000C, [(16, 4096)], false, .ret, none, false, false, false, [F.CN_BTR_D_BRP, F.CN_BTR_D_TSEG1, F.CN_BTR_D_TSEG2, F.CN_BTR_D_SJW]⟩,
  ⟨0x500010, [(16, 4096)], true, .ret, none, false, false, false, [F.CN_ERR_TDCO, F.CN_ERR_LEC, F.CN_ERR_REC, F.CN_ERR_TEC]⟩,
  ⟨0x500018, [(16, 4096)], true, .dev, none, false, false, false, [F.CN_SOFCNT_DATA]⟩,
  ⟨0x50001C, [(16, 4096)], true, .dev, none, false, false, false, [F.CN_SNAP_CNT_DATA]⟩,
  ⟨0x500020, [(16, 4096)], true, .dev, none, false, true, false, [F.CN_SNAP_TS_LO_DATA]⟩,
  ⟨0x500024, [(16, 4096)], true, .dev, none, false, false, false, [F.CN_SNAP_TS_HI_DATA]⟩,
  ⟨0x500028, [(16, 4096)], true, .ret, none, false, false, true, [F.CN_LOST_TXO, F.CN_LOST_RX]⟩,
  ⟨0x500040, [(16, 4096)], true, .dev, none, false, false, false, [F.CN_TXCMD_TAG, F.CN_TXCMD_RECOVER, F.CN_TXCMD_DPOP, F.CN_TXCMD_CANCEL, F.CN_TXCMD_PUSH]⟩,
  ⟨0x500044, [(16, 4096)], true, .dev, none, false, false, false, [F.CN_TXSTAT_PRES, F.CN_TXSTAT_CRES, F.CN_TXSTAT_DLEVEL, F.CN_TXSTAT_LEVEL]⟩,
  ⟨0x500048, [(16, 4096)], true, .dev, none, false, false, false, [F.CN_TXDONE_A_DATA]⟩,
  ⟨0x50004C, [(16, 4096)], true, .dev, none, false, false, false, [F.CN_TXDONE_B_DATA]⟩,
  ⟨0x500080, [(16, 4096), (20, 4)], true, .dev, none, false, false, false, [F.CN_TXW_DATA]⟩,
  ⟨0x500100, [(16, 4096), (20, 4)], true, .dev, none, false, false, false, [F.CN_RXW_DATA]⟩,
  ⟨0x500150, [(16, 4096)], true, .dev, none, false, false, false, [F.CN_RXCMD_LEVEL, F.CN_RXCMD_POP]⟩,
  ⟨0x500200, [(16, 4096), (32, 16)], false, .ret, none, false, false, false, [F.CN_FLT_ID_DATA]⟩,
  ⟨0x500204, [(16, 4096), (32, 16)], false, .ret, none, false, false, false, [F.CN_FLT_MASK_DATA]⟩,
  ⟨0x500208, [(16, 4096), (32, 16)], false, .ret, none, false, false, false, [F.CN_FLT_CFG_TMO, F.CN_FLT_CFG_ABS, F.CN_FLT_CFG_IDE, F.CN_FLT_CFG_ACT, F.CN_FLT_CFG_EN]⟩,
  ⟨0x500400, [(16, 4096), (16, 16)], false, .ret, none, false, false, false, [F.CN_TXO_ID_ID]⟩,
  ⟨0x500404, [(16, 4096), (16, 16)], false, .ret, none, false, false, false, [F.CN_TXO_CFG_EN, F.CN_TXO_CFG_TT, F.CN_TXO_CFG_STN, F.CN_TXO_CFG_STNEN, F.CN_TXO_CFG_SEQOFS, F.CN_TXO_CFG_SEQEN, F.CN_TXO_CFG_BRS, F.CN_TXO_CFG_DLC]⟩,
  ⟨0x500800, [(16, 4096), (256, 8)], false, .ret, none, false, false, false, [F.CN_FLD_CFG_EN, F.CN_FLD_CFG_DIR, F.CN_FLD_CFG_SUBM, F.CN_FLD_CFG_OBJ, F.CN_FLD_CFG_BE, F.CN_FLD_CFG_OFS, F.CN_FLD_CFG_BIT, F.CN_FLD_CFG_FMT]⟩,
  ⟨0x500804, [(16, 4096), (256, 8)], false, .ret, none, false, false, false, [F.CN_FLD_SUB_SUB]⟩]

def regsEth : List RegDesc := [
  ⟨0x540000, [(8, 64)], false, .ret, none, false, false, false, [F.ETH_PORT_CTL_PVID, F.ETH_PORT_CTL_PTPEN, F.ETH_PORT_CTL_ONESTEP, F.ETH_PORT_CTL_AN, F.ETH_PORT_CTL_MODE]⟩,
  ⟨0x540004, [(8, 64)], false, .ret, none, false, false, false, [F.ETH_PORT_DLY_RXDLY, F.ETH_PORT_DLY_TXDLY]⟩,
  ⟨0x541000, [], false, .ret, none, false, false, false, [F.ETH_PTP_CFG_TRANSPORT, F.ETH_PTP_CFG_DOMB, F.ETH_PTP_CFG_DOMA, F.ETH_PTP_CFG_AUTOREV, F.ETH_PTP_CFG_DUAL, F.ETH_PTP_CFG_PROFILE, F.ETH_PTP_CFG_MECH, F.ETH_PTP_CFG_ROLE]⟩,
  ⟨0x541004, [], true, .dev, none, false, false, false, [F.ETH_STAT_HAGE, F.ETH_STAT_CFGERR, F.ETH_STAT_HOLD, F.ETH_STAT_ACTB, F.ETH_STAT_LOCKB, F.ETH_STAT_LOCKA]⟩,
  ⟨0x541008, [], false, .ret, none, false, false, false, [F.ETH_PTP_HOLD_SLEW, F.ETH_PTP_HOLD_HDRIFT]⟩,
  ⟨0x542000, [(4, 16)], false, .ret, none, false, false, false, [F.ETH_PAIR_CTL_DDTIME, F.ETH_PAIR_CTL_MODE]⟩,
  ⟨0x542004, [(4, 16)], true, .dev, none, false, false, false, [F.ETH_PAIR_STAT_DDOVF, F.ETH_PAIR_STAT_USED]⟩,
  ⟨0x544000, [(64, 32)], false, .ret, none, false, false, false, [F.ETH_TXO_CFG_EN, F.ETH_TXO_CFG_TT, F.ETH_TXO_CFG_STN, F.ETH_TXO_CFG_STNEN, F.ETH_TXO_CFG_PORT, F.ETH_TXO_CFG_SEQEN]⟩,
  ⟨0x544004, [(64, 32)], false, .ret, none, false, false, false, [F.ETH_TXO_TPL_LEN, F.ETH_TXO_TPL_BANK, F.ETH_TXO_TPL_PAGE]⟩,
  ⟨0x544008, [(64, 32)], false, .ret, none, false, false, false, [F.ETH_TXO_SEQ_SEQ, F.ETH_TXO_SEQ_LOST, F.ETH_TXO_SEQ_SEQOFS]⟩,
  ⟨0x546000, [(64, 32)], false, .ret, none, false, true, false, [F.ETH_RXO_MAC_LO_DATA]⟩,
  ⟨0x546004, [(64, 32)], false, .ret, none, false, false, false, [F.ETH_RXO_MAC_HI_DATA]⟩,
  ⟨0x546008, [(64, 32)], false, .ret, none, false, false, false, [F.ETH_RXO_CFG_EN, F.ETH_RXO_CFG_ABS, F.ETH_RXO_CFG_VID, F.ETH_RXO_CFG_VIDEN, F.ETH_RXO_CFG_TMO]⟩,
  ⟨0x548000, [(4096, 8)], false, .ret, none, false, false, false, [F.ETH_FLD_CFG_EN, F.ETH_FLD_CFG_DIR, F.ETH_FLD_CFG_SUBM, F.ETH_FLD_CFG_OBJ, F.ETH_FLD_CFG_BE, F.ETH_FLD_CFG_OFS, F.ETH_FLD_CFG_BIT, F.ETH_FLD_CFG_FMT]⟩,
  ⟨0x548004, [(4096, 8)], false, .ret, none, false, false, false, [F.ETH_FLD_SUB_SUB]⟩]

def regsTime : List RegDesc := [
  ⟨0x580000, [], false, .ret, none, false, false, false, [F.TIME_CTL_SEED, F.TIME_CTL_SRC]⟩,
  ⟨0x580004, [], true, .dev, none, false, false, false, [F.TIME_STAT_STEPERR, F.TIME_STAT_ADDERR, F.TIME_STAT_OFFSYNC]⟩,
  ⟨0x580008, [], true, .dev, none, false, true, false, [F.TIME_NOW_LO_TS]⟩,
  ⟨0x58000C, [], true, .dev, none, false, false, false, [F.TIME_NOW_HI_TS]⟩,
  ⟨0x580010, [], true, .dev, none, false, false, false, [F.TIME_TOD_SEC_LO_SEC]⟩,
  ⟨0x580014, [], true, .dev, none, false, false, false, [F.TIME_TOD_SEC_HI_SEC]⟩,
  ⟨0x580018, [], true, .dev, none, false, false, false, [F.TIME_TOD_NS_NS]⟩,
  ⟨0x580020, [], false, .ret, none, false, true, false, [F.TIME_ADDEND_LO_FRAC]⟩,
  ⟨0x580024, [], false, .ret, none, false, false, false, [F.TIME_ADDEND_HI_INT]⟩,
  ⟨0x580028, [], false, .dev, none, false, true, false, [F.TIME_STEP_LO_STEP]⟩,
  ⟨0x58002C, [], false, .dev, none, false, false, false, [F.TIME_STEP_HI_STEP]⟩,
  ⟨0x580030, [], true, .ret, none, false, false, false, [F.TIME_UTC_OFS_OFS]⟩,
  ⟨0x580034, [], false, .dev, none, false, false, false, [F.TIME_OFS_EST_EST]⟩,
  ⟨0x580038, [], false, .ret, none, false, false, false, [F.TIME_PPS_CTL_WIDTH, F.TIME_PPS_CTL_EN]⟩,
  ⟨0x581000, [(64, 32)], false, .ret, none, false, false, false, [F.TIME_TT_CTL_FIRED, F.TIME_TT_CTL_LATE, F.TIME_TT_CTL_PW, F.TIME_TT_CTL_OUTSEL, F.TIME_TT_CTL_OUTEN, F.TIME_TT_CTL_STEP, F.TIME_TT_CTL_MODE, F.TIME_TT_CTL_EN]⟩,
  ⟨0x581004, [(64, 32)], false, .ret, none, false, true, false, [F.TIME_TT_CMP_LO_CMP]⟩,
  ⟨0x581008, [(64, 32)], false, .ret, none, false, false, false, [F.TIME_TT_CMP_HI_CMP]⟩,
  ⟨0x58100C, [(64, 32)], false, .ret, none, false, false, false, [F.TIME_TT_PER_PER]⟩,
  ⟨0x581010, [(64, 32)], true, .ret, none, false, false, false, [F.TIME_TT_MISS_MISS]⟩,
  ⟨0x582000, [(32, 32)], false, .ret, none, false, false, false, [F.TIME_CU_CTL_CLR, F.TIME_CU_CTL_POP, F.TIME_CU_CTL_NOTIFY, F.TIME_CU_CTL_EN, F.TIME_CU_CTL_EDGE, F.TIME_CU_CTL_SRC]⟩,
  ⟨0x582004, [(32, 32)], true, .ret, none, false, false, false, [F.TIME_CU_STAT_LOST, F.TIME_CU_STAT_HEADPOL, F.TIME_CU_STAT_HEADFRAC, F.TIME_CU_STAT_LEVEL]⟩,
  ⟨0x582008, [(32, 32)], true, .ret, none, false, true, false, [F.TIME_CU_TS_LO_TS]⟩,
  ⟨0x58200C, [(32, 32)], true, .ret, none, false, false, false, [F.TIME_CU_TS_HI_TS]⟩]

def regsPlj : List RegDesc := [
  ⟨0x5C0000, [], true, .ret, (some 0x5C0000), false, false, false, [F.PLJ_ID_LOCK, F.PLJ_ID_DEV, F.PLJ_ID_SEG]⟩,
  ⟨0x5C0004, [], false, .ret, none, false, false, false, [F.PLJ_CFG_GWPORT, F.PLJ_CFG_ROOT, F.PLJ_CFG_BUDGET]⟩,
  ⟨0x5C0008, [], true, .dev, none, false, false, false, [F.PLJ_STAT_TLATE, F.PLJ_STAT_CFGERR, F.PLJ_STAT_BUDERR, F.PLJ_STAT_BREAK, F.PLJ_STAT_SLOCK]⟩,
  ⟨0x5C000C, [], true, .dev, none, false, false, false, [F.PLJ_PRESENT_DEV]⟩,
  ⟨0x5C0100, [(4, 16)], false, .ret, none, false, false, false, [F.PLJ_PORT_CTL_ROLE]⟩,
  ⟨0x5C0104, [(4, 16)], true, .dev, none, false, false, false, [F.PLJ_PORT_STAT_DLY, F.PLJ_PORT_STAT_V1, F.PLJ_PORT_STAT_STATE]⟩,
  ⟨0x5C0108, [(4, 16)], true, .dev, none, false, false, true, [F.PLJ_PORT_ERR_REPLAY, F.PLJ_PORT_ERR_CE, F.PLJ_PORT_ERR_UE]⟩,
  ⟨0x5C0200, [(16, 4)], false, .ret, none, false, false, false, [F.PLJ_MBX_ROUTE_EN, F.PLJ_MBX_ROUTE_PAY, F.PLJ_MBX_ROUTE_RCH, F.PLJ_MBX_ROUTE_ENT]⟩,
  ⟨0x5D0000, [(4096, 8)], false, .ret, none, false, false, false, [F.PLJ_SEGT_CFG_EN, F.PLJ_SEGT_CFG_DIR, F.PLJ_SEGT_CFG_REACH, F.PLJ_SEGT_CFG_SEG, F.PLJ_SEGT_CFG_DEV]⟩,
  ⟨0x5D0004, [(4096, 8)], false, .ret, none, false, false, false, [F.PLJ_SEGT_RHND_RHND]⟩]

def regsDuo : List RegDesc := [
  ⟨0x600000, [], false, .ret, (some 0x600000), false, false, false, [F.DUO_CFG_LOCK, F.DUO_CFG_PREF, F.DUO_CFG_PDEV, F.DUO_CFG_CWAIT, F.DUO_CFG_LAG, F.DUO_CFG_WPORT, F.DUO_CFG_PORTB, F.DUO_CFG_PORTA, F.DUO_CFG_WITEN, F.DUO_CFG_SOLOACK, F.DUO_CFG_EN]⟩,
  ⟨0x600004, [], false, .dev, none, false, false, false, [F.DUO_CTL_LEAVE, F.DUO_CTL_RESYNC, F.DUO_CTL_SWITCH]⟩,
  ⟨0x600008, [], true, .dev, none, false, false, false, [F.DUO_STAT_TPCT, F.DUO_STAT_ACKHOLD, F.DUO_STAT_DRY, F.DUO_STAT_WIT, F.DUO_STAT_LNKB, F.DUO_STAT_LNKA, F.DUO_STAT_CAUSE, F.DUO_STAT_SYNC, F.DUO_STAT_ROLE]⟩,
  ⟨0x60000C, [], true, .ret, none, false, false, false, [F.DUO_EPOCH_DATA]⟩,
  ⟨0x600010, [], true, .dev, none, false, false, true, [F.DUO_ERRCNT_DIV, F.DUO_ERRCNT_LATE, F.DUO_ERRCNT_CTO]⟩,
  ⟨0x600014, [], true, .ret, none, false, false, false, [F.DUO_GAP_TKO, F.DUO_GAP_GAP]⟩,
  ⟨0x600018, [], true, .dev, none, false, false, false, [F.DUO_SWIGN_DATA]⟩,
  ⟨0x60001C, [], true, .dev, none, false, false, false, [F.DUO_MLAG_DATA]⟩,
  ⟨0x600020, [], false, .ret, none, false, true, false, [F.DUO_MAC_LO_DATA]⟩,
  ⟨0x600024, [], false, .ret, none, false, false, false, [F.DUO_MAC_HI_DATA]⟩,
  ⟨0x600028, [], false, .ret, none, false, false, false, [F.DUO_FOUT_DATA]⟩,
  ⟨0x60002C, [], false, .ret, none, false, false, false, [F.DUO_JCFG_JBANK]⟩,
  ⟨0x600030, [], false, .ret, none, false, true, false, [F.DUO_JCH_LO_MASK]⟩,
  ⟨0x600034, [], false, .ret, none, false, false, false, [F.DUO_JCH_HI_MASK]⟩,
  ⟨0x600038, [], false, .ret, none, false, true, false, [F.DUO_MIRB_LO_MASK]⟩,
  ⟨0x60003C, [], false, .ret, none, false, false, false, [F.DUO_MIRB_HI_MASK]⟩,
  ⟨0x600100, [(80, 4)], true, .ret, none, false, false, false, [F.DUO_SRC_SEQ]⟩]

/-- The blocks of R22 with their first and last offset. -/
def regBlocks : List (Nat × Nat × List RegDesc) := [
  (0x0, 0xFFFF, regsSys),
  (0x10000, 0x1FFFF, regsAon),
  (0x20000, 0x3FFFF, regsSec),
  (0x40000, 0x7FFFF, regsMem),
  (0x80000, 0xFFFFF, regsMbx),
  (0x100000, 0x17FFFF, regsPe),
  (0x200000, 0x2FFFFF, regsLt),
  (0x300000, 0x33FFFF, regsSeq),
  (0x340000, 0x37FFFF, regsGlu),
  (0x380000, 0x3BFFFF, regsAna),
  (0x3C0000, 0x3FFFFF, regsPos),
  (0x400000, 0x43FFFF, regsDio),
  (0x440000, 0x47FFFF, regsSaf),
  (0x480000, 0x4BFFFF, regsRec),
  (0x4C0000, 0x4FFFFF, regsEvr),
  (0x500000, 0x50FFFF, regsCn),
  (0x540000, 0x57FFFF, regsEth),
  (0x580000, 0x5BFFFF, regsTime),
  (0x5C0000, 0x5FFFFF, regsPlj),
  (0x600000, 0x63FFFF, regsDuo)]

/-- The indices of offset `r` (relative to the base) in an array of the given dimensions; none where it is not one of
its elements. -/
def dimIndex : List (Nat × Nat) → Nat → Option (List Nat)
  | [], r => if r = 0 then some [] else none
  | (c, st) :: ds, r =>
    if r / st < c then (dimIndex ds (r % st)).map (r / st :: ·) else none

/-- The indices of `off` as an element of register `d`. -/
def RegDesc.index (d : RegDesc) (off : Nat) : Option (List Nat) :=
  if d.base ≤ off then dimIndex d.dims (off - d.base) else none

/-- The register at `off` in a list of registers, with its indices. -/
def findIn : List RegDesc → Nat → Option (RegDesc × List Nat)
  | [], _ => none
  | d :: ds, off =>
    match d.index off with
    | some ix => some (d, ix)
    | none => findIn ds off

/-- The register at `off`, searched in the block of R22 that holds it; none where the offset is undefined. -/
def findReg (off : Nat) : Option (RegDesc × List Nat) :=
  match regBlocks.find? (fun b => b.1 ≤ off && off ≤ b.2.1) with
  | some b => findIn b.2.2 off
  | none => none

/-- The register's value made of its fields' reset values (R6). -/
def RegDesc.resetWord (d : RegDesc) : Nat :=
  d.fields.foldl (fun a f => a ||| (f.reset <<< f.lo)) 0

end Sys2Proof.Machine
end

