-- ==== Sys2Proof/Access.lean ====
section
/-! DEFINITION. Operands of commands that hold more than a number: who makes an access, operand forms of HiWard-L. -/

namespace Sys2Proof

/-- Who makes an access: the requester of R51 and whether it uses the P view (R23). -/
structure Acc where
  req : Fin 15
  pview : Bool
  deriving DecidableEq, Repr

/-- Operand of a bit-memory instruction (R106): a direct bit address in one of the seven spaces, or a space and the word
register that holds the bit address (space code 7 is the illegal one). -/
inductive BmOp where
  | direct (sp : Fin 7) (addr : BitVec 24)
  | indirect (sp : Fin 8) (wn : Fin 16)
  deriving DecidableEq, Repr

/-- Operand of a load or store (R106): formats MW and MX; space code 7 is the illegal one. -/
inductive MwOp where
  | direct (sp : Fin 8) (addr : BitVec 19)
  | indexed (sp : Fin 8) (wb : Fin 16) (ofs : BitVec 15)
  deriving DecidableEq, Repr

/-- What a heartbeat tells of its sender (R390, R392, R402, R405): role and pair state as DUO_STAT codes them, the newest
epoch held whole, the start is RESUME, stored as primary, PREF, a transfer is requested, device number, digest of the
policy image and the active images. -/
structure Hb where
  role : Fin 4
  sync : Fin 4
  epoch : Nat
  resume : Bool
  stored : Bool
  pref : Bool
  request : Bool
  dev : Fin 32
  digest : BitVec 64
  deriving DecidableEq, Repr

/-- A mirror record of R403: a Scribe record with the number of records not mirrored before it, a recorder record by its
sequence number, an image-store page, words laid into a veneer half, words of a bank, or the acknowledgement of one. -/
inductive Mirror where
  | scribe (lost : Nat) (ws : List Word)
  | recorder (seq : Word) (ws : List Word)
  | page (n : Nat) (ws : List Word)
  | half (addr : Nat) (ws : List Word)
  | bank (addr : Nat) (ws : List Word)
  | ack
  deriving DecidableEq, Repr

end Sys2Proof
end

