-- ==== Sys2Proof/Config.lean ====
section
/-! DEFINITION. What the spec leaves open and the model leaves free: constants without a body. A statement about them
holds whatever they are. -/

namespace Sys2Proof

/-- The events of which a unit offers a Scribe record whose individual code and payload stand in a code catalogue that
the spec does not print (R324). -/
inductive Ev where
  | uViolation | stepRefused | addendRefused | configRefused | unclaimedWrite
  | linePoisoned | scrubThreshold | handOverRefused | released | wipeDone | rowRepaired | bankDegraded
  | bankFailed | jigDone | pageRefused
  | collision | recDiscarded | recMarkerLost | recLoss
  | taskOverrun | eventDropped | periodError | engineFault | engineStopped | vnrRefused | vnrDone | forceOrphan | bkptIgnored | handleIgnored | runRefused
  | hclmRefused
  | slotRefused | requestDiscarded | loopCondition
  | seqFault | seqIgnored | seqMiss | gluCleared
  | adcRefused | adcSkipped | refError
  | posFault | ssiSkipped
  | wireBreak | outputOvt | groupOverload | outputMismatch | openLoad | supplySag
  | imageRefused | tamper | wipeComplete | lcsDone
  | discLatched | stoFault | ifault | badPress | safLog
  | canAlone | canBusOff | canDrop | stationChange
  | portDown | presenceChange
  | duoDiverge | duoLate | duoRelease | duoRole
  | feedLow | holdupLow | factoryIgnored
  deriving DecidableEq, Repr

/-- Low byte of the record code of an event (R324: the block's range gives the high byte). UNVERIFIED, log 20. -/
opaque Config.recordCode : Ev → BitVec 8
/-- Payload words of the record of an event; the number makes each offer's payload its own. UNVERIFIED, log 20. -/
opaque Config.recordPayload : Ev → Nat → List Word
/-- Outcome of reading a line with four or more wrong stored bits (R56): 0 detected as uncorrectable, else not. It
depends on the stored pattern alone. Log 23. -/
opaque Config.lineOutcome : Nat → Nat → Nat
/-- Data that a line with unnoticed or miscorrected errors returns (R56). Log 23. -/
opaque Config.lineData : Nat → Nat → BitVec 128
/-- A fresh free byte. -/
opaque Config.freeByte : Nat → BitVec 8
/-- A fresh free word. -/
opaque Config.freeWord : Nat → BitVec 32
/-- Sign and payload of a NaN result of a float operation on its operands (IEEE 754 leaves them open). Log 24. -/
opaque Config.nanBits : Nat → Dbl → Dbl → Dbl → Dbl
/-- The stepped value of R163 and R189 where its formula meets `∞ − ∞`: previous value, goal, limit. Log 25. -/
opaque Config.slewFree : Dbl → Dbl → Dbl → Dbl
/-- The integer that a loop output without a number (NaN) becomes at an integer destination. Log 25. -/
opaque Config.nanInteger : Dbl → Int
/-- Whether the quadrature sequence in which A changes level before B counts up with POS_CTL.DIR clear (R248 leaves the
sense open). Log 37. -/
opaque Config.quadUp : Bool

/-- SHAKE256 with 256 bits of output (FIPS 202, which the spec names and does not print). Log 40. -/
opaque Config.shake256 : List (BitVec 8) → BitVec 256
/-- XMSS-SHAKE256_20_256 verification of a signature over a message under a public key (RFC 8391). Log 40. -/
opaque Config.xmssVerify : List (BitVec 8) → List (BitVec 8) → List (BitVec 8) → Bool
/-- Word `k` of the identity key's signature with an index over a message. Log 40. -/
opaque Config.idSignature : Nat → List (BitVec 32) → Nat → BitVec 32
/-- The identity public key, 17 words. Log 40. -/
opaque Config.idKey : Nat → BitVec 32
/-- The two Yallith firmware keys, byte `i`. Log 40. -/
opaque Config.yallithKey : Nat → Nat → BitVec 8
/-- Digest of the system firmware that stands before any is installed. Log 40. -/
opaque Config.sysfwDigest : BitVec 256
/-- Tables that the payload of an owner policy image holds (its layout is not printed): places of the input and output
maps (word, bit, handle), M word grants (word, owner code), register values (offset, value), engines to run. Log 41. -/
opaque Config.policyIn : List (BitVec 8) → List (Nat × Nat × BitVec 32)
opaque Config.policyOut : List (BitVec 8) → List (Nat × Nat × BitVec 32)
opaque Config.policyGrants : List (BitVec 8) → List (Nat × Nat)
opaque Config.policyRegs : List (BitVec 8) → List (Nat × BitVec 32)
opaque Config.policyRun : List (BitVec 8) → List Nat
/-- Filtered contact level of each channel of a RESET input that is its demand level (R284 leaves it open). Log 39. -/
opaque Config.resetDemand : Bool → Bool

/-- Frames that an egress queue of the switch holds (no rule gives the number). Log 45. -/
opaque Config.egressDepth : Nat
/-- The module's own MAC address, octet 0 lowest. Log 45. -/
opaque Config.ethMac : Nat
/-- Membership and tagged egress of a port in a VLAN (R355 names the options; no register holds them). Log 45. -/
opaque Config.vlanMember : Nat → Nat → Bool
opaque Config.vlanTagged : Nat → Nat → Bool
/-- Mean link delay in ns that firmware has measured on a port. Log 45. -/
opaque Config.meanLinkDelay : Nat → Nat → Int
/-- Gate lists of a policy image: port, comparator, entries (open queues, duration in 4 ns). Log 41. -/
opaque Config.policyGates : List (BitVec 8) → List (Nat × Nat × List (Nat × Nat))

/-- Whether a device that is not the root removes an offset against a SYNC by a step (R378 says that it steers, not
how). Log 47. -/
opaque Config.pljSteps : Int → Bool

/-- Digest of the policy image and the active engine images that a heartbeat carries (R390), from their own digests.
Log 49. -/
opaque Config.pairDigest : List (BitVec 256) → BitVec 64
/-- Bytes over which an epoch's digest runs (R400): units and words of the outputs in order. Log 49. -/
opaque Config.outputBytes : List (Nat × List (BitVec 32)) → List (BitVec 8)
/-- Duration in µs of a takeover's steps (R407 bounds it by 170). Log 49. -/
opaque Config.takeoverTime : Nat → Nat

end Sys2Proof
end

