-- ==== Sys2Proof/Machine/Dev.lean ====
section
/-! DEFINITION. The state of the device. `Dev` is everything the spec gives the JN7480: the register file, the points,
bank memory and the hidden state of each unit, all plain data. `Dev.reset` is the device after reset. -/

namespace Sys2Proof.Machine

/-- The value of a point with its VALID bit (R17). -/
structure Pt where
  val : Word
  valid : Bool
  deriving DecidableEq, Repr

/-- Who holds the claim of a point (R18). -/
inductive Writer where
  | slot (n : Nat)
  | engine (n : Nat)
  | context (n : Nat)
  | core (n : Nat)
  | host
  deriving DecidableEq, Repr

/-- The answer the last access got on its bus (R9, R22, R58). -/
inductive BusStatus where
  | idle
  | ok
  | unsupported
  | busError
  | completerAbort
  | poisonError
  deriving DecidableEq, Repr

structure Bus where
  status : BusStatus
  data : BitVec 128
  deriving DecidableEq, Repr

/-- A captured stamp: TS64, tenths of a nanosecond, polarity (R48). -/
structure Stamp where
  ts : Dbl
  frac : Nat
  rising : Bool
  deriving DecidableEq, Repr

/-- The time base (R31), with the commits that the next tick applies (R32, R33), and the outputs it times. -/
structure Time where
  ts : Dbl
  frac : Word
  newAddend : Option (BitVec 36)
  steps : List Int
  seedReq : Bool
  /-- The whole second crossed on this tick, until SECOND_CROSSING has used it (R47). -/
  crossed : Option Nat
  /-- Comparators that fired on this tick (R43). -/
  fired : List Nat
  /-- Comparators whose instant lay before the time when they were enabled or committed, or that a step passed. -/
  late : List Nat
  /-- TRG_OUT pulses: comparator to (pin, tick of the end) (R46). -/
  pulses : Tab (Nat × Nat)
  /-- Tick on which PPS_OUT falls, while it is high (R47). -/
  ppsEnd : Option Nat
  /-- Edge of each capture input last stamped, in ps of real time since reset, plus one (R50). -/
  lastEdge : Tab Nat
  /-- Stamps of this tick that found their unit's queue full: a POP of the same tick comes before them (R49). -/
  cuOver : List (Nat × Stamp)
  deriving DecidableEq, Repr

/-- The calendar clock of the always-on domain (R37). -/
structure Cal where
  sec : BitVec 48
  tick : BitVec 15
  commit : Option (BitVec 48)
  writeback : Option (BitVec 48)
  /-- Phase of the crystal against the time base, and whether this tick holds a rising edge. -/
  phase : Nat
  edge : Bool
  deriving DecidableEq, Repr

/-- Why a marker is due on this tick (R307, R325). -/
structure MarkWhy where
  due : Bool
  step : Bool
  start : Bool
  pfail : Bool
  deriving DecidableEq, Repr

/-- An offer to the Scribe (R326). -/
structure Offer where
  src : Nat
  code : BitVec 16
  sec : Bool
  ts : Dbl
  payload : List Word
  deriving DecidableEq, Repr

/-- One limiter of the Scribe (R327). -/
structure Limiter where
  tokens : Nat
  firstTs : Dbl
  firstCode : BitVec 16
  /-- Tick of the last write of its configuration, or of the start. -/
  base : Nat
  deriving DecidableEq, Repr

/-- A record in the Scribe's ring: sequence number, byte position, length in bytes, SEC. -/
structure RingRec where
  seq : Word
  pos : Nat
  len : Nat
  sec : Bool
  deriving DecidableEq, Repr

/-- The Scribe (R326-R333). -/
structure Scribe where
  offers : List Offer
  mark : MarkWhy
  queue : List (Offer × Bool)
  losses : Tab Nat
  firstLoss : Dbl
  limiters : Tab (Option Limiter)
  ring : List RingRec
  pos : Nat
  linesDone : Nat
  halted : Bool
  /-- Tick on which the Scribe started, from which the limiters count (R327). -/
  started : Nat
  deriving DecidableEq, Repr

/-- An item of the signal recorder's intake (R306). -/
inductive RecItem where
  | change (tick : Dbl) (entry : Nat) (handle : Word) (pt : Pt) (resync kerf : Bool)
  | marker (ts : Dbl) (num : Word) (why : MarkWhy) (offsync : Bool) (src : Nat)
  | trigger (ts : Dbl) (frac kind num seg dev : Nat)
  deriving DecidableEq, Repr

/-- A trigger of the recorder: its instant and source (R315, R316), and the TS64 at which it acts. -/
structure RecTrig where
  ts : Dbl
  frac : Nat
  kind : Nat
  num : Nat
  seg : Nat
  dev : Nat
  actAt : Dbl
  deriving DecidableEq, Repr

/-- The signal recorder (R302-R322). -/
structure Recorder where
  /-- Changes found for this tick, in enrolment order, taken in at its end. -/
  found : List RecItem
  /-- Triggers that wait for the tick on which they act (R316), and trigger records of this tick. -/
  trigs : List RecTrig
  acting : List RecItem
  mark : MarkWhy
  queue : List RecItem
  /-- Value and VALID last stored per entry (R303). -/
  stored : Tab Pt
  pages : List Nat
  /-- First record held and first record not yet released. -/
  oldest : Word
  released : Word
  markers : Word
  lossCount : Tab Nat
  lossFirst : Tab Dbl
  sinceArm : Nat
  firstArm : Word
  postLeft : Nat
  /-- Value last written to each watched handle (R315). -/
  prevCond : Tab (Option Pt)
  /-- Ticks on which the records that wait for an Ethernet frame entered the ring, oldest first (R314). -/
  frameSince : List Nat
  hostMem : Tab Word
  halted : Bool
  deriving DecidableEq, Repr

/-- A requested Jig test under way (R69): mode 0 DESTRUCTIVE, 1 PRESERVING, 2 TRANSPARENT. -/
structure JigRun where
  bank : Nat
  mode : Nat
  save : Nat
  deriving DecidableEq, Repr

/-- A window access (R64): bank pool address, size in bytes, data written. -/
structure WinAcc where
  acc : Acc
  addr : Nat
  size : Nat
  data : Option (BitVec 128)
  deriving DecidableEq, Repr

/-- A page request that waits for the resource manager (R68): the sub-client and, by its kind, whom to answer. -/
structure PageReq where
  sub : Nat
  /-- 0: mailbox endpoint `who` (R423); 1: sequencer context, page `who` of its program (R206). -/
  kind : Nat
  who : Nat
  deriving DecidableEq, Repr

/-- The bank pool beside its data bytes (R52-R72). -/
structure Pool where
  /-- Wrong stored bits per line (bank * 32768 + line) and poison markers. -/
  errs : Tab Nat
  poison : Tab Bool
  /-- Shadow cells of banks 0-47: bytes, wrong bits, poison (R53). -/
  shadow : List Host.Cell
  shadowErrs : Tab Nat
  shadowPoison : Tab Bool
  /-- Lines queued for the scrubber, and corrected lines waiting for their write back (R57, R60). -/
  scrubQueue : List Nat
  scrubWait : List Nat
  scrubPos : Tab Nat
  passCe : Tab Nat
  /-- Release requests: bank to the tick from which the request is visible, plus one (R62). -/
  relReq : Tab Nat
  /-- Window accesses that wait for a wipe (R63). -/
  waiting : List WinAcc
  jig : Option JigRun
  jigPos : Tab Nat
  /-- Port A's last write on this tick: line and bytes (R66). -/
  portA : Option (Nat × List (Nat × Byte))
  /-- Allocated pages: page number to sub-client plus one (R67). -/
  pageOf : Tab Nat
  pageReqs : List PageReq
  deriving DecidableEq, Repr
/-- A place of the input or output map of the policy image: a bit position in an I or Q word and the point (R13, R14). -/
structure Place where
  word : Nat
  bit : Nat
  handle : Word
  deriving DecidableEq, Repr

/-- An entry of the force table (R146). -/
structure Force where
  enabled : Bool
  orphan : Bool
  key : Word
  symid : Word
  mask : Word
  value : Word
  valid : Bool
  eng : Nat
  deriving DecidableEq, Repr

/-- The tables of the owner policy image that the other units use. -/
structure Policy where
  inMap : List Place
  outMap : List Place
  /-- Units to which an M word is granted: word offset and owner code of the unit (R16, R127, R156). -/
  grants : List (Nat × Nat)
  /-- Register values of the image, taken at a COLD start (R463), and the engines that it names in RUN (R462). -/
  regs : List (Nat × Word)
  run : List Nat
  deriving DecidableEq, Repr

/-- A ramp generator of a sequencer context (R204): the start value S and the target as binary64, the duration and the
interval in µs, and the ticks since the entry tick, frozen while the context is PAUSED. -/
structure Ramp where
  running : Bool
  handle : Word
  start : Dbl
  target : Dbl
  dur : Nat
  riv : Nat
  ticks : Nat
  /-- The multiple of the interval last written. -/
  done : Nat
  deriving DecidableEq, Repr

def Ramp.idle : Ramp := ⟨false, 0, 0, 0, 0, 0, 0, 0⟩

/-- A boundary that waits for a page (R207): the target step (none: FIRST of the header), the code of LASTTR, the tick of
the boundary, and whether the target has passed its checks, so that it is entered on the next tick. -/
structure Wait where
  target : Option Nat
  code : Nat
  tick : Nat
  ready : Bool
  deriving DecidableEq, Repr

/-- The hidden state of a sequencer context (R202-R211). -/
structure Ctx where
  step : Nat
  /-- Step time in ticks. -/
  ticks : Nat
  /-- The step time, in µs plus one, at which transitions were last evaluated. -/
  evaled : Nat
  ramps : Tab Ramp
  /-- Handles whose claims the context holds. -/
  claims : List Word
  /-- Pages held: program page number to pool page plus one. -/
  pages : Tab Nat
  /-- Pages requested or under fetch: program page number, and whether it is a demand. -/
  asked : List (Nat × Bool)
  /-- An IMAGE program has been started and its header is still to be checked. -/
  booting : Bool
  waiting : Option Wait
  deriving DecidableEq, Repr

def Ctx.idle : Ctx := ⟨0, 0, 0, [], [], [], [], false, none⟩

/-- A page under fetch by a sequencer unit (R206): the context, the program's page number, the pool page, demand. -/
structure Fetch where
  ctx : Nat
  page : Nat
  pool : Nat
  demand : Bool
  deriving DecidableEq, Repr

/-- The hidden state of a glue-up slot: the tick plus one on which it took COMMIT, a number for each launch, and the
requester plus one that staged each write (R217). -/
structure Glu where
  commit : Nat
  launch : Nat
  staged : Tab Nat
  deriving DecidableEq, Repr

def Glu.idle : Glu := ⟨0, 0, []⟩
/-- Phases of a task's cycle (R83). -/
inductive Phase where
  | none | latch | execute | forces | transfer
  deriving DecidableEq, Repr

/-- A task of a program engine: its register bank (R98), its cycle and its local words. -/
structure Task where
  phase : Phase
  /-- Tick on which the latch, the forces phase or the transfer under way is over. -/
  readyAt : Nat
  /-- Cycles from the start of the forces phase's first tick to its end, and ticks of it still to go while the task is
  preempted in it (R81). -/
  fcost : Nat
  left : Nat
  /-- Index of the next instruction. -/
  idx : Nat
  fp : Nat
  /-- Call stack, newest first: return index and saved FP. -/
  calls : List (Nat × Nat)
  ba : Bool
  /-- Bit stack, newest first. -/
  bits : List Bool
  w : Tab Word
  f : Tab Dbl
  z : Bool
  n : Bool
  v : Bool
  c : Bool
  /-- Snapshot of the I words with their validity, and its TS64 stamp (R83). -/
  snap : Tab Pt
  stamp : Dbl
  /-- Working copy of the Q words (R104). -/
  work : Tab Word
  /-- The entries that the forces phase of the cycle has applied (R148). -/
  acted : List Force
  /-- The working copy as the last output transfer wrote it, with which the next cycle begins (R104). -/
  kept : Tab Word
  /-- The working copy is to be taken from the Q image at the next latch: the task was enabled. -/
  fresh : Bool
  /-- Execution time of the cycle in ns (R86). -/
  ns : Nat
  lmem : Tab Word
  /-- The breakpoint at `idx` has halted the engine already (R91). -/
  passBrk : Bool
  deriving DecidableEq, Repr

def Task.idle : Task :=
  ⟨.none, 0, 0, 0, 0, 0, [], false, [], [], [], false, false, false, false, [], 0, [], [], [], true, 0, [], false⟩

/-- A veneer switch (R141, R142): requested with DRAIN or GAP, the tick of the request, and the tick of its end while it
runs. -/
structure Vnr where
  drain : Bool
  reqTick : Nat
  endTick : Option Nat
  deriving DecidableEq, Repr

/-- A program engine beside its registers: the task in its cycle's own phases, the clock gate, the switch. -/
structure Eng where
  cur : Option Nat
  gated : Bool
  /-- The pending STOP was asked for by a policy handler (R133). -/
  byPolicy : Bool
  vnr : Option Vnr
  /-- Single stepping in HOLD (R91): 0 none, 1 one instruction, 2 to the end of the forces phase. -/
  step : Nat
  deriving DecidableEq, Repr

def Eng.idle : Eng := ⟨none, false, false, none, 0⟩

/-- A hardware timer (R121-R123). -/
structure Timer where
  pt : Word
  et : Word
  inp : Bool
  q : Bool
  kind : Nat
  running : Bool
  ticks : Nat
  deriving DecidableEq, Repr

/-- A hardware counter (R121, R124). -/
structure Counter where
  pv : Word
  cv : Word
  cu : Bool
  cd : Bool
  deriving DecidableEq, Repr
/-- An analogue output (R240-R243): the code driven, the tick from which a newer code is visible and waits, the tick of
the last update plus one, and the power-fail code while it is driven. -/
structure Ao where
  driven : Word
  waiting : Option Nat
  lastUpd : Nat
  pf : Option Word
  deriving DecidableEq, Repr

def Ao.init : Ao := ⟨0, none, 0, none⟩

/-- A digital output (R269-R278): the PWM period under way (tick of its start, of the end of its on-phase, of its end),
the frequency in force (0: not in PWM mode) with the first tick of its first period, the tick of the last thermal
shutdown, since when (tick plus one) the command has stood for the mismatch and open-load checks, whether the pin reads
the inverse of its drive, the levels of a paired output not older than LAG with one before them (newest first), and the
power-fail command while it is driven. -/
structure Dq where
  pwm : Option (Nat × Nat × Nat)
  pwmOn : Bool
  pwmKey : Nat
  pwmFrom : Nat
  ovtTick : Nat
  mismSince : Nat
  openSince : Nat
  rbDiff : Bool
  fout : List (Nat × Bool)
  pf : Option Word
  deriving DecidableEq, Repr

def Dq.init : Dq := ⟨none, false, 0, 0, 0, 0, 0, false, [], none⟩

/-- A frame or other message that leaves the device on this tick: unit (0 CAN, 1 Ethernet, 2 Plajo Link, 3 host,
4 Plajo wire, 5 pair links), port or
channel, type, and its words. -/
structure Sent where
  unit : Nat
  port : Nat
  kind : Nat
  words : List Word
  deriving DecidableEq, Repr
/-- An entry of the input set of a Dovetail pair (R393): KIND, ID, VALUE, DATA, extra words, tick (TS64). -/
structure DuoEntry where
  kind : Nat
  id : Word
  value : Word
  data : Word
  extra : List Word
  ts : Dbl
  deriving DecidableEq, Repr
/-- An update of a slot that waits for the datapath (R166, R167): a sample's update or a fallback's write. What it does:
0 compute, 1 deliver `y`, 2 write nothing; the close mode that takes effect with it; the error and feed-forward; the
descriptor words 0-30 with HLO and HHI as they stood at the sample (R160); the sample tick; its deadline as TS64. -/
structure Job where
  act : Nat
  close : Nat
  e : Dbl
  ff : Dbl
  y : Dbl
  words : List Word
  tick : Nat
  dl : Nat
  deriving DecidableEq, Repr

/-- The hidden state of a loop slot: the sample's update and the fallback's write that wait, the comparator's period and
the load at admission, the tick of the last sample plus one, the replacements of R181, whether the feedback was written
since the last sample, the stale count, the ramp's timing, the glue-up slot a request waits for, and the policy command
and destination report that act on this tick. -/
structure Loop where
  upd : Option Job
  wr : Option Job
  period : Nat
  load : Nat
  lastSample : Nat
  staleArmed : Bool
  spKeep : Dbl
  ffKeep : Dbl
  newFb : Bool
  stale : Nat
  rampTick : Nat
  rampStart : Nat
  rampK : Nat
  glu : Nat
  /-- Tick on which the pending request became, or becomes, visible. -/
  reqTick : Nat
  policy : Bool
  dest : Option Nat
  deriving DecidableEq, Repr

def Loop.idle : Loop := ⟨none, none, 0, 0, 0, false, 0, 0, false, 0, 0, 0, 0, 0, 0, false, none⟩

/-- An output on its way: the slot, its loop output as binary32 with the destination and its word (none: writes nothing),
the tick from which it is visible, and the sample tick. -/
structure Flight where
  slot : Nat
  out : Option (Word × Word × Word)
  vis : Nat
  tick : Nat
  deriving DecidableEq, Repr

/-- A loop tile: whether a bank was accepted (R152), the time in ns until which its datapath is busy, its outputs under
way. -/
structure Tile where
  accepted : Bool
  busy : Nat
  flights : List Flight
  deriving DecidableEq, Repr

def Tile.init : Tile := ⟨false, 0, []⟩
/-- A notice (R419) with the tick of its post: handle, tag, stamp. -/
structure Notice where
  handle : Dbl
  tag : Word
  stamp : Word
  tick : Nat
  deriving DecidableEq, Repr

/-- One end of a channel: the notices queued for it, the count of its DISCARDED notice (0: none), its held notice and
whether that still holds its page, the outcome of its last post and take, and the answer to its page request. -/
structure MbxEnd where
  queue : List Notice
  disc : Nat
  held : Notice
  heldPage : Bool
  pres : Nat
  ecause : Nat
  tok : Bool
  res : Nat
  page : Nat
  deriving DecidableEq, Repr

def MbxEnd.init : MbxEnd := ⟨[], 0, ⟨0, 0, 0, 0⟩, false, 0, 0, false, 0, 0⟩

/-- An acknowledgement of journaled work that waits for its release (R412): channel, the end that takes it, tag, handle,
the epoch in which the work was collected, the tick of the work. -/
structure Ack where
  chan : Nat
  dst : Nat
  tag : Word
  handle : Dbl
  epoch : Word
  tick : Nat
  deriving DecidableEq, Repr
/-- A converter (R224-R239): the entries and NENT in force, writes that wait for a round (tick, entry or 16 for NENT,
value), 0 idle, 1 in a round, 2 in a calibration round, the instant in ns at which the next round may start, the entry
under conversion and the start of its sampling in ns, TS64 at its sample instant, whether a calibration is requested, the
end of a calibration round in ns, the input converted last plus one (0: none), the last overrange sample instant in ns
plus one, the reference code of the last calibration, the rounds begun, whether the converter has run since a COLD or
FACTORY start, and the conversions that each filter holds (their count since the restart, the newest first). -/
structure Adc where
  words : Tab Word
  nent : Nat
  pend : List (Nat × Nat × Word)
  busy : Nat
  due : Option Nat
  idx : Nat
  startNs : Nat
  sampleTs : Dbl
  calReq : Bool
  calEnd : Nat
  lastInp : Nat
  ovrNs : Nat
  calRef : Option Int
  rounds : Nat
  ran : Bool
  filt : Tab (Nat × List Int)
  deriving DecidableEq, Repr

def Adc.init : Adc := ⟨[], 1, [], 0, none, 0, 0, 0, false, 0, 0, 0, none, 0, false, []⟩
/-- The hidden state of a position channel (R246-R259). Samples are those of the front end: every 5 ns, or 10 MS/s for
sin/cos. -/
structure Pos where
  pos : Word
  a : Bool
  b : Bool
  /-- Direction of the last count: 1, −1, 0 for none. -/
  dlast : Int
  /-- Samples of the latest illegal transitions, and the last of them plus one. -/
  illegal : List Nat
  illegalAt : Nat
  /-- Positions with the instant in ns from which they stand, newest first. -/
  log : List (Nat × Word)
  /-- Counts without corrections, and their record at whole microseconds, newest first, since `histStart` (µs). -/
  cum : Int
  hist : List (Nat × Int)
  histStart : Nat
  /-- Instant in ns plus one of the last count, interval before it in ns and its divisor. -/
  countNs : Nat
  ivl : Nat
  ivlDiv : Nat
  /-- Toothed wheel: last edge in samples plus one, edges, reference period as a fraction, start of a pair with an extra
  tooth plus one, periods classified, periods of the latest irregular ones. -/
  edge : Nat
  edges : Nat
  refNum : Nat
  refDen : Nat
  pair : Nat
  periods : Nat
  irregular : List Nat
  /-- Sin/cos: the phase of the last sample, samples taken. -/
  phase : Option Nat
  samples : Nat
  /-- SSI: start of the frame under way in ns with the latched raw, end of its recovery in ns, frames in error in a row. -/
  ssi : Option (Nat × Word)
  ssiEnd : Nat
  ssiErrs : Nat
  /-- Tick of the last write of POS_PUB, tick of the last publication plus one. -/
  pubBase : Nat
  lastPub : Nat
  /-- Tick plus one of the last cause of FAULT. -/
  causeAt : Nat
  deriving DecidableEq, Repr

def Pos.init : Pos :=
  ⟨0, false, false, 0, [], 0, [], 0, [], 0, 0, 0, 1, 0, 0, 0, 1, 0, 0, [], none, 0, none, 0, 0, 0, 0, 0⟩
/-- A group of eight inputs (R263-R266): samples taken, whether this tick holds one, whether a PULSED window is open, and
a written DIO_DIG_CTL that waits for the next whole microsecond. -/
structure DiGrp where
  count : Nat
  now : Bool
  window : Bool
  pend : Option Word
  deriving DecidableEq, Repr

/-- An input (R266, R267): the group's sample count from which its debounce count and its current count run, and whether
a debounce count has completed since the input was last invalid. -/
structure Di where
  since : Nat
  brkSince : Nat
  ok : Bool
  deriving DecidableEq, Repr
/-- Fuses that the registers do not show whole (R434, R440-R444): hashes of the owner keys, Yallith key 0 revoked, the
identity root present. -/
structure Fuses where
  ownHash : Tab (BitVec 256)
  revY0 : Bool
  idRoot : Bool
  deriving DecidableEq, Repr

/-- The secure key store and what firmware keeps in the image store beside it (R441, R444-R446): NEXT and LIMIT, the
owner keys, the end of a wipe under way, the state that an accepted transition goes to. -/
structure Sec where
  next : Nat
  limit : Nat
  keys : Tab (List Word)
  wipe : Option Nat
  target : Option Nat
  deriving DecidableEq, Repr

/-- An installed or staged image: its digest, key slot, header words 1 and 3, its payload. -/
structure Img where
  digest : BitVec 256
  slot : Nat
  adv : Bool
  version : Nat
  payload : List Byte
  deriving DecidableEq, Repr
/-- A safe input (R284-R286, R292): the discrepancy timer (its tick, whether channel B changed first, the demand state
changed to), DISC and SEQOK as kept, both channels in demand since the latch, the tick plus one since which both are in
demand, and for how long they last were. -/
structure SafIn where
  timer : Option (Nat × Bool × Bool)
  disc : Bool
  seqok : Bool
  both : Bool
  bothAt : Nat
  stood : Option Nat
  deriving DecidableEq, Repr

/-- An STO pair (R287-R292): on, OFAULT as kept, a reset has let it go on, and for outputs A (0) and B (1) the tick of
the next test pulse, the start of the last one plus one, and the end of one under way. -/
structure SafOut where
  on : Bool
  ofault : Bool
  byReset : Bool
  next : Tab Nat
  last : Tab Nat
  pulse : Tab (Option Nat)
  deriving DecidableEq, Repr

/-- An entry of the change log: its 16 words and the index of its signature (R298). -/
structure SafLog where
  words : List Word
  sig : Nat
  deriving DecidableEq, Repr

/-- The safety island (R282-R300): the configuration body in force, inputs, pairs, password hash and salt, change log,
failed checks, remaining time of a lockout with the tick from which it runs, the tick of the start. -/
structure Saf where
  body : List Word
  ins : Tab SafIn
  outs : Tab SafOut
  hash : Option (BitVec 256)
  salt : List Byte
  log : List SafLog
  seq : Nat
  fails : Nat
  lock : Nat
  lockBase : Nat
  started : Nat
  deriving DecidableEq, Repr
/-- A frame in a transmit FIFO: its entry of 20 words (R337) and the epoch in which it was built (R396). -/
structure CanTx where
  words : List Word
  epoch : Word
  deriving DecidableEq, Repr

/-- A CAN channel (R334-R353): transmit FIFO, retries of its head, whether a cancelled head is not retried, completions,
receive FIFO, whether a drop has been recorded since it was empty, consecutive acknowledgement errors, sequences of the
transmit objects, and the tick plus one on which each filter last matched. -/
structure Can where
  tx : List CanTx
  retries : Nat
  last : Bool
  done : List (Word × Word)
  rx : List (List Word)
  dropped : Bool
  ackErrs : Nat
  seqs : Tab Nat
  seen : Tab Nat
  deriving DecidableEq, Repr
/-- A frame in an egress queue: its bytes, its class, the epoch of a transmit object's build, the ingress instant in ns
and port of a PTP event message that is to be corrected (R359). -/
structure EthTx where
  bytes : List Byte
  pcp : Nat
  obj : Option Word
  ptp : Option (Int × Nat)
  deriving DecidableEq, Repr

/-- An Ethernet port: its egress queues in order of arrival, the tick until which it sends, and its gate list with the
comparator that repeats it, a loaded list not yet in effect, the entry in force and its end (R356). -/
structure EthPort where
  queue : List EthTx
  busy : Nat
  gates : List (Nat × Nat)
  gatesNew : Option (List (Nat × Nat))
  gateTt : Nat
  gateIdx : Option Nat
  gateEnd : Nat
  deriving DecidableEq, Repr

/-- A pair's duplicate table, oldest first: source MAC, sequence, tick of entry; its running counter; the tick plus one
of its last supervision frame (R368-R370). -/
structure EthPair where
  table : List (Nat × Nat × Nat)
  count : Nat
  sup : Nat
  deriving DecidableEq, Repr

/-- The servo (R360-R363): the next Sync is the first measurement, the latest addends (newest first), the tick of the
loss in holdover, the residual with the tick from which it is removed, the latest offsets against domains A and B, and
the tick plus one since which LOCKA holds. -/
structure Ptp where
  first : Bool
  addends : List Nat
  lossTick : Nat
  residual : Int
  resTick : Nat
  ofsA : Int
  ofsB : Int
  lockSince : Nat
  deriving DecidableEq, Repr

/-- The switch and exchange unit: ports, pairs, learned addresses (MAC, VID, port, tick), ticks plus one at which each
receive object last took a frame, overlong frames dropped per port, the servo. -/
structure Eth where
  ports : Tab EthPort
  pairs : Tab EthPair
  macs : List (Nat × Nat × Nat × Nat)
  seen : Tab Nat
  overlong : Tab Nat
  ptp : Ptp
  deriving DecidableEq, Repr
/-- A Plajo frame: its type, its four header words and its body. -/
structure PljFrame where
  typ : Nat
  head : List Word
  body : List Word
  deriving DecidableEq, Repr

/-- A Plajo port (R373-R378): frames that wait, the frame under transmission with the cells left, the next LSEQ, cells
not acknowledged, cells to send again, the last LSEQ received in order, whether cells are discarded until it is followed,
failures of that cell in a row, the latest delay measurements (newest first), the last cell time used. -/
structure PljPort where
  queue : List PljFrame
  cur : Option (PljFrame × Nat)
  seq : Nat
  unacked : List Nat
  resend : Nat
  rxSeq : Nat
  dropping : Bool
  fails : Nat
  dlys : List Nat
  slot : Nat
  deriving DecidableEq, Repr

/-- Plajo Link: ports, the frame sequence, the last 64 keys taken from each source, ticks plus one of the last presence
frame by device * 4 + port, of the last presence frame and root SYNC sent, of the last send of the head notice of each
routed channel with its frame sequence, the points that other devices read with the device, whether a SYNC has been
taken since the start. -/
structure Plj where
  ports : Tab PljPort
  fseq : Nat
  keys : Tab (List Nat)
  seen : Tab Nat
  presSent : Nat
  syncSent : Nat
  mbxTx : Tab (Nat × Nat)
  subs : List (Word × Nat)
  synced : Bool
  deriving DecidableEq, Repr
/-- An output of a dovetail member: its tick as TS64, the unit (its Scribe source), its words (R400). -/
structure DuoOut where
  ts : Dbl
  unit : Nat
  words : List Word
  deriving DecidableEq, Repr

/-- A dovetail member (R390-R412). Epochs are numbered by TS64. -/
structure Duo where
  /-- Tick from which a member that has no role yet waits for its partner (R392). -/
  deciding : Option Nat
  /-- This start is a RESUME; the role stored by the last save. -/
  resume : Bool
  stored : Nat
  partner : Option Hb
  /-- Tick plus one of the last arrival by path: 0 PORTA, 1 PORTB, 2 witness; of the last heartbeat sent. -/
  seen : Tab Nat
  hbSent : Nat
  /-- A transfer is requested; SYNCED is entered at the next epoch boundary. -/
  request : Bool
  syncNext : Bool
  /-- The epoch under way; the epoch whose frames are sent, with the number of the next one. -/
  cur : Nat
  txEpoch : Nat
  txIdx : Nat
  /-- Epochs ended and neither confirmed nor released, with the tick of their end; the last epoch confirmed. -/
  ends : List (Nat × Nat)
  confirmed : Nat
  /-- Mirror sequence at the start of the latest epochs. -/
  msAt : List (Nat × Word)
  /-- Digests of the member's own latest epochs (R400). -/
  digests : List (Nat × Dbl)
  switch : Bool
  /-- Standby: entries that wait, frames taken (epoch and index), END frames that wait for ECONF with their MSEQ, the
  instant up to which events are known, the primary's digests, the epoch that ends in a handover, the place in the
  journal ring in lines, whether an entry is being applied, values for PRD by engine. -/
  inbox : List DuoEntry
  taken : List (Nat × Nat)
  endsIn : List (Nat × Word)
  cover : Nat
  digestIn : List (Nat × Dbl)
  handover : Option Nat
  jpos : Nat
  replay : Bool
  prd : Tab (List (Word × Bool))
  /-- Mirror: last sequence sent, records not acknowledged with their class (0 SCRIBE, 1 REC, 2 IMAGE,
  3 BANK), Scribe records not mirrored; last
  sequence applied. -/
  mseq : Word
  unacked : List (Word × Nat)
  mirLost : Nat
  mseqIn : Word
  /-- Tick on which a takeover's steps end; inputs are collected from the next epoch boundary on (R407). -/
  takeover : Option Nat
  deriving DecidableEq, Repr
/-- Where the device stands between its feeds and control (R449-R460): at work; the ordered save; without its logic
supply; held by RESET_N; started and not yet decided; decided; a recovery or factory-test start. -/
inductive PwrPhase where
  | run | saving | off | held | starting | started | recovery
  deriving DecidableEq, Repr

/-- The marker line that the shadow holds (R452): TS64 and calendar seconds of t_p, whether the calendar was valid, the
banks that had owners. -/
structure Mark where
  ts : Dbl
  sec : BitVec 48
  cal : Bool
  banks : List Nat
  deriving DecidableEq, Repr

/-- Feeds, save and start (chapter 22): the phase; the kind of the last reset (SYS_START_STAT.KIND) and whether its save
is full; the tick of t_p, HUPRDY on it, what the marker is to hold; whether step 3 is done; a PFAIL has joined a reset's
save; RESET_N is low; BOOT as sampled; the valid marker; ticks plus one of the start of the ride-through, of the last
measurement below 19.2 V of each feed, and since which each feed has stood at 19.2 V. -/
structure Power where
  phase : PwrPhase
  kind : Nat
  full : Bool
  tp : Nat
  charged : Bool
  next : Mark
  pfDone : Bool
  joined : Bool
  resetLow : Bool
  boot : Nat
  mark : Option Mark
  ride : Nat
  lowA : Nat
  lowB : Nat
  goodA : Nat
  goodB : Nat
  deriving DecidableEq, Repr

/-- What stood at the start of the tick: handle reads (R20) and comparator matches (R45) use it. -/
structure Start where
  regs : Tab Word
  points : Tab Pt
  forces : Tab (Option Force)
  ctxs : Tab Ctx
  deriving DecidableEq, Repr

/-- An effect that takes place at the next tick. -/
inductive Later where
  /-- An accepted OWNER write (R62). -/
  | owner (bank code : Nat) (wipe : Bool) (uwin pwin : Nat)
  /-- A page freed by its sub-client (R68). -/
  | pageFree (page : Nat)
  /-- An output takes its stop state (R241, R277): true for a DQ. -/
  | outStop (dq : Bool) (n : Nat)
  /-- A software trigger becomes visible (R315). -/
  | softTrig
  /-- A policy command of a slot becomes visible (R187). -/
  | policy (slot : Nat)
  /-- A slot completes on the new tick (R159). -/
  | complete (slot : Nat)
  /-- ARM reaches the participants of a slot (R214); the number of its launch. -/
  | gluArm (slot launch : Nat)
  /-- The local participants' replies: participants and whether each is ready. -/
  | gluReply (slot launch : Nat) (arms : List (Nat × Bool))
  /-- A request of a sequencer context takes effect: 2 PAUSE, 3 CONTINUE, 4 ABORT, 5 STOP (R209). -/
  | ctxReq (n req : Nat)
  /-- A context requests the pages that it newly needs (R206). -/
  | ctxPages (n : Nat)
  /-- The waiting step of a context is entered (R207). -/
  | ctxEnter (n : Nat)
  /-- A position channel returns to ACTIVE (R259). -/
  | posClr (n : Nat)
  /-- A write through a remote point of another device takes effect (R384). -/
  | remote (h v : Word) (valid : Bool)
  /-- A unit is reset alone, by its owner code (R455). -/
  | unitReset (code : Nat)
  deriving DecidableEq, Repr

/-- Everything the spec gives the device. -/
structure Dev where
  /-- Registers by BAR offset; a per-requester register at offset + (requester + 1) * 2^26. Unlisted: reset value. -/
  regs : Tab Word
  /-- High halves latched and low halves staged, per requester and pair (R10). -/
  latch : Tab (Option Word)
  staged : Tab (Option Word)
  bus : Bus
  /-- Ticks of the time base so far; steps of time do not move it. -/
  ticks : Nat
  /-- Counter of free values drawn. -/
  free : Nat
  points : Tab Pt
  claims : Tab (Option Writer)
  /-- Rank of the writer of a setpoint on this tick (R19). -/
  spRank : Tab Nat
  start : Start
  /-- Handles written on this tick. -/
  wrote : List Word
  /-- Bits that hardware set on this tick (R5). -/
  hwSet : Tab Word
  /-- Registers written by software on this tick, with the number of the last requester plus one (R428). -/
  swWrote : Tab Nat
  later : List Later
  mem : List Host.Cell
  time : Time
  cal : Cal
  stamps : Tab (List Stamp)
  scribe : Scribe
  recorder : Recorder
  pool : Pool
  policy : Policy
  /-- The force table (R146). -/
  forces : Tab (Option Force)
  ctxs : Tab Ctx
  /-- Tasks by engine * 16 + task. -/
  tasks : Tab Task
  engs : Tab Eng
  timers : Tab Timer
  counters : Tab Counter
  aos : Tab Ao
  dqs : Tab Dq
  /-- What left the device on this tick. -/
  sent : List Sent
  /-- Events collected into the input set and not yet sent (R393, R394). -/
  duoSet : List DuoEntry
  loops : Tab Loop
  tiles : Tab Tile
  /-- Control is halted since PFAIL (R449). -/
  halted : Bool
  /-- Ends of the mailbox channels: channel * 2 + end. -/
  mbx : Tab MbxEnd
  acks : List Ack
  /-- Identities whose unit is reset on this tick (R421). -/
  inReset : List Nat
  glus : Tab Glu
  /-- Fetches of the two sequencer units, in request order. -/
  fetches : Tab (List Fetch)
  /-- Ports over which a device's presence frames arrive (R381, R388). -/
  via : Tab (List Nat)
  adcs : Tab Adc
  poss : Tab Pos
  diGrps : Tab DiGrp
  dis : Tab Di
  /-- Tick plus one since which each supply threshold has been met (0: not): LPI for Type 1 and Type 3 at 0 and 1, LPg
  for SAG, SUSP and UNPWR at 4 + 3g, 5 + 3g, 6 + 3g (R268, R275). -/
  supply : Tab Nat
  fuses : Fuses
  sec : Sec
  /-- Image store: the four staging slots by slot * 2^26 + byte, and the program pages by page * 4096 + byte. -/
  staging : List Host.Cell
  store : List Host.Cell
  /-- Firmware and policy images: pending and in force. -/
  sysfwNext : Option Img
  sysfw : Option Img
  policyNext : Option Img
  policyImg : Option Img
  /-- Digests of the engine images laid into veneer halves, by bank (R442). -/
  halfDigest : Tab (BitVec 256)
  saf : Saf
  cans : Tab Can
  /-- Tick from which the CAN start-of-frame counters count (R347). -/
  sofBase : Nat
  /-- Last epoch whose frames a synced primary has released (R396). -/
  duoRel : Word
  eth : Eth
  plj : Plj
  duo : Duo
  /-- Outputs of the epochs whose digest is not formed yet (R400). -/
  duoOuts : List DuoOut
  /-- Response page words of the last command of each host session (R432), and the recovery start of R433. -/
  hostResp : Tab (List Word)
  recovery : Bool
  power : Power
  deriving DecidableEq, Repr

def MarkWhy.no : MarkWhy := ⟨false, false, false, false⟩

/-- The device after reset (R6): every register at its reset value (no entry listed), memory with nothing listed. -/
def Dev.reset : Dev where
  regs := []
  latch := []
  staged := []
  bus := ⟨.idle, 0⟩
  ticks := 0
  free := 0
  points := []
  claims := []
  spRank := []
  start := ⟨[], [], [], []⟩
  wrote := []
  hwSet := []
  swWrote := []
  later := []
  mem := []
  time := ⟨0, 0, none, [], false, none, [], [], [], none, [], []⟩
  cal := ⟨0, 0, none, none, 0, false⟩
  stamps := []
  scribe := ⟨[], .no, [], [], 0, [], [], 0, 0, false, 0⟩
  recorder := ⟨[], [], [], .no, [], [], [], 0, 0, 0, [], [], 0, 0, 0, [], [], [], false⟩
  pool := ⟨[], [], [], [], [], [], [], [], [], [], [], none, [], none, [], []⟩
  policy := ⟨[], [], [], [], []⟩
  forces := []
  ctxs := []
  tasks := []
  engs := []
  timers := []
  counters := []
  aos := []
  dqs := []
  sent := []
  duoSet := []
  loops := []
  tiles := []
  halted := false
  mbx := []
  acks := []
  inReset := []
  glus := []
  fetches := []
  via := []
  adcs := []
  poss := []
  diGrps := []
  dis := []
  supply := []
  fuses := ⟨[], false, true⟩
  sec := ⟨0, 0, [], none, none⟩
  staging := []
  store := []
  sysfwNext := none
  sysfw := none
  policyNext := none
  policyImg := none
  halfDigest := []
  saf := ⟨List.replicate 20 0, [], [], none, [], [], 0, 0, 0, 0, 0⟩
  cans := []
  sofBase := 0
  duoRel := 0
  eth := ⟨[], [], [], [], [], ⟨true, [], 0, 0, 0, 0, 0, 0⟩⟩
  plj := ⟨[], 0, [], [], 0, 0, [], [], false⟩
  duo := ⟨none, false, 0, none, [], 0, false, false, 0, 0, 0, [], 0, [], [], false, [], [], [], 0, [], none, 0, false, [], 0, [], 0, 0, none⟩
  duoOuts := []
  hostResp := []
  recovery := false
  power := ⟨.run, 1, true, 0, true, ⟨0, 0, false, []⟩, false, false, false, 0, none, 0, 0, 0, 0, 0⟩

end Sys2Proof.Machine
end

