-- ==== Sys2Proof/Syntax.lean ====
section
/-! DEFINITION. The commands of the block: one constructor per row of spec/opcode_table.json, with the row's operands.
A unit number is a `Fin`; a register write carries the word written; a physical event carries what the outside world
shows the block (a level, a raw result, a frame). The docstring of a constructor is the row's mnemonic and rule. -/

namespace Sys2Proof

/-- A command: one row of the command table. -/
inductive Instr where
  /-- REGISTER_WRITE (R5). -/
  | registerWrite (acc : Acc) (off : BitVec 26) (v : Word)
  /-- UNDEFINED_ACCESS (R22). -/
  | undefinedAccess (acc : Acc) (off : BitVec 26) (size : Nat) (write : Bool)
  /-- U_VIEW_VIOLATION (R23). -/
  | uViewViolation (req : Fin 15) (off : BitVec 26) (write : Bool)
  /-- UVIOL_CLR (R24). -/
  | uviolClr
  /-- READ_LO_LATCH (R10). -/
  | readLoLatch (req : Fin 15) (off : BitVec 26)
  /-- STAGE_LO (R10). -/
  | stageLo (req : Fin 15) (off : BitVec 26) (v : Word)
  /-- COMMIT_HI (R10). -/
  | commitHi (acc : Acc) (off : BitVec 26) (v : Word)
  /-- TIME_NOW_READ (R51). -/
  | timeNowRead (req : Fin 15)
  /-- ADDEND_COMMIT (R32). -/
  | addendCommit (req : Fin 15) (v : Word)
  /-- TIME_STEP (R33). -/
  | timeStep (req : Fin 15) (v : Word)
  /-- OFS_EST_WRITE (R35). -/
  | ofsEstWrite (v : Word)
  /-- SEED (R38). -/
  | seed
  /-- SEED_APPLY (R38). -/
  | seedApply
  /-- CAL_COMMIT (R37). -/
  | calCommit (req : Fin 15) (v : Word)
  /-- CAL_LOAD (R37). -/
  | calLoad
  /-- CAL_TICK_READ (R37). -/
  | calTickRead (req : Fin 15)
  /-- SECOND_CROSSING (R47). -/
  | secondCrossing
  /-- CAL_WRITEBACK (R40). -/
  | calWriteback
  /-- PPS_FALL (R47). -/
  | ppsFall
  /-- COMPARATOR_FIRE (R41). -/
  | comparatorFire (n : Fin 64)
  /-- TRG_OUT_PULSE_END (R46). -/
  | trgOutPulseEnd (n : Fin 64)
  /-- CAPTURE_EDGE (R48). -/
  | captureEdge (inp : Fin 5) (rising : Bool) (ps : Fin 4000)
  /-- CU_POP (R49). -/
  | cuPop (n : Fin 32)
  /-- CU_CLR (R49). -/
  | cuClr (n : Fin 32)
  /-- WINDOW_ACCESS (R64). -/
  | windowAccess (acc : Acc) (addr : BitVec 26) (size : Fin 17) (data : Option (BitVec 128)) (same : Bool)
  /-- SCRUB_READ (R60). -/
  | scrubRead (bank : Fin 80) (bits : Fin 146)
  /-- SCRUB_WRITEBACK (R60). -/
  | scrubWriteback (bank : Fin 80)
  /-- RELREQ (R62). -/
  | relreq (bank : Fin 80)
  /-- RELCAN (R62). -/
  | relcan (bank : Fin 80)
  /-- BANK_RELEASE (R62). -/
  | bankRelease (bank : Fin 80)
  /-- OWNER_WRITE (R62). -/
  | ownerWrite (bank : Fin 80) (v : Word)
  /-- WIPE_DONE (R63). -/
  | wipeDone (bank : Fin 80)
  /-- JIG_GO (R69). -/
  | jigGo (v : Word)
  /-- JIG_DONE (R69). -/
  | jigDone (fails : List (Fin 32768))
  /-- JIG_BG_REGION (R70). -/
  | jigBgRegion (fails : List (Fin 80 × Fin 32768))
  /-- PAGE_ALLOC (R67). -/
  | pageAlloc
  /-- PAGE_FREE (R68). -/
  | pageFree (sub : Fin 81) (page : Fin 10240)
  /-- CODE_WRITE (R74). -/
  | codeWrite (e : Fin 8) (v : Word)
  /-- REGION_WRITE (R75). -/
  | regionWrite (e : Fin 8) (q : Bool) (k : Fin 16) (v : Word)
  /-- TASK_MASK_WRITE (R76). -/
  | taskMaskWrite (e : Fin 8) (t : Fin 16) (v : Word)
  /-- TASK_ENABLE (R78). -/
  | taskEnable (e : Fin 8) (t : Fin 16) (v : Word)
  /-- TCRES_WRITE (R96). -/
  | tcresWrite (e : Fin 8) (v : Word)
  /-- MMAP_WRITE (R95). -/
  | mmapWrite (k : Fin 8) (v : Word)
  /-- REQ_RUN (R87). -/
  | reqRun (e : Fin 8)
  /-- REQ_STOP (R87). -/
  | reqStop (e : Fin 8)
  /-- REQ_HOLD (R87). -/
  | reqHold (e : Fin 8)
  /-- ENGINE_STOP (R87). -/
  | engineStop (e : Fin 8)
  /-- ENGINE_WAKE (R82). -/
  | engineWake (e : Fin 8)
  /-- TASK_START (R81). -/
  | taskStart (e : Fin 8)
  /-- TASK_RESUME (R81). -/
  | taskResume (e : Fin 8)
  /-- WATCHDOG_EXPIRY (R86). -/
  | watchdogExpiry (e : Fin 8)
  /-- DBG_STEP (R91). -/
  | dbgStep (e : Fin 8)
  /-- DBG_CYC (R91). -/
  | dbgCyc (e : Fin 8)
  /-- BRK_WRITE (R92). -/
  | brkWrite (e : Fin 8) (k : Fin 8) (v : Word)
  /-- LD (R108). -/
  | hlLd (e : Fin 8) (op : BmOp)
  /-- LDN (R108). -/
  | hlLdn (e : Fin 8) (op : BmOp)
  /-- BM_AND (R108). -/
  | hlBmAnd (e : Fin 8) (op : BmOp)
  /-- BM_ANDN (R108). -/
  | hlBmAndn (e : Fin 8) (op : BmOp)
  /-- BM_OR (R108). -/
  | hlBmOr (e : Fin 8) (op : BmOp)
  /-- ORN (R108). -/
  | hlOrn (e : Fin 8) (op : BmOp)
  /-- BM_XOR (R108). -/
  | hlBmXor (e : Fin 8) (op : BmOp)
  /-- XORN (R108). -/
  | hlXorn (e : Fin 8) (op : BmOp)
  /-- ST (R108). -/
  | hlSt (e : Fin 8) (op : BmOp)
  /-- STN (R108). -/
  | hlStn (e : Fin 8) (op : BmOp)
  /-- SET (R108). -/
  | hlSet (e : Fin 8) (op : BmOp)
  /-- RST (R108). -/
  | hlRst (e : Fin 8) (op : BmOp)
  /-- PLD (R108). -/
  | hlPld (e : Fin 8) (op : BmOp)
  /-- PLDN (R108). -/
  | hlPldn (e : Fin 8) (op : BmOp)
  /-- REDG (R108). -/
  | hlRedg (e : Fin 8) (op : BmOp)
  /-- FEDG (R108). -/
  | hlFedg (e : Fin 8) (op : BmOp)
  /-- NOP (R109). -/
  | hlNop (e : Fin 8)
  /-- END (R109). -/
  | hlEnd (e : Fin 8)
  /-- BKPT (R109). -/
  | hlBkpt (e : Fin 8)
  /-- RET (R109). -/
  | hlRet (e : Fin 8)
  /-- PUSH (R109). -/
  | hlPush (e : Fin 8)
  /-- POP (R109). -/
  | hlPop (e : Fin 8)
  /-- ANDS (R109). -/
  | hlAnds (e : Fin 8)
  /-- ORS (R109). -/
  | hlOrs (e : Fin 8)
  /-- XORS (R109). -/
  | hlXors (e : Fin 8)
  /-- NOTBA (R109). -/
  | hlNotba (e : Fin 8)
  /-- SETBA (R109). -/
  | hlSetba (e : Fin 8)
  /-- CLRBA (R109). -/
  | hlClrba (e : Fin 8)
  /-- ZTB (R109). -/
  | hlZtb (e : Fin 8)
  /-- NTB (R109). -/
  | hlNtb (e : Fin 8)
  /-- VTB (R109). -/
  | hlVtb (e : Fin 8)
  /-- CTB (R109). -/
  | hlCtb (e : Fin 8)
  /-- CLRF (R109). -/
  | hlClrf (e : Fin 8)
  /-- ADD (R111). -/
  | hlAdd (e : Fin 8) (d x y : Fin 16)
  /-- ADC (R111). -/
  | hlAdc (e : Fin 8) (d x y : Fin 16)
  /-- SUB (R111). -/
  | hlSub (e : Fin 8) (d x y : Fin 16)
  /-- SBC (R111). -/
  | hlSbc (e : Fin 8) (d x y : Fin 16)
  /-- AND (R111). -/
  | hlAnd (e : Fin 8) (d x y : Fin 16)
  /-- OR (R111). -/
  | hlOr (e : Fin 8) (d x y : Fin 16)
  /-- XOR (R111). -/
  | hlXor (e : Fin 8) (d x y : Fin 16)
  /-- ANDN (R111). -/
  | hlAndn (e : Fin 8) (d x y : Fin 16)
  /-- NOT (R111). -/
  | hlNot (e : Fin 8) (d x : Fin 16)
  /-- NEG (R111). -/
  | hlNeg (e : Fin 8) (d x : Fin 16)
  /-- ABS (R111). -/
  | hlAbs (e : Fin 8) (d x : Fin 16)
  /-- MOV (R111). -/
  | hlMov (e : Fin 8) (d x : Fin 16)
  /-- MIN (R111). -/
  | hlMin (e : Fin 8) (d x y : Fin 16)
  /-- MAX (R111). -/
  | hlMax (e : Fin 8) (d x y : Fin 16)
  /-- MINU (R111). -/
  | hlMinu (e : Fin 8) (d x y : Fin 16)
  /-- MAXU (R111). -/
  | hlMaxu (e : Fin 8) (d x y : Fin 16)
  /-- MUL (R111). -/
  | hlMul (e : Fin 8) (d x y : Fin 16)
  /-- MULH (R111). -/
  | hlMulh (e : Fin 8) (d x y : Fin 16)
  /-- MULHU (R111). -/
  | hlMulhu (e : Fin 8) (d x y : Fin 16)
  /-- DIV (R112). -/
  | hlDiv (e : Fin 8) (d x y : Fin 16)
  /-- DIVU (R112). -/
  | hlDivu (e : Fin 8) (d x y : Fin 16)
  /-- REM (R112). -/
  | hlRem (e : Fin 8) (d x y : Fin 16)
  /-- REMU (R112). -/
  | hlRemu (e : Fin 8) (d x y : Fin 16)
  /-- ADDI (R111). -/
  | hlAddi (e : Fin 8) (d x : Fin 16) (imm : BitVec 14)
  /-- ANDI (R111). -/
  | hlAndi (e : Fin 8) (d x : Fin 16) (imm : BitVec 14)
  /-- ORI (R111). -/
  | hlOri (e : Fin 8) (d x : Fin 16) (imm : BitVec 14)
  /-- XORI (R111). -/
  | hlXori (e : Fin 8) (d x : Fin 16) (imm : BitVec 14)
  /-- MULI (R111). -/
  | hlMuli (e : Fin 8) (d x : Fin 16) (imm : BitVec 14)
  /-- MOVI (R111). -/
  | hlMovi (e : Fin 8) (d : Fin 16) (imm : BitVec 16)
  /-- MOVU (R111). -/
  | hlMovu (e : Fin 8) (d : Fin 16) (imm : BitVec 16)
  /-- MOVH (R111). -/
  | hlMovh (e : Fin 8) (d : Fin 16) (imm : BitVec 16)
  /-- ICMP (R113). -/
  | hlIcmp (e : Fin 8) (p : Bool) (cond : Fin 10) (x y : Fin 16)
  /-- ICMPI (R113). -/
  | hlIcmpi (e : Fin 8) (p : Bool) (cond : Fin 8) (x : Fin 16) (imm : BitVec 14)
  /-- SHL (R114). -/
  | hlShl (e : Fin 8) (d x y : Fin 16)
  /-- SHR (R114). -/
  | hlShr (e : Fin 8) (d x y : Fin 16)
  /-- SAR (R114). -/
  | hlSar (e : Fin 8) (d x y : Fin 16)
  /-- ROL (R114). -/
  | hlRol (e : Fin 8) (d x y : Fin 16)
  /-- SHLI (R114). -/
  | hlShli (e : Fin 8) (d x : Fin 16) (n : Fin 32)
  /-- SHRI (R114). -/
  | hlShri (e : Fin 8) (d x : Fin 16) (n : Fin 32)
  /-- SARI (R114). -/
  | hlSari (e : Fin 8) (d x : Fin 16) (n : Fin 32)
  /-- ROLI (R114). -/
  | hlRoli (e : Fin 8) (d x : Fin 16) (n : Fin 32)
  /-- LDB (R114). -/
  | hlLdb (e : Fin 8) (x : Fin 16) (n : Fin 32)
  /-- PLDB (R114). -/
  | hlPldb (e : Fin 8) (x : Fin 16) (n : Fin 32)
  /-- STB (R114). -/
  | hlStb (e : Fin 8) (d : Fin 16) (n : Fin 32)
  /-- BTW (R114). -/
  | hlBtw (e : Fin 8) (d : Fin 16)
  /-- WTB (R114). -/
  | hlWtb (e : Fin 8) (x : Fin 16)
  /-- ANDB (R114). -/
  | hlAndb (e : Fin 8) (x : Fin 16) (n : Fin 32)
  /-- ORB (R114). -/
  | hlOrb (e : Fin 8) (x : Fin 16) (n : Fin 32)
  /-- LDW (R115). -/
  | hlLdw (e : Fin 8) (d : Fin 16) (sp : Fin 8) (addr : BitVec 19)
  /-- STW (R115). -/
  | hlStw (e : Fin 8) (d : Fin 16) (sp : Fin 8) (addr : BitVec 19)
  /-- LDX (R115). -/
  | hlLdx (e : Fin 8) (d : Fin 16) (sp : Fin 8) (wb : Fin 16) (ofs : BitVec 15)
  /-- STX (R115). -/
  | hlStx (e : Fin 8) (d : Fin 16) (sp : Fin 8) (wb : Fin 16) (ofs : BitVec 15)
  /-- FLD (R115). -/
  | hlFld (e : Fin 8) (d : Fin 8) (sp : Fin 8) (addr : BitVec 19)
  /-- FST (R115). -/
  | hlFst (e : Fin 8) (d : Fin 8) (sp : Fin 8) (addr : BitVec 19)
  /-- FLDX (R115). -/
  | hlFldx (e : Fin 8) (d : Fin 8) (sp : Fin 8) (wb : Fin 16) (ofs : BitVec 15)
  /-- FSTX (R115). -/
  | hlFstx (e : Fin 8) (d : Fin 8) (sp : Fin 8) (wb : Fin 16) (ofs : BitVec 15)
  /-- BR (R116). -/
  | hlBr (e : Fin 8) (cond : Fin 15) (target : BitVec 17)
  /-- CALL (R117). -/
  | hlCall (e : Fin 8) (frame : BitVec 8) (target : BitVec 17)
  /-- FADD (R119). -/
  | hlFadd (e : Fin 8) (d x y : Fin 8)
  /-- FSUB (R119). -/
  | hlFsub (e : Fin 8) (d x y : Fin 8)
  /-- FMUL (R119). -/
  | hlFmul (e : Fin 8) (d x y : Fin 8)
  /-- FDIV (R119). -/
  | hlFdiv (e : Fin 8) (d x y : Fin 8)
  /-- FSQRT (R119). -/
  | hlFsqrt (e : Fin 8) (d x : Fin 8)
  /-- FMADD (R119). -/
  | hlFmadd (e : Fin 8) (d x y : Fin 8)
  /-- FMIN (R119). -/
  | hlFmin (e : Fin 8) (d x y : Fin 8)
  /-- FMAX (R119). -/
  | hlFmax (e : Fin 8) (d x y : Fin 8)
  /-- FABS (R119). -/
  | hlFabs (e : Fin 8) (d x : Fin 8)
  /-- FNEG (R119). -/
  | hlFneg (e : Fin 8) (d x : Fin 8)
  /-- FMOV (R119). -/
  | hlFmov (e : Fin 8) (d x : Fin 8)
  /-- FCMP_COMPARE (R120). -/
  | hlFcmpCompare (e : Fin 8) (p : Bool) (cond : Fin 7) (x y : Fin 8)
  /-- FCVTW (R120). -/
  | hlFcvtw (e : Fin 8) (d : Fin 8) (x : Fin 16)
  /-- FCVTU (R120). -/
  | hlFcvtu (e : Fin 8) (d : Fin 8) (x : Fin 16)
  /-- WCVTF (R120). -/
  | hlWcvtf (e : Fin 8) (d : Fin 16) (x : Fin 8)
  /-- WTRF (R120). -/
  | hlWtrf (e : Fin 8) (d : Fin 16) (x : Fin 8)
  /-- FCVTS (R120). -/
  | hlFcvts (e : Fin 8) (d : Fin 8) (x : Fin 16)
  /-- SCVTF (R120). -/
  | hlScvtf (e : Fin 8) (d : Fin 16) (x : Fin 8)
  /-- TON (R122). -/
  | hlTon (e : Fin 8) (x : Bool) (wn : Fin 16) (idx : BitVec 12)
  /-- TOF (R122). -/
  | hlTof (e : Fin 8) (x : Bool) (wn : Fin 16) (idx : BitVec 12)
  /-- TP (R122). -/
  | hlTp (e : Fin 8) (x : Bool) (wn : Fin 16) (idx : BitVec 12)
  /-- TRST (R122). -/
  | hlTrst (e : Fin 8) (x : Bool) (wn : Fin 16) (idx : BitVec 12)
  /-- TIMER_EXPIRY (R123). -/
  | timerExpiry (n : Fin 4096)
  /-- CTU (R124). -/
  | hlCtu (e : Fin 8) (x : Bool) (wn : Fin 16) (idx : BitVec 12)
  /-- CTD (R124). -/
  | hlCtd (e : Fin 8) (x : Bool) (wn : Fin 16) (idx : BitVec 12)
  /-- CRST (R124). -/
  | hlCrst (e : Fin 8) (x : Bool) (wn : Fin 16) (idx : BitVec 12)
  /-- CLDV (R124). -/
  | hlCldv (e : Fin 8) (x : Bool) (wn : Fin 16) (idx : BitVec 12)
  /-- HRD (R126). -/
  | hlHrd (e : Fin 8) (d x : Fin 16)
  /-- HWR (R127). -/
  | hlHwr (e : Fin 8) (x y : Fin 16)
  /-- HRDF (R126). -/
  | hlHrdf (e : Fin 8) (d : Fin 8) (x : Fin 16)
  /-- HWRF (R127). -/
  | hlHwrf (e : Fin 8) (x : Fin 16) (y : Fin 8)
  /-- VLD (R126). -/
  | hlVld (e : Fin 8) (x : Fin 16)
  /-- TSNAP (R128). -/
  | hlTsnap (e : Fin 8) (d : Fin 16)
  /-- TEXE (R128). -/
  | hlTexe (e : Fin 8) (d : Fin 16)
  /-- MPOST (R128). -/
  | hlMpost (e : Fin 8) (d x y : Fin 16)
  /-- MRECV (R128). -/
  | hlMrecv (e : Fin 8) (d x : Fin 16)
  /-- EVT (R128). -/
  | hlEvt (e : Fin 8) (x y : Fin 16) (imm : BitVec 8)
  /-- PRD (R133). -/
  | hlPrd (e : Fin 8) (d x : Fin 16)
  /-- PWR (R133). -/
  | hlPwr (e : Fin 8) (x y : Fin 16)
  /-- PMODE (R133). -/
  | hlPmode (e : Fin 8) (x y : Fin 16)
  /-- PHWR (R132). -/
  | hlPhwr (e : Fin 8) (x y : Fin 16)
  /-- SWITCH_GAP (R141). -/
  | switchGap (e : Fin 8)
  /-- SWITCH_DRAIN (R141). -/
  | switchDrain (e : Fin 8)
  /-- VNR_WITHDRAW (R141). -/
  | vnrWithdraw (e : Fin 8)
  /-- VENEER_SWITCH (R142). -/
  | veneerSwitch (e : Fin 8)
  /-- SWITCH_TIMEOUT (R141). -/
  | switchTimeout (e : Fin 8)
  /-- FORCE_ENABLE (R146). -/
  | forceEnable (req : Fin 15) (v : Word)
  /-- FORCE_UPDATE (R146). -/
  | forceUpdate (req : Fin 15) (v : Word)
  /-- FORCE_CLEAR (R146). -/
  | forceClear (req : Fin 15)
  /-- LT_BANK_WRITE (R152). -/
  | ltBankWrite (n : Fin 8) (v : Word)
  /-- DESCRIPTOR_WRITE (R155). -/
  | descriptorWrite (req : Fin 15) (g : Fin 512) (i : Fin 36) (v : Word)
  /-- HARD_LIMIT_WRITE (R193). -/
  | hardLimitWrite (g : Fin 512) (hi : Bool) (v : Word)
  /-- SLOT_OFF (R171). -/
  | slotOff (g : Fin 512) (glu : Option (Fin 32))
  /-- OPEN_HOLD (R171). -/
  | openHold (g : Fin 512) (glu : Option (Fin 32))
  /-- OPEN_MANUAL (R171). -/
  | openManual (g : Fin 512) (glu : Option (Fin 32))
  /-- CLOSE_ZERO (R173). -/
  | closeZero (g : Fin 512) (glu : Option (Fin 32))
  /-- CLOSE_PRESET (R174). -/
  | closePreset (g : Fin 512) (glu : Option (Fin 32))
  /-- CLOSE_USER (R173). -/
  | closeUser (g : Fin 512) (glu : Option (Fin 32))
  /-- SLOT_WITHDRAW (R171). -/
  | slotWithdraw (g : Fin 512) (glu : Option (Fin 32))
  /-- TILE_WAKE (R169). -/
  | tileWake (n : Fin 8)
  /-- LOOP_UPDATE (R163). -/
  | loopUpdate (n : Fin 8) (ns : Fin 4)
  /-- STALE_TIMEOUT (R183). -/
  | staleTimeout (g : Fin 512)
  /-- RAMP_STEP (R189). -/
  | rampStep (g : Fin 512)
  /-- FBCMD_GO (R187). -/
  | fbcmdGo (g : Fin 512)
  /-- CCLR (R192). -/
  | cclr (g : Fin 512)
  /-- SEQ_BANK_WRITE (R195). -/
  | seqBankWrite (u : Fin 2) (v : Word)
  /-- PROG_WRITE (R196). -/
  | progWrite (n : Fin 16) (v : Word)
  /-- CTX_START (R209). -/
  | ctxStart (n : Fin 16) (step : BitVec 16)
  /-- CTX_PAUSE (R209). -/
  | ctxPause (n : Fin 16) (step : BitVec 16)
  /-- CTX_CONTINUE (R209). -/
  | ctxContinue (n : Fin 16) (step : BitVec 16)
  /-- CTX_ABORT (R209). -/
  | ctxAbort (n : Fin 16) (step : BitVec 16)
  /-- CTX_STOP (R209). -/
  | ctxStop (n : Fin 16) (step : BitVec 16)
  /-- STEP_EVALUATION (R202). -/
  | stepEvaluation (n : Fin 16)
  /-- RAMP_WRITE (R204). -/
  | rampWrite (n : Fin 16) (gen : Fin 4)
  /-- PAGE_ARRIVAL (R207). -/
  | pageArrival (u : Fin 2) (ok : Bool)
  /-- GLU_BUILD (R222). -/
  | gluBuild (n : Fin 32)
  /-- GLU_LAUNCH (R214). -/
  | gluLaunch (n : Fin 32)
  /-- GLU_CANCEL (R216). -/
  | gluCancel (n : Fin 32)
  /-- GLU_FREE (R221). -/
  | gluFree (n : Fin 32)
  /-- ARM_RECEIVED (R215). -/
  | armReceived (n : Fin 32) (seg : Fin 16) (dev : Fin 32) (t : Dbl)
  /-- REPLY_RECEIVED (R216). -/
  | replyReceived (n part : Fin 32) (armed : Bool)
  /-- GLU_DEADLINE (R216). -/
  | gluDeadline (n : Fin 32)
  /-- COMMIT_RECEIVED (R217). -/
  | commitReceived (n : Fin 32) (seg : Fin 16) (dev : Fin 32)
  /-- ABORT_RECEIVED (R216). -/
  | abortReceived (n : Fin 32) (seg : Fin 16) (dev : Fin 32)
  /-- GLU_SWITCH (R217). -/
  | gluSwitch (n : Fin 32)
  /-- GLU_NODEC (R218). -/
  | gluNodec (n : Fin 32)
  /-- REPORT_RECEIVED (R219). -/
  | reportReceived (n part : Fin 32) (switched ofs late : Bool)
  /-- REPORT_WINDOW (R219). -/
  | reportWindow (n : Fin 32)
  /-- MODE_IDLE (R226). -/
  | modeIdle (n : Fin 8)
  /-- MODE_CONTINUOUS (R226). -/
  | modeContinuous (n : Fin 8)
  /-- MODE_TIMED (R227). -/
  | modeTimed (n : Fin 8) (tt : Fin 64)
  /-- ENT_WRITE (R229). -/
  | entWrite (n : Fin 8) (k : Fin 17) (v : Word)
  /-- ROUND_START (R225). -/
  | roundStart (n : Fin 8)
  /-- CONVERSION_DONE (R230). -/
  | conversionDone (n : Fin 8) (code : BitVec 16) (ovr : Bool)
  /-- ANA_CAL (R238). -/
  | anaCal (n : Fin 8)
  /-- CALIBRATION_ROUND (R238). -/
  | calibrationRound (n : Fin 8) (ref : BitVec 16)
  /-- RES_READ (R231). -/
  | resRead (req : Fin 15) (n : Fin 8) (k : Fin 16)
  /-- AO_HCLM (R240). -/
  | aoHclm (req : Fin 15) (m : Fin 16) (on : Bool)
  /-- AO_VAL_WRITE (R240). -/
  | aoValWrite (req : Fin 15) (m : Fin 16) (v : BitVec 16)
  /-- AO_UPDATE (R240). -/
  | aoUpdate (m : Fin 16)
  /-- POS_CTL_WRITE (R246). -/
  | posCtlWrite (n : Fin 16) (v : Word)
  /-- ACCEPTED_TRANSITION (R248). -/
  | acceptedTransition (n : Fin 16) (a b : Bool)
  /-- INDEX (R251). -/
  | index (n : Fin 16)
  /-- TOOTH_EDGE (R253). -/
  | toothEdge (n : Fin 16)
  /-- PHASE_STEP (R255). -/
  | phaseStep (n : Fin 16) (sin cos : Int)
  /-- SSI_FRAME (R257). -/
  | ssiFrame (n : Fin 16) (before after : Bool) (v : Word)
  /-- PUBLICATION (R247). -/
  | publication (n : Fin 16)
  /-- POS_CLR (R259). -/
  | posClr (n : Fin 16)
  /-- SETP (R259). -/
  | setp (n : Fin 16)
  /-- DIG_CTL_WRITE (R263). -/
  | digCtlWrite (g : Fin 8) (v : Word)
  /-- DI_STATE_CHANGE (R266). -/
  | diStateChange (n : Fin 64) (level : Bool)
  /-- WIRE_BREAK (R267). -/
  | wireBreak (n : Fin 64) (brk : Bool)
  /-- LPI_MEASUREMENT (R268). -/
  | lpiMeasurement (volt : BitVec 16)
  /-- DQ_HCLM (R269). -/
  | dqHclm (req : Fin 15) (n : Fin 32) (on : Bool)
  /-- DQ_VAL_WRITE (R269). -/
  | dqValWrite (req : Fin 15) (n : Fin 32) (v : BitVec 16)
  /-- PWM_PERIOD (R270). -/
  | pwmPeriod (n : Fin 32)
  /-- OVERHEAT (R271). -/
  | overheat (n : Fin 32)
  /-- OVT_RETRY (R271). -/
  | ovtRetry (n : Fin 32)
  /-- DQ_RST (R271). -/
  | dqRst (n : Fin 32)
  /-- GROUP_OVERLOAD (R272). -/
  | groupOverload (g : Fin 4)
  /-- READBACK_MISMATCH (R273). -/
  | readbackMismatch (n : Fin 32)
  /-- OPEN_LOAD (R274). -/
  | openLoad (n : Fin 32)
  /-- LP_MEASUREMENT (R275). -/
  | lpMeasurement (g : Fin 4) (volt : BitVec 16)
  /-- SI_CHANGE (R284). -/
  | siChange (k : Fin 8) (chB closed : Bool)
  /-- DISC_EXPIRY (R285). -/
  | discExpiry (k : Fin 8)
  /-- SAFETY_CYCLE (R283). -/
  | safetyCycle (ok : Bool)
  /-- IFAULT (R282). -/
  | ifault
  /-- TEST_PULSE (R288). -/
  | testPulse (p : Fin 4) (b : Fin 2)
  /-- TEST_PULSE_END (R288). -/
  | testPulseEnd (p : Fin 4) (b : Fin 2) (low : Bool)
  /-- CONFIGURE (R296). -/
  | configure (same : Bool)
  /-- SETPW (R297). -/
  | setpw
  /-- LOGREAD (R294). -/
  | logread
  /-- READBACK (R294). -/
  | readback
  /-- LOCKOUT_END (R296). -/
  | lockoutEnd
  /-- REC_ENROL (R302). -/
  | recEnrol (acc : Acc) (e : Fin 8192) (v : Word)
  /-- SWEEP (R304). -/
  | sweep
  /-- RING_WRITE (R305). -/
  | ringWrite
  /-- REC_ENABLE (R310). -/
  | recEnable (v : Word)
  /-- REC_DISABLE (R310). -/
  | recDisable
  /-- REC_ARM (R317). -/
  | recArm
  /-- SOFTTRIG (R315). -/
  | softtrig
  /-- CLRCNT (R321). -/
  | clrcnt
  /-- TRIGGER_ACT (R316). -/
  | triggerAct
  /-- HOST_BURST (R312). -/
  | hostBurst
  /-- HB_RD_WRITE (R313). -/
  | hbRdWrite (v : Word)
  /-- REC_FRAME (R314). -/
  | recFrame
  /-- REFILL (R327). -/
  | refill (l : Fin 511)
  /-- SCRIBE_WRITE (R328). -/
  | scribeWrite
  /-- EVR_ENABLE (R329). -/
  | evrEnable (en : Bool)
  /-- EVR_CLR (R332). -/
  | evrClr (req : Fin 15)
  /-- CURSOR_WRITE (R330). -/
  | cursorWrite (req : Fin 15) (v : Word)
  /-- LIM_CFG_WRITE (R327). -/
  | limCfgWrite (l : Fin 511) (v : Word)
  /-- CAN_MODE (R335). -/
  | canMode (n : Fin 16) (m : Fin 4)
  /-- INTEGRATION_DONE (R335). -/
  | integrationDone (n : Fin 16)
  /-- CAN_PUSH (R337). -/
  | canPush (n : Fin 16) (tag : BitVec 16)
  /-- CAN_CANCEL (R340). -/
  | canCancel (n : Fin 16) (tag : BitVec 16) (bus : Fin 3) (sof : Word)
  /-- DPOP (R341). -/
  | dpop (n : Fin 16)
  /-- RECOVER (R344). -/
  | recover (n : Fin 16)
  /-- RECOVERY_DONE (R344). -/
  | recoveryDone (n : Fin 16)
  /-- CAN_FRAME_SENT (R339). -/
  | canFrameSent (n : Fin 16) (sof : Word)
  /-- TX_ERROR (R339). -/
  | txError (n : Fin 16) (lec : Fin 8) (sof : Word)
  /-- CAN_FRAME_RECEIVED (R345). -/
  | canFrameReceived (n : Fin 16) (w0 w1 : Word) (data : List Byte) (sof : Word)
  /-- CAN_POP (R346). -/
  | canPop (n : Fin 16)
  /-- SNAP (R348). -/
  | snap (n : Fin 16)
  /-- STATION_ABSENT (R351). -/
  | stationAbsent (n : Fin 16) (f : Fin 32)
  /-- PORT_MODE_WRITE (R354). -/
  | portModeWrite (p : Fin 8) (m : Fin 8)
  /-- ETH_FRAME_RECEIVED (R357). -/
  | ethFrameReceived (p : Fin 8) (bytes : List Byte) (sync : Option (Bool × Int))
  /-- MASTER_LOSS (R362). -/
  | masterLoss (b : Bool)
  /-- HOLDOVER_UPDATE (R362). -/
  | holdoverUpdate
  /-- ETH_STATION_ABSENT (R367). -/
  | ethStationAbsent (j : Fin 64)
  /-- SUPERVISION_FRAME (R368). -/
  | supervisionFrame (q : Fin 4)
  /-- CELL_RECEIVED (R374). -/
  | cellReceived (p : Fin 4) (errs : Nat) (lseq ack : BitVec 8) (nak : Bool)
  /-- PORT_TRAINED (R388). -/
  | portTrained (p : Fin 4) (ver : Nat)
  /-- PLJ_FRAME_RECEIVED (R376). -/
  | pljFrameReceived (p : Fin 4) (typ : Fin 8) (h0 h1 h2 h3 : Word) (body : List Word)
  /-- ROOT_SYNC (R378). -/
  | rootSync
  /-- DELAY_EXCHANGE (R378). -/
  | delayExchange (p : Fin 4) (d : Nat)
  /-- PRESENCE_FRAME (R381). -/
  | presenceFrame
  /-- DEVICE_ABSENT (R381). -/
  | deviceAbsent (d : Fin 32)
  /-- MBX_RETRY (R387). -/
  | mbxRetry (m : Fin 64)
  /-- ROLE_DECISION (R392). -/
  | roleDecision
  /-- EPOCH_START (R393). -/
  | epochStart
  /-- INPUT_SET_FRAME (R394). -/
  | inputSetFrame
  /-- REPLAY_ENTRY (R395). -/
  | replayEntry
  /-- ECONF_RECEIVED (R412). -/
  | econfReceived (k : Nat)
  /-- CWAIT_EXPIRY (R396). -/
  | cwaitExpiry
  /-- MIR_FRAME (R403). -/
  | mirFrame (seq : Word) (m : Mirror)
  /-- DUO_RESYNC (R402). -/
  | duoResync
  /-- TRANSFER_DONE (R402). -/
  | transferDone (src : Machine.Dev)
  /-- HEARTBEAT (R405). -/
  | heartbeat (rx : Option (Fin 3 × Hb))
  /-- REPLAY_DRY (R406). -/
  | replayDry
  /-- PARTNER_LOST (R405). -/
  | partnerLost
  /-- DUO_SWITCH (R409). -/
  | duoSwitch
  /-- DUO_LEAVE (R409). -/
  | duoLeave
  /-- CH_CFG_WRITE (R417). -/
  | chCfgWrite (m : Fin 64) (v : Word)
  /-- POST (R421). -/
  | post (acc : Acc) (m : Fin 64) (tag : Word)
  /-- TAKE (R423). -/
  | take (req : Fin 15) (m : Fin 64)
  /-- MBX_REL (R423). -/
  | mbxRel (req : Fin 15) (m : Fin 64)
  /-- MBX_ALLOC (R423). -/
  | mbxAlloc (req : Fin 15) (m : Fin 64)
  /-- SPI_TRANSACTION (R429). -/
  | spiTransaction (op : BitVec 8) (off : Word) (reads : Nat) (words : List Word)
  /-- HOST_RESET (R419). -/
  | hostReset
  /-- INFO (R432). -/
  | info (session : Fin 16)
  /-- IMG_WRITE (R432). -/
  | imgWrite (session : Fin 16)
  /-- IMG_COMMIT (R433). -/
  | imgCommit (session : Fin 16)
  /-- HOST_START (R432). -/
  | hostStart (session : Fin 16)
  /-- HOST_SCRIBE (R432). -/
  | hostScribe (session : Fin 16)
  /-- KEY_ENROL (R439). -/
  | keyEnrol (req : Fin 15) (slot : Fin 4) (page : BitVec 14)
  /-- KEY_REVOKE (R439). -/
  | keyRevoke (req : Fin 15) (slot : Fin 4) (page : BitVec 14)
  /-- ATTEST (R442). -/
  | attest (req : Fin 15) (page : BitVec 14)
  /-- LCS_TRANSITION (R444). -/
  | lcsTransition (req : Fin 15) (target : Fin 8) (page : BitVec 14)
  /-- ID_BUILD_DONE (R440). -/
  | idBuildDone (ok : Bool)
  /-- TAMPER (R445). -/
  | tamper (src : Fin 3)
  /-- STORE_WIPE_DONE (R446). -/
  | storeWipeDone
  /-- FEED_MEASUREMENT (R447). -/
  | feedMeasurement (va vb : BitVec 16)
  /-- PFAIL (R449). -/
  | pfail
  /-- HALT (R451). -/
  | halt (cut : Option Nat) (capOk : Bool) (bad : List Nat) (fails : List (Nat × Nat))
  /-- HOLDUP_READY (R450). -/
  | holdupReady
  /-- RESET_N (R454). -/
  | resetN
  /-- DEVICE_RESET (R454). -/
  | deviceReset (watchdog : Bool)
  /-- DEVICE_COLD_RESET (R454). -/
  | deviceColdReset
  /-- FACTORY_RESET (R454). -/
  | factoryReset
  /-- UNIT_RESET (R455). -/
  | unitReset (code : BitVec 8)
  /-- AON_RESET (R6). -/
  | aonReset
  /-- POWER_GOOD (R459). -/
  | powerGood (boot : Fin 4) (capOk : Bool) (bad : List Nat) (fails : List (Nat × Nat))
  /-- START_DECISION (R458). -/
  | startDecision (known : Bool)
  /-- CONTROL_RESUME (R460). -/
  | controlResume
  /-- RESET_N_RELEASE (R454). -/
  | resetNRelease (boot : Fin 4) (capOk : Bool) (bad : List Nat) (fails : List (Nat × Nat))
  /-- AUTOREV_RETURN (R363). -/
  | autorevReturn
  /-- DUPLICATE_ENTRY_FORGOTTEN (R369). -/
  | duplicateEntryForgotten (q : Fin 4)
  /-- MAC_ENTRY_AGEING (R355). -/
  | macEntryAgeing
  /-- PWM_ON_PHASE_END (R270). -/
  | pwmOnPhaseEnd (n : Fin 32)
  /-- CAN_RECEIVE_ERROR (R342). -/
  | canReceiveError (n : Fin 16) (lec : Fin 8) (eight : Bool)
  /-- GATE_ENTRY_END (R356). -/
  | gateEntryEnd (p : Fin 8)
  /-- PTP_MASTER_SYNC (R358). -/
  | ptpMasterSync (p : Fin 8)
  deriving DecidableEq, Repr

end Sys2Proof
end

