-- ==== Sys2Proof/Machine/State.lean ====
section
/-! DEFINITION. The state of the block: the device (Dev.lean) with the queue of the commands that wait, first in, first
out, the ways a command can stop, and the state after reset. -/

namespace Sys2Proof.Machine

/-- What stops the block with a fault: nothing does (no rule of the spec stops the machine; bus errors, instruction
faults and latched errors are state). The one constructor has no raiser. Safe. -/
inductive Fault where
  /-- Raised by no meaning. Safe. -/
  | none
  deriving DecidableEq, Repr

/-- Why a command has no meaning here. -/
inductive Refusal where
  /-- Raised by an arm of `exec` for a row that has no meaning yet. Safe. -/
  | notModelled (mnemonic : String)
  deriving DecidableEq, Repr

/-- The block: the device and the commands that wait, first in, first out. -/
structure State where
  dev : Dev
  pending : List Instr
  deriving DecidableEq, Repr

/-- The block after reset. -/
def State.reset : State := ⟨Dev.reset, []⟩

end Sys2Proof.Machine
end

