-- ==== Sys2Proof/Machine/Ops.lean ====
section
/-! DEFINITION. The shared operations on the device: register fields, points, claims, the bus answer, bytes of bank
memory, free values. -/

namespace Sys2Proof.Machine

/-! ## Bits -/

/-- Bits `[hi:lo]` of a word as a number. -/
def bitsOf (w : Word) (hi lo : Nat) : Nat := (w.toNat >>> lo) % 2 ^ (hi - lo + 1)

/-- The word with bits `[hi:lo]` replaced. -/
def putBits (w : Word) (hi lo v : Nat) : Word :=
  let mask := (2 ^ (hi - lo + 1) - 1) <<< lo
  (w &&& ~~~(BitVec.ofNat 32 mask)) ||| BitVec.ofNat 32 ((v % 2 ^ (hi - lo + 1)) <<< lo)

/-- Field `f` of a register word. -/
def Fld.of (f : Fld) (w : Word) : Nat := bitsOf w f.hi f.lo

/-- The mask of a field. -/
def Fld.mask (f : Fld) : Word := putBits 0 f.hi f.lo (2 ^ (f.hi - f.lo + 1) - 1)

/-- A signed number from its two's complement in `n` bits. -/
def toSigned (n v : Nat) : Int := if v < 2 ^ (n - 1) then (v : Int) else (v : Int) - 2 ^ n

/-- A signed number as a word in two's complement. -/
def wordOfInt (i : Int) : Word := BitVec.ofInt 32 i

/-- Numbers `0, 1, …, n - 1`. -/
def upto (n : Nat) : List Nat := List.range n

/-! ## Registers (R5, R6) -/

/-- Reset value of the register at a key: the table's value (R6); of EVR_LMAP the group modulo 512, with the fixed
groups at 0 (R327). -/
def resetWord (key : Nat) : Word :=
  let off := key % 0x4000000
  if 0x4C2000 ≤ off && off < 0x4C6000 then
    let g := (off - 0x4C2000) / 4
    if g < 0x10 || (0x0B0 ≤ g && g ≤ 0x0BF) then 0 else BitVec.ofNat 32 (g % 512)
  else
    match findReg off with
    | some (d, _) => BitVec.ofNat 32 d.resetWord
    | none => 0

/-- Key of a requester's own copy of a register. -/
def reqKey (req off : Nat) : Nat := off + (req + 1) * 0x4000000

/-- A register of the device. -/
def Dev.reg (s : Dev) (a : Nat) : Word := tabGet (resetWord a) s.regs a
/-- A register as it stood at the start of the tick (R45, R428). -/
def Dev.reg0 (s : Dev) (a : Nat) : Word := tabGet (resetWord a) s.start.regs a
/-- Write a whole register. -/
def Dev.setReg (s : Dev) (a : Nat) (w : Word) : Dev := { s with regs := tabPut (resetWord a) s.regs a w }
/-- A field of a register. -/
def Dev.get (s : Dev) (a : Nat) (f : Fld) : Nat := f.of (s.reg a)
/-- A field as it stood at the start of the tick. -/
def Dev.get0 (s : Dev) (a : Nat) (f : Fld) : Nat := f.of (s.reg0 a)
/-- A one-bit field. -/
def Dev.bit (s : Dev) (a : Nat) (f : Fld) : Bool := s.get a f == 1
def Dev.bit0 (s : Dev) (a : Nat) (f : Fld) : Bool := s.get0 a f == 1
/-- Set a field. -/
def Dev.set (s : Dev) (a : Nat) (f : Fld) (v : Nat) : Dev := s.setReg a (putBits (s.reg a) f.hi f.lo v)
def Dev.setBit (s : Dev) (a : Nat) (f : Fld) (b : Bool) : Dev := s.set a f (if b then 1 else 0)
/-- Hardware sets a status bit; a clear by software on the same tick leaves it set (R5). -/
def Dev.raise (s : Dev) (a : Nat) (f : Fld) : Dev :=
  let s := s.set a f 1
  { s with hwSet := tabPut 0 s.hwSet a (tabGet 0 s.hwSet a ||| f.mask) }
/-- Count up a field that saturates at its largest value. -/
def Dev.count (s : Dev) (a : Nat) (f : Fld) (n : Nat) : Dev :=
  s.set a f (min (s.get a f + n) (2 ^ (f.hi - f.lo + 1) - 1))
/-- A 64-bit value held in a pair (R10). -/
def Dev.pair (s : Dev) (lo : Nat) : Dbl := (s.reg (lo + 4)) ++ (s.reg lo)
def Dev.pair0 (s : Dev) (lo : Nat) : Dbl := (s.reg0 (lo + 4)) ++ (s.reg0 lo)
def Dev.setPair (s : Dev) (lo : Nat) (v : Dbl) : Dev :=
  (s.setReg lo (v.setWidth 32)).setReg (lo + 4) ((v >>> 32).setWidth 32)

/-! ## Answers and free values -/

def Dev.answer (s : Dev) (st : BusStatus) (d : BitVec 128) : Dev := { s with bus := ⟨st, d⟩ }
/-- A completed read of one word. -/
def Dev.answerWord (s : Dev) (w : Word) : Dev := s.answer .ok (w.setWidth 128)
/-- The error response of an undefined offset (R22): on PCIe (requesters 0 and 1) Unsupported Request, else a bus error. -/
def Dev.undefinedResp (s : Dev) (req : Nat) : Dev := s.answer (if req ≤ 1 then .unsupported else .busError) 0
/-- The error response of a poisoned line (R58). -/
def Dev.poisonResp (s : Dev) (req : Nat) : Dev := s.answer (if req ≤ 1 then .completerAbort else .poisonError) 0

/-- The device with one free value drawn. -/
def Dev.draw (s : Dev) : Dev := { s with free := s.free + 1 }

/-- Put an effect off to the next tick. -/
def Dev.after (s : Dev) (l : Later) : Dev := { s with later := s.later ++ [l] }

/-- TS64 of this tick. -/
def Dev.ts (s : Dev) : Dbl := s.time.ts
/-- Nanoseconds of ticks since reset at the start of this tick. -/
def Dev.ns (s : Dev) : Nat := s.ticks * 4
/-- TS32 of this tick (R29). -/
def Dev.ts32 (s : Dev) : Word := s.time.ts.setWidth 32

/-- Fold over the numbers below `n`. -/
def Dev.each (s : Dev) (n : Nat) (f : Dev → Nat → Dev) : Dev := (upto n).foldl f s

/-! ## Scribe offers: the unit's side of R326 -/

/-- Offer a record with a known code and payload. Offers of a tick are taken in at its end (R326). -/
def Dev.offerCode (s : Dev) (src : Nat) (code : BitVec 16) (sec : Bool) (payload : List Word) : Dev :=
  { s with scribe := { s.scribe with offers := s.scribe.offers ++ [⟨src, code, sec, s.time.ts, payload⟩] } }

/-- Offer the record of an event from source `src` in the code block `base` (its high byte, R324). -/
def Dev.offer (s : Dev) (src base : Nat) (ev : Ev) : Dev :=
  (s.offerCode src (BitVec.ofNat 8 base ++ Config.recordCode ev) false (Config.recordPayload ev s.free)).draw

/-! ## Bytes of bank memory (R4, R52) -/

/-- What a byte that nothing has written reads as: 0 (R54 zeroes the volatile banks at every start and the retained
banks at a FACTORY start). DESIGN CHOICE for retained banks before the first FACTORY start, log 3. -/
def memDefault : Byte := 0

def Dev.byte (s : Dev) (a : Nat) : Byte := tabGet memDefault s.mem a
def Dev.putByte (s : Dev) (a : Nat) (b : Byte) : Dev := { s with mem := tabPut memDefault s.mem a b }

/-- The canonical form of memory. -/
def Memory.wf (m : List Host.Cell) : Bool := tabWf (fun _ => memDefault) m

/-- `n` bytes from an address, lowest first. -/
def Dev.bytes (s : Dev) (a n : Nat) : List Byte := (upto n).map (fun i => s.byte (a + i))

/-- Write bytes from an address on. -/
def Dev.putBytes (s : Dev) (a : Nat) : List Byte → Dev
  | [] => s
  | b :: bs => (s.putByte a b).putBytes (a + 1) bs

/-- Little-endian number of a byte list (R4). -/
def leNat : List Byte → Nat
  | [] => 0
  | b :: bs => b.toNat + 256 * leNat bs

/-- Little-endian bytes of a number. -/
def leBytes : Nat → Nat → List Byte
  | 0, _ => []
  | n + 1, v => BitVec.ofNat 8 v :: leBytes n (v / 256)

def Dev.word (s : Dev) (a : Nat) : Word := BitVec.ofNat 32 (leNat (s.bytes a 4))
def Dev.putWord (s : Dev) (a : Nat) (w : Word) : Dev := s.putBytes a (leBytes 4 w.toNat)
def Dev.words (s : Dev) (a n : Nat) : List Word := (upto n).map (fun i => s.word (a + 4 * i))
def Dev.putWords (s : Dev) (a : Nat) : List Word → Dev
  | [] => s
  | w :: ws => (s.putWord a w).putWords (a + 4) ws

/-- First byte of a bank. -/
def bankBase (b : Nat) : Nat := b * 0x80000
/-- Line number of a byte address in the pool. -/
def lineOf (a : Nat) : Nat := a / 16

/-! ## Handles and points (R15-R20) -/

def hclass (h : Word) : Nat := bitsOf h 31 24
def hindex (h : Word) : Nat := bitsOf h 23 0
/-- The handle of a class and index. -/
def mkHandle (c i : Nat) : Word := BitVec.ofNat 32 (c * 0x1000000 + i)

/-- Number of indices of a class; 0 for a class that is not in the table of R16. -/
def classCount (c : Nat) : Nat :=
  match c with
  | 0x01 => 524288 | 0x02 => 16384 | 0x03 => 524288 | 0x04 => 16384 | 0x08 => 1048576
  | 0x10 => 128 | 0x11 => 16 | 0x12 => 16 | 0x13 => 16 | 0x18 => 64 | 0x19 => 32 | 0x1A => 32
  | 0x20 => 512 | 0x21 => 512 | 0x22 => 512 | 0x23 => 512 | 0x24 => 512 | 0x28 => 16 | 0x29 => 16
  | 0x30 => 4096 | 0x31 => 4096 | 0x38 => 4096 | 0x39 => 4096 | 0x40 => 256 | 0x7F => 4096
  | _ => 0

/-- A handle names a point (R16); the null handle does not (R15). -/
def validHandle (h : Word) : Bool := decide (hindex h < classCount (hclass h))

/-- Classes whose points have one claimed writer (R18). -/
def claimedClass (c : Nat) : Bool := c == 0x11 || c == 0x19 || c == 0x31 || c == 0x39

def Pt.none : Pt := ⟨0, false⟩

/-- The stored value of a point. -/
def Dev.point (s : Dev) (h : Word) : Pt := tabGet Pt.none s.points h.toNat
def Dev.point0 (s : Dev) (h : Word) : Pt := tabGet Pt.none s.start.points h.toNat

/-- Store a point's value and note that it was written on this tick. -/
def Dev.storePoint (s : Dev) (h : Word) (p : Pt) : Dev :=
  { s with points := tabPut Pt.none s.points h.toNat p,
           wrote := if s.wrote.contains h then s.wrote else s.wrote ++ [h] }

/-! ## The input set of a Dovetail pair (R393, R395) -/

/-- The member is SYNCED in a role: 1 PRIMARY, 2 STANDBY. -/
def Dev.syncedAs (s : Dev) (role : Nat) : Bool :=
  let w := s.reg A.DUO_STAT
  F.DUO_STAT_SYNC.of w == 3 && F.DUO_STAT_ROLE.of w == role

/-- The standby's own field units, receivers, comparators, capture units and host port do not drive its units (R395). -/
def Dev.standby (s : Dev) : Bool := s.syncedAs 2 || s.duo.takeover.isSome

/-- TS64 of what happens on this tick in the primary's time: a standby's units act LAG after it (R395). -/
def Dev.actTs (s : Dev) : Dbl :=
  if s.syncedAs 2 && !s.duo.replay then s.time.ts - BitVec.ofNat 64 (s.get A.DUO_CFG F.DUO_CFG_LAG * 1000) else s.time.ts

/-- The epoch of a time (R393). -/
def epochAt (ts : Dbl) : Nat := ts.toNat / 10000
/-- The epoch of what happens on this tick. -/
def Dev.epochNow (s : Dev) : Word := BitVec.ofNat 32 (epochAt s.actTs)

/-- An output of a unit that the digest of a synced member covers (R400). -/
def Dev.output (s : Dev) (unit : Nat) (words : List Word) : Dev :=
  if s.get A.DUO_STAT F.DUO_STAT_SYNC = 3 then { s with duoOuts := s.duoOuts ++ [⟨s.actTs, unit, words⟩] } else s

/-- Mirror records of a class that are not acknowledged. -/
def Dev.mirrorLag (s : Dev) (kind : Nat) : Nat := (s.duo.unacked.filter (fun x => x.2 == kind)).length

/-- A mirror record leaves a synced primary (R403); Scribe records only while fewer than 4096 stand unacknowledged. -/
def Dev.mirror (s : Dev) (kind : Nat) (words : List Word) : Dev :=
  if !s.syncedAs 1 then s
  else if kind = 0 && decide (4096 ≤ s.mirrorLag 0) then
    { s with duo := { s.duo with mirLost := s.duo.mirLost + 1 } }
  else
    let n := s.duo.mseq + 1
    let d := { s.duo with mseq := n, unacked := s.duo.unacked ++ [(n, kind)], mirLost := if kind = 0 then 0 else s.duo.mirLost }
    let w := if kind = 0 then BitVec.ofNat 32 s.duo.mirLost :: words else words
    let x : Sent := ⟨5, kind, 4, n :: w⟩
    ({ s with duo := d, sent := s.sent ++ [x] }).setReg A.DUO_MLAG (BitVec.ofNat 32 d.unacked.length)

/-- A synced primary collects an event into the input set with its tick. -/
def Dev.collect (s : Dev) (kind : Nat) (id value data : Word) (extra : List Word) : Dev :=
  if s.syncedAs 1 && s.duo.takeover.isNone then { s with duoSet := s.duoSet ++ [⟨kind, id, value, data, extra, s.time.ts⟩] } else s

/-- The role STANDBY, in any pair state. -/
def Dev.roleStandby (s : Dev) : Bool := s.get A.DUO_STAT F.DUO_STAT_ROLE == 2

/-- A message leaves the device; a standby sends nothing (R391, R396). -/
def Dev.emit (s : Dev) (x : Sent) : Dev :=
  if s.roleStandby then s else { s with sent := s.sent ++ [x] }

/-- Classes whose writes enter the input set as POINT entries. -/
def inputClass (c : Nat) : Bool :=
  c == 0x10 || c == 0x12 || c == 0x13 || c == 0x18 || c == 0x1A || c == 0x30 || c == 0x38 || c == 0x40 || c == 0x7F

/-- DATA of a POINT entry: VALID, and of a converter result STALE, OVR, KERF and RCNT. -/
def Dev.pointData (s : Dev) (h : Word) (p : Pt) : Word :=
  let flags : Nat :=
    if hclass h = 0x10 then
      let w := s.reg (A.ANA_RES (hindex h / 16) (hindex h % 16))
      F.ANA_RES_STALE.of w * 2 ^ 18 + F.ANA_RES_OVR.of w * 2 ^ 17 + F.ANA_RES_KERF.of w * 2 ^ 16 + F.ANA_RES_RCNT.of w
    else 0
  BitVec.ofNat 32 ((if p.valid then 2 ^ 31 else 0) + flags)

/-- A unit writes a point: an input of a standby has no effect (R395), of a primary it enters the input set. -/
def Dev.putPoint (s : Dev) (h : Word) (p : Pt) : Dev :=
  if inputClass (hclass h) then
    if s.standby || s.halted then s else (s.storePoint h p).collect 1 h p.val (s.pointData h p) []
  else s.storePoint h p

def Dev.claim (s : Dev) (h : Word) : Option Writer := tabGet none s.claims h.toNat
def Dev.setClaim (s : Dev) (h : Word) (w : Option Writer) : Dev :=
  { s with claims := tabPut none s.claims h.toNat w }

/-! ## The block and its queue -/

abbrev Out := Host.Outcome State Fault Refusal

/-- The logic of the device has its supply (R451, R454). -/
def Dev.on (s : Dev) : Bool := s.power.phase != .off

/-- A command acts on the device and leaves the queue; one that needs the feeds alone. -/
def State.raw (s : State) (f : Dev → Dev) : Out := .next { s with dev := f s.dev }
/-- A command that needs the logic supply: without it nothing happens. -/
def State.go (s : State) (f : Dev → Dev) : Out := s.raw (fun d => if d.on then f d else d)
/-- What units do while they are in control: from t_p until T_r nothing (R451, R460). -/
def State.live (s : State) (f : Dev → Dev) : Out := s.raw (fun d => if d.on && !d.halted then f d else d)

end Sys2Proof.Machine
end

