-- ==== Sys2Proof/WellFormed.lean ====
section
/-! DEFINITION. Well-formed commands: those that the outside world can give the block. Numbers of units are in range by
their types; the checks below bound the lists and the numbers that a type does not. -/

namespace Sys2Proof

/-- Lines of the retained banks that fail in a restore, and (bank, row) pairs that fail a test at a start. -/
def findingsOk (bad : List Nat) (fails : List (Nat × Nat)) : Bool :=
  bad.all (fun l => decide (l < 48 * 32768)) && fails.all (fun x => decide (x.1 < 80) && decide (x.2 < 1024))

/-- A mirror record as R403 and R394 shape it: whole records, pages of 4 KiB, lines of the pool. -/
def Mirror.wf : Mirror → Bool
  | .scribe _ ws => decide (4 ≤ ws.length) && decide (ws.length ≤ 64)
  | .recorder _ ws => ws.length == 4
  | .page n ws => decide (n < 262144) && decide (ws.length ≤ 1024)
  | .half a ws => a % 16 == 0 && decide (a + 4 * ws.length ≤ 80 * 0x80000)
  | .bank a ws => a % 16 == 0 && decide (a + 4 * ws.length ≤ 80 * 0x80000)
  | .ack => true

/-- Bytes that a mirror record carries. -/
def Mirror.load : Mirror → Nat
  | .scribe _ ws => 4 * ws.length
  | .recorder _ ws => 4 * ws.length
  | .page _ ws => 4 * ws.length
  | .half _ ws => 4 * ws.length
  | .bank _ ws => 4 * ws.length
  | .ack => 0

/-- A command that the outside world can give. -/
def Instr.wf : Instr → Bool
  | .registerWrite _ _ _ => true
  | .undefinedAccess _ _ size _ => decide (1 ≤ size ∧ size ≤ 16)
  | .uViewViolation _ _ _ | .uviolClr | .readLoLatch _ _ | .stageLo _ _ _ | .commitHi _ _ _ | .timeNowRead _
  | .addendCommit _ _ | .timeStep _ _ | .ofsEstWrite _ | .seed | .seedApply | .calCommit _ _ | .calLoad
  | .calTickRead _ | .secondCrossing | .calWriteback | .ppsFall | .comparatorFire _ | .trgOutPulseEnd _
  | .captureEdge _ _ _ | .cuPop _ | .cuClr _ => true
  | .windowAccess _ _ size _ _ => decide (1 ≤ size.val)
  | .scrubRead _ _ | .scrubWriteback _ | .relreq _ | .relcan _ | .bankRelease _ | .ownerWrite _ _
  | .wipeDone _ | .jigGo _ | .jigDone _ | .jigBgRegion _ | .pageAlloc | .pageFree _ _ | .codeWrite _ _
  | .regionWrite _ _ _ _ | .taskMaskWrite _ _ _ | .taskEnable _ _ _ | .tcresWrite _ _ | .mmapWrite _ _
  | .reqRun _ | .reqStop _ | .reqHold _ | .engineStop _ | .engineWake _ | .taskStart _ | .taskResume _
  | .watchdogExpiry _ | .dbgStep _ | .dbgCyc _ | .brkWrite _ _ _ | .hlLd _ _ | .hlLdn _ _ | .hlBmAnd _ _
  | .hlBmAndn _ _ | .hlBmOr _ _ | .hlOrn _ _ | .hlBmXor _ _ | .hlXorn _ _ | .hlSt _ _ | .hlStn _ _
  | .hlSet _ _ | .hlRst _ _ | .hlPld _ _ | .hlPldn _ _ | .hlRedg _ _ | .hlFedg _ _ | .hlNop _ | .hlEnd _
  | .hlBkpt _ | .hlRet _ | .hlPush _ | .hlPop _ | .hlAnds _ | .hlOrs _ | .hlXors _ | .hlNotba _ | .hlSetba _
  | .hlClrba _ | .hlZtb _ | .hlNtb _ | .hlVtb _ | .hlCtb _ | .hlClrf _ | .hlAdd _ _ _ _ | .hlAdc _ _ _ _
  | .hlSub _ _ _ _ | .hlSbc _ _ _ _ | .hlAnd _ _ _ _ | .hlOr _ _ _ _ | .hlXor _ _ _ _ | .hlAndn _ _ _ _
  | .hlNot _ _ _ | .hlNeg _ _ _ | .hlAbs _ _ _ | .hlMov _ _ _ | .hlMin _ _ _ _ | .hlMax _ _ _ _
  | .hlMinu _ _ _ _ | .hlMaxu _ _ _ _ | .hlMul _ _ _ _ | .hlMulh _ _ _ _ | .hlMulhu _ _ _ _ | .hlDiv _ _ _ _
  | .hlDivu _ _ _ _ | .hlRem _ _ _ _ | .hlRemu _ _ _ _ | .hlAddi _ _ _ _ | .hlAndi _ _ _ _ | .hlOri _ _ _ _
  | .hlXori _ _ _ _ | .hlMuli _ _ _ _ | .hlMovi _ _ _ | .hlMovu _ _ _ | .hlMovh _ _ _ | .hlIcmp _ _ _ _ _
  | .hlIcmpi _ _ _ _ _ | .hlShl _ _ _ _ | .hlShr _ _ _ _ | .hlSar _ _ _ _ | .hlRol _ _ _ _ | .hlShli _ _ _ _
  | .hlShri _ _ _ _ | .hlSari _ _ _ _ | .hlRoli _ _ _ _ | .hlLdb _ _ _ | .hlPldb _ _ _ | .hlStb _ _ _
  | .hlBtw _ _ | .hlWtb _ _ | .hlAndb _ _ _ | .hlOrb _ _ _ | .hlLdw _ _ _ _ | .hlStw _ _ _ _
  | .hlLdx _ _ _ _ _ | .hlStx _ _ _ _ _ | .hlFld _ _ _ _ | .hlFst _ _ _ _ | .hlFldx _ _ _ _ _
  | .hlFstx _ _ _ _ _ | .hlBr _ _ _ | .hlCall _ _ _ | .hlFadd _ _ _ _ | .hlFsub _ _ _ _ | .hlFmul _ _ _ _
  | .hlFdiv _ _ _ _ | .hlFsqrt _ _ _ | .hlFmadd _ _ _ _ | .hlFmin _ _ _ _ | .hlFmax _ _ _ _ | .hlFabs _ _ _
  | .hlFneg _ _ _ | .hlFmov _ _ _ | .hlFcmpCompare _ _ _ _ _ | .hlFcvtw _ _ _ | .hlFcvtu _ _ _
  | .hlWcvtf _ _ _ | .hlWtrf _ _ _ | .hlFcvts _ _ _ | .hlScvtf _ _ _ | .hlTon _ _ _ _ | .hlTof _ _ _ _
  | .hlTp _ _ _ _ | .hlTrst _ _ _ _ | .timerExpiry _ | .hlCtu _ _ _ _ | .hlCtd _ _ _ _ | .hlCrst _ _ _ _
  | .hlCldv _ _ _ _ | .hlHrd _ _ _ | .hlHwr _ _ _ | .hlHrdf _ _ _ | .hlHwrf _ _ _ | .hlVld _ _ | .hlTsnap _ _
  | .hlTexe _ _ | .hlMpost _ _ _ _ | .hlMrecv _ _ _ | .hlEvt _ _ _ _ | .hlPrd _ _ _ | .hlPwr _ _ _
  | .hlPmode _ _ _ | .hlPhwr _ _ _ | .switchGap _ | .switchDrain _ | .vnrWithdraw _ | .veneerSwitch _
  | .switchTimeout _ | .forceEnable _ _ | .forceUpdate _ _ | .forceClear _ | .ltBankWrite _ _
  | .descriptorWrite _ _ _ _ | .hardLimitWrite _ _ _ | .slotOff _ _ | .openHold _ _ | .openManual _ _
  | .closeZero _ _ | .closePreset _ _ | .closeUser _ _ | .slotWithdraw _ _ | .tileWake _ | .loopUpdate _ _
  | .staleTimeout _ | .rampStep _ | .fbcmdGo _ | .cclr _ | .seqBankWrite _ _ | .progWrite _ _ | .ctxStart _ _
  | .ctxPause _ _ | .ctxContinue _ _ | .ctxAbort _ _ | .ctxStop _ _ | .stepEvaluation _ | .rampWrite _ _
  | .pageArrival _ _ | .gluBuild _ | .gluLaunch _ | .gluCancel _ | .gluFree _ | .armReceived _ _ _ _
  | .replyReceived _ _ _ | .gluDeadline _ | .commitReceived _ _ _ | .abortReceived _ _ _ | .gluSwitch _
  | .gluNodec _ | .reportReceived _ _ _ _ _ | .reportWindow _ | .modeIdle _ | .modeContinuous _
  | .modeTimed _ _ | .entWrite _ _ _ | .roundStart _ | .conversionDone _ _ _ | .anaCal _
  | .calibrationRound _ _ | .resRead _ _ _ | .aoHclm _ _ _ | .aoValWrite _ _ _ | .aoUpdate _
  | .posCtlWrite _ _ | .acceptedTransition _ _ _ | .index _ | .toothEdge _ => true
  | .phaseStep _ sin cos => decide (sin.natAbs ≤ 32768 ∧ cos.natAbs ≤ 32768)
  | .ssiFrame _ _ _ _ | .publication _ | .posClr _ | .setp _ | .digCtlWrite _ _ | .diStateChange _ _
  | .wireBreak _ _ | .lpiMeasurement _ | .dqHclm _ _ _ | .dqValWrite _ _ _ | .pwmPeriod _ | .overheat _
  | .ovtRetry _ | .dqRst _ | .groupOverload _ | .readbackMismatch _ | .openLoad _ | .lpMeasurement _ _
  | .siChange _ _ _ | .discExpiry _ | .safetyCycle _ | .ifault | .testPulse _ _ | .testPulseEnd _ _ _
  | .configure _ | .setpw | .logread | .readback | .lockoutEnd | .recEnrol _ _ _ | .sweep | .ringWrite
  | .recEnable _ | .recDisable | .recArm | .softtrig | .clrcnt | .triggerAct | .hostBurst | .hbRdWrite _
  | .recFrame | .refill _ | .scribeWrite | .evrEnable _ | .evrClr _ | .cursorWrite _ _ | .limCfgWrite _ _
  | .canMode _ _ | .integrationDone _ | .canPush _ _ | .canCancel _ _ _ _ | .dpop _ | .recover _
  | .recoveryDone _ | .canFrameSent _ _ | .txError _ _ _ => true
  | .canFrameReceived _ _ _ data _ => decide (data.length ≤ 64)
  | .canPop _ | .snap _ | .stationAbsent _ _ | .portModeWrite _ _ => true
  | .ethFrameReceived _ bytes _ => decide (14 ≤ bytes.length ∧ bytes.length ≤ 16384)
  | .masterLoss _ | .holdoverUpdate | .ethStationAbsent _ | .supervisionFrame _ => true
  | .cellReceived _ errs _ _ _ => decide (errs ≤ 198)
  | .portTrained _ _ => true
  | .pljFrameReceived _ _ _ _ _ _ body => decide (body.length % 4 = 0 ∧ body.length ≤ 4 * 257)
  | .rootSync | .delayExchange _ _ | .presenceFrame | .deviceAbsent _ | .mbxRetry _ | .roleDecision
  | .epochStart | .inputSetFrame | .replayEntry | .econfReceived _ | .cwaitExpiry => true
  | .mirFrame _ m => decide (m.wf = true)
  | .duoResync => true
  | .transferDone src => decide (Machine.Memory.wf src.mem = true)
  | .heartbeat _ | .replayDry | .partnerLost | .duoSwitch | .duoLeave | .chCfgWrite _ _ | .post _ _ _
  | .take _ _ | .mbxRel _ _ | .mbxAlloc _ _ => true
  | .spiTransaction _ off reads words => decide (off.toNat < 2 ^ 26 ∧ reads ≤ 1024 ∧ words.length ≤ 1024)
  | .hostReset | .info _ | .imgWrite _ | .imgCommit _ | .hostStart _ | .hostScribe _ | .keyEnrol _ _ _
  | .keyRevoke _ _ _ | .attest _ _ | .lcsTransition _ _ _ | .idBuildDone _ | .tamper _ | .storeWipeDone
  | .feedMeasurement _ _ | .pfail => true
  | .halt cut _ bad fails => decide (cut.all (fun n => decide (n ≤ 48 * 32768)) = true ∧ findingsOk bad fails = true)
  | .holdupReady | .resetN | .deviceReset _ | .deviceColdReset | .factoryReset | .unitReset _ | .aonReset => true
  | .powerGood _ _ bad fails => decide (findingsOk bad fails = true)
  | .startDecision _ | .controlResume => true
  | .resetNRelease _ _ bad fails => decide (findingsOk bad fails = true)
  | .autorevReturn | .duplicateEntryForgotten _ | .macEntryAgeing | .pwmOnPhaseEnd _ | .canReceiveError _ _ _
  | .gateEntryEnd _ | .ptpMasterSync _ => true

/-- Bytes of data that a command carries in a frame, burst or record. -/
def Instr.load : Instr → Nat
  | .registerWrite _ _ _ | .undefinedAccess _ _ _ _ | .uViewViolation _ _ _ | .uviolClr | .readLoLatch _ _
  | .stageLo _ _ _ | .commitHi _ _ _ | .timeNowRead _ | .addendCommit _ _ | .timeStep _ _ | .ofsEstWrite _
  | .seed | .seedApply | .calCommit _ _ | .calLoad | .calTickRead _ | .secondCrossing | .calWriteback
  | .ppsFall | .comparatorFire _ | .trgOutPulseEnd _ | .captureEdge _ _ _ | .cuPop _ | .cuClr _
  | .windowAccess _ _ _ _ _ | .scrubRead _ _ | .scrubWriteback _ | .relreq _ | .relcan _ | .bankRelease _
  | .ownerWrite _ _ | .wipeDone _ | .jigGo _ | .jigDone _ | .jigBgRegion _ | .pageAlloc | .pageFree _ _
  | .codeWrite _ _ | .regionWrite _ _ _ _ | .taskMaskWrite _ _ _ | .taskEnable _ _ _ | .tcresWrite _ _
  | .mmapWrite _ _ | .reqRun _ | .reqStop _ | .reqHold _ | .engineStop _ | .engineWake _ | .taskStart _
  | .taskResume _ | .watchdogExpiry _ | .dbgStep _ | .dbgCyc _ | .brkWrite _ _ _ | .hlLd _ _ | .hlLdn _ _
  | .hlBmAnd _ _ | .hlBmAndn _ _ | .hlBmOr _ _ | .hlOrn _ _ | .hlBmXor _ _ | .hlXorn _ _ | .hlSt _ _
  | .hlStn _ _ | .hlSet _ _ | .hlRst _ _ | .hlPld _ _ | .hlPldn _ _ | .hlRedg _ _ | .hlFedg _ _ | .hlNop _
  | .hlEnd _ | .hlBkpt _ | .hlRet _ | .hlPush _ | .hlPop _ | .hlAnds _ | .hlOrs _ | .hlXors _ | .hlNotba _
  | .hlSetba _ | .hlClrba _ | .hlZtb _ | .hlNtb _ | .hlVtb _ | .hlCtb _ | .hlClrf _ | .hlAdd _ _ _ _
  | .hlAdc _ _ _ _ | .hlSub _ _ _ _ | .hlSbc _ _ _ _ | .hlAnd _ _ _ _ | .hlOr _ _ _ _ | .hlXor _ _ _ _
  | .hlAndn _ _ _ _ | .hlNot _ _ _ | .hlNeg _ _ _ | .hlAbs _ _ _ | .hlMov _ _ _ | .hlMin _ _ _ _
  | .hlMax _ _ _ _ | .hlMinu _ _ _ _ | .hlMaxu _ _ _ _ | .hlMul _ _ _ _ | .hlMulh _ _ _ _ | .hlMulhu _ _ _ _
  | .hlDiv _ _ _ _ | .hlDivu _ _ _ _ | .hlRem _ _ _ _ | .hlRemu _ _ _ _ | .hlAddi _ _ _ _ | .hlAndi _ _ _ _
  | .hlOri _ _ _ _ | .hlXori _ _ _ _ | .hlMuli _ _ _ _ | .hlMovi _ _ _ | .hlMovu _ _ _ | .hlMovh _ _ _
  | .hlIcmp _ _ _ _ _ | .hlIcmpi _ _ _ _ _ | .hlShl _ _ _ _ | .hlShr _ _ _ _ | .hlSar _ _ _ _ | .hlRol _ _ _ _
  | .hlShli _ _ _ _ | .hlShri _ _ _ _ | .hlSari _ _ _ _ | .hlRoli _ _ _ _ | .hlLdb _ _ _ | .hlPldb _ _ _
  | .hlStb _ _ _ | .hlBtw _ _ | .hlWtb _ _ | .hlAndb _ _ _ | .hlOrb _ _ _ | .hlLdw _ _ _ _ | .hlStw _ _ _ _
  | .hlLdx _ _ _ _ _ | .hlStx _ _ _ _ _ | .hlFld _ _ _ _ | .hlFst _ _ _ _ | .hlFldx _ _ _ _ _
  | .hlFstx _ _ _ _ _ | .hlBr _ _ _ | .hlCall _ _ _ | .hlFadd _ _ _ _ | .hlFsub _ _ _ _ | .hlFmul _ _ _ _
  | .hlFdiv _ _ _ _ | .hlFsqrt _ _ _ | .hlFmadd _ _ _ _ | .hlFmin _ _ _ _ | .hlFmax _ _ _ _ | .hlFabs _ _ _
  | .hlFneg _ _ _ | .hlFmov _ _ _ | .hlFcmpCompare _ _ _ _ _ | .hlFcvtw _ _ _ | .hlFcvtu _ _ _
  | .hlWcvtf _ _ _ | .hlWtrf _ _ _ | .hlFcvts _ _ _ | .hlScvtf _ _ _ | .hlTon _ _ _ _ | .hlTof _ _ _ _
  | .hlTp _ _ _ _ | .hlTrst _ _ _ _ | .timerExpiry _ | .hlCtu _ _ _ _ | .hlCtd _ _ _ _ | .hlCrst _ _ _ _
  | .hlCldv _ _ _ _ | .hlHrd _ _ _ | .hlHwr _ _ _ | .hlHrdf _ _ _ | .hlHwrf _ _ _ | .hlVld _ _ | .hlTsnap _ _
  | .hlTexe _ _ | .hlMpost _ _ _ _ | .hlMrecv _ _ _ | .hlEvt _ _ _ _ | .hlPrd _ _ _ | .hlPwr _ _ _
  | .hlPmode _ _ _ | .hlPhwr _ _ _ | .switchGap _ | .switchDrain _ | .vnrWithdraw _ | .veneerSwitch _
  | .switchTimeout _ | .forceEnable _ _ | .forceUpdate _ _ | .forceClear _ | .ltBankWrite _ _
  | .descriptorWrite _ _ _ _ | .hardLimitWrite _ _ _ | .slotOff _ _ | .openHold _ _ | .openManual _ _
  | .closeZero _ _ | .closePreset _ _ | .closeUser _ _ | .slotWithdraw _ _ | .tileWake _ | .loopUpdate _ _
  | .staleTimeout _ | .rampStep _ | .fbcmdGo _ | .cclr _ | .seqBankWrite _ _ | .progWrite _ _ | .ctxStart _ _
  | .ctxPause _ _ | .ctxContinue _ _ | .ctxAbort _ _ | .ctxStop _ _ | .stepEvaluation _ | .rampWrite _ _
  | .pageArrival _ _ | .gluBuild _ | .gluLaunch _ | .gluCancel _ | .gluFree _ | .armReceived _ _ _ _
  | .replyReceived _ _ _ | .gluDeadline _ | .commitReceived _ _ _ | .abortReceived _ _ _ | .gluSwitch _
  | .gluNodec _ | .reportReceived _ _ _ _ _ | .reportWindow _ | .modeIdle _ | .modeContinuous _
  | .modeTimed _ _ | .entWrite _ _ _ | .roundStart _ | .conversionDone _ _ _ | .anaCal _
  | .calibrationRound _ _ | .resRead _ _ _ | .aoHclm _ _ _ | .aoValWrite _ _ _ | .aoUpdate _
  | .posCtlWrite _ _ | .acceptedTransition _ _ _ | .index _ | .toothEdge _ | .phaseStep _ _ _
  | .ssiFrame _ _ _ _ | .publication _ | .posClr _ | .setp _ | .digCtlWrite _ _ | .diStateChange _ _
  | .wireBreak _ _ | .lpiMeasurement _ | .dqHclm _ _ _ | .dqValWrite _ _ _ | .pwmPeriod _ | .overheat _
  | .ovtRetry _ | .dqRst _ | .groupOverload _ | .readbackMismatch _ | .openLoad _ | .lpMeasurement _ _
  | .siChange _ _ _ | .discExpiry _ | .safetyCycle _ | .ifault | .testPulse _ _ | .testPulseEnd _ _ _
  | .configure _ | .setpw | .logread | .readback | .lockoutEnd | .recEnrol _ _ _ | .sweep | .ringWrite
  | .recEnable _ | .recDisable | .recArm | .softtrig | .clrcnt | .triggerAct | .hostBurst | .hbRdWrite _
  | .recFrame | .refill _ | .scribeWrite | .evrEnable _ | .evrClr _ | .cursorWrite _ _ | .limCfgWrite _ _
  | .canMode _ _ | .integrationDone _ | .canPush _ _ | .canCancel _ _ _ _ | .dpop _ | .recover _
  | .recoveryDone _ | .canFrameSent _ _ | .txError _ _ _ => 0
  | .canFrameReceived _ _ _ data _ => data.length
  | .canPop _ | .snap _ | .stationAbsent _ _ | .portModeWrite _ _ => 0
  | .ethFrameReceived _ bytes _ => bytes.length
  | .masterLoss _ | .holdoverUpdate | .ethStationAbsent _ | .supervisionFrame _ | .cellReceived _ _ _ _ _
  | .portTrained _ _ => 0
  | .pljFrameReceived _ _ _ _ _ _ body => 4 * body.length
  | .rootSync | .delayExchange _ _ | .presenceFrame | .deviceAbsent _ | .mbxRetry _ | .roleDecision
  | .epochStart | .inputSetFrame | .replayEntry | .econfReceived _ | .cwaitExpiry => 0
  | .mirFrame _ m => m.load
  | .duoResync | .transferDone _ | .heartbeat _ | .replayDry | .partnerLost | .duoSwitch | .duoLeave
  | .chCfgWrite _ _ | .post _ _ _ | .take _ _ | .mbxRel _ _ | .mbxAlloc _ _ => 0
  | .spiTransaction _ _ _ words => 4 * words.length
  | .hostReset | .info _ | .imgWrite _ | .imgCommit _ | .hostStart _ | .hostScribe _ | .keyEnrol _ _ _
  | .keyRevoke _ _ _ | .attest _ _ | .lcsTransition _ _ _ | .idBuildDone _ | .tamper _ | .storeWipeDone
  | .feedMeasurement _ _ | .pfail | .halt _ _ _ _ | .holdupReady | .resetN | .deviceReset _ | .deviceColdReset
  | .factoryReset | .unitReset _ | .aonReset | .powerGood _ _ _ _ | .startDecision _ | .controlResume
  | .resetNRelease _ _ _ _ | .autorevReturn | .duplicateEntryForgotten _ | .macEntryAgeing | .pwmOnPhaseEnd _
  | .canReceiveError _ _ _ | .gateEntryEnd _ | .ptpMasterSync _ => 0

end Sys2Proof
end

