-- ==== Sys2Proof/Decode.lean ====
section
/-! DEFINITION. The command that a word of the command table spells. The table gives no row of this hardware any bits
(every row's "fields" is empty), so no word spells a command. -/

namespace Sys2Proof

/-- The command whose table bits are `w`, of `nbits` bits: none, since no row of the table has bits. -/
def decodeTableWord (nbits w : Nat) : Option Instr :=
  match nbits, w with
  | _, _ => none

end Sys2Proof
end

