-- ==== Sys2Proof/Machine/Float.lean ====
section
/-! DEFINITION. IEEE 754 arithmetic in binary64 and binary32, as the float registers of Hiward-L (R118, R119), the
loop datapath (R161) and the conversions of handle values use it: exact results on dyadic numbers, then one rounding
to nearest, ties to even. -/

namespace Sys2Proof.Machine

/-- A decoded number: NaN, an infinity, or `(-1)^neg * m * 2^e` (zero has `m = 0`). -/
inductive Fl where
  | nan
  | inf (neg : Bool)
  | num (neg : Bool) (m : Nat) (e : Int)
  deriving DecidableEq, Repr

/-- A binary interchange format: precision, exponent of the last place of subnormal numbers, width of the exponent. -/
structure FFmt where
  p : Nat
  emin : Int
  w : Nat
  deriving DecidableEq, Repr

def f64 : FFmt := ⟨53, -1074, 11⟩
def f32 : FFmt := ⟨24, -149, 8⟩

/-- The bits of positive infinity. -/
def FFmt.infBits (f : FFmt) : Nat := (2 ^ f.w - 1) * 2 ^ (f.p - 1)
/-- The bits of the default quiet NaN. -/
def FFmt.nanBits (f : FFmt) : Nat := f.infBits + 2 ^ (f.p - 2)
/-- The sign bit. -/
def FFmt.signBit (f : FFmt) (neg : Bool) : Nat := if neg then 2 ^ (f.p + f.w - 1) else 0

/-- Decode the bits of a number. -/
def FFmt.dec (f : FFmt) (b : Nat) : Fl :=
  let neg := (b >>> (f.p + f.w - 1)) % 2 == 1
  let ex := (b >>> (f.p - 1)) % 2 ^ f.w
  let fr := b % 2 ^ (f.p - 1)
  if ex == 2 ^ f.w - 1 then (if fr == 0 then .inf neg else .nan)
  else if ex == 0 then .num neg fr f.emin
  else .num neg (fr + 2 ^ (f.p - 1)) (f.emin + ex - 1)

/-- Shift right with rounding to nearest, ties to even. -/
def rneShift (m k : Nat) : Nat :=
  if k = 0 then m
  else
    let d := m >>> k
    let r := m % 2 ^ k
    if 2 ^ (k - 1) < r || (r == 2 ^ (k - 1) && d % 2 == 1) then d + 1 else d

/-- Round an exact number to the format: the bits of the result. -/
def FFmt.enc (f : FFmt) : Fl → Nat
  | .nan => f.nanBits
  | .inf neg => f.signBit neg + f.infBits
  | .num neg m e =>
    if m = 0 then f.signBit neg
    else
      let q := max (e + (Nat.log2 m + 1 : Nat) - f.p) f.emin
      let d := if q ≤ e then m <<< (e - q).toNat else rneShift m (q - e).toNat
      let b := (q - f.emin).toNat * 2 ^ (f.p - 1) + d
      f.signBit neg + min b f.infBits

/-- Integer coefficient of a number at exponent `e0 ≤ e`. -/
def coefAt (neg : Bool) (m : Nat) (e e0 : Int) : Int :=
  let c : Int := (m <<< (e - e0).toNat : Nat)
  if neg then -c else c

/-- Exact sum; an exact zero from two numbers of different sign is +0. -/
def Fl.add : Fl → Fl → Fl
  | .nan, _ => .nan
  | _, .nan => .nan
  | .inf a, .inf b => if a == b then .inf a else .nan
  | .inf a, .num _ _ _ => .inf a
  | .num _ _ _, .inf b => .inf b
  | .num na ma ea, .num nb mb eb =>
    if ma = 0 && mb = 0 then .num (na && nb) 0 0
    else
      let e0 := min ea eb
      let c := coefAt na ma ea e0 + coefAt nb mb eb e0
      .num (decide (c < 0)) c.natAbs e0

/-- Change of sign. -/
def Fl.neg : Fl → Fl
  | .nan => .nan
  | .inf a => .inf (!a)
  | .num n m e => .num (!n) m e

/-- Exact product. -/
def Fl.mul : Fl → Fl → Fl
  | .nan, _ => .nan
  | _, .nan => .nan
  | .inf a, .inf b => .inf (a != b)
  | .inf a, .num b m _ => if m = 0 then .nan else .inf (a != b)
  | .num a m _, .inf b => if m = 0 then .nan else .inf (a != b)
  | .num na ma ea, .num nb mb eb => .num (na != nb) (ma * mb) (ea + eb)

/-- Quotient with enough bits and a sticky bit below them, so that one later rounding is exact. -/
def Fl.div : Fl → Fl → Fl
  | .nan, _ => .nan
  | _, .nan => .nan
  | .inf _, .inf _ => .nan
  | .inf a, .num b _ _ => .inf (a != b)
  | .num a _ _, .inf b => .num (a != b) 0 0
  | .num na ma ea, .num nb mb eb =>
    if mb = 0 then (if ma = 0 then .nan else .inf (na != nb))
    else if ma = 0 then .num (na != nb) 0 0
    else
      let k := 120 + (Nat.log2 mb)
      let n := ma <<< k
      .num (na != nb) (2 * (n / mb) + (if n % mb = 0 then 0 else 1)) (ea - eb - k - 1)

/-- Integer square root of `n`, one result bit at a time from bit `k` down. -/
def isqrtBits : Nat → Nat → Nat → Nat
  | 0, n, r => if (r + 1) * (r + 1) ≤ n then r + 1 else r
  | k + 1, n, r =>
    let r' := r + 2 ^ (k + 1)
    isqrtBits k n (if r' * r' ≤ n then r' else r)

/-- Integer square root. -/
def isqrt (n : Nat) : Nat := isqrtBits (Nat.log2 n / 2 + 1) n 0

/-- Square root with a sticky bit; of a negative number other than −0: NaN. -/
def Fl.sqrt : Fl → Fl
  | .nan => .nan
  | .inf neg => if neg then .nan else .inf false
  | .num neg m e =>
    if m = 0 then .num neg 0 0
    else if neg then .nan
    else
      let k : Nat := if e % 2 = 0 then 200 else 201
      let n := m <<< k
      let r := isqrt n
      .num false (2 * r + (if r * r = n then 0 else 1)) ((e - k) / 2 - 1)

/-- Numeric order; none when either is NaN. −0 equals +0. -/
def Fl.cmp : Fl → Fl → Option Ordering
  | .nan, _ => none
  | _, .nan => none
  | .inf a, .inf b => some (if a == b then .eq else if a then .lt else .gt)
  | .inf a, .num _ _ _ => some (if a then .lt else .gt)
  | .num _ _ _, .inf b => some (if b then .gt else .lt)
  | .num na ma ea, .num nb mb eb =>
    let e0 := min ea eb
    some (compare (coefAt na ma ea e0) (coefAt nb mb eb e0))

/-- Strictly less (false with a NaN). -/
def Fl.lt (a b : Fl) : Bool := a.cmp b == some .lt
/-- Less or equal (false with a NaN). -/
def Fl.le (a b : Fl) : Bool := a.cmp b == some .lt || a.cmp b == some .eq

def Fl.isNan : Fl → Bool
  | .nan => true
  | _ => false

/-- A finite number (neither NaN nor infinite). -/
def Fl.isFinite : Fl → Bool
  | .num _ _ _ => true
  | _ => false

/-- An integer as an exact number. -/
def Fl.ofInt (i : Int) : Fl := .num (decide (i < 0)) i.natAbs 0

/-- The integer next to a number by rounding toward zero, or to nearest with ties to even; none for NaN and infinity. -/
def Fl.toInt (nearest : Bool) : Fl → Option Int
  | .num neg m e =>
    let a : Nat := if 0 ≤ e then m <<< e.toNat else if nearest then rneShift m (-e).toNat else m >>> (-e).toNat
    some (if neg then -(a : Int) else a)
  | _ => none

/-! ## Operations on binary64 patterns -/

def d64 (b : Dbl) : Fl := f64.dec b.toNat
def e64 (x : Fl) : Dbl := BitVec.ofNat 64 (f64.enc x)
def d32 (b : Word) : Fl := f32.dec b.toNat
def e32 (x : Fl) : Word := BitVec.ofNat 32 (f32.enc x)

def fadd64 (a b : Dbl) : Dbl := e64 ((d64 a).add (d64 b))
def fsub64 (a b : Dbl) : Dbl := e64 ((d64 a).add (d64 b).neg)
def fmul64 (a b : Dbl) : Dbl := e64 ((d64 a).mul (d64 b))
def fdiv64 (a b : Dbl) : Dbl := e64 ((d64 a).div (d64 b))
def fsqrt64 (a : Dbl) : Dbl := e64 (d64 a).sqrt
/-- `a * b + c` rounded once. -/
def fma64 (a b c : Dbl) : Dbl := e64 (((d64 a).mul (d64 b)).add (d64 c))
/-- The exact binary64 of a binary32 pattern. -/
def widen (w : Word) : Dbl := e64 (d32 w)
/-- A binary64 pattern rounded to binary32. -/
def narrow (d : Dbl) : Word := e32 (d64 d)
def isNan64 (d : Dbl) : Bool := (d64 d).isNan
def lt64 (a b : Dbl) : Bool := (d64 a).lt (d64 b)
def le64 (a b : Dbl) : Bool := (d64 a).le (d64 b)

end Sys2Proof.Machine
end

