-- ==== Sys2Proof/Machine/Points.lean ====
section
/-! DEFINITION. Reading points by handle: the native kind of a handle, the points that other state gives (image bits
and words, M words, loop state words, sequencer and safety status), the overlay of forces (R147), and the values as
they stood at the start of the tick (R20). -/

namespace Sys2Proof.Machine

/-- The native value of a class (R16): bit, signed half, unsigned half, unsigned word, signed word, binary32. -/
inductive NKind where
  | bit | half | uhalf | word | sword | f32
  deriving DecidableEq, Repr

/-- Native kind of a class that does not declare it per entry. -/
def classKind (c : Nat) : NKind :=
  match c with
  | 0x01 => .bit | 0x03 => .bit | 0x18 => .bit | 0x1A => .bit
  | 0x10 => .half | 0x11 => .half | 0x19 => .uhalf
  | 0x12 => .sword
  | 0x13 => .f32 | 0x20 => .f32 | 0x21 => .f32 | 0x22 => .f32 | 0x23 => .f32
  | _ => .word

/-- Native kind that a field's FMT declares (R349). -/
def fmtKind (fmt : Nat) : NKind := if fmt = 0 then .bit else if fmt = 6 then .f32 else .word

/-- Register of the field entry behind a class 0x30, 0x31, 0x38 or 0x39 point. -/
def fieldCfgAddr (h : Word) : Nat :=
  let i := hindex h
  if hclass h = 0x30 || hclass h = 0x31 then A.ETH_FLD_CFG i else A.CN_FLD_CFG (i / 256) (i % 256)

/-- A field entry is enabled in the direction of the class: 0x30 and 0x38 receive (DIR 0), 0x31 and 0x39 transmit. -/
def Dev.fieldOn (s : Dev) (h : Word) : Bool :=
  let w := s.reg (fieldCfgAddr h)
  bitsOf w 31 31 == 1 && bitsOf w 30 30 == (if hclass h = 0x31 || hclass h = 0x39 then 1 else 0)

/-- FMT of the field entry behind a handle. -/
def Dev.fieldFmt (s : Dev) (h : Word) : Nat :=
  let w := s.reg (fieldCfgAddr h)
  if hclass h = 0x30 || hclass h = 0x31 then F.ETH_FLD_CFG_FMT.of w else F.CN_FLD_CFG_FMT.of w

def isFieldClass (c : Nat) : Bool := c == 0x30 || c == 0x31 || c == 0x38 || c == 0x39

/-- Native kind of a handle that is not of class 0x7F. -/
def Dev.localKind (s : Dev) (h : Word) : NKind :=
  if isFieldClass (hclass h) then (if s.fieldOn h then fmtKind (s.fieldFmt h) else .word) else classKind (hclass h)

/-- Native kind of a handle; of class 0x7F that of the entry's RHND (R384). -/
def Dev.kind (s : Dev) (h : Word) : NKind :=
  if hclass h = 0x7F then s.localKind (s.reg (A.PLJ_SEGT_RHND (hindex h))) else s.localKind h

/-! ## Forces on reads (R147) -/

/-- The masked bits of a value replaced. -/
def overlay (mask value v : Word) : Word := (v &&& ~~~mask) ||| (value &&& mask)

/-- Acting entries of a force table: enabled and not orphaned. -/
def actingForces (t : Tab (Option Force)) : List Force :=
  t.filterMap (fun p => match p.2 with | some f => if f.enabled && !f.orphan then some f else none | none => none)

/-- The word of the image that a bit or word handle of classes 0x01 to 0x04 lies in, with its mask there. -/
def imagePlace (h m : Word) : Nat × Word :=
  if hclass h = 0x01 || hclass h = 0x03 then (hindex h / 32, BitVec.ofNat 32 (2 ^ (hindex h % 32)))
  else (hindex h, m)

/-- The part of a force that lies in image word `w` of the given bit and word classes: mask and value there. -/
def forcePart (bitC wordC w : Nat) (f : Force) : Option (Word × Word × Bool) :=
  if hclass f.key = bitC || hclass f.key = wordC then
    let (w', m) := imagePlace f.key f.mask
    if w' = w then some (m, if hclass f.key = bitC then (if f.value.getLsbD 0 then m else 0) else f.value, f.valid)
    else none
  else none

/-- Force parts over a point whose bits are `full`: the masked bits replaced when `over`; VALID is the AND of the
forces' VALID and, while a bit is left unforced, of the producer's (R146). -/
def forced (parts : List (Word × Word × Bool)) (full : Word) (ovr : Bool) (p : Pt) : Pt :=
  let ps := parts.filter (fun x => x.1 &&& full != 0)
  if ps.isEmpty then p
  else
    let m := ps.foldl (fun m x => m ||| x.1) 0 &&& full
    ⟨if ovr then ps.foldl (fun v x => overlay (x.1 &&& full) x.2.1 v) p.val else p.val,
      ps.all (fun x => x.2.2) && (m == full || p.valid)⟩

/-- The first acting force whose key is exactly this handle. -/
def forceOn (fs : List Force) (h : Word) : Option Force := fs.find? (fun f => f.key == h)

/-! ## The image (R13, R105) -/

def kindWidth : NKind → Nat
  | .bit => 1 | .half => 16 | .uhalf => 16 | _ => 32

/-- Word `w` of the input image before forces: the fields of its places; VALID is the AND over its places. -/
def Dev.iWordRaw (s : Dev) (pts : Tab Pt) (w : Nat) : Pt :=
  let ps := s.policy.inMap.filter (fun p => p.word == w)
  if ps.isEmpty then Pt.none
  else
    ps.foldl (fun a p =>
      let v := tabGet Pt.none pts p.handle.toNat
      let n := kindWidth (s.localKind p.handle)
      ⟨putBits a.val (p.bit + n - 1) p.bit v.val.toNat, a.valid && v.valid⟩) ⟨0, true⟩

/-- Bit `b` of the input image: its value with the validity of the place that covers it. -/
def Dev.iBitRaw (s : Dev) (pts : Tab Pt) (b : Nat) : Pt :=
  match s.policy.inMap.find? (fun p => p.word == b / 32 && decide (p.bit ≤ b % 32) &&
      decide (b % 32 < p.bit + kindWidth (s.localKind p.handle))) with
  | some p =>
    let v := tabGet Pt.none pts p.handle.toNat
    ⟨BitVec.ofNat 32 ((v.val.toNat >>> (b % 32 - p.bit)) % 2), v.valid⟩
  | none => Pt.none

/-! ## The output image (R75, R84, R93) -/

def bitMask (b : Nat) : Word := BitVec.ofNat 32 (2 ^ b)

/-- First line and number of lines of an enabled region register word. -/
def regionOf (w : Word) : Option (Nat × Nat) :=
  if bitsOf w 31 31 = 1 then some (bitsOf w 11 0, bitsOf w 28 16) else none

/-- A line lies in a region register's region. -/
def inRegion (w : Word) (line : Nat) : Bool :=
  match regionOf w with
  | some (b, n) => decide (b ≤ line) && decide (line < b + n)
  | none => false

/-- The engine and Q region that own a line of the output image (R75). -/
def Dev.qOwner (s : Dev) (line : Nat) : Option (Nat × Nat) :=
  (upto 128).findSome? (fun k =>
    if inRegion (s.reg (A.PE_QREG (k / 16) (k % 16))) line then some (k / 16, k % 16) else none)

/-- Whether forces replace the stop or frozen value of a Q line: its engine is in STOP or HOLD, or its task is FAULTED
(R93, R135). -/
def Dev.qStands (s : Dev) (line : Nat) : Bool :=
  match s.qOwner line with
  | some (e, k) =>
    F.PE_STAT_MODE.of (s.reg (A.PE_STAT e)) != 1 ||
      (upto 16).any (fun t => bitsOf (s.reg (A.PE_TASK_MASK e t)) (16 + k) (16 + k) == 1 &&
        F.PE_TASK_CTL_EN.of (s.reg (A.PE_TASK_CTL e t)) == 1 && F.PE_TASK_STAT_STATE.of (s.reg (A.PE_TASK_STAT e t)) == 5)
  | none => false

/-- Word `w` of the output image, for a reader of the bits `full`. -/
def Dev.qWord (s : Dev) (fs : List Force) (pts : Tab Pt) (w : Nat) (full : Word) : Pt :=
  let p := tabGet Pt.none pts (mkHandle 0x04 w).toNat
  let parts := fs.filterMap (forcePart 0x03 0x04 w)
  if parts.isEmpty then p else forced parts full (s.qStands (w / 4)) p

/-! ## M words (R95, R101) -/

/-- Bank that backs M window `k`, when the window is enabled. -/
def Dev.mBank (s : Dev) (k : Nat) : Option Nat :=
  if s.bit (A.SYS_MMAP k) F.SYS_MMAP_EN then some (s.get (A.SYS_MMAP k) F.SYS_MMAP_BANK) else none

/-- Byte address in the pool of M word `i`. -/
def Dev.mAddr (s : Dev) (i : Nat) : Option Nat := (s.mBank (i / 131072)).map (fun b => bankBase b + i % 131072 * 4)

/-- An M word as an instruction, handle or unit reads it: the stored word with forces over it. -/
def Dev.mWord (s : Dev) (fs : List Force) (i : Nat) : Pt :=
  match s.mAddr i with
  | some a =>
    let v := s.word a
    forced ((fs.filter (fun f => hclass f.key == 0x08 && hindex f.key == i)).map (fun f => (f.mask, f.value, f.valid)))
      0xFFFFFFFF true ⟨v, !tabGet false s.pool.poison (lineOf a)⟩
  | none => Pt.none

/-! ## Safety status items (R299 lists them) -/

/-- Item `i` of class 0x40: the status registers of the SAF block by item number, VALID while READY. -/
def safItemAddr (i : Nat) : Option Nat :=
  if i = 0 then some A.SAF_STAT
  else if 0x10 ≤ i && i < 0x18 then some (A.SAF_SI_STAT (i - 0x10))
  else if 0x20 ≤ i && i < 0x24 then some (A.SAF_STO_STAT (i - 0x20))
  else if i = 48 then some A.SAF_CFG_CRC
  else if i = 49 then some A.SAF_LOG_SEQ
  else none

/-! ## Any point -/

/-- The value of a point from the given registers, points, forces and contexts (those of now or of the start of the
tick). -/
def Dev.ptIn (s : Dev) (st : Start) (h : Word) : Pt :=
  let s0 : Dev := { s with regs := st.regs }
  let fs := actingForces st.forces
  let i := hindex h
  match hclass h with
  | 0x01 =>
    let p := s0.iBitRaw st.points i
    let p := forced (fs.filterMap (forcePart 0x01 0x02 (i / 32))) (bitMask (i % 32)) true
      ⟨BitVec.ofNat 32 (p.val.toNat <<< (i % 32)), p.valid⟩
    ⟨BitVec.ofNat 32 ((p.val.toNat >>> (i % 32)) % 2), p.valid⟩
  | 0x02 => forced (fs.filterMap (forcePart 0x01 0x02 i)) 0xFFFFFFFF true (s0.iWordRaw st.points i)
  | 0x03 =>
    let p := s0.qWord fs st.points (i / 32) (bitMask (i % 32))
    ⟨BitVec.ofNat 32 ((p.val.toNat >>> (i % 32)) % 2), p.valid⟩
  | 0x04 => s0.qWord fs st.points i 0xFFFFFFFF
  | 0x08 => s0.mWord fs i
  | 0x24 => ⟨s0.reg (A.LT_SLOT_STAT (i / 64) (i % 64)), true⟩
  | 0x28 => ⟨BitVec.ofNat 32 (tabGet Ctx.idle st.ctxs i).step, s0.get (A.SEQ_CTX_STAT i) F.SEQ_CTX_STAT_MODE != 0⟩
  | 0x29 => ⟨BitVec.ofNat 32 ((tabGet Ctx.idle st.ctxs i).ticks / 250), s0.get (A.SEQ_CTX_STAT i) F.SEQ_CTX_STAT_MODE != 0⟩
  | 0x40 =>
    match safItemAddr i with
    | some a => ⟨s0.reg a, s0.bit A.SAF_STAT F.SAF_STAT_READY⟩
    | none => Pt.none
  | _ =>
    let p := tabGet Pt.none st.points h.toNat
    if isFieldClass (hclass h) && !s0.fieldOn h then Pt.none
    else
      match forceOn fs h with
      | some f => ⟨f.value, f.valid⟩
      | none => p

/-- The value of a point as it stands now. -/
def Dev.now (s : Dev) (h : Word) : Pt := s.ptIn ⟨s.regs, s.points, s.forces, s.ctxs⟩ h
/-- A read through a handle: the value that stood at the start of the tick (R20). -/
def Dev.hread (s : Dev) (h : Word) : Pt := s.ptIn s.start h

end Sys2Proof.Machine
end

