-- ==== Sys2Proof/Machine/Format.lean ====
section
/-! DEFINITION. Formats of a value carried in one word: which format a class allows (LT_SLOT_CFG.SPFMT, R156, R302),
and its conversion to binary64 (R161). -/

namespace Sys2Proof.Machine

/-- A format code (0 native, 1 binary32 pattern, 2 unsigned integer) is allowed for a native kind. -/
def fmtAllowed (k : NKind) (fmt : Nat) : Bool :=
  match fmt with
  | 0 => true
  | 1 => k == .word || k == .sword
  | 2 => k == .word || k == .sword || k == .half || k == .uhalf
  | _ => false

/-- How a word of a kind under a format code is read: as a bit, a signed or an unsigned integer, or a binary32. -/
inductive Reading where
  | bit | signed | unsigned | f32
  deriving DecidableEq, Repr

/-- R161: halves and words are signed integers, unsigned under format 2; the half of class 0x19 is always unsigned. -/
def reading (k : NKind) (fmt : Nat) : Reading :=
  match k, fmt with
  | .bit, _ => .bit
  | .f32, _ => .f32
  | .uhalf, _ => .unsigned
  | _, 1 => .f32
  | _, 2 => .unsigned
  | _, _ => .signed

/-- The number a carried word stands for. A half under the unsigned format is its low 16 bits. -/
def readNum (k : NKind) (fmt : Nat) (w : Word) : Fl :=
  match reading k fmt with
  | .bit => Fl.ofInt (bitsOf w 0 0)
  | .f32 => d32 w
  | .unsigned => Fl.ofInt (if k = .half then bitsOf w 15 0 else w.toNat)
  | .signed => Fl.ofInt w.toInt

/-- The same as a binary64 pattern. -/
def readF64 (k : NKind) (fmt : Nat) (w : Word) : Dbl := e64 (readNum k fmt w)

end Sys2Proof.Machine
end

