-- ==== Sys2Proof/Machine/LoopMath.lean ====
section
/-! DEFINITION. The arithmetic of a loop slot on its words (R161-R165, R168, R174, R189). A slot's words are a list: the
descriptor words 0-30, then HLO and HHI. -/

namespace Sys2Proof.Machine

/-- The larger and the smaller of two numbers. -/
def max64 (a b : Dbl) : Dbl := if lt64 a b then b else a
def min64 (a b : Dbl) : Dbl := if lt64 b a then b else a
def neg64 (a : Dbl) : Dbl := a ^^^ 0x8000000000000000
def isFin64 (a : Dbl) : Bool := (d64 a).isFinite
/-- Equal to zero, of either sign. -/
def isZero64 (a : Dbl) : Bool := (d64 a).cmp (.num false 0 0) == some .eq

/-- A result with its open NaN payload free (log 24). -/
def openNan (r a b : Dbl) : Dbl :=
  if isNan64 r then 0x7FF8000000000000 ||| (Config.nanBits 20 a b 0 &&& 0x8007FFFFFFFFFFFF) else r
/-- The binary32 of a number; the payload of a NaN is free (log 24). -/
def toF32 (a : Dbl) : Word :=
  if isNan64 a then 0x7FC00000 ||| ((Config.nanBits 21 a 0 0).setWidth 32 &&& 0x803FFFFF) else narrow a

/-- Word `i` of a slot, and the same widened from binary32. -/
def slotWord (w : List Word) (i : Nat) : Word := w.getD i 0
def slotF (w : List Word) (i : Nat) : Dbl := widen (slotWord w i)
def slotHlo (w : List Word) : Dbl := slotF w 31
def slotHhi (w : List Word) : Dbl := slotF w 32
/-- FORM of LT_SLOT_CFG: the first-order section is present. -/
def slotForm (w : List Word) : Bool := F.LT_SLOT_CFG_FORM.of (slotWord w 6) == 1

/-- A value brought inside the hard limits (R193). -/
def hardClamp (w : List Word) (y : Dbl) : Dbl := min64 (max64 y (slotHlo w)) (slotHhi w)

/-- `prev + min(max(goal - prev, -lim), lim)` (R163, R189), and whether the limit governs. Where the formula has no number
the result is free (log 25). -/
def slewTo (prev goal lim : Dbl) : Dbl × Bool :=
  let d := fsub64 goal prev
  let c := min64 (max64 d (neg64 lim)) lim
  let r := fadd64 prev c
  (if isNan64 d || isNan64 r then Config.slewFree prev goal lim else r, lt64 d (neg64 lim) || lt64 lim d)

/-- The states and the last output of a slot. -/
structure LoopSt where
  st1 : Dbl
  st2 : Dbl
  st3 : Dbl
  ypv : Dbl
  deriving DecidableEq, Repr

/-- What one update gives: the output, the states after it, and the flags of R163. -/
structure UpdRes where
  y : Dbl
  st : LoopSt
  held : Bool
  clampH : Bool
  clampL : Bool
  slewA : Bool
  limErr : Bool
  deriving DecidableEq, Repr

/-- The compensator's values of R162: uc and the candidate states. -/
def compensate (w : List Word) (x : LoopSt) (e : Dbl) : Dbl × Dbl × Dbl × Dbl :=
  let y1 := fma64 (slotF w 8) e x.st1
  let n1 := fma64 (neg64 (slotF w 11)) y1 (fma64 (slotF w 9) e x.st2)
  let n2 := fma64 (neg64 (slotF w 12)) y1 (fmul64 (slotF w 10) e)
  if slotForm w then
    let y := fma64 (slotF w 13) y1 x.st3
    (fmul64 (slotF w 7) y, n1, n2, fma64 (neg64 (slotF w 15)) y (fmul64 (slotF w 14) y1))
  else (fmul64 (slotF w 7) y1, n1, n2, x.st3)

/-- One update (R162, R163); none where it is not computable (R164). -/
def loopUpdate (w : List Word) (x : LoopSt) (e ff : Dbl) : Option UpdRes :=
  let (uc, n1, n2, n3) := compensate w x e
  let v := fma64 (slotF w 20) ff uc
  if isNan64 v || !isFin64 n1 || !isFin64 n2 || (slotForm w && !isFin64 n3) then none
  else
    let lo := max64 (slotF w 21) (slotHlo w)
    let hi := min64 (slotF w 22) (slotHhi w)
    let limErr := lt64 hi lo
    let lo := if limErr then slotHlo w else lo
    let hi := if limErr then slotHhi w else hi
    let (y, slewA) := slewTo x.ypv (min64 (max64 v lo) hi) (slotF w 23)
    let y := hardClamp w y
    let ke := fmul64 (slotF w 7) e
    let clampH := lt64 hi v
    let clampL := lt64 v lo
    let held := (clampH && lt64 0 ke) || (clampL && lt64 ke 0)
    some ⟨y, if held then { x with ypv := y } else ⟨n1, n2, n3, y⟩, held, clampH, clampL, slewA, limErr⟩

/-- PRESET is valid and computable (R174): a pole at z = 1, K not 0, and c0 + c1 not 0 in the second branch. -/
def presetOk (w : List Word) : Bool :=
  let one : Dbl := widen 0x3F800000
  let poleF := slotForm w && slotF w 15 == neg64 one
  let poleB := isZero64 (fadd64 (fadd64 one (slotF w 11)) (slotF w 12))
  !isZero64 (slotF w 7) && (poleF || poleB) &&
    (poleF || !slotForm w || !isZero64 (fadd64 (slotF w 13) (slotF w 14)))

/-- The states that PRESET sets (R174). -/
def presetStates (w : List Word) (x : LoopSt) (e ff : Dbl) : LoopSt :=
  let one : Dbl := widen 0x3F800000
  let yt := fdiv64 (fsub64 x.ypv (fmul64 (slotF w 20) ff)) (slotF w 7)
  if slotForm w && slotF w 15 == neg64 one then
    { x with st1 := 0, st2 := 0, st3 := fsub64 yt (fmul64 (slotF w 13) (fmul64 (slotF w 8) e)) }
  else
    let c := if slotForm w then
        fdiv64 (fmul64 yt (fadd64 one (slotF w 15))) (fadd64 (slotF w 13) (slotF w 14))
      else yt
    { x with st1 := fsub64 c (fmul64 (slotF w 8) e), st2 := fmul64 (neg64 (slotF w 12)) c,
             st3 := if slotForm w then fsub64 (fmul64 (slotF w 14) c) (fmul64 (slotF w 15) yt) else x.st3 }

/-- The states with which the first CLOSED sample begins, by close mode: 4 ZERO, 5 PRESET, 6 USER (R173). -/
def closeStates (close : Nat) (w : List Word) (x : LoopSt) (e ff : Dbl) : LoopSt :=
  if close = 4 || (close == 5 && !presetOk w) then { x with st1 := 0, st2 := 0, st3 := 0 }
  else if close = 5 then presetStates w x e ff
  else x

/-- An update with its close mode (0: none); PRESET delivers the held output itself (R174) within the hard limits. -/
def updateWith (close : Nat) (w : List Word) (x : LoopSt) (e ff : Dbl) : Option UpdRes :=
  match loopUpdate w (closeStates close w x e ff) e ff with
  | none => none
  | some r =>
    if close = 5 && presetOk w then
      let y := hardClamp w x.ypv
      some { r with y := y, st := { r.st with ypv := y } }
    else some r

/-- Bounds of the integer that a destination takes (R165). -/
def dstBounds (k : NKind) (fmt : Nat) : Int × Int :=
  match k with
  | .bit => (0, 1)
  | .uhalf => (0, 65535)
  | .half => if fmt = 2 then (0, 65535) else (-32768, 32767)
  | _ => if fmt = 2 then (0, 4294967295) else (-2147483648, 2147483647)

/-- The word that a destination receives for `d` (R165, R17). Of a NaN the integer is free (log 25). -/
def dstValue (k : NKind) (fmt : Nat) (d : Dbl) : Word :=
  if k = .f32 || fmt == 1 then toF32 d
  else
    let (lo, hi) := dstBounds k fmt
    let i := match d64 d with
      | .nan => Config.nanInteger d
      | .inf neg => if neg then lo else hi
      | .num n m e => ((Fl.num n m e).toInt true).getD 0
    let i := if i < lo then lo else if hi < i then hi else i
    if k = .half && fmt == 2 then sext16 i else BitVec.ofInt 32 i
where
  /-- A half is carried sign extended (R17). -/
  sext16 (i : Int) : Word := (BitVec.ofInt 16 i).signExtend 32

/-- floor(25 × 2^32 ÷ p) (R168). -/
def loadOf (p : Nat) : Nat := 25 * 2 ^ 32 / p

/-- The sum of loads that a tile admits (R168). -/
def loadLimit : Nat := 3865470566

/-- One ramp step (R189): the output, and whether it has reached the target. -/
def rampTo (w : List Word) (ypv : Dbl) (interval : Nat) : Dbl × Bool :=
  let step := fdiv64 (fmul64 (slotF w 30) (e64 (Fl.ofInt interval))) (e64 (Fl.ofInt 1000000000))
  let target := hardClamp w (slotF w 29)
  let y := hardClamp w (slewTo ypv target step).1
  (y, (d64 y).cmp (d64 target) == some .eq)

end Sys2Proof.Machine
end

