-- ==== Sys2Proof/Machine/Scribe.lean ====
section
/-! DEFINITION. The Scribe (chapter 15): limiters, intake queue, losses, the ring in two retained banks, the clear,
and the reader's window. Offers of a tick wait in `scribe.offers` and are taken in at the end of the tick. -/

namespace Sys2Proof.Machine

def Dev.onScribe (s : Dev) (f : Scribe → Scribe) : Dev := { s with scribe := f s.scribe }

/-- Write a whole line of bank memory: fresh check bits, so no errors and no poison (R59). -/
def Dev.putLine (s : Dev) (line : Nat) (bs : List Byte) : Dev :=
  let s := s.putBytes (line * 16) bs
  { s with pool := { s.pool with errs := tabPut 0 s.pool.errs line 0,
                                 poison := tabPut false s.pool.poison line false } }

/-! ## Limiters (R327) -/

/-- Limiter of a code; codes 0x00xx and 0x0Bxx pass limiter 0 by a fixed rule. -/
def Dev.limiterNo (s : Dev) (code : BitVec 16) : Nat :=
  let c := code.toNat
  if c < 0x100 || (0x0B00 ≤ c && c ≤ 0x0BFF) then 0 else s.get (A.EVR_LMAP (c / 16)) F.EVR_LMAP_LIM

/-- A limiter's bucket; never written: full, counting from the start of the Scribe. -/
def Dev.limiter (s : Dev) (l : Nat) : Limiter :=
  (tabGet none s.scribe.limiters l).getD ⟨s.get (A.EVR_LIM_CFG l) F.EVR_LIM_CFG_DEPTH, 0, 0, s.scribe.started⟩

def Dev.setLimiter (s : Dev) (l : Nat) (m : Limiter) : Dev :=
  s.onScribe fun c => { c with limiters := tabPut none c.limiters l (some m) }

/-- An offer passes its limiter (true) or is suppressed and counted. -/
def Dev.limit (s : Dev) (o : Offer) : Dev × Bool :=
  let l := s.limiterNo o.code
  if l = 0 then (s, true)
  else
    let m := s.limiter l
    if 0 < m.tokens then (s.setLimiter l { m with tokens := m.tokens - 1 }, true)
    else
      let a := A.EVR_LIM_STAT l
      let m := if s.get a F.EVR_LIM_STAT_COUNT = 0 then { m with firstTs := o.ts, firstCode := o.code } else m
      ((s.setLimiter l m).count a F.EVR_LIM_STAT_COUNT 1, false)

/-! ## Intake queue and losses (R328) -/

def Dev.setQlevel (s : Dev) : Dev := s.set A.EVR_STAT F.EVR_STAT_QLEVEL s.scribe.queue.length

/-- An offer is lost and counted against its source. -/
def Dev.lose (s : Dev) (src : Nat) (ts : Dbl) : Dev :=
  let s := s.onScribe fun c =>
    { c with firstLoss := if c.losses.isEmpty then ts else c.firstLoss,
             losses := tabPut 0 c.losses src (tabGet 0 c.losses src + 1) }
  (s.count A.EVR_LOSS F.EVR_LOSS_DATA 1).set A.EVR_STAT F.EVR_STAT_LOSSPEND 1

/-- Put a record in the queue, or count its loss when the queue is full or the Scribe is disabled. -/
def Dev.enqueue (s : Dev) (o : Offer) (mirror : Bool) : Dev :=
  if s.bit A.EVR_CTL F.EVR_CTL_EN && decide (s.scribe.queue.length < 64) then
    (s.onScribe fun c => { c with queue := c.queue ++ [(o, mirror)] }).setQlevel
  else s.lose o.src o.ts

/-- The LOSS record of up to 28 sources (R325). -/
def lossOffer (ts first : Dbl) (xs : List (Nat × Nat)) : Offer :=
  ⟨0x31, 0x0003, false, ts, [first.setWidth 32, (first >>> 32).setWidth 32] ++
    xs.flatMap (fun p => [BitVec.ofNat 32 p.1, BitVec.ofNat 32 p.2])⟩

/-- Queue LOSS records, 28 sources each, while there is space. -/
def Dev.queueLosses : Nat → Dev → Dev
  | 0, s => s
  | n + 1, s =>
    if s.scribe.losses.isEmpty || decide (64 ≤ s.scribe.queue.length) then s
    else
      let now := s.scribe.losses.take 28
      let s := s.onScribe fun c =>
        { c with queue := c.queue ++ [(lossOffer s.ts c.firstLoss now, false)], losses := c.losses.drop 28 }
      Dev.queueLosses n s.setQlevel

/-- LOSS records go ahead of every other offer on the first tick with 60 records or fewer in the queue. -/
def Dev.lossRecords (s : Dev) : Dev :=
  if s.bit A.EVR_CTL F.EVR_CTL_EN && !s.scribe.losses.isEmpty && decide (s.scribe.queue.length ≤ 60) then
    let s := Dev.queueLosses 4 s
    s.setBit A.EVR_STAT F.EVR_STAT_LOSSPEND (!s.scribe.losses.isEmpty)
  else s

/-- Put an offer in its place by source, behind offers of the same source. -/
def insOffer (o : Offer) : List Offer → List Offer
  | [] => [o]
  | p :: ps => if o.src < p.src then o :: p :: ps else p :: insOffer o ps

/-- Offers of a tick in ascending source, in the order offered within one source (R326). -/
def sortOffers (os : List Offer) : List Offer := os.foldl (fun acc o => insOffer o acc) []

/-- The MARKER record of this tick (R325). -/
def Dev.markOffer (s : Dev) : Offer :=
  let m := s.scribe.mark
  let b (x : Bool) (n : Nat) : Nat := if x then 2 ^ n else 0
  ⟨0x31, 0x0001, false, s.ts, [s.reg A.TIME_STAT,
    BitVec.ofNat 32 (s.get A.TIME_CTL F.TIME_CTL_SRC + b m.step 8 + b m.start 9 + b m.pfail 10)]⟩

/-- One offer through limiter and queue. -/
def Dev.takeOffer (s : Dev) (o : Offer) : Dev :=
  match s.limit o with
  | (s, true) => s.enqueue o false
  | (s, false) => s

/-- The Scribe's end of a tick: LOSS records, then the tick's marker and offers in source order. While it is halted at
PFAIL it takes only the marker (R333). The START marker is the first record after a start: it waits until the Scribe is enabled,
and goes ahead of the losses counted before (DEDUCED, log 51). -/
def Dev.scribeTick (s : Dev) : Dev :=
  let first := s.scribe.mark.start
  let wait := first && !s.bit A.EVR_CTL F.EVR_CTL_EN
  let own := if s.scribe.mark.due && !wait then [s.markOffer] else []
  let s := (if first then own else []).foldl Dev.takeOffer s
  let s := s.lossRecords
  let rest := if first then [] else own
  let offers := if s.scribe.halted then rest else sortOffers (s.scribe.offers ++ rest)
  let s := s.onScribe fun c => { c with offers := [], mark := if wait then c.mark else .no }
  offers.foldl Dev.takeOffer s

/-- A marker is due on this tick; all reasons of a tick share one marker. -/
def Dev.scribeMark (s : Dev) (step start pfail : Bool) : Dev :=
  s.onScribe fun c => { c with mark := ⟨true, c.mark.step || step, c.mark.start || start, c.mark.pfail || pfail⟩ }

/-! ## The ring (R323, R328, R329) -/

/-- Payload words of a record: at most 60, padded to whole doubles. -/
def recPayloadWords (p : List Word) : List Word :=
  let q := p.take 60
  if q.length % 2 = 0 then q else q ++ [0]

/-- Length of a record in bytes. -/
def recLen (o : Offer) : Nat := 16 + 4 * (recPayloadWords o.payload).length

/-- The words of a record: header (R323) and payload. -/
def recWords (o : Offer) (mirror : Bool) (seq : Word) : List Word :=
  [seq,
   BitVec.ofNat 32 (o.code.toNat * 65536 + o.src % 256 * 256 + (recLen o / 8 - 1) * 8 +
     (if mirror then 2 else 0) + (if o.sec then 1 else 0)),
   o.ts.setWidth 32, (o.ts >>> 32).setWidth 32] ++ recPayloadWords o.payload

/-- Byte address in the bank pool of byte `p` of the ring. -/
def Dev.ringAddr (s : Dev) (p : Nat) : Nat :=
  let p := p % 0x100000
  if p < 0x80000 then bankBase (s.get A.EVR_CFG F.EVR_CFG_BANKA) + p
  else bankBase (s.get A.EVR_CFG F.EVR_CFG_BANKB) + (p - 0x80000)

/-- Lines that a record takes in the ring. DESIGN CHOICE, log 21: each record starts on a line. -/
def recLines (len : Nat) : Nat := (len + 15) / 16

def ringLines : List RingRec → Nat
  | [] => 0
  | r :: rs => recLines r.len + ringLines rs

/-- Drop the oldest records until `need` more lines fit. -/
def evict (need : Nat) : List RingRec → List RingRec
  | [] => []
  | r :: rs => if ringLines (r :: rs) + need ≤ 65536 then r :: rs else evict need rs

def Dev.setOldest (s : Dev) : Dev :=
  s.setReg A.EVR_OLDEST (match s.scribe.ring with | [] => s.reg A.EVR_NEXT | r :: _ => r.seq)

/-- Write line `i` of a record at the ring's writing position. -/
def Dev.ringLine (s : Dev) (ws : List Word) (i : Nat) : Dev :=
  let bs := ((ws.drop (4 * i)).take 4 ++ [0, 0, 0, 0]).take 4 |>.flatMap (fun (w : Word) => leBytes 4 w.toNat)
  s.putLine (lineOf (s.ringAddr (s.scribe.pos + 16 * i))) bs

/-- A record is whole in the ring: it takes NEXT as its number. -/
def Dev.ringAccept (s : Dev) (o : Offer) : Dev :=
  let seq := s.reg A.EVR_NEXT
  let s := (s.mirror 0 (recWords o false seq)).onScribe fun c => { c with
    ring := c.ring ++ [⟨seq, c.pos, recLen o, o.sec⟩], pos := (c.pos + 16 * recLines (recLen o)) % 0x100000, linesDone := 0 }
  (s.setReg A.EVR_NEXT (seq + 1)).setOldest

/-- Whether the two ring banks pass R329. -/
def Dev.ringBanksOk (s : Dev) : Bool :=
  let a := s.get A.EVR_CFG F.EVR_CFG_BANKA
  let b := s.get A.EVR_CFG F.EVR_CFG_BANKB
  let own (n : Nat) : Bool := decide (n < 48) && s.get (A.MEM_BANK_STAT n) F.MEM_BANK_STAT_OWNER == 0x31
  a != b && own a && own b

/-- The writer moves one line of the head record; the record accepted on its last line, if it was the last. -/
def Dev.scribeLine (s : Dev) : Dev × Option Offer :=
  match s.scribe.queue with
  | [] => (s, none)
  | (o, mirror) :: rest =>
    let i := s.scribe.linesDone
    let s := (s.onScribe fun c => { c with ring := evict (i + 1) c.ring }).setOldest
    let s := s.ringLine (recWords o mirror (s.reg A.EVR_NEXT)) i
    if i + 1 < recLines (recLen o) then (s.onScribe fun c => { c with linesDone := i + 1 }, none)
    else
      let s := s.ringAccept o
      ((s.onScribe fun c => { c with queue := rest }).setQlevel, some o)

/-! ## The reader's window (R330) -/

/-- STATE of EVR_WSTAT for a cursor: 0 VALID, 1 OVERWRITTEN, 2 PENDING. -/
def Dev.cursorState (s : Dev) (c : Word) : Nat :=
  let old := s.reg A.EVR_OLDEST
  let next := s.reg A.EVR_NEXT
  if (c - old).toNat < (next - old).toNat then 0
  else if (c - next).toNat < 0x80000000 then 2 else 1

def Dev.cursorRec (s : Dev) (req : Nat) : Option RingRec :=
  s.scribe.ring.find? (fun r => r.seq == s.reg0 (reqKey req A.EVR_CURSOR))

/-- EVR_WSTAT as a requester and view see it. -/
def Dev.wstat (s : Dev) (req : Nat) (pview : Bool) : Word :=
  let st := s.cursorState (s.reg0 (reqKey req A.EVR_CURSOR))
  match s.cursorRec req with
  | some r =>
    BitVec.ofNat 32 (st + (r.len / 8 - 1) * 16 + (if !pview && r.sec then 512 else 0))
  | none => BitVec.ofNat 32 st

/-- Word `k` of the window. -/
def Dev.winWord (s : Dev) (req : Nat) (pview : Bool) (k : Nat) : Word :=
  match s.cursorRec req with
  | some r =>
    if s.cursorState r.seq != 0 || decide (r.len ≤ 4 * k) || (!pview && r.sec && decide (4 ≤ k)) then 0
    else s.word (s.ringAddr (r.pos + 4 * k))
  | none => 0

end Sys2Proof.Machine
end

