-- ==== Sys2Proof/Machine/Recorder.lean ====
section
/-! DEFINITION. The signal recorder (chapter 14): changes of enrolled points, markers, triggers, losses, the ring and
the window, and the two sinks. Changes are judged at the tick from which the written value is current (R303, R308). -/

namespace Sys2Proof.Machine

def Dev.onRec (s : Dev) (f : Recorder → Recorder) : Dev := { s with recorder := f s.recorder }

/-- States of REC_STAT.STATE. -/
def recDisabled : Nat := 0
def recRun : Nat := 1
def recArmed : Nat := 2
def recPost : Nat := 3
def recDone : Nat := 4

def Dev.recState (s : Dev) : Nat := s.get A.REC_STAT F.REC_STAT_STATE
def Dev.setRecState (s : Dev) (n : Nat) : Dev := s.set A.REC_STAT F.REC_STAT_STATE n
def Dev.recEnabled (s : Dev) : Bool := s.bit A.REC_CTL F.REC_CTL_EN
def Dev.recWindow (s : Dev) : Bool := s.bit A.REC_CTL F.REC_CTL_MODE
/-- Records that the ring holds (R310). -/
def Dev.recCap (s : Dev) : Nat := s.recorder.pages.length * 256
def Dev.recSeq (s : Dev) : Word := s.reg A.REC_SEQ

/-- REC_FREE (R311): records that can be written before an unreleased one would be overwritten; while ARMED the oldest
may always be overwritten. -/
def Dev.recFree (s : Dev) : Nat :=
  if s.recWindow && s.recState == recArmed then s.recCap
  else s.recCap - (s.recSeq - s.recorder.released).toNat

/-- Bring REC_FREE and FULL up to date. -/
def Dev.recUpdate (s : Dev) : Dev :=
  let s := s.setReg A.REC_FREE (BitVec.ofNat 32 s.recFree)
  s.setBit A.REC_STAT F.REC_STAT_FULL (decide (s.recFree ≤ 64) && s.recEnabled)

/-! ## Enrolment and comparison (R302, R303) -/

/-- The DB field is a finite binary32 at or above 0. -/
def deadbandOk (db : Word) : Bool :=
  match d32 db with
  | .num neg m _ => !neg || m == 0
  | _ => false

/-- A write of `v` is a change against the stored value (R303). -/
def isChange (k : NKind) (fmt : Nat) (db : Word) (old v : Pt) : Bool :=
  if old.valid != v.valid then true
  else if fmt = 3 || k = .bit then old.val != v.val
  else
    let a := readF64 k fmt v.val
    let b := readF64 k fmt old.val
    if isNan64 a || isNan64 b then reading k fmt == .f32 && old.val != v.val
    else
      let d := fsub64 a b
      lt64 (widen db) (d &&& 0x7FFFFFFFFFFFFFFF)

def Dev.recStored (s : Dev) (e : Nat) : Pt := tabGet Pt.none s.recorder.stored e
def Dev.recPend (s : Dev) (e : Nat) : Bool := s.bit (A.REC_ENR_CFG e) F.REC_ENR_CFG_PEND
def Dev.setPend (s : Dev) (e : Nat) (b : Bool) : Dev := s.setBit (A.REC_ENR_CFG e) F.REC_ENR_CFG_PEND b

/-- Entries that are enabled, from the registers that are not at their reset value. -/
def Dev.enabledEntries (s : Dev) : List Nat :=
  s.regs.filterMap (fun p =>
    if 0x4A0000 ≤ p.1 && p.1 < 0x4C0000 && p.1 % 16 == 8 && bitsOf p.2 0 0 == 1 then some ((p.1 - 0x4A0000) / 16)
    else none)

/-- Every enabled entry becomes pending (R304). -/
def Dev.recPendAll (s : Dev) : Dev := s.enabledEntries.foldl (fun s e => s.setPend e true) s

/-- Checks of an enrolment of entry `e` (R302); FMT 3 is BITS. -/
def Dev.enrolOk (s : Dev) (e fmt : Nat) : Bool :=
  let h := s.reg (A.REC_ENR_HND e)
  validHandle h && hclass h != 0x7F && (fmt == 3 || fmtAllowed (s.kind h) fmt) && deadbandOk (s.reg (A.REC_ENR_DB e)) &&
    s.enabledEntries.all (fun j => j == e || s.reg (A.REC_ENR_HND j) != h)

/-- KERF of a class 0x10 point. -/
def Dev.kerfOf (s : Dev) (h : Word) : Bool :=
  hclass h == 0x10 && s.bit (A.ANA_RES (hindex h / 16) (hindex h % 16)) F.ANA_RES_KERF

/-- Count a dropped change (R318): per class, keeping the first drop's time; the entry becomes pending. -/
def Dev.recDrop (s : Dev) (e : Nat) (h : Word) : Dev :=
  let c := hclass h
  let first := s.recorder.lossCount.isEmpty
  let s := s.onRec fun r => { r with
    lossFirst := if tabGet 0 r.lossCount c = 0 then tabPut 0 r.lossFirst c s.ts else r.lossFirst,
    lossCount := tabPut 0 r.lossCount c (tabGet 0 r.lossCount c + 1) }
  let s := (s.count (A.REC_LOSSCNT c) F.REC_LOSSCNT_COUNT 1).set A.REC_STAT F.REC_STAT_LOSSPEND 1
  let s := if first then s.offer 0x30 0x0C .recLoss else s
  s.setPend e true

/-- A value of an entry enters the records of this tick: it is stored for later comparisons and the entry is no longer
pending. -/
def Dev.recTake (s : Dev) (e : Nat) (h : Word) (p : Pt) : Dev :=
  let item := RecItem.change s.ts e h p (s.recPend e) (s.kerfOf h)
  (s.onRec fun r => { r with found := r.found ++ [item], stored := tabPut Pt.none r.stored e p }).setPend e false

/-- Changes waiting in intake queue and on this tick. -/
def Dev.recQueued (s : Dev) : Nat := s.recorder.queue.length + s.recorder.found.length

/-- The recorder takes records: enabled, not in DONE, not halted at PFAIL, not on the standby of a pair (R322). -/
def Dev.recTaking (s : Dev) : Bool := s.recEnabled && s.recState != recDone && !s.recorder.halted && !s.standby

/-- Judge entry `e` on a write of its point: a change, or any write of a pending entry, enters the queue or is
dropped. -/
def Dev.recJudge (s : Dev) (e : Nat) : Dev :=
  let h := s.reg (A.REC_ENR_HND e)
  let p := s.now h
  let fmt := s.get (A.REC_ENR_CFG e) F.REC_ENR_CFG_FMT
  if s.recPend e || isChange (s.kind h) fmt (s.reg (A.REC_ENR_DB e)) (s.recStored e) p then
    if 4096 ≤ s.recQueued then s.recDrop e h else s.recTake e h p
  else s

/-- The handles written, with those that other state gives: M words and image places follow their own writes. -/
def Dev.writtenHandles (s : Dev) (wrote : List Word) (h : Word) : Bool :=
  wrote.contains h ||
    match hclass h with
    | 0x01 => s.policy.inMap.any (fun p => p.word == hindex h / 32 && wrote.contains p.handle)
    | 0x02 => s.policy.inMap.any (fun p => p.word == hindex h && wrote.contains p.handle)
    | 0x03 => wrote.contains (mkHandle 0x04 (hindex h / 32))
    | _ => false

/-! ## Triggers (R315, R316) -/

/-- Whether condition `c` holds for a write (R315). -/
def condHolds (op : Nat) (k : NKind) (fmt : Nat) (thr : Word) (prev v : Pt) : Bool :=
  if op = 3 then prev.valid && !v.valid
  else if !v.valid || !prev.valid then false
  else
    let p := readNum k fmt prev.val
    let n := readNum k fmt v.val
    let t := d32 thr
    let rise := p.lt t && t.le n
    let fall := t.lt p && n.le t
    (op == 0 && rise) || (op == 1 && fall) || (op == 2 && (rise || fall))

/-- A trigger raised locally at an instant. Without BUSOUT it acts on this tick; with BUSOUT it acts like a bus trigger
(R316), at the instant plus the segment's budget, and leaves as a TRIG frame (R382). -/
def Dev.recTrigger (s : Dev) (ts : Dbl) (frac kind num : Nat) : Dev :=
  let seg := s.get A.PLJ_ID F.PLJ_ID_SEG
  let dev := s.get A.PLJ_ID F.PLJ_ID_DEV
  let c := s.reg A.REC_TRG_CTL
  let bus := F.REC_TRG_CTL_BUSOUT.of c == 1
  let at_ := if bus then ts + BitVec.ofNat 64 (s.get A.PLJ_CFG F.PLJ_CFG_BUDGET * 4) else s.ts
  let s := s.onRec fun r => { r with trigs := r.trigs ++ [⟨ts, frac, kind, num, seg, dev, at_⟩] }
  if bus then
    s.emit ⟨2, 32, 2, [BitVec.ofNat 32 (F.REC_TRG_CTL_BUSNUM.of c + 16 * frac), ts.setWidth 32, (ts >>> 32).setWidth 32]⟩
  else s

/-- A bus trigger of another device (R316, R382): it acts at its instant plus the budget, or on the next tick when that
has passed on arrival, which counts TLATE. -/
def Dev.recBusTrigger (s : Dev) (ts : Dbl) (frac num seg dev : Nat) : Dev :=
  let at_ := ts.toNat + s.get A.PLJ_CFG F.PLJ_CFG_BUDGET * 4
  let late := decide (at_ < s.ts.toNat)
  let s := if late then s.count A.PLJ_STAT F.PLJ_STAT_TLATE 1 else s
  let c := s.reg A.REC_TRG_CTL
  if F.REC_TRG_CTL_BUSIN.of c = 1 && F.REC_TRG_CTL_BUSNUM.of c == num then
    s.onRec fun r => { r with
      trigs := r.trigs ++ [⟨ts, frac, 3, num, seg, dev, if late then s.ts + 1 else BitVec.ofNat 64 at_⟩] }
  else s

/-- Evaluate the conditions on the handles written (the instant is the tick from which the value is current). -/
def Dev.recConds (s : Dev) (wrote : List Word) : Dev :=
  s.each 8 fun s c =>
    let h := s.reg (A.REC_COND_HND c)
    if bitsOf (s.reg A.REC_TRG_CTL) (4 + c) (4 + c) == 1 && s.recEnabled && s.writtenHandles wrote h then
      let cfg := s.reg (A.REC_COND_CFG c)
      let v := s.now h
      let prev := tabGet none s.recorder.prevCond c
      let s := s.onRec fun r => { r with prevCond := tabPut none r.prevCond c (some v) }
      match prev with
      | some p =>
        if condHolds (F.REC_COND_CFG_OP.of cfg) (s.kind h) (F.REC_COND_CFG_FMT.of cfg) (s.reg (A.REC_COND_THR c)) p v
        then s.recTrigger s.ts 0 2 c else s
      | none => s
    else s

/-- The recorder's start of a tick: the writes of the tick before are current now. -/
def Dev.recDetect (s : Dev) (wrote : List Word) : Dev :=
  let s := if s.recTaking then
      s.enabledEntries.foldl (fun s e =>
        if s.writtenHandles wrote (s.reg (A.REC_ENR_HND e)) then s.recJudge e else s) s
    else s
  s.recConds wrote

/-! ## The ring (R305, R306, R311) -/

/-- The four words of a record (R306). -/
def recLine : RecItem → List Word
  | .change t e h p resync kerf =>
    [t.setWidth 32, p.val, h, BitVec.ofNat 32 (0x10000000 + (if p.valid then 0x8000000 else 0) +
      (if resync then 0x4000000 else 0) + (if kerf then 0x2000000 else 0) + e)]
  | .marker ts n w off src =>
    [ts.setWidth 32, (ts >>> 32).setWidth 32, n, BitVec.ofNat 32 (0x20000000 + (if w.step then 0x8000000 else 0) +
      (if w.start then 0x4000000 else 0) + (if w.pfail then 0x2000000 else 0) + (if off then 0x1000000 else 0) +
      src * 0x200000)]
  | .trigger ts frac kind num seg dev =>
    [ts.setWidth 32, (ts >>> 32).setWidth 32, BitVec.ofNat 32 (kind * 0x10000000 + frac * 0x1000000 +
      num * 0x100000 + seg * 0x10000 + dev * 0x800), 0x30000000]

/-- Byte address of record `q` in the ring's pages. -/
def Dev.recAddr (s : Dev) (q : Word) : Nat :=
  let k := if s.recCap = 0 then 0 else q.toNat % s.recCap
  (s.recorder.pages.getD (k / 256) 0) * 4096 + k % 256 * 16

/-- Records before `q` are released, delivered or not (R311, R317): the sink goes on from `q`. -/
def Dev.recRelease (s : Dev) (q : Word) : Dev :=
  ((s.onRec fun r => { r with released := q }).setReg A.REC_HB_RD q).setReg A.REC_HB_WR q

/-- Put a record's words into the ring under the next sequence number. -/
def Dev.recPut (s : Dev) (ws : List Word) : Dev :=
  let q := s.recSeq
  let s := (s.putLine (lineOf (s.recAddr q)) (ws.flatMap (fun w => leBytes 4 w.toNat))).mirror 1 (q :: ws)
  let s := s.setReg A.REC_SEQ (q + 1)
  let full := decide (s.recCap < (q + 1 - s.recorder.oldest).toNat)
  let s := s.onRec fun r => { r with
    oldest := if full then r.oldest + 1 else r.oldest,
    sinceArm := r.sinceArm + 1,
    frameSince := r.frameSince ++ [s.ticks] }
  let s := if s.recWindow && s.recState == recArmed && full then
      s.onRec fun r => { r with
        released := if (q + 1 - r.oldest).toNat ≤ (q + 1 - r.released).toNat then r.oldest else r.released }
    else s
  if s.recState == recPost then
    let s := s.onRec fun r => { r with postLeft := r.postLeft - 1 }
    if s.recorder.postLeft = 0 then s.setRecState recDone else s
  else s

/-- A trigger acts (R317): in STREAM a record; in WINDOW by state. `ws` is its record without INPOST. -/
def Dev.recActTrigger (s : Dev) (ws : List Word) : Dev :=
  let inpost : List Word := ws.take 3 ++ [0x38000000]
  let free := decide (0 < s.recFree)
  let lost (s : Dev) : Dev := (s.raise A.REC_STAT F.REC_STAT_MLOST).offer 0x30 0x0C .recMarkerLost
  let counted (s : Dev) : Dev := s.count A.REC_TRG_STAT F.REC_TRG_STAT_COUNT 1
  if s.recState = recRun then (if free then counted (s.recPut ws) else lost s)
  else if s.recState = recArmed then
    let pre := s.get A.REC_PRE F.REC_PRE_DEPTH
    let post := s.get A.REC_POST F.REC_POST_DEPTH
    let short := decide (s.recorder.sinceArm < pre)
    let q := s.recSeq
    let s := if free then counted (s.recPut ws) else lost s
    let s := s.setReg A.REC_TRGPOS q
    let s := if short then s.raise A.REC_STAT F.REC_STAT_SHORT else s
    let s := (s.onRec fun r => { r with postLeft := post }).recRelease
      (if short then s.recorder.firstArm else q - BitVec.ofNat 32 pre)
    s.setRecState (if post = 0 then recDone else recPost)
  else if s.recState = recPost then (if free then counted (s.recPut inpost) else lost s)
  else if s.recState = recDone then s.count A.REC_TRG_STAT F.REC_TRG_STAT_MISSED 1
  else s

/-- Write the LOSS records of the classes with a pending count, once FREE is above 64 + k (R319); at PFAIL they take the
reserve (R321). -/
def Dev.recLossRecords (s : Dev) : Dev :=
  let k := s.recorder.lossCount.length
  if 0 < k && (decide (64 + k < s.recFree) || (s.recorder.halted && decide (k ≤ s.recFree))) then
    let items := s.recorder.lossCount.map (fun p => (p.1, p.2, tabGet 0 s.recorder.lossFirst p.1))
    let s := items.foldl (fun (s : Dev) (x : Nat × Nat × Dbl) => s.recPut
        [x.2.2.setWidth 32, (x.2.2 >>> 32).setWidth 32, BitVec.ofNat 32 (min x.2.1 0xFFFFFFFF),
         BitVec.ofNat 32 (0x40000000 + x.1 * 0x100000)]) s
    (s.onRec fun r => { r with lossCount := [], lossFirst := [] }).set A.REC_STAT F.REC_STAT_LOSSPEND 0
  else s

/-- The writer takes the head of the intake queue. A change is dropped in STREAM mode while FREE is 64 or less; a
marker or trigger may use the last 64 (R311). -/
def Dev.recWriteHead (s : Dev) : Dev :=
  match s.recorder.queue with
  | [] => s
  | it :: rest =>
    let s := s.onRec fun r => { r with queue := rest }
    if s.recState = recDone then (match it with | .trigger .. => s.recActTrigger (recLine it) | _ => s)
    else
      match it with
      | .change _ e h _ _ _ =>
        if (s.recFree ≤ 64 && !s.recWindow) || (s.syncedAs 1 && decide (65536 ≤ s.mirrorLag 1)) then s.recDrop e h else s.recPut (recLine it)
      | .marker .. =>
        if s.recFree = 0 then (s.raise A.REC_STAT F.REC_STAT_MLOST).offer 0x30 0x0C .recMarkerLost
        else s.recPut (recLine it)
      | .trigger .. => s.recActTrigger (recLine it)

/-! ## Markers and the end of a tick -/

/-- A marker is due on this tick (R307). -/
def Dev.recMark (s : Dev) (step start pfail : Bool) : Dev :=
  s.onRec fun r => { r with mark := ⟨true, r.mark.step || step, r.mark.start || start, r.mark.pfail || pfail⟩ }

/-- Entry number of a change record. -/
def RecItem.entry : RecItem → Nat
  | .change _ e _ _ _ _ => e
  | _ => 0

/-- Put a change in its place by entry. -/
def insItem (x : RecItem) : List RecItem → List RecItem
  | [] => [x]
  | y :: ys => if x.entry < y.entry then x :: y :: ys else y :: insItem x ys

/-- The recorder's end of a tick: the tick's marker, its changes, then the triggers that acted on it enter the intake in
this order (R308). -/
def Dev.recTick (s : Dev) : Dev :=
  let m := s.recorder.mark
  let s := if m.due && s.recEnabled then
      let n := s.recorder.markers
      s.onRec fun r => { r with markers := n + 1, queue := r.queue ++
        (if s.recState = recDone then [] else
          [RecItem.marker s.ts n m (s.bit A.TIME_STAT F.TIME_STAT_OFFSYNC) (s.get A.TIME_CTL F.TIME_CTL_SRC)]) }
    else s
  s.onRec fun r => { r with
    mark := .no, found := [], acting := [],
    queue := r.queue ++ r.found.foldl (fun l x => insItem x l) [] ++ (if s.recEnabled then r.acting else []) }

end Sys2Proof.Machine
end

