-- ==== Sys2Proof/Machine/Mem.lean ====
section
/-! DEFINITION. The bank pool (chapter 3): the line code and poisoning, owners and their release conditions, window
accesses, the resource manager's decision, and row repair. -/

namespace Sys2Proof.Machine

def Dev.onPool (s : Dev) (f : Pool → Pool) : Dev := { s with pool := f s.pool }

/-- Banks of the pool (R52). -/
def bankCount : Nat := 80
def lineNo (bank line : Nat) : Nat := bank * 32768 + line
def bankOfLine (l : Nat) : Nat := l / 32768
def bankOfAddr (a : Nat) : Nat := a / 0x80000

/-! ## Ownership (R61, R435) -/

def Dev.owner (s : Dev) (b : Nat) : Nat := s.get (A.MEM_BANK_STAT b) F.MEM_BANK_STAT_OWNER
/-- A FREE bank always has REL set (R62). -/
def Dev.released (s : Dev) (b : Nat) : Bool := s.owner b == 0 || s.bit (A.MEM_BANK_STAT b) F.MEM_BANK_STAT_REL
def Dev.wiping (s : Dev) (b : Nat) : Bool := s.bit (A.MEM_BANK_STAT b) F.MEM_BANK_STAT_WIPING
/-- Secure owners: supervisor cores, Scribe, mailbox unit (R435). -/
def secureOwner (code : Nat) : Bool := code == 0x38 || code == 0x31 || code == 0x32

/-- Owner codes that an OWNER write may name (R61); 0xFF cannot be written. -/
def ownerCodes : List Nat := [0x00, 1, 2, 3, 4, 5, 6, 7, 8] ++ [0x10, 0x11, 0x12, 0x13, 0x14, 0x15, 0x16, 0x17] ++
  [0x20, 0x21, 0x30, 0x31, 0x32, 0x38, 0x3F]

/-- The owner's accesses reach the bank: it owns it and has not released it (R62). -/
def Dev.ownsLive (s : Dev) (code b : Nat) : Bool :=
  s.owner b == code && !s.bit (A.MEM_BANK_STAT b) F.MEM_BANK_STAT_REL

/-! ## Line code and poison (R56-R59) -/

def Dev.poisoned (s : Dev) (l : Nat) : Bool := tabGet false s.pool.poison l
def Dev.lineErrs (s : Dev) (l : Nat) : Nat := tabGet 0 s.pool.errs l
def Dev.setErrs (s : Dev) (l n : Nat) : Dev := s.onPool fun p => { p with errs := tabPut 0 p.errs l n }
def Dev.setPoison (s : Dev) (l : Nat) (b : Bool) : Dev := s.onPool fun p => { p with poison := tabPut false p.poison l b }

/-- What a read of a line finds: good, corrected, uncorrectable, or (four errors and more) wrong data unnoticed. -/
inductive LineFind where
  | good | corrected | uncorrectable | wrong
  deriving DecidableEq, Repr

/-- R56: one or two errors are corrected, three detected; four and more depend on the stored pattern alone (free). -/
def lineFind (l errs : Nat) : LineFind :=
  if errs = 0 then .good
  else if errs ≤ 2 then .corrected
  else if errs = 3 then .uncorrectable
  else if Config.lineOutcome l errs = 0 then .uncorrectable else .wrong

/-- A line is poisoned by a read that found an uncorrectable pattern (R58). -/
def Dev.poisonLine (s : Dev) (l : Nat) : Dev :=
  let b := bankOfLine l
  let s := (s.setPoison l true).setErrs l 0
  let s := s.count (A.MEM_BANK_ERR b) F.MEM_BANK_ERR_UE 1
  let s := s.setReg A.MEM_POISON_LAST (BitVec.ofNat 32 (b * 65536 + l % 32768))
  s.offer 0x42 0x03 .linePoisoned

/-- A corrected read: CE, the scrubber's queue of 16, and the count of the pass against CETHR (R57). -/
def Dev.correctedRead (s : Dev) (l : Nat) : Dev :=
  let b := bankOfLine l
  let s := s.count (A.MEM_BANK_ERR b) F.MEM_BANK_ERR_CE 1
  let s := s.onPool fun p => { p with
    scrubQueue := if p.scrubQueue.length < 16 && !p.scrubQueue.contains l then p.scrubQueue ++ [l] else p.scrubQueue,
    passCe := tabPut 0 p.passCe b (tabGet 0 p.passCe b + 1) }
  if tabGet 0 s.pool.passCe b = s.get A.MEM_SCRUB_CTL F.MEM_SCRUB_CTL_CETHR then s.offer 0x42 0x03 .scrubThreshold
  else s

/-- The checks of a read of a line: the device after it, and whether data comes back. -/
def Dev.checkLine (s : Dev) (l : Nat) : Dev × Bool :=
  if s.poisoned l then (s, false)
  else
    match lineFind l (s.lineErrs l) with
    | .good => (s, true)
    | .wrong => (s, true)
    | .corrected => (s.correctedRead l, true)
    | .uncorrectable => (s.poisonLine l, false)

/-- Data of `n` bytes at an address, as a number; a line read with unnoticed errors gives free data (R56). -/
def Dev.dataAt (s : Dev) (a n : Nat) : Nat :=
  let l := lineOf a
  if 4 ≤ s.lineErrs l && lineFind l (s.lineErrs l) == .wrong then
    ((Config.lineData l (s.lineErrs l)).toNat >>> (a % 16 * 8)) % 2 ^ (8 * n)
  else leNat (s.bytes a n)

/-- Read `n` bytes within one line. -/
def Dev.readMem (s : Dev) (a n : Nat) : Dev × Option Nat :=
  match s.checkLine (lineOf a) with
  | (s', true) => (s', some (s.dataAt a n))
  | (s', false) => (s', none)

/-- Write bytes within one line (R59): a whole line clears errors and poison; fewer bytes are read, corrected and
merged, and are refused on a poisoned or uncorrectable line. -/
def Dev.writeMem (s : Dev) (a : Nat) (bs : List Byte) : Dev × Bool :=
  let l := lineOf a
  if bs.length = 16 then (s.putLine l bs, true)
  else
    match s.checkLine l with
    | (s', true) => ((s'.putBytes a bs).setErrs l 0, true)
    | (s', false) => (s', false)

/-- Every line of a bank written with zero data and valid check bits. -/
def Dev.zeroBank (s : Dev) (b : Nat) : Dev :=
  { s with mem := s.mem.filter (fun c => bankOfAddr c.1 != b),
           pool := { s.pool with errs := s.pool.errs.filter (fun p => bankOfLine p.1 != b),
                                 poison := s.pool.poison.filter (fun p => bankOfLine p.1 != b) } }

/-- Copy a bank's lines onto another's, poison included. -/
def Dev.copyBank (s : Dev) (src dst : Nat) : Dev :=
  let s := s.zeroBank dst
  let bytes := s.mem.filter (fun c => bankOfAddr c.1 == src)
  let s := bytes.foldl (fun s c => s.putByte (bankBase dst + c.1 % 0x80000) c.2) s
  s.onPool fun p => { p with
    poison := (p.poison.filter (fun q => bankOfLine q.1 == src)).foldl
      (fun t q => tabPut false t (lineNo dst (q.1 % 32768)) q.2) p.poison }

/-! ## The window (R64, R63) -/

/-- Rights of a view on a bank: 0 none, 1 read, 2 read and write; a secure owner's bank has no U window (R435). -/
def Dev.winRights (s : Dev) (pview : Bool) (b : Nat) : Nat :=
  if pview then s.get (A.MEM_BANK_CTL b) F.MEM_BANK_CTL_PWIN
  else if secureOwner (s.owner b) then 0 else s.get (A.MEM_BANK_CTL b) F.MEM_BANK_CTL_UWIN

/-- Two writes of one cycle to one line differ in a byte that both enable (R66). -/
def collides (a b : List (Nat × Byte)) : Bool :=
  a.any (fun x => b.any (fun y => x.1 == y.1 && x.2 != y.2))

/-- Count a collision (R66). -/
def Dev.collision (s : Dev) (l : Nat) : Dev :=
  let s := s.count A.MEM_COLL F.MEM_COLL_COUNT 1
  let s := s.setReg A.MEM_COLL_LAST (BitVec.ofNat 32 (bankOfLine l * 65536 + l % 32768))
  s.offer 0x42 0x03 .collision

/-- A window write to a host- or supervisor-owned bank that DUO_MIRB names is mirrored (R403). -/
def Dev.mirrorWindow (s : Dev) (a : Nat) : Dev :=
  let b := bankOfAddr a
  let named := if b < 32 then (s.reg A.DUO_MIRB_LO).getLsbD b else decide (b < 48) && (s.reg A.DUO_MIRB_HI).getLsbD (b - 32)
  if named && (s.owner b == 0x3F || s.owner b == 0x38) then
    s.mirror 3 (BitVec.ofNat 32 (lineOf a * 16) :: s.words (lineOf a * 16) 4)
  else s

/-- Serve a window access that has its rights: on port B. `same` says that its port cycle is the one of port A's last
write of this tick. -/
def Dev.serveWindow (s : Dev) (w : WinAcc) (same : Bool) : Dev :=
  match w.data with
  | none =>
    match s.readMem w.addr w.size with
    | (s, some v) => s.answer .ok (BitVec.ofNat 128 v)
    | (s, none) => s.poisonResp w.acc.req.val
  | some d =>
    let bs := leBytes w.size d.toNat
    match s.writeMem w.addr bs with
    | (s, false) => s.poisonResp w.acc.req.val
    | (s, true) =>
      let s := (s.answer .ok 0).mirrorWindow w.addr
      match s.pool.portA with
      | some (l, as) =>
        let mine := (upto w.size).map (fun i => (w.addr % 16 + i, bs.getD i 0))
        if same && l == lineOf w.addr && collides as mine then s.collision l else s
      | none => s

/-- Whether a size and address make a window access that R9 allows. -/
def winAccOk (addr size : Nat) : Bool :=
  (size == 1 || size == 2 || size == 4 || size == 8 || size == 16) && addr % size == 0 &&
    decide (0x1000000 ≤ addr) && decide (addr < 0x3800000)

/-! ## The resource manager (R67, R68) -/

/-- Owner codes of the unit that a sub-client belongs to. -/
def subOwner (m : Nat) : Nat :=
  if m < 64 then 0x32 else if m < 72 then 0x20 else if m < 80 then 0x21 else 0x30

def Dev.pageSub (s : Dev) (p : Nat) : Option Nat :=
  match tabGet 0 s.pool.pageOf p with | 0 => none | n + 1 => some n

/-- Pages of banks owned by a unit, in ascending order. -/
def Dev.unitPages (s : Dev) (code : Nat) : List Nat :=
  (upto 80).flatMap (fun b => if s.ownsLive code b then (upto 128).map (fun k => b * 128 + k) else [])

/-- F: free pages of the unit (R67). -/
def Dev.freePages (s : Dev) (code : Nat) : List Nat := (s.unitPages code).filter (fun p => (s.pageSub p).isNone)

/-- Threshold of a priority; level 0 is fixed at 0. -/
def Dev.rmThr (s : Dev) (p : Nat) : Nat := if p = 0 then 0 else bitsOf (s.reg A.MEM_RM_THR) (8 * p + 7) (8 * p)

inductive RmResult where
  | quota | low | grant (page : Nat)
  deriving DecidableEq, Repr

/-- Decide one request of a sub-client (R67); a grant takes the lowest free page (DESIGN CHOICE, log 22). -/
def Dev.rmAlloc (s : Dev) (m : Nat) : Dev × RmResult :=
  let a := A.MEM_RM_SUB m
  let free := s.freePages (subOwner m)
  if s.get a F.MEM_RM_SUB_QUOTA ≤ s.get a F.MEM_RM_SUB_OUT then (s, .quota)
  else if free.length ≤ s.rmThr (s.get a F.MEM_RM_SUB_PRIO) then (s, .low)
  else
    match free with
    | [] => (s, .low)
    | p :: _ =>
      ((s.onPool fun q => { q with pageOf := tabPut 0 q.pageOf p (m + 1) }).set a F.MEM_RM_SUB_OUT
        (s.get a F.MEM_RM_SUB_OUT + 1), .grant p)

/-- A page is free again: F and O change (the next tick of R68). -/
def Dev.pageFreed (s : Dev) (p : Nat) : Dev :=
  match s.pageSub p with
  | some m =>
    let a := A.MEM_RM_SUB m
    (s.onPool fun q => { q with pageOf := tabPut 0 q.pageOf p 0 }).set a F.MEM_RM_SUB_OUT (s.get a F.MEM_RM_SUB_OUT - 1)
  | none => s

/-- Whether the resource manager holds a page of sub-clients `lo..hi` in a bank. -/
def Dev.holdsPages (s : Dev) (b lo hi : Nat) : Bool :=
  s.pool.pageOf.any (fun p => p.1 / 128 == b && decide (lo + 1 ≤ p.2) && decide (p.2 ≤ hi + 1))

/-! ## Release conditions (R62) -/

/-- Mode of a program engine: 0 STOP, 1 RUN, 2 HOLD. -/
def Dev.peMode (s : Dev) (e : Nat) : Nat := s.get (A.PE_STAT e) F.PE_STAT_MODE

/-- The engine's condition: not the active half, not a veneer half with a switch pending, not part of an M partition
while in RUN or HOLD. -/
def Dev.engineReleases (s : Dev) (e b : Nat) : Bool :=
  let code := s.reg (A.PE_CODE e)
  !(F.PE_CODE_AVAL.of code == 1 && F.PE_CODE_ACT.of code == b) &&
  !(F.PE_CODE_VVAL.of code == 1 && F.PE_CODE_VEN.of code == b && s.bit (A.PE_VNR_STAT e) F.PE_VNR_STAT_PEND) &&
  !(s.peMode e != 0 && (upto 8).any (fun k => s.mBank k == some b && s.get (A.SYS_MMAP k) F.SYS_MMAP_ENG == e))

/-- The sequencer unit's condition. -/
def Dev.seqReleases (s : Dev) (u b : Nat) : Bool :=
  !s.holdsPages b (64 + 8 * u) (71 + 8 * u) &&
  (upto 8).all (fun k =>
    let c := 8 * u + k
    let prog := s.reg (A.SEQ_CTX_PROG c)
    let idle := s.get (A.SEQ_CTX_STAT c) F.SEQ_CTX_STAT_MODE == 0
    (idle || !(F.SEQ_CTX_PROG_SRC.of prog == 1 && F.SEQ_CTX_PROG_BANK.of prog == b)) &&
    (idle || s.get (A.SEQ_UNIT_CFG u) F.SEQ_UNIT_CFG_BANK != b))

/-- The release condition of the bank's owner. -/
def Dev.releaseOk (s : Dev) (b : Nat) : Bool :=
  let c := s.owner b
  if 1 ≤ c && c ≤ 8 then s.engineReleases (c - 1) b
  else if 0x10 ≤ c && c ≤ 0x17 then
    s.get (A.LT_CFG (c - 0x10)) F.LT_CFG_BANK != b ||
      (upto 64).all (fun k => s.get (A.LT_SLOT_STAT (c - 0x10) k) F.LT_SLOT_STAT_MODE == 0)
  else if c = 0x20 || c = 0x21 then s.seqReleases (c - 0x20) b
  else if c = 0x30 then !s.holdsPages b 80 80
  else if c = 0x31 then
    (s.get A.EVR_CFG F.EVR_CFG_BANKA != b && s.get A.EVR_CFG F.EVR_CFG_BANKB != b) ||
      (!s.bit A.EVR_CTL F.EVR_CTL_EN && s.scribe.queue.isEmpty)
  else if c = 0x32 then !s.holdsPages b 0 63
  else c != 0xFF

/-- Hand a bank to a new owner on the tick on which an accepted OWNER write takes effect; a wipe starts with it when
asked for or when the security state changes (R63). -/
def Dev.handOver (s : Dev) (b code : Nat) (wipe : Bool) (uwin pwin : Nat) : Dev :=
  let w := wipe || (secureOwner code != secureOwner (s.owner b))
  let s := s.set (A.MEM_BANK_STAT b) F.MEM_BANK_STAT_OWNER code
  let s := s.set (A.MEM_BANK_STAT b) F.MEM_BANK_STAT_REL 0
  let a := A.MEM_BANK_CTL b
  let s := ((s.set a F.MEM_BANK_CTL_OWNER code).set a F.MEM_BANK_CTL_UWIN uwin).set a F.MEM_BANK_CTL_PWIN pwin
  let s := s.setBit a F.MEM_BANK_CTL_WIPE (wipe && !w)
  let s := s.onPool fun p => { p with relReq := tabPut 0 p.relReq b 0 }
  if w then (s.zeroBank b).set (A.MEM_BANK_STAT b) F.MEM_BANK_STAT_WIPING 1 else s

/-! ## Row repair (R72) -/

/-- A failing row of a bank takes a spare; false when none is free. -/
def Dev.takeSpare (s : Dev) (b : Nat) : Dev × Bool :=
  let a := A.MEM_BANK_STAT b
  let n := s.get a F.MEM_BANK_STAT_SOFT
  if n + s.get a F.MEM_BANK_STAT_FUSED < 2 then ((s.set a F.MEM_BANK_STAT_SOFT (n + 1)).offer 0x42 0x03 .rowRepaired, true)
  else (s, false)

/-- A row that fails during work: a spare, or its failing lines are poisoned and the bank is DEGRADED. -/
def Dev.repairWork (s : Dev) (b : Nat) (lines : List Nat) : Dev :=
  match s.takeSpare b with
  | (s, true) => s
  | (s, false) =>
    let s := lines.foldl (fun s l => s.setPoison (lineNo b l) true) s
    (s.set (A.MEM_BANK_STAT b) F.MEM_BANK_STAT_DEGRADED 1).offer 0x42 0x03 .bankDegraded

/-- A row that fails at a start: a spare, or the bank's owner becomes FAILED. -/
def Dev.repairStart (s : Dev) (b : Nat) : Dev :=
  match s.takeSpare b with
  | (s, true) => s
  | (s, false) =>
    let s := s.set (A.MEM_BANK_STAT b) F.MEM_BANK_STAT_OWNER 0xFF
    (s.set (A.MEM_BANK_CTL b) F.MEM_BANK_CTL_OWNER 0xFF).offer 0x42 0x03 .bankFailed

/-- Rows (of 32 lines) in which lines fail, without repeats. -/
def rowsOf (lines : List Nat) : List Nat :=
  lines.foldl (fun acc l => if acc.contains (l / 32) then acc else acc ++ [l / 32]) []

/-- Repair each failing row of a bank during work. -/
def Dev.repairRows (s : Dev) (b : Nat) (lines : List Nat) : Dev :=
  (rowsOf lines).foldl (fun s r => s.repairWork b (lines.filter (fun l => l / 32 == r))) s

end Sys2Proof.Machine
end

