-- ==== Sys2Proof/Machine/Tasks.lean ====
section
/-! DEFINITION. When tasks of the program engines become due (R79, R80, R85, R88, R90): fires of comparators and
events from capture units, mailbox channels, the Scribe and glue-up slots. -/

namespace Sys2Proof.Machine

def Dev.task (s : Dev) (e t : Nat) : Task := tabGet Task.idle s.tasks (e * 16 + t)
def Dev.setTask (s : Dev) (e t : Nat) (k : Task) : Dev := { s with tasks := tabPut Task.idle s.tasks (e * 16 + t) k }
def Dev.eng (s : Dev) (e : Nat) : Eng := tabGet Eng.idle s.engs e
def Dev.setEng (s : Dev) (e : Nat) (g : Eng) : Dev := { s with engs := tabPut Eng.idle s.engs e g }

/-- Task states of PE_TASK_STAT.STATE. -/
def tsIdle : Nat := 0
def tsDue : Nat := 1
def tsRunning : Nat := 2
def tsPreempted : Nat := 3
def tsHalted : Nat := 4
def tsFaulted : Nat := 5

def Dev.taskState (s : Dev) (e t : Nat) : Nat := s.get (A.PE_TASK_STAT e t) F.PE_TASK_STAT_STATE
def Dev.setTaskState (s : Dev) (e t n : Nat) : Dev := s.set (A.PE_TASK_STAT e t) F.PE_TASK_STAT_STATE n
def Dev.taskOn (s : Dev) (e t : Nat) : Bool := s.bit (A.PE_TASK_CTL e t) F.PE_TASK_CTL_EN
def Dev.taskPrio (s : Dev) (e t : Nat) : Nat := s.get (A.PE_TASK_CTL e t) F.PE_TASK_CTL_PRIO

/-- Scribe source of an engine. -/
def peSrc (e : Nat) : Nat := e + 1

/-- Count an overrun or a dropped event, with the Scribe warning (R80, R85). -/
def Dev.taskOverrun (s : Dev) (e t : Nat) (ev : Ev) : Dev :=
  (s.count (A.PE_TASK_OVR e t) F.PE_TASK_OVR_COUNT 1).offer (peSrc e) 0x04 ev

/-- A task's pending events become one more (R80). -/
def Dev.addEvent (s : Dev) (e t : Nat) : Dev :=
  let a := A.PE_TASK_STAT e t
  let n := s.get a F.PE_TASK_STAT_PEND
  if n = 15 then s.taskOverrun e t .eventDropped
  else
    let s := s.set a F.PE_TASK_STAT_PEND (n + 1)
    if s.taskState e t = tsIdle then s.setTaskState e t tsDue else s

/-- An event of class `cls` and index `idx` for one engine's task; in STOP events are not kept (R88). -/
def Dev.eventFor (s : Dev) (e t cls idx : Nat) : Dev :=
  let c := s.reg (A.PE_TASK_CTL e t)
  if F.PE_TASK_CTL_EN.of c == 1 && F.PE_TASK_CTL_KIND.of c == 1 && F.PE_TASK_CTL_ECLS.of c == cls &&
      F.PE_TASK_CTL_EIDX.of c == idx && s.peMode e != 0 then s.addEvent e t
  else s

/-- An event reaches every event-driven task of engines `es` that names its source (R80). -/
def Dev.taskEventOn (s : Dev) (es : List Nat) (cls idx : Nat) : Dev :=
  es.foldl (fun s e => s.each 16 (fun s t => s.eventFor e t cls idx)) s

def Dev.taskEvent (s : Dev) (cls idx : Nat) : Dev := s.taskEventOn (upto 8) cls idx

/-- The comparator check of R79 on the register values that matched. -/
def Dev.cyclicOk (s : Dev) (n : Nat) : Bool :=
  let ns := s.get0 (A.TIME_TT_PER n) F.TIME_TT_PER_PER * 4
  s.bit0 (A.TIME_TT_CTL n) F.TIME_TT_CTL_MODE && ns % 1000 == 0 && decide (50000 ≤ ns) && decide (ns ≤ 10000000000)

/-- A fire of a cyclic task's comparator: due, skipped as an overrun, counted in HOLD, or refused by the period check. -/
def Dev.cyclicDue (s : Dev) (e t n : Nat) : Dev :=
  let c := s.reg (A.PE_TASK_CTL e t)
  let stop := s.get (A.PE_STAT e) F.PE_STAT_PEND == 2
  if !(F.PE_TASK_CTL_EN.of c == 1 && F.PE_TASK_CTL_KIND.of c == 0 && F.PE_TASK_CTL_EIDX.of c == n) || s.peMode e == 0
  then s
  else if !s.cyclicOk n then
    (s.raise (A.PE_TASK_STAT e t) F.PE_TASK_STAT_PERR).offer (peSrc e) 0x04 .periodError
  else if s.peMode e == 2 then s.count (A.PE_TASK_HSKIP e t) F.PE_TASK_HSKIP_COUNT 1
  else if s.taskState e t = tsIdle then (if stop then s else s.setTaskState e t tsDue)
  else if s.taskState e t = tsFaulted then s
  else s.taskOverrun e t .taskOverrun

/-- Every cyclic task that names comparator `n` sees its fire. -/
def Dev.fireTasks (s : Dev) (n : Nat) : Dev := s.each 8 (fun s e => s.each 16 (fun s t => s.cyclicDue e t n))

end Sys2Proof.Machine
end

