-- ==== Sys2Proof/Machine/Time.lean ====
section
/-! DEFINITION. The time unit (chapter 2): steps, seeds and the calendar, comparators, PPS, capture units. -/

namespace Sys2Proof.Machine

def Dev.onTime (s : Dev) (f : Time → Time) : Dev := { s with time := f s.time }
def Dev.onCal (s : Dev) (f : Cal → Cal) : Dev := { s with cal := f s.cal }

def second : Nat := 1000000000

/-! ## OFFSYNC (R35) -/

/-- OFFSYNC follows SRC and the estimate. -/
def Dev.offsync (s : Dev) : Bool :=
  let src := s.get A.TIME_CTL F.TIME_CTL_SRC
  src == 0 || src == 1 || decide (1000 < (s.reg A.TIME_OFS_EST).toInt.natAbs)

def Dev.setOffsync (s : Dev) : Dev := s.setBit A.TIME_STAT F.TIME_STAT_OFFSYNC s.offsync

/-! ## Comparators (R41-R46) -/

def Dev.ttPeriod (s : Dev) (n : Nat) : Nat := s.get (A.TIME_TT_PER n) F.TIME_TT_PER_PER * 4

/-- Note whether the instant of an enabled one-shot lies before the time that stands (R42). -/
def Dev.ttJudgeLate (s : Dev) (n : Nat) : Dev :=
  let past := s.bit (A.TIME_TT_CTL n) F.TIME_TT_CTL_EN && decide (s.pair (A.TIME_TT_CMP_LO n) < s.time.ts)
  s.onTime fun t => { t with late := if past then n :: t.late.filter (· != n) else t.late.filter (· != n) }

/-- A comparator's place after a step of `d` ns from `t0` (what ordinary counting gives) to `t1` (R44). -/
def Dev.ttStep (s : Dev) (n : Nat) (d : Int) (t0 t1 : Nat) : Dev :=
  let c := s.reg (A.TIME_TT_CTL n)
  let cmp := (s.pair (A.TIME_TT_CMP_LO n)).toNat
  if F.TIME_TT_CTL_EN.of c = 0 then s
  else if F.TIME_TT_CTL_STEP.of c = 1 then s.setPair (A.TIME_TT_CMP_LO n) (BitVec.ofInt 64 ((cmp : Int) + d))
  else if 0 < d then
    if F.TIME_TT_CTL_MODE.of c = 0 && decide (t0 < cmp) && decide (cmp ≤ t1) then
      s.onTime fun t => { t with late := n :: t.late.filter (· != n) }
    else s
  else if decide (d < 0) && F.TIME_TT_CTL_MODE.of c == 1 && decide (t1 < cmp) then
    s.setPair (A.TIME_TT_CMP_LO n) (BitVec.ofNat 64 (cmp - (cmp - t1 - 1) / s.ttPeriod n * s.ttPeriod n))
  else s

/-- What every change of time by a step or a seed brings: comparators, STEP events to recorder and Scribe (R33, R38). -/
def Dev.timeStepped (s : Dev) (d : Int) (t0 t1 : Nat) : Dev :=
  let s := s.each 64 (fun s n => s.ttStep n d t0 t1)
  (s.recMark true false false).scribeMark true false false

/-- A fire of comparator `n` is due on this tick: enabled, its instant reached, not fired yet on this tick (R41, R45). -/
def Dev.ttDue (s : Dev) (n : Nat) : Bool :=
  s.bit0 (A.TIME_TT_CTL n) F.TIME_TT_CTL_EN && decide (s.pair0 (A.TIME_TT_CMP_LO n) ≤ s.time.ts) &&
    !s.time.fired.contains n

/-- Software wrote the register on this tick. -/
def Dev.wroteReg (s : Dev) (a : Nat) : Bool := tabGet 0 s.swWrote a != 0

/-- The comparator after its fire: a periodic one advances by whole periods (R43), a one-shot ends (R42); a write of
the same tick stands over it (R45). -/
def Dev.ttAdvance (s : Dev) (n : Nat) : Dev :=
  let c := s.reg0 (A.TIME_TT_CTL n)
  let a := A.TIME_TT_CTL n
  if F.TIME_TT_CTL_MODE.of c = 1 then
    let cmp := (s.pair0 (A.TIME_TT_CMP_LO n)).toNat
    let per := s.get0 (A.TIME_TT_PER n) F.TIME_TT_PER_PER * 4
    let k := (s.time.ts.toNat - cmp) / per + 1
    let s := if s.wroteReg (A.TIME_TT_CMP_HI n) then s
      else (s.setPair (A.TIME_TT_CMP_LO n) (BitVec.ofNat 64 (cmp + k * per))).count (A.TIME_TT_MISS n) F.TIME_TT_MISS_MISS (k - 1)
    if 1 < k then s.raise a F.TIME_TT_CTL_LATE else s
  else
    let s := if s.wroteReg a then s else s.set a F.TIME_TT_CTL_EN 0
    let s := s.raise a F.TIME_TT_CTL_FIRED
    if s.time.late.contains n then
      (s.raise a F.TIME_TT_CTL_LATE).onTime fun t => { t with late := t.late.filter (· != n) }
    else s

/-- A pulse on TRG_OUT starts, or starts again (R46). -/
def Dev.ttPulse (s : Dev) (n : Nat) : Dev :=
  let c := s.reg0 (A.TIME_TT_CTL n)
  if F.TIME_TT_CTL_OUTEN.of c = 1 then
    s.onTime fun t => { t with
      pulses := tabPut (4, 0) t.pulses n (F.TIME_TT_CTL_OUTSEL.of c, s.ticks + F.TIME_TT_CTL_PW.of c * 250) }
  else s

/-- Level of TRG_OUT pin `p`: the OR of the pulses on it. -/
def Dev.trgOut (s : Dev) (p : Nat) : Bool := s.time.pulses.any (fun q => q.2.1 == p)

/-! ## Capture units (R48-R50) -/

def Dev.cuQueue (s : Dev) (u : Nat) : List Stamp := tabGet [] s.stamps u

/-- Set a capture unit's queue and the registers that show its head. -/
def Dev.setCuQueue (s : Dev) (u : Nat) (q : List Stamp) : Dev :=
  let s := { s with stamps := tabPut [] s.stamps u q }
  let h : Stamp := q.headD ⟨0, 0, false⟩
  let a := A.TIME_CU_STAT u
  let s := s.set a F.TIME_CU_STAT_LEVEL q.length
  let s := s.set a F.TIME_CU_STAT_HEADFRAC h.frac
  let s := s.setBit a F.TIME_CU_STAT_HEADPOL h.rising
  s.setPair (A.TIME_CU_TS_LO u) h.ts

/-- Store a stamp in a unit whose queue has room; NOTIFY raises an event (R49). A full queue keeps it waiting for a POP of
the same tick. -/
def Dev.cuPut (s : Dev) (u : Nat) (x : Stamp) : Dev :=
  let q := s.cuQueue u
  if q.length < 8 then
    let s := s.setCuQueue u (q ++ [x])
    if s.bit (A.TIME_CU_CTL u) F.TIME_CU_CTL_NOTIFY then s.taskEvent 1 u else s
  else s.onTime fun t => { t with cuOver := t.cuOver ++ [(u, x)] }

/-- At the end of a tick the stamps that no POP made room for are LOST (R49). -/
def Dev.cuTickEnd (s : Dev) : Dev :=
  let s' := s.time.cuOver.foldl (fun s p => s.count (A.TIME_CU_STAT p.1) F.TIME_CU_STAT_LOST 1) s
  s'.onTime fun t => { t with cuOver := [] }

/-- A unit takes a stamp, which a synced primary collects (R393). -/
def Dev.cuStore (s : Dev) (u : Nat) (x : Stamp) : Dev :=
  (s.cuPut u x).collect 3 (BitVec.ofNat 32 u) (BitVec.ofNat 32 ((if x.rising then 16 else 0) + x.frac)) 0
    [x.ts.setWidth 32, (x.ts >>> 32).setWidth 32]

/-- A unit watches source `src` for an edge of this polarity. -/
def Dev.cuWatches (s : Dev) (u src : Nat) (rising : Bool) : Bool :=
  let c := s.reg (A.TIME_CU_CTL u)
  let e := F.TIME_CU_CTL_EDGE.of c
  F.TIME_CU_CTL_EN.of c == 1 && F.TIME_CU_CTL_SRC.of c == src && (e == 2 || e == (if rising then 0 else 1))

/-- Every unit that watches the source takes the stamp; the capture units of a standby take theirs from the primary
(R395), and after PFAIL none takes any (R451). -/
def Dev.capture (s : Dev) (src : Nat) (x : Stamp) : Dev :=
  if s.standby || s.halted then s
  else s.each 32 fun s u => if s.cuWatches u src x.rising then s.cuStore u x else s

/-- An edge reported on this tick by a source inside the device (R48). -/
def Dev.captureNow (s : Dev) (src : Nat) (rising : Bool) : Dev := s.capture src ⟨s.time.ts, 0, rising⟩

/-- The stamp of an edge `ps` picoseconds into this tick: the accumulator at the start of the tick plus the addend's
share, truncated to 100 ps. The accumulator holds the value after this tick's addition, so it is itself the instant at
the start of the interval (R34, R48). -/
def Dev.edgeStamp (s : Dev) (ps : Nat) (rising : Bool) : Stamp :=
  let addend := s.get A.TIME_ADDEND_HI F.TIME_ADDEND_HI_INT * 2 ^ 32 + (s.reg A.TIME_ADDEND_LO).toNat
  let acc := s.time.ts.toNat * 2 ^ 32 + s.time.frac.toNat + addend * ps / 4000
  let tenths := acc * 10 / 2 ^ 32
  ⟨BitVec.ofNat 64 (tenths / 10), tenths % 10, rising⟩

/-! ## Meanings -/

/-- ADDEND_COMMIT (R32, R10): the requester's staged fraction, else the fraction in force, with the integer written. -/
def Dev.addendCommit (s : Dev) (req : Nat) (v : Word) : Dev :=
  let k := reqKey req A.TIME_ADDEND_LO
  let lo := (tabGet none s.staged k).getD (s.reg A.TIME_ADDEND_LO)
  let s := { s with staged := tabPut none s.staged k none }
  let a := bitsOf v 3 0 * 2 ^ 32 + lo.toNat
  -- 3.996 ns and 4.004 ns in units of 2^-32 ns
  if 3996 * 2 ^ 32 ≤ a * 1000 && a * 1000 ≤ 4004 * 2 ^ 32 then
    s.onTime fun t => { t with newAddend := some (BitVec.ofNat 36 a) }
  else (s.raise A.TIME_STAT F.TIME_STAT_ADDERR).offer 0x41 0x02 .addendRefused

/-- The staged low half of a pair, or the one in force, and the staging consumed (R10). -/
def Dev.takeStaged (s : Dev) (req lo : Nat) (force : Word) : Word × Dev :=
  let k := reqKey req lo
  ((tabGet none s.staged k).getD force, { s with staged := tabPut none s.staged k none })

/-- TIME_STEP (R33): the commit of a signed step, added at the start of the next tick. Its low half is 0 when the
requester has staged none. -/
def Dev.timeStep (s : Dev) (req : Nat) (v : Word) : Dev :=
  let (lo, s) := s.takeStaged req A.TIME_STEP_LO 0
  s.onTime fun t => { t with steps := t.steps ++ [(v ++ lo : Dbl).toInt] }

/-- The steps that wait, judged and summed against the time that stands: what is added, and whether one was refused. -/
def judgeSteps (ts : Int) : List Int → Int × Bool
  | [] => (0, false)
  | d :: ds =>
    if ts + d < 0 || (2 : Int) ^ 64 ≤ ts + d then ((judgeSteps ts ds).1, true)
    else (d + (judgeSteps (ts + d) ds).1, (judgeSteps (ts + d) ds).2)

/-- An addend committed on the tick before is in force (R32). -/
def Dev.addendTick (s : Dev) : Dev :=
  match s.time.newAddend with
  | some n =>
    let s := (s.setReg A.TIME_ADDEND_LO (n.setWidth 32)).set A.TIME_ADDEND_HI F.TIME_ADDEND_HI_INT (n.toNat / 2 ^ 32)
    s.onTime fun t => { t with newAddend := none }
  | none => s

/-- The time base's part of a new tick (R31-R34): the steps, then the addend that was in force before a commit of this
tick. -/
def Dev.timeTick (s : Dev) : Dev :=
  let s := s.addendTick
  let a := s.get A.TIME_ADDEND_HI F.TIME_ADDEND_HI_INT * 2 ^ 32 + (s.reg A.TIME_ADDEND_LO).toNat
  let (d, bad) := judgeSteps s.time.ts.toNat s.time.steps
  let t0 := s.time.ts.toNat
  let sum (t : Nat) : Nat := t * 2 ^ 32 + s.time.frac.toNat + a
  let acc := sum (((t0 : Int) + d).toNat)
  let ts := acc / 2 ^ 32
  let s := s.onTime fun t => { t with
    ts := BitVec.ofNat 64 ts, frac := BitVec.ofNat 32 acc, steps := [], fired := [],
    crossed := if t0 / second < ts / second then some (ts / second) else none }
  let s := { s with ticks := s.ticks + 1 }
  let s := if bad then (s.raise A.TIME_STAT F.TIME_STAT_STEPERR).offer 0x41 0x02 .stepRefused else s
  if d != 0 then s.timeStepped d (sum t0 / 2 ^ 32) ts else s

/-- The crystal's part of a new tick: 32 768 edges each 250 000 000 ticks (DESIGN CHOICE, log 6); an edge counts TICK
(R37). -/
def Dev.calTick (s : Dev) : Dev :=
  let p := s.cal.phase + 32768
  if p < 250000000 then s.onCal fun c => { c with phase := p, edge := false }
  else if s.cal.tick = 32767 then
    s.onCal fun c => { c with phase := p - 250000000, edge := true, tick := 0, sec := c.sec + 1 }
  else s.onCal fun c => { c with phase := p - 250000000, edge := true, tick := c.tick + 1 }

/-- PPS_OUT is low while EN is clear (R47). -/
def Dev.ppsTick (s : Dev) : Dev :=
  if s.bit A.TIME_PPS_CTL F.TIME_PPS_CTL_EN then s else s.onTime fun t => { t with ppsEnd := none }

/-- SEED_APPLY (R38): on the crystal edge the time base is loaded from the calendar. -/
def Dev.seedApply (s : Dev) : Dev :=
  if s.time.seedReq && s.cal.edge then
    let t1 := s.cal.sec.toNat * second + s.cal.tick.toNat * second / 32768
    let t0 := s.time.ts.toNat
    let s := s.onTime fun t => { t with
      ts := BitVec.ofNat 64 t1, frac := 0, seedReq := false,
      crossed := if t0 / second < t1 / second then some (t1 / second) else t.crossed }
    let s := s.set A.TIME_CTL F.TIME_CTL_SRC (if s.bit A.AON_CAL_STAT F.AON_CAL_STAT_VALID then 1 else 0)
    (s.timeStepped ((t1 : Int) - t0) t0 t1).setOffsync
  else s

/-- The calendar loaded on a crystal edge (R37, R40). -/
def Dev.calSet (s : Dev) (sec : BitVec 48) : Dev :=
  (s.onCal fun c => { c with sec := sec, tick := 0 }).set A.AON_CAL_STAT F.AON_CAL_STAT_VALID 1

/-- CAL_LOAD (R37): the committed seconds; a write-back due on the same edge is dropped (R40). -/
def Dev.calLoad (s : Dev) : Dev :=
  match s.cal.edge, s.cal.commit with
  | true, some v => (s.calSet v).onCal fun c => { c with commit := none, writeback := none }
  | _, _ => s

/-- CAL_WRITEBACK (R40). -/
def Dev.calWriteback (s : Dev) : Dev :=
  match s.cal.edge, s.cal.writeback with
  | true, some v =>
    let s := if s.cal.commit.isSome then s else s.calSet v
    s.onCal fun c => { c with writeback := none }
  | _, _ => s

/-- SECOND_CROSSING's part of the time unit: PPS_OUT rises, the calendar write-back is asked for, markers are due. -/
def Dev.secondCrossed (s : Dev) (sec : Nat) : Dev :=
  let s := if s.bit A.TIME_PPS_CTL F.TIME_PPS_CTL_EN then
      s.onTime fun t => { t with ppsEnd := some (s.ticks + s.get A.TIME_PPS_CTL F.TIME_PPS_CTL_WIDTH * 250000) }
    else s
  let s := if s.bit A.TIME_STAT F.TIME_STAT_OFFSYNC then s
    else s.onCal fun c => { c with writeback := some (BitVec.ofNat 48 sec) }
  let s := (s.recMark false false false).scribeMark false false false
  s.onTime fun t => { t with crossed := none }

/-- CAPTURE_EDGE's part of the capture units: an edge 16 ns or more after the last stamped one is stamped; in the dead
time it is LOST (R50). Inputs 0-3 are TRG_IN0-3, 4 is PPS_IN. -/
def Dev.captureEdge (s : Dev) (inp : Nat) (rising : Bool) (ps : Nat) : Dev × Option Stamp :=
  let now := s.ticks * 4000 + ps + 1
  let last := tabGet 0 s.time.lastEdge inp
  if last != 0 && decide (now < last + 16000) then
    (s.each 32 fun s u =>
      if s.cuWatches u (inp + 1) rising then s.count (A.TIME_CU_STAT u) F.TIME_CU_STAT_LOST 1 else s, none)
  else
    let x := s.edgeStamp ps rising
    ((s.onTime fun t => { t with lastEdge := tabPut 0 t.lastEdge inp now }).capture (inp + 1) x, some x)

end Sys2Proof.Machine
end

