-- ==== Sys2Proof/Machine/Sinks.lean ====
section
/-! DEFINITION. Writing points: claims (R18), setpoint ranks (R19), the analogue and digital outputs as destinations
(R240, R241, R269, R277), network fields, M words and remote points, with what the destination reports (R186). -/

namespace Sys2Proof.Machine

/-! ## Claims -/

/-- Register that shows the holder of an output's claim, for classes 0x11 and 0x19. -/
def claimCode : Option Writer → Nat
  | none => 0
  | some (.slot _) => 1
  | some (.engine _) => 2
  | some (.context _) => 3
  | some (.core _) => 4
  | some .host => 5

/-- Set or give up the claim of a point, and show it in CLAIM. -/
def Dev.putClaim (s : Dev) (h : Word) (w : Option Writer) : Dev :=
  let s := s.setClaim h w
  if hclass h = 0x11 then s.set (A.ANA_AO_STAT (hindex h)) F.ANA_AO_STAT_CLAIM (claimCode w)
  else if hclass h = 0x19 then s.set (A.DIO_DQ_STAT (hindex h)) F.DIO_DQ_STAT_CLAIM (claimCode w)
  else s

/-- The claim is free for a writer: held by nobody else. -/
def Dev.claimFree (s : Dev) (h : Word) (w : Writer) : Bool :=
  match s.claim h with
  | none => true
  | some x => x == w

/-- Give up a claim if this writer holds it. -/
def Dev.dropClaim (s : Dev) (h : Word) (w : Writer) : Dev := if s.claim h = some w then s.putClaim h none else s

/-- The writer behind a requester of R51: host ports, supervisor cores, engines. -/
def writerOf (req : Nat) : Writer :=
  if req ≤ 2 then .host else if req ≤ 6 then .core (req - 3) else .engine (req - 7)

/-- Scribe source and code block of a writer (R324). The host's own source 0x3F is for records that it posts,
so its ignored write is recorded by SYS, which takes its accesses (DEDUCED, log 53). -/
def writerSrc : Writer → Nat × Nat
  | .slot n => (0x10 + n / 64, 0x06)
  | .engine n => (n + 1, 0x04)
  | .context n => (0x20 + n / 8, 0x07)
  | .core _ => (0x38, 0x01)
  | .host => (0x40, 0x01)

/-! ## Analogue outputs -/

def Dev.ao (s : Dev) (m : Nat) : Ao := tabGet Ao.init s.aos m
def Dev.setAo (s : Dev) (m : Nat) (a : Ao) : Dev := { s with aos := tabPut Ao.init s.aos m a }
def aoHandle (m : Nat) : Word := mkHandle 0x11 m
/-- A signed half carried in a word (R17). -/
def sextHalf (v : Nat) : Word := (BitVec.ofNat 16 v).signExtend 32

/-- A new code for the converter stage; a code that waits undriven is replaced and COAL shows it (R240). -/
def Dev.aoNew (s : Dev) (m : Nat) : Dev :=
  let a := s.ao m
  let s := if a.waiting.isSome then s.raise (A.ANA_AO_STAT m) F.ANA_AO_STAT_COAL else s
  s.setAo m { a with waiting := some (s.ticks + 1) }

/-- The code that an output should drive: power-fail state above force above the point (R243). -/
def Dev.aoCode (s : Dev) (m : Nat) : Word :=
  match (s.ao m).pf with
  | some c => c
  | none => (s.now (aoHandle m)).val

/-- A write of the point by its claimed writer. -/
def Dev.aoWrite (s : Dev) (m : Nat) (p : Pt) : Dev :=
  let v := sextHalf (bitsOf p.val 15 0)
  let s := (s.putPoint (aoHandle m) ⟨v, p.valid⟩).set (A.ANA_AO_STAT m) F.ANA_AO_STAT_STOPPED 0
  if (forceOn (actingForces s.forces) (aoHandle m)).isSome then s else s.aoNew m

/-- The stop state (R241): the code that stands, or STOPV. -/
def Dev.aoStop (s : Dev) (m : Nat) : Dev :=
  let s := s.set (A.ANA_AO_STAT m) F.ANA_AO_STAT_STOPPED 1
  if s.bit (A.ANA_AO_CTL m) F.ANA_AO_CTL_STOPM then
    let v := sextHalf (s.get (A.ANA_AO_SAFE m) F.ANA_AO_SAFE_STOPV)
    let s := s.putPoint (aoHandle m) ⟨v, (s.point (aoHandle m)).valid⟩
    if (forceOn (actingForces s.forces) (aoHandle m)).isSome then s else s.aoNew m
  else s

/-! ## Digital outputs -/

def Dev.dq (s : Dev) (n : Nat) : Dq := tabGet Dq.init s.dqs n
def Dev.setDq (s : Dev) (n : Nat) (d : Dq) : Dev := { s with dqs := tabPut Dq.init s.dqs n d }
def dqHandle (n : Nat) : Word := mkHandle 0x19 n
def Dev.dqUnpowered (s : Dev) (n : Nat) : Bool := s.bit (A.DIO_DQG_STAT (n / 8)) F.DIO_DQG_STAT_UNPWR

/-- The command an output should follow: power-fail state above force above the point (R279). -/
def Dev.dqCmd (s : Dev) (n : Nat) : Nat :=
  match (s.dq n).pf with
  | some c => bitsOf c 15 0
  | none => bitsOf (s.now (dqHandle n)).val 15 0

/-- PWM mode: always under a loop slot's claim, else as DIO_DQ_CTL.PWM sets (R269). -/
def Dev.dqPwm (s : Dev) (n : Nat) : Bool :=
  match s.claim (dqHandle n) with
  | some (.slot _) => true
  | _ => s.bit (A.DIO_DQ_CTL n) F.DIO_DQ_CTL_PWM

/-- PWM frequency in Hz: the slot's own under its claim. -/
def Dev.dqFreq (s : Dev) (n : Nat) : Nat :=
  match s.claim (dqHandle n) with
  | some (.slot k) => s.get (A.LT_SLOT_CFG (k / 64) (k % 64)) F.LT_SLOT_CFG_PWMF
  | _ => s.get (A.DIO_DQ_CTL n) F.DIO_DQ_CTL_PWMF

/-- Level that the switch of an output has: off while UNPOWERED or shut down (R271, R275). -/
def Dev.dqLevel (s : Dev) (n : Nat) : Bool :=
  !s.dqUnpowered n && !s.bit (A.DIO_DQ_STAT n) F.DIO_DQ_STAT_OVT &&
    (if s.dqPwm n then (s.dq n).pwmOn else s.dqCmd n != 0)

/-- A change of command restarts the open-load check (R274) and the mismatch count (R273). -/
def Dev.dqChanged (s : Dev) (n : Nat) : Dev := 
  s.setDq n { s.dq n with openSince := s.ticks + 1, mismSince := s.ticks + 1, rbDiff := false }

/-- A write of the command point by its claimed writer. -/
def Dev.dqWrite (s : Dev) (n : Nat) (p : Pt) : Dev :=
  let v := BitVec.ofNat 32 (bitsOf p.val 15 0)
  let changed := (s.point (dqHandle n)).val != v
  let s := (s.putPoint (dqHandle n) ⟨v, p.valid⟩).set (A.DIO_DQ_STAT n) F.DIO_DQ_STAT_STOPPED 0
  if changed then s.dqChanged n else s

/-- A state code OFF, HOLD or ON as a command; none for HOLD. -/
def dqStateCmd : Nat → Option Word
  | 0 => some 0
  | 2 => some 0xFFFF
  | _ => none

/-- The stop state (R277). -/
def Dev.dqStop (s : Dev) (n : Nat) : Dev :=
  let s := s.set (A.DIO_DQ_STAT n) F.DIO_DQ_STAT_STOPPED 1
  match dqStateCmd (s.get (A.DIO_DQ_CTL n) F.DIO_DQ_CTL_STOPM) with
  | some v =>
    let p := s.point (dqHandle n)
    let s := s.putPoint (dqHandle n) ⟨v, p.valid⟩
    if p.val = v then s else s.dqChanged n
  | none => s

/-- Every output whose claim a writer holds takes its stop state on the next tick. -/
def Dev.stopOutputs (s : Dev) (w : Writer) (only : Word → Bool) : Dev :=
  let s := s.each 16 fun s m => if s.claim (aoHandle m) = some w && only (aoHandle m) then s.after (.outStop false m) else s
  s.each 32 fun s n => if s.claim (dqHandle n) = some w && only (dqHandle n) then s.after (.outStop true n) else s

/-! ## Setpoints (R19) -/

/-- Place of a setpoint writer in the order of R19: higher stands. -/
def spPlace : Writer → Nat
  | .slot n => 5000 + (511 - n)
  | .context n => 4000 + (15 - n)
  | .engine n => 3000 + (7 - n)
  | .core n => 2000 + (3 - n)
  | .host => 1000

/-! ## Any destination -/

/-- What a write through a handle came to: taken, taken with destination loss, lost to poison or a missing window, or
ignored. -/
inductive Deliver where
  | taken | lost | poison | ignored
  deriving DecidableEq, Repr

/-- The station of a transmit field is absent (R351, R367). -/
def Dev.stationAbsent (s : Dev) (h : Word) : Bool :=
  let w := s.reg (fieldCfgAddr h)
  if hclass h = 0x31 then
    let o := s.reg (A.ETH_TXO_CFG (F.ETH_FLD_CFG_OBJ.of w))
    F.ETH_TXO_CFG_STNEN.of o == 1 && s.bit (A.ETH_RXO_CFG (F.ETH_TXO_CFG_STN.of o)) F.ETH_RXO_CFG_ABS
  else
    let ch := hindex h / 256
    let o := s.reg (A.CN_TXO_CFG ch (F.CN_FLD_CFG_OBJ.of w % 16))
    F.CN_TXO_CFG_STNEN.of o == 1 && s.bit (A.CN_FLT_CFG ch (F.CN_TXO_CFG_STN.of o)) F.CN_FLT_CFG_ABS

/-- A device of the own segment is present. -/
def Dev.present (s : Dev) (d : Nat) : Bool := (s.reg A.PLJ_PRESENT).getLsbD d || d == s.get A.PLJ_ID F.PLJ_ID_DEV

/-- A write through a remote point (R384): an enabled WRITE entry sends a REP frame; an absent device is a loss. -/
def Dev.remoteWrite (s : Dev) (e : Nat) (p : Pt) : Dev × Deliver :=
  let c := s.reg (A.PLJ_SEGT_CFG e)
  if F.PLJ_SEGT_CFG_EN.of c = 1 && F.PLJ_SEGT_CFG_DIR.of c = 1 then
    let d := F.PLJ_SEGT_CFG_DEV.of c
    if s.present d then
      (s.emit ⟨2, d, 3, [s.reg (A.PLJ_SEGT_RHND e), p.val, if p.valid then 1 else 0, s.ts32]⟩, .taken)
    else (s, .lost)
  else (s, .ignored)

/-- Store a word into M word `i`, beneath any force (R147). -/
def Dev.mStore (s : Dev) (i : Nat) (v : Word) : Dev × Deliver :=
  match s.mAddr i with
  | none => (s, .poison)
  | some a =>
    match s.writeMem a (leBytes 4 v.toNat) with
    | (s', true) =>
      ({ s' with wrote := s'.wrote ++ [mkHandle 0x08 i],
                 pool := { s'.pool with portA := some (lineOf a, (upto 4).map (fun j => (a % 16 + j, (leBytes 4 v.toNat).getD j 0))) } },
        .taken)
    | (s', false) => (s', .poison)

/-- An ignored write through a claimed class is recorded (R18). -/
def Dev.ignoredWrite (s : Dev) (w : Writer) (ev : Ev) : Dev := s.offer (writerSrc w).1 (writerSrc w).2 ev

/-- A write of a setpoint: it stands unless a higher-ranked writer has written on this tick. While the slot's SP names a
handle the write is ignored and recorded (R160). -/
def Dev.spWrite (s : Dev) (w : Writer) (i : Nat) (p : Pt) : Dev :=
  if s.reg (A.LT_SLOT_SP (i / 64) (i % 64)) != 0 then s.ignoredWrite w .unclaimedWrite
  else if spPlace w < tabGet 0 s.spRank i then s
  else { s.putPoint (mkHandle 0x20 i) p with spRank := tabPut 0 s.spRank i (spPlace w) }

/-- A DQ's write is a destination loss while its group is UNPOWERED; a standby reports none for unpaired outputs (R397). -/
def Dev.dqLost (s : Dev) (n : Nat) : Bool := s.dqUnpowered n && !(s.syncedAs 2 && !(s.reg A.DUO_FOUT).getLsbD n)

/-- What a write through a handle by a unit does: claimed classes, setpoints and remote points; every other class is
ignored (M words and image words belong to the callers, which know the grants). -/
def Dev.deliverTo (s : Dev) (w : Writer) (h : Word) (p : Pt) : Dev × Deliver :=
  let i := hindex h
  if claimedClass (hclass h) then
    if s.claim h = some w then
      if hclass h = 0x11 then (s.aoWrite i p, .taken)
      else if hclass h = 0x19 then (s.dqWrite i p, if s.dqLost i then .lost else .taken)
      else (s.putPoint h p, if s.stationAbsent h then .lost else .taken)
    else (s.ignoredWrite w .unclaimedWrite, .ignored)
  else if hclass h = 0x20 then (s.spWrite w i p, .taken)
  else if hclass h = 0x7F then s.remoteWrite i p
  else (s, .ignored)

/-- A write through a handle by a unit, with its report; the digest of a dovetail member covers both (R400). -/
def Dev.deliver (s : Dev) (w : Writer) (h : Word) (p : Pt) : Dev × Deliver :=
  let r := s.deliverTo w h p
  (r.1.output (writerSrc w).1 [h, p.val, if p.valid then 1 else 0, if r.2 = .lost then 1 else 0], r.2)

/-- The policy image grants M word `i` to the unit with an owner code. -/
def Dev.granted (s : Dev) (i code : Nat) : Bool := s.policy.grants.contains (i, code)

/-! ## The output image and its map (R77, R84, R89) -/

/-- The value of a destination's bits in a Q word (a half for classes 0x11 and 0x19). -/
def placeValue (k : NKind) (p : Place) (q : Word) : Word :=
  let v := (q.toNat >>> p.bit) % 2 ^ kindWidth k
  if k = .half then sextHalf v else BitVec.ofNat 32 v

/-- Bits of a Q word that a place takes. -/
def placeBits (k : NKind) (p : Place) : Word := BitVec.ofNat 32 ((2 ^ kindWidth k - 1) <<< p.bit)

/-- The output-map destinations of a Q word follow it, under the forces of its cycle: these present their VALID (R84,
R146). Stop and frozen values are forced here (R93, R135); they pass over AO and DQ, which have stop states of their own
(R89). -/
def Dev.qDeliver (s : Dev) (e w : Nat) (fs : List Force) (p : Pt) (stop : Bool) : Dev :=
  (s.policy.outMap.filter (fun x => x.word == w)).foldl (fun s x =>
    let c := hclass x.handle
    let k := s.localKind x.handle
    let q := forced (fs.filterMap (forcePart 0x03 0x04 w)) (placeBits k x) stop p
    let v : Pt := ⟨placeValue k x q.val, q.valid⟩
    if stop && (c == 0x11 || c == 0x19) then s
    else if c = 0x08 then (s.mStore (hindex x.handle) v.val).1
    else (s.deliver (.engine e) x.handle v).1) s

/-- A Q word takes a value, and its output-map destinations follow. -/
def Dev.putQ (s : Dev) (e w : Nat) (fs : List Force) (p : Pt) (stop : Bool) : Dev :=
  ((s.putPoint (mkHandle 0x04 w) p).output (e + 1) [mkHandle 0x04 w, p.val, if p.valid then 1 else 0]).qDeliver e w fs p stop

end Sys2Proof.Machine
end

