-- ==== Sys2Proof/Machine/Loop.lean ====
section
/-! DEFINITION. The loop tiles (chapters 7 and 8): write-through to the bank, samples and their health checks, fallbacks
and ramps, the datapath and the output writer, mode requests and admission. Slot `g` is slot `g % 64` of tile `g / 64`. -/

namespace Sys2Proof.Machine

/-! ## A slot's registers and hidden state -/

def Dev.loop (s : Dev) (g : Nat) : Loop := tabGet Loop.idle s.loops g
def Dev.onLoop (s : Dev) (g : Nat) (f : Loop → Loop) : Dev := { s with loops := tabPut Loop.idle s.loops g (f (s.loop g)) }
def Dev.tile (s : Dev) (n : Nat) : Tile := tabGet Tile.init s.tiles n
def Dev.onTile (s : Dev) (n : Nat) (f : Tile → Tile) : Dev := { s with tiles := tabPut Tile.init s.tiles n (f (s.tile n)) }

/-- Offset of a slot's window. -/
def slotBase (g : Nat) : Nat := A.LT_SLOT_SP (g / 64) (g % 64)
def slotStat (g : Nat) : Nat := A.LT_SLOT_STAT (g / 64) (g % 64)
def slotHstat (g : Nat) : Nat := A.LT_SLOT_HSTAT (g / 64) (g % 64)
def slotYpv (g : Nat) : Nat := A.LT_SLOT_YPV_LO (g / 64) (g % 64)

def Dev.slotMode (s : Dev) (g : Nat) : Nat := s.get (slotStat g) F.LT_SLOT_STAT_MODE
def Dev.slotPend (s : Dev) (g : Nat) : Nat := s.get (slotStat g) F.LT_SLOT_STAT_PEND
def isClose (req : Nat) : Bool := decide (4 ≤ req) && decide (req ≤ 6)

/-- A slot's words as they stood at the start of the tick (R160). -/
def Dev.slotWords (s : Dev) (g : Nat) : List Word :=
  (upto 31).map (fun i => s.reg0 (slotBase g + 4 * i)) ++
    [s.reg0 (A.LT_SLOT_HLO (g / 64) (g % 64)), s.reg0 (A.LT_SLOT_HHI (g / 64) (g % 64))]

/-- The states as they stand. -/
def Dev.slotSt (s : Dev) (g : Nat) : LoopSt :=
  let p (i : Nat) := s.pair (A.LT_SLOT_ST1_LO (g / 64) (g % 64) + 8 * i)
  ⟨p 0, p 1, p 2, p 3⟩
def Dev.setSlotSt (s : Dev) (g : Nat) (x : LoopSt) : Dev :=
  let a := A.LT_SLOT_ST1_LO (g / 64) (g % 64)
  (((s.setPair a x.st1).setPair (a + 8) x.st2).setPair (a + 16) x.st3).setPair (a + 24) x.ypv

def slotKind (w : List Word) : Nat := F.LT_SLOT_TRIG_KIND.of (slotWord w 4)
def slotIdx (w : List Word) : Nat := F.LT_SLOT_TRIG_IDX.of (slotWord w 4)
def slotMiniv (w : List Word) : Nat := (slotWord w 5).toNat

/-- Scribe source of a tile. -/
def ltSrc (g : Nat) : Nat := 0x10 + g / 64

/-- A write to a slot is refused: the status bit and a Scribe record (R155, R157, R168). -/
def Dev.slotRefuse (s : Dev) (g : Nat) (f : Fld) : Dev := (s.raise (slotStat g) f).offer (ltSrc g) 0x06 .slotRefused

/-! ## The bank copy (R152) -/

/-- Word `i` of line `k` of a slot in the bank: descriptor and states at their window offsets, LT_SLOT_STAT at its own;
the rest of its line is 0 (DESIGN CHOICE, log 26). -/
def Dev.slotLineWord (s : Dev) (g k i : Nat) : Word :=
  if k = 10 then (if i = 1 then s.reg (slotStat g) else 0) else s.reg (slotBase g + 16 * k + 4 * i)

def Dev.slotLine (s : Dev) (g k : Nat) : List Word := (upto 4).map (s.slotLineWord g k)

/-- Write line `k` of a slot's copy into the tile's bank over port A. -/
def Dev.slotThrough (s : Dev) (g k : Nat) : Dev :=
  let bs := (s.slotLine g k).flatMap (fun w => leBytes 4 w.toNat)
  let l := (bankBase (s.get (A.LT_CFG (g / 64)) F.LT_CFG_BANK) + g % 64 * 256) / 16 + k
  let s := s.putLine l bs
  s.onPool fun p => { p with portA := some (l, (upto 16).map (fun i => (i, bs.getD i 0))) }

/-- Run an operation on a slot and write every line that it changed through to the bank. -/
def Dev.slotDo (s : Dev) (g : Nat) (f : Dev → Dev) : Dev :=
  let t := f s
  if (t.tile (g / 64)).accepted then
    t.each 11 fun u k => if t.slotLine g k = s.slotLine g k then u else u.slotThrough g k
  else t

/-! ## Modes (R168, R171, R153) -/

def Dev.rampEnd (s : Dev) (g : Nat) : Dev :=
  (s.set (slotHstat g) F.LT_SLOT_HSTAT_RAMPING 0).set (slotStat g) F.LT_SLOT_STAT_FBACT 0

def Dev.ramping (s : Dev) (g : Nat) : Bool := s.bit (slotHstat g) F.LT_SLOT_HSTAT_RAMPING

/-- The loop output point with its VALID: set while the slot is OPEN or CLOSED. -/
def Dev.outPoint (s : Dev) (g : Nat) (v : Word) : Dev := s.putPoint (mkHandle 0x22 g) ⟨v, s.slotMode g != 0⟩

/-- A slot takes a mode. An update that waits unstarted is dropped (DEDUCED, log 27); a slot that becomes OFF leaves the
tile's load, and its outputs take their stop states. -/
def Dev.setSlotMode (s : Dev) (g mode : Nat) (man : Bool) : Dev :=
  let n := g / 64
  let old := s.slotMode g
  let s := (s.set (slotStat g) F.LT_SLOT_STAT_MODE mode).setBit (slotStat g) F.LT_SLOT_STAT_MAN man
  let s := s.onLoop g fun l => { l with upd := none }
  if (old == 0) == (mode == 0) then s
  else
    let a := s.get (A.LT_STAT n) F.LT_STAT_ACTIVE
    let sum := s.get (A.LT_LOAD n) F.LT_LOAD_SUM
    let load := (s.loop g).load
    if mode = 0 then
      let s := (s.set (A.LT_STAT n) F.LT_STAT_ACTIVE (a - 1)).set (A.LT_LOAD n) F.LT_LOAD_SUM (sum - load)
      let s := (s.rampEnd g).onLoop g fun l => { l with wr := none, staleArmed := false }
      (s.outPoint g (s.point (mkHandle 0x22 g)).val).stopOutputs (.slot g) (fun _ => true)
    else
      let s := (s.set (A.LT_STAT n) F.LT_STAT_ACTIVE (a + 1)).set (A.LT_LOAD n) F.LT_LOAD_SUM (sum + load)
      s.outPoint g (s.point (mkHandle 0x22 g)).val

/-- The period that a slot is charged with, when it may be admitted (R168, R169). -/
def Dev.slotPeriod (s : Dev) (g : Nat) : Option Nat :=
  let t := s.reg (slotBase g + 0x10)
  let i := F.LT_SLOT_TRIG_IDX.of t
  if F.LT_SLOT_TRIG_KIND.of t = 0 then none
  else if F.LT_SLOT_TRIG_KIND.of t = 1 then
    if i ≤ 63 && s.bit (A.TIME_TT_CTL i) F.TIME_TT_CTL_MODE && decide (2000 ≤ s.ttPeriod i) then some (s.ttPeriod i) else none
  else some (s.reg (slotBase g + 0x14)).toNat

/-- Admission of a slot that leaves OFF: the slot with its load, or ADMREF (R168). -/
def Dev.takesIn (s : Dev) (g : Nat) : Dev × Bool :=
  match s.slotPeriod g with
  | some p =>
    if (s.tile (g / 64)).accepted && decide (s.get (A.LT_LOAD (g / 64)) F.LT_LOAD_SUM + loadOf p ≤ loadLimit) then
      (s.onLoop g fun l => { l with period := p, load := loadOf p, newFb := false, stale := 0 }, true)
    else (s.slotRefuse g F.LT_SLOT_STAT_ADMREF, false)
  | none => (s.slotRefuse g F.LT_SLOT_STAT_ADMREF, false)

def Dev.slotSetPend (s : Dev) (g req : Nat) : Dev := s.set (slotStat g) F.LT_SLOT_STAT_PEND req

/-- An output of the slot is under way. -/
def Dev.inFlight (s : Dev) (g : Nat) : Bool := (s.tile (g / 64)).flights.any (fun x => x.slot == g)

/-- A visible request takes effect (R171). OFF and OPEN wait for an update under way; a close waits for a sample. -/
def Dev.slotApply (s : Dev) (g : Nat) : Dev :=
  let req := s.slotPend g
  let mode := s.slotMode g
  if req = 0 then s
  else
    let s := if s.ramping g then s.rampEnd g else s
    if req ≤ 3 && mode != 0 && s.inFlight g then s
    else if req = 1 then
      let s := s.slotSetPend g 0
      if mode = 0 then s else s.setSlotMode g 0 false
    else if req ≤ 3 then
      let s := s.slotSetPend g 0
      if mode = 0 then
        match s.takesIn g with
        | (s, true) => s.setSlotMode g 1 (req == 3)
        | (s, false) => s
      else if mode = 1 && s.bit (slotStat g) F.LT_SLOT_STAT_MAN == (req == 3) then s
      else s.setSlotMode g 1 (req == 3)
    else if mode = 0 then
      match s.takesIn g with
      | (s, true) => s.setSlotMode g 1 false
      | (s, false) => s.slotSetPend g 0
    else if mode = 2 then s.slotSetPend g 0
    else s

/-- GLUEN and GLU of a request. -/
def Dev.slotGlue (s : Dev) (g : Nat) (glu : Option Nat) : Dev :=
  let a := A.LT_SLOT_CTL (g / 64) (g % 64)
  let s := s.setBit a F.LT_SLOT_CTL_GLUEN glu.isSome
  match glu with
  | some n => s.set a F.LT_SLOT_CTL_GLU n
  | none => s

/-- A request stands in PEND; WITHDRAW (7) removes what stands. -/
def Dev.slotPut (s : Dev) (g req : Nat) (glu : Option Nat) : Dev :=
  let s := s.slotGlue g glu
  if req = 7 then (s.slotSetPend g 0).set (slotStat g) F.LT_SLOT_STAT_GLUW 0
  else
    ((s.slotSetPend g req).setBit (slotStat g) F.LT_SLOT_STAT_GLUW glu.isSome).onLoop g fun l =>
      { l with glu := glu.getD 0, reqTick := s.ticks + 1 }

/-- A request is written (R171, R176): it replaces a pending one, is visible from the next tick, and with a glue-up slot
waits for it. -/
def Dev.slotRequest (s : Dev) (g req : Nat) (glu : Option Nat) : Dev :=
  s.slotDo g fun s =>
    if !(s.tile (g / 64)).accepted then s.slotRefuse g F.LT_SLOT_STAT_CFGERR else s.slotPut g req glu

/-- A write of LT_SLOT_CTL (R171): REQ, GLUEN and GLU by their fields. -/
def Dev.slotCtlWrite (s : Dev) (g : Nat) (v : Word) : Dev :=
  let a := A.LT_SLOT_CTL (g / 64) (g % 64)
  let req := F.LT_SLOT_CTL_REQ.of v
  let n := F.LT_SLOT_CTL_GLU.of v
  let en := F.LT_SLOT_CTL_GLUEN.of v == 1
  let s := s.set a F.LT_SLOT_CTL_GLU n
  if req = 0 then s.setBit a F.LT_SLOT_CTL_GLUEN en else s.slotRequest g req (if en then some n else none)

/-- Slots with hidden state, in slot order. -/
def Dev.loopSlots (s : Dev) : List Nat := s.loops.map (·.1)

/-- Visible requests of this tick, in slot order (R168). -/
def Dev.loopRequests (s : Dev) : Dev :=
  s.loopSlots.foldl (fun s g =>
    if s.bit (slotStat g) F.LT_SLOT_STAT_GLUW || s.ticks < (s.loop g).reqTick || s.slotPend g == 0 then s
    else s.slotDo g (·.slotApply g)) s

/-- A glue-up slot switches: the requests that wait for it become visible on this tick (R176). -/
def Dev.loopGlueSwitch (s : Dev) (glu : Nat) : Dev :=
  s.loopSlots.foldl (fun s g =>
    if s.bit (slotStat g) F.LT_SLOT_STAT_GLUW && (s.loop g).glu == glu then
      s.slotDo g fun s => ((s.set (slotStat g) F.LT_SLOT_STAT_GLUW 0).onLoop g fun l => { l with reqTick := s.ticks }).slotApply g
    else s) s

/-- A glue-up is aborted: the requests that wait for it are discarded (R176). -/
def Dev.loopGlueDrop (s : Dev) (glu : Nat) : Dev :=
  s.loopSlots.foldl (fun s g =>
    if s.bit (slotStat g) F.LT_SLOT_STAT_GLUW && (s.loop g).glu == glu then
      s.slotDo g fun s => (s.set (slotStat g) F.LT_SLOT_STAT_GLUW 0).slotSetPend g 0
    else s) s

/-! ## Conditions and fallbacks (R187-R190) -/

def causeLoss : Nat := 1
def causeStale : Nat := 2
def causeFreeze : Nat := 3
def causeOverrun : Nat := 4
def causeDestLost : Nat := 5
def causePoison : Nat := 6
def causeNumeric : Nat := 7
def causePolicy : Nat := 8

/-- Deadline of a job of this tick (R167), as TS64. -/
def Dev.slotDeadline (s : Dev) (w : List Word) : Nat :=
  if slotKind w = 1 then (s.pair (A.TIME_TT_CMP_LO (slotIdx w))).toNat else s.ts.toNat + slotMiniv w

/-- A write of `y` by a fallback waits for the datapath; it replaces one that waits unstarted. -/
def Dev.queueWrite (s : Dev) (g : Nat) (w : List Word) (y : Dbl) : Dev :=
  s.onLoop g fun l => { l with wr := some ⟨1, 0, 0, 0, y, w, s.ticks, s.slotDeadline w⟩ }

/-- Interval of the ramp in ns (R189). -/
def Dev.rampInterval (s : Dev) (w : List Word) : Nat :=
  if slotKind w = 1 then s.get0 (A.TIME_TT_PER (slotIdx w)) F.TIME_TT_PER_PER * 4 else slotMiniv w

/-- One ramp step (R189). -/
def Dev.rampStep (s : Dev) (g : Nat) : Dev :=
  let w := s.slotWords g
  let (y, done) := rampTo w (s.pair (slotYpv g)) (s.rampInterval w)
  let s := ((s.setPair (slotYpv g) y).queueWrite g w y).onLoop g fun l =>
    { l with rampTick := s.ticks + 1, rampK := l.rampK + 1 }
  if done then (s.rampEnd g).setBit (slotStat g) F.LT_SLOT_STAT_MAN false else s

/-- What every condition does: it is counted, latched and recorded with the slot, the cause, YPV and the feedback. -/
def Dev.condNote (s : Dev) (g cause : Nat) (ev : Ev) : Dev :=
  let s := s.count (A.LT_SLOT_FBCNT (g / 64) (g % 64)) F.LT_SLOT_FBCNT_COUNT 1
  let s := if s.get (slotStat g) F.LT_SLOT_STAT_CAUSE = 0 then s.set (slotStat g) F.LT_SLOT_STAT_CAUSE cause else s
  s.offerCode (ltSrc g) (BitVec.ofNat 8 0x06 ++ Config.recordCode ev) false
    [BitVec.ofNat 32 g, BitVec.ofNat 32 cause, toF32 (s.pair (slotYpv g)), (s.hread (s.reg (slotBase g + 4))).val]

/-- A pending request is discarded with its wait for a glue-up (R175, R188). -/
def Dev.discardRequest (s : Dev) (g : Nat) : Dev :=
  if s.slotPend g = 0 then s
  else ((s.slotSetPend g 0).set (slotStat g) F.LT_SLOT_STAT_GLUW 0).offer (ltSrc g) 0x06 .requestDiscarded

/-- A fallback by FBK (R188, and R190 for a policy command in an OPEN slot). -/
def Dev.fallback (s : Dev) (g cause : Nat) : Dev :=
  let s := s.condNote g cause .loopCondition
  let s := s.setReg (A.LT_SLOT_FBTS (g / 64) (g % 64)) s.ts32
  let s := s.discardRequest g
  let fbk := s.get0 (slotBase g + 0x6C) F.LT_SLOT_SUPV_FBK
  if fbk = 2 then
    let w := s.slotWords g
    let y := hardClamp w (slotF w 29)
    (((s.rampEnd g).setSlotMode g 1 false).setPair (slotYpv g) y).queueWrite g w y
  else if fbk = 1 then
    if s.ramping g then s
    else
      let s := s.setSlotMode g 1 false
      let s := (s.set (slotHstat g) F.LT_SLOT_HSTAT_RAMPING 1).set (slotStat g) F.LT_SLOT_STAT_FBACT 1
      (s.onLoop g fun l => { l with rampStart := s.ticks, rampK := 0 }).rampStep g
  else
    ((s.rampEnd g).setSlotMode g 1 false).onLoop g fun l => { l with wr := none }

/-- A condition in an OPEN slot (R190): no fallback; a pending close is discarded. -/
def Dev.openCondition (s : Dev) (g cause : Nat) : Dev :=
  let s := s.condNote g cause .loopCondition
  if isClose (s.slotPend g) then s.discardRequest g else s

/-- The condition that acts (R187): a policy command of this tick stands first. -/
def Dev.condition (s : Dev) (g cause : Nat) : Dev :=
  let cause := if (s.loop g).policy then causePolicy else cause
  let s := s.onLoop g fun l => { l with policy := false, dest := none }
  let mode := s.slotMode g
  if mode = 0 then s
  else if mode = 2 || cause == causePolicy then s.fallback g cause
  else s.openCondition g cause

/-! ## A sample (R160, R172, R180-R184) -/

/-- A source read: none is the error response of R58. -/
def Dev.srcRead (s : Dev) (h : Word) : Dev × Option Pt :=
  if hclass h = 0x08 then
    match s.mAddr (hindex h) with
    | some a =>
      match s.checkLine (lineOf a) with
      | (s, true) => (s, some (s.hread h))
      | (s, false) => (s, none)
    | none => (s, some (s.hread h))
  else (s, some (s.hread h))

/-- What a sample has read: the values before scaling, their VALID bits, whether the feedback read gave the error
response, the loss of the setpoint under SPLOSS, and the word and VALID that the setpoint point takes. -/
structure Sampled where
  sp : Dbl
  spValid : Bool
  spLoss : Bool
  fb : Dbl
  fbValid : Bool
  fbError : Bool
  ff : Dbl
  own : Option Pt
  deriving DecidableEq, Repr

/-- The replacement of R181: the value used, the value kept, whether it is replaced. -/
def replaceBy (v : Option (Dbl × Bool)) (keep : Dbl) : Dbl × Dbl × Bool :=
  match v with
  | some (x, true) => (x, x, false)
  | _ => (keep, keep, true)

/-- Read the sources of a slot (R160, R161, R181). `fbv` is the value of an update. -/
def Dev.readSources (s : Dev) (g : Nat) (w : List Word) (fbv : Option Pt) : Dev × Sampled :=
  let cfg := slotWord w 6
  let own := mkHandle 0x20 g
  let hs := slotWord w 0
  let hf := slotWord w 2
  let (s, spr) := if hs = 0 then (s, some (s.hread own)) else s.srcRead hs
  let spv := spr.map (fun p =>
    (if hs = 0 then widen p.val else readF64 (s.kind hs) (F.LT_SLOT_CFG_SPFMT.of cfg) p.val, p.valid))
  let ovr := if hs = 0 then none else forceOn (actingForces s.start.forces) own
  let l := s.loop g
  let src := replaceBy spv l.spKeep
  let used := match ovr with
    | some f => replaceBy (some (widen f.value, f.valid)) l.spKeep
    | none => src
  let hc := s.reg0 (A.LT_SLOT_HCFG (g / 64) (g % 64))
  let spLoss := used.2.2 && F.LT_SLOT_HCFG_SPLOSS.of hc == 1
  let s := s.setBit (slotHstat g) F.LT_SLOT_HSTAT_SPINV (used.2.2 && !spLoss)
  let (s, ffr) := if hf = 0 then (s, none) else s.srcRead hf
  let ffv := ffr.map (fun p => (readF64 (s.kind hf) (F.LT_SLOT_CFG_FFFMT.of cfg) p.val, p.valid))
  let ff := replaceBy ffv l.ffKeep
  let s := s.setBit (slotHstat g) F.LT_SLOT_HSTAT_FFINV (hf != 0 && ff.2.2)
  let s := s.onLoop g fun l => { l with spKeep := used.2.1, ffKeep := if hf = 0 then l.ffKeep else ff.2.1 }
  let (s, fbr) := match fbv with
    | some p => (s, some p)
    | none => s.srcRead (slotWord w 1)
  let fbp := fbr.getD Pt.none
  (s, { sp := used.1, spValid := !used.2.2, spLoss := spLoss,
        fb := readF64 (s.kind (slotWord w 1)) (F.LT_SLOT_CFG_FBFMT.of cfg) fbp.val,
        fbValid := fbp.valid, fbError := fbr.isNone, ff := if hf = 0 then 0 else ff.1,
        own := if hs = 0 then none else some ⟨toF32 src.1, !src.2.2⟩ })

/-- Classes whose feedback is checked for staleness (R183), a remote one by the class it resolves to. -/
def staleClass (c : Nat) : Bool := c == 0x10 || c == 0x12 || c == 0x13 || c == 0x30 || c == 0x38
def Dev.staleChecked (s : Dev) (h : Word) : Bool :=
  staleClass (if hclass h = 0x7F then hclass (s.reg (A.PLJ_SEGT_RHND (hindex h))) else hclass h)

/-- A converter result carries the KERF flag; of an update the flag that has just been written. -/
def Dev.kerfFlag (s : Dev) (h : Word) (upd : Bool) : Bool :=
  hclass h == 0x10 &&
    (let a := A.ANA_RES (hindex h / 16) (hindex h % 16)
     F.ANA_RES_KERF.of (if upd then s.reg a else s.reg0 a) == 1)

/-- The stale count of a COMPARATOR or CASCADE slot, and whether this sample has STALE (R183). -/
def Dev.staleCount (s : Dev) (g : Nat) (w : List Word) (skip : Bool) : Dev × Bool :=
  if slotKind w != 2 && s.staleChecked (slotWord w 1) then
    let n := if (s.loop g).newFb && !skip then 0 else min ((s.loop g).stale + 1) 256
    let s := (s.onLoop g fun l => { l with stale := n, newFb := false }).set (slotHstat g) F.LT_SLOT_HSTAT_STALECNT (min n 255)
    (s, decide (F.LT_SLOT_SUPV_STALEN.of (slotWord w 27) < n))
  else (s, false)

/-- The freeze check of a CLOSED slot (R184). -/
def Dev.freezeCheck (s : Dev) (g : Nat) (w : List Word) (fb : Dbl) : Dev × Bool :=
  if F.LT_SLOT_SUPV_FRZEN.of (slotWord w 27) = 1 && s.slotMode g == 2 then
    let st := s.reg (slotStat g)
    let ref := A.LT_SLOT_FRZREF (g / 64) (g % 64)
    let same := (F.LT_SLOT_STAT_CLAMPH.of st == 1 || F.LT_SLOT_STAT_CLAMPL.of st == 1) &&
      le64 (fsub64 fb (widen (s.reg ref)) &&& 0x7FFFFFFFFFFFFFFF) (slotF w 28)
    let n := if same then min (s.get (slotHstat g) F.LT_SLOT_HSTAT_FRZCNT + 1) 255 else 0
    let s := s.set (slotHstat g) F.LT_SLOT_HSTAT_FRZCNT n
    let s := if same then s else s.setReg ref (toF32 fb)
    (s, decide (F.LT_SLOT_SUPV_FRZN.of (slotWord w 27) ≤ n))
  else (s, false)

/-- The sample's job: 0 compute, 1 deliver `y`, 2 nothing. -/
def Dev.queueUpdate (s : Dev) (g : Nat) (w : List Word) (act close : Nat) (e ff y : Dbl) : Dev :=
  s.onLoop g fun l => { l with upd := some ⟨act, close, e, ff, y, w, s.ticks, s.slotDeadline w⟩ }

/-- The job of a sample that computes nothing: a manual output goes on, else nothing is written; a fallback's write of the
same tick stands for it. -/
def Dev.queueIdle (s : Dev) (g : Nat) (w : List Word) (skip : Bool) : Dev :=
  if s.slotMode g = 0 then s
  else if s.bit (slotStat g) F.LT_SLOT_STAT_MAN && !skip then s.queueUpdate g w 1 0 0 0 (hardClamp w (slotF w 26))
  else if (s.loop g).wr.any (fun j => j.tick == s.ticks) then s
  else s.queueUpdate g w 2 0 0 0 0

/-- The close that takes effect at a sample of this tick: a request visible by now (R171), 0 for none. -/
def Dev.closing (s : Dev) (g : Nat) : Nat :=
  let st := s.reg0 (slotStat g)
  let req := F.LT_SLOT_STAT_PEND.of st
  if s.slotMode g = 1 && isClose req && F.LT_SLOT_STAT_GLUW.of st == 0 then req else 0

/-- A sample with its sources read and no condition before the update (R171, R173, R191, R163). -/
def Dev.sampleUpdate (s : Dev) (g : Nat) (w : List Word) (fb e ff : Dbl) : Dev :=
  let close := s.closing g
  if close != 0 then
    if (updateWith close w (s.slotSt g) e ff).isNone then (s.condition g causeNumeric).queueIdle g w false
    else
      let s := if s.slotPend g = close then s.slotSetPend g 0 else s
      let s := s.setSlotMode g 2 false
      let s := if close = 5 && !presetOk w then s.raise (slotStat g) F.LT_SLOT_STAT_PZ else s
      let s := (s.setReg (A.LT_SLOT_FRZREF (g / 64) (g % 64)) (toF32 fb)).set (slotHstat g) F.LT_SLOT_HSTAT_FRZCNT 0
      s.queueUpdate g w 0 close e ff 0
  else if s.slotMode g = 2 then s.queueUpdate g w 0 0 e ff 0
  else s.queueIdle g w false

/-- The points of a sample (R153). A feedback read with the error response leaves the values and clears VALID. -/
def Dev.samplePoints (s : Dev) (g : Nat) (x : Sampled) (fb e : Dbl) : Dev :=
  let s := match x.own with
    | some p => s.putPoint (mkHandle 0x20 g) p
    | none => s
  let hf := mkHandle 0x21 g
  let he := mkHandle 0x23 g
  if x.fbError then (s.putPoint hf ⟨(s.point hf).val, false⟩).putPoint he ⟨(s.point he).val, false⟩
  else (s.putPoint hf ⟨toF32 fb, x.fbValid⟩).putPoint he ⟨toF32 e, x.spValid && x.fbValid⟩

/-- A sample that is taken. -/
def Dev.takeSample (s : Dev) (g : Nat) (fbv : Option Pt) : Dev :=
  let w := s.slotWords g
  let s := s.onLoop g fun l => { l with lastSample := s.ticks + 1, staleArmed := true }
  let s := s.set (slotHstat g) F.LT_SLOT_HSTAT_OVRCNT 0
  let (s, x) := s.readSources g w fbv
  let sp := openNan (fma64 x.sp (slotF w 16) (slotF w 17)) x.sp 0
  let fb := openNan (fma64 x.fb (slotF w 18) (slotF w 19)) x.fb 0
  let e := openNan (fsub64 sp fb) sp fb
  let skip := x.fbValid && s.kerfFlag (slotWord w 1) fbv.isSome &&
    F.LT_SLOT_HCFG_KERFP.of (s.reg0 (A.LT_SLOT_HCFG (g / 64) (g % 64))) == 1
  let s := s.setBit (slotHstat g) F.LT_SLOT_HSTAT_FLOSS (x.fbError || !x.fbValid)
  let s := s.setBit (slotHstat g) F.LT_SLOT_HSTAT_KSKIP skip
  let (s, stale) := s.staleCount g w skip
  let s := s.samplePoints g x fb e
  if (s.loop g).policy then (s.condition g causePolicy).queueIdle g w skip
  else if x.fbError then (s.condition g causePoison).queueIdle g w skip
  else if !x.fbValid || x.spLoss then (s.condition g causeLoss).queueIdle g w skip
  else if stale then (s.condition g causeStale).queueIdle g w skip
  else if skip then s.queueUpdate g w 2 0 0 0 0
  else
    let (s, frozen) := s.freezeCheck g w fb
    if frozen then (s.condition g causeFreeze).queueIdle g w skip
    else
      match (s.loop g).dest with
      | some c =>
        let noUpdate := (updateWith 0 w (s.slotSt g) e x.ff).isNone
        (s.condition g (if noUpdate then causeNumeric else c)).queueIdle g w skip
      | none => s.sampleUpdate g w fb e x.ff

/-- A sample that falls due while an update of the slot waits is dropped (R185). -/
def Dev.dropSample (s : Dev) (g : Nat) : Dev :=
  let s := s.count (A.LT_SLOT_OVR (g / 64) (g % 64)) F.LT_SLOT_OVR_COUNT 1
  let s := s.count (A.LT_OVR (g / 64)) F.LT_OVR_COUNT 1
  let s := s.count (slotHstat g) F.LT_SLOT_HSTAT_OVRCNT 1
  if s.get0 (slotBase g + 0x6C) F.LT_SLOT_SUPV_OVRN ≤ s.get (slotHstat g) F.LT_SLOT_HSTAT_OVRCNT then
    (s.onLoop g fun l => { l with upd := none }).condition g causeOverrun
  else s

/-- A sample of an OPEN or CLOSED slot falls due on this tick. After PFAIL none is taken (R177). -/
def Dev.slotSample (s : Dev) (g : Nat) (fbv : Option Pt) : Dev :=
  if s.halted || s.slotMode g == 0 then s
  else s.slotDo g fun s => if (s.loop g).upd.isSome then s.dropSample g else s.takeSample g fbv

/-- MINIV has passed since the slot's previous sample (R158). -/
def Dev.minivOver (s : Dev) (g : Nat) : Bool :=
  let l := (s.loop g).lastSample
  l == 0 || decide ((s.reg0 (slotBase g + 0x14)).toNat ≤ (s.ticks + 1 - l) * 4)

/-! ## Triggers (R157-R159) -/

/-- A comparator fires: its COMPARATOR slots sample, or have TERR (R157). -/
def Dev.fireSlots (s : Dev) (n : Nat) : Dev :=
  s.loopSlots.foldl (fun s g =>
    let t := s.reg0 (slotBase g + 0x10)
    if F.LT_SLOT_TRIG_KIND.of t == 1 && F.LT_SLOT_TRIG_IDX.of t == n && s.slotMode g != 0 then
      if s.bit0 (A.TIME_TT_CTL n) F.TIME_TT_CTL_MODE && s.get0 (A.TIME_TT_PER n) F.TIME_TT_PER_PER * 4 == (s.loop g).period then
        s.slotSample g none
      else s.slotDo g fun s => s.slotRefuse g F.LT_SLOT_STAT_TERR
    else s) s

/-- A feedback source writes a new value: its UPDATE slots sample it (R158); a KERF value under SKIP is no sample (R180). -/
def Dev.feedbackUpdate (s : Dev) (h : Word) (p : Pt) : Dev :=
  s.loopSlots.foldl (fun s g =>
    let t := s.reg0 (slotBase g + 0x10)
    if F.LT_SLOT_TRIG_KIND.of t == 2 && s.reg0 (slotBase g + 4) == h && s.slotMode g != 0 && s.minivOver g &&
        !(p.valid && s.kerfFlag h true && s.bit0 (A.LT_SLOT_HCFG (g / 64) (g % 64)) F.LT_SLOT_HCFG_KERFP) then
      s.slotSample g (some p)
    else s) s

/-- A unit writes a point that may be the feedback of UPDATE slots. -/
def Dev.publish (s : Dev) (h : Word) (p : Pt) : Dev :=
  if s.standby then s else (s.putPoint h p).feedbackUpdate h p

/-- A slot completes: its CASCADE slots sample (R159). -/
def Dev.complete (s : Dev) (src : Nat) : Dev :=
  s.loopSlots.foldl (fun s g =>
    let t := s.reg0 (slotBase g + 0x10)
    if F.LT_SLOT_TRIG_KIND.of t == 3 && F.LT_SLOT_TRIG_IDX.of t == src && s.slotMode g != 0 && s.minivOver g then
      s.slotSample g none
    else s) s

/-! ## The datapath and the output writer (R165-R167, R170, R186) -/

/-- The jobs of a tile that wait, with their slots; true: the sample's update. -/
def Dev.tileJobs (s : Dev) (n : Nat) : List (Nat × Bool × Job) :=
  (s.loops.filter (fun p => p.1 / 64 == n)).flatMap (fun p =>
    (match p.2.upd with | some j => [(p.1, true, j)] | none => []) ++
    (match p.2.wr with | some j => [(p.1, false, j)] | none => []))

/-- The job with the earliest deadline; equal deadlines in order of slot. -/
def earliest : List (Nat × Bool × Job) → Option (Nat × Bool × Job)
  | [] => none
  | x :: xs =>
    match earliest xs with
    | none => some x
    | some y => if y.2.2.dl < x.2.2.dl then some y else some x

/-- The word that the destination of a job gets for loop output `y` (R165). -/
def Dev.slotOut (s : Dev) (w : List Word) (y : Dbl) : Word × Word × Word :=
  let dst := slotWord w 3
  let k := if hclass dst = 0x20 then NKind.f32 else s.kind dst
  (toF32 y, dst, dstValue k (F.LT_SLOT_CFG_DSTFMT.of (slotWord w 6)) (fma64 y (slotF w 24) (slotF w 25)))

/-- The flags of an update (R163). -/
def Dev.setUpdFlags (s : Dev) (g : Nat) (r : UpdRes) : Dev :=
  let a := slotStat g
  let s := (s.setBit a F.LT_SLOT_STAT_HELD r.held).setBit a F.LT_SLOT_STAT_SLEWA r.slewA
  let s := (s.setBit a F.LT_SLOT_STAT_CLAMPL r.clampL).setBit a F.LT_SLOT_STAT_CLAMPH r.clampH
  s.setBit a F.LT_SLOT_STAT_LIMERR r.limErr

/-- The datapath runs a job: the device after it and the output that goes to the writer. -/
def Dev.runJob (s : Dev) (g : Nat) (j : Job) : Dev × Option Dbl :=
  if j.act = 0 then
    match updateWith j.close j.words (s.slotSt g) j.e j.ff with
    | some r => ((s.setSlotSt g r.st).setUpdFlags g r, some r.y)
    | none => (s.condition g causeNumeric, none)
  else if j.act = 1 then (s.setPair (slotYpv g) j.y, some j.y)
  else (s, none)

/-- The datapath of a tile takes its next job at `ns` of this tick: 25 cycles, and the output is visible 8 ns after the
first tick boundary that follows their end. -/
def Dev.loopStep (s : Dev) (n ns : Nat) : Dev :=
  let now := s.ticks * 4 + ns
  if now < (s.tile n).busy then s
  else
    match earliest (s.tileJobs n) with
    | none => s
    | some (g, sample, j) =>
      s.slotDo g fun s =>
        let s := s.onLoop g fun l => if sample then { l with upd := none } else { l with wr := none }
        let (s, y) := s.runJob g j
        s.onTile n fun t => { t with
          busy := now + 25,
          flights := t.flights ++ [⟨g, y.map (s.slotOut j.words), (now + 25) / 4 + 3, j.tick⟩] }

/-- A write of a slot's destination, with what it reports. -/
def Dev.slotDeliver (s : Dev) (g : Nat) (h v : Word) : Dev × Deliver :=
  if h = 0 then (s, .taken)
  else if hclass h = 0x08 then s.mStore (hindex h) v
  else s.deliver (.slot g) h ⟨v, true⟩

/-- A destination report (R186): in a CLOSED slot the fallback acts on the next tick. -/
def Dev.destReport (s : Dev) (g : Nat) (r : Deliver) : Dev :=
  let lost (s : Dev) (c : Nat) : Dev :=
    let s := s.set (slotHstat g) F.LT_SLOT_HSTAT_DLOST 1
    if s.slotMode g = 2 then s.onLoop g fun l => { l with dest := some c }
    else if s.slotMode g = 1 then s.openCondition g c
    else s
  match r with
  | .taken => s.set (slotHstat g) F.LT_SLOT_HSTAT_DLOST 0
  | .ignored => s
  | .lost => lost s causeDestLost
  | .poison => lost s causePoison

/-- An output becomes visible: the delay is recorded, the points and the destination written (R170, R153). -/
def Dev.land (s : Dev) (x : Flight) : Dev :=
  let g := x.slot
  s.slotDo g fun s =>
    let d := min ((x.vis - x.tick) * 4) 0xFFFF
    let a := A.LT_SLOT_DLY (g / 64) (g % 64)
    let s := (s.set a F.LT_SLOT_DLY_LAST d).set a F.LT_SLOT_DLY_MAX (max d (s.get a F.LT_SLOT_DLY_MAX))
    let s := match x.out with
      | some (y, h, v) =>
        let (s, r) := (s.outPoint g y).slotDeliver g h v
        if h = 0 then s else s.destReport g r
      | none => s
    if s.slotMode g = 0 then s else s.after (.complete g)

/-- The tiles' end of a tick: policy commands and destination reports that no sample took, feedback written, and the
outputs that are visible from the next tick. -/
def Dev.loopEnd (s : Dev) : Dev :=
  let s := s.loopSlots.foldl (fun s g =>
    let l := s.loop g
    let s := if l.policy || l.dest.isSome then
        s.slotDo g fun s =>
          if l.policy || s.slotMode g == 2 then s.condition g (l.dest.getD causePolicy)
          else s.onLoop g fun l => { l with dest := none }
      else s
    if s.wrote.contains (s.reg (slotBase g + 4)) then s.onLoop g fun l => { l with newFb := true } else s) s
  s.each 8 fun s n =>
    let now := (s.tile n).flights.filter (fun x => x.vis ≤ s.ticks + 1)
    let s := s.onTile n fun t => { t with flights := t.flights.filter (fun x => s.ticks + 1 < x.vis) }
    now.foldl Dev.land s

/-! ## Clock gating (R169) -/

/-- Ticks of TS64 to the next fire of an enabled comparator. -/
def Dev.fireWithin (s : Dev) (n ns : Nat) : Bool :=
  s.bit (A.TIME_TT_CTL n) F.TIME_TT_CTL_EN && decide ((s.pair (A.TIME_TT_CMP_LO n)).toNat ≤ s.ts.toNat + ns)

/-- The tile must run: a slot on UPDATE or CASCADE, a job waiting or running, or a fire within the lead. -/
def Dev.tileAwake (s : Dev) (n : Nat) : Bool :=
  let t := s.tile n
  !t.flights.isEmpty || decide (s.ticks * 4 < t.busy) || !(s.tileJobs n).isEmpty ||
    s.loops.any (fun p => p.1 / 64 == n && s.slotMode p.1 != 0 &&
      (let c := s.reg (slotBase p.1 + 0x10)
       F.LT_SLOT_TRIG_KIND.of c != 1 || s.fireWithin (F.LT_SLOT_TRIG_IDX.of c) 2000))

/-- Gate the tiles that need not run. -/
def Dev.tileGate (s : Dev) : Dev :=
  s.each 8 fun s n => if s.tileAwake n then s else s.set (A.LT_STAT n) F.LT_STAT_GATED 1

/-- A tile runs again. -/
def Dev.tileWake (s : Dev) (n : Nat) : Dev := if s.tileAwake n then s.set (A.LT_STAT n) F.LT_STAT_GATED 0 else s

end Sys2Proof.Machine
end

