-- ==== Sys2Proof/Machine/Analogue.lean ====
section
/-! DEFINITION. The converters (R224-R239): rounds and modes, entries and their writes, kerf counts, filters, results. -/

namespace Sys2Proof.Machine

def Dev.adc (s : Dev) (n : Nat) : Adc := tabGet Adc.init s.adcs n
def Dev.onAdc (s : Dev) (n : Nat) (f : Adc → Adc) : Dev := { s with adcs := tabPut Adc.init s.adcs n (f (s.adc n)) }

def adcIdle : Nat := 0
def adcContinuous : Nat := 1
def adcTimed : Nat := 2

/-- Mode in force, and mode requested. -/
def Dev.adcMode (s : Dev) (n : Nat) : Nat := s.get (A.ANA_STAT n) F.ANA_STAT_MODE
def Dev.adcReq (s : Dev) (n : Nat) : Nat := s.get (A.ANA_CTL n) F.ANA_CTL_MODE

/-- A write or mode is refused (R227, R229). -/
def Dev.adcRefuse (s : Dev) (n : Nat) : Dev := (s.raise (A.ANA_STAT n) F.ANA_STAT_CFGERR).offer 0x44 0x08 .adcRefused

/-- The entries as configured, and the word of an entry in force. -/
def Dev.adcWords (s : Dev) (n : Nat) : List Word := (upto 16).map (fun k => s.reg (A.ANA_ENT n k))
def Adc.word (c : Adc) (k : Nat) : Word := tabGet 0x800 c.words k

/-- Sampling time of an entry in ns. -/
def entTs (w : Word) : Nat := F.ANA_ENT_TS.of w * 250
/-- Round duration in ns (R225). -/
def adcDur (ws : List Word) (nent : Nat) : Nat := ((ws.take nent).map (fun w => entTs w + 250)).foldl (· + ·) 0

/-- ANA_RDUR: the duration of the configured sequence. -/
def Dev.adcRdur (s : Dev) (n : Nat) : Nat := adcDur (s.adcWords n) (s.get (A.ANA_CTL n) F.ANA_CTL_NENT)

/-- TIMED is in force or requested. -/
def Dev.adcIsTimed (s : Dev) (n : Nat) : Bool := s.adcMode n == adcTimed || s.adcReq n == adcTimed

/-- The check of R227: a periodic comparator with a period that covers the round. -/
def Dev.timedOk (s : Dev) (tt dur : Nat) : Bool :=
  s.bit (A.TIME_TT_CTL tt) F.TIME_TT_CTL_MODE && decide (dur + 1250 ≤ s.ttPeriod tt)

def Dev.setCalpend (s : Dev) (n : Nat) : Dev :=
  s.setBit (A.ANA_STAT n) F.ANA_STAT_CALPEND ((s.adc n).calReq || (s.adc n).busy == 2)

/-- No round runs: the requested mode takes effect, and `ns` is the instant at which the next round may start (R226). The
first entry to a running mode requests a calibration (R238). -/
def Dev.adcSettle (s : Dev) (n ns : Nat) : Dev :=
  let m := s.adcReq n
  let timed := s.adcMode n == adcTimed
  let s := s.set (A.ANA_STAT n) F.ANA_STAT_MODE m
  let first := m != adcIdle && !(s.adc n).ran
  (s.onAdc n fun c => { c with
    busy := 0, ran := c.ran || first, calReq := c.calReq || first,
    due := if m = adcContinuous then some ns else if m = adcTimed && timed then c.due else none }).setCalpend n

/-! ## Filters (R232) -/

/-- A rational rounded to nearest, ties to even. -/
def roundDiv (p : Int) (q : Nat) : Int :=
  let f := p.fdiv q
  let r := p - f * q
  if 2 * r < q then f else if 2 * r = q && f % 2 == 0 then f else f + 1

/-- Filter length that R234 marks: N of an average, 3 of sinc3, 0 of none. -/
def kerfLen (w : Word) : Nat :=
  match F.ANA_ENT_FILT.of w with
  | 1 => F.ANA_ENT_FLEN.of w
  | 2 => 3
  | _ => 0

def sumInt (xs : List Int) : Int := xs.foldl (· + ·) 0

/-- Coefficient `j` of three cascaded averages of `m` (DEDUCED, log 35). -/
def sincCoef (m j : Nat) : Int :=
  let tri (x : Nat) : Int := if x < m then (x + 1 : Int) else if x < 2 * m - 1 then ((2 * m - 1 - x : Nat) : Int) else 0
  sumInt ((upto m).map (fun a => if a ≤ j then tri (j - a) else 0))

/-- What a filter delivers after a conversion: the average over those held; sinc3 on every m-th. `xs` holds the newest
first, `cnt` the conversions since the restart. -/
def filterOut (w : Word) (cnt : Nat) (xs : List Int) : Option Int :=
  let len := F.ANA_ENT_FLEN.of w
  if F.ANA_ENT_FILT.of w = 1 then some (roundDiv (sumInt xs) xs.length)
  else if cnt % len = 0 then
    some (roundDiv (sumInt ((List.zip xs (upto xs.length)).map (fun p => p.1 * sincCoef len p.2))) (len * len * len))
  else none

/-- Conversions that a filter must keep. -/
def filterKeep (w : Word) : Nat :=
  let len := F.ANA_ENT_FLEN.of w
  if F.ANA_ENT_FILT.of w = 1 then len else 3 * len - 2

/-! ## Kerf counts (R233-R236) -/

/-- Minimum sampling time in ns by gain code. -/
def minTs (gain : Nat) : Nat := [500, 500, 1000, 2000, 4000, 8000].getD gain 8000

def Dev.krem (s : Dev) (n k : Nat) : Nat := s.get (A.ANA_ENT_STAT n k) F.ANA_ENT_STAT_KREM
/-- A cause sets the count to the larger of the two (R235). -/
def Dev.kerf (s : Dev) (n k cnt : Nat) : Dev := s.set (A.ANA_ENT_STAT n k) F.ANA_ENT_STAT_KREM (max (s.krem n k) cnt)
def Dev.filterRestart (s : Dev) (n k : Nat) : Dev := s.onAdc n fun c => { c with filt := tabPut (0, []) c.filt k (0, []) }

/-- The input that an entry converts, plus one. -/
def entInput (w : Word) : Nat :=
  let i := F.ANA_ENT_INP.of w
  1 + i + (if i = 0xB then 16 * (F.ANA_ENT_AOSEL.of w + 1) else 0)

/-- A written entry comes into force: rewrites of gain, filter and, with a filter, input are causes (R234, R235). -/
def Dev.entForce (s : Dev) (n k : Nat) (w : Word) : Dev :=
  let old := (s.adc n).word k
  let g := F.ANA_ENT_GAIN.of w
  let gain := g != F.ANA_ENT_GAIN.of old
  let filt := F.ANA_ENT_FILT.of w != F.ANA_ENT_FILT.of old || F.ANA_ENT_FLEN.of w != F.ANA_ENT_FLEN.of old
  let inp := entInput w != entInput old
  let len := kerfLen w
  let restart := len != 0 && (gain || filt || inp)
  let cnt := max (if gain then (if g ≤ 2 then 1 else 2) else 0) (if restart then len else 0)
  let s := if restart || filt then s.filterRestart n k else s
  (s.kerf n k cnt).onAdc n fun c => { c with words := tabPut 0x800 c.words k w }

/-- NENT comes into force: entries from the new NENT upward keep their values with VALID clear (R230). -/
def Dev.nentForce (s : Dev) (n nent : Nat) : Dev :=
  let old := (s.adc n).nent
  let s := s.onAdc n fun c => { c with nent := nent }
  (upto old).foldl (fun s k =>
    if k < nent || s.standby then s
    else
      let h := mkHandle 0x10 (16 * n + k)
      (s.set (A.ANA_RES n k) F.ANA_RES_VALID 0).publish h ⟨(s.point h).val, false⟩) s

/-- Writes made before tick `t` come into force at the start of a round on it (R229). -/
def Dev.adcApply (s : Dev) (n t : Nat) : Dev :=
  let now := (s.adc n).pend.filter (fun p => p.1 < t)
  let s := s.onAdc n fun c => { c with pend := c.pend.filter (fun p => !decide (p.1 < t)) }
  now.foldl (fun s p => if p.2.1 = 16 then s.nentForce n p.2.2.toNat else s.entForce n p.2.1 p.2.2) s

/-- A round that is due may start now. -/
def Dev.roundDue (s : Dev) (n : Nat) : Option Nat :=
  match (s.adc n).due with
  | some t => if (s.adc n).busy = 0 && t / 4 ≤ s.ticks && !s.halted then some t else none
  | none => none

/-- Number of the round that begins. -/
def Dev.roundCount (s : Dev) (n : Nat) : Dev :=
  let s := s.set (A.ANA_STAT n) F.ANA_STAT_RCNT ((s.adc n).rounds % 4096)
  s.onAdc n fun c => { c with rounds := (c.rounds + 1) % 4096, due := none }

/-- A round starts (R225). -/
def Dev.roundStart (s : Dev) (n : Nat) : Dev :=
  match s.roundDue n with
  | some t =>
    if (s.adc n).calReq then s
    else ((s.adcApply n (t / 4)).roundCount n).onAdc n fun c => { c with busy := 1, idx := 0, startNs := t }
  | none => s

/-- A calibration round starts (R238): `ref` is the code of REF at gain 1 that is stored. -/
def Dev.calRound (s : Dev) (n : Nat) (ref : Int) : Dev :=
  match s.roundDue n with
  | some t =>
    if !(s.adc n).calReq then s
    else
      let s := (s.adcApply n (t / 4)).roundCount n
      let c := s.adc n
      let dur := adcDur ((upto 16).map c.word) c.nent
      let s := if s.standby then s
        else s.each c.nent fun s k =>
          (s.set (A.ANA_RES n k) F.ANA_RES_RCNT (s.get (A.ANA_STAT n) F.ANA_STAT_RCNT)).set (A.ANA_RES n k) F.ANA_RES_STALE 1
      (s.onAdc n fun c => { c with busy := 2, calReq := false, calRef := some ref, lastInp := 10,
                                   calEnd := t + max dur 16000 }).setCalpend n
  | none => s

/-! ## Results (R230-R237, R239) -/

/-- Sampling time in ns of the slot under conversion; the hidden slot takes 1 µs (R225). -/
def Adc.slotTs (c : Adc) : Nat := if c.idx < c.nent then entTs (c.word c.idx) else 1000
/-- End of the conversion under way, in ns. -/
def Adc.convEnd (c : Adc) : Nat := c.startNs + c.slotTs + 250

/-- Sample instants of this tick are stamped: TS64 of the tick plus the ns into it (DEDUCED, log 36). A calibration round
that is over lets the next round come. -/
def Dev.adcTick (s : Dev) : Dev :=
  s.each 8 fun s n =>
    let c := s.adc n
    if c.busy = 1 && (c.startNs + c.slotTs) / 4 == s.ticks then
      s.onAdc n fun c => { c with sampleTs := s.ts + BitVec.ofNat 64 ((c.startNs + c.slotTs) % 4) }
    else if c.busy = 2 && decide (c.calEnd / 4 ≤ s.ticks) then s.adcSettle n c.calEnd
    else s

/-- A result is written: register, handle and image place (R230). -/
def Dev.adcDeliver (s : Dev) (n k : Nat) (v : Int) (ovr : Bool) : Dev :=
  let kerf := s.krem n k != 0
  let s := s.set (A.ANA_ENT_STAT n k) F.ANA_ENT_STAT_KREM (s.krem n k - 1)
  if s.standby then s
  else
    let w := BitVec.ofInt 16 v
    let a := A.ANA_RES n k
    let s := ((s.set a F.ANA_RES_VALUE w.toNat).setBit a F.ANA_RES_KERF kerf).setBit a F.ANA_RES_OVR ovr
    let s := ((s.set a F.ANA_RES_STALE 0).setBit a F.ANA_RES_VALID (!ovr)).set a F.ANA_RES_RCNT
      (s.get (A.ANA_STAT n) F.ANA_STAT_RCNT)
    let s := s.setReg (A.ANA_RTS n k) ((s.adc n).sampleTs.setWidth 32)
    s.publish (mkHandle 0x10 (16 * n + k)) ⟨w.signExtend 32, !ovr⟩

/-- An entry takes a conversion: causes, filter, result. -/
def Dev.entConvert (s : Dev) (n k : Nat) (code : Int) (ovr : Bool) : Dev :=
  let c := s.adc n
  let w := c.word k
  let short := entInput w != c.lastInp && decide (entTs w < minTs (F.ANA_ENT_GAIN.of w))
  let near := c.ovrNs != 0 && decide (c.startNs + 1 < c.ovrNs + 2000)
  let cause := short || near
  let len := kerfLen w
  let v := if ovr then (if code < 0 then -32768 else 32767) else code
  let s := s.onAdc n fun c => { c with lastInp := entInput w, ovrNs := if ovr then c.startNs + entTs w + 1 else c.ovrNs }
  if len = 0 then (if cause then s.kerf n k 1 else s).adcDeliver n k v ovr
  else if ovr then (((if cause then s.kerf n k 1 else s).adcDeliver n k v true).filterRestart n k).kerf n k len
  else
    let s := if cause then (s.filterRestart n k).kerf n k len else s
    let (cnt, xs) := tabGet (0, []) (s.adc n).filt k
    let xs := (v :: xs).take (filterKeep w)
    let s := s.onAdc n fun c => { c with filt := tabPut (0, []) c.filt k (cnt + 1, xs) }
    match filterOut w (cnt + 1) xs with
    | some y => s.adcDeliver n k y false
    | none => s

/-- The hidden slot's check (R239); before a calibration the stored value is the nominal 24 576 (DEDUCED, log 36). -/
def Dev.refCheck (s : Dev) (n : Nat) (code : Int) : Dev :=
  let ref := (s.adc n).calRef.getD 24576
  let s := s.onAdc n fun c => { c with lastInp := 10 }
  if 64 < (code - ref).natAbs then (s.raise (A.ANA_STAT n) F.ANA_STAT_REFERR).offer 0x44 0x08 .refError else s

/-- A slot follows the one under conversion: an entry, or the hidden slot of every round whose count modulo 1024 is 1023. -/
def Dev.slotFollows (s : Dev) (n : Nat) : Bool :=
  let c := s.adc n
  decide (c.idx + 1 < c.nent) || (c.idx + 1 == c.nent && s.get (A.ANA_STAT n) F.ANA_STAT_RCNT % 1024 == 1023)

/-- The conversion under way ends with a code, or overrange: its result, then the next slot or the end of the round. -/
def Dev.conversionDone (s : Dev) (n : Nat) (code : Int) (ovr : Bool) : Dev :=
  let c := s.adc n
  if c.busy = 1 && decide (c.convEnd / 4 ≤ s.ticks) && !s.halted then
    let s := if c.idx < c.nent then s.entConvert n c.idx code ovr else s.refCheck n code
    if s.slotFollows n then s.onAdc n fun d => { d with idx := d.idx + 1, startNs := c.convEnd }
    else s.adcSettle n c.convEnd
  else s

/-- A fire of the converter's comparator (R226, R228, R238): a round is due, or the fire is skipped. A round whose last
conversion ends on this tick is over. -/
def Dev.adcFire (s : Dev) (tt : Nat) : Dev :=
  s.each 8 fun s n =>
    if s.adcMode n = adcTimed && s.get0 (A.ANA_CTL n) F.ANA_CTL_TT == tt && !s.halted then
      let c := s.adc n
      if c.busy = 2 then s.raise (A.ANA_STAT n) F.ANA_STAT_CALSKIP
      else if c.busy = 1 && !(!s.slotFollows n && decide (c.convEnd ≤ s.ns)) then
        ((s.count (A.ANA_ROVR n) F.ANA_ROVR_DATA 1).raise (A.ANA_STAT n) F.ANA_STAT_ROVR).offer 0x44 0x08 .adcSkipped
      else s.onAdc n fun c => { c with due := some s.ns }
    else s

end Sys2Proof.Machine
end

