-- ==== Sys2Proof/Machine/Reg.lean ====
section
/-! DEFINITION. Register accesses that need no unit of their own (R5-R10, R22-R24, R51): a write by field types, the
latches and staging of 64-bit pairs, violations of the U view. -/

namespace Sys2Proof.Machine

/-- The register at an offset with its indices, or none where the offset is undefined; limiter 0 has no registers (R327). -/
def regFind (off : Nat) : Option (RegDesc × List Nat) :=
  if off = 0x4C1000 || off = 0x4C1004 then none else findReg off
def regAt (off : Nat) : Option RegDesc := (regFind off).map (·.1)

/-- Offset of a register for a requester: its own copy where each requester has one (R51). -/
def reqOff (d : RegDesc) (req off : Nat) : Nat := if d.perReq then reqKey req off else off

/-- The lock bit over a register's RWL fields is set (R5). -/
def Dev.locked (s : Dev) (d : RegDesc) : Bool :=
  match d.lock with
  | some a => (s.reg a).getLsbD 31
  | none => false

/-- A value is a defined encoding of a field (R8). -/
def Fld.isLegal (f : Fld) (v : Nat) : Bool := f.legal.isEmpty || f.legal.any (fun r => decide (r.1 ≤ v) && decide (v ≤ r.2))

/-- One field of a write of `v` to a register that holds `old` (R5, R7, R8, R23); `hw` are the bits that hardware set on
this tick; `late` says that a requester of a higher number has written the register on this tick, whose values stand
(R428). -/
def fieldWrite (pview locked late : Bool) (hw v old : Word) (f : Fld) : Word :=
  if f.ponly && !pview then old
  else
    match f.kind with
    | .rw => if !late && f.isLegal (f.of v) then putBits old f.hi f.lo (f.of v) else old
    | .rwl => if !late && !locked && f.isLegal (f.of v) then putBits old f.hi f.lo (f.of v) else old
    | .w1c => old &&& ~~~(v &&& f.mask &&& ~~~hw)
    | .w1s => old ||| (v &&& f.mask)
    | .ro => old
    | .wo => old
    | .own => old

/-- Software has written a register on this tick as a later requester (R428): an earlier requester's write that comes
after it does not stand. -/
def Dev.outranked (s : Dev) (req a : Nat) : Bool := decide (req + 1 < tabGet 0 s.swWrote a)

/-- Note a register write of a requester on this tick. -/
def Dev.noteWrite (s : Dev) (req a : Nat) : Dev := { s with swWrote := tabPut 0 s.swWrote a (max (req + 1) (tabGet 0 s.swWrote a)) }

/-- The word that a write leaves in a register by the types of its fields. -/
def Dev.written (s : Dev) (acc : Acc) (d : RegDesc) (off : Nat) (v : Word) : Word :=
  let a := reqOff d acc.req.val off
  let hw := tabGet 0 s.hwSet a
  let w := d.fields.foldl (fun old f => fieldWrite acc.pview (s.locked d) (s.outranked acc.req.val a) hw v old f) (s.reg a)
  if d.clr && acc.pview then 0 else w

/-- A U-view write would have acted on a P-only field (R23). -/
def violates (v old : Word) (f : Fld) : Bool :=
  f.ponly &&
    match f.kind with
    | .w1c => f.of v != 0
    | .w1s => f.of v != 0
    | .wo => f.of v != 0
    | .rw => f.of v != f.of old
    | .rwl => f.of v != f.of old
    | .own => f.of v != f.of old
    | .ro => false

/-- A violation is counted, noted and recorded (R23, R24). The violations of this tick are counted in `hwSet`, so that a
clear of the same tick can come before them. -/
def Dev.violation (s : Dev) (off : Nat) (write : Bool) : Dev :=
  let s := s.count A.SYS_UVIOL_CNT F.SYS_UVIOL_CNT_COUNT 1
  let s := { s with hwSet := tabPut 0 s.hwSet A.SYS_UVIOL_CNT (tabGet 0 s.hwSet A.SYS_UVIOL_CNT + 1) }
  let s := s.setBit A.SYS_UVIOL_LAST F.SYS_UVIOL_LAST_WR write
  (s.set A.SYS_UVIOL_LAST F.SYS_UVIOL_LAST_OFFSET off).offer 0x40 0x01 .uViolation

/-- The SAF block (R22, R23). -/
def isSaf (off : Nat) : Bool := decide (0x440000 ≤ off) && decide (off ≤ 0x47FFFF)

/-- Channels MB0-MB15 of the mailbox block, which the U view does not reach (R22). -/
def isSecureMbx (off : Nat) : Bool := decide (0x80000 ≤ off) && decide (off < 0x80400)

/-- A register is reachable through the U view. -/
def uReach (d : RegDesc) (off : Nat) : Bool := d.uview && !isSecureMbx off

/-- A write takes effect by the types of the register's fields, and counts where it meets a P-only field from the U view
(R5, R23). -/
def Dev.plain (s : Dev) (acc : Acc) (d : RegDesc) (off : Nat) (v : Word) : Dev :=
  let a := reqOff d acc.req.val off
  let bad := !acc.pview && d.fields.any (violates v (s.reg a))
  let s := (s.setReg a (s.written acc d off v)).noteWrite acc.req.val a
  if bad then s.violation off true else s

/-- A low half is staged for the requester (R10). -/
def Dev.stageLo (s : Dev) (req off : Nat) (v : Word) : Dev :=
  ({ s with staged := tabPut none s.staged (reqKey req off) (some v) }).answer .ok 0

/-- A _HI write commits a pair whose fields are RW: the low half staged by the requester, else the one in force, with the
high half written (R10). -/
def Dev.commitPair (s : Dev) (req lo : Nat) (v : Word) : Dev :=
  let (l, s) := s.takeStaged req lo (s.reg lo)
  let put (s : Dev) (a : Nat) (w : Word) : Dev :=
    match regAt a with
    | some d => s.setReg a (d.fields.foldl (fun old f => putBits old f.hi f.lo (f.of w)) (s.reg a))
    | none => s
  put (put s lo l) (lo + 4) v

/-- STAGE_LO (R10): on the _LO half of a pair, else nothing. -/
def execStageLo (req : Fin 15) (off : BitVec 26) (v : Word) (s : State) : Out :=
  s.go fun d => match regAt off.toNat with
    | some r => if r.pair then d.stageLo req.val off.toNat v else d
    | none => d.undefinedResp req.val

/-- UNDEFINED_ACCESS (R22, R9): an access to an offset that is not listed, or of another width or alignment; it gets the
error response and changes nothing else. A defined access in the command's place changes nothing at all. -/
def execUndefinedAccess (acc : Acc) (off : BitVec 26) (size : Nat) (_write : Bool) (s : State) : Out :=
  s.go fun d =>
    let o := off.toNat
    if decide (0x1000000 ≤ o) && decide (o < 0x3800000) then
      if winAccOk o size then d else d.undefinedResp acc.req.val
    else if (regAt o).isNone || size != 4 || o % 4 != 0 then d.undefinedResp acc.req.val
    else d

/-- U_VIEW_VIOLATION (R23): a U-view access to a privileged-only register, or a write in the SAF block. A read returns 0,
a write is ignored. -/
def execUViewViolation (req : Fin 15) (off : BitVec 26) (write : Bool) (s : State) : Out :=
  s.go fun d => match regAt off.toNat with
    | some r =>
      if !uReach r off.toNat || (write && isSaf off.toNat) then (d.violation off.toNat write).answer .ok 0 else d
    | none => d.undefinedResp req.val

/-- UVIOL_CLR (R24): count and last violation are cleared; the violations of the same tick come after it. -/
def Dev.uviolClr (s : Dev) : Dev :=
  let n := tabGet 0 s.hwSet A.SYS_UVIOL_CNT
  if n = 0 then (s.setReg A.SYS_UVIOL_CNT 0).setReg A.SYS_UVIOL_LAST 0 else s.setReg A.SYS_UVIOL_CNT n
def execUviolClr (s : State) : Out := s.go Dev.uviolClr

end Sys2Proof.Machine
end

