-- ==== Sys2Proof/Machine/AnalogueCmd.lean ====
section
/-! DEFINITION. The commands of the converters and the analogue outputs (chapter 10). -/

namespace Sys2Proof.Machine

/-! ## Configuration (R226-R229) -/

/-- NENT is written: staged for a later round. -/
def Dev.nentStage (s : Dev) (n nent : Nat) : Dev :=
  if nent = s.get (A.ANA_CTL n) F.ANA_CTL_NENT then s
  else (s.set (A.ANA_CTL n) F.ANA_CTL_NENT nent).onAdc n fun c => { c with pend := c.pend ++ [(s.ticks, 16, BitVec.ofNat 32 nent)] }

/-- A calibration is requested; during a calibration the request is merged into it (R238). -/
def Dev.calRequest (s : Dev) (n : Nat) : Dev :=
  if (s.adc n).busy = 2 then s else (s.onAdc n fun c => { c with calReq := true }).setCalpend n

/-- A mode is requested (R226): ignored while in force; with no round under way it takes effect at once, and a first
round of CONTINUOUS starts on the next tick. -/
def Dev.modeRequest (s : Dev) (n m : Nat) : Dev :=
  if m = s.adcMode n then s
  else
    let s := s.set (A.ANA_CTL n) F.ANA_CTL_MODE m
    if (s.adc n).busy = 0 then s.adcSettle n ((s.ticks + 1) * 4) else s

/-- A write of ANA_CTL, refused whole where R227 fails. -/
def Dev.anaCtlWrite (s : Dev) (n : Nat) (v : Word) : Dev :=
  let a := A.ANA_CTL n
  let nent := if 1 ≤ F.ANA_CTL_NENT.of v && F.ANA_CTL_NENT.of v ≤ 16 then F.ANA_CTL_NENT.of v else s.get a F.ANA_CTL_NENT
  let mode := if F.ANA_CTL_MODE.of v = 3 then s.adcReq n else F.ANA_CTL_MODE.of v
  let tt := F.ANA_CTL_TT.of v
  let fresh := mode == adcTimed && !s.adcIsTimed n
  let changed := s.adcIsTimed n && (tt != s.get a F.ANA_CTL_TT || nent != s.get a F.ANA_CTL_NENT)
  if (fresh || changed) && !s.timedOk tt (adcDur (s.adcWords n) nent) then s.adcRefuse n
  else
    let s := (s.nentStage n nent).set a F.ANA_CTL_TT tt
    let s := if F.ANA_CTL_CAL.of v = 1 then s.calRequest n else s
    s.modeRequest n mode

/-- ANA_CTL with a mode and a comparator. -/
def Dev.anaCtlWord (s : Dev) (n mode tt : Nat) : Word :=
  putBits (putBits (s.reg (A.ANA_CTL n)) 1 0 mode) 9 4 tt

/-- MODE_IDLE (R226). -/
def execModeIdle (n : Fin 8) (s : State) : Out :=
  s.go fun d => d.anaCtlWrite n.val (d.anaCtlWord n.val 0 (d.get (A.ANA_CTL n.val) F.ANA_CTL_TT))
/-- MODE_CONTINUOUS (R226). -/
def execModeContinuous (n : Fin 8) (s : State) : Out :=
  s.go fun d => d.anaCtlWrite n.val (d.anaCtlWord n.val 1 (d.get (A.ANA_CTL n.val) F.ANA_CTL_TT))
/-- MODE_TIMED (R227). -/
def execModeTimed (n : Fin 8) (tt : Fin 64) (s : State) : Out :=
  s.go fun d => d.anaCtlWrite n.val (d.anaCtlWord n.val 2 tt.val)

/-- An entry word with its reserved encodings left at the old fields (R8). -/
def entFix (old v : Word) : Word :=
  let keep (w : Word) (hi lo : Nat) (ok : Bool) : Word := if ok then w else putBits w hi lo (bitsOf old hi lo)
  let ts := F.ANA_ENT_TS.of v
  keep (keep (keep (keep (v &&& 0x1FFFFFFF) 17 11 (1 ≤ ts && ts ≤ 64)) 10 8 (F.ANA_ENT_GAIN.of v ≤ 5)) 19 18
    (F.ANA_ENT_FILT.of v != 3)) 3 0 (F.ANA_ENT_INP.of v ≤ 0xB)

/-- What R229 refuses. -/
def entBad (w : Word) : Bool :=
  let len := F.ANA_ENT_FLEN.of w
  let inp := F.ANA_ENT_INP.of w
  (match F.ANA_ENT_FILT.of w with
   | 0 => len != 0
   | 1 => !(2 ≤ len && len ≤ 256)
   | _ => !(4 ≤ len && len ≤ 64)) ||
  ((inp == 8 || inp == 9 || inp == 10) && F.ANA_ENT_GAIN.of w != 0)

/-- A write of ANA_ENT (R229). -/
def Dev.entWrite (s : Dev) (n k : Nat) (v : Word) : Dev :=
  let a := A.ANA_ENT n k
  let w := entFix (s.reg a) v
  let t := s.setReg a w
  if entBad w || (s.adcIsTimed n && !s.timedOk (s.get (A.ANA_CTL n) F.ANA_CTL_TT) (t.adcRdur n)) then s.adcRefuse n
  else t.onAdc n fun c => { c with pend := c.pend ++ [(s.ticks, k, w)] }

/-- ENT_WRITE (R229): entry `k`, or NENT for `k` = 16. -/
def execEntWrite (n : Fin 8) (k : Fin 17) (v : Word) (s : State) : Out :=
  s.go fun d => if k.val = 16 then d.anaCtlWrite n.val (putBits (d.anaCtlWord n.val (d.adcReq n.val) (d.get (A.ANA_CTL n.val) F.ANA_CTL_TT)) 14 10 (v.toNat % 32))
    else d.entWrite n.val k.val v

/-- ANA_CAL (R238). -/
def execAnaCal (n : Fin 8) (s : State) : Out := s.go (·.calRequest n.val)

/-! ## Rounds and results -/

/-- ROUND_START (R225). -/
def execRoundStart (n : Fin 8) (s : State) : Out := s.live (·.roundStart n.val)
/-- CALIBRATION_ROUND (R238): `ref` is the code of REF found. -/
def execCalibrationRound (n : Fin 8) (ref : BitVec 16) (s : State) : Out := s.live (·.calRound n.val ref.toInt)
/-- CONVERSION_DONE (R230): `code` is the corrected code of the conversion, `over` says that the input lay beyond the
range, on the side of the code's sign (R236). -/
def execConversionDone (n : Fin 8) (code : BitVec 16) (ovr : Bool) (s : State) : Out :=
  s.live (·.conversionDone n.val code.toInt ovr)

/-- RES_READ (R231): the result, with ANA_RTS latched for the requester. -/
def Dev.resRead (s : Dev) (req n k : Nat) : Dev :=
  { s with latch := tabPut none s.latch (reqKey req (A.ANA_RTS n k)) (some (s.reg0 (A.ANA_RTS n k))) }.answerWord
    (s.reg0 (A.ANA_RES n k))
def execResRead (req : Fin 15) (n : Fin 8) (k : Fin 16) (s : State) : Out := s.go (·.resRead req.val n.val k.val)

/-! ## Analogue outputs (R240) -/

/-- A claim by HCLM is taken, refused, or given up: only a supervisor core or the host has it (R240, R269). -/
def Dev.hclm (s : Dev) (req : Nat) (h : Word) (on : Bool) : Dev × Bool :=
  let w := writerOf req
  if 7 ≤ req then (s, !on)
  else if on then (if s.claimFree h w then (s.putClaim h (some w), true) else (s, false)) else (s.dropClaim h w, true)

/-- HCLM reads 1 while a supervisor core or the host holds the claim. -/
def Dev.hclmShown (s : Dev) (h : Word) : Bool := 4 ≤ claimCode (s.claim h)

/-- AO_HCLM: a refused claim shows in CFGERR of converter m / 2 (DESIGN CHOICE, log 34). -/
def Dev.aoHclm (s : Dev) (req m : Nat) (on : Bool) : Dev :=
  let (s, ok) := s.hclm req (aoHandle m) on
  let s := s.setBit (A.ANA_AO_CTL m) F.ANA_AO_CTL_HCLM (s.hclmShown (aoHandle m))
  if ok then s else (s.raise (A.ANA_STAT (m / 2)) F.ANA_STAT_CFGERR).offer 0x44 0x08 .hclmRefused
def execAoHclm (req : Fin 15) (m : Fin 16) (on : Bool) (s : State) : Out := s.go (·.aoHclm req.val m.val on)

/-- AO_VAL_WRITE: a write by the claim holder, else ignored and recorded (R18). -/
def execAoValWrite (req : Fin 15) (m : Fin 16) (v : BitVec 16) (s : State) : Out :=
  s.go fun d => (d.deliver (writerOf req.val) (aoHandle m.val) ⟨v.signExtend 32, true⟩).1

/-- AO_UPDATE: a visible code is taken, at most one in a microsecond. -/
def Dev.aoUpdate (s : Dev) (m : Nat) : Dev :=
  let a := s.ao m
  match a.waiting with
  | some t =>
    if t ≤ s.ticks && (a.lastUpd == 0 || decide (a.lastUpd + 250 ≤ s.ticks + 1)) then
      s.setAo m { a with driven := s.aoCode m, waiting := none, lastUpd := s.ticks + 1 }
    else s
  | none => s
def execAoUpdate (m : Fin 16) (s : State) : Out := s.go (·.aoUpdate m.val)

/-- The code that drives the pin, 0 V without the logic supply: a standby does not drive it (R396). -/
def Dev.aoPin (s : Dev) (m : Nat) : Word := if !s.on || s.roleStandby then 0 else (s.ao m).driven

end Sys2Proof.Machine
end

