-- ==== Sys2Proof/Machine/Sec.lean ====
section
/-! DEFINITION. Images, keys and the life cycle (chapter 21): verification, the identity key's indexes, key operations,
attestation, transitions, tamper and the wipe. -/

namespace Sys2Proof.Machine

def Dev.onSec (s : Dev) (f : Sec → Sec) : Dev := { s with sec := f s.sec }

def lcBlank : Nat := 0
def lcProvisioned : Nat := 1
def lcOperational : Nat := 2
def lcService : Nat := 3
def lcRetired : Nat := 4

/-- Life-cycle state. -/
def Dev.lifecycle (s : Dev) : Nat := s.get A.SEC_LCS_STAT F.SEC_LCS_STAT_STATE

def wordBytes (w : Word) : List Byte := leBytes 4 w.toNat
def byteWords : List Byte → List Word
  | a :: b :: c :: d :: t => BitVec.ofNat 32 (leNat [a, b, c, d]) :: byteWords t
  | _ => []
/-- A 256-bit digest as eight words, least significant first. -/
def digestWords (d : BitVec 256) : List Word := (upto 8).map (fun i => (d >>> (32 * i)).setWidth 32)
def wordsDigest (ws : List Word) : BitVec 256 := BitVec.ofNat 256 (leNat (ws.flatMap wordBytes))

/-! ## Images (R436-R438) -/

/-- Bytes of an image, by offset. -/
abbrev Reader := Nat → Byte

def rdWord (rd : Reader) (k : Nat) : Word := BitVec.ofNat 32 (leNat ((upto 4).map (fun i => rd (4 * k + i))))
def rdBytes (rd : Reader) (a n : Nat) : List Byte := (upto n).map (fun i => rd (a + i))

def imgKind (rd : Reader) : Nat := bitsOf (rdWord rd 1) 7 0
def imgLen (rd : Reader) : Nat := (rdWord rd 2).toNat
/-- Payload length with its padding. -/
def padLen (n : Nat) : Nat := (n + 15) / 16 * 16

/-- The format checks of R437; the engine field stands for ENGINE images alone. -/
def imgFormatOk (rd : Reader) : Bool :=
  let w1 := rdWord rd 1
  rdWord rd 0 == 0x494D0001 && decide (1 ≤ imgKind rd) && decide (imgKind rd ≤ 6) &&
    bitsOf w1 31 17 == 0 && bitsOf w1 15 11 == 0 && (imgKind rd == 3 || bitsOf w1 10 8 == 0) &&
    decide (1 ≤ imgLen rd) && decide (imgLen rd ≤ 67104768) && rdWord rd 12 == 0x00B07480 &&
    decide ((rdWord rd 13).toNat < (if imgKind rd = 1 then 2 else 4)) && rdWord rd 14 == 0 && rdWord rd 15 == 0

/-- The 68-byte key of an owner slot. -/
def Dev.ownerKey (s : Dev) (k : Nat) : List Byte := (tabGet [] s.sec.keys k).flatMap wordBytes
def Dev.enrolled (s : Dev) (k : Nat) : Bool := s.bit (A.SEC_OWNKEY k) F.SEC_OWNKEY_ENROLLED
def Dev.revoked (s : Dev) (k : Nat) : Bool := s.bit (A.SEC_OWNKEY k) F.SEC_OWNKEY_REVOKED

/-- The check of an image in the order of R437: none where it passes, else the cause: 1 FORMAT, 2 ROLLBACK, 3 REVOKED,
4 NOKEY, 5 KEYHASH, 6 DIGEST, 7 SIGNATURE. -/
def Dev.verifyImage (s : Dev) (rd : Reader) : Option Nat :=
  if !imgFormatOk rd then some 1
  else
    let k := imgKind rd
    let slot := (rdWord rd 13).toNat
    let ver := bitsOf (rdWord rd 3) 7 0
    let minV := if k = 1 then s.get A.SEC_MINVER F.SEC_MINVER_SYSFW
      else if k = 2 then s.get A.SEC_MINVER F.SEC_MINVER_POLICY else 0
    let pk := if k = 1 then (upto 68).map (Config.yallithKey slot) else s.ownerKey slot
    if ver < minV then some 2
    else if k = 1 && slot == 0 && s.fuses.revY0 then some 3
    else if k != 1 && !s.enrolled slot then some 4
    else if k != 1 && s.revoked slot then some 3
    else if k != 1 && Config.shake256 pk != tabGet 0 s.fuses.ownHash slot then some 5
    else if Config.shake256 (rdBytes rd 64 (imgLen rd)) != wordsDigest ((upto 8).map (fun i => rdWord rd (4 + i))) then some 6
    else if !Config.xmssVerify pk (rdBytes rd 0 64) (rdBytes rd (64 + padLen (imgLen rd)) 2820) then some 7
    else none

/-- An image that has passed, as it is kept. -/
def imgOf (rd : Reader) : Img :=
  ⟨wordsDigest ((upto 8).map (fun i => rdWord rd (4 + i))), (rdWord rd 13).toNat, (rdWord rd 1).getLsbD 16, bitsOf (rdWord rd 3) 7 0,
    rdBytes rd 64 (imgLen rd)⟩

/-- Pool address of a window page number 0x1000-0x37FF. -/
def pageAddr (p : Nat) : Option Nat := if 0x1000 ≤ p && p ≤ 0x37FF then some ((p - 0x1000) * 4096) else none

/-- Every line of a span of the pool can be read. -/
def Dev.spanOk (s : Dev) (a n : Nat) : Bool :=
  decide (a + n ≤ bankCount * 0x80000) &&
    (upto ((n + 15) / 16)).all (fun i => !s.poisoned (lineOf a + i) &&
      lineFind (lineOf a + i) (s.lineErrs (lineOf a + i)) != .uncorrectable)

/-- An image that stands in the bank window from a page on: a reader, when its lines can be read. -/
def Dev.windowImage (s : Dev) (page : Nat) : Option Reader :=
  match pageAddr page with
  | none => none
  | some a =>
    let rd : Reader := fun i => s.byte (a + i)
    if s.spanOk a 64 && s.spanOk a (64 + padLen (min (imgLen rd) 0x2800000) + 2820) then some rd else none

/-- Write words into whole lines of the pool. -/
def Dev.putSpan (s : Dev) (line : Nat) (ws : List Word) : Dev :=
  s.each ((ws.length + 3) / 4) fun s i =>
    s.putLine (line + i) ((upto 4).flatMap (fun j => wordBytes (ws.getD (4 * i + j) 0)))

/-! ## The identity key (R440, R441) -/

def idNone : Nat := 0
def idBuilding : Nat := 1
def idReady : Nat := 2
def idFailed : Nat := 3

def Dev.idState (s : Dev) : Nat := s.get A.SEC_ID_STAT F.SEC_ID_STAT_STATE
def Dev.setIdState (s : Dev) (v : Nat) : Dev := s.set A.SEC_ID_STAT F.SEC_ID_STAT_STATE v
def Dev.blocks (s : Dev) : Nat := s.get A.SEC_IDX_BLK F.SEC_IDX_BLK_C

/-- SEC_ID_STAT.LEFT follows NEXT. -/
def Dev.setNext (s : Dev) (next limit : Nat) : Dev :=
  (s.onSec fun x => { x with next := next, limit := limit }).set A.SEC_ID_STAT F.SEC_ID_STAT_LEFT (0x100000 - next)

/-- At every start and after every wipe or rebuild the rest of a block is skipped. -/
def Dev.idSkip (s : Dev) : Dev := s.setNext (64 * s.blocks) (64 * s.blocks)

/-- An index for one signature, reserved and consumed before any output; none is refused. -/
def Dev.idSign (s : Dev) : Dev × Option Nat :=
  if s.idState != idReady || s.sec.wipe.isSome then (s, none)
  else if s.sec.next = s.sec.limit then
    if s.blocks = 16384 then (s, none)
    else
      let c := s.blocks + 1
      let s := s.set A.SEC_IDX_BLK F.SEC_IDX_BLK_C c
      (s.setNext (s.sec.next + 1) (64 * c), some s.sec.next)
  else (s.setNext (s.sec.next + 1) s.sec.limit, some s.sec.next)

/-- The identity public key as bytes, and its hash. -/
def idKeyWords : List Word := (upto 17).map Config.idKey
def idHash : BitVec 256 := Config.shake256 (idKeyWords.flatMap wordBytes)

/-- The words of a signature: 2820 bytes. -/
def sigWords (i : Nat) (msg : List Word) : List Word := (upto 705).map (Config.idSignature i msg)

/-! ## Tamper and the wipe (R445, R446) -/

/-- A wipe of the secure key store starts: 5 µs. -/
def Dev.wipeStart (s : Dev) : Dev :=
  if s.sec.wipe.isSome then s else s.onSec fun x => { x with wipe := some (s.ticks + 1250) }

/-- A feed is present. -/
def Dev.feedPresent (s : Dev) : Bool :=
  s.bit A.SYS_PWR_STAT F.SYS_PWR_STAT_FEEDA || s.bit A.SYS_PWR_STAT F.SYS_PWR_STAT_FEEDB

/-- A source trips: 0 the lid, 1 the supply glitch detector, 2 the die temperature. -/
def Dev.tamper (s : Dev) (src : Nat) : Dev :=
  if !s.feedPresent || (src == 0 && !s.bit A.SEC_TAMP_CFG F.SEC_TAMP_CFG_LIDEN) then s
  else
    let a := A.SEC_TAMP_STAT
    let s := if src = 0 then s.raise a F.SEC_TAMP_STAT_LID
      else if src = 1 then s.raise a F.SEC_TAMP_STAT_GLITCH else s.raise a F.SEC_TAMP_STAT_TEMP
    ((s.onSec fun x => { x with target := none }).wipeStart).offer 0x4C 0x12 .tamper

/-! ## Owner keys (R439) -/

def keyDone : Nat := 1
def keyRefused : Nat := 2
def keyVerify : Nat := 3

def Dev.keyRes (s : Dev) (r : Nat) : Dev := s.set A.SEC_KEY_CTL F.SEC_KEY_CTL_RES r

/-- Slots that would stand enrolled and not revoked after slot `k` is revoked. -/
def Dev.liveWithout (s : Dev) (k : Nat) : Bool := (upto 4).any (fun i => i != k && s.enrolled i && !s.revoked i)

/-- Fuse a key's hash. -/
def Dev.fuseKey (s : Dev) (k : Nat) (ws : List Word) : Dev :=
  let s := s.onSec fun x => { x with keys := tabPut [] x.keys k ws }
  let s := { s with fuses := { s.fuses with ownHash := tabPut 0 s.fuses.ownHash k (Config.shake256 (ws.flatMap wordBytes)) } }
  (s.set (A.SEC_OWNKEY k) F.SEC_OWNKEY_ENROLLED 1).keyRes keyDone

/-- A KEYOP image at a page for slot `k`: signed by another slot, its payload's word 0 names `k` (log 42). Gives its
payload words. -/
def Dev.keyop (s : Dev) (page k need : Nat) : Option (List Word) :=
  match s.windowImage page with
  | none => none
  | some rd =>
    if (s.verifyImage rd).isNone && imgKind rd == 6 && (rdWord rd 13).toNat != k && imgLen rd == 4 * need &&
        (rdWord rd 16).toNat == k
    then some ((upto need).map (fun i => rdWord rd (16 + i))) else none

/-- ENROL. -/
def Dev.keyEnrol (s : Dev) (k page : Nat) : Dev :=
  let lc := s.lifecycle
  if lc = lcRetired || s.enrolled k then s.keyRes keyRefused
  else if lc = lcBlank || lc = lcProvisioned then
    match pageAddr page with
    | some a => if s.spanOk a 68 then s.fuseKey k (s.words a 17) else s.keyRes keyRefused
    | none => s.keyRes keyRefused
  else
    match s.keyop page k 18 with
    | some ws => s.fuseKey k (ws.drop 1)
    | none => (s.keyRes keyVerify).offer 0x4C 0x12 .imageRefused

/-- REVOKE. -/
def Dev.keyRevoke (s : Dev) (k page : Nat) : Dev :=
  let lc := s.lifecycle
  if lc = lcBlank || lc = lcRetired || !s.liveWithout k then s.keyRes keyRefused
  else
    match s.keyop page k 1 with
    | some _ => (s.set (A.SEC_OWNKEY k) F.SEC_OWNKEY_REVOKED 1).keyRes keyDone
    | none => (s.keyRes keyVerify).offer 0x4C 0x12 .imageRefused

/-! ## Attestation (R442) -/

def attFail (s : Dev) (cause : Nat) : Dev :=
  (s.set A.SEC_ATT_STAT F.SEC_ATT_STAT_STATE 3).set A.SEC_ATT_STAT F.SEC_ATT_STAT_CAUSE cause

/-- Digest of an image, or the device's own firmware digest, or zero. -/
def Dev.quoteDigests (s : Dev) : List Word :=
  let fw := match s.sysfw with
    | some x => x.digest
    | none => Config.sysfwDigest
  let pol := match s.policyImg with
    | some x => x.digest
    | none => 0
  digestWords fw ++ digestWords pol ++
    (upto 8).flatMap (fun e => digestWords (tabGet 0 s.halfDigest (s.get (A.PE_CODE e) F.PE_CODE_ACT)))

/-- The quote's 100 words. -/
def Dev.quote (s : Dev) (i : Nat) : List Word :=
  let head : List Word := (0x41540001 : Word) :: (upto 8).map (fun k => s.reg (A.SEC_ATT_NONCE k)) ++
    [s.reg A.SYS_ID, BitVec.ofNat 32 s.lifecycle, s.time.ts.setWidth 32, (s.time.ts >>> 32).setWidth 32,
     s.reg A.SAF_CFG_CRC, s.reg A.EVR_NEXT, s.reg A.SEC_MINVER, BitVec.ofNat 32 i]
  (head ++ List.replicate (20 - head.length) 0) ++ s.quoteDigests

/-- A quote is requested for a page. -/
def Dev.attest (s : Dev) (page : Nat) : Dev :=
  match pageAddr page with
  | none => attFail s 1
  | some a =>
    if !s.ownsLive 0x3F (bankOfAddr a) then attFail s 1
    else if s.idState = idBuilding then attFail s 2
    else if s.idState != idReady then attFail s 4
    else
      match s.idSign with
      | (s, none) => attFail s 3
      | (s, some i) =>
        let q := s.quote i
        ((s.putSpan (lineOf a) (q ++ sigWords i q)).set A.SEC_ATT_STAT F.SEC_ATT_STAT_STATE 2).set
          A.SEC_ATT_STAT F.SEC_ATT_STAT_CAUSE 0

/-! ## Life cycle (R444) -/

def Dev.lcsRes (s : Dev) (r : Nat) : Dev := s.set A.SEC_LCS_STAT F.SEC_LCS_STAT_RES r

/-- The transitions of R444. -/
def Dev.lcsAllowed (s : Dev) (target : Nat) : Bool :=
  let lc := s.lifecycle
  if target = lcRetired then lc != lcRetired
  else if lc = lcBlank then target == lcProvisioned
  else if lc = lcProvisioned then target == lcOperational
  else if lc = lcOperational then target == lcService && s.get A.SEC_LCS_STAT F.SEC_LCS_STAT_SVCLEFT != 0
  else lc == lcService && target == lcOperational

/-- The token at a page serves for a target. -/
def Dev.tokenOk (s : Dev) (target page : Nat) : Bool :=
  match s.windowImage page with
  | none => false
  | some rd =>
    (s.verifyImage rd).isNone && imgKind rd == 5 && decide (40 ≤ imgLen rd) && (rdWord rd 16).toNat == target &&
      (rdWord rd 17).toNat == s.get A.SEC_LCS_STAT F.SEC_LCS_STAT_TCOUNT &&
      wordsDigest ((upto 8).map (fun i => rdWord rd (18 + i))) == idHash

/-- A transition is requested; an accepted one begins with a wipe. -/
def Dev.lcsRequest (s : Dev) (target page : Nat) : Dev :=
  if !s.lcsAllowed target then s.lcsRes 3
  else if s.lifecycle = lcBlank && target = lcProvisioned then
    if (upto 4).any s.enrolled then (s.onSec fun x => { x with target := some target }).wipeStart else s.lcsRes 4
  else if s.tokenOk target page then (s.onSec fun x => { x with target := some target }).wipeStart
  else (s.lcsRes 2).offer 0x4C 0x12 .imageRefused

/-- Step 2: the state fuses are programmed. -/
def Dev.lcsFuse (s : Dev) (target : Nat) : Dev :=
  let a := A.SEC_LCS_STAT
  let from_ := s.lifecycle
  let s := (s.set a F.SEC_LCS_STAT_STATE target).count a F.SEC_LCS_STAT_TCOUNT 1
  let s := if target = lcService then s.set a F.SEC_LCS_STAT_SVCLEFT (s.get a F.SEC_LCS_STAT_SVCLEFT - 1) else s
  let s := if target = lcOperational then s.raise A.SEC_TAMP_CFG F.SEC_TAMP_CFG_LOCK else s
  let s := if target = lcRetired then { s with fuses := { s.fuses with idRoot := false } }
    else if from_ = lcBlank then { s with fuses := { s.fuses with idRoot := true } } else s
  (s.lcsRes 1).offer 0x4C 0x12 .lcsDone

/-- The identity's working copy is gone: it is rebuilt from the root (R440). -/
def Dev.idLost (s : Dev) : Dev := (s.setIdState (if s.fuses.idRoot then idBuilding else idNone)).idSkip

end Sys2Proof.Machine
end

