-- ==== Sys2Proof/Machine/Can.lean ====
section
/-! DEFINITION. The CAN FD channels (chapter 16): FIFOs, errors, filters, fields, transmit objects. -/

namespace Sys2Proof.Machine

def Can.init : Can := ⟨[], 0, false, [], [], false, 0, [], []⟩
def Dev.can (s : Dev) (n : Nat) : Can := tabGet .init s.cans n
def Dev.onCan (s : Dev) (n : Nat) (f : Can → Can) : Dev := { s with cans := tabPut .init s.cans n (f (s.can n)) }

def canConfig : Nat := 0
def canNormal : Nat := 1
def canLoop : Nat := 3

def Dev.canMode (s : Dev) (n : Nat) : Nat := s.get (A.CN_CTL n) F.CN_CTL_MODE
def Dev.canBusOff (s : Dev) (n : Nat) : Bool := s.get (A.CN_STAT n) F.CN_STAT_STATE == 2
/-- The channel takes part in the bus: out of CONFIG, integrated, not bus-off. -/
def Dev.canOnBus (s : Dev) (n : Nat) : Bool :=
  s.canMode n != canConfig && !s.bit (A.CN_STAT n) F.CN_STAT_INTEG && !s.canBusOff n
def Dev.canCfgErr (s : Dev) (n : Nat) : Dev := s.raise (A.CN_STAT n) F.CN_STAT_CFGERR

/-- Value of CN_SOFCNT on this tick: 40 MHz (R347). -/
def Dev.sofCount (s : Dev) : Word := BitVec.ofNat 32 ((s.ticks - s.sofBase) * 4 / 25)

/-! ## What the registers show -/

/-- Levels, head completion and head receive frame. -/
def Dev.canShow (s : Dev) (n : Nat) : Dev :=
  let c := s.can n
  let a := A.CN_TXSTAT n
  let s := (s.set a F.CN_TXSTAT_LEVEL c.tx.length).set a F.CN_TXSTAT_DLEVEL c.done.length
  let d := c.done.headD (0, 0)
  let s := (s.setReg (A.CN_TXDONE_A n) d.1).setReg (A.CN_TXDONE_B n) d.2
  let s := s.set (A.CN_RXCMD n) F.CN_RXCMD_LEVEL c.rx.length
  let h := c.rx.headD []
  s.each 20 fun s k => s.setReg (A.CN_RXW n k) (h.getD k 0)

/-! ## Frames -/

/-- Bytes of a data length code (ISO 11898-1); a classical frame carries at most 8. -/
def dlcLen (fdf : Bool) (dlc : Nat) : Nat :=
  if dlc ≤ 8 then dlc else if fdf then [12, 16, 20, 24, 32, 48, 64].getD (dlc - 9) 64 else 8

def frameFdf (w0 : Word) : Bool := w0.getLsbD 31
def frameRtr (w0 : Word) : Bool := w0.getLsbD 30
def frameIde (w0 : Word) : Bool := w0.getLsbD 29
/-- Word 0 with the bits that a base identifier leaves 0. -/
def frameWord0 (w0 : Word) : Word := if frameIde w0 then w0 else putBits w0 28 11 0
def frameTag (ws : List Word) : Nat := bitsOf (ws.getD 1 0) 31 16
/-- Byte `i` of a frame entry. -/
def frameByte (ws : List Word) (i : Nat) : Byte := BitVec.ofNat 8 ((ws.getD (4 + i / 4) 0).toNat >>> (8 * (i % 4)))

/-- Data words of 64 bytes. -/
def dataWords (f : Nat → Byte) : List Word :=
  (upto 16).map (fun k => BitVec.ofNat 32 (leNat ((upto 4).map (fun j => f (4 * k + j)))))

/-! ## Transmit FIFO (R337-R341) -/

/-- A frame enters the tail; none with the FIFO full. -/
def Dev.canEnqueue (s : Dev) (n : Nat) (ws : List Word) : Option Dev :=
  if 32 ≤ (s.can n).tx.length then none
  else some ((s.onCan n fun c => { c with tx := c.tx ++ [⟨ws, s.epochNow⟩] }).canShow n)

/-- PUSH of the staged frame with a tag. A remote frame with FDF is refused. -/
def Dev.canPush (s : Dev) (n tag : Nat) : Dev :=
  let w0 := frameWord0 (s.reg (A.CN_TXW n 0))
  let a := A.CN_TXSTAT n
  if frameFdf w0 && frameRtr w0 then s.set a F.CN_TXSTAT_PRES 3
  else
    let w1 := s.reg (A.CN_TXW n 1)
    let ws := w0 :: BitVec.ofNat 32 (tag * 65536 + bitsOf w1 4 0) :: 0 :: 0 :: (upto 16).map (fun k => s.reg (A.CN_TXW n (4 + k)))
    match s.canEnqueue n ws with
    | some s => s.set a F.CN_TXSTAT_PRES 1
    | none => s.set a F.CN_TXSTAT_PRES 2

/-- A completion enters the done queue, over the oldest when it is full (R341). -/
def Dev.canComplete (s : Dev) (n tag outcome : Nat) (sof : Word) : Dev :=
  let q := (s.can n).done
  let s := if 32 ≤ q.length then s.raise (A.CN_STAT n) F.CN_STAT_DOVF else s
  let e : Word × Word := (BitVec.ofNat 32 (tag * 65536 + outcome), sof)
  let q := if 32 ≤ q.length then q.drop 1 else q
  ((s.onCan n fun c => { c with done := q ++ [e] }).canShow n).collect 7 (BitVec.ofNat 32 n) e.1 sof []

def canSent : Nat := 1
def canCancelled : Nat := 2
def canFailed : Nat := 3

/-- The frame at place `i` leaves the FIFO with an outcome. -/
def Dev.canLeave (s : Dev) (n i outcome : Nat) (sof : Word) : Dev :=
  match (s.can n).tx[i]? with
  | none => s
  | some x =>
    let s := s.onCan n fun c => { c with
      tx := c.tx.eraseIdx i, retries := if i = 0 then 0 else c.retries, last := if i = 0 then false else c.last }
    s.canComplete n (frameTag x.words) outcome sof

/-- The head contends: a synced primary's frame waits for its build epoch (R396), a standby's TXD is recessive (R352). -/
def Dev.canContends (s : Dev) (n : Nat) : Bool :=
  (s.canMode n == canNormal || s.canMode n == canLoop) && s.canOnBus n && !s.roleStandby &&
    match (s.can n).tx with
    | x :: _ => !s.syncedAs 1 || decide ((x.epoch - s.duoRel).toInt ≤ 0)
    | [] => false


/-- CANCEL (R340). -/
def Dev.canCancel (s : Dev) (n tag bus : Nat) (sof : Word) : Dev :=
  let a := A.CN_TXSTAT n
  match (s.can n).tx.findIdx? (fun x => frameTag x.words == tag) with
  | none => s.set a F.CN_TXSTAT_CRES 3
  | some i =>
    if i = 0 && bus == 2 && s.canContends n then
      (s.onCan n fun c => { c with last := true }).set a F.CN_TXSTAT_CRES 2
    else (s.canLeave n i canCancelled (if i = 0 && bus == 1 then sof else 0)).set a F.CN_TXSTAT_CRES 1

/-- DPOP. -/
def Dev.canDpop (s : Dev) (n : Nat) : Dev := (s.onCan n fun c => { c with done := c.done.drop 1 }).canShow n

/-! ## Errors (R342-R344) -/

def Dev.canTec (s : Dev) (n : Nat) : Nat := s.get (A.CN_ERR n) F.CN_ERR_TEC
def Dev.canRec (s : Dev) (n : Nat) : Nat := s.get (A.CN_ERR n) F.CN_ERR_REC

/-- The error state follows the counters; bus-off with TEC above 255. -/
def Dev.canJudge (s : Dev) (n : Nat) : Dev :=
  let a := A.CN_STAT n
  if s.canBusOff n then s
  else if 255 < s.canTec n then
    ((s.set a F.CN_STAT_STATE 2).set a F.CN_STAT_BOFF 1).offer 0x48 0x0E .canBusOff
  else s.set a F.CN_STAT_STATE (if 128 ≤ s.canTec n || 128 ≤ s.canRec n then 1 else 0)

/-- The lone node is no longer alone. -/
def Dev.canNotAlone (s : Dev) (n : Nat) : Dev :=
  (s.onCan n fun c => { c with ackErrs := 0 }).set (A.CN_STAT n) F.CN_STAT_ALONE 0

/-- One more acknowledgement error in a row; any other error ends the row. -/
def Dev.canAckErr (s : Dev) (n : Nat) (ack : Bool) : Dev :=
  let k := if ack then (s.can n).ackErrs + 1 else 0
  let s := s.onCan n fun c => { c with ackErrs := k }
  if k = 16 && !s.bit (A.CN_STAT n) F.CN_STAT_ALONE then
    (s.set (A.CN_STAT n) F.CN_STAT_ALONE 1).offer 0x48 0x0E .canAlone
  else s

def lecAck : Nat := 3

/-- A transmission of the head ends in an error (R339, R342). -/
def Dev.canTxError (s : Dev) (n lec : Nat) (sof : Word) : Dev :=
  if !s.canContends n then s
  else
    let e := A.CN_ERR n
    let passive := s.get (A.CN_STAT n) F.CN_STAT_STATE == 1
    let s := s.set e F.CN_ERR_LEC lec
    let s := if passive && lec == lecAck then s else s.set e F.CN_ERR_TEC (min (s.canTec n + 8) 256)
    let s := (s.canAckErr n (lec == lecAck)).canJudge n
    let c := s.can n
    let limit := s.get (A.CN_CTL n) F.CN_CTL_RETRY
    if c.last || (limit != 255 && decide (limit ≤ c.retries)) then s.canLeave n 0 canFailed sof
    else s.onCan n fun c => { c with retries := c.retries + 1 }

/-- An error found while receiving: REC rises by 1, or by 8 where ISO 11898-1 says so. -/
def Dev.canRxError (s : Dev) (n lec : Nat) (eight : Bool) : Dev :=
  if s.canOnBus n && s.canMode n != canLoop then
    let e := A.CN_ERR n
    ((s.set e F.CN_ERR_LEC lec).set e F.CN_ERR_REC (min (s.canRec n + (if eight then 8 else 1)) 255)).canJudge n
  else s

/-- A valid reception lowers REC: from above 127 to a value between 119 and 127, which ISO 11898-1 leaves open. -/
def Dev.canRecDown (s : Dev) (n : Nat) : Dev :=
  let r := s.canRec n
  let e := A.CN_ERR n
  if 127 < r then ((s.set e F.CN_ERR_REC (119 + (Config.freeWord s.free).toNat % 9)).draw).canJudge n
  else (s.set e F.CN_ERR_REC (r - 1)).canJudge n

/-! ## Receiving (R345, R346, R349, R351) -/

/-- The first enabled filter that matches a frame's word 0. -/
def Dev.canFilter (s : Dev) (n : Nat) (w0 : Word) : Option Nat :=
  (upto 32).find? (fun f =>
    let c := s.reg (A.CN_FLT_CFG n f)
    F.CN_FLT_CFG_EN.of c == 1 && (F.CN_FLT_CFG_IDE.of c == 1) == frameIde w0 &&
      ((s.reg (A.CN_FLT_ID n f) ^^^ w0) &&& s.reg (A.CN_FLT_MASK n f)) &&& 0x1FFFFFFF == 0)

/-- A frame enters the receive FIFO, or is dropped. -/
def Dev.canStore (s : Dev) (n : Nat) (ws : List Word) : Dev :=
  if 64 ≤ (s.can n).rx.length then
    let first := !(s.can n).dropped
    let s := (s.count (A.CN_LOST n) F.CN_LOST_RX 1).onCan n fun c => { c with dropped := true }
    if first then s.offer 0x48 0x0E .canDrop else s
  else
    ((s.onCan n fun c => { c with rx := c.rx ++ [ws] }).canShow n).collect 6 (BitVec.ofNat 32 n)
      (BitVec.ofNat 32 (bitsOf (ws.getD 1 0) 15 8)) 0 ws

/-- Place and format of a field in a frame's bytes (R349, R366). -/
structure Lay where
  fmt : Nat
  ofs : Nat
  bit : Nat
  be : Bool
  deriving DecidableEq, Repr

def canLay (cfg : Word) : Lay :=
  ⟨F.CN_FLD_CFG_FMT.of cfg, F.CN_FLD_CFG_OFS.of cfg, F.CN_FLD_CFG_BIT.of cfg, F.CN_FLD_CFG_BE.of cfg == 1⟩

/-- Bytes that a field covers. -/
def Lay.width (l : Lay) : Nat := if l.fmt ≤ 2 then 1 else if l.fmt ≤ 4 then 2 else 4

/-- Value that a field reads from bytes: extended to a word by its sign where the format is signed. -/
def Lay.value (l : Lay) (b : Nat → Byte) : Word :=
  let k := l.width
  let num := leNat ((upto k).map (fun i => b (l.ofs + (if l.be then k - 1 - i else i))))
  match l.fmt with
  | 0 => BitVec.ofNat 32 (((b l.ofs).toNat >>> l.bit) % 2)
  | 2 => (BitVec.ofNat 8 num).signExtend 32
  | 4 => (BitVec.ofNat 16 num).signExtend 32
  | _ => BitVec.ofNat 32 num

/-- Put a value into a field's bytes. -/
def Lay.put (l : Lay) (v : Word) (b : Nat → Byte) (i : Nat) : Byte :=
  let k := l.width
  if i < l.ofs || l.ofs + k ≤ i then b i
  else if l.fmt = 0 then
    let m : Byte := BitVec.ofNat 8 (2 ^ l.bit)
    if v.getLsbD 0 then b i ||| m else b i &&& ~~~m
  else
    let j := if l.be then k - 1 - (i - l.ofs) else i - l.ofs
    BitVec.ofNat 8 (v.toNat >>> (8 * j))

def canRxHandle (n k : Nat) : Word := mkHandle 0x38 (256 * n + k)
def canTxHandle (n k : Nat) : Word := mkHandle 0x39 (256 * n + k)

/-- An enabled field of a direction and object. -/
def fieldOf (cfg : Word) (dir obj : Nat) : Bool :=
  F.CN_FLD_CFG_EN.of cfg == 1 && F.CN_FLD_CFG_DIR.of cfg == dir && F.CN_FLD_CFG_OBJ.of cfg == obj

/-- The receive fields of filter `f` take their values. -/
def Dev.canFields (s : Dev) (n f : Nat) (b : Nat → Byte) : Dev :=
  s.each 256 fun s k =>
    let c := s.reg (A.CN_FLD_CFG n k)
    if fieldOf c 0 f then s.publish (canRxHandle n k) ⟨(canLay c).value b, true⟩ else s

/-- The station of a filter is absent or present; each change offers a record and is collected (R351, R393). -/
def Dev.canStation (s : Dev) (n f : Nat) (absent : Bool) : Dev :=
  let a := A.CN_FLT_CFG n f
  if s.bit a F.CN_FLT_CFG_ABS = absent then s
  else
    ((s.setBit a F.CN_FLT_CFG_ABS absent).offer 0x48 0x0E .stationChange).collect 8 (BitVec.ofNat 32 f)
      (if absent then 1 else 0) (BitVec.ofNat 32 n) []

/-- From the tick of absence the station's receive fields carry VALID clear. -/
def Dev.canAbsentFields (s : Dev) (n f : Nat) : Dev :=
  s.each 256 fun s k =>
    let c := s.reg (A.CN_FLD_CFG n k)
    if fieldOf c 0 f then
      let h := canRxHandle n k
      s.publish h ⟨if F.CN_FLD_CFG_SUBM.of c = 1 then s.reg (A.CN_FLD_SUB n k) else (s.point h).val, false⟩
    else s

/-- STATION_ABSENT: TMO ms without a match. -/
def Dev.canAbsent (s : Dev) (n f : Nat) : Dev :=
  let c := s.reg (A.CN_FLT_CFG n f)
  let tmo := F.CN_FLT_CFG_TMO.of c * 250000
  if s.standby || s.halted || F.CN_FLT_CFG_EN.of c == 0 || tmo == 0 || F.CN_FLT_CFG_ABS.of c == 1 ||
      decide (s.ticks + 1 < tabGet 0 (s.can n).seen f + tmo) then s
  else (s.canStation n f true).canAbsentFields n f

/-- A valid frame is matched against the filters: bytes beyond its length are nobody's, so free. -/
def Dev.canMatch (s : Dev) (n : Nat) (w0 w1 : Word) (data : List Byte) (sof : Word) : Dev :=
  let len := if frameRtr w0 then 0 else dlcLen (frameFdf w0) (bitsOf w1 3 0)
  let free := s.free
  let b : Nat → Byte := fun i => if i < len then data.getD i 0 else Config.freeByte (free + i)
  let s := s.draw
  match s.canFilter n w0 with
  | none => s
  | some f =>
    let s := s.onCan n fun c => { c with seen := tabPut 0 c.seen f (s.ticks + 1) }
    let s := s.canStation n f false
    let act := s.get (A.CN_FLT_CFG n f) F.CN_FLT_CFG_ACT
    let ws := w0 :: BitVec.ofNat 32 (f * 256 + bitsOf w1 5 0) :: sof :: 0 :: dataWords b
    let s := if act % 2 = 1 then s.canStore n ws else s
    if 2 ≤ act then s.canFields n f b else s

/-- CAN_FRAME_RECEIVED: a valid frame of another node. -/
def Dev.canReceive (s : Dev) (n : Nat) (w0 w1 : Word) (data : List Byte) (sof : Word) : Dev :=
  if s.canOnBus n && s.canMode n != canLoop && !s.standby && !s.halted then
    ((s.canRecDown n).canNotAlone n).canMatch n (frameWord0 w0) w1 data sof
  else s

/-- CAN_FRAME_SENT: the head ends without error. Its own frame is received with SELFRX or in LOOP. -/
def Dev.canSentHead (s : Dev) (n : Nat) (sof : Word) : Dev :=
  if !s.canContends n then s
  else
    match (s.can n).tx with
    | [] => s
    | x :: _ =>
      let s := (s.set (A.CN_ERR n) F.CN_ERR_TEC (s.canTec n - 1)).canJudge n
      let s := (s.canNotAlone n).canLeave n 0 canSent sof
      let s := if s.canMode n = canLoop then s else s.emit ⟨0, n, 0, x.words⟩
      if (s.bit (A.CN_CTL n) F.CN_CTL_SELFRX || s.canMode n == canLoop) && !s.halted then
        s.canMatch n (x.words.getD 0 0) (x.words.getD 1 0) ((upto 64).map (frameByte x.words)) sof
      else s

/-- POP of the receive FIFO. -/
def Dev.canPop (s : Dev) (n : Nat) : Dev :=
  (s.onCan n fun c => { c with rx := c.rx.drop 1, dropped := if c.rx.length ≤ 1 then false else c.dropped }).canShow n

/-! ## Modes (R335, R344) -/

/-- A write of CN_CTL.MODE. -/
def Dev.canSetMode (s : Dev) (n m : Nat) : Dev :=
  let a := A.CN_STAT n
  if m = s.canMode n then s
  else
    let was := s.canMode n
    let s := s.set (A.CN_CTL n) F.CN_CTL_MODE m
    if m = canConfig then (s.set a F.CN_STAT_INTEG 0).set a F.CN_STAT_RECOV 0
    else if was = canConfig then s.set a F.CN_STAT_INTEG 1 else s

/-- Integration ends. -/
def Dev.canIntegrated (s : Dev) (n : Nat) : Dev :=
  if s.canMode n = canConfig then s else s.set (A.CN_STAT n) F.CN_STAT_INTEG 0

/-- RECOVER, taken in bus-off alone; in CONFIG no count runs. -/
def Dev.canRecover (s : Dev) (n : Nat) : Dev :=
  if s.canBusOff n && s.canMode n != canConfig then s.set (A.CN_STAT n) F.CN_STAT_RECOV 1 else s

/-- The recovery count ends. -/
def Dev.canRecovered (s : Dev) (n : Nat) : Dev :=
  let a := A.CN_STAT n
  if s.bit a F.CN_STAT_RECOV then
    let s := (((s.set a F.CN_STAT_RECOV 0).set a F.CN_STAT_STATE 0).set a F.CN_STAT_BOFF 0)
    (s.set (A.CN_ERR n) F.CN_ERR_TEC 0).set (A.CN_ERR n) F.CN_ERR_REC 0
  else s

/-- A snapshot (R348). -/
def Dev.canSnap (s : Dev) (n : Nat) : Dev :=
  (s.setReg (A.CN_SNAP_CNT n) s.sofCount).setPair (A.CN_SNAP_TS_LO n) s.time.ts

/-- Channels with SNAPAUTO take a snapshot when a whole second is crossed. -/
def Dev.canSecond (s : Dev) : Dev := s.each 16 fun s n => if s.bit (A.CN_CTL n) F.CN_CTL_SNAPAUTO then s.canSnap n else s

/-! ## Transmit objects (R350) -/

/-- Bytes of an object's frame: its fields as they stand at the start of the tick, and the sequence. -/
def Dev.canObjBytes (s : Dev) (n j : Nat) (cfg : Word) : Nat → Byte :=
  let b := (upto 256).foldl (fun (b : Nat → Byte) k =>
    let c := s.reg (A.CN_FLD_CFG n k)
    if fieldOf c 1 j then (canLay c).put (s.hread (canTxHandle n k)).val b else b) (fun _ => 0)
  if F.CN_TXO_CFG_SEQEN.of cfg = 1 then
    fun i => if i = F.CN_TXO_CFG_SEQOFS.of cfg then BitVec.ofNat 8 (tabGet 0 (s.can n).seqs j) else b i
  else b

/-- A fire of its comparator builds an object's frame. -/
def Dev.canBuild (s : Dev) (n j : Nat) : Dev :=
  let cfg := s.reg (A.CN_TXO_CFG n j)
  let absent := F.CN_TXO_CFG_STNEN.of cfg == 1 && s.bit (A.CN_FLT_CFG n (F.CN_TXO_CFG_STN.of cfg)) F.CN_FLT_CFG_ABS
  if absent || s.halted then s
  else
    let w0 := frameWord0 (putBits (s.reg (A.CN_TXO_ID n j)) 30 30 0)
    let w1 := BitVec.ofNat 32 ((0xFF00 + j) * 65536 + F.CN_TXO_CFG_BRS.of cfg * 16 + F.CN_TXO_CFG_DLC.of cfg)
    let ws := w0 :: w1 :: 0 :: 0 :: dataWords (s.canObjBytes n j cfg)
    match (s.output 0x48 ws).canEnqueue n ws with
    | none => s.count (A.CN_LOST n) F.CN_LOST_TXO 1
    | some s =>
      if F.CN_TXO_CFG_SEQEN.of cfg = 1 then
        s.onCan n fun c => { c with seqs := tabPut 0 c.seqs j ((tabGet 0 c.seqs j + 1) % 256) }
      else s

/-- Objects that the comparator builds. -/
def Dev.canFire (s : Dev) (tt : Nat) : Dev :=
  s.each 16 fun s n => s.each 16 fun s j =>
    let cfg := s.reg0 (A.CN_TXO_CFG n j)
    if F.CN_TXO_CFG_EN.of cfg == 1 && F.CN_TXO_CFG_TT.of cfg == tt then s.canBuild n j else s

/-! ## Guarded register writes -/

/-- A write of CN_CTL: MODE, SNAP, and RETRY in CONFIG alone (R335). -/
def Dev.canCtlWrite (s : Dev) (n : Nat) (v : Word) : Dev :=
  let a := A.CN_CTL n
  let retry := F.CN_CTL_RETRY.of v != s.get a F.CN_CTL_RETRY
  let s := if s.canMode n = canConfig then s.set a F.CN_CTL_RETRY (F.CN_CTL_RETRY.of v)
    else if retry then s.canCfgErr n else s
  let s := (s.set a F.CN_CTL_SNAPAUTO (F.CN_CTL_SNAPAUTO.of v)).set a F.CN_CTL_SELFRX (F.CN_CTL_SELFRX.of v)
  let s := if F.CN_CTL_SNAP.of v = 1 then s.canSnap n else s
  s.canSetMode n (F.CN_CTL_MODE.of v)

/-- A bit timing is allowed (R336): `least` is 80 MHz over the highest rate. -/
def btrOk (w : Word) (least : Nat) : Bool :=
  let t1 := F.CN_BTR_N_TSEG1.of w + 1
  let t2 := F.CN_BTR_N_TSEG2.of w + 1
  decide (least ≤ (1 + t1 + t2) * (F.CN_BTR_N_BRP.of w + 1)) && decide (F.CN_BTR_N_SJW.of w + 1 ≤ t2)

/-- A write of a bit timing register. -/
def Dev.canBtrWrite (s : Dev) (n a : Nat) (v : Word) (least : Nat) : Dev :=
  if s.canMode n = canConfig && btrOk v least then s.setReg a v else s.canCfgErr n

/-- A write of CN_FLD_CFG (R349). -/
def Dev.canFldWrite (s : Dev) (n k : Nat) (v : Word) : Dev :=
  let a := A.CN_FLD_CFG n k
  let old := s.reg a
  let on := F.CN_FLD_CFG_EN.of v == 1
  let o := s.reg (A.CN_TXO_CFG n (F.CN_FLD_CFG_OBJ.of v % 16))
  let fdf := frameFdf (s.reg (A.CN_TXO_ID n (F.CN_FLD_CFG_OBJ.of v % 16)))
  let beyond := on && F.CN_FLD_CFG_DIR.of v == 1 &&
    (decide (16 ≤ F.CN_FLD_CFG_OBJ.of v) ||
      decide (dlcLen fdf (F.CN_TXO_CFG_DLC.of o) < F.CN_FLD_CFG_OFS.of v + (canLay v).width))
  if (F.CN_FLD_CFG_EN.of old == 1 && on) || beyond then s.canCfgErr n
  else
    let w := (v &&& 0xFFBFFC00)
    let w := if F.CN_FLD_CFG_FMT.of w = 7 then putBits w 12 10 (F.CN_FLD_CFG_FMT.of old) else w
    let s := s.setReg a w
    if F.CN_FLD_CFG_EN.of old = 1 then
      { s with points := tabPut Pt.none (tabPut Pt.none s.points (canRxHandle n k).toNat Pt.none) (canTxHandle n k).toNat Pt.none }
    else s

/-- A write of CN_FLT_CFG restarts the station's time. -/
def Dev.canFltWrite (s : Dev) (n f : Nat) : Dev := s.onCan n fun c => { c with seen := tabPut 0 c.seen f (s.ticks + 1) }

end Sys2Proof.Machine
end

