-- ==== Sys2Proof/Machine/CanCmd.lean ====
section
/-! DEFINITION. The commands of the CAN channels (chapter 16). -/

namespace Sys2Proof.Machine

/-- CAN_MODE (R335). -/
def execCanMode (n : Fin 16) (m : Fin 4) (s : State) : Out := s.go (·.canSetMode n.val m.val)
/-- INTEGRATION_DONE (R335). -/
def execIntegrationDone (n : Fin 16) (s : State) : Out := s.live (·.canIntegrated n.val)
/-- CAN_PUSH (R337). -/
def execCanPush (n : Fin 16) (tag : BitVec 16) (s : State) : Out := s.go (·.canPush n.val tag.toNat)
/-- CAN_CANCEL (R340): `bus` says where the head stands: 0 not started or no head named, 1 started and going to lose
arbitration, 2 started and won; with the stamp of a started head. -/
def execCanCancel (n : Fin 16) (tag : BitVec 16) (bus : Fin 3) (sof : Word) (s : State) : Out :=
  s.go (·.canCancel n.val tag.toNat bus.val sof)
/-- DPOP (R341). -/
def execDpop (n : Fin 16) (s : State) : Out := s.go (·.canDpop n.val)
/-- RECOVER (R344). -/
def execRecover (n : Fin 16) (s : State) : Out := s.go (·.canRecover n.val)
/-- RECOVERY_DONE (R344). -/
def execRecoveryDone (n : Fin 16) (s : State) : Out := s.live (·.canRecovered n.val)
/-- CAN_FRAME_SENT (R339): with its start-of-frame stamp. -/
def execCanFrameSent (n : Fin 16) (sof : Word) (s : State) : Out := s.go (·.canSentHead n.val sof)
/-- TX_ERROR (R339): the last error code of CN_ERR.LEC, and the stamp. -/
def execTxError (n : Fin 16) (lec : Fin 8) (sof : Word) (s : State) : Out := s.go (·.canTxError n.val lec.val sof)
/-- CAN_FRAME_RECEIVED (R345): words 0 and 1 of the entry as far as the bus gives them, the data bytes, the stamp. -/
def execCanFrameReceived (n : Fin 16) (w0 w1 : Word) (data : List Byte) (sof : Word) (s : State) : Out :=
  s.live (·.canReceive n.val w0 w1 data sof)
/-- CAN_RECEIVE_ERROR (R342): `eight` for the cases in which ISO 11898-1 raises REC by 8. -/
def execCanReceiveError (n : Fin 16) (lec : Fin 8) (eight : Bool) (s : State) : Out := s.go (·.canRxError n.val lec.val eight)
/-- CAN_POP (R346). -/
def execCanPop (n : Fin 16) (s : State) : Out := s.go (·.canPop n.val)
/-- SNAP (R348). -/
def execSnap (n : Fin 16) (s : State) : Out := s.go (·.canSnap n.val)
/-- STATION_ABSENT (R351). -/
def execStationAbsent (n : Fin 16) (f : Fin 32) (s : State) : Out := s.live (·.canAbsent n.val f.val)

end Sys2Proof.Machine
end

