-- ==== Sys2Proof/Machine/Dio.lean ====
section
/-! DEFINITION. The 24 V inputs and outputs (chapter 12): sampling and debouncing, supplies, PWM periods, readback. -/

namespace Sys2Proof.Machine

def Dev.diGrp (s : Dev) (g : Nat) : DiGrp := tabGet ⟨0, false, false, none⟩ s.diGrps g
def Dev.setDiGrp (s : Dev) (g : Nat) (x : DiGrp) : Dev := { s with diGrps := tabPut ⟨0, false, false, none⟩ s.diGrps g x }
def Dev.di (s : Dev) (n : Nat) : Di := tabGet ⟨0, 0, false⟩ s.dis n
def Dev.onDi (s : Dev) (n : Nat) (f : Di → Di) : Dev := { s with dis := tabPut ⟨0, 0, false⟩ s.dis n (f (s.di n)) }
def diHandle (n : Nat) : Word := mkHandle 0x18 n
def rbHandle (n : Nat) : Word := mkHandle 0x1A n

/-! ## Inputs -/

/-- The counts of an input restart. -/
def Dev.diRestart (s : Dev) (n : Nat) : Dev :=
  let c := (s.diGrp (n / 8)).count
  s.onDi n fun d => { d with since := c, brkSince := c }
/-- The inputs of a group. -/
def Dev.diAll (s : Dev) (g : Nat) (f : Dev → Nat → Dev) : Dev := s.each 8 fun s k => f s (8 * g + k)

/-- The state point and its register follow STATE, the completed count and BRK (R266, R267). -/
def Dev.diShow (s : Dev) (n : Nat) : Dev :=
  let a := A.DIO_DI_STAT n
  let brk := s.bit a F.DIO_DI_STAT_BRK
  let v := (s.di n).ok && !brk
  let p : Pt := ⟨if brk then 0 else BitVec.ofNat 32 (s.get a F.DIO_DI_STAT_STATE), v⟩
  let s := s.setBit a F.DIO_DI_STAT_VALID v
  if s.point (diHandle n) = p then s else s.publish (diHandle n) p

/-- Samples that a count takes (R266). -/
def Dev.diNeed (s : Dev) (n : Nat) : Nat :=
  let deb := s.get (A.DIO_DI_CTL n) F.DIO_DI_CTL_DEB
  let w := s.reg (A.DIO_DIG_CTL (n / 8))
  let per := F.DIO_DIG_CTL_PER.of w * 10
  if F.DIO_DIG_CTL_MODE.of w = 1 then (deb + per - 1) / per else deb

/-- This tick samples the input, it is valid under R268, and its count since `since` covers the debounce time. -/
def Dev.diCounted (s : Dev) (n since : Nat) : Bool :=
  let g := s.diGrp (n / 8)
  g.now && !s.standby && !s.bit (A.DIO_DI_STAT n) F.DIO_DI_STAT_LPINV && decide (since + s.diNeed n ≤ g.count)

/-- A new level has been seen at n consecutive samples; the first completed count makes an input valid again. -/
def Dev.diChange (s : Dev) (n : Nat) (level : Bool) : Dev :=
  let a := A.DIO_DI_STAT n
  let new := s.bit a F.DIO_DI_STAT_STATE != level
  if s.diCounted n (s.di n).since && (new || !(s.di n).ok) then
    let s := (s.setBit a F.DIO_DI_STAT_STATE level).setBit a F.DIO_DI_STAT_RAW level
    let s := (s.onDi n fun d => { d with since := (s.diGrp (n / 8)).count, ok := true }).diShow n
    if new then s.captureNow (0x80 + n) level else s
  else s

/-- Wire break (R267). -/
def Dev.diBreak (s : Dev) (n : Nat) (brk : Bool) : Dev :=
  let a := A.DIO_DI_STAT n
  if s.bit (A.DIO_DI_CTL n) F.DIO_DI_CTL_BRKEN && s.bit a F.DIO_DI_STAT_BRK != brk && s.diCounted n (s.di n).brkSince then
    let s := s.setBit a F.DIO_DI_STAT_BRK brk
    let s := (s.onDi n fun d => { d with brkSince := (s.diGrp (n / 8)).count }).diShow n
    if brk then s.offer 0x46 0x0A .wireBreak else s
  else s

/-- Where BRKEN has been set by a write, the count of R267 begins with the next sample: the current was not measured before.
`was`: BRKEN as it stood. -/
def Dev.diBrkStart (s : Dev) (n : Nat) (was : Bool) : Dev :=
  if !was && s.bit (A.DIO_DI_CTL n) F.DIO_DI_CTL_BRKEN then
    s.onDi n fun d => { d with brkSince := (s.diGrp (n / 8)).count }
  else s

/-- The inputs of a group stand invalid or not by the group's type (R268). -/
def Dev.diJudge (s : Dev) (g : Nat) : Dev :=
  let t3 := s.bit (A.DIO_DIG_CTL g) F.DIO_DIG_CTL_TYPE
  let inv := s.bit A.DIO_LPI_STAT (if t3 then F.DIO_LPI_STAT_T3INV else F.DIO_LPI_STAT_T1INV)
  s.diAll g fun s n =>
    let was := s.bit (A.DIO_DI_STAT n) F.DIO_DI_STAT_LPINV
    let s := s.setBit (A.DIO_DI_STAT n) F.DIO_DI_STAT_LPINV inv
    if inv then ((s.diRestart n).onDi n fun d => { d with ok := false }).diShow n
    else if was then s.diRestart n else s

/-- A measurement against a threshold: the condition sets at once below it and clears once every measurement for 10 ms
has been good (R268, R275). Gives the condition. -/
def Dev.supplyJudge (s : Dev) (k : Nat) (bad good was : Bool) : Dev × Bool :=
  let since := tabGet 0 s.supply k
  let put (s : Dev) (v : Nat) : Dev := { s with supply := tabPut 0 s.supply k v }
  if !good then (put s 0, was || bad)
  else
    let since := if since = 0 then s.ticks + 1 else since
    (put s since, was && decide (s.ticks + 1 < since + 2500000))

/-- An LPI measurement in units of 10 mV (R268). -/
def Dev.lpiMeasure (s : Dev) (volt : Nat) : Dev :=
  let a := A.DIO_LPI_STAT
  let s := s.set a F.DIO_LPI_STAT_VOLT volt
  let (s, t1) := s.supplyJudge 0 (decide (volt < 1500)) (decide (1500 ≤ volt)) (s.bit a F.DIO_LPI_STAT_T1INV)
  let (s, t3) := s.supplyJudge 1 (decide (volt < 1100)) (decide (1100 ≤ volt)) (s.bit a F.DIO_LPI_STAT_T3INV)
  let s := (s.setBit a F.DIO_LPI_STAT_T1INV t1).setBit a F.DIO_LPI_STAT_T3INV t3
  if s.standby || s.halted then s else s.each 8 Dev.diJudge

/-- A multiple of `m` lies after `t0` and not after `t1`. -/
def crosses (m t0 t1 : Nat) : Bool := t0 / m != t1 / m

/-- A tick of a group: a pending DIO_DIG_CTL takes effect, windows open and close, samples are taken (R263-R265). `t0`
is where the tick begins: the old TS64, or one nominal tick before the new one after a step. -/
def Dev.diGroupTick (s : Dev) (stepped : Bool) (t0 t1 g : Nat) : Dev :=
  let x := s.diGrp g
  let x := if stepped then { x with window := false } else x
  let us := crosses 1000 t0 t1
  let take := us && x.pend.isSome
  let s := if take then
      (s.setReg (A.DIO_DIG_CTL g) (x.pend.getD 0)).diAll g Dev.diRestart
    else s
  let x := if take then { x with window := false, pend := none } else x
  let w := s.reg (A.DIO_DIG_CTL g)
  let per := F.DIO_DIG_CTL_PER.of w * 10000
  let ends := crosses per (t0 + per - per / 10) (t1 + per - per / 10)
  let opens := crosses per t0 t1
  let pulsed := F.DIO_DIG_CTL_MODE.of w == 1
  let now := !s.halted && (if pulsed then x.window && ends else us)
  let x := { x with now := now, count := if now then x.count + 1 else x.count,
                    window := pulsed && (opens || (x.window && !ends)) }
  let s := s.setDiGrp g x
  if take then s.diJudge g else s

def Dev.diTick (s : Dev) (stepped : Bool) (t0 t1 : Nat) : Dev := s.each 8 (fun s g => s.diGroupTick stepped t0 t1 g)

/-- DIO_DIG_CTL is written: it takes effect on the next whole microsecond; a reserved PER keeps the old one (R8).
DEDUCED, unsafe (log 52): what a read before that microsecond answers. -/
def Dev.digCtlWrite (s : Dev) (g : Nat) (v : Word) : Dev :=
  let x := s.diGrp g
  let old := x.pend.getD (s.reg (A.DIO_DIG_CTL g))
  let per := F.DIO_DIG_CTL_PER.of v
  let v := v &&& 0x1FF
  s.setDiGrp g { x with pend := some (if 5 ≤ per && per ≤ 100 then v else putBits v 8 2 (F.DIO_DIG_CTL_PER.of old)) }

/-! ## Outputs -/

def Dev.dqSusp (s : Dev) (n : Nat) : Bool := s.bit (A.DIO_DQG_STAT (n / 8)) F.DIO_DQG_STAT_SUSP
def Dev.dqOvt (s : Dev) (n : Nat) : Bool := s.bit (A.DIO_DQ_STAT n) F.DIO_DQ_STAT_OVT

/-- PWM frequency that should be in force: 0 outside PWM mode and in an UNPOWERED group. -/
def Dev.dqKey (s : Dev) (n : Nat) : Nat := if s.dqPwm n && !s.dqUnpowered n then s.dqFreq n else 0

/-- A change of mode or frequency starts a new period on the next tick (R270). -/
def Dev.dqMode (s : Dev) (n : Nat) : Dev :=
  let d := s.dq n
  if s.dqKey n = d.pwmKey then s
  else s.setDq n { d with pwmKey := s.dqKey n, pwm := none, pwmOn := false, pwmFrom := s.ticks + 1,
                            mismSince := s.ticks + 1 }

/-- On-time of a duty in units of 100 ns, to nearest (R270). -/
def pwmOnTime (duty f : Nat) : Nat := (2 * duty * 10000000 + f * 65535) / (2 * f * 65535)

/-- A period starts with its on-phase. -/
def Dev.pwmStart (s : Dev) (n : Nat) : Dev :=
  let d := s.dq n
  let f := d.pwmKey
  let due := match d.pwm with
    | none => d.pwmFrom
    | some (_, _, e) => e
  if f = 0 || decide (s.ticks < due) then s
  else
    let on := pwmOnTime (s.dqCmd n) f
    let stop := s.ticks + 250000000 / f
    let full := decide (10000000 < (on + 20) * f)
    s.setDq n { d with pwm := some (s.ticks, if full then stop else s.ticks + on * 25, stop),
                       pwmOn := decide (20 ≤ on) || full }

/-- The on-phase ends. -/
def Dev.pwmOff (s : Dev) (n : Nat) : Dev :=
  let d := s.dq n
  match d.pwm with
  | some (_, on, stop) => if on ≤ s.ticks && on < stop then s.setDq n { d with pwmOn := false } else s
  | none => s

/-- Level that the readback sees: that of the switch, unless the pin is found apart from it (R273, log 38). -/
def Dev.dqRead (s : Dev) (n : Nat) : Bool := s.dqLevel n != (s.dq n).rbDiff

/-- The readback is sampled (R273); UNPOWERED it carries VALID clear (R275). -/
def Dev.dqSample (s : Dev) (n : Nat) : Dev :=
  let a := A.DIO_DQ_STAT n
  let v := !s.dqUnpowered n
  let b := s.dqRead n
  let s := (s.setBit a F.DIO_DQ_STAT_RB b).setBit a F.DIO_DQ_STAT_RBV v
  let p : Pt := ⟨if b then 1 else 0, v⟩
  if s.point (rbHandle n) = p || s.halted then s else s.publish (rbHandle n) p

/-- LAG of a pair in ticks. -/
def Dev.lagTicks (s : Dev) : Nat := s.get A.DUO_CFG F.DUO_CFG_LAG * 250
/-- An output is named in DUO_FOUT. -/
def Dev.paired (s : Dev) (n : Nat) : Bool := (s.reg A.DUO_FOUT).getLsbD n

/-- A paired output's levels are kept for LAG. -/
def Dev.foutTick (s : Dev) (n : Nat) : Dev :=
  if s.paired n then
    let d := s.dq n
    let l := s.dqLevel n
    let xs := if d.fout.head?.map (·.2) == some l then d.fout else (s.ticks, l) :: d.fout
    let new := xs.filter (fun x => s.ticks < x.1 + s.lagTicks)
    s.setDq n { d with fout := new ++ (xs.drop new.length).take 1 }
  else s

/-- A tick of the outputs: PWM modes, readback once per microsecond. -/
def Dev.dqTick (s : Dev) : Dev :=
  s.each 32 fun s n =>
    let s := (s.dqMode n).foutTick n
    if s.ticks % 250 = 0 && !s.standby then s.dqSample n else s

/-- Level at the pin: off without the logic supply. A standby drives only paired outputs; a synced primary's paired outputs change LAG late (R396). -/
def Dev.dqPin (s : Dev) (n : Nat) : Bool :=
  if !s.on || (s.roleStandby && !(s.paired n && s.standby)) then false
  else if s.paired n && s.syncedAs 1 then
    match (s.dq n).fout.find? (fun x => decide (x.1 + s.lagTicks ≤ s.ticks)) with
    | some x => x.2
    | none => false
  else s.dqLevel n

/-! ### Protection and diagnostics -/

/-- OVT clears, and the checks that it suspended begin again (R271, R273). -/
def Dev.ovtClear (s : Dev) (n : Nat) : Dev :=
  (s.set (A.DIO_DQ_STAT n) F.DIO_DQ_STAT_OVT 0).setDq n { s.dq n with mismSince := s.ticks + 1 }

/-- A switch overheats (R271). -/
def Dev.dqOverheat (s : Dev) (n : Nat) : Dev :=
  let was := s.dqOvt n
  let s := (s.set (A.DIO_DQ_STAT n) F.DIO_DQ_STAT_OVT 1).setDq n { s.dq n with ovtTick := s.ticks }
  if was then s else s.offer 0x46 0x0A .outputOvt

/-- A command since `since` has stood for `t` ticks. -/
def Dev.stood (s : Dev) (since t : Nat) : Bool := decide (since + t ≤ s.ticks + 1)

/-- The readback has differed from the command for more than 1 ms (R273). -/
def Dev.dqMismatch (s : Dev) (n : Nat) : Dev :=
  if !s.dqPwm n && !s.dqOvt n && !s.dqSusp n && s.stood (s.dq n).mismSince 250001 then
    let a := A.DIO_DQ_STAT n
    let s := s.setDq n { s.dq n with rbDiff := true }
    if s.bit a F.DIO_DQ_STAT_MISM then s else (s.raise a F.DIO_DQ_STAT_MISM).offer 0x46 0x0A .outputMismatch
  else s

/-- Open load found at the command that stands (R274). -/
def Dev.dqOpen (s : Dev) (n : Nat) : Dev :=
  let a := A.DIO_DQ_STAT n
  let c := s.dqCmd n
  let steady := !s.dqPwm n || c == 0 || c == 65535
  if s.bit (A.DIO_DQ_CTL n) F.DIO_DQ_CTL_OLEN && steady && !s.dqSusp n && s.stood (s.dq n).openSince 2500000 then
    let f := if c = 0 then F.DIO_DQ_STAT_OLOFF else F.DIO_DQ_STAT_OLON
    if s.bit a f then s else (s.raise a f).offer 0x46 0x0A .openLoad
  else s

/-! ### Field supply (R275, R276) -/

def Dev.dqAll (s : Dev) (g : Nat) (f : Dev → Nat → Dev) : Dev := s.each 8 fun s k => f s (8 * g + k)

/-- An output loses its supply. -/
def Dev.dqLose (s : Dev) (n : Nat) : Dev :=
  let s := (s.setDq n { s.dq n with pwm := none, pwmOn := false, pwmKey := 0 }).set (A.DIO_DQ_STAT n) F.DIO_DQ_STAT_RBV 0
  s.publish (rbHandle n) ⟨(s.point (rbHandle n)).val, false⟩

/-- An output of a group that becomes POWERED takes the command that stands (R276). -/
def Dev.dqPower (s : Dev) (n : Nat) : Dev :=
  let a := A.DIO_DQ_STAT n
  let s := ((s.set a F.DIO_DQ_STAT_OVT 0).set a F.DIO_DQ_STAT_OLON 0).set a F.DIO_DQ_STAT_OLOFF 0
  let s := s.dqChanged n
  s.setDq n { s.dq n with pwmKey := s.dqKey n, pwm := none, pwmOn := false, pwmFrom := s.ticks }

/-- An LPg measurement in units of 10 mV. -/
def Dev.lpMeasure (s : Dev) (g volt : Nat) : Dev :=
  let a := A.DIO_DQG_STAT g
  let was (f : Fld) : Bool := s.bit a f
  let s0 := s
  let s := s.set a F.DIO_DQG_STAT_VOLT volt
  let (s, sag) := s.supplyJudge (4 + 3 * g) (decide (volt < 1920)) (decide (1920 ≤ volt)) (was F.DIO_DQG_STAT_SAG)
  let (s, susp) := s.supplyJudge (5 + 3 * g) (decide (volt < 1500)) (decide (1500 ≤ volt)) (was F.DIO_DQG_STAT_SUSP)
  let (s, unp) := s.supplyJudge (6 + 3 * g) (decide (volt < 1100)) (decide (1800 < volt)) (was F.DIO_DQG_STAT_UNPWR)
  let s := ((s.setBit a F.DIO_DQG_STAT_SAG sag).setBit a F.DIO_DQG_STAT_SUSP susp).setBit a F.DIO_DQG_STAT_UNPWR unp
  let s := if sag && !s0.bit a F.DIO_DQG_STAT_SAG then s.offer 0x46 0x0A .supplySag else s
  let s := if susp || s0.bit a F.DIO_DQG_STAT_SUSP then
      s.dqAll g fun s n => s.setDq n { s.dq n with openSince := s.ticks + 1, mismSince := s.ticks + 1 }
    else s
  if unp && !s0.bit a F.DIO_DQG_STAT_UNPWR then s.dqAll g Dev.dqLose
  else if !unp && s0.bit a F.DIO_DQG_STAT_UNPWR then s.dqAll g Dev.dqPower
  else s

end Sys2Proof.Machine
end

