-- ==== Sys2Proof/Machine/DioCmd.lean ====
section
/-! DEFINITION. The commands of the 24 V inputs and outputs (chapter 12). -/

namespace Sys2Proof.Machine

/-- DIG_CTL_WRITE (R263). -/
def execDigCtlWrite (g : Fin 8) (v : Word) (s : State) : Out := s.go (·.digCtlWrite g.val v)
/-- DI_STATE_CHANGE (R266): the level that the last n samples have shown. Off a sampling tick, or before n samples have
been taken, the command changes nothing. -/
def execDiStateChange (n : Fin 64) (level : Bool) (s : State) : Out := s.live (·.diChange n.val level)
/-- WIRE_BREAK (R267): the current at the last n samples lay below 0.5 mA, or not. -/
def execWireBreak (n : Fin 64) (brk : Bool) (s : State) : Out := s.live (·.diBreak n.val brk)
/-- LPI_MEASUREMENT (R268), in units of 10 mV. -/
def execLpiMeasurement (volt : BitVec 16) (s : State) : Out := s.go (·.lpiMeasure volt.toNat)

/-- DQ_HCLM (R269): a refused claim is recorded (log 34). -/
def Dev.dqHclm (s : Dev) (req n : Nat) (on : Bool) : Dev :=
  let (s, ok) := s.hclm req (dqHandle n) on
  let s := s.setBit (A.DIO_DQ_CTL n) F.DIO_DQ_CTL_HCLM (s.hclmShown (dqHandle n))
  if ok then s else s.offer 0x46 0x0A .hclmRefused
def execDqHclm (req : Fin 15) (n : Fin 32) (on : Bool) (s : State) : Out := s.go (·.dqHclm req.val n.val on)
/-- DQ_VAL_WRITE: a write by the claim holder, else ignored and recorded (R18). -/
def execDqValWrite (req : Fin 15) (n : Fin 32) (v : BitVec 16) (s : State) : Out :=
  s.go fun d => (d.deliver (writerOf req.val) (dqHandle n.val) ⟨v.setWidth 32, true⟩).1

/-- PWM_PERIOD (R270). -/
def execPwmPeriod (n : Fin 32) (s : State) : Out := s.go (·.pwmStart n.val)
/-- PWM_ON_PHASE_END (R270). -/
def execPwmOnPhaseEnd (n : Fin 32) (s : State) : Out := s.go (·.pwmOff n.val)

/-- OVERHEAT (R271). -/
def execOverheat (n : Fin 32) (s : State) : Out := s.go (·.dqOverheat n.val)
/-- OVT_RETRY (R271): 100 ms after the shutdown. -/
def Dev.dqRetry (s : Dev) (n : Nat) : Dev :=
  if s.dqOvt n && !s.bit (A.DIO_DQ_CTL n) F.DIO_DQ_CTL_LATCH && decide ((s.dq n).ovtTick + 25000000 ≤ s.ticks) then
    s.ovtClear n
  else s
def execOvtRetry (n : Fin 32) (s : State) : Out := s.go (·.dqRetry n.val)
/-- DQ_RST (R271): an overheat of the same tick keeps the channel off (R279). -/
def Dev.dqRst (s : Dev) (n : Nat) : Dev :=
  if s.bit (A.DIO_DQ_CTL n) F.DIO_DQ_CTL_LATCH && s.dqOvt n && (s.dq n).ovtTick != s.ticks then
    s.ovtClear n
  else s
def execDqRst (n : Fin 32) (s : State) : Out := s.go (·.dqRst n.val)

/-- GROUP_OVERLOAD (R272). -/
def execGroupOverload (g : Fin 4) (s : State) : Out :=
  s.go fun d => (d.raise (A.DIO_DQG_STAT g.val) F.DIO_DQG_STAT_GOVL).offer 0x46 0x0A .groupOverload
/-- READBACK_MISMATCH (R273). -/
def execReadbackMismatch (n : Fin 32) (s : State) : Out := s.go (·.dqMismatch n.val)
/-- OPEN_LOAD (R274). -/
def execOpenLoad (n : Fin 32) (s : State) : Out := s.go (·.dqOpen n.val)
/-- LP_MEASUREMENT (R275), in units of 10 mV. -/
def execLpMeasurement (g : Fin 4) (volt : BitVec 16) (s : State) : Out := s.go (·.lpMeasure g.val volt.toNat)

end Sys2Proof.Machine
end

