-- ==== Sys2Proof/Machine/Flags.lean ====
section
/-! DEFINITION. The flag computations of Hiward-L: Z, N, V, C of the integer operations (R110-R114), of the float
operations (R119) and of the float compares and conversions (R120), and the conditions of compares and branches (R113,
R116). -/

namespace Sys2Proof.Machine

/-- A result with the flags it sets; `none` leaves a flag unchanged. -/
structure FlagRes where
  r : Word
  z : Bool
  n : Bool
  v : Option Bool
  c : Option Bool
  deriving DecidableEq, Repr

def isZero (w : Word) : Bool := w == 0
def isNeg (w : Word) : Bool := w.getLsbD 31

/-- Result of logic operations: Z and N only. -/
def logicRes (r : Word) : FlagRes := ⟨r, isZero r, isNeg r, none, none⟩
/-- Result with V as well. -/
def vRes (r : Word) (v : Bool) : FlagRes := ⟨r, isZero r, isNeg r, some v, none⟩

/-- A signed integer fits a word. -/
def fitsWord (i : Int) : Bool := decide (-2147483648 ≤ i) && decide (i < 2147483648)

/-- Addition with carry in: C is the carry out of bit 31 (R110). -/
def addRes (a b : Word) (cin : Bool) : FlagRes :=
  let n : Nat := if cin then 1 else 0
  let r := a + b + BitVec.ofNat 32 n
  ⟨r, isZero r, isNeg r, some (!fitsWord (a.toInt + b.toInt + n)), some (decide (2 ^ 32 ≤ a.toNat + b.toNat + n))⟩

/-- Subtraction with borrow in: C is the borrow (R110). -/
def subRes (a b : Word) (bin : Bool) : FlagRes :=
  let n : Nat := if bin then 1 else 0
  let r := a - b - BitVec.ofNat 32 n
  ⟨r, isZero r, isNeg r, some (!fitsWord (a.toInt - b.toInt - n)), some (decide (a.toNat < b.toNat + n))⟩

/-- −Wa; of 0x8000_0000 itself with V (R111). -/
def negRes (a : Word) : FlagRes := vRes (-a) (a == 0x80000000)
/-- Absolute value; of 0x8000_0000 itself with V (R111). -/
def absRes (a : Word) : FlagRes := vRes (if isNeg a then -a else a) (a == 0x80000000)

/-- Low word of the product; V when the signed product does not fit. -/
def mulRes (a b : Word) : FlagRes := vRes (a * b) (!fitsWord (a.toInt * b.toInt))
/-- High word of the signed product. -/
def mulhRes (a b : Word) : FlagRes := logicRes (BitVec.ofInt 32 (a.toInt * b.toInt / 2 ^ 32))
/-- High word of the unsigned product. -/
def mulhuRes (a b : Word) : FlagRes := logicRes (BitVec.ofNat 32 (a.toNat * b.toNat / 2 ^ 32))

/-- Signed quotient toward zero; by 0 it is 0 with V; of 0x8000_0000 by −1 itself with V (R112). -/
def divRes (a b : Word) : FlagRes :=
  if b = 0 then vRes 0 true
  else
    let q := a.toInt.tdiv b.toInt
    vRes (BitVec.ofInt 32 q) (!fitsWord q)
def divuRes (a b : Word) : FlagRes :=
  if b = 0 then vRes 0 true else vRes (BitVec.ofNat 32 (a.toNat / b.toNat)) false
/-- Remainder with the sign of Wa; by 0 it is Wa with V. -/
def remRes (a b : Word) : FlagRes :=
  if b = 0 then vRes a true else vRes (BitVec.ofInt 32 (a.toInt.tmod b.toInt)) false
def remuRes (a b : Word) : FlagRes :=
  if b = 0 then vRes a true else vRes (BitVec.ofNat 32 (a.toNat % b.toNat)) false

def minS (a b : Word) : Word := if a.toInt ≤ b.toInt then a else b
def maxS (a b : Word) : Word := if a.toInt ≤ b.toInt then b else a
def minU (a b : Word) : Word := if a.toNat ≤ b.toNat then a else b
def maxU (a b : Word) : Word := if a.toNat ≤ b.toNat then b else a

/-- The four shifts of R114. -/
inductive ShiftOp where
  | shl | shr | sar | rol
  deriving DecidableEq, Repr

/-- A shift or rotate by a count 0-31: Z and N, and C takes the last bit shifted out; a count of 0 leaves C (R114). -/
def shiftRes (op : ShiftOp) (a : Word) (n : Nat) : FlagRes :=
  let r := match op with
    | .shl => a <<< n
    | .shr => a >>> n
    | .sar => a.sshiftRight n
    | .rol => a.rotateLeft n
  let out : Bool := match op with
    | .shl => a.getLsbD (32 - n)
    | .shr => a.getLsbD (n - 1)
    | .sar => a.getLsbD (n - 1)
    | .rol => a.getLsbD (32 - n)
  ⟨r, isZero r, isNeg r, none, if n = 0 then none else some out⟩

/-! ## Compare and branch conditions -/

/-- Condition codes of ICMP (R113); codes above 9 are undefined. -/
def icmpCond (c : Nat) (a b : Word) : Option Bool :=
  match c with
  | 0 => some (a == b)
  | 1 => some (a != b)
  | 2 => some (decide (a.toInt < b.toInt))
  | 3 => some (decide (a.toInt ≤ b.toInt))
  | 4 => some (decide (b.toInt < a.toInt))
  | 5 => some (decide (b.toInt ≤ a.toInt))
  | 6 => some (decide (a.toNat < b.toNat))
  | 7 => some (decide (a.toNat ≤ b.toNat))
  | 8 => some (decide (b.toNat < a.toNat))
  | 9 => some (decide (b.toNat ≤ a.toNat))
  | _ => none

/-- Condition codes of ICMPI: code 7 is GEU (R113). -/
def icmpiCond (c : Nat) (a b : Word) : Option Bool :=
  if c = 7 then some (decide (b.toNat ≤ a.toNat)) else if c < 7 then icmpCond c a b else none

/-- Branch conditions on the flags and BA (R116); code 0xF is undefined. -/
def brCond (c : Nat) (z n v cf ba : Bool) : Option Bool :=
  match c with
  | 0x0 => some true
  | 0x1 => some z
  | 0x2 => some (!z)
  | 0x3 => some (n != v)
  | 0x4 => some (n == v)
  | 0x5 => some (!z && n == v)
  | 0x6 => some (z || n != v)
  | 0x7 => some cf
  | 0x8 => some (!cf)
  | 0x9 => some v
  | 0xA => some (!v)
  | 0xB => some n
  | 0xC => some (!n)
  | 0xD => some ba
  | 0xE => some (!ba)
  | _ => none

/-- Float compare conditions FEQ, FNE, FLT, FLE, FGT, FGE, FUN (R120). -/
def fcmpCond (c : Nat) (o : Option Ordering) : Option Bool :=
  match c with
  | 0 => some (o == some .eq)
  | 1 => some (o != some .eq)
  | 2 => some (o == some .lt)
  | 3 => some (o == some .lt || o == some .eq)
  | 4 => some (o == some .gt)
  | 5 => some (o == some .gt || o == some .eq)
  | 6 => some (o == none)
  | _ => none

/-! ## Flags of float results (R119) -/

/-- Z: +0 or −0. -/
def fIsZero : Fl → Bool
  | .num _ m _ => m == 0
  | _ => false
/-- N: sign bit of a result that is not NaN. -/
def fIsNeg : Fl → Bool
  | .num n _ _ => n
  | .inf n => n
  | .nan => false
/-- V: NaN or infinite. -/
def fIsOver : Fl → Bool
  | .num _ _ _ => false
  | _ => true

/-- A number converted to a word: saturating, NaN to 0, each with V (R120). -/
def toWordSat (nearest : Bool) (x : Fl) : Word × Bool :=
  match x with
  | .nan => (0, true)
  | .inf neg => (if neg then 0x80000000 else 0x7FFFFFFF, true)
  | .num _ _ _ =>
    match x.toInt nearest with
    | some i =>
      if fitsWord i then (BitVec.ofInt 32 i, false)
      else (if i < 0 then 0x80000000 else 0x7FFFFFFF, true)
    | none => (0, true)

end Sys2Proof.Machine
end

