-- ==== Sys2Proof/Machine/Operands.lean ====
section
/-! DEFINITION. The operand forms of Hiward-L (R101-R105): direct, indirect and indexed operands in the spaces I, Q, M,
L, T, C and K, with the fault each raises, and reading and writing the word they name. -/

namespace Sys2Proof.Machine

/-- An instruction fault: CODE of R134 and PE_FAULT_INFO. -/
structure HlFault where
  code : Nat
  info : Nat
  deriving DecidableEq, Repr

def fIllegal : HlFault := ⟨1, 0⟩
def fPriv : HlFault := ⟨2, 0⟩
/-- Info of a memory fault: SP code in [31:29], word or bit address in [28:0]. -/
def memInfo (sp a : Nat) : Nat := sp % 8 * 2 ^ 29 + a % 2 ^ 29

/-- A word that an operand names. -/
inductive Loc where
  | i (w : Nat)
  | q (w : Nat)
  | m (w addr : Nat)
  | l (w : Nat)
  | t (n sub : Nat)
  | c (n sub : Nat)
  | k (addr : Nat)
  deriving DecidableEq, Repr

/-! ## Layout of the active half (R138) -/

def Dev.actBase (s : Dev) (e : Nat) : Nat := bankBase (s.get (A.PE_CODE e) F.PE_CODE_ACT)
/-- Word `i` of the layout descriptor header of the active half. -/
def Dev.layWord (s : Dev) (e i : Nat) : Nat := (s.word (s.actBase e + 4 * i)).toNat

/-! ## Regions and partition -/

/-- A task's I region mask names a region that holds the line (R76). -/
def Dev.hasILine (s : Dev) (e t line : Nat) : Bool :=
  let m := s.get (A.PE_TASK_MASK e t) F.PE_TASK_MASK_IMASK
  (upto 16).any (fun k => m.testBit k && inRegion (s.reg (A.PE_IREG e k)) line)

def Dev.hasQLine (s : Dev) (e t line : Nat) : Bool :=
  let m := s.get (A.PE_TASK_MASK e t) F.PE_TASK_MASK_QMASK
  (upto 16).any (fun k => m.testBit k && inRegion (s.reg (A.PE_QREG e k)) line)

/-- The engine's enabled windows in ascending order (R101). -/
def Dev.partition (s : Dev) (e : Nat) : List Nat :=
  (upto 8).filter (fun k => (s.mBank k).isSome && s.get (A.SYS_MMAP k) F.SYS_MMAP_ENG == e)

/-- Number of words of the engine's partition. -/
def Dev.partWords (s : Dev) (e : Nat) : Nat := (s.partition e).length * 131072

/-- The device M word behind partition word `m`. -/
def Dev.partWord (s : Dev) (e m : Nat) : Option Nat :=
  ((s.partition e)[m / 131072]?).map (fun k => k * 131072 + m % 131072)

/-! ## Resolving an operand (R102) -/

/-- Word `w` of space `sp`; `a` is the word or bit address that a fault reports. -/
def Dev.resolve (s : Dev) (e t : Nat) (sp w a : Nat) : Except HlFault Loc :=
  match sp with
  | 0 => if w < 16384 && s.hasILine e t (w / 4) then .ok (.i w) else .error ⟨3, memInfo 0 a⟩
  | 1 => if w < 16384 && s.hasQLine e t (w / 4) then .ok (.q w) else .error ⟨3, memInfo 1 a⟩
  | 2 =>
    match s.partWord e w with
    | some i =>
      match s.mBank (i / 131072) with
      | some b => if s.ownsLive (e + 1) b then .ok (.m i (bankBase b + i % 131072 * 4)) else .error ⟨4, memInfo 2 a⟩
      | none => .error ⟨4, memInfo 2 a⟩
    | none => .error ⟨4, memInfo 2 a⟩
  | 3 => if w < 4096 then .ok (.l w) else .error ⟨7, memInfo 3 a⟩
  | 4 =>
    if w / 4 < s.get (A.PE_TCRES e) F.PE_TCRES_TCNT * 64 then
      .ok (.t (s.get (A.PE_TCRES e) F.PE_TCRES_TBASE * 64 + w / 4) (w % 4))
    else .error ⟨11, memInfo 4 a⟩
  | 5 =>
    if w / 4 < s.get (A.PE_TCRES e) F.PE_TCRES_CCNT * 64 then
      .ok (.c (s.get (A.PE_TCRES e) F.PE_TCRES_CBASE * 64 + w / 4) (w % 4))
    else .error ⟨11, memInfo 5 a⟩
  | 6 =>
    if w < s.layWord e 5 then .ok (.k (s.actBase e + (s.layWord e 4 + w) * 4)) else .error ⟨7, memInfo 6 a⟩
  | _ => .error fIllegal

/-- The space has words that a store may reach in this place (R101, R121). -/
def Loc.writable : Loc → Bool
  | .i _ => false
  | .q _ => true
  | .m _ _ => true
  | .l _ => true
  | .t _ sub => sub == 0
  | .c _ sub => sub == 0 || sub == 1
  | .k _ => false

/-! ## Timers and counters as words (R121) -/

def Timer.zero : Timer := ⟨0, 0, false, false, 0, false, 0⟩
def Counter.zero : Counter := ⟨0, 0, false, false⟩
def Dev.timer (s : Dev) (n : Nat) : Timer := tabGet Timer.zero s.timers n
def Dev.setTimer (s : Dev) (n : Nat) (x : Timer) : Dev := { s with timers := tabPut Timer.zero s.timers n x }
def Dev.counter (s : Dev) (n : Nat) : Counter := tabGet Counter.zero s.counters n
def Dev.setCounter (s : Dev) (n : Nat) (x : Counter) : Dev := { s with counters := tabPut Counter.zero s.counters n x }

/-- Q of a timer whose ET stands at PT (R122, R123). -/
def Timer.expired (x : Timer) : Timer :=
  if x.pt.toNat ≤ x.et.toNat then
    match x.kind with
    | 1 => { x with q := x.inp }
    | 2 => if x.inp then x else { x with q := false, running := false }
    | 3 => { x with q := false, running := false }
    | _ => x
  else x

def b2n (b : Bool) (k : Nat) : Nat := if b then 2 ^ k else 0

/-- QU and QD (R124). -/
def Counter.qu (x : Counter) : Bool := decide (x.pv.toInt ≤ x.cv.toInt)
def Counter.qd (x : Counter) : Bool := decide (x.cv.toInt ≤ 0)

def Timer.word (x : Timer) : Nat → Word
  | 0 => x.pt
  | 1 => x.et
  | 2 => BitVec.ofNat 32 (b2n x.inp 0 + b2n x.q 1 + x.kind * 16)
  | _ => 0

def Counter.word (x : Counter) : Nat → Word
  | 0 => x.pv
  | 1 => x.cv
  | 2 => BitVec.ofNat 32 (b2n x.qu 0 + b2n x.qd 1 + b2n x.cu 2 + b2n x.cd 3)
  | _ => 0

/-! ## Reading and writing (R101, R104, R105) -/

/-- Read the word of a location, with the forces over an M word; none where the line answers with an error. -/
def Dev.locRead (s : Dev) (k : Task) (x : Loc) : Dev × Option Word :=
  match x with
  | .i w => (s, some (tabGet Pt.none k.snap w).val)
  | .q w => (s, some (tabGet 0 k.work w))
  | .m w a =>
    match s.checkLine (lineOf a) with
    | (s', true) => (s', some (forced (((actingForces s.start.forces).filter (fun f => hclass f.key == 0x08 && hindex f.key == w)).map
        (fun f => (f.mask, f.value, f.valid))) 0xFFFFFFFF true ⟨BitVec.ofNat 32 (s.dataAt a 4), true⟩).val)
    | (s', false) => (s', none)
  | .l w => (s, some (tabGet 0 k.lmem w))
  | .t n sub => (s, some ((s.timer n).word sub))
  | .c n sub => (s, some ((s.counter n).word sub))
  | .k a =>
    match s.checkLine (lineOf a) with
    | (s', true) => (s', some (BitVec.ofNat 32 (s.dataAt a 4)))
    | (s', false) => (s', none)

/-- The word beneath any force, for a store of one bit. -/
def Dev.locBeneath (s : Dev) (k : Task) (x : Loc) : Word :=
  match x with
  | .m _ a => s.word a
  | x => ((s.locRead k x).2).getD 0

/-- Write the word of a writable location; false where a partial write is refused (R59). -/
def Dev.locWrite (s : Dev) (k : Task) (x : Loc) (v : Word) : Dev × Task × Bool :=
  match x with
  | .q w => (s, { k with work := tabPut 0 k.work w v }, true)
  | .m w _ =>
    match s.mStore w v with
    | (s', .taken) => (s', k, true)
    | (s', _) => (s', k, false)
  | .l w => (s, { k with lmem := tabPut 0 k.lmem w v }, true)
  | .t n _ => (s.setTimer n { s.timer n with pt := v }, k, true)
  | .c n sub =>
    let x := s.counter n
    (s.setCounter n (if sub = 0 then { x with pv := v } else { x with cv := v }), k, true)
  | .i _ => (s, k, true)
  | .k _ => (s, k, true)

/-- The bank of a location is being wiped: the access waits (R63). -/
def Dev.locWaits (s : Dev) (x : Loc) : Bool :=
  match x with
  | .m _ a => s.wiping (bankOfAddr a)
  | .k a => s.wiping (bankOfAddr a)
  | _ => false

/-- Surcharge of a space (R103). -/
def spaceCost (sp : Nat) : Nat := if sp = 2 then 2 else 0

/-- Word address of an L operand is relative to FP (R102); other spaces take the address as it is. -/
def fpRel (k : Task) (sp w : Nat) : Nat := if sp = 3 then (w + k.fp) % 2 ^ 32 else w

/-- A bit operand resolved: location, bit number, cost, the space and address that a fault names. -/
structure BitRef where
  loc : Loc
  bit : Nat
  cost : Nat
  sp : Nat
  addr : Nat
  deriving DecidableEq, Repr

/-- Resolve a bit operand (R106 BM formats). -/
def Dev.bitRef (s : Dev) (e t : Nat) (k : Task) (op : BmOp) : Except HlFault BitRef :=
  match op with
  | .direct sp a =>
    match s.resolve e t sp.val (fpRel k sp.val (a.toNat / 32)) a.toNat with
    | .ok l => .ok ⟨l, a.toNat % 32, spaceCost sp.val, sp.val, a.toNat⟩
    | .error f => .error f
  | .indirect sp wn =>
    let a := (tabGet 0 k.w wn.val).toNat
    match s.resolve e t sp.val (fpRel k sp.val (a / 32)) a with
    | .ok l => .ok ⟨l, a % 32, spaceCost sp.val + 1, sp.val, a⟩
    | .error f => .error f

/-- Word address of a word operand. -/
def wordAddr (k : Task) : MwOp → Nat
  | .direct sp a => fpRel k sp.val a.toNat
  | .indexed sp wb ofs => fpRel k sp.val ((tabGet 0 k.w wb.val) + ofs.signExtend 32).toNat

def mwSpace : MwOp → Nat
  | .direct sp _ => sp.val
  | .indexed sp _ _ => sp.val

/-- Cost of a word operand beside its instruction's own (R103). -/
def mwCost : MwOp → Nat
  | .direct sp _ => spaceCost sp.val
  | .indexed sp _ _ => spaceCost sp.val + 1

end Sys2Proof.Machine
end

