-- ==== Sys2Proof/Machine/HlCore.lean ====
section
/-! DEFINITION. The program engines' cycle (R81-R93, R134-R136): modes, the start and latch of a task, the forces phase
and output transfer, instruction faults, and the runner that executes one instruction of the executing task. -/

namespace Sys2Proof.Machine

/-! ## Q regions and stop values (R89, R135, R138) -/

/-- Q regions that a task names and that are enabled. -/
def Dev.taskQRegions (s : Dev) (e t : Nat) : List Nat :=
  let m := s.get (A.PE_TASK_MASK e t) F.PE_TASK_MASK_QMASK
  (upto 16).filter (fun k => m.testBit k && s.bit (A.PE_QREG e k) F.PE_QREG_EN)

/-- Lines of region register word `w`. -/
def regionLines (w : Word) : List Nat :=
  match regionOf w with
  | some (b, n) => (upto n).map (fun i => b + i)
  | none => []

/-- Position of a line among the engine's Q lines in ascending order. -/
def Dev.qLineRank (s : Dev) (e line : Nat) : Nat :=
  (upto 16).foldl (fun a k =>
    match regionOf (s.reg (A.PE_QREG e k)) with
    | some (b, n) => a + (min line (b + n) - min line b)
    | none => a) 0

/-- Stop value of Q word `w` in the active half; 0 beyond the stop section. -/
def Dev.stopValue (s : Dev) (e w : Nat) : Word :=
  let i := s.qLineRank e (w / 4) * 4 + w % 4
  if i < s.layWord e 7 then s.word (s.actBase e + (s.layWord e 6 + i) * 4) else 0

/-- A Q region takes its stop values; VALID stays (R84). -/
def Dev.regionStop (s : Dev) (e k : Nat) : Dev :=
  (regionLines (s.reg (A.PE_QREG e k))).foldl (fun s line =>
    s.each 4 fun s j =>
      let w := line * 4 + j
      s.putQ e w (actingForces s.forces) ⟨s.stopValue e w, (s.point (mkHandle 0x04 w)).valid⟩ true) s

/-- A Q region takes its stop behaviour: its values (STOPV 0) or its stop values (R89). -/
def Dev.regionStopBehaviour (s : Dev) (e k : Nat) : Dev :=
  if s.bit (A.PE_QREG e k) F.PE_QREG_STOPV then s.regionStop e k else s

/-- Output-map destinations that lie in some of an engine's Q regions. -/
def Dev.inRegions (s : Dev) (e : Nat) (ks : List Nat) (h : Word) : Bool :=
  s.policy.outMap.any (fun p => p.handle == h && ks.any (fun k => inRegion (s.reg (A.PE_QREG e k)) (p.word / 4)))

/-! ## Modes (R87-R90) -/

/-- Tasks in a cycle. -/
def Dev.inCycle (s : Dev) (e : Nat) : Bool := (upto 16).any (fun t => (s.task e t).phase != .none)

/-- A pending veneer switch is withdrawn with cause 0x9 (R141). -/
def Dev.vnrWithdraw (s : Dev) (e : Nat) : Dev :=
  match (s.eng e).vnr with
  | some v =>
    if v.endTick.isSome then s
    else
      let s := s.setEng e { s.eng e with vnr := none }
      (s.set (A.PE_VNR_STAT e) F.PE_VNR_STAT_PEND 0).set (A.PE_VNR_STAT e) F.PE_VNR_STAT_CAUSE 9
  | none => s

/-- A task's cycle is over without transfer. -/
def Dev.dropCycle (s : Dev) (e t : Nat) : Dev :=
  s.setTask e t { s.task e t with phase := .none, calls := [], passBrk := false }

/-- Entry to STOP: cycles abandoned, events dropped, each Q region its stop behaviour, outputs their stop states. -/
def Dev.enterStop (s : Dev) (e cause : Nat) : Dev :=
  let s := s.vnrWithdraw e
  let s := s.each 16 fun s t =>
    let s := s.dropCycle e t
    let s := s.set (A.PE_TASK_STAT e t) F.PE_TASK_STAT_PEND 0
    if s.taskState e t = tsFaulted then s else s.setTaskState e t tsIdle
  let s := s.each 16 fun s k => s.regionStopBehaviour e k
  let s := s.stopOutputs (.engine e) (fun _ => true)
  let s := s.setEng e { s.eng e with cur := none, byPolicy := false, step := 0 }
  let a := A.PE_STAT e
  let s := ((s.set a F.PE_STAT_MODE 0).set a F.PE_STAT_CAUSE cause).set a F.PE_STAT_PEND 0
  s.offer (peSrc e) 0x04 .engineStopped

/-- Task `t` became due on the very tick on which a breakpoint halts task `u` of lower priority: the start counts as one in
HOLD (R93). -/
def Dev.heldStart (s : Dev) (e u t : Nat) : Bool :=
  let c := s.reg (A.PE_TASK_CTL e t)
  s.taskOn e t && s.taskState e t == tsDue && F.PE_TASK_CTL_KIND.of c == 0 && s.time.fired.contains (F.PE_TASK_CTL_EIDX.of c) &&
    decide (s.taskPrio e t < s.taskPrio e u)

/-- Entry to HOLD, naming the halted task. -/
def Dev.enterHold (s : Dev) (e cause : Nat) : Dev :=
  let s := s.vnrWithdraw e
  let s := s.setEng e { s.eng e with step := 0 }
  let a := A.PE_STAT e
  let s := ((s.set a F.PE_STAT_MODE 2).set a F.PE_STAT_CAUSE cause).set a F.PE_STAT_PEND 0
  let s := match (s.eng e).cur with
    | some u =>
      let s := if cause = 4 then
          s.each 16 fun s t =>
            if s.heldStart e u t then (s.count (A.PE_TASK_HSKIP e t) F.PE_TASK_HSKIP_COUNT 1).setTaskState e t tsIdle else s
        else s
      (s.set a F.PE_STAT_TASK u).setTaskState e u tsHalted
    | none => s
  s.each 16 fun s t =>
    if s.taskOn e t && s.bit (A.PE_TASK_CTL e t) F.PE_TASK_CTL_HOLDOUT then
      let ks := s.taskQRegions e t
      let s := ks.foldl (fun s k => s.regionStopBehaviour e k) s
      s.stopOutputs (.engine e) (fun h => s.inRegions e ks h)
    else s

/-- Life-cycle state (R443): 0 BLANK, 1 PROVISIONED, 2 OPERATIONAL, 3 SERVICE, 4 RETIRED. -/
def Dev.lcs (s : Dev) : Nat := s.get A.SEC_LCS_STAT F.SEC_LCS_STAT_STATE

/-- Entry to RUN from STOP or HOLD: FAULTED tasks return to IDLE after STOP; a held task goes on. -/
def Dev.enterRun (s : Dev) (e : Nat) : Dev :=
  let fromStop := s.peMode e == 0
  let s := s.set (A.PE_STAT e) F.PE_STAT_MODE 1
  let s := s.set (A.PE_STAT e) F.PE_STAT_PEND 0
  let s := s.setEng e { s.eng e with step := 0 }
  s.each 16 fun s t =>
    if fromStop && s.taskState e t == tsFaulted then s.setTaskState e t tsIdle
    else if s.taskState e t = tsHalted then s.setTaskState e t tsRunning
    else if s.taskState e t = tsIdle && s.get (A.PE_TASK_STAT e t) F.PE_TASK_STAT_PEND != 0 && s.taskOn e t then
      s.setTaskState e t tsDue
    else s

/-- RUN request (R87, R74); in BLANK and RETIRED no engine enters RUN (R92). -/
def Dev.reqRun (s : Dev) (e : Nat) : Dev :=
  if s.peMode e = 1 then s
  else if s.lcs = 0 || s.lcs = 4 then s
  else if s.bit (A.PE_CODE e) F.PE_CODE_AVAL && s.ownsLive (e + 1) (s.get (A.PE_CODE e) F.PE_CODE_ACT) then s.enterRun e
  else (s.raise (A.PE_STAT e) F.PE_STAT_RUNREF).offer (peSrc e) 0x04 .runRefused

/-- STOP request: pending in RUN until the cycles under way are over, at once from HOLD. -/
def Dev.reqStop (s : Dev) (e : Nat) (policy : Bool) : Dev :=
  if s.peMode e = 1 then
    (s.set (A.PE_STAT e) F.PE_STAT_PEND 2).setEng e { s.eng e with byPolicy := policy }
  else if s.peMode e = 2 then s.enterStop e (if policy then 2 else 1)
  else s

/-- HOLD request: refused in OPERATIONAL, else at the boundary of the instructions, which is now (R87, R92). -/
def Dev.reqHold (s : Dev) (e : Nat) (policy : Bool) : Dev :=
  if s.lcs = 2 then s.raise (A.PE_STAT e) F.PE_STAT_CFGERR
  else if s.peMode e = 1 then s.enterHold e (if policy then 2 else 1)
  else s

/-- ENGINE_STOP: a STOP request takes effect when no task is in a cycle. -/
def Dev.engineStop (s : Dev) (e : Nat) : Dev :=
  if s.peMode e = 1 && s.get (A.PE_STAT e) F.PE_STAT_PEND = 2 && !s.inCycle e then
    s.enterStop e (if (s.eng e).byPolicy then 2 else 1)
  else s

/-! ## The phases of a cycle (R83) -/

/-- Words of the lines that a mask's regions hold, for the I or Q registers. -/
def Dev.regionWords (s : Dev) (regs : List Nat) : List Nat :=
  regs.flatMap (fun a => (regionLines (s.reg a)).flatMap (fun l => (upto 4).map (fun j => l * 4 + j)))

def Dev.taskIRegs (s : Dev) (e t : Nat) : List Nat :=
  let m := s.get (A.PE_TASK_MASK e t) F.PE_TASK_MASK_IMASK
  ((upto 16).filter (fun k => m.testBit k && s.bit (A.PE_IREG e k) F.PE_IREG_EN)).map (A.PE_IREG e)

def Dev.taskQRegs (s : Dev) (e t : Nat) : List Nat := (s.taskQRegions e t).map (A.PE_QREG e)

/-- Acting forces, as they stood at the start of the tick, on a word set of a class pair (R148). -/
def Dev.forcesOn (s : Dev) (bitC wordC : Nat) (ws : List Nat) : List Force :=
  (actingForces s.start.forces).filter (fun f =>
    (hclass f.key == bitC || hclass f.key == wordC) && ws.contains (imagePlace f.key f.mask).1)

/-- ENTRY of a task in the active half (R139). -/
def Dev.taskEntry (s : Dev) (e t : Nat) : Nat := (s.word (s.actBase e + (s.layWord e 10 + 2 * t) * 4)).toNat

/-- Ticks that a number of 1 ns cycles takes. -/
def cycleTicks (c : Nat) : Nat := (c + 3) / 4

/-- The input latch of task `t` (R83, R99, R105) and the start of its cycle. -/
def Dev.startCycle (s : Dev) (e t : Nat) : Dev :=
  let iw := s.regionWords (s.taskIRegs e t)
  let qw := s.regionWords (s.taskQRegs e t)
  let k := s.task e t
  let snap := iw.foldl (fun m w => tabPut Pt.none m w (s.hread (mkHandle 0x02 w))) []
  let work := if k.fresh then qw.foldl (fun m w => tabPut 0 m w (s.point0 (mkHandle 0x04 w)).val) [] else k.kept
  let cost := 16 + iw.length / 4 + 2 * (s.forcesOn 0x01 0x02 iw).length
  let k := { k with
    phase := .latch, readyAt := s.ticks + cost / 4, idx := s.taskEntry e t, fp := 0, calls := [],
    ba := false, bits := [], z := false, n := false, v := false, c := false,
    snap := snap, stamp := s.actTs, work := work, kept := work, fresh := false, ns := cost, passBrk := false }
  let s := (s.setTask e t k).setTaskState e t tsRunning
  s.setEng e { s.eng e with cur := some t, gated := false }

/-- The task that a start would take: the due task of the highest priority. -/
def Dev.dueTask (s : Dev) (e : Nat) : Option Nat :=
  (upto 16).foldl (fun b t =>
    if s.taskOn e t && s.taskState e t == tsDue then
      match b with
      | some u => if s.taskPrio e t < s.taskPrio e u then some t else some u
      | none => some t
    else b) none

/-- The preempted task of the highest priority. -/
def Dev.preemptedTask (s : Dev) (e : Nat) : Option Nat :=
  (upto 16).foldl (fun b t =>
    if s.taskState e t == tsPreempted then
      match b with
      | some u => if s.taskPrio e t < s.taskPrio e u then some t else some u
      | none => some t
    else b) none

/-- No task starts: not in RUN, a STOP is pending, a switch runs or drains (R87, R141, R142). -/
def Dev.noStarts (s : Dev) (e : Nat) : Bool :=
  s.peMode e != 1 || s.get (A.PE_STAT e) F.PE_STAT_PEND == 2 ||
    match (s.eng e).vnr with
    | some v => v.drain || v.endTick.isSome
    | none => false

/-- A pending event is consumed by the start of an event-driven task (R80). -/
def Dev.consumeEvent (s : Dev) (e t : Nat) : Dev :=
  if s.bit (A.PE_TASK_CTL e t) F.PE_TASK_CTL_KIND then
    s.set (A.PE_TASK_STAT e t) F.PE_TASK_STAT_PEND (s.get (A.PE_TASK_STAT e t) F.PE_TASK_STAT_PEND - 1)
  else s

/-- Task `u` is preempted; a forces phase keeps what is left of it. -/
def Dev.preempt (s : Dev) (e u : Nat) : Dev :=
  (s.setTask e u { s.task e u with left := (s.task e u).readyAt - s.ticks }).setTaskState e u tsPreempted

/-- A preempted task goes on where it stopped. -/
def Dev.goOn (s : Dev) (e u : Nat) : Dev :=
  let k := s.task e u
  let s := if k.phase = .forces then s.setTask e u { k with readyAt := s.ticks + k.left } else s
  (s.setTaskState e u tsRunning).setEng e { s.eng e with cur := some u }

/-- TASK_START (R81): the due task of the highest priority starts; it preempts a task of lower priority that executes or
applies its forces, and waits for a latch or transfer under way. -/
def Dev.taskStart (s : Dev) (e : Nat) : Dev :=
  match s.dueTask e with
  | none => s
  | some t =>
    if s.noStarts e then s
    else
      let higher (u : Nat) : Bool := decide (s.taskPrio e t < s.taskPrio e u)
      match (s.eng e).cur with
      | some u =>
        if ((s.task e u).phase == .execute || (s.task e u).phase == .forces) && higher u then
          ((s.preempt e u).consumeEvent e t).startCycle e t
        else s
      | none =>
        match s.preemptedTask e with
        | some u => if higher u then (s.consumeEvent e t).startCycle e t else s
        | none => (s.consumeEvent e t).startCycle e t

/-- TASK_RESUME (R81). -/
def Dev.taskResume (s : Dev) (e : Nat) : Dev :=
  match (s.eng e).cur, s.preemptedTask e with
  | none, some u =>
    let waits := match s.dueTask e with
      | some t => !s.noStarts e && decide (s.taskPrio e t < s.taskPrio e u)
      | none => false
    if s.peMode e = 1 && !waits then s.goOn e u else s
  | _, _ => s

/-- The forces phase on the working copy of a task (R83, R147). -/
def Dev.forceWork (s : Dev) (ws : List Nat) (work : Tab Word) : Tab Word :=
  (s.forcesOn 0x03 0x04 ws).foldl (fun m f =>
    let (w, mask) := imagePlace f.key f.mask
    let v := if hclass f.key = 0x03 then (if f.value.getLsbD 0 then mask else 0) else f.value
    tabPut 0 m w (overlay mask v (tabGet 0 m w))) work

/-- The output transfer of task `t` begins on a tick, `part` cycles into it. -/
def Dev.startTransfer (s : Dev) (e t : Nat) (k : Task) (tick part : Nat) : Task :=
  let cost := 16 + (s.regionWords (s.taskQRegs e t)).length / 4
  { k with phase := .transfer, ns := k.ns + cost, readyAt := tick + cycleTicks (part + cost) }

/-- The end of the execute phase (R83, R109) with END's own cycle: the forces phase, 2 cycles an acting entry, then the
output transfer. The cycle has begun on a tick, so `ns` tells where in the tick END begins (log 53). -/
def Dev.endExecute (s : Dev) (e t : Nat) (k : Task) : Task :=
  let ws := s.regionWords (s.taskQRegs e t)
  let cost := 2 * (s.forcesOn 0x03 0x04 ws).length
  let k := { k with calls := [], work := s.forceWork ws k.work, acted := s.forcesOn 0x03 0x04 ws }
  let part := k.ns % 4 + 1
  if cost = 0 then s.startTransfer e t k s.ticks part
  else { k with phase := .forces, fcost := part + cost, ns := k.ns + cost, readyAt := s.ticks + (part + cost) / 4 }

/-- The output transfer is over (R84): all Q lines become visible together, the execution time is recorded. -/
def Dev.transferEnd (s : Dev) (e t : Nat) : Dev :=
  let k := s.task e t
  let s := (s.regionWords (s.taskQRegs e t)).foldl (fun s w => s.putQ e w k.acted ⟨tabGet 0 k.work w, true⟩ false) s
  let ns := min k.ns 0xFFFFFFFF
  let s := s.set (A.PE_TASK_EXEC e t) F.PE_TASK_EXEC_NS ns
  let s := if s.get (A.PE_TASK_EXMAX e t) F.PE_TASK_EXMAX_NS < ns then s.set (A.PE_TASK_EXMAX e t) F.PE_TASK_EXMAX_NS ns else s
  let s := s.setTask e t { k with phase := .none, kept := k.work }
  let pend := s.get (A.PE_TASK_STAT e t) F.PE_TASK_STAT_PEND
  let s := s.setTaskState e t (if pend = 0 then tsIdle else tsDue)
  s.setEng e { s.eng e with cur := none, gated := (s.dueTask e).isNone && (s.preemptedTask e).isNone }

/-- The phases that end on this tick: a latch ends in the execute phase, a forces phase in the transfer, a transfer becomes
visible. In HOLD a transfer is withheld (R90). -/
def Dev.phaseTick (s : Dev) : Dev :=
  s.each 8 fun s e =>
    match (s.eng e).cur with
    | some t =>
      let k := s.task e t
      if k.readyAt ≤ s.ticks then
        match k.phase with
        | .latch => s.setTask e t { k with phase := .execute }
        | .forces => s.setTask e t (s.startTransfer e t k k.readyAt (k.fcost % 4))
        | .transfer => if s.peMode e = 1 then s.transferEnd e t else s
        | _ => s
      else s
    | none => s

/-! ## Faults (R134, R135) -/

/-- The record of an instruction fault of task `t`: PE_STAT.TASK, PE_FAULT and its info for the first, the count, and a
Scribe record (R135). -/
def Dev.faultNote (s : Dev) (e t : Nat) (f : HlFault) (idx : Nat) : Dev :=
  let s := s.set (A.PE_STAT e) F.PE_STAT_TASK t
  let a := A.PE_FAULT e
  let s := if s.get a F.PE_FAULT_CODE = 0 then
      let s := ((s.set a F.PE_FAULT_CODE f.code).set a F.PE_FAULT_TASK t).set a F.PE_FAULT_ADDR idx
      s.setReg (A.PE_FAULT_INFO e) (BitVec.ofNat 32 f.info)
    else s
  (s.count a F.PE_FAULT_CNT 1).offer (peSrc e) 0x04 .engineFault

/-- An instruction fault of task `t`: the cycle ends, the task is FAULTED, its Q regions take stop values, the fault is
recorded. -/
def Dev.taskFault (s : Dev) (e t : Nat) (f : HlFault) (idx : Nat) : Dev :=
  let s := (s.dropCycle e t).setTaskState e t tsFaulted
  let s := s.setEng e { s.eng e with cur := none }
  let ks := s.taskQRegions e t
  let s := ks.foldl (fun s k => s.regionStop e k) s
  let s := s.stopOutputs (.engine e) (fun h => s.inRegions e ks h)
  s.faultNote e t f idx

/-- The watchdog limit of a task in ns. -/
def Dev.wdtNs (s : Dev) (e t : Nat) : Nat := s.get (A.PE_TASK_WDT e t) F.PE_TASK_WDT_LIMIT * 1000

/-- The watchdog (R86): the cycle under way has used its limit. WDF is set and the engine goes to STOP at once; the
task's Q regions take their stop values whatever their STOPV. -/
def Dev.watchdog (s : Dev) (e : Nat) : Dev :=
  match (s.eng e).cur with
  | some t =>
    if s.peMode e = 1 && s.wdtNs e t ≤ (s.task e t).ns then
      let ks := s.taskQRegions e t
      let s := (s.raise (A.PE_TASK_STAT e t) F.PE_TASK_STAT_WDF).setTaskState e t tsFaulted
      let s := s.enterStop e 3
      let s := ks.foldl (fun s k => s.regionStop e k) s
      s.set (A.PE_STAT e) F.PE_STAT_TASK t
    else s
  | none => s
/-! ## The runner -/

/-- What an instruction does: goes on with a new task bank at a cost in cycles, faults, or waits for a bank. -/
inductive HlRes where
  | ok (s : Dev) (k : Task) (cost : Nat)
  | fault (s : Dev) (f : HlFault)
  | stall

/-- An instruction: acts for engine `e`, task `t` on the device and the task's bank (its index already moved on). -/
abbrev HlStep := Dev → Nat → Nat → Task → HlRes

/-- An enabled breakpoint stands at an instruction index (R91). -/
def Dev.breakAt (s : Dev) (e idx : Nat) : Bool :=
  (upto 8).any (fun k => s.bit (A.PE_BRK e k) F.PE_BRK_EN && s.get (A.PE_BRK e k) F.PE_BRK_ADDR == idx)

/-- Line of the bank pool that holds instruction `idx` of the active half. -/
def Dev.fetchLine (s : Dev) (e idx : Nat) : Nat := lineOf (s.actBase e + 4 * idx)

/-- Put the outcome of an instruction of task `t` at index `idx` into the device. -/
def Dev.hlPut (s : Dev) (e t idx : Nat) : HlRes → Dev
  | .ok s' k cost => s'.setTask e t { k with ns := k.ns + cost }
  | .fault s' x => s'.taskFault e t x idx
  | .stall => s

/-- One instruction of task `t` in its engine: its fetch may meet poison (R134), then it acts on the task's bank. -/
def Dev.hlTry (s : Dev) (e t : Nat) (f : HlStep) : HlRes :=
  let k := s.task e t
  match s.checkLine (s.fetchLine e k.idx) with
  | (s', false) => .fault s' ⟨13, 0⟩
  | (s', true) => f s' e t { k with idx := k.idx + 1, passBrk := false }

/-- Execute one instruction of task `t`. -/
def Dev.hlApply (s : Dev) (e t : Nat) (f : HlStep) : Dev := s.hlPut e t (s.task e t).idx (s.hlTry e t f)

/-- The engine can execute an instruction of its task `t`, in the execute phase: in RUN with the watchdog not expired, in
HOLD when it is stepped (R91); the watchdog is paused there (R90). -/
def Dev.hlReady (s : Dev) (e t : Nat) : Bool :=
  !s.halted && (s.task e t).phase == .execute &&
    ((s.peMode e == 1 && decide ((s.task e t).ns < s.wdtNs e t)) || (s.peMode e == 2 && (s.eng e).step != 0))

/-- After an instruction in HOLD: a single step is over, and stepping ends with the execute phase. -/
def Dev.stepped (s : Dev) (e t : Nat) : Dev :=
  if s.peMode e = 2 && ((s.eng e).step == 1 || (s.task e t).phase != .execute) then s.setEng e { s.eng e with step := 0 } else s

/-- The watchdog of task `t` expires on the very cycle on which its next instruction would begin (R136). -/
def Dev.wdtNow (s : Dev) (e t : Nat) : Bool :=
  !s.halted && (s.task e t).phase == .execute && s.peMode e == 1 && (s.task e t).ns == s.wdtNs e t

/-- The engine executes an instruction of its executing task; a breakpoint at it halts the engine, and stepping,
instead (R91). A fault on the cycle of the watchdog's expiry is still recorded (R136). -/
def Dev.hl (s : Dev) (e : Nat) (f : HlStep) : Dev :=
  match (s.eng e).cur with
  | some t =>
    if !s.hlReady e t then
      if s.wdtNow e t then
        match s.hlTry e t f with
        | .fault s' x => (s'.faultNote e t x (s.task e t).idx).watchdog e
        | _ => s
      else s
    else if s.breakAt e (s.task e t).idx && !(s.task e t).passBrk then
      (s.setTask e t { s.task e t with passBrk := true }).enterHold e 4
    else (s.hlApply e t f).stepped e t
  | none => s

/-! ## Pieces of instructions -/

def Task.rw (k : Task) (n : Nat) : Word := tabGet 0 k.w n
def Task.setW (k : Task) (n : Nat) (v : Word) : Task := { k with w := tabPut 0 k.w n v }
def Task.rf (k : Task) (n : Nat) : Dbl := tabGet 0 k.f n
def Task.setF (k : Task) (n : Nat) (v : Dbl) : Task := { k with f := tabPut 0 k.f n v }

/-- Write a result with the flags it sets. -/
def Task.result (k : Task) (d : Nat) (r : FlagRes) : Task :=
  { k.setW d r.r with z := r.z, n := r.n, v := r.v.getD k.v, c := r.c.getD k.c }

/-- Set only the flags of a result. -/
def Task.flags (k : Task) (r : FlagRes) : Task := { k with z := r.z, n := r.n, v := r.v.getD k.v, c := r.c.getD k.c }

/-- An operation on the task's bank alone. -/
def onBank (cost : Nat) (f : Task → Task) : HlStep := fun s _ _ k => .ok s (f k) cost

/-- Push BA on the bit stack; none when it is full (R108). -/
def Task.push (k : Task) : Option Task := if k.bits.length < 16 then some { k with bits := k.ba :: k.bits } else none

def fBstk : HlFault := ⟨8, 0⟩

/-- An operation on BA and the popped bit; an empty stack faults BSTK. -/
def popBit (f : Bool → Bool → Bool) : HlStep := fun s _ _ k =>
  match k.bits with
  | b :: bs => .ok s { k with ba := f b k.ba, bits := bs } 1
  | [] => .fault s fBstk

/-- A bit-memory operation that reads its operand: `f old BA bit` is the new BA; `push` places BA on the stack first. -/
def bitRead (op : BmOp) (push : Bool) (f : Bool → Bool → Bool) : HlStep := fun s e t k =>
  match s.bitRef e t k op with
  | .error x => .fault s x
  | .ok r =>
    if s.locWaits r.loc then .stall
    else
      match s.locRead k r.loc with
      | (s', none) => .fault s' ⟨13, memInfo r.sp r.addr⟩
      | (s', some w) =>
        if push then
          match k.push with
          | some k => .ok s' { k with ba := f k.ba (w.getLsbD r.bit) } (1 + r.cost)
          | none => .fault s' fBstk
        else .ok s' { k with ba := f k.ba (w.getLsbD r.bit) } (1 + r.cost)

/-- A word with one bit replaced. -/
def setBitOf (w : Word) (b : Nat) (v : Bool) : Word := if v then w ||| bitMask b else w &&& ~~~(bitMask b)

/-- A bit-memory operation that may write its operand: `f BA` is the bit to store, if any. The operand is checked
whatever BA holds (R108). -/
def bitWrite (op : BmOp) (f : Bool → Option Bool) : HlStep := fun s e t k =>
  match s.bitRef e t k op with
  | .error x => .fault s x
  | .ok r =>
    if !r.loc.writable then .fault s ⟨5, memInfo r.sp r.addr⟩
    else if s.locWaits r.loc then .stall
    else
      match f k.ba with
      | none => .ok s k (1 + r.cost)
      | some b =>
        match s.locWrite k r.loc (setBitOf (s.locBeneath k r.loc) r.bit b) with
        | (s', k', true) => .ok s' k' (1 + r.cost)
        | (s', _, false) => .fault s' ⟨13, memInfo r.sp r.addr⟩

/-- An edge operation: BA takes `f BA old`, and the operand takes the old BA (R108). -/
def bitEdge (op : BmOp) (f : Bool → Bool → Bool) : HlStep := fun s e t k =>
  match s.bitRef e t k op with
  | .error x => .fault s x
  | .ok r =>
    if !r.loc.writable then .fault s ⟨5, memInfo r.sp r.addr⟩
    else if s.locWaits r.loc then .stall
    else
      match s.locRead k r.loc with
      | (s', none) => .fault s' ⟨13, memInfo r.sp r.addr⟩
      | (s', some w) =>
        match s'.locWrite k r.loc (setBitOf (s'.locBeneath k r.loc) r.bit k.ba) with
        | (s'', k', true) => .ok s'' { k' with ba := f k.ba (w.getLsbD r.bit) } (1 + r.cost)
        | (s'', _, false) => .fault s'' ⟨13, memInfo r.sp r.addr⟩

/-- Read `n` consecutive words from an operand: their values from the lowest word up, or a fault. -/
def Dev.loadWords (s : Dev) (e t : Nat) (k : Task) (sp a : Nat) : Nat → Except (Dev × Option HlFault) (Dev × List Word)
  | 0 => .ok (s, [])
  | n + 1 =>
    match s.resolve e t sp a a with
    | .error x => .error (s, some x)
    | .ok l =>
      if s.locWaits l then .error (s, none)
      else
        match s.locRead k l with
        | (s', none) => .error (s', some ⟨13, memInfo sp a⟩)
        | (s', some w) =>
          match Dev.loadWords s' e t k sp (a + 1) n with
          | .ok (s'', ws) => .ok (s'', w :: ws)
          | .error x => .error x

/-- A load of words into the bank. -/
def load (op : MwOp) (n : Nat) (align : Bool) (f : Task → List Word → Task) : HlStep := fun s e t k =>
  if (mwSpace op) = 7 then .fault s fIllegal
  else if align && wordAddr k op % 2 = 1 then .fault s ⟨6, memInfo (mwSpace op) (wordAddr k op)⟩
  else
    match s.loadWords e t k (mwSpace op) (wordAddr k op) n with
    | .ok (s', ws) => .ok s' (f k ws) (2 + mwCost op)
    | .error (s', some x) => .fault s' x
    | .error (_, none) => .stall

/-- The locations of `n` consecutive words that a store may write, or the fault it raises. -/
def Dev.storeRefs (s : Dev) (e t : Nat) (sp a : Nat) : Nat → Except HlFault (List Loc)
  | 0 => .ok []
  | n + 1 =>
    match s.resolve e t sp a a with
    | .error x => .error x
    | .ok l =>
      if !l.writable then .error ⟨5, memInfo sp a⟩
      else
        match s.storeRefs e t sp (a + 1) n with
        | .ok ls => .ok (l :: ls)
        | .error x => .error x

/-- Store words to locations in order. -/
def Dev.storeWords (s : Dev) (k : Task) : List (Loc × Word) → Dev × Task × Bool
  | [] => (s, k, true)
  | (l, v) :: xs =>
    match s.locWrite k l v with
    | (s', k', true) => s'.storeWords k' xs
    | (s', k', false) => (s', k', false)

/-- A store of words from the bank. -/
def store (op : MwOp) (align : Bool) (vs : Task → List Word) : HlStep := fun s e t k =>
  let a := wordAddr k op
  if (mwSpace op) = 7 then .fault s fIllegal
  else if align && a % 2 = 1 then .fault s ⟨6, memInfo (mwSpace op) a⟩
  else
    match s.storeRefs e t (mwSpace op) a (vs k).length with
    | .error x => .fault s x
    | .ok ls =>
      if ls.any s.locWaits then .stall
      else
        match s.storeWords k (ls.zip (vs k)) with
        | (s', k', true) => .ok s' k' (2 + mwCost op)
        | (s', _, false) => .fault s' ⟨13, memInfo (mwSpace op) a⟩

/-- A target lies in the code section of the active half (R116). -/
def Dev.inCode (s : Dev) (e target : Nat) : Bool :=
  decide (s.layWord e 2 ≤ target) && decide (target < s.layWord e 2 + s.layWord e 3)

/-- Float result with its flags (R119): C is unchanged. -/
def Task.fresult (k : Task) (d : Nat) (v : Dbl) : Task :=
  let x := d64 v
  { k.setF d v with z := fIsZero x, n := fIsNeg x, v := fIsOver x }

/-- FMIN and FMAX: with exactly one NaN the other operand (R119). -/
def fpick (less : Bool) (a b : Dbl) : Dbl :=
  if isNan64 a && isNan64 b then e64 .nan
  else if isNan64 a then b
  else if isNan64 b then a
  else
    match (d64 a).cmp (d64 b) with
    | some .lt => if less then a else b
    | some .gt => if less then b else a
    | _ => if fIsNeg (d64 a) == less then a else b

end Sys2Proof.Machine
end

