-- ==== Sys2Proof/Machine/EngCmd.lean ====
section
/-! DEFINITION. The configuration, mode and task commands of the program engines (chapter 4). Single stepping
stands in HlPriv.lean. -/

namespace Sys2Proof.Machine

/-- A refused configuration write of an engine (R75): CFGERR and a Scribe record. -/
def Dev.engRefuse (s : Dev) (e : Nat) : Dev := (s.raise (A.PE_STAT e) F.PE_STAT_CFGERR).offer (peSrc e) 0x04 .configRefused

/-! ## PE_CODE (R74, R137) -/

/-- The part of a PE_CODE write that names the active half; it counts as written when it changes a field. -/
def Dev.codeAct (s : Dev) (e : Nat) (v : Word) : Dev :=
  let a := A.PE_CODE e
  let act := F.PE_CODE_ACT.of v
  let aval := F.PE_CODE_AVAL.of v
  if act = s.get a F.PE_CODE_ACT && aval = s.get a F.PE_CODE_AVAL then s
  else if s.peMode e = 0 then (s.set a F.PE_CODE_ACT act).set a F.PE_CODE_AVAL aval
  else s.raise (A.PE_STAT e) F.PE_STAT_CFGERR

/-- The part that names the veneer half: an accepted new VEN clears VVAL (R137). -/
def Dev.codeVen (s : Dev) (e : Nat) (v : Word) : Dev :=
  let a := A.PE_CODE e
  let ven := F.PE_CODE_VEN.of v
  let vval := F.PE_CODE_VVAL.of v
  if ven = s.get a F.PE_CODE_VEN && vval = s.get a F.PE_CODE_VVAL then s
  else if s.bit (A.PE_VNR_STAT e) F.PE_VNR_STAT_PEND then s.raise (A.PE_STAT e) F.PE_STAT_CFGERR
  else if ven = s.get a F.PE_CODE_VEN then s.set a F.PE_CODE_VVAL vval
  else if ven < 80 && s.owner ven == e + 1 && ven != s.get a F.PE_CODE_ACT then
    (s.set a F.PE_CODE_VEN ven).set a F.PE_CODE_VVAL 0
  else s.raise (A.PE_STAT e) F.PE_STAT_CFGERR

/-- CODE_WRITE (R74, R137): a write of PE_CODE. -/
def execCodeWrite (e : Fin 8) (v : Word) (s : State) : Out := s.go fun d => (d.codeAct e.val v).codeVen e.val v

/-! ## Regions (R75, R77, R84) -/

/-- The word that a region write would leave: a reserved COUNT keeps the standing one (R8), STOPV only for Q. -/
def regionWord (q : Bool) (v old : Word) : Word :=
  let n := F.PE_QREG_COUNT.of v
  let w := putBits (v &&& 0x9FFF0FFF) 28 16 (if n = 0 || 4096 < n then F.PE_QREG_COUNT.of old else n)
  if q then putBits w 15 15 (F.PE_QREG_STOPV.of v) else w

/-- Lines `a` and `b` of two enabled region words overlap. -/
def regionsMeet (a b : Word) : Bool :=
  match regionOf a, regionOf b with
  | some (x, m), some (y, n) => decide (x < y + n) && decide (y < x + m)
  | _, _ => false

/-- Output-map destinations in the lines of a region word. -/
def Dev.regionDests (s : Dev) (w : Word) : List Word :=
  (s.policy.outMap.filter (fun p => inRegion w (p.word / 4))).map (·.handle)

/-- R75, R18: the engine is in STOP, the region lies in the image, and an enabled Q region overlaps no other enabled one
and names no point that another writer has claimed. -/
def Dev.regionOk (s : Dev) (e : Nat) (q : Bool) (k : Nat) (w : Word) : Bool :=
  s.peMode e == 0 && decide (F.PE_QREG_BASE.of w + F.PE_QREG_COUNT.of w ≤ 4096) &&
    (!q || ((upto 128).all (fun j => j == e * 16 + k || !regionsMeet w (s.reg (A.PE_QREG (j / 16) (j % 16)))) &&
      (bitsOf w 31 31 == 0 || (s.regionDests w).all (fun h => !claimedClass (hclass h) || s.claimFree h (.engine e)))))

/-- The claims that follow an accepted Q region: those of its old lines given up, those of its new lines taken. -/
def Dev.regionClaims (s : Dev) (e : Nat) (old w : Word) : Dev :=
  let s := (s.regionDests old).foldl (fun s h => s.dropClaim h (.engine e)) s
  if bitsOf w 31 31 = 1 then
    (s.regionDests w).foldl (fun s h => if claimedClass (hclass h) then s.putClaim h (some (.engine e)) else s) s
  else s

/-- The places of a newly enabled Q region carry VALID clear (R84). -/
def Dev.regionFresh (s : Dev) (old w : Word) : Dev :=
  if bitsOf old 31 31 = 0 && bitsOf w 31 31 == 1 then
    (regionLines w).foldl (fun s l => s.each 4 fun s j =>
      let h := mkHandle 0x04 (l * 4 + j)
      s.putPoint h ⟨(s.point h).val, false⟩) s
  else s

/-- REGION_WRITE (R75): a write of PE_IREG or PE_QREG. -/
def Dev.regionWrite (s : Dev) (e : Nat) (q : Bool) (k : Nat) (v : Word) : Dev :=
  let a := if q then A.PE_QREG e k else A.PE_IREG e k
  let old := s.reg a
  let w := regionWord q v old
  if s.regionOk e q k w then
    let s := s.setReg a w
    if q then (s.regionClaims e old w).regionFresh old w else s
  else s.engRefuse e
def execRegionWrite (e : Fin 8) (q : Bool) (k : Fin 16) (v : Word) (s : State) : Out := s.go (·.regionWrite e.val q k.val v)

/-! ## Tasks (R76, R78, R79) -/

/-- R76: the masks name enabled regions, and no Q region that another enabled task names. -/
def Dev.masksOk (s : Dev) (e t : Nat) (v : Word) : Bool :=
  (upto 16).all (fun k => (!v.getLsbD k || s.bit (A.PE_IREG e k) F.PE_IREG_EN) &&
    (!v.getLsbD (16 + k) || s.bit (A.PE_QREG e k) F.PE_QREG_EN)) &&
  (upto 16).all (fun u => u == t || !s.taskOn e u ||
    (F.PE_TASK_MASK_QMASK.of v &&& s.get (A.PE_TASK_MASK e u) F.PE_TASK_MASK_QMASK) == 0)

/-- TASK_MASK_WRITE (R76). -/
def Dev.taskMaskWrite (s : Dev) (e t : Nat) (v : Word) : Dev :=
  if s.masksOk e t v then s.setReg (A.PE_TASK_MASK e t) v else s.engRefuse e
def execTaskMaskWrite (e : Fin 8) (t : Fin 16) (v : Word) (s : State) : Out := s.go (·.taskMaskWrite e.val t.val v)

/-- The largest EIDX of an event class; none for a reserved class. -/
def eidxMax (kind ecls : Nat) : Option Nat :=
  if kind = 0 then (if ecls = 0 then some 63 else none)
  else
    match ecls with
    | 1 => some 31
    | 2 => some 63
    | 3 => some 0xFFFF
    | 4 => some 31
    | _ => none

/-- The word that a PE_TASK_CTL write would leave: reserved encodings keep their fields (R8), PRIV once locked (R5).
DEDUCED, unsafe (log 52): which ECLS codes are reserved with KIND 0. -/
def Dev.taskWord (s : Dev) (e : Nat) (v old : Word) : Word :=
  let w := v &&& 0xFF0FFFFF
  let w := if s.bit (A.PE_CTL e) F.PE_CTL_LOCK then putBits w 24 24 (F.PE_TASK_CTL_PRIV.of old) else w
  let k := F.PE_TASK_CTL_KIND.of v
  let w := if (eidxMax k (F.PE_TASK_CTL_ECLS.of v)).isSome then w else putBits w 19 16 (F.PE_TASK_CTL_ECLS.of old)
  match eidxMax k (F.PE_TASK_CTL_ECLS.of w) with
  | none => putBits w 15 0 (F.PE_TASK_CTL_EIDX.of old)
  | some m => if F.PE_TASK_CTL_EIDX.of v ≤ m then w else putBits w 15 0 (F.PE_TASK_CTL_EIDX.of old)

/-- R78, R76: no other enabled task of the engine has the priority, and the masks stand. -/
def Dev.taskOk (s : Dev) (e t : Nat) (w : Word) : Bool :=
  F.PE_TASK_CTL_EN.of w == 0 ||
    ((upto 16).all (fun u => u == t || !s.taskOn e u || s.taskPrio e u != F.PE_TASK_CTL_PRIO.of w) &&
      s.masksOk e t (s.reg (A.PE_TASK_MASK e t)))

/-- TASK_ENABLE (R78): a write of PE_TASK_CTL. An enabled task begins with a clear bank (R99) and takes its working copy
from the Q image at its first latch (R104); a FAULTED task returns to IDLE (R135). A disabled task's events go. -/
def Dev.taskEnable (s : Dev) (e t : Nat) (v : Word) : Dev :=
  let a := A.PE_TASK_CTL e t
  let w := s.taskWord e v (s.reg a)
  let was := s.taskOn e t
  let en := F.PE_TASK_CTL_EN.of w == 1
  if !s.taskOk e t w then s.engRefuse e
  else
    let s := s.setReg a w
    if en && !was then
      let s := s.setTask e t { Task.idle with lmem := (s.task e t).lmem }
      if s.taskState e t = tsFaulted then s.setTaskState e t tsIdle else s
    else if !en && was then
      let s := s.set (A.PE_TASK_STAT e t) F.PE_TASK_STAT_PEND 0
      if s.taskState e t = tsDue then s.setTaskState e t tsIdle else s
    else s
def execTaskEnable (e : Fin 8) (t : Fin 16) (v : Word) (s : State) : Out := s.go (·.taskEnable e.val t.val v)

/-- Two runs of blocks overlap. -/
def blocksMeet (b n b' n' : Nat) : Bool := 0 < n && 0 < n' && decide (b < b' + n') && decide (b' < b + n)

/-- TCRES_WRITE (R96): reserved counts keep their fields; overlapping blocks, and blocks beyond the 64, are refused. -/
def Dev.tcresWrite (s : Dev) (e : Nat) (v : Word) : Dev :=
  let a := A.PE_TCRES e
  let tc := if 64 < F.PE_TCRES_TCNT.of v then s.get a F.PE_TCRES_TCNT else F.PE_TCRES_TCNT.of v
  let cc := if 64 < F.PE_TCRES_CCNT.of v then s.get a F.PE_TCRES_CCNT else F.PE_TCRES_CCNT.of v
  let tb := F.PE_TCRES_TBASE.of v
  let cb := F.PE_TCRES_CBASE.of v
  let ok := decide (tb + tc ≤ 64) && decide (cb + cc ≤ 64) && (upto 8).all (fun k => k == e ||
    (!blocksMeet tb tc (s.get (A.PE_TCRES k) F.PE_TCRES_TBASE) (s.get (A.PE_TCRES k) F.PE_TCRES_TCNT) &&
     !blocksMeet cb cc (s.get (A.PE_TCRES k) F.PE_TCRES_CBASE) (s.get (A.PE_TCRES k) F.PE_TCRES_CCNT)))
  if ok then
    (((s.set a F.PE_TCRES_TBASE tb).set a F.PE_TCRES_TCNT tc).set a F.PE_TCRES_CBASE cb).set a F.PE_TCRES_CCNT cc
  else s.engRefuse e
def execTcresWrite (e : Fin 8) (v : Word) (s : State) : Out := s.go (·.tcresWrite e.val v)

/-- MMAP_WRITE (R95): a write that enables a window names a retained bank of the engine, which is in STOP, and no bank of
another window; else it is refused with CFGERR of the named engine. -/
def Dev.mmapWrite (s : Dev) (k : Nat) (v : Word) : Dev :=
  let a := A.SYS_MMAP k
  let bank := F.SYS_MMAP_BANK.of v
  let eng := F.SYS_MMAP_ENG.of v
  let put (s : Dev) (en : Nat) : Dev :=
    let s := (s.set a F.SYS_MMAP_EN en).set a F.SYS_MMAP_ENG eng
    if bank < 48 then s.set a F.SYS_MMAP_BANK bank else s
  if F.SYS_MMAP_EN.of v = 0 then put s 0
  else if bank < 48 && s.owner bank == eng + 1 && s.peMode eng == 0 && (upto 8).all (fun j => j == k || s.mBank j != some bank) then
    put s 1
  else s.raise (A.PE_STAT eng) F.PE_STAT_CFGERR
def execMmapWrite (k : Fin 8) (v : Word) (s : State) : Out := s.go (·.mmapWrite k.val v)

/-! ## Modes and tasks -/

/-- REQ_RUN (R87, R74). -/
def execReqRun (e : Fin 8) (s : State) : Out := s.go (·.reqRun e.val)
/-- REQ_STOP (R87). -/
def execReqStop (e : Fin 8) (s : State) : Out := s.go (·.reqStop e.val false)
/-- REQ_HOLD (R87, R92). -/
def execReqHold (e : Fin 8) (s : State) : Out := s.go (·.reqHold e.val false)
/-- ENGINE_STOP (R87): the pending STOP takes effect once no task is in a cycle. -/
def execEngineStop (e : Fin 8) (s : State) : Out := s.live (·.engineStop e.val)

/-- Some enabled cyclic task's comparator fires within 2 µs. -/
def Dev.wakeDue (s : Dev) (e : Nat) : Bool :=
  (upto 16).any (fun t =>
    let c := s.reg (A.PE_TASK_CTL e t)
    let n := F.PE_TASK_CTL_EIDX.of c
    F.PE_TASK_CTL_EN.of c == 1 && F.PE_TASK_CTL_KIND.of c == 0 && s.bit (A.TIME_TT_CTL n) F.TIME_TT_CTL_EN &&
      decide ((s.pair (A.TIME_TT_CMP_LO n)).toNat ≤ s.time.ts.toNat + 2000))

/-- ENGINE_WAKE (R82): a gated engine wakes before the next fire of a comparator that its tasks name. -/
def Dev.engineWake (s : Dev) (e : Nat) : Dev :=
  if (s.eng e).gated && s.wakeDue e then s.setEng e { s.eng e with gated := false } else s
def execEngineWake (e : Fin 8) (s : State) : Out := s.live (·.engineWake e.val)

/-- TASK_START (R81). -/
def execTaskStart (e : Fin 8) (s : State) : Out := s.live (·.taskStart e.val)
/-- TASK_RESUME (R81). -/
def execTaskResume (e : Fin 8) (s : State) : Out := s.live (·.taskResume e.val)

/-- WATCHDOG_EXPIRY (R86). -/
def execWatchdogExpiry (e : Fin 8) (s : State) : Out := s.live (·.watchdog e.val)

/-- BRK_WRITE (R92): a breakpoint is written; in OPERATIONAL EN stays 0, with CFGERR. -/
def Dev.brkWrite (s : Dev) (e k : Nat) (v : Word) : Dev :=
  let a := A.PE_BRK e k
  let on := F.PE_BRK_EN.of v == 1
  if on && s.lcs == 2 then (s.raise (A.PE_STAT e) F.PE_STAT_CFGERR).set a F.PE_BRK_EN 0
  else (s.setBit a F.PE_BRK_EN on).set a F.PE_BRK_ADDR (F.PE_BRK_ADDR.of v)
def execBrkWrite (e : Fin 8) (k : Fin 8) (v : Word) (s : State) : Out := s.go (·.brkWrite e.val k.val v)

/-- TIMER_EXPIRY (R123): hardware brings Q of timer `n` up to date. -/
def Dev.timerExpiry (s : Dev) (n : Nat) : Dev := s.setTimer n (s.timer n).expired
def execTimerExpiry (n : Fin 4096) (s : State) : Out := s.live (·.timerExpiry n.val)

end Sys2Proof.Machine
end

