-- ==== Sys2Proof/Machine/Eth.lean ====
section
/-! DEFINITION. Ethernet (chapter 17): ports, the switch, gates and queues, time stamps and the servo, the exchange
unit's objects and fields, HSR and PRP. -/

namespace Sys2Proof.Machine

def EthPort.init : EthPort := ⟨[], 0, [], none, 0, none, 0⟩
def EthPair.init : EthPair := ⟨[], 0, 0⟩
def Dev.onEth (s : Dev) (f : Eth → Eth) : Dev := { s with eth := f s.eth }
def Dev.ethPort (s : Dev) (p : Nat) : EthPort := tabGet .init s.eth.ports p
def Dev.onPort (s : Dev) (p : Nat) (f : EthPort → EthPort) : Dev :=
  s.onEth fun e => { e with ports := tabPut .init e.ports p (f (s.ethPort p)) }
def Dev.ethPair (s : Dev) (q : Nat) : EthPair := tabGet .init s.eth.pairs q
def Dev.onPair (s : Dev) (q : Nat) (f : EthPair → EthPair) : Dev :=
  s.onEth fun e => { e with pairs := tabPut .init e.pairs q (f (s.ethPair q)) }
def Dev.onPtp (s : Dev) (f : Ptp → Ptp) : Dev := s.onEth fun e => { e with ptp := f e.ptp }

def Dev.ethCfgErr (s : Dev) : Dev := s.raise A.ETH_STAT F.ETH_STAT_CFGERR
def Dev.portMode (s : Dev) (p : Nat) : Nat := s.get (A.ETH_PORT_CTL p) F.ETH_PORT_CTL_MODE
/-- Mode of the pair of a port: 0 none, 1 HSR, 2 PRP. -/
def Dev.pairMode (s : Dev) (p : Nat) : Nat := s.get (A.ETH_PAIR_CTL (p / 2)) F.ETH_PAIR_CTL_MODE

/-- A write of ETH_PORT_CTL.MODE (R354). -/
def Dev.portModeWrite (s : Dev) (p m : Nat) : Dev :=
  if m = s.portMode p then s
  else if s.portMode p != 0 then s.ethCfgErr
  else if 5 < m then s
  else s.set (A.ETH_PORT_CTL p) F.ETH_PORT_CTL_MODE m

/-! ## Bytes of a frame -/

def byteAt (bs : List Byte) (i : Nat) : Nat := (bs.getD i 0).toNat
def be16 (bs : List Byte) (i : Nat) : Nat := byteAt bs i * 256 + byteAt bs (i + 1)
def be16Bytes (v : Nat) : List Byte := [BitVec.ofNat 8 (v / 256), BitVec.ofNat 8 v]
/-- A MAC address with octet 0 lowest. -/
def macAt (bs : List Byte) (i : Nat) : Nat := leNat ((upto 6).map (fun k => bs.getD (i + k) 0))
def srcMac (bs : List Byte) : Nat := macAt bs 6
def dstMac (bs : List Byte) : Nat := macAt bs 0
/-- Bytes replaced from a place on. -/
def splice (bs : List Byte) (i : Nat) (new : List Byte) : List Byte := bs.take i ++ new ++ bs.drop (i + new.length)

/-- VID and PCP of an untagged or tagged frame, and the frame without its tag. -/
def untag (bs : List Byte) (pvid : Nat) : Nat × Nat × List Byte :=
  if be16 bs 12 = 0x8100 then
    let tci := be16 bs 14
    (if tci % 4096 = 0 then pvid else tci % 4096, tci / 8192, bs.take 12 ++ bs.drop 16)
  else (pvid, 0, bs)

def tagged (bs : List Byte) (vid pcp : Nat) : List Byte :=
  bs.take 12 ++ be16Bytes 0x8100 ++ be16Bytes (pcp * 8192 + vid) ++ bs.drop 12

/-- Place of the EtherType behind HSR and VLAN tags. -/
def typeOfs (bs : List Byte) : Nat :=
  let i := if be16 bs 12 = 0x892F then 18 else 12
  if be16 bs i = 0x8100 then i + 4 else i

/-- Place of the PTP header: layer 2 or UDP over IPv4 (R358). -/
def ptpOfs (bs : List Byte) : Option Nat :=
  let i := typeOfs bs
  if be16 bs i = 0x88F7 then some (i + 2)
  else if be16 bs i = 0x0800 && byteAt bs (i + 11) == 17 then
    let h := i + 2 + byteAt bs (i + 2) % 16 * 4
    if be16 bs (h + 2) = 319 || be16 bs (h + 2) = 320 then some (h + 8) else none
  else none

/-- Message type of a PTP message; 0 Sync, 1 Delay_Req, 2 Pdelay_Req, 3 Pdelay_Resp are event messages. -/
def ptpType (bs : List Byte) (o : Nat) : Nat := byteAt bs o % 16

/-! ## Time stamps (R357, R359) -/

def ingressCorr : Nat → Nat
  | 1 => 7400 | 2 => 760 | 3 => 112 | 4 => 104 | 5 => 52 | _ => 0
def egressCorr : Nat → Nat
  | 1 => 7120 | 2 => 720 | 3 => 96 | 4 => 88 | 5 => 44 | _ => 0

/-- The instant at the contacts of a frame that a port stamps on this tick. -/
def Dev.ingressInstant (s : Dev) (p : Nat) : Int :=
  (s.time.ts.toNat : Int) - ingressCorr (s.portMode p) - s.get (A.ETH_PORT_DLY p) F.ETH_PORT_DLY_RXDLY
def Dev.egressInstant (s : Dev) (p : Nat) : Int :=
  (s.time.ts.toNat : Int) + egressCorr (s.portMode p) + s.get (A.ETH_PORT_DLY p) F.ETH_PORT_DLY_TXDLY

/-- One's complement sum of 16-bit words after one word changes from `a` to `b`. -/
def csumUpdate (c a b : Nat) : Nat :=
  let t := (0xFFFF - c) + (0xFFFF - a) + b
  let t := t % 65536 + t / 65536
  let t := t % 65536 + t / 65536
  0xFFFF - t

/-- The frame with its correctionField raised by a residence time in ns; a UDP checksum that is in use follows. -/
def corrected (bs : List Byte) (o : Nat) (residence : Int) : List Byte :=
  let old := (upto 8).foldl (fun n i => n * 256 + byteAt bs (o + 8 + i)) 0
  let new := (BitVec.ofInt 64 ((BitVec.ofNat 64 old).toInt + residence * 65536)).toNat
  let nb : List Byte := (upto 8).map (fun i => BitVec.ofNat 8 (new >>> (8 * (7 - i))))
  let out := splice bs (o + 8) nb
  let i := typeOfs bs
  if be16 bs i = 0x0800 && be16 bs (o - 2) != 0 then
    let c := (upto 4).foldl (fun c k => csumUpdate c (be16 bs (o + 8 + 2 * k)) (be16 out (o + 8 + 2 * k))) (be16 bs (o - 2))
    splice out (o - 2) (be16Bytes c)
  else out

/-! ## Egress queues and gates (R355, R356) -/

/-- Mb/s of a port mode. -/
def modeRate : Nat → Nat
  | 1 => 10 | 2 => 100 | 3 => 1000 | 4 => 1000 | 5 => 2500 | _ => 0

/-- Ticks that a frame of `n` bytes takes with preamble, check sequence and gap. -/
def frameTicks (mode n : Nat) : Nat := ((n + 24) * 8000 / modeRate mode + 3) / 4

/-- Ticks for which a queue's gate stays open from now: none when it does not close. -/
def gateRun : List (Nat × Nat) → Nat → Option Nat
  | [], _ => none
  | (m, d) :: rest, q => if m.testBit q then (gateRun rest q).map (· + d) else some 0

def Dev.gateLeft (s : Dev) (p q : Nat) : Option Nat :=
  let x := s.ethPort p
  match x.gateIdx with
  | none => none
  | some i =>
    match x.gates[i]? with
    | none => none
    | some (m, _) =>
      if m.testBit q then (gateRun (x.gates.drop (i + 1)) q).map (· + (x.gateEnd - s.ticks)) else some 0

/-- A frame may leave now: its port runs, its gate stays open to its end, and a transmit object's frame of a synced
primary has its epoch released (R396). -/
def Dev.mayLeave (s : Dev) (p : Nat) (x : EthTx) : Bool :=
  (match s.gateLeft p x.pcp with
   | none => true
   | some n => decide (frameTicks (s.portMode p) x.bytes.length ≤ n)) &&
  (match x.obj with
   | some e => !s.syncedAs 1 || decide ((e - s.duoRel).toInt ≤ 0)
   | none => true)

/-- Head of each class, highest first: the place of the frame that leaves next. -/
def Dev.nextFrame (s : Dev) (p : Nat) : Option Nat :=
  let q := (s.ethPort p).queue
  (upto 8).findSome? (fun k =>
    match q.findIdx? (fun x => x.pcp == 7 - k) with
    | some i => if (q[i]?.map (s.mayLeave p)).getD false then some i else none
    | none => none)

/-- The words of a frame that leaves: its length, then its bytes. -/
def frameWords (bs : List Byte) : List Word :=
  BitVec.ofNat 32 bs.length :: byteWords (bs ++ List.replicate ((4 - bs.length % 4) % 4) 0)

/-- A port's part of a tick: the next frame leaves once the last has been sent. -/
def Dev.portTick (s : Dev) (p : Nat) : Dev :=
  let x := s.ethPort p
  if x.queue.isEmpty || s.portMode p == 0 || decide (s.ticks < x.busy) || s.halted then s
  else
    match s.nextFrame p with
    | none => s
    | some i =>
      match x.queue[i]? with
      | none => s
      | some f =>
        let bs := match f.ptp, ptpOfs f.bytes with
          | some (t, inp), some o =>
            let link := if s.bit A.ETH_PTP_CFG F.ETH_PTP_CFG_MECH && ptpType f.bytes o == 0 then Config.meanLinkDelay inp s.free else 0
            corrected f.bytes o (s.egressInstant p - t + link)
          | _, _ => f.bytes
        (s.onPort p fun x => { x with
          queue := x.queue.eraseIdx i, busy := s.ticks + frameTicks (s.portMode p) bs.length }).emit ⟨1, p, 0, frameWords bs⟩

def Dev.ethTick (s : Dev) : Dev := s.each 8 Dev.portTick

/-- The comparator of a gate list fires: the list starts, a newly loaded one in its place. -/
def Dev.gateFire (s : Dev) (tt : Nat) : Dev :=
  s.each 8 fun s p =>
    let x := s.ethPort p
    let gates := x.gatesNew.getD x.gates
    if x.gateTt = tt && !gates.isEmpty then
      s.onPort p fun x => { x with gates := gates, gatesNew := none, gateIdx := some 0,
                                   gateEnd := s.ticks + (gates.headD (0, 0)).2 }
    else s

/-- GATE_ENTRY_END: the next entry's open queues; the last entry stands until the next fire. -/
def Dev.gateEntryEnd (s : Dev) (p : Nat) : Dev :=
  let x := s.ethPort p
  match x.gateIdx with
  | some i =>
    if x.gateEnd ≤ s.ticks && i + 1 < x.gates.length then
      s.onPort p fun x => { x with gateIdx := some (i + 1), gateEnd := x.gateEnd + (x.gates.getD (i + 1) (0, 0)).2 }
    else s
  | none => s

/-- A queue of a port is full. -/
def Dev.queueFull (s : Dev) (p pcp : Nat) : Bool :=
  decide (Config.egressDepth ≤ ((s.ethPort p).queue.filter (fun x => x.pcp == pcp)).length)

/-- A frame enters a port's queue; a full queue drops it. -/
def Dev.queueFrame (s : Dev) (p : Nat) (f : EthTx) : Dev :=
  if s.portMode p = 0 || s.queueFull p f.pcp then s else s.onPort p fun x => { x with queue := x.queue ++ [f] }

/-! ## HSR and PRP (R368-R370) -/

/-- An HSR tag after the addresses: path of the port, size, sequence (IEC 62439-3, log 46). -/
def hsrTag (bs : List Byte) (lan seq : Nat) : List Byte :=
  bs.take 12 ++ be16Bytes 0x892F ++ be16Bytes (lan * 4096 + (bs.length - 12 + 6) % 4096) ++ be16Bytes seq ++ bs.drop 12
/-- A PRP trailer: sequence, LAN and size, suffix. -/
def prpTrailer (bs : List Byte) (lan seq : Nat) : List Byte :=
  bs ++ be16Bytes seq ++ be16Bytes ((0xA + lan) * 4096 + (bs.length - 14 + 6) % 4096) ++ be16Bytes 0x88FB

/-- The frame as port `p` of a pair sends it. PTP frames are not duplicated. -/
def Dev.onLan (s : Dev) (p seq : Nat) (f : EthTx) : EthTx :=
  if s.pairMode p = 1 then { f with bytes := hsrTag f.bytes (p % 2) seq }
  else if s.pairMode p = 2 then { f with bytes := prpTrailer f.bytes (p % 2) seq } else f

/-- A frame goes out on a port, or on both ports of its pair with the sequence given or the pair's running counter. -/
def Dev.sendFrame (s : Dev) (p : Nat) (seq : Option Nat) (f : EthTx) : Dev :=
  if s.pairMode p = 0 || (ptpOfs f.bytes).isSome then s.queueFrame p f
  else
    let q := p / 2
    let (n, s) := match seq with
      | some n => (n, s)
      | none => ((s.ethPair q).count, s.onPair q fun x => { x with count := (x.count + 1) % 65536 })
    (s.queueFrame (2 * q) (s.onLan (2 * q) n f)).queueFrame (2 * q + 1) (s.onLan (2 * q + 1) n f)

/-- Sequence of an HSR tag or PRP trailer, and the frame without it. -/
def Dev.unLan (s : Dev) (p : Nat) (bs : List Byte) : Option Nat × List Byte :=
  if s.pairMode p = 1 && be16 bs 12 == 0x892F then (some (be16 bs 16), bs.take 12 ++ bs.drop 18)
  else if s.pairMode p = 2 && decide (6 ≤ bs.length) && be16 bs (bs.length - 2) == 0x88FB then
    (some (be16 bs (bs.length - 6)), bs.take (bs.length - 6))
  else (none, bs)

/-- DUPLICATE_DISCARD (R369): true for a key in the table, else it is entered, over the oldest when full. -/
def Dev.ddCheck (s : Dev) (q mac seq : Nat) : Dev × Bool :=
  let t := (s.ethPair q).table
  if t.any (fun e => e.1 == mac && e.2.1 == seq) then (s, true)
  else
    let full := decide (1024 ≤ t.length)
    let t := (if full then t.drop 1 else t) ++ [(mac, seq, s.ticks)]
    let s := (s.onPair q fun x => { x with table := t }).set (A.ETH_PAIR_STAT q) F.ETH_PAIR_STAT_USED t.length
    (if full then s.count (A.ETH_PAIR_STAT q) F.ETH_PAIR_STAT_DDOVF 1 else s, false)

/-- The oldest entry is forgotten DDTIME ms after it was entered. -/
def Dev.ddForget (s : Dev) (q : Nat) : Dev :=
  match (s.ethPair q).table with
  | e :: rest =>
    if e.2.2 + s.get (A.ETH_PAIR_CTL q) F.ETH_PAIR_CTL_DDTIME * 250000 ≤ s.ticks then
      (s.onPair q fun x => { x with table := rest }).set (A.ETH_PAIR_STAT q) F.ETH_PAIR_STAT_USED rest.length
    else s
  | [] => s

/-- SUPERVISION_FRAME (R368): every 2 s, on both ports. -/
def Dev.supervision (s : Dev) (q : Nat) : Dev :=
  let x := s.ethPair q
  if s.pairMode (2 * q) != 0 && !s.halted && (x.sup == 0 || decide (x.sup + 500000000 ≤ s.ticks + 1)) then
    let s := s.onPair q fun x => { x with sup := s.ticks + 1, count := (x.count + 1) % 65536 }
    let w := BitVec.ofNat 32 x.count
    (s.emit ⟨1, 2 * q, 2, [w]⟩).emit ⟨1, 2 * q + 1, 2, [w]⟩
  else s

/-! ## The servo (R360-R363) -/

/-- A committed addend that firmware chooses within R32. -/
def freeAddend (n : Nat) : BitVec 36 :=
  BitVec.ofNat 36 ((3996 * 2 ^ 32 + 999) / 1000 + (Config.freeWord n).toNat % 34359739)

/-- The mean of the latest addends, else the addend in force. -/
def Dev.meanAddend (s : Dev) : BitVec 36 :=
  match s.eth.ptp.addends with
  | [] => BitVec.ofNat 36 (s.get A.TIME_ADDEND_HI F.TIME_ADDEND_HI_INT * 2 ^ 32 + (s.reg A.TIME_ADDEND_LO).toNat)
  | xs => BitVec.ofNat 36 (xs.foldl (· + ·) 0 / xs.length)

/-- Firmware slews: an addend of its choice. -/
def Dev.slew (s : Dev) : Dev :=
  let a := freeAddend s.free
  ((s.draw.onTime fun t => { t with newAddend := some a }).onPtp fun x => { x with addends := (a.toNat :: x.addends).take 16 })

/-- The estimate is written. -/
def Dev.estimate (s : Dev) (v : Int) : Dev := (s.setReg A.TIME_OFS_EST (wordOfInt v)).setOffsync

/-- A measurement of the steering domain: a step on the first one and beyond 1 ms, else slewing. After a step the
estimate is what firmware then expects, which no rule gives. -/
def Dev.steer (s : Dev) (first : Bool) (ofs : Int) : Dev :=
  if first || 1000000 < ofs.natAbs then
    let s := s.onTime fun t => { t with steps := t.steps ++ [-ofs] }
    (s.draw.setReg A.TIME_OFS_EST (Config.freeWord s.free)).setOffsync
  else s.slew.estimate ofs

/-- What is left of the residual (R363): removed at SLEW ppb. -/
def Dev.residualLeft (s : Dev) : Int :=
  let x := s.eth.ptp
  let gone : Int := ((s.ticks - x.resTick) * 4 * s.get A.ETH_PTP_HOLD F.ETH_PTP_HOLD_SLEW / 1000000000 : Nat)
  if 0 ≤ x.residual then max 0 (x.residual - gone) else min 0 (x.residual + gone)

/-- The time base is steered by PTP. -/
def Dev.ptpSteers (s : Dev) : Bool := s.get A.TIME_CTL F.TIME_CTL_SRC == 2

/-- Steering goes over to a domain without a step: its offset is the residual. -/
def Dev.switchDomain (s : Dev) (b : Bool) : Dev :=
  let r := if b then s.eth.ptp.ofsB else s.eth.ptp.ofsA
  let s := s.setBit A.ETH_STAT F.ETH_STAT_ACTB b
  let s := s.onPtp fun x => { x with residual := r, resTick := s.ticks }
  s.estimate ((r.natAbs : Int) + 20)

/-- LOCKA or LOCKB follows a measured offset. -/
def Dev.setLock (s : Dev) (b ok : Bool) : Dev :=
  let f := if b then F.ETH_STAT_LOCKB else F.ETH_STAT_LOCKA
  let was := s.bit A.ETH_STAT f
  let s := s.setBit A.ETH_STAT f ok
  if b then s
  else s.onPtp fun x => { x with lockSince := if !ok then 0 else if was && x.lockSince != 0 then x.lockSince else s.ticks + 1 }

/-- PTP_SYNC (R360): an offset of the time base against domain A or B. -/
def Dev.ptpSync (s : Dev) (b : Bool) (ofs : Int) : Dev :=
  if b && !s.bit A.ETH_PTP_CFG F.ETH_PTP_CFG_DUAL then s
  else
    let s := s.setLock b (decide (ofs.natAbs ≤ 1000))
    let s := s.onPtp fun x => if b then { x with ofsB := ofs } else { x with ofsA := ofs }
    if !s.ptpSteers || s.bit A.ETH_STAT F.ETH_STAT_ACTB != b then s
    else
      let first := s.eth.ptp.first || s.bit A.ETH_STAT F.ETH_STAT_HOLD
      let s := ((s.set A.ETH_STAT F.ETH_STAT_HOLD 0).set A.ETH_STAT F.ETH_STAT_HAGE 0).onPtp fun x => { x with first := false }
      if s.residualLeft != 0 then s.slew.estimate ((s.residualLeft.natAbs : Int) + 20)
      else s.steer first ofs

/-- Holdover begins (R362). -/
def Dev.holdover (s : Dev) : Dev :=
  let a := s.meanAddend
  let s := s.onTime fun t => { t with newAddend := some a, steps := [] }
  ((s.set A.ETH_STAT F.ETH_STAT_HOLD 1).set A.ETH_STAT F.ETH_STAT_HAGE 0).onPtp fun x => { x with lossTick := s.ticks }

/-- MASTER_LOSS (R362, R363). -/
def Dev.masterLoss (s : Dev) (b : Bool) : Dev :=
  let s := s.setLock b false
  if !s.ptpSteers || s.bit A.ETH_STAT F.ETH_STAT_ACTB != b || s.bit A.ETH_STAT F.ETH_STAT_HOLD then s
  else if !b && s.bit A.ETH_PTP_CFG F.ETH_PTP_CFG_DUAL && s.bit A.ETH_STAT F.ETH_STAT_LOCKB then s.switchDomain true
  else s.holdover

/-- HOLDOVER_UPDATE: once per second. -/
def Dev.holdoverUpdate (s : Dev) : Dev :=
  let age := s.get A.ETH_STAT F.ETH_STAT_HAGE
  if s.bit A.ETH_STAT F.ETH_STAT_HOLD && decide (s.eth.ptp.lossTick + (age + 1) * 250000000 ≤ s.ticks) then
    let s := s.count A.ETH_STAT F.ETH_STAT_HAGE 1
    s.estimate (20 + (s.get A.ETH_PTP_HOLD F.ETH_PTP_HOLD_HDRIFT * s.get A.ETH_STAT F.ETH_STAT_HAGE : Nat))
  else s

/-- AUTOREV_RETURN (R363). -/
def Dev.autorev (s : Dev) : Dev :=
  let t := s.eth.ptp.lockSince
  if s.bit A.ETH_PTP_CFG F.ETH_PTP_CFG_AUTOREV && s.bit A.ETH_STAT F.ETH_STAT_ACTB && t != 0 &&
      decide (t + 4000000000 ≤ s.ticks + 1) then s.switchDomain false
  else s

/-! ## Receive objects (R365-R367) -/

def ethRxHandle (k : Nat) : Word := mkHandle 0x30 k
def ethTxHandle (k : Nat) : Word := mkHandle 0x31 k
def ethLay (cfg : Word) : Lay :=
  ⟨F.ETH_FLD_CFG_FMT.of cfg, F.ETH_FLD_CFG_OFS.of cfg, F.ETH_FLD_CFG_BIT.of cfg, F.ETH_FLD_CFG_BE.of cfg == 1⟩
def ethFieldOf (cfg : Word) (dir obj : Nat) : Bool :=
  F.ETH_FLD_CFG_EN.of cfg == 1 && F.ETH_FLD_CFG_DIR.of cfg == dir && F.ETH_FLD_CFG_OBJ.of cfg == obj

/-- Field entries that are enabled, of a direction and object. -/
def Dev.ethFieldsOf (s : Dev) (dir obj : Nat) : List Nat :=
  (upto 4096).filter (fun k => ethFieldOf (s.reg (A.ETH_FLD_CFG k)) dir obj)

/-- The first receive object that takes a frame. -/
def Dev.rxObject (s : Dev) (bs : List Byte) (vid : Nat) : Option Nat :=
  (upto 64).find? (fun j =>
    let c := s.reg (A.ETH_RXO_CFG j)
    let hi := s.reg (A.ETH_RXO_MAC_HI j)
    F.ETH_RXO_CFG_EN.of c == 1 && srcMac bs == (s.reg (A.ETH_RXO_MAC_LO j)).toNat + bitsOf hi 15 0 * 2 ^ 32 &&
      be16 bs 12 == bitsOf hi 31 16 && (F.ETH_RXO_CFG_VIDEN.of c == 0 || F.ETH_RXO_CFG_VID.of c == vid))

/-- The station of a receive object is absent or present. -/
def Dev.ethStation (s : Dev) (j : Nat) (absent : Bool) : Dev :=
  let a := A.ETH_RXO_CFG j
  if s.bit a F.ETH_RXO_CFG_ABS = absent then s
  else
    ((s.setBit a F.ETH_RXO_CFG_ABS absent).offer 0x49 0x0F .stationChange).collect 8 (BitVec.ofNat 32 (2 ^ 31 + j))
      (if absent then 1 else 0) 0 []

/-- ETH_STATION_ABSENT (R367). -/
def Dev.ethAbsent (s : Dev) (j : Nat) : Dev :=
  let c := s.reg (A.ETH_RXO_CFG j)
  let tmo := F.ETH_RXO_CFG_TMO.of c * 2500
  if s.standby || s.halted || F.ETH_RXO_CFG_EN.of c == 0 || tmo == 0 || F.ETH_RXO_CFG_ABS.of c == 1 ||
      decide (s.ticks + 1 < tabGet 0 s.eth.seen j + tmo) then s
  else
    (s.ethFieldsOf 0 j).foldl (fun s k =>
      let h := ethRxHandle k
      s.publish h ⟨if s.bit (A.ETH_FLD_CFG k) F.ETH_FLD_CFG_SUBM then s.reg (A.ETH_FLD_SUB k) else (s.point h).val, false⟩)
      (s.ethStation j true)

/-- A receive object takes a frame: bytes that it does not have are free. -/
def Dev.rxTake (s : Dev) (j : Nat) (bs : List Byte) : Dev :=
  let free := s.free
  let b : Nat → Byte := fun i => if i < bs.length then bs.getD i 0 else Config.freeByte (free + i)
  let s := (s.draw.onEth fun e => { e with seen := tabPut 0 e.seen j (s.ticks + 1) }).ethStation j false
  (s.ethFieldsOf 0 j).foldl (fun s k => s.publish (ethRxHandle k) ⟨(ethLay (s.reg (A.ETH_FLD_CFG k))).value b, true⟩) s

/-! ## The switch (R355) -/

/-- Learn a source address; the oldest of 4096 gives way. -/
def Dev.learn (s : Dev) (mac vid p : Nat) : Dev :=
  s.onEth fun e =>
    let old := e.macs.filter (fun x => !(x.1 == mac && x.2.1 == vid))
    { e with macs := (if 4096 ≤ old.length then old.drop 1 else old) ++ [(mac, vid, p, s.ticks)] }

/-- MAC_ENTRY_AGEING: the oldest entry after 300 s. -/
def Dev.macAge (s : Dev) : Dev :=
  s.onEth fun e =>
    match e.macs with
    | x :: rest => if x.2.2.2 + 75000000000 ≤ s.ticks then { e with macs := rest } else e
    | [] => e

/-- Ports to which a frame of a VLAN goes. -/
def Dev.egressPorts (s : Dev) (p mac vid : Nat) : List Nat :=
  if mac = Config.ethMac then []
  else
    let known := if mac % 2 = 1 then none else s.eth.macs.find? (fun x => x.1 == mac && x.2.1 == vid)
    match known with
    | some x => if x.2.2.1 = p then [] else [x.2.2.1]
    | none => (upto 8).filter (fun k => k != p && s.portMode k != 0 && Config.vlanMember k vid &&
        !(s.pairMode k != 0 && (k / 2 == p / 2 || k % 2 == 1)))

/-- A frame is forwarded. An ordinary or boundary clock keeps PTP messages; a transparent clock corrects event
messages. -/
def Dev.forward (s : Dev) (p vid pcp : Nat) (bs : List Byte) : Dev :=
  let role := s.get A.ETH_PTP_CFG F.ETH_PTP_CFG_ROLE
  let ptp := ptpOfs bs
  if ptp.isSome && (role == 1 || role == 2) then s
  else
    let mark := match ptp with
      | some o => if role = 3 && ptpType bs o ≤ 3 then some (s.ingressInstant p, p) else none
      | none => none
    (s.egressPorts p (dstMac bs) vid).foldl (fun s k =>
      s.sendFrame k none ⟨if Config.vlanTagged k vid then tagged bs vid pcp else bs, pcp, none, mark⟩) s

/-- A witness frame of a dovetail partner (R405). -/
def isWitness (bs : List Byte) : Bool :=
  let o := typeOfs bs
  be16 bs o == 0x88B5 && leNat ((upto 4).map (fun i => bs.getD (o + 2 + i) 0)) == 0x59430003

/-- A frame that has passed the duplicate check. -/
def Dev.ethTake (s : Dev) (p : Nat) (bs : List Byte) : Dev :=
  let (vid, pcp, bs) := untag bs (s.get (A.ETH_PORT_CTL p) F.ETH_PORT_CTL_PVID)
  let s := (s.learn (srcMac bs) vid p).forward p vid pcp bs
  let s := if isWitness bs then { s with duo := { s.duo with seen := tabPut 0 s.duo.seen 2 (s.ticks + 1) } } else s
  if s.standby || s.halted then s
  else
    match s.rxObject bs vid with
    | some j => s.rxTake j bs
    | none => s.emit ⟨1, 8, 0, frameWords bs⟩

/-- ETH_FRAME_RECEIVED: a valid frame without its check sequence; `sync` is the offset that firmware measures with it. -/
def Dev.ethReceive (s : Dev) (p : Nat) (bs : List Byte) (sync : Option (Bool × Int)) : Dev :=
  if s.portMode p = 0 then s
  else if (if s.pairMode p = 0 then 1518 else 1524) < bs.length then
    s.onEth fun e => { e with overlong := tabPut 0 e.overlong p (tabGet 0 e.overlong p + 1) }
  else
    let s := match sync with
      | some (b, ofs) => if s.bit (A.ETH_PORT_CTL p) F.ETH_PORT_CTL_PTPEN then s.ptpSync b ofs else s
      | none => s
    match s.unLan p bs with
    | (some seq, inner) =>
      if (ptpOfs inner).isSome then s.ethTake p inner
      else
        match s.ddCheck (p / 2) (srcMac bs) seq with
        | (s, true) => s
        | (s, false) =>
          let other := p / 2 * 2 + (1 - p % 2)
          let s := if s.pairMode p = 1 && dstMac bs != Config.ethMac then
              s.queueFrame other ⟨bs, (untag inner 1).2.1, none, none⟩ else s
          s.ethTake p inner
    | (none, _) => s.ethTake p bs

/-! ## Transmit objects (R364) -/

/-- The source address of the pair, when the module is a member (R370). -/
def Dev.objSource (s : Dev) (bs : List Byte) : List Byte :=
  if s.bit A.DUO_CFG F.DUO_CFG_EN then
    splice bs 6 (leBytes 6 ((s.reg A.DUO_MAC_LO).toNat + bitsOf (s.reg A.DUO_MAC_HI) 15 0 * 2 ^ 32))
  else bs

/-- An object's frame: template, fields as at the start of the tick, sequence. -/
def Dev.objFrame (s : Dev) (j addr len : Nat) : List Byte :=
  let b : Nat → Byte := (s.ethFieldsOf 1 j).foldl (fun b k =>
    (ethLay (s.reg (A.ETH_FLD_CFG k))).put (s.hread (ethTxHandle k)).val b) (fun i => s.byte (addr + i))
  let w := s.reg (A.ETH_TXO_SEQ j)
  let seq := leBytes 2 (F.ETH_TXO_SEQ_SEQ.of w)
  let o := F.ETH_TXO_SEQ_SEQOFS.of w
  let bs := (upto len).map b
  s.objSource (if s.bit (A.ETH_TXO_CFG j) F.ETH_TXO_CFG_SEQEN then (splice bs o seq).take len else bs)

/-- A fire builds an object's frame. A bank that the supervisor cores do not own, or a template that cannot be read,
gives none. -/
def Dev.ethBuild (s : Dev) (j : Nat) : Dev :=
  let c := s.reg (A.ETH_TXO_CFG j)
  let t := s.reg (A.ETH_TXO_TPL j)
  let bank := F.ETH_TXO_TPL_BANK.of t
  let len := F.ETH_TXO_TPL_LEN.of t
  let addr := bankBase bank + F.ETH_TXO_TPL_PAGE.of t * 4096
  let absent := F.ETH_TXO_CFG_STNEN.of c == 1 && s.bit (A.ETH_RXO_CFG (F.ETH_TXO_CFG_STN.of c)) F.ETH_RXO_CFG_ABS
  if absent || s.halted || !decide (bank < 80) || !s.ownsLive 0x38 bank || !s.spanOk addr len then s
  else
    let p := F.ETH_TXO_CFG_PORT.of c
    let bs := s.objFrame j addr len
    let pcp := (untag bs 1).2.1
    if s.queueFull p pcp then s.count (A.ETH_TXO_SEQ j) F.ETH_TXO_SEQ_LOST 1
    else
      let seq := s.get (A.ETH_TXO_SEQ j) F.ETH_TXO_SEQ_SEQ
      let s := (s.output 0x49 (frameWords bs)).sendFrame p (some seq) ⟨bs, pcp, some s.epochNow, none⟩
      if F.ETH_TXO_CFG_SEQEN.of c = 1 then s.set (A.ETH_TXO_SEQ j) F.ETH_TXO_SEQ_SEQ (seq + 1) else s

def Dev.ethFire (s : Dev) (tt : Nat) : Dev :=
  s.each 64 fun s j =>
    let c := s.reg0 (A.ETH_TXO_CFG j)
    if F.ETH_TXO_CFG_EN.of c == 1 && F.ETH_TXO_CFG_TT.of c == tt then s.ethBuild j else s

/-- PTP_MASTER_SYNC (R358): a Sync with its egress instant inside (one-step) or in a Follow_Up (two-step). -/
def Dev.masterSync (s : Dev) (p : Nat) : Dev :=
  let c := s.reg (A.ETH_PORT_CTL p)
  let role := s.get A.ETH_PTP_CFG F.ETH_PTP_CFG_ROLE
  if F.ETH_PORT_CTL_PTPEN.of c == 1 && s.portMode p != 0 && (role == 1 || role == 2) && !s.halted then
    let t := BitVec.ofInt 64 (s.egressInstant p)
    let ws : List Word := [t.setWidth 32, (t >>> 32).setWidth 32]
    if F.ETH_PORT_CTL_ONESTEP.of c = 1 then s.emit ⟨1, p, 3, ws⟩ else (s.emit ⟨1, p, 4, []⟩).emit ⟨1, p, 5, ws⟩
  else s

/-! ## Guarded register writes -/

/-- A write of ETH_PTP_CFG: equal domains in dual mode, and MECH 0 with PROFILE 1, are refused. A write of DUAL or AUTOREV
ends the stay on domain B (R363). -/
def Dev.ptpCfgWrite (s : Dev) (v : Word) : Dev :=
  let a := A.ETH_PTP_CFG
  let old := s.reg a
  if (F.ETH_PTP_CFG_DUAL.of v == 1 && F.ETH_PTP_CFG_DOMA.of v == F.ETH_PTP_CFG_DOMB.of v) ||
      (F.ETH_PTP_CFG_PROFILE.of v == 1 && F.ETH_PTP_CFG_MECH.of v == 0) then s.ethCfgErr
  else
    let s := s.setReg a (v &&& 0x007FFFFF)
    if F.ETH_PTP_CFG_DUAL.of v = 0 && F.ETH_PTP_CFG_DUAL.of old = 1 && s.bit A.ETH_STAT F.ETH_STAT_ACTB then
      s.switchDomain false
    else s

/-- A write of ETH_PAIR_CTL: MODE while both ports are OFF. -/
def Dev.pairCtlWrite (s : Dev) (q : Nat) (v : Word) : Dev :=
  let a := A.ETH_PAIR_CTL q
  let s := if F.ETH_PAIR_CTL_DDTIME.of v = 0 then s else s.set a F.ETH_PAIR_CTL_DDTIME (F.ETH_PAIR_CTL_DDTIME.of v)
  let m := F.ETH_PAIR_CTL_MODE.of v
  if m = s.get a F.ETH_PAIR_CTL_MODE || m = 3 then s
  else if s.portMode (2 * q) = 0 && s.portMode (2 * q + 1) = 0 then s.set a F.ETH_PAIR_CTL_MODE m
  else s.ethCfgErr

/-- Two fields have bytes in common. -/
def overlaps (a b : Lay) : Bool := decide (a.ofs < b.ofs + b.width) && decide (b.ofs < a.ofs + a.width)

/-- A write of ETH_FLD_CFG (R366, R349). -/
def Dev.ethFldWrite (s : Dev) (k : Nat) (v : Word) : Dev :=
  let a := A.ETH_FLD_CFG k
  let old := s.reg a
  let w := v &&& 0xFFFFFFE0
  let w := if F.ETH_FLD_CFG_FMT.of w = 7 then putBits w 7 5 (F.ETH_FLD_CFG_FMT.of old) else w
  let w := if 1513 < F.ETH_FLD_CFG_OFS.of w then putBits w 21 11 (F.ETH_FLD_CFG_OFS.of old) else w
  let on := F.ETH_FLD_CFG_EN.of w == 1
  let obj := F.ETH_FLD_CFG_OBJ.of w
  let tx := on && F.ETH_FLD_CFG_DIR.of w == 1
  let beyond := tx && decide (s.get (A.ETH_TXO_TPL obj) F.ETH_TXO_TPL_LEN < F.ETH_FLD_CFG_OFS.of w + (ethLay w).width)
  let ovr := tx && (s.ethFieldsOf 1 obj).any (fun j => j != k && overlaps (ethLay w) (ethLay (s.reg (A.ETH_FLD_CFG j))))
  if (F.ETH_FLD_CFG_EN.of old == 1 && on) || beyond || ovr then s.ethCfgErr
  else
    let s := s.setReg a w
    if F.ETH_FLD_CFG_EN.of old = 1 then
      { s with points := tabPut Pt.none (tabPut Pt.none s.points (ethRxHandle k).toNat Pt.none) (ethTxHandle k).toNat Pt.none }
    else s

/-- A write of ETH_RXO_CFG restarts the station's time. -/
def Dev.rxoWrite (s : Dev) (j : Nat) : Dev := s.onEth fun e => { e with seen := tabPut 0 e.seen j (s.ticks + 1) }

end Sys2Proof.Machine
end

