-- ==== Sys2Proof/Machine/EthCmd.lean ====
section
/-! DEFINITION. The commands of the Ethernet block (chapter 17). -/

namespace Sys2Proof.Machine

/-- PORT_MODE_WRITE (R354). -/
def execPortModeWrite (p : Fin 8) (m : Fin 8) (s : State) : Out := s.go (·.portModeWrite p.val m.val)
/-- ETH_FRAME_RECEIVED (R357, R365): a frame without its check sequence arrives whole on a port; `sync` names the domain
(true: B) and the offset in ns that firmware measures with a Sync (R360). -/
def execEthFrameReceived (p : Fin 8) (bytes : List Byte) (sync : Option (Bool × Int)) (s : State) : Out :=
  s.live (·.ethReceive p.val bytes sync)
/-- MASTER_LOSS (R362) of domain A, or B. -/
def execMasterLoss (b : Bool) (s : State) : Out := s.live (·.masterLoss b)
/-- HOLDOVER_UPDATE (R362). -/
def execHoldoverUpdate (s : State) : Out := s.live Dev.holdoverUpdate
/-- AUTOREV_RETURN (R363). -/
def execAutorevReturn (s : State) : Out := s.live Dev.autorev
/-- ETH_STATION_ABSENT (R367). -/
def execEthStationAbsent (j : Fin 64) (s : State) : Out := s.live (·.ethAbsent j.val)
/-- SUPERVISION_FRAME (R368). -/
def execSupervisionFrame (q : Fin 4) (s : State) : Out := s.live (·.supervision q.val)
/-- DUPLICATE_ENTRY_FORGOTTEN (R369). -/
def execDuplicateEntryForgotten (q : Fin 4) (s : State) : Out := s.go (·.ddForget q.val)
/-- MAC_ENTRY_AGEING (R355). -/
def execMacEntryAgeing (s : State) : Out := s.go Dev.macAge
/-- GATE_ENTRY_END (R356). -/
def execGateEntryEnd (p : Fin 8) (s : State) : Out := s.live (·.gateEntryEnd p.val)
/-- PTP_MASTER_SYNC (R358). -/
def execPtpMasterSync (p : Fin 8) (s : State) : Out := s.live (·.masterSync p.val)

end Sys2Proof.Machine
end

