-- ==== Sys2Proof/Machine/Mbx.lean ====
section
/-! DEFINITION. Mailbox channels (chapter 20): ends and identities, posts with their stamps, takes, discards, and the
judging of journaled work (R413). -/

namespace Sys2Proof.Machine

def Dev.mend (s : Dev) (m e : Nat) : MbxEnd := tabGet MbxEnd.init s.mbx (m * 2 + e)
def Dev.onMend (s : Dev) (m e : Nat) (f : MbxEnd → MbxEnd) : Dev :=
  { s with mbx := tabPut MbxEnd.init s.mbx (m * 2 + e) (f (s.mend m e)) }

def Notice.none : Notice := ⟨0, 0, 0, 0⟩

/-- Identity 0x38 supervisor cores, 0x3F host (R418), and engines by requester (R51). -/
def identOf (req : Nat) : Nat := if req ≤ 2 then 0x3F else if req ≤ 6 then 0x38 else req - 6

/-- Identities of R418. -/
def identOk (i : Nat) : Bool :=
  (decide (1 ≤ i) && decide (i ≤ 8)) || i == 0x32 || i == 0x38 || i == 0x39 || i == 0x3F ||
    (decide (0x40 ≤ i) && decide (i ≤ 0x4F)) || (decide (0x80 ≤ i) && decide (i ≤ 0x9F))

/-- A channel among MB48-MB63 with a route (R387). -/
def Dev.routed (s : Dev) (m : Nat) : Bool := decide (48 ≤ m) && s.bit (A.PLJ_MBX_ROUTE (m - 48)) F.PLJ_MBX_ROUTE_EN

/-- Device behind a route. -/
def Dev.routeDev (s : Dev) (m : Nat) : Nat :=
  s.get (A.PLJ_SEGT_CFG (s.get (A.PLJ_MBX_ROUTE (m - 48)) F.PLJ_MBX_ROUTE_ENT)) F.PLJ_SEGT_CFG_DEV

/-- Identity of an end: END1 of MB2 is the safety island, of a routed channel the remote device (R417). -/
def Dev.endIdent (s : Dev) (m e : Nat) : Nat :=
  if e = 0 then s.get (A.MBX_CH_CFG m) F.MBX_CH_CFG_END0
  else if m = 2 then 0x39
  else if s.routed m then 0x80 + s.routeDev m
  else s.get (A.MBX_CH_CFG m) F.MBX_CH_CFG_END1

/-- The end that an identity has on a channel. -/
def Dev.endOf (s : Dev) (m ident : Nat) : Option Nat :=
  if s.endIdent m 0 = ident then some 0 else if s.endIdent m 1 = ident then some 1 else none

/-- Reset epoch of an identity. -/
def Dev.epochOf (s : Dev) (ident : Nat) : Nat := s.get (A.MBX_EPOCH ident) F.MBX_EPOCH_EPOCH

/-- The stamp word (R419). -/
def stampWord (ident epoch : Nat) (sec : Bool) : Word :=
  BitVec.ofNat 32 ((if sec then 0x10000 else 0) + epoch % 256 * 256 + ident)

/-! ## Pages of notices (R423) -/

/-- The page of channel `m` whose address a handle is. -/
def Dev.noticePage (s : Dev) (m : Nat) (h : Dbl) : Option Nat :=
  let p := h.toNat / 0x1000 - 0x1000
  if 0x1000000 ≤ h.toNat && h.toNat % 0x1000 == 0 && p < 10240 && s.pageSub p == some m then some p else none

/-- A notice is gone: its page is freed (from the next tick, R68). -/
def Dev.freeNotice (s : Dev) (m : Nat) (h : Dbl) : Dev :=
  match s.noticePage m h with
  | some p => if s.later.contains (.pageFree p) then s else s.after (.pageFree p)
  | none => s

/-! ## Posts (R421, R422) -/

/-- Outcome of a post: POSTED, FULL, or ERROR with its cause. -/
inductive PostRes where
  | posted | full | error (cause : Nat)
  deriving DecidableEq, Repr

def PostRes.pres : PostRes → Nat
  | .posted => 1 | .full => 2 | .error _ => 3
def PostRes.cause : PostRes → Nat
  | .error c => c | _ => 0

/-- The checks of a post in their order; `own` marks a post through this device's own host port or cores (R398). -/
def Dev.postCheck (s : Dev) (m ident : Nat) (sec own : Bool) : PostRes :=
  match s.endOf m ident with
  | none => .error 1
  | some e =>
    let r := s.endIdent m (1 - e)
    if !s.bit (A.MBX_CH_CFG m) F.MBX_CH_CFG_EN then .error 1
    else if !sec && m < 16 then .error 2
    else if (0x40 ≤ r && r ≤ 0x4F) || s.inReset.contains r then .error 3
    else if own && s.roleStandby then .error 4
    else if 16 ≤ (s.mend m (1 - e)).queue.length then .full
    else .posted

/-- The host's end is told by its MSI-X vector, once on a tick (R428). -/
def Dev.msix (s : Dev) (m : Nat) : Dev :=
  let c := s.reg (A.MBX_CH_CFG m)
  let x : Sent := ⟨3, F.MBX_CH_CFG_VEC.of c, 1, [BitVec.ofNat 32 m]⟩
  if F.MBX_CH_CFG_IRQEN.of c = 1 && !s.sent.contains x then { s with sent := s.sent ++ [x] } else s

/-- A notice enters the queue of an end: the host's vector, an engine's event tasks (R80, R82). -/
def Dev.enterQueue (s : Dev) (m e : Nat) (x : Notice) : Dev :=
  let s := s.onMend m e fun d => { d with queue := d.queue ++ [x] }
  let i := s.endIdent m e
  if i = 0x3F then s.msix m
  else if 1 ≤ i && i ≤ 8 then s.taskEventOn [i - 1] 2 m
  else s

/-- Senders outside the units: host, supervisor cores, remote devices; their notices enter the input set (R393). -/
def isOutside (i : Nat) : Bool := i == 0x3F || i == 0x38 || decide (0x80 ≤ i)

/-- The notice is a piece of journaled work (R411): channel `m` is set in DUO_JCH and the sender is outside, at END0 when
both ends are (DEDUCED, log 30). -/
def Dev.journaled (s : Dev) (m e : Nat) : Bool :=
  let mask := if m < 32 then (s.reg A.DUO_JCH_LO).getLsbD m else (s.reg A.DUO_JCH_HI).getLsbD (m - 32)
  mask && isOutside (s.endIdent m e) && (e == 0 || !isOutside (s.endIdent m 0))

/-- The notice is a command of a host session (R431), which enters the input set as a HOSTCMD entry alone. -/
def Dev.isSession (s : Dev) (m e : Nat) : Bool :=
  e == 0 && ((decide (4 ≤ m) && decide (m ≤ 11)) || (decide (24 ≤ m) && decide (m ≤ 31))) &&
    s.endIdent m 0 == 0x3F && s.endIdent m 1 == 0x38

/-- New, duplicate or gap (R413). -/
inductive Judged where
  | new | dup | gap
  deriving DecidableEq, Repr

def judge (seq last : Word) : Judged :=
  let d := (seq - last).toInt
  if d = 1 then .new else if d ≤ 0 then .dup else .gap

/-- An acknowledgement waits for its release (R412). -/
def Dev.queueAck (s : Dev) (m dst : Nat) (tag : Word) (handle : Dbl) : Dev :=
  { s with acks := s.acks ++ [⟨m, dst, tag, handle, s.epochNow, s.ticks⟩] }

/-- A notice that passed the checks is judged if it is journaled work, else enters the queue. -/
def Dev.acceptNotice (s : Dev) (m e : Nat) (x : Notice) : Dev :=
  if s.journaled m e then
    let a := A.DUO_SRC m
    match judge x.tag (s.reg a) with
    | .new => ((s.setReg a x.tag).enterQueue m (1 - e) x).queueAck m e x.tag 0
    | .dup => s.queueAck m e x.tag 1
    | .gap => s.queueAck m e (s.reg a + 1) 2
  else s.enterQueue m (1 - e) x

/-- A post of an identity with a given stamp. -/
def Dev.postStamped (s : Dev) (m ident : Nat) (sec own : Bool) (handle : Dbl) (tag stamp : Word) : Dev × PostRes :=
  let r := s.postCheck m ident sec own
  let s := match s.endOf m ident with
    | some e => s.onMend m e fun d => { d with pres := r.pres, ecause := r.cause }
    | none => s
  match r, s.endOf m ident with
  | .posted, some e =>
    let s := if isOutside ident && !s.isSession m e then
        s.collect 4 (BitVec.ofNat 32 m) tag stamp [handle.setWidth 32, (handle >>> 32).setWidth 32]
      else s
    let s := s.output 0x32 [BitVec.ofNat 32 m, tag, stamp, handle.setWidth 32, (handle >>> 32).setWidth 32]
    (s.acceptNotice m e ⟨handle, tag, stamp, s.ticks⟩, r)
  | _, _ => (s, r)

/-- A post of a unit of this device (R421): the mailbox unit writes the stamp. -/
def Dev.mbxPost (s : Dev) (m ident : Nat) (sec own : Bool) (handle : Dbl) (tag : Word) : Dev × PostRes :=
  s.postStamped m ident sec own handle tag (stampWord ident (s.epochOf ident) sec)

/-! ## Takes (R423) -/

/-- The held notice's page is freed. -/
def Dev.mbxFreeHeld (s : Dev) (m e : Nat) : Dev :=
  let d := s.mend m e
  if d.heldPage then (s.freeNotice m d.held.handle).onMend m e fun d => { d with heldPage := false } else s

/-- The DISCARDED notice that stands for a count (R424). -/
def discNotice (n tick : Nat) : Notice :=
  ⟨BitVec.ofNat 64 n, 0xFFFFFFFE, stampWord 0x32 0 true, tick⟩

/-- A take by an end: the head that was visible at the start of the tick, then the reserved place. -/
def Dev.mbxTake (s : Dev) (m e : Nat) : Dev × Option Notice :=
  let d := s.mend m e
  match d.queue with
  | x :: rest =>
    if x.tick < s.ticks then
      ((s.mbxFreeHeld m e).onMend m e fun d =>
        { d with queue := rest, held := x, heldPage := (s.noticePage m x.handle).isSome, tok := true }, some x)
    else (s.onMend m e fun d => { d with tok := false }, none)
  | [] =>
    if d.disc = 0 then (s.onMend m e fun d => { d with tok := false }, none)
    else
      let x := discNotice d.disc s.ticks
      ((s.mbxFreeHeld m e).onMend m e fun d => { d with disc := 0, held := x, heldPage := false, tok := true }, some x)

/-! ## Resets (R424) -/

/-- A receiver's unit is reset: notices for its end are discarded with the held one, their pages freed, and the other end
gets one DISCARDED notice. -/
def Dev.mbxDiscard (s : Dev) (m e : Nat) : Dev :=
  let d := s.mend m e
  let n := d.queue.length
  let s := d.queue.foldl (fun s x => s.freeNotice m x.handle) (s.mbxFreeHeld m e)
  let s := s.onMend m e fun d => { d with queue := [], disc := 0, held := Notice.none, heldPage := false }
  if n = 0 then s
  else
    let s := s.onMend m (1 - e) fun d => { d with disc := min (d.disc + n) 0xFFFFFFFF }
    if s.endIdent m (1 - e) = 0x3F then s.msix m else s

/-- The unit behind an identity is reset alone. -/
def Dev.mbxReset (s : Dev) (ident : Nat) : Dev :=
  let s := s.set (A.MBX_EPOCH ident) F.MBX_EPOCH_EPOCH (s.epochOf ident + 1)
  let s := { s with inReset := s.inReset ++ [ident] }
  s.each 64 fun s m =>
    match s.endOf m ident with
    | some e => s.mbxDiscard m e
    | none => s

/-! ## What an end reads -/

/-- MBX_STAT as an end reads it. -/
def Dev.mbxStat (s : Dev) (m e : Nat) : Word :=
  let d := s.mend m e
  let o := s.mend m (1 - e)
  BitVec.ofNat 32 (d.pres * 2 ^ 30 + d.ecause * 2 ^ 27 + o.queue.length * 2 ^ 17 +
    (d.queue.length + (if d.disc = 0 then 0 else 1)) * 2 ^ 12 +
    s.get (A.MBX_STAT m) F.MBX_STAT_CFGERR * 4 + (if d.tok then 2 else 0) + (if d.disc = 0 then 0 else 1))

/-- A register of a channel as a requester's own end reads it; a requester that is no endpoint reads 0. -/
def Dev.mbxRead (s : Dev) (req m ofs : Nat) : Word :=
  match s.endOf m (identOf req) with
  | none => 0
  | some e =>
    let d := s.mend m e
    if ofs = 0x04 || ofs = 0x08 then s.reg0 (reqKey req (A.MBX_CH_CFG m + ofs))
    else if ofs = 0x10 then d.held.handle.setWidth 32
    else if ofs = 0x14 then (d.held.handle >>> 32).setWidth 32
    else if ofs = 0x18 then d.held.tag
    else if ofs = 0x1C then d.held.stamp
    else if ofs = 0x24 then s.mbxStat m e
    else if ofs = 0x28 then BitVec.ofNat 32 (d.res * 2 ^ 29 + d.page)
    else 0

end Sys2Proof.Machine
end

