-- ==== Sys2Proof/Machine/Glue.lean ====
section
/-! DEFINITION. Glue-up slots (R213-R223): launch and decision of a coordinator, readiness of participants, the way from
COMMIT to the switch. The switch itself, which reaches the sequencer, stands in GlueCmd.lean. -/

namespace Sys2Proof.Machine

/-- Codes of GLU_STAT.STATE. -/
def gsFree : Nat := 0
def gsBuild : Nat := 1
def gsArming : Nat := 2
def gsArmed : Nat := 3
def gsCommit : Nat := 4
def gsReport : Nat := 5
def gsCommitted : Nat := 8
def gsAborted : Nat := 9
def gsSplit : Nat := 0xA
def gsSwitched : Nat := 0xB
def gsNotSwitched : Nat := 0xC

/-- Codes of GLU_STAT.CAUSE. -/
def gcLaunch : Nat := 1
def gcRefused : Nat := 2
def gcCancel : Nat := 3
def gcNoReply : Nat := 4
def gcNoDec : Nat := 5
def gcNoReport : Nat := 6

def Dev.glu (s : Dev) (n : Nat) : Glu := tabGet Glu.idle s.glus n
def Dev.onGlu (s : Dev) (n : Nat) (f : Glu → Glu) : Dev := { s with glus := tabPut Glu.idle s.glus n (f (s.glu n)) }
def Dev.gluState (s : Dev) (n : Nat) : Nat := s.get (A.GLU_STAT n) F.GLU_STAT_STATE
def Dev.setGluState (s : Dev) (n st : Nat) : Dev := s.set (A.GLU_STAT n) F.GLU_STAT_STATE st
def Dev.gluCause (s : Dev) (n c : Nat) : Dev := s.set (A.GLU_STAT n) F.GLU_STAT_CAUSE c
/-- A command that does not fit the slot's state (R221). -/
def Dev.gluCmdErr (s : Dev) (n : Nat) : Dev := s.raise (A.GLU_STAT n) F.GLU_STAT_CMDERR
def Dev.gluT (s : Dev) (n : Nat) : Nat := (s.pair (A.GLU_T_LO n)).toNat
/-- The margin in ns. -/
def Dev.gluMargin (s : Dev) (n : Nat) : Nat := s.get (A.GLU_MARGIN n) F.GLU_MARGIN_MARGIN * 10000

/-- Final states of R222. -/
def gluFinal (st : Nat) : Bool := decide (8 ≤ st) && decide (st ≤ 0xC)

/-- Participants listed: number, kind and index. -/
def Dev.gluParts (s : Dev) (n : Nat) : List (Nat × Nat × Nat) :=
  ((upto (s.get (A.GLU_CTL n) F.GLU_CTL_NPART)).map (fun k =>
    (k, s.get (A.GLU_PART n k) F.GLU_PART_KIND, s.get (A.GLU_PART n k) F.GLU_PART_IDX))).filter (fun x => x.2.1 != 0)

/-- Readiness of a local participant (R215). -/
def Dev.gluReady (s : Dev) (kind idx : Nat) : Bool :=
  if kind = 1 then decide (idx < 8) && (s.tile idx).accepted
  else if kind = 2 then decide (idx < 8) && s.peMode idx == 1
  else if kind = 3 then
    decide (idx < 16) &&
      (let m := s.get (A.SEQ_CTX_STAT idx) F.SEQ_CTX_STAT_MODE
       m == 1 || m == 2)
  else false

/-- A device of the own segment is reached only through V1 ports (R388). -/
def Dev.onlyV1 (s : Dev) (d : Nat) : Bool :=
  let ps := tabGet [] s.via d
  !ps.isEmpty && ps.all (fun p => s.bit (A.PLJ_PORT_STAT p) F.PLJ_PORT_STAT_V1)

/-- The device of a segment-table entry is one of the own segment that only V1 ports reach. -/
def Dev.entryV1 (s : Dev) (e : Nat) : Bool :=
  let c := s.reg (A.PLJ_SEGT_CFG e)
  F.PLJ_SEGT_CFG_SEG.of c == s.get A.PLJ_ID F.PLJ_ID_SEG && s.onlyV1 (F.PLJ_SEGT_CFG_DEV.of c)

/-- Messages of a glue-up, first word of what is sent. -/
def gmArm : Word := 1
def gmArmed : Word := 2
def gmRefused : Word := 3
def gmCommit : Word := 4
def gmAbort : Word := 5
def gmReport : Word := 6

/-- Send a glue-up message to a device (R386): as a GLU frame, and by the root of the segment to another segment over
Ethernet. -/
def Dev.gluSend (s : Dev) (n seg dev : Nat) (msg : Word) (extra : List Word) : Dev :=
  let id := s.reg A.PLJ_ID
  let ws := [msg, BitVec.ofNat 32 n, BitVec.ofNat 32 seg] ++ extra
  let far := seg != F.PLJ_ID_SEG.of id && s.get A.PLJ_CFG F.PLJ_CFG_ROOT == F.PLJ_ID_DEV.of id
  let x : Sent := if far then ⟨1, s.get A.PLJ_CFG F.PLJ_CFG_GWPORT, 0x88B5, [0x59430002, BitVec.ofNat 32 dev] ++ ws⟩
    else ⟨2, dev, 6, ws⟩
  s.emit x

/-- Send to the remote participants, but for those behind V1 ports, over which no GLU frame goes (R388). -/
def Dev.gluSendAll (s : Dev) (n : Nat) (msg : Word) (extra : List Word) : Dev :=
  (s.gluParts n).foldl (fun s p =>
    if p.2.1 = 4 && !s.entryV1 p.2.2 then
      let c := s.reg (A.PLJ_SEGT_CFG p.2.2)
      s.gluSend n (F.PLJ_SEGT_CFG_SEG.of c) (F.PLJ_SEGT_CFG_DEV.of c) msg extra
    else s) s

/-- Send to the coordinator that GLU_STAT names. -/
def Dev.gluSendCoord (s : Dev) (n : Nat) (msg : Word) (extra : List Word) : Dev :=
  s.gluSend n (s.get (A.GLU_STAT n) F.GLU_STAT_CSEG) (s.get (A.GLU_STAT n) F.GLU_STAT_CDEV) msg extra

/-- The words of T. -/
def Dev.gluTWords (s : Dev) (n : Nat) : List Word := [s.reg (A.GLU_T_LO n), s.reg (A.GLU_T_HI n)]

/-- Clear the reports of a slot's participants. -/
def Dev.gluClearParts (s : Dev) (n : Nat) : Dev :=
  s.each 32 fun s k =>
    let a := A.GLU_PART n k
    ((s.set a F.GLU_PART_ARM 0).set a F.GLU_PART_SW 0).set a F.GLU_PART_OFS 0

/-- LAUNCH (R214), with the T of a GLUGO action. -/
def Dev.gluLaunch (s : Dev) (n : Nat) (t : Option Dbl) : Dev :=
  if s.gluState n != gsBuild then s.gluCmdErr n
  else
    let s := match t with | some t => s.setPair (A.GLU_T_LO n) t | none => s
    if s.bit A.TIME_STAT F.TIME_STAT_OFFSYNC || decide (s.gluT n ≤ s.ts.toNat + s.gluMargin n) then s.gluCause n gcLaunch
    else
      let s := (s.gluCause n 0).gluClearParts n
      let a := A.GLU_STAT n
      let s := ((s.set a F.GLU_STAT_COORD 1).set a F.GLU_STAT_OFFSYNC 0).set a F.GLU_STAT_LATE 0
      let s := (s.setGluState n gsArming).onGlu n fun g => { g with launch := g.launch + 1, commit := 0 }
      s.after (.gluArm n (s.glu n).launch)

/-- The slot is aborted on the coordinator: ABORT is sent and waiting loop requests are discarded (R216, R176). -/
def Dev.gluAbort (s : Dev) (n cause : Nat) : Dev :=
  (((s.gluCause n cause).setGluState n gsAborted).gluSendAll n gmAbort []).loopGlueDrop n

/-- The slot holds COMMIT: its comparator is armed for T; LATE when T has passed (R217). -/
def Dev.gluCommit (s : Dev) (n : Nat) : Dev :=
  let s := (s.setGluState n gsCommit).onGlu n fun g => { g with commit := s.ticks + 1 }
  if s.gluT n < s.ts.toNat then s.set (A.GLU_STAT n) F.GLU_STAT_LATE 1 else s

/-- Every listed participant has replied ARMED: COMMIT is sent (R216). -/
def Dev.gluDecide (s : Dev) (n : Nat) : Dev :=
  if (s.gluParts n).all (fun p => s.bit (A.GLU_PART n p.1) F.GLU_PART_ARM) then (s.gluSendAll n gmCommit []).gluCommit n
  else s

/-- Note the replies of participants (each with its readiness) and decide (R216). -/
def Dev.gluReplies (s : Dev) (n : Nat) (arms : List (Nat × Bool)) : Dev :=
  let s := arms.foldl (fun s x => if x.2 then s.set (A.GLU_PART n x.1) F.GLU_PART_ARM 1 else s) s
  if arms.any (fun x => !x.2) then s.gluAbort n gcRefused else s.gluDecide n

/-- ARM goes out: to remote participants as a frame; the local ones, and those behind V1 ports (R388), reply one tick
later (DEDUCED, log 32). -/
def Dev.gluArm (s : Dev) (n launch : Nat) : Dev :=
  if s.gluState n = gsArming && (s.glu n).launch == launch then
    let far (p : Nat × Nat × Nat) : Bool := p.2.1 == 4 && !s.entryV1 p.2.2
    let near := (s.gluParts n).filter (fun p => !far p)
    (s.gluSendAll n gmArm (s.gluTWords n)).after (.gluReply n launch (near.map (fun p => (p.1, s.gluReady p.2.1 p.2.2))))
  else s

/-- The local participants have replied. -/
def Dev.gluLocalReply (s : Dev) (n launch : Nat) (arms : List (Nat × Bool)) : Dev :=
  if s.gluState n = gsArming && (s.glu n).launch == launch then s.gluReplies n arms else s

/-- The slot's comparator fires on this tick (R217): COMMIT held since an earlier tick and T reached. -/
def Dev.gluDue (s : Dev) (n : Nat) : Bool :=
  s.gluState n == gsCommit && decide ((s.glu n).commit < s.ticks + 1) && decide (s.gluT n ≤ s.ts.toNat)

/-- A unit whose code is `code` may write M word `i`: an engine its own partition, every unit the words granted to it
(R16). -/
def Dev.mWritable (s : Dev) (i code : Nat) : Bool :=
  (1 ≤ code && code ≤ 8 && s.get (A.SYS_MMAP (i / 131072)) F.SYS_MMAP_ENG == code - 1) || s.granted i code

/-- Owner code of a requester's unit. -/
def codeOf (req : Nat) : Nat := if req ≤ 2 then 0x3F else if req ≤ 6 then 0x38 else req - 6

/-- A staged write on the switch tick, as a write of the unit that staged it (R217). -/
def Dev.gluStaged (s : Dev) (n j : Nat) : Dev :=
  let h := s.reg (A.GLU_STG_H n j)
  let v := s.reg (A.GLU_STG_V n j)
  let req := tabGet 1 (s.glu n).staged j - 1
  if hclass h = 0x20 && validHandle h then s.spWrite (writerOf req) (hindex h) ⟨v, true⟩
  else if hclass h = 0x08 && validHandle h && s.mWritable (hindex h) (codeOf req) then (s.mStore (hindex h) v).1
  else s

end Sys2Proof.Machine
end

