-- ==== Sys2Proof/Machine/Seq.lean ====
section
/-! DEFINITION. Sequencer contexts (R195-R212): step programs and their checks, pages, entries, entry actions, ramps and
the evaluation of transitions. -/

namespace Sys2Proof.Machine

def Dev.ctx (s : Dev) (n : Nat) : Ctx := tabGet Ctx.idle s.ctxs n
def Dev.onCtx (s : Dev) (n : Nat) (f : Ctx → Ctx) : Dev := { s with ctxs := tabPut Ctx.idle s.ctxs n (f (s.ctx n)) }

/-- Modes of SEQ_CTX_STAT. -/
def cmIdle : Nat := 0
def cmRunning : Nat := 1
def cmPaused : Nat := 2
def cmFaulted : Nat := 3

def Dev.ctxMode (s : Dev) (n : Nat) : Nat := s.get (A.SEQ_CTX_STAT n) F.SEQ_CTX_STAT_MODE
def Dev.setCtxMode (s : Dev) (n m : Nat) : Dev := s.set (A.SEQ_CTX_STAT n) F.SEQ_CTX_STAT_MODE m
def Dev.ctxCause (s : Dev) (n c : Nat) : Dev := s.set (A.SEQ_CTX_STAT n) F.SEQ_CTX_STAT_CAUSE c
def Dev.ctxCfgErr (s : Dev) (n : Nat) : Dev := s.raise (A.SEQ_CTX_STAT n) F.SEQ_CTX_STAT_CFGERR

/-- Codes of CAUSE. -/
def scRecord : Nat := 1
def scStepnum : Nat := 2
def scPage : Nat := 3
def scAlloc : Nat := 4
def scTimeout : Nat := 5
def scHeader : Nat := 8
def scClaim : Nat := 9
def scBank : Nat := 0xA

/-- Codes of LASTTR beside transitions 0-3. -/
def trTimeout : Nat := 4
def trStart : Nat := 5
def trAbort : Nat := 6
def trOther : Nat := 7

/-- Scribe source and owner code of a context's unit. -/
def seqSrc (n : Nat) : Nat := 0x20 + n / 8
def Dev.seqOffer (s : Dev) (n : Nat) (ev : Ev) : Dev := s.offer (seqSrc n) 0x07 ev

/-- The resource manager's sub-client of a context (R196). -/
def ctxSub (n : Nat) : Nat := 64 + n

/-! ## The program (R196, R197) -/

def Dev.resident (s : Dev) (n : Nat) : Bool := s.bit (A.SEQ_CTX_PROG n) F.SEQ_CTX_PROG_SRC

/-- Pool page of page `p` of the program: in place in a bank that the unit owns, or a page that the context holds. -/
def Dev.progPage (s : Dev) (n p : Nat) : Option Nat :=
  if s.resident n then
    let b := s.get (A.SEQ_CTX_PROG n) F.SEQ_CTX_PROG_BANK
    let a := s.get (A.SEQ_CTX_PROG n) F.SEQ_CTX_PROG_ADDR
    if b < 80 && a + p < 128 && s.owner b == seqSrc n then some (b * 128 + a + p) else none
  else
    match tabGet 0 (s.ctx n).pages p with
    | 0 => none
    | k + 1 => some k

/-- What looking into the program gives: a value, a page that is not present, or a fault's cause. -/
inductive Prog (α : Type) where
  | ok (a : α)
  | need (page : Nat)
  | fault (cause : Nat)

/-- Words `w, w+1, …` of page `p` of the program. A RESIDENT page that is not there, and a line with poison, are a PAGE
fault (R208). -/
def Dev.progWords (s : Dev) (n p w : Nat) : Nat → Dev × Prog (List Word)
  | 0 => (s, .ok [])
  | k + 1 =>
    match s.progPage n p with
    | none => (s, if s.resident n then .fault scPage else .need p)
    | some q =>
      match s.readMem (q * 4096 + 4 * w) 4 with
      | (s, none) => (s, .fault scPage)
      | (s, some v) =>
        match s.progWords n p (w + 1) k with
        | (s, .ok ws) => (s, .ok (BitVec.ofNat 32 v :: ws))
        | r => r

/-- The program's header. -/
structure Header where
  nsteps : Nat
  first : Nat
  safe : Nat
  npages : Nat
  claimBase : Nat
  claimCnt : Nat
  deriving DecidableEq, Repr

/-- NT: pages of header and step table (R197). -/
def Header.nt (h : Header) : Nat := (16 + h.nsteps + 1023) / 1024

def headerOf (ws : List Word) : Header :=
  let w (i : Nat) : Word := ws.getD i 0
  ⟨(w 1).toNat, bitsOf (w 2) 15 0, bitsOf (w 2) 31 16, (w 3).toNat, (w 4).toNat, (w 5).toNat⟩

/-- The header's check at a START (R197); the claim table lies in the first page, the program in the bank (DEDUCED,
log 31). -/
def Dev.headerOk (s : Dev) (n : Nat) (ws : List Word) : Bool :=
  let h := headerOf ws
  ws.getD 0 0 == 0x53510001 && decide (1 ≤ h.nsteps) && decide (h.nsteps ≤ 65535) && decide (1 ≤ h.npages) &&
    decide (h.npages ≤ 65536) && decide (h.claimCnt ≤ 256) && (h.claimCnt == 0 || decide (h.claimBase + h.claimCnt ≤ 1024)) &&
    decide (h.nt ≤ h.npages) && (ws.drop 7).all (fun w => w == 0) &&
    (!s.resident n || decide (s.get (A.SEQ_CTX_PROG n) F.SEQ_CTX_PROG_ADDR + h.npages ≤ 128))

def Dev.header (s : Dev) (n : Nat) : Dev × Prog Header :=
  match s.progWords n 0 0 16 with
  | (s, .ok ws) => (s, .ok (headerOf ws))
  | (s, .need p) => (s, .need p)
  | (s, .fault c) => (s, .fault c)

/-! ## Step records (R198-R201) -/

structure Cond where
  kind : Nat
  op : Nat
  fmt : Nat
  param : Nat
  handle : Word
  x : Word
  deriving DecidableEq, Repr

structure Trans where
  target : Nat
  join : Nat
  a : Cond
  b : Cond
  deriving DecidableEq, Repr

structure StepRec where
  resume : Nat
  timeout : Nat
  toTarget : Nat
  toFault : Bool
  trans : List Trans
  acts : List (List Word)
  deriving DecidableEq, Repr

def condOf (ws : List Word) : Cond :=
  let w := ws.getD 0 0
  ⟨bitsOf w 31 28, bitsOf w 27 25, bitsOf w 24 23, bitsOf w 4 0, ws.getD 1 0, ws.getD 2 0⟩

/-- A condition passes R201. Fields that its KIND does not use hold 0, but for PARAM, which R201 does not judge. -/
def condOk (ws : List Word) : Bool :=
  let c := condOf ws
  bitsOf (ws.getD 0 0) 22 5 == 0 && decide (c.kind ≤ 6) &&
    (if c.kind = 2 then validHandle c.handle && decide (c.op ≤ 5) && decide (c.fmt ≤ 2)
     else if c.kind = 3 then validHandle c.handle && decide (c.op ≤ 1) && c.fmt == 0
     else c.op == 0 && c.fmt == 0) &&
    (c.kind != 1 || decide (50 ≤ c.x.toNat))

def transOf (ws : List Word) : Trans :=
  let w := ws.getD 0 0
  ⟨bitsOf w 15 0, bitsOf w 17 16, condOf ((ws.drop 1).take 3), condOf ((ws.drop 4).take 3)⟩

def transOk (ws : List Word) : Bool :=
  let w := ws.getD 0 0
  bitsOf w 31 18 == 0 && bitsOf w 17 16 != 3 && ws.getD 7 0 == 0 && condOk ((ws.drop 1).take 3) &&
    (if bitsOf w 17 16 = 0 then ((ws.drop 4).take 3).all (fun x => x == 0) else condOk ((ws.drop 4).take 3))

/-- Bits of word 0 that an action's KIND uses, and the words that hold 0. -/
def actShape (kind : Nat) : Option (Word × List Nat) :=
  match kind with
  | 1 => some (0, [3])
  | 2 => some (0, [])
  | 3 => some (0x0FFFF003, [])
  | 4 => some (0x00000003, [1, 2, 3])
  | 5 => some (0x0003FFFF, [1, 2, 3])
  | 6 => some (0x0000003F, [])
  | 7 => some (0x0000FFFF, [2, 3])
  | 8 => some (0x0000001F, [2, 3])
  | _ => none

/-- An entry action passes R201. A handle that fails R16, or of class 0x40 as a destination (R21), is refused. -/
def actOk (ws : List Word) : Bool :=
  let w := ws.getD 0 0
  let h := ws.getD 1 0
  let kind := bitsOf w 31 28
  match actShape kind with
  | none => false
  | some (mask, zeros) =>
    (w &&& 0x0FFFFFFF &&& ~~~mask) == 0 && zeros.all (fun i => ws.getD i 0 == 0) &&
      (if kind = 1 then validHandle h && hclass h != 0x40
       else if kind = 2 then validHandle h && (hclass h == 0x19 || hclass h == 0x08 || hclass h == 0x31 || hclass h == 0x39)
       else if kind = 3 then validHandle h && (hclass h == 0x08 || hclass h == 0x11 || hclass h == 0x20) &&
         bitsOf w 27 12 != 0 && ws.getD 3 0 != 0
       else if kind = 7 then decide (0xE000 ≤ bitsOf w 15 0) && decide (bitsOf w 15 0 ≤ 0xEFFF)
       else if kind = 8 then h != 0
       else true)

/-- Cut a list into pieces of `k`, at most `n` of them. -/
def pieces (k : Nat) : Nat → List Word → List (List Word)
  | 0, _ => []
  | n + 1, ws => ws.take k :: pieces k n (ws.drop k)

/-- A step record as its words give it; none where R201 faults it. -/
def stepRecOf (step : Nat) (ws : List Word) : Option StepRec :=
  let w (i : Nat) : Word := ws.getD i 0
  let ntr := bitsOf (w 0) 20 18
  let nact := bitsOf (w 0) 26 21
  let ts := pieces 8 ntr (ws.drop 4)
  let acts := pieces 4 nact (ws.drop (4 + 8 * ntr))
  let ok := bitsOf (w 0) 15 0 == step && bitsOf (w 0) 31 27 == 0 && decide (1 ≤ ntr) && decide (ntr ≤ 4) &&
    decide (nact ≤ 32) && (w 3).toNat == 4 + 8 * ntr + 4 * nact && ws.length == 4 + 8 * ntr + 4 * nact &&
    bitsOf (w 2) 31 17 == 0 && (w 1 == 0 || decide (50 ≤ (w 1).toNat)) && ts.all transOk && acts.all actOk
  if ok then
    some ⟨bitsOf (w 0) 17 16, (w 1).toNat, bitsOf (w 2) 15 0, bitsOf (w 2) 16 16 == 1, ts.map transOf, acts⟩
  else none

/-- Where step `k` lies: page and word; STEPNUM without an entry in the step table, PAGE beyond NPAGES. -/
def Dev.stepPlace (s : Dev) (n k : Nat) : Dev × Prog (Nat × Nat) :=
  match s.header n with
  | (s, .ok h) =>
    if h.nsteps ≤ k then (s, .fault scStepnum)
    else
      match s.progWords n ((16 + k) / 1024) ((16 + k) % 1024) 1 with
      | (s, .ok ws) =>
        let e := ws.getD 0 0
        if e = 0xFFFFFFFF then (s, .fault scStepnum)
        else if h.npages ≤ bitsOf e 31 16 then (s, .fault scPage)
        else (s, .ok (bitsOf e 31 16, bitsOf e 9 0))
      | (s, .need p) => (s, .need p)
      | (s, .fault c) => (s, .fault c)
  | (s, .need p) => (s, .need p)
  | (s, .fault c) => (s, .fault c)

/-- The record of step `k`, checked (R201); it lies wholly within its page. -/
def Dev.stepRec (s : Dev) (n k : Nat) : Dev × Prog StepRec :=
  match s.stepPlace n k with
  | (s, .need p) => (s, .need p)
  | (s, .fault c) => (s, .fault c)
  | (s, .ok (p, w)) =>
    match s.progWords n p w 1 with
    | (s, .need p) => (s, .need p)
    | (s, .fault c) => (s, .fault c)
    | (s, .ok w0s) =>
      let w0 := w0s.getD 0 0
      let len := 4 + 8 * bitsOf w0 20 18 + 4 * bitsOf w0 26 21
      if 1024 < w + len then (s, .fault scRecord)
      else
        match s.progWords n p w len with
        | (s, .need p) => (s, .need p)
        | (s, .fault c) => (s, .fault c)
        | (s, .ok ws) =>
          match stepRecOf k ws with
          | some r => (s, .ok r)
          | none => (s, .fault scRecord)

/-! ## Pages (R206-R208) -/

/-- Ask the resource manager for a page of the program; a page asked for as a prefetch becomes a demand. -/
def Dev.pageAsk (s : Dev) (n p : Nat) (demand : Bool) : Dev :=
  if (s.ctx n).asked.any (fun x => x.1 == p) then
    if demand then
      (s.onCtx n fun c => { c with asked := c.asked.map (fun x => if x.1 = p then (p, true) else x) })
    else s
  else
    (s.onCtx n fun c => { c with asked := c.asked ++ [(p, demand)] }).onPool fun q =>
      { q with pageReqs := q.pageReqs ++ [⟨ctxSub n, 1, p⟩] }

/-- Free a page that the context holds (R68). -/
def Dev.pageDrop (s : Dev) (n p : Nat) : Dev :=
  match tabGet 0 (s.ctx n).pages p with
  | 0 => s
  | k + 1 => (s.onCtx n fun c => { c with pages := tabPut 0 c.pages p 0 }).after (.pageFree k)

/-- Give up every page of the context, and the requests and fetches under way. -/
def Dev.pagesDrop (s : Dev) (n : Nat) : Dev :=
  let s := (s.ctx n).pages.foldl (fun s x => s.pageDrop n x.1) s
  let u := n / 8
  let mine := (tabGet [] s.fetches u).filter (fun x => x.ctx == n)
  let s := mine.foldl (fun s x => s.after (.pageFree x.pool)) s
  let s := { s with fetches := tabPut [] s.fetches u ((tabGet [] s.fetches u).filter (fun x => x.ctx != n)) }
  let s := s.onPool fun q => { q with pageReqs := q.pageReqs.filter (fun r => !(r.kind == 1 && r.sub == ctxSub n)) }
  s.onCtx n fun c => { c with pages := [], asked := [] }

/-- Pages that a context holds while its current step lies on page `cur` (R206). -/
def Dev.pagesNeeded (s : Dev) (n cur : Nat) : Dev × List Nat :=
  match s.header n with
  | (s, .ok h) =>
    let head := upto h.nt ++ [cur, cur + 1, cur + 2].filter (fun p => p < h.npages)
    match s.stepPlace n h.safe with
    | (s, .ok (p, _)) => (s, head ++ [p])
    | (s, _) => (s, head)
  | (s, _) => (s, [0, cur])

/-- The pages after an entry of a step of page `cur`: those no longer needed are freed on the entry tick, the new ones
requested from the next tick (R206). -/
def Dev.pagesEnter (s : Dev) (n cur : Nat) : Dev :=
  if s.resident n then s
  else
    let (s, need) := s.pagesNeeded n cur
    let old := ((s.ctx n).pages.map (·.1)).filter (fun p => !need.contains p)
    (old.foldl (fun s p => s.pageDrop n p) s).after (.ctxPages n)

/-- Request the pages that the current step needs newly, as prefetches (R206). -/
def Dev.ctxPages (s : Dev) (n : Nat) : Dev :=
  if s.ctxMode n = cmIdle || s.resident n then s
  else
    match s.stepPlace n (s.ctx n).step with
    | (s, .ok (cur, _)) =>
      let (s, need) := s.pagesNeeded n cur
      need.foldl (fun s p => if tabGet 0 (s.ctx n).pages p = 0 then s.pageAsk n p false else s) s
    | (s, _) => s

/-! ## Faults (R210) -/

def Dev.rampsStop (s : Dev) (n : Nat) : Dev :=
  s.onCtx n fun c => { c with ramps := (c.ramps.map (fun x => (x.1, { x.2 with running := false }))) }

def Dev.ctxFault (s : Dev) (n cause : Nat) : Dev :=
  let s := ((s.rampsStop n).onCtx n fun c => { c with waiting := none, booting := false })
  ((s.setCtxMode n cmFaulted).ctxCause n cause).seqOffer n .seqFault

/-- The context becomes IDLE: ramps stop, pages are freed, claims are given up, written points keep their values. -/
def Dev.ctxIdle (s : Dev) (n : Nat) : Dev :=
  let s := (s.ctx n).claims.foldl (fun s h => s.dropClaim h (.context n)) (s.pagesDrop n)
  (s.onCtx n fun c => { c with ramps := [], claims := [], waiting := none, booting := false }).setCtxMode n cmIdle

/-! ## Writes of a context (R205) -/

/-- A write or post is ignored or refused: WIGN, and a Scribe record where the destination has made none. -/
def Dev.ctxIgnored (s : Dev) (n : Nat) (recorded : Bool) : Dev :=
  let s := s.raise (A.SEQ_CTX_STAT n) F.SEQ_CTX_STAT_WIGN
  if recorded then s else s.seqOffer n .seqIgnored

/-- Write a value through a handle. -/
def Dev.ctxWrite (s : Dev) (n : Nat) (h v : Word) : Dev :=
  let c := hclass h
  if c = 0x08 then
    if s.granted (hindex h) (seqSrc n) then
      match s.mStore (hindex h) v with
      | (s, .taken) => s
      | (s, _) => s.ctxIgnored n false
    else s.ctxIgnored n false
  else if c = 0x20 then
    let named := s.reg (A.LT_SLOT_SP (hindex h / 64) (hindex h % 64)) != 0
    let s := s.spWrite (.context n) (hindex h) ⟨v, true⟩
    if named then s.ctxIgnored n true else s
  else
    match s.deliver (.context n) h ⟨v, true⟩ with
    | (s, .ignored) => s.ctxIgnored n (claimedClass c)
    | (s, _) => s

/-! ## Ramps (R204) -/

/-- Value of a ramp at multiple `j`: the target from the first multiple at or beyond D. -/
def Ramp.at (r : Ramp) (j : Nat) : Dbl :=
  if r.dur ≤ j * r.riv then r.target
  else
    let frac := fdiv64 (e64 (Fl.ofInt ((j * r.riv : Nat) : Int))) (e64 (Fl.ofInt (r.dur : Int)))
    fadd64 r.start (fmul64 (fsub64 r.target r.start) frac)

def Ctx.ramp (c : Ctx) (g : Nat) : Ramp := tabGet Ramp.idle c.ramps g
def Dev.setRamp (s : Dev) (n g : Nat) (r : Ramp) : Dev :=
  s.onCtx n fun c => { c with ramps := tabPut Ramp.idle c.ramps g r }

/-- A ramp write is due on this tick: a multiple of RIV that has not been written. -/
def Dev.rampDue (s : Dev) (n g : Nat) : Bool :=
  let r := (s.ctx n).ramp g
  s.ctxMode n == cmRunning && r.running && decide (0 < r.riv) && r.ticks % (250 * r.riv) == 0 &&
    r.ticks / (250 * r.riv) != r.done

/-- Write the value of this multiple. -/
def Dev.ctxRamp (s : Dev) (n g : Nat) : Dev :=
  if s.rampDue n g then
    let r := (s.ctx n).ramp g
    let j := r.ticks / (250 * r.riv)
    let s := s.setRamp n g { r with done := j, running := decide (j * r.riv < r.dur) }
    s.ctxWrite n r.handle (dstValue (s.kind r.handle) 0 (r.at j))
  else s

/-- RAMP: S is the value at the start of the entry tick; an invalid value counts as 0. -/
def Dev.rampStart (s : Dev) (n g : Nat) (h target dur : Word) (riv : Nat) : Dev :=
  let p := s.hread h
  let v := if p.valid then readF64 (s.kind h) 0 p.val else 0
  s.setRamp n g ⟨true, h, v, widen target, dur.toNat, riv, 0, 0⟩

/-! ## Entry actions (R200, R203) -/

/-- MASK: DQ commands, or the masked bits of a word. -/
def Dev.ctxMask (s : Dev) (n : Nat) (h mask value : Word) : Dev :=
  if hclass h = 0x19 then
    s.each 32 fun s k =>
      if mask.getLsbD k && decide (hindex h + k ≤ 31) then
        s.ctxWrite n (mkHandle 0x19 (hindex h + k)) (if value.getLsbD k then 0xFFFF else 0)
      else s
  else s.ctxWrite n h (overlay mask value (s.hread h).val)

/-- One entry action. -/
def Dev.ctxAct (s : Dev) (n : Nat) (ws : List Word) : Dev :=
  let w (i : Nat) : Word := ws.getD i 0
  let w0 := w 0
  match bitsOf w0 31 28 with
  | 1 => s.ctxWrite n (w 1) (w 2)
  | 2 => s.ctxMask n (w 1) (w 2) (w 3)
  | 3 => s.rampStart n (bitsOf w0 1 0) (w 1) (w 2) (w 3) (bitsOf w0 27 12)
  | 4 => s.setRamp n (bitsOf w0 1 0) { (s.ctx n).ramp (bitsOf w0 1 0) with running := false }
  | 5 =>
    s.slotCtlWrite (bitsOf w0 8 0)
      (BitVec.ofNat 32 (bitsOf w0 17 13 * 16 + bitsOf w0 12 12 * 8 + bitsOf w0 11 9))
  | 6 =>
    match s.mbxPost (bitsOf w0 5 0) (0x40 + n) false false (w 3 ++ w 2) (w 1) with
    | (s, .posted) => s
    | (s, _) => s.ctxIgnored n false
  | 7 => s.offerCode (seqSrc n) (BitVec.ofNat 16 (bitsOf w0 15 0)) false [w 1, BitVec.ofNat 32 (s.ctx n).step]
  | 8 => s.gluLaunch (bitsOf w0 4 0) (some (s.ts + BitVec.ofNat 64 ((w 1).toNat * 1000)))
  | _ => s

/-! ## Entering a step (R202, R203, R206) -/

/-- The step is entered on this tick: the step time starts, ramp writes of this tick come first, the entry actions
follow in record order. -/
def Dev.ctxEnter (s : Dev) (n k code : Nat) (r : StepRec) (cur : Nat) : Dev :=
  let s := (s.each 4 fun s g => s.ctxRamp n g).output (seqSrc n) [BitVec.ofNat 32 n, BitVec.ofNat 32 k]
  let s := s.onCtx n fun c => { c with step := k, ticks := 0, evaled := 0, waiting := none }
  let s := s.set (A.SEQ_CTX_STAT n) F.SEQ_CTX_STAT_LASTTR code
  (r.acts.foldl (fun s ws => s.ctxAct n ws) s).pagesEnter n cur

/-- A transition to step `k` is taken: the step is entered at once, waits for its page (R207), or faults. -/
def Dev.ctxTake (s : Dev) (n k code : Nat) : Dev :=
  match s.stepRec n k with
  | (s, .fault c) => s.ctxFault n c
  | (s, .need p) => (s.pageAsk n p true).onCtx n fun c => { c with waiting := some ⟨some k, code, s.ticks, false⟩ }
  | (s, .ok r) =>
    match s.stepPlace n k with
    | (s, .ok (p, _)) => s.ctxEnter n k code r p
    | (s, _) => s

/-- A miss is counted and recorded (R207). -/
def Dev.missNote (s : Dev) (n tick : Nat) : Dev :=
  let a := A.SEQ_CTX_MISS n
  let s := (s.count a F.SEQ_CTX_MISS_COUNT 1).set a F.SEQ_CTX_MISS_LAST (min ((s.ticks + 1 - tick) / 250) 0xFFFF)
  (s.raise (A.SEQ_CTX_STAT n) F.SEQ_CTX_STAT_MISS).seqOffer n .seqMiss

/-- The missed page is there: the miss is counted and recorded and the step is entered on the next tick (R207). -/
def Dev.missDone (s : Dev) (n : Nat) (w : Wait) : Dev :=
  let s := s.missNote n w.tick
  (s.onCtx n fun c => { c with waiting := some { w with ready := true } }).after (.ctxEnter n)

/-- The claims of the claim table, or none when one cannot be taken (R205, R209). -/
def Dev.claimTable (s : Dev) (n : Nat) (h : Header) : Dev × Prog (List Word) :=
  match s.progWords n 0 h.claimBase h.claimCnt with
  | (s, .ok hs) =>
    if hs.all (fun x => validHandle x && claimedClass (hclass x) && s.claimFree x (.context n)) then (s, .ok hs)
    else (s, .fault scClaim)
  | (s, .need p) => (s, .need p)
  | (s, .fault _) => (s, .fault scHeader)

/-- A START is refused: the context stays IDLE and records the cause. -/
def Dev.startRefuse (s : Dev) (n cause : Nat) : Dev := ((s.ctxIdle n).ctxCause n cause)

/-- The checks of a START with the first page present, then its first step as a transition taken (R209). `step` is
SEQ_CTX_CTL.STEP, none for FIRST. -/
def Dev.startCheck (s : Dev) (n : Nat) (step : Option Nat) : Dev :=
  match s.progWords n 0 0 16 with
  | (s, .ok ws) =>
    if !s.headerOk n ws then s.startRefuse n scHeader
    else if s.owner (s.get (A.SEQ_UNIT_CFG (n / 8)) F.SEQ_UNIT_CFG_BANK) != seqSrc n then s.startRefuse n scBank
    else
      match s.claimTable n (headerOf ws) with
      | (s, .ok hs) =>
        let s := hs.foldl (fun s x => s.putClaim x (some (.context n))) s
        let s := s.onCtx n fun c => { c with claims := hs, booting := false, ticks := 0, step := 0 }
        let k := step.getD (headerOf ws).first
        let s := (s.setCtxMode n cmRunning).ctxCause n 0
        match (s.ctx n).waiting with
        | none => s.ctxTake n k trStart
        | some w => s.onCtx n fun c => { c with waiting := some { w with target := some k } }
      | (s, .fault c) => s.startRefuse n c
      | (s, .need _) => s
  | (s, _) => s.startRefuse n scHeader

/-- START (R209): the checks at once, or once the first page of an IMAGE program has come. -/
def Dev.ctxStart (s : Dev) (n : Nat) : Dev :=
  let st := s.get (A.SEQ_CTX_CTL n) F.SEQ_CTX_CTL_STEP
  let step := if st = 0xFFFF then none else some st
  if s.resident n then s.startCheck n step
  else
    (s.onCtx n fun c => { c with booting := true, waiting := some ⟨step, trStart, s.ticks, false⟩ }).pageAsk n 0 true

/-- The RESUME policy of the step that a context stood in (R211). -/
def Dev.ctxGoesOn (s : Dev) (n : Nat) (r : StepRec) : Dev :=
  let s := s.onCtx n fun c => { c with waiting := none }
  match r.resume with
  | 0 => s
  | 1 => s.ctxTake n (s.ctx n).step trOther
  | 2 => s.setCtxMode n cmPaused
  | _ =>
    match s.header n with
    | (s, .ok h) => s.ctxTake n h.safe trOther
    | (s, .need p) => s.pageAsk n p true
    | (s, .fault c) => s.ctxFault n c

/-- A context that waits at a RESUME for its step's pages looks again (R211). -/
def Dev.ctxReturns (s : Dev) (n : Nat) (w : Wait) : Dev :=
  match s.stepRec n (s.ctx n).step with
  | (s, .fault c) => s.ctxFault n c
  | (s, .need p) => s.pageAsk n p true
  | (s, .ok r) => (s.missNote n w.tick).ctxGoesOn n r

/-- A boundary that waits looks again after a page has come. -/
def Dev.ctxAdvance (s : Dev) (n : Nat) : Dev :=
  let s := match (s.ctx n).waiting with
    | some w => if (s.ctx n).booting && (s.progPage n 0).isSome then s.startCheck n w.target else s
    | none => s
  match (s.ctx n).waiting with
  | none => s
  | some w =>
    match w.target with
    | none => if (s.ctx n).booting then s else s.ctxReturns n w
    | some k =>
      if w.ready || (s.ctx n).booting then s
      else
        match s.stepRec n k with
        | (s, .fault c) => s.ctxFault n c
        | (s, .need p) => s.pageAsk n p true
        | (s, .ok _) => s.missDone n w

/-- The waiting step is entered, once the context runs. -/
def Dev.ctxEnterLate (s : Dev) (n : Nat) : Dev :=
  match (s.ctx n).waiting with
  | some ⟨some k, code, _, true⟩ => if s.ctxMode n = cmRunning then s.ctxTake n k code else s
  | _ => s

/-! ## Requests (R209) -/

/-- Whether a request fits the mode. -/
def reqFits (req mode : Nat) : Bool :=
  (req == 1 && mode == cmIdle) || (req == 2 && mode == cmRunning) || (req == 3 && mode == cmPaused) ||
    (req == 4 && (mode == cmRunning || mode == cmPaused)) ||
    (req == 5 && (mode == cmRunning || mode == cmPaused || mode == cmFaulted))

/-- A request is written. -/
def Dev.ctxRequest (s : Dev) (n req : Nat) : Dev :=
  if !reqFits req (s.ctxMode n) || (s.ctx n).booting then s.ctxCfgErr n
  else if req = 1 then s.ctxStart n
  else s.after (.ctxReq n req)

/-- PAUSE, CONTINUE, ABORT and STOP take effect on the next tick, judged again. -/
def Dev.ctxReqAct (s : Dev) (n req : Nat) : Dev :=
  if !reqFits req (s.ctxMode n) then s.ctxCfgErr n
  else if req = 2 then s.setCtxMode n cmPaused
  else if req = 3 then (s.setCtxMode n cmRunning).after (.ctxEnter n)
  else if req = 5 then s.ctxIdle n
  else
    let s := s.setCtxMode n cmRunning
    match s.header n with
    | (s, .ok h) => s.ctxTake n h.safe trAbort
    | (s, .need _) => s
    | (s, .fault c) => s.ctxFault n c

/-! ## Evaluation (R202, R199) -/

/-- States in which GLUOK and GLUFAIL hold. -/
def gluOkState (st : Nat) : Bool := st == gsSwitched || st == gsReport || st == gsCommitted
def gluFailState (st : Nat) : Bool := st == gsAborted || st == gsSplit || st == gsNotSwitched

/-- CMP by OP; an unordered pair is unequal. -/
def seqCmp (op : Nat) (a b : Fl) : Bool :=
  match op with
  | 0 => a.cmp b == some .eq
  | 1 => a.cmp b != some .eq
  | 2 => a.lt b
  | 3 => a.le b
  | 4 => b.lt a
  | _ => b.le a

/-- A condition at step time `k` µs; `glu` is a slot that switches on this very tick (R217). -/
def Dev.condHolds (s : Dev) (n k : Nat) (glu : Option Nat) (c : Cond) : Bool :=
  match c.kind with
  | 1 => decide (c.x.toNat ≤ k)
  | 2 =>
    let p := s.hread c.handle
    p.valid && seqCmp c.op (readNum (s.kind c.handle) c.fmt p.val) (d32 c.x)
  | 3 =>
    let p := s.hread c.handle
    p.valid && (p.val.getLsbD c.param == (c.op == 1))
  | 4 => (tabGet Ctx.idle s.start.ctxs n).ramps.all (fun x => !x.2.running)
  | 5 => glu == some c.param || gluOkState (s.get0 (A.GLU_STAT c.param) F.GLU_STAT_STATE)
  | 6 => glu != some c.param && gluFailState (s.get0 (A.GLU_STAT c.param) F.GLU_STAT_STATE)
  | _ => false

def Dev.transHolds (s : Dev) (n k : Nat) (glu : Option Nat) (t : Trans) : Bool :=
  let a := s.condHolds n k glu t.a
  let b := s.condHolds n k glu t.b
  if t.join = 0 then a else if t.join = 1 then a && b else a || b

/-- Number and target of the first transition that holds. -/
def Dev.firstTrans (s : Dev) (n k : Nat) (glu : Option Nat) : Nat → List Trans → Option (Nat × Trans)
  | _, [] => none
  | i, t :: ts => if s.transHolds n k glu t then some (i, t) else s.firstTrans n k glu (i + 1) ts

/-- An evaluation is due on this tick: a whole microsecond of step time, 50 or more, not yet evaluated. -/
def Dev.evalDue (s : Dev) (n : Nat) : Bool :=
  let c := s.ctx n
  s.ctxMode n == cmRunning && c.waiting.isNone && c.ticks % 250 == 0 && decide (50 ≤ c.ticks / 250) &&
    c.evaled != c.ticks / 250 + 1 && !s.halted

/-- One evaluation (R202): transitions in order, then the timeout. -/
def Dev.ctxEval (s : Dev) (n : Nat) : Dev :=
  let k := (s.ctx n).ticks / 250
  let s := s.onCtx n fun c => { c with evaled := k + 1 }
  match s.stepRec n (s.ctx n).step with
  | (s, .fault c) => s.ctxFault n c
  | (s, .need _) => s
  | (s, .ok r) =>
    match s.firstTrans n k none 0 r.trans with
    | some (i, t) => s.ctxTake n t.target i
    | none =>
      if r.timeout != 0 && decide (r.timeout ≤ k) then
        if r.toFault then s.ctxFault n scTimeout else s.ctxTake n r.toTarget trTimeout
      else s

/-- A transition names GLUOK of a slot. -/
def Trans.namesGlu (t : Trans) (g : Nat) : Bool :=
  (t.a.kind == 5 && t.a.param == g) || (t.join != 0 && t.b.kind == 5 && t.b.param == g)

/-- A glue-up slot switches on this tick: a transition that holds because of it is taken at once (R217). -/
def Dev.ctxGlue (s : Dev) (n g : Nat) : Dev :=
  if s.ctxMode n = cmRunning && (s.ctx n).waiting.isNone && !s.halted then
    match s.stepRec n (s.ctx n).step with
    | (s, .ok r) =>
      let k := (s.ctx n).ticks / 250
      match r.trans.find? (fun t => t.namesGlu g && s.transHolds n k (some g) t && !s.transHolds n k none t) with
      | some t => s.ctxTake n t.target trOther
      | none => s
    | (s, _) => s
  else s

/-- The context waits at a RESUME for the pages of its step, before it goes on. -/
def Ctx.returning (c : Ctx) : Bool := c.waiting.any (fun w => w.target.isNone) && !c.booting

/-- Step time and ramps of the contexts that run, over one tick. -/
def Dev.ctxTick (s : Dev) : Dev :=
  s.each 16 fun s n =>
    if s.ctxMode n = cmRunning && !(s.ctx n).returning then
      s.onCtx n fun c => { c with ticks := c.ticks + 1,
                                  ramps := c.ramps.map (fun x => (x.1, { x.2 with ticks := x.2.ticks + 1 })) }
    else s

/-! ## Arrival of pages (R206-R208) -/

/-- A page under fetch arrives with its words; none is a read error of the image store. -/
def Dev.pageArrival (s : Dev) (u : Nat) (data : Option (List Word)) : Dev :=
  match tabGet [] s.fetches u with
  | [] => s
  | x :: rest =>
    let s := { s with fetches := tabPut [] s.fetches u rest }
    let s := s.onCtx x.ctx fun c => { c with asked := c.asked.filter (fun a => a.1 != x.page) }
    match data with
    | none =>
      let s := s.after (.pageFree x.pool)
      if (s.ctx x.ctx).booting then s.startRefuse x.ctx scHeader
      else if s.ctxMode x.ctx = cmFaulted then s
      else s.ctxFault x.ctx scPage
    | some ws =>
      let s := s.each 256 fun s i =>
        s.putLine (x.pool * 256 + i) (((upto 4).map (fun j => ws.getD (4 * i + j) 0)).flatMap (fun w => leBytes 4 w.toNat))
      let s := s.onCtx x.ctx fun c => { c with pages := tabPut 0 c.pages x.page (x.pool + 1) }
      s.ctxAdvance x.ctx

/-- The resource manager has granted page `p` of a context's program: it joins the fetches of its unit. -/
def Dev.pageGranted (s : Dev) (n p pool : Nat) : Dev :=
  let d := (s.ctx n).asked.any (fun a => a.1 == p && a.2)
  { s with fetches := tabPut [] s.fetches (n / 8) (tabGet [] s.fetches (n / 8) ++ [⟨n, p, pool, d⟩]) }

/-- It has refused the page: a demand faults the context with ALLOC, a prefetch is asked for again when it is needed. -/
def Dev.pageRefused (s : Dev) (n p : Nat) : Dev :=
  let d := (s.ctx n).asked.any (fun a => a.1 == p && a.2)
  let s := s.onCtx n fun c => { c with asked := c.asked.filter (fun a => a.1 != p) }
  if !d || s.ctxMode n == cmFaulted then s
  else if (s.ctx n).booting then s.startRefuse n scAlloc
  else s.ctxFault n scAlloc

end Sys2Proof.Machine
end

