-- ==== Sys2Proof/Machine/GlueCmd.lean ====
section
/-! DEFINITION. The commands of the glue-up slots (chapter 9, R213-R223). -/

namespace Sys2Proof.Machine

/-- GLU_BUILD (R222): from FREE. -/
def Dev.gluBuild (s : Dev) (n : Nat) : Dev :=
  if s.gluState n = gsFree then
    let a := A.GLU_STAT n
    let s := (((s.gluClearParts n).gluCause n 0).set a F.GLU_STAT_OFFSYNC 0).set a F.GLU_STAT_LATE 0
    let s := ((s.set a F.GLU_STAT_COORD 0).set a F.GLU_STAT_CSEG 0).set a F.GLU_STAT_CDEV 0
    s.setGluState n gsBuild
  else s.gluCmdErr n
def execGluBuild (n : Fin 32) (s : State) : Out := s.go (·.gluBuild n.val)

/-- GLU_LAUNCH (R214). -/
def execGluLaunch (n : Fin 32) (s : State) : Out := s.go (·.gluLaunch n.val none)

/-- GLU_CANCEL (R216): while the slot is ARMING. -/
def Dev.gluCancel (s : Dev) (n : Nat) : Dev :=
  if s.gluState n = gsArming then s.gluAbort n gcCancel else s.gluCmdErr n
def execGluCancel (n : Fin 32) (s : State) : Out := s.go (·.gluCancel n.val)

/-- GLU_FREE (R221): from BUILD or a final state. -/
def Dev.gluFree (s : Dev) (n : Nat) : Dev :=
  if s.gluState n = gsBuild || gluFinal (s.gluState n) then s.setGluState n gsFree else s.gluCmdErr n
def execGluFree (n : Fin 32) (s : State) : Out := s.go (·.gluFree n.val)

/-! ## Frames -/

/-- Source segment and device of a GLU frame in one word. -/
def gluSource (seg dev : Nat) : Word := BitVec.ofNat 32 (seg * 32 + dev)

/-- A GLU frame arrives: it enters the input set of a synced pair, and a standby takes it by replay (R393, R395). -/
def Dev.gluIn (s : Dev) (seg dev : Nat) (ws : List Word) (f : Dev → Dev) : Dev :=
  if s.standby then s else f (s.collect 0xB (gluSource seg dev) 0 0 ws)

/-- ARM: the participant's readiness (R215). -/
def Dev.gluArmIn (s : Dev) (n seg dev : Nat) (t : Dbl) : Dev :=
  let locals := (s.gluParts n).filter (fun p => p.2.1 != 4)
  if s.gluState n = gsBuild && locals.all (fun p => s.gluReady p.2.1 p.2.2) &&
      (s.gluT n == 0 || s.pair (A.GLU_T_LO n) == t) then
    let a := A.GLU_STAT n
    let s := (s.setPair (A.GLU_T_LO n) t).setGluState n gsArmed
    let s := ((s.set a F.GLU_STAT_COORD 0).set a F.GLU_STAT_CSEG seg).set a F.GLU_STAT_CDEV dev
    let s := locals.foldl (fun s p => s.set (A.GLU_PART n p.1) F.GLU_PART_ARM 1) s
    s.gluSend n seg dev gmArmed []
  else s.gluSend n seg dev gmRefused []

/-- The slot's coordinator is this device. -/
def Dev.gluFrom (s : Dev) (n seg dev : Nat) : Bool :=
  s.get (A.GLU_STAT n) F.GLU_STAT_CSEG == seg && s.get (A.GLU_STAT n) F.GLU_STAT_CDEV == dev

/-- COMMIT arrives at an ARMED participant (R217). -/
def Dev.gluCommitIn (s : Dev) (n seg dev : Nat) : Dev :=
  if s.gluState n = gsArmed && s.gluFrom n seg dev then s.gluCommit n else s

/-- ABORT arrives: the participant does not switch, and its waiting requests are discarded (R216, R176). -/
def Dev.gluAbortIn (s : Dev) (n seg dev : Nat) : Dev :=
  if (s.gluState n = gsArmed || s.gluState n = gsCommit) && s.gluFrom n seg dev then
    (s.setGluState n gsAborted).loopGlueDrop n
  else s

/-- A remote participant's reply (R216). -/
def Dev.gluReplyIn (s : Dev) (n part : Nat) (armed : Bool) : Dev :=
  if s.gluState n = gsArming && (s.gluParts n).any (fun p => p.1 == part && p.2.1 == 4) then s.gluReplies n [(part, armed)]
  else s

/-- A remote participant's report (R219). -/
def Dev.gluReportIn (s : Dev) (n part : Nat) (switched ofs : Bool) : Dev :=
  if s.gluState n = gsReport && (s.gluParts n).any (fun p => p.1 == part && p.2.1 == 4) then
    if switched then
      let s := (s.set (A.GLU_PART n part) F.GLU_PART_SW 1).setBit (A.GLU_PART n part) F.GLU_PART_OFS ofs
      let s := if ofs then s.set (A.GLU_STAT n) F.GLU_STAT_OFFSYNC 1 else s
      if (s.gluParts n).all (fun p => s.bit (A.GLU_PART n p.1) F.GLU_PART_SW) then s.setGluState n gsCommitted else s
    else s.setGluState n gsSplit
  else s

/-- ARM_RECEIVED (R215). -/
def execArmReceived (n : Fin 32) (seg : Fin 16) (dev : Fin 32) (t : Dbl) (s : State) : Out :=
  s.live fun d => d.gluIn seg.val dev.val [gmArm, BitVec.ofNat 32 n.val, t.setWidth 32, (t >>> 32).setWidth 32]
    (·.gluArmIn n.val seg.val dev.val t)

/-- REPLY_RECEIVED (R216): the reply of remote participant `part`. -/
def execReplyReceived (n part : Fin 32) (armed : Bool) (s : State) : Out :=
  s.live fun d => d.gluIn 0 0 [if armed then gmArmed else gmRefused, BitVec.ofNat 32 n.val, BitVec.ofNat 32 part.val]
    (·.gluReplyIn n.val part.val armed)

/-- COMMIT_RECEIVED (R217). -/
def execCommitReceived (n : Fin 32) (seg : Fin 16) (dev : Fin 32) (s : State) : Out :=
  s.live fun d => d.gluIn seg.val dev.val [gmCommit, BitVec.ofNat 32 n.val] (·.gluCommitIn n.val seg.val dev.val)

/-- ABORT_RECEIVED (R216). -/
def execAbortReceived (n : Fin 32) (seg : Fin 16) (dev : Fin 32) (s : State) : Out :=
  s.live fun d => d.gluIn seg.val dev.val [gmAbort, BitVec.ofNat 32 n.val] (·.gluAbortIn n.val seg.val dev.val)

/-- REPORT_RECEIVED (R219): the report of remote participant `part`; LATE is carried along. -/
def execReportReceived (n part : Fin 32) (switched ofs late : Bool) (s : State) : Out :=
  s.live fun d => d.gluIn 0 0 [gmReport, BitVec.ofNat 32 n.val, BitVec.ofNat 32 part.val,
      BitVec.ofNat 32 ((if switched then 4 else 0) + (if ofs then 2 else 0) + (if late then 1 else 0))]
    (·.gluReportIn n.val part.val switched ofs)

/-- A replayed GLU frame (R395). -/
def Dev.gluReplay (s : Dev) (src : Word) (ws : List Word) : Dev :=
  let seg := src.toNat / 32
  let dev := src.toNat % 32
  let n := (ws.getD 1 0).toNat % 32
  let part := (ws.getD 2 0).toNat % 32
  match (ws.getD 0 0).toNat with
  | 1 => s.gluArmIn n seg dev (ws.getD 3 0 ++ ws.getD 2 0)
  | 2 => s.gluReplyIn n part true
  | 3 => s.gluReplyIn n part false
  | 4 => s.gluCommitIn n seg dev
  | 5 => s.gluAbortIn n seg dev
  | 6 => s.gluReportIn n part (bitsOf (ws.getD 3 0) 2 2 == 1) (bitsOf (ws.getD 3 0) 1 1 == 1)
  | _ => s

/-! ## Instants -/

/-- GLU_DEADLINE (R216): T − MARGIN reached with a reply missing. -/
def Dev.gluDeadline (s : Dev) (n : Nat) : Dev :=
  if s.gluState n = gsArming && decide (s.gluT n ≤ s.ts.toNat + s.gluMargin n) then s.gluAbort n gcNoReply else s
def execGluDeadline (n : Fin 32) (s : State) : Out := s.live (·.gluDeadline n.val)

/-- The switch (R217, R219): staged writes in order, local participants switched, the slot's state, waiting loop requests,
event tasks, and the contexts that wait for GLUOK; a participant reports. -/
def Dev.gluSwitch (s : Dev) (n : Nat) : Dev :=
  if s.gluDue n then
    let s := if s.bit A.TIME_STAT F.TIME_STAT_OFFSYNC then s.set (A.GLU_STAT n) F.GLU_STAT_OFFSYNC 1 else s
    let s := (upto (s.get (A.GLU_CTL n) F.GLU_CTL_NSTG)).foldl (fun s j => s.gluStaged n j) s
    let parts := s.gluParts n
    let s := parts.foldl (fun s p => if p.2.1 = 4 then s else s.set (A.GLU_PART n p.1) F.GLU_PART_SW 1) s
    let st := s.reg (A.GLU_STAT n)
    let coord := F.GLU_STAT_COORD.of st == 1
    let s := s.setGluState n (if !coord then gsSwitched else if parts.any (fun p => p.2.1 == 4) then gsReport else gsCommitted)
    let s := if coord then s
      else s.gluSendCoord n gmReport [BitVec.ofNat 32 (4 + 2 * F.GLU_STAT_OFFSYNC.of st + F.GLU_STAT_LATE.of st)]
    let s := (s.loopGlueSwitch n).taskEvent 4 n
    s.each 16 fun s c => s.ctxGlue c n
  else s

/-- GLU_SWITCH (R217). -/
def execGluSwitch (n : Fin 32) (s : State) : Out := s.live (·.gluSwitch n.val)

/-- GLU_NODEC (R218): ARMED at T with neither COMMIT nor ABORT. The requests that wait for the slot are discarded, as
after an abort (DEDUCED, log 33). -/
def Dev.gluNodec (s : Dev) (n : Nat) : Dev :=
  if s.gluState n = gsArmed && decide (s.gluT n ≤ s.ts.toNat) then
    (((s.gluCause n gcNoDec).setGluState n gsNotSwitched).gluSendCoord n gmReport [0]).loopGlueDrop n
  else s
def execGluNodec (n : Fin 32) (s : State) : Out := s.live (·.gluNodec n.val)

/-- REPORT_WINDOW (R219): a report is missing at T + RWIN. -/
def Dev.gluWindow (s : Dev) (n : Nat) : Dev :=
  if s.gluState n = gsReport && decide (s.gluT n + s.get (A.GLU_CTL n) F.GLU_CTL_RWIN * 1000000 ≤ s.ts.toNat) then
    (s.gluCause n gcNoReport).setGluState n gsSplit
  else s
def execReportWindow (n : Fin 32) (s : State) : Out := s.live (·.gluWindow n.val)

end Sys2Proof.Machine
end

