-- ==== Sys2Proof/Machine/LoopCmd.lean ====
section
/-! DEFINITION. The commands of the loop tiles (chapters 7 and 8). -/

namespace Sys2Proof.Machine

/-- LT_BANK_WRITE (R152): a write of LT_CFG. LOCK is set where it is written 1; the bank is accepted with every slot OFF
and a retained bank that the tile owns, and the tile's copy is written into it. -/
def Dev.ltBankWrite (s : Dev) (n : Nat) (v : Word) : Dev :=
  let a := A.LT_CFG n
  let s := if F.LT_CFG_LOCK.of v = 1 then s.set a F.LT_CFG_LOCK 1 else s
  let b := F.LT_CFG_BANK.of v
  if (upto 64).all (fun k => s.slotMode (n * 64 + k) == 0) && decide (b < 48) && s.owner b == 0x10 + n then
    let s := (s.set a F.LT_CFG_BANK b).onTile n fun t => { t with accepted := true }
    s.each 64 fun s k => s.each 11 fun s i => s.slotThrough (n * 64 + k) i
  else (s.raise (A.LT_STAT n) F.LT_STAT_CFGERR).offer (0x10 + n) 0x06 .configRefused
def execLtBankWrite (n : Fin 8) (v : Word) (s : State) : Out := s.go (·.ltBankWrite n.val v)

/-! ## Descriptor writes (R155, R156, R158) -/

/-- A close of the slot is pending, one that waits for a glue-up included, as of the start of the tick (R155). -/
def Dev.closePending (s : Dev) (g : Nat) : Bool := isClose (s.get0 (slotStat g) F.LT_SLOT_STAT_PEND)

/-- Descriptor words that hold a binary32. -/
def isF32Word (i : Nat) : Bool := (decide (7 ≤ i) && decide (i ≤ 26)) || (decide (28 ≤ i) && decide (i ≤ 30))

/-- The values that R155 refuses with WERR: NaN, an infinity where none is allowed, a rate that is not above 0. -/
def badF32 (i : Nat) (v : Word) : Bool :=
  match d32 v with
  | .nan => true
  | .inf neg => !(if i = 21 then neg else (i == 22 || i == 23 || i == 30) && !neg)
  | .num neg m _ => (i == 23 || i == 30) && (neg || m == 0)

/-- Classes allowed for DST where the class alone decides. -/
def dstClass (c : Nat) : Bool := c == 0x11 || c == 0x19 || c == 0x31 || c == 0x39

/-- A handle is allowed in descriptor word `i` (R156). -/
def Dev.slotHandleOk (s : Dev) (g i : Nat) (h : Word) : Bool :=
  if i = 3 then
    let c := hclass h
    h == 0 || (validHandle h &&
      (dstClass c || (c == 0x20 && hindex h != g) || (c == 0x08 && s.granted (hindex h) (ltSrc g)) ||
        (c == 0x7F &&
          (let r := s.reg (A.PLJ_SEGT_RHND (hindex h))
           dstClass (hclass r) || hclass r == 0x20 || hclass r == 0x08))))
  else if h = 0 then i != 1
  else validHandle h && !(i == 0 && h == mkHandle 0x20 g)

/-- The formats of a configuration word against the handles (R156). -/
def Dev.slotFmtOk (s : Dev) (sp fb ff dst cfg : Word) : Bool :=
  let ok (h : Word) (f : Nat) : Bool := h == 0 || fmtAllowed (s.kind h) f
  (if sp = 0 then fmtAllowed .f32 (F.LT_SLOT_CFG_SPFMT.of cfg) else ok sp (F.LT_SLOT_CFG_SPFMT.of cfg)) &&
    ok fb (F.LT_SLOT_CFG_FBFMT.of cfg) && ok ff (F.LT_SLOT_CFG_FFFMT.of cfg) && ok dst (F.LT_SLOT_CFG_DSTFMT.of cfg)

/-- Reserved encodings of a field keep what stands (R8). -/
def keepField (v old : Word) (w : Word) (f : Fld) (ok : Nat → Bool) : Word :=
  putBits w f.hi f.lo (if ok (f.of v) then f.of v else f.of old)

/-- The word that a write of `v` leaves in descriptor word `i` that holds `old`, before the checks. -/
def slotWordWritten (g i : Nat) (v old : Word) : Word :=
  if i = 4 then
    let kind := F.LT_SLOT_TRIG_KIND.of v
    let ok (x : Nat) : Bool := if kind = 1 then decide (x ≤ 63) else if kind = 2 then x == 0 else if kind = 3 then x != g else true
    keepField v old (putBits 0 31 30 kind) F.LT_SLOT_TRIG_IDX ok
  else if i = 5 then (if 250 ≤ v.toNat && v.toNat ≤ 1000000000 then v else old)
  else if i = 6 then
    let not3 (x : Nat) : Bool := x != 3
    let w := keepField v old 0 F.LT_SLOT_CFG_PWMF (fun x => decide (1 ≤ x) && decide (x ≤ 2000))
    let w := keepField v old w F.LT_SLOT_CFG_FORM (fun _ => true)
    let w := keepField v old w F.LT_SLOT_CFG_DSTFMT not3
    let w := keepField v old w F.LT_SLOT_CFG_FFFMT not3
    let w := keepField v old w F.LT_SLOT_CFG_FBFMT not3
    keepField v old w F.LT_SLOT_CFG_SPFMT not3
  else if i = 27 then
    let nz (x : Nat) : Bool := x != 0
    let w := keepField v old 0 F.LT_SLOT_SUPV_OVRN nz
    let w := keepField v old w F.LT_SLOT_SUPV_FRZN nz
    let w := keepField v old w F.LT_SLOT_SUPV_STALEN nz
    let w := keepField v old w F.LT_SLOT_SUPV_FRZEN (fun _ => true)
    keepField v old w F.LT_SLOT_SUPV_FBK (fun x => x != 3)
  else v

/-- The check of a descriptor write (R155, R156, R158): the status field that refuses it. -/
def Dev.slotWriteCheck (s : Dev) (g i : Nat) (v : Word) : Option Fld :=
  let mode := s.get0 (slotStat g) F.LT_SLOT_STAT_MODE
  let w (k : Nat) : Word := if k = i then v else s.reg (slotBase g + 4 * k)
  if i ≤ 6 && mode != 0 then some F.LT_SLOT_STAT_CFGERR
  else if 7 ≤ i && i ≤ 15 && (mode == 2 || s.closePending g) then some F.LT_SLOT_STAT_CWR
  else if isF32Word i && badF32 i v then some F.LT_SLOT_STAT_WERR
  else if i ≤ 3 && !s.slotHandleOk g i v then some F.LT_SLOT_STAT_CFGERR
  else if i = 4 && F.LT_SLOT_TRIG_KIND.of v == 2 && !staleClass (hclass (w 1)) then some F.LT_SLOT_STAT_CFGERR
  else if (i ≤ 3 || i == 6) && !s.slotFmtOk (w 0) (w 1) (w 2) (w 3) (w 6) then some F.LT_SLOT_STAT_CFGERR
  else if i = 3 && claimedClass (hclass v) && !s.claimFree v (.slot g) then some F.LT_SLOT_STAT_CFGERR
  else none

/-- A descriptor word is written. DST takes the claim of its point and gives up the old one; a new SP or FF source has no
VALID read yet (R181). -/
def Dev.slotWordWrite (s : Dev) (g i : Nat) (v : Word) : Dev :=
  let a := slotBase g + 4 * i
  let v := slotWordWritten g i v (s.reg a)
  match s.slotWriteCheck g i v with
  | some f => s.slotRefuse g f
  | none =>
    let s := if i = 3 then
        let s := if s.reg a = v then s else s.dropClaim (s.reg a) (.slot g)
        if claimedClass (hclass v) then s.putClaim v (some (.slot g)) else s
      else if i = 0 then s.onLoop g fun l => { l with spKeep := 0 }
      else if i = 2 then s.onLoop g fun l => { l with ffKeep := 0 }
      else s
    s.setReg a v

/-- A commit of state pair `k` (ST1, ST2, ST3, YPV) by its high half (R10, R155). -/
def Dev.slotPairCommit (s : Dev) (req g k : Nat) (v : Word) : Dev :=
  let a := A.LT_SLOT_ST1_LO (g / 64) (g % 64) + 8 * k
  let (lo, s) := s.takeStaged req a (s.reg a)
  if s.get0 (slotStat g) F.LT_SLOT_STAT_MODE = 2 || s.closePending g then s.slotRefuse g F.LT_SLOT_STAT_CWR
  else s.setPair a (v ++ lo)

/-- DESCRIPTOR_WRITE (R155): words 0-31 are the descriptor, 32-35 the commits of ST1, ST2, ST3 and YPV. Before a bank is
accepted every write is refused (R152). Word 31 is reserved. -/
def Dev.descriptorWrite (s : Dev) (req g i : Nat) (v : Word) : Dev :=
  s.slotDo g fun s =>
    if !(s.tile (g / 64)).accepted then s.slotRefuse g F.LT_SLOT_STAT_CFGERR
    else if i = 31 then s
    else if i < 31 then s.slotWordWrite g i v
    else s.slotPairCommit req g (i - 32) v
def execDescriptorWrite (req : Fin 15) (g : Fin 512) (i : Fin 36) (v : Word) (s : State) : Out :=
  s.go (·.descriptorWrite req.val g.val i.val v)

/-- HARD_LIMIT_WRITE (R193): HHI when `hi`, else HLO; unless locked, NaN, or crossing the other limit. -/
def Dev.hardLimitWrite (s : Dev) (g : Nat) (hi : Bool) (v : Word) : Dev :=
  s.slotDo g fun s =>
    let lo := A.LT_SLOT_HLO (g / 64) (g % 64)
    let up := A.LT_SLOT_HHI (g / 64) (g % 64)
    if !(s.tile (g / 64)).accepted then s.slotRefuse g F.LT_SLOT_STAT_CFGERR
    else if s.bit (A.LT_CFG (g / 64)) F.LT_CFG_LOCK then s
    else
      let l := if hi then d32 (s.reg lo) else d32 v
      let h := if hi then d32 v else d32 (s.reg up)
      if l.isNan || h.isNan || h.lt l then s.slotRefuse g F.LT_SLOT_STAT_WERR
      else s.setReg (if hi then up else lo) v
def execHardLimitWrite (g : Fin 512) (hi : Bool) (v : Word) (s : State) : Out := s.go (·.hardLimitWrite g.val hi v)

/-! ## Mode requests (R171): the write of LT_SLOT_CTL; `glu` is the glue-up slot of a request with GLUEN (R176) -/

/-- SLOT_OFF. -/
def execSlotOff (g : Fin 512) (glu : Option (Fin 32)) (s : State) : Out := s.go (·.slotRequest g.val 1 (glu.map (·.val)))
/-- OPEN_HOLD. -/
def execOpenHold (g : Fin 512) (glu : Option (Fin 32)) (s : State) : Out := s.go (·.slotRequest g.val 2 (glu.map (·.val)))
/-- OPEN_MANUAL. -/
def execOpenManual (g : Fin 512) (glu : Option (Fin 32)) (s : State) : Out := s.go (·.slotRequest g.val 3 (glu.map (·.val)))
/-- CLOSE_ZERO (R173). -/
def execCloseZero (g : Fin 512) (glu : Option (Fin 32)) (s : State) : Out := s.go (·.slotRequest g.val 4 (glu.map (·.val)))
/-- CLOSE_PRESET (R174). -/
def execClosePreset (g : Fin 512) (glu : Option (Fin 32)) (s : State) : Out := s.go (·.slotRequest g.val 5 (glu.map (·.val)))
/-- CLOSE_USER (R173). -/
def execCloseUser (g : Fin 512) (glu : Option (Fin 32)) (s : State) : Out := s.go (·.slotRequest g.val 6 (glu.map (·.val)))
/-- SLOT_WITHDRAW. -/
def execSlotWithdraw (g : Fin 512) (glu : Option (Fin 32)) (s : State) : Out := s.go (·.slotRequest g.val 7 (glu.map (·.val)))

/-! ## Events of the tiles -/

/-- TILE_WAKE (R169). -/
def execTileWake (n : Fin 8) (s : State) : Out := s.go (·.tileWake n.val)

/-- LOOP_UPDATE (R163): the tile's datapath, free and with fetched sources, takes its next update `ns` into the tick. -/
def execLoopUpdate (n : Fin 8) (ns : Fin 4) (s : State) : Out := s.go (·.loopStep n.val ns.val)

/-- STALE_TIMEOUT (R183): once per silence, when the time since the last sample of an UPDATE slot exceeds
STALEN × MINIV. -/
def Dev.staleTimeout (s : Dev) (g : Nat) : Dev :=
  let w := s.slotWords g
  let l := s.loop g
  if s.slotMode g != 0 && slotKind w == 2 && s.staleChecked (slotWord w 1) && l.staleArmed &&
      decide (F.LT_SLOT_SUPV_STALEN.of (slotWord w 27) * slotMiniv w < (s.ticks + 1 - l.lastSample) * 4) then
    s.slotDo g fun s => (s.onLoop g fun l => { l with staleArmed := false }).condition g causeStale
  else s
def execStaleTimeout (g : Fin 512) (s : State) : Out := s.live (·.staleTimeout g.val)

/-- RAMP_STEP (R189): a ramp tick: a fire of the slot's comparator, else step k at k × MINIV from the fallback. -/
def Dev.rampTickCmd (s : Dev) (g : Nat) : Dev :=
  let w := s.slotWords g
  let l := s.loop g
  let due := if slotKind w = 1 then s.time.fired.contains (slotIdx w)
    else decide (l.rampK * slotMiniv w ≤ (s.ticks - l.rampStart) * 4)
  if s.slotMode g = 1 && s.ramping g && l.rampTick != s.ticks + 1 && due && !s.halted then s.slotDo g (·.rampStep g) else s
def execRampStep (g : Fin 512) (s : State) : Out := s.live (·.rampTickCmd g.val)

/-- FBCMD_GO (R187): POLICY from the next tick. -/
def Dev.fbcmdGo (s : Dev) (g : Nat) : Dev :=
  if (s.tile (g / 64)).accepted then s.after (.policy g) else s.slotDo g (·.slotRefuse g F.LT_SLOT_STAT_CFGERR)
def execFbcmdGo (g : Fin 512) (s : State) : Out := s.go (·.fbcmdGo g.val)

/-- CCLR (R192). -/
def Dev.cclr (s : Dev) (g : Nat) : Dev := s.slotDo g (·.set (slotStat g) F.LT_SLOT_STAT_CAUSE 0)
def execCclr (g : Fin 512) (s : State) : Out := s.go (·.cclr g.val)

end Sys2Proof.Machine
end

