-- ==== Sys2Proof/Machine/MbxCmd.lean ====
section
/-! DEFINITION. The commands of the mailbox channels (chapter 20). Host sessions stand in HostCmd.lean. -/

namespace Sys2Proof.Machine

/-- A configuration write is refused with CFGERR. -/
def Dev.chRefuse (s : Dev) (m : Nat) : Dev := s.raise (A.MBX_STAT m) F.MBX_STAT_CFGERR

/-- The identities that a configuration word names for channel `m`: END1 of MB2 cannot be changed. -/
def chEnds (m : Nat) (v : Word) : Nat × Nat :=
  (F.MBX_CH_CFG_END0.of v, if m = 2 then 0x39 else F.MBX_CH_CFG_END1.of v)

/-- CH_CFG_WRITE (R417, R418): while EN is 0 the whole word; while EN is 1 only EN, to 0 with no notice held. -/
def Dev.chCfgWrite (s : Dev) (m : Nat) (v : Word) : Dev :=
  let a := A.MBX_CH_CFG m
  if s.bit a F.MBX_CH_CFG_EN then
    if F.MBX_CH_CFG_EN.of v = 1 then s.chRefuse m
    else if (s.mend m 0).queue.isEmpty && (s.mend m 1).queue.isEmpty && (s.mend m 0).disc == 0 && (s.mend m 1).disc == 0
    then s.set a F.MBX_CH_CFG_EN 0
    else s.chRefuse m
  else
    let (e0, e1) := chEnds m v
    if identOk e0 && identOk e1 && e0 != e1 then
      s.setReg a (putBits (v &&& 0x9F80FFFF) 15 8 e1)
    else s.chRefuse m
def execChCfgWrite (m : Fin 64) (v : Word) (s : State) : Out := s.go (·.chCfgWrite m.val v)

/-- POST (R421): a write of MBX_POST_TAG posts the handle that the requester has staged. -/
def Dev.postTag (s : Dev) (acc : Acc) (m : Nat) (tag : Word) : Dev :=
  let r := acc.req.val
  let h : Dbl := s.reg (reqKey r (A.MBX_POST_HI m)) ++ s.reg (reqKey r (A.MBX_POST_LO m))
  ((s.mbxPost m (identOf r) acc.pview (decide (r ≤ 6)) h tag).1).answer .ok 0
def execPost (acc : Acc) (m : Fin 64) (tag : Word) (s : State) : Out := s.go (·.postTag acc m.val tag)

/-- TAKE (R423): the requester's own end takes. -/
def Dev.takeCmd (s : Dev) (req m : Nat) : Dev :=
  match s.endOf m (identOf req) with
  | some e => (s.mbxTake m e).1
  | none => s
def execTake (req : Fin 15) (m : Fin 64) (s : State) : Out := s.go (·.takeCmd req.val m.val)

/-- MBX_REL (R423): the held notice's page is freed. -/
def Dev.relCmd (s : Dev) (req m : Nat) : Dev :=
  match s.endOf m (identOf req) with
  | some e => s.mbxFreeHeld m e
  | none => s
def execMbxRel (req : Fin 15) (m : Fin 64) (s : State) : Out := s.go (·.relCmd req.val m.val)

/-- MBX_ALLOC (R423): a page request of sub-client `m` for the requester's end; PAGE_ALLOC answers it. -/
def Dev.allocCmd (s : Dev) (req m : Nat) : Dev :=
  match s.endOf m (identOf req) with
  | some e =>
    (s.onMend m e fun d => { d with res := 0 }).onPool fun p => { p with pageReqs := p.pageReqs ++ [⟨m, 0, e⟩] }
  | none => s
def execMbxAlloc (req : Fin 15) (m : Fin 64) (s : State) : Out := s.go (·.allocCmd req.val m.val)

/-- HOST_RESET (R419): the host's epoch increases. -/
def Dev.hostReset (s : Dev) : Dev := s.set (A.MBX_EPOCH 0x3F) F.MBX_EPOCH_EPOCH (s.epochOf 0x3F + 1)
def execHostReset (s : State) : Out := s.go Dev.hostReset

end Sys2Proof.Machine
end

