-- ==== Sys2Proof/Machine/MemCmd.lean ====
section
/-! DEFINITION. The commands of the bank pool (chapter 3): window accesses, the scrubber, handovers, wipes, the Jig and
the freeing of pages. PAGE_ALLOC, which answers the requesting unit, stands in Bus.lean. -/

namespace Sys2Proof.Machine

/-! ## Host ports and the Dovetail standby -/

/-- The port of a requester is enabled (R430): PCIe for BAR0 and BAR2, SPI for the serial port; in a recovery start only
SPI answers (R433). -/
def Dev.portOn (s : Dev) (req : Nat) : Bool :=
  if req ≤ 1 then !s.recovery && s.bit A.SYS_HOST_CFG F.SYS_HOST_CFG_PCIEN
  else if req = 2 then s.bit A.SYS_HOST_CFG F.SYS_HOST_CFG_SPIEN
  else true

/-- What a disabled port answers (R430). -/
def Dev.portOff (s : Dev) (req : Nat) : Dev := s.answer (if req ≤ 1 then .unsupported else .idle) 0

/-- Requesters whose writes a standby takes only in part (R398) and a primary collects (R393): host and supervisor cores. -/
def isHostReq (req : Nat) : Bool := decide (req ≤ 6)

/-- A write that a standby ignores (R398). -/
def Dev.ignoreWrite (s : Dev) : Dev := (s.count A.DUO_SWIGN F.DUO_SWIGN_DATA 1).answer .ok 0

/-- A WRITE entry of the input set (R393). -/
def Dev.collectWrite (s : Dev) (acc : Acc) (off : Nat) (v : Word) (handle : Bool) : Dev :=
  if isHostReq acc.req.val then
    s.collect 5 (BitVec.ofNat 32 off) v
      (BitVec.ofNat 32 ((if acc.pview then 0 else 2 ^ 31) + (if handle then 2 ^ 30 else 0) + acc.req.val)) []
  else s

/-! ## The window (R64, R63, R66) -/

/-- A bank owned by a unit, whose window writes enter the input set: neither FREE, host, supervisor cores nor FAILED. -/
def unitOwner (code : Nat) : Bool := code != 0 && code != 0x3F && code != 0x38 && code != 0xFF

/-- WRITE entries of a window write, one per word. -/
def Dev.collectWindow (s : Dev) (acc : Acc) (addr size : Nat) (d : BitVec 128) : Dev :=
  (upto ((size + 3) / 4)).foldl (fun s i => s.collectWrite acc (addr + 4 * i) (BitVec.ofNat 32 (d.toNat >>> (32 * i))) false) s

/-- An access that its rights allow: it waits for a wipe, else it is served. -/
def Dev.grantWindow (s : Dev) (w : WinAcc) (same : Bool) : Dev :=
  if s.wiping (bankOfAddr w.addr) then s.onPool fun p => { p with waiting := p.waiting ++ [w] }
  else s.serveWindow w same

/-- A window access of size and offset that R9 allows, on an enabled port. -/
def Dev.windowAccess (s : Dev) (acc : Acc) (addr size : Nat) (data : Option (BitVec 128)) (same : Bool) : Dev :=
  let a := addr - 0x1000000
  let b := bankOfAddr a
  if s.winRights acc.pview b < (if data.isSome then 2 else 1) then
    (s.undefinedResp acc.req.val).count A.MEM_WDENY F.MEM_WDENY_COUNT 1
  else if data.isSome && s.roleStandby && !s.duo.replay && isHostReq acc.req.val && s.owner b != 0x3F then s.ignoreWrite
  else
    let s := match data with
      | some d => if unitOwner (s.owner b) then s.collectWindow acc addr size d else s
      | none => s
    s.grantWindow ⟨acc, a, size, data⟩ same

/-- WINDOW_ACCESS (R64). `same`: its port cycle is that of port A's last write of this tick (R66). -/
def execWindowAccess (acc : Acc) (addr : BitVec 26) (size : Fin 17) (data : Option (BitVec 128)) (same : Bool) (s : State) : Out :=
  s.go fun d =>
    if !d.portOn acc.req.val then d.portOff acc.req.val
    else if winAccOk addr.toNat size.val then d.windowAccess acc addr.toNat size.val data same
    else d.undefinedResp acc.req.val

/-! ## The scrubber (R57, R60) -/

/-- The line a scrub read of a bank takes, with the pool after it: a queued line of the bank first, else the next line of
the pass. -/
def Pool.scrubNext (p : Pool) (b : Nat) : Nat × Pool :=
  match p.scrubQueue.find? (fun l => bankOfLine l == b) with
  | some l => (l, { p with scrubQueue := p.scrubQueue.filter (· != l) })
  | none =>
    let i := tabGet 0 p.scrubPos b
    (lineNo b i, { p with scrubPos := tabPut 0 p.scrubPos b ((i + 1) % 32768),
                          passCe := if i = 0 then tabPut 0 p.passCe b 0 else p.passCe })

/-- SCRUB_READ (R60): the scrubber reads its next line of the bank; `bits` more stored bits of it are found wrong. The
lines of a bank under a wipe wait (R63). A corrected line waits for its write back. -/
def Dev.scrubRead (s : Dev) (b bits : Nat) : Dev :=
  if s.wiping b then s
  else
    let (l, p) := s.pool.scrubNext b
    let s := { s with pool := p }
    if s.poisoned l then s
    else
      let s := s.setErrs l (s.lineErrs l + bits)
      match lineFind l (s.lineErrs l) with
      | .corrected =>
        let s := s.correctedRead l
        s.onPool fun p => { p with scrubQueue := p.scrubQueue.filter (· != l),
                                   scrubWait := p.scrubWait.filter (· != l) ++ [l] }
      | .uncorrectable => s.poisonLine l
      | .good => s
      | .wrong => s

def execScrubRead (bank : Fin 80) (bits : Fin 146) (s : State) : Out := s.go (·.scrubRead bank.val bits.val)

/-- SCRUB_WRITEBACK (R60): the corrected line of the bank is written back; a line written since carries a fresh code and
stands. -/
def Dev.scrubWriteback (s : Dev) (b : Nat) : Dev :=
  match s.pool.scrubWait.find? (fun l => bankOfLine l == b) with
  | some l =>
    let s := s.onPool fun p => { p with scrubWait := p.scrubWait.filter (· != l) }
    if s.poisoned l then s else s.setErrs l 0
  | none => s

def execScrubWriteback (bank : Fin 80) (s : State) : Out := s.go (·.scrubWriteback bank.val)

/-! ## Handover (R62) -/

/-- RELREQ (R62): the request is visible from the next tick. It pends as that tick plus one. -/
def Dev.relReq (s : Dev) (b : Nat) : Dev :=
  if tabGet 0 s.pool.relReq b = 0 then s.onPool fun p => { p with relReq := tabPut 0 p.relReq b (s.ticks + 2) } else s
def execRelreq (bank : Fin 80) (s : State) : Out := s.go (·.relReq bank.val)

/-- RELCAN (R62): a pending request is withdrawn; none is pending once REL is set. -/
def Dev.relCan (s : Dev) (b : Nat) : Dev := s.onPool fun p => { p with relReq := tabPut 0 p.relReq b 0 }
def execRelcan (bank : Fin 80) (s : State) : Out := s.go (·.relCan bank.val)

/-- BANK_RELEASE (R62): REL is set on a tick on which the request is visible and the release condition holds. -/
def Dev.bankRelease (s : Dev) (b : Nat) : Dev :=
  let r := tabGet 0 s.pool.relReq b
  if 0 < r && decide (r ≤ s.ticks + 1) && s.releaseOk b then
    (s.relCan b).set (A.MEM_BANK_STAT b) F.MEM_BANK_STAT_REL 1
  else s
def execBankRelease (bank : Fin 80) (s : State) : Out := s.go (·.bankRelease bank.val)

/-- Window rights of a write; the reserved code 3 keeps the standing ones (R8). -/
def winField (f : Fld) (v old : Word) : Nat := if f.of v = 3 then f.of old else f.of v

/-- An OWNER write of this bank has been accepted on this tick. -/
def Dev.ownerTaken (s : Dev) (b : Nat) : Bool :=
  s.later.any (fun l => match l with | .owner b' _ _ _ _ => b' == b | _ => false)

/-- OWNER_WRITE (R62): a write of MEM_BANK_CTL. A request bit makes it a request; the standing code while REL is clear
writes WIPE, PWIN and UWIN alone; so does a reserved code, which keeps the standing one (R8). -/
def Dev.ownerWrite (s : Dev) (b : Nat) (v : Word) : Dev :=
  let a := A.MEM_BANK_CTL b
  let old := s.reg a
  if F.MEM_BANK_CTL_RELREQ.of v = 1 || F.MEM_BANK_CTL_RELCAN.of v = 1 then
    let s := if F.MEM_BANK_CTL_RELREQ.of v = 1 then s.relReq b else s
    if F.MEM_BANK_CTL_RELCAN.of v = 1 then s.relCan b else s
  else
    let code := F.MEM_BANK_CTL_OWNER.of v
    let rel := s.released b && !s.ownerTaken b
    let wipe := F.MEM_BANK_CTL_WIPE.of v == 1
    let uwin := winField F.MEM_BANK_CTL_UWIN v old
    let pwin := winField F.MEM_BANK_CTL_PWIN v old
    if !ownerCodes.contains code || (code == s.owner b && !s.released b) then
      ((s.setBit a F.MEM_BANK_CTL_WIPE wipe).set a F.MEM_BANK_CTL_UWIN uwin).set a F.MEM_BANK_CTL_PWIN pwin
    else if rel && (code != s.owner b || code == 0) && s.owner b != 0xFF then s.after (.owner b code wipe uwin pwin)
    else (s.raise (A.MEM_BANK_STAT b) F.MEM_BANK_STAT_HOREF).offer 0x42 0x03 .handOverRefused

def execOwnerWrite (bank : Fin 80) (v : Word) (s : State) : Out := s.go (·.ownerWrite bank.val v)

/-- WIPE_DONE (R63): the wipe ends and the accesses that wait are served in their order. -/
def Dev.wipeDone (s : Dev) (b : Nat) : Dev :=
  if s.wiping b then
    let ws := s.pool.waiting.filter (fun w => bankOfAddr w.addr == b)
    let s := s.set (A.MEM_BANK_STAT b) F.MEM_BANK_STAT_WIPING 0
    let s := s.onPool fun p => { p with waiting := p.waiting.filter (fun w => bankOfAddr w.addr != b) }
    ws.foldl (fun s w => s.serveWindow w false) s
  else s
def execWipeDone (bank : Fin 80) (s : State) : Out := s.go (·.wipeDone bank.val)

/-! ## The Jig (R69-R72) -/

/-- A requested test is allowed (R69). -/
def Dev.jigOk (s : Dev) (mode bank save : Nat) : Bool :=
  if mode = 0 then s.owner bank == 0
  else if mode = 1 then s.released bank && s.owner save == 0 && decide (48 ≤ save) && decide (save < 80)
  else true

/-- JIG_GO (R69): a write of MEM_JIG_CTL with GO. -/
def Dev.jigGo (s : Dev) (v : Word) : Dev :=
  let a := A.MEM_JIG_CTL
  let keep (f : Fld) : Nat := if f.isLegal (f.of v) then f.of v else s.get a f
  let s := ((s.set a F.MEM_JIG_CTL_MODE (keep F.MEM_JIG_CTL_MODE)).set a F.MEM_JIG_CTL_BANK (keep F.MEM_JIG_CTL_BANK)).set
    a F.MEM_JIG_CTL_SAVE (keep F.MEM_JIG_CTL_SAVE)
  let mode := s.get a F.MEM_JIG_CTL_MODE
  let bank := s.get a F.MEM_JIG_CTL_BANK
  let save := s.get a F.MEM_JIG_CTL_SAVE
  if s.pool.jig.isNone && s.jigOk mode bank save then
    let s := if mode = 1 then s.copyBank bank save else s
    (s.onPool fun p => { p with jig := some ⟨bank, mode, save⟩ }).set A.MEM_JIG_STAT F.MEM_JIG_STAT_RUN 1
  else s.raise A.MEM_JIG_STAT F.MEM_JIG_STAT_BUSY
def execJigGo (v : Word) (s : State) : Out := s.go (·.jigGo v)

/-- JIG_DONE (R69, R72): the requested test is over; `fails` are the lines that failed. -/
def Dev.jigDone (s : Dev) (fails : List Nat) : Dev :=
  match s.pool.jig with
  | none => s
  | some j =>
    let s := if j.mode = 0 then s.zeroBank j.bank else if j.mode = 1 then s.copyBank j.save j.bank else s
    let s := s.onPool fun p => { p with jig := none }
    let a := A.MEM_JIG_STAT
    let s := (s.set a F.MEM_JIG_STAT_RUN 0).set a F.MEM_JIG_STAT_FAILROWS (rowsOf fails).length
    (s.raise a F.MEM_JIG_STAT_DONE).repairRows j.bank fails
def execJigDone (fails : List (Fin 32768)) (s : State) : Out := s.go (·.jigDone (fails.map (·.val)))

/-- JIG_BG_REGION (R70): with background testing enabled, the next 4 KiB region of each bank is tested; `fails` are
failing lines by bank, of which those in the regions under test count. A bank under a wipe waits (R63). -/
def Dev.jigBg (s : Dev) (fails : List (Nat × Nat)) : Dev :=
  if s.bit A.MEM_JIG_BG F.MEM_JIG_BG_EN then
    s.each 80 fun s b =>
      if s.wiping b then s
      else
        let r := tabGet 0 s.pool.jigPos b
        let bad := (fails.filter (fun x => x.1 == b && x.2 / 256 == r)).map (·.2)
        (s.onPool fun p => { p with jigPos := tabPut 0 p.jigPos b ((r + 1) % 128) }).repairRows b bad
  else s
def execJigBgRegion (fails : List (Fin 80 × Fin 32768)) (s : State) : Out :=
  s.go (·.jigBg (fails.map (fun x => (x.1.val, x.2.val))))

/-- PAGE_FREE (R68): a sub-client frees a page of its own; F and O change on the next tick. -/
def Dev.pageFree (s : Dev) (sub page : Nat) : Dev := if s.pageSub page = some sub then s.after (.pageFree page) else s
def execPageFree (sub : Fin 81) (page : Fin 10240) (s : State) : Out := s.go (·.pageFree sub.val page.val)

end Sys2Proof.Machine
end

