-- ==== Sys2Proof/Machine/Plj.lean ====
section
/-! DEFINITION. Plajo Link (chapter 18): cells and replay, frames and their forwarding, segment time, presence, the
trigger bus, remote points and remote mailboxes. -/

namespace Sys2Proof.Machine

def PljPort.init : PljPort := ⟨[], none, 0, [], 0, 255, false, 0, [], 0⟩
def Dev.onPlj (s : Dev) (f : Plj → Plj) : Dev := { s with plj := f s.plj }
def Dev.pljPort (s : Dev) (p : Nat) : PljPort := tabGet .init s.plj.ports p
def Dev.onPljPort (s : Dev) (p : Nat) (f : PljPort → PljPort) : Dev :=
  s.onPlj fun x => { x with ports := tabPut .init x.ports p (f (s.pljPort p)) }

def roleSegment : Nat := 1
def rolePair : Nat := 2
def portDown : Nat := 0
def portTraining : Nat := 1
def portUp : Nat := 2

def Dev.pljRole (s : Dev) (p : Nat) : Nat := s.get (A.PLJ_PORT_CTL p) F.PLJ_PORT_CTL_ROLE
def Dev.pljState (s : Dev) (p : Nat) : Nat := s.get (A.PLJ_PORT_STAT p) F.PLJ_PORT_STAT_STATE
def Dev.pljV1 (s : Dev) (p : Nat) : Bool := s.bit (A.PLJ_PORT_STAT p) F.PLJ_PORT_STAT_V1
def Dev.mySeg (s : Dev) : Nat := s.get A.PLJ_ID F.PLJ_ID_SEG
def Dev.myDev (s : Dev) : Nat := s.get A.PLJ_ID F.PLJ_ID_DEV
/-- The device is the timing root. -/
def Dev.isRoot (s : Dev) : Bool := s.get A.PLJ_CFG F.PLJ_CFG_ROOT == s.myDev
def Dev.primary (s : Dev) : Bool := s.get A.DUO_STAT F.DUO_STAT_ROLE == 1
/-- Device numbers that address this device: its own, and the pair's on the primary (R399). -/
def Dev.addressed (s : Dev) (d : Nat) : Bool := d == s.myDev || (s.primary && d == s.get A.DUO_CFG F.DUO_CFG_PDEV)

def ftSync : Nat := 1
def ftTrig : Nat := 2
def ftRep : Nat := 3
def ftMbx : Nat := 5
def ftGlu : Nat := 6
def ftCfg : Nat := 7

/-! ## Headers (R375) -/

def headWord0 (dseg ddev : Nat) (bcast : Bool) (sseg sdev hops : Nat) : Word :=
  BitVec.ofNat 32 (dseg % 16 + ddev % 32 * 16 + (if bcast then 512 else 0) + sseg % 16 * 1024 + sdev % 32 * 16384 + hops % 32 * 524288)
def PljFrame.w (f : PljFrame) (i : Nat) : Word := f.head.getD i 0
def PljFrame.dseg (f : PljFrame) : Nat := bitsOf (f.w 0) 3 0
def PljFrame.ddev (f : PljFrame) : Nat := bitsOf (f.w 0) 8 4
def PljFrame.bcast (f : PljFrame) : Bool := (f.w 0).getLsbD 9
def PljFrame.sseg (f : PljFrame) : Nat := bitsOf (f.w 0) 13 10
def PljFrame.sdev (f : PljFrame) : Nat := bitsOf (f.w 0) 18 14
def PljFrame.hops (f : PljFrame) : Nat := bitsOf (f.w 0) 23 19
def PljFrame.fseq (f : PljFrame) : Nat := bitsOf (f.w 1) 15 0
def PljFrame.half (f : PljFrame) : Nat := bitsOf (f.w 1) 31 16
/-- Words 2 and 3. -/
def PljFrame.stamp (f : PljFrame) : Dbl := f.w 3 ++ f.w 2
/-- Cells of a frame: its header line and its body lines. -/
def PljFrame.cells (f : PljFrame) : Nat := 1 + (f.body.length + 3) / 4

/-! ## Ports: queues, cells, replay (R374, R377, R388) -/

/-- Place in the order of R377. -/
def typePlace (t : Nat) : Nat := [7, 1, 0, 3, 4, 5, 2, 6].getD t 7

/-- Frames that a V1 port sends. -/
def v1Frame (t : Nat) : Bool := t == ftSync || t == ftTrig || t == ftMbx || t == ftCfg

/-- A frame joins a port's queue. -/
def Dev.pljQueue (s : Dev) (p : Nat) (f : PljFrame) : Dev :=
  if s.pljState p != portUp || (s.pljV1 p && !v1Frame f.typ) || s.halted then s
  else s.onPljPort p fun x => { x with queue := x.queue ++ [f] }

/-- The place of the frame that leaves next: first of the highest type. -/
def nextPlj (q : List PljFrame) : Option Nat :=
  (upto 8).findSome? (fun k => q.findIdx? (fun f => typePlace f.typ == k))

/-- A frame has left a port whole. -/
def Dev.pljLeft (s : Dev) (p : Nat) (f : PljFrame) : Dev :=
  { s with sent := s.sent ++ [⟨4, p, f.typ, f.head ++ f.body⟩] }

/-- One cell goes out. -/
def Dev.pljCell (s : Dev) (p : Nat) : Dev :=
  s.onPljPort p fun x => if s.pljV1 p then x else { x with unacked := x.unacked ++ [x.seq], seq := (x.seq + 1) % 256 }

/-- A single-cell TRIG or SYNC frame at the head goes between the cells of another. -/
def between (q : List PljFrame) : Option Nat :=
  match nextPlj q with
  | some i => match q[i]? with
    | some f => if f.typ = ftSync || f.typ = ftTrig then some i else none
    | none => none
  | none => none

/-- Send the frame at place `i` of the queue: its first cell. -/
def Dev.pljStart (s : Dev) (p i : Nat) (keep : Option (PljFrame × Nat)) : Dev :=
  match (s.pljPort p).queue[i]? with
  | none => s
  | some f =>
    let s := (s.pljCell p).onPljPort p fun x => { x with
      queue := x.queue.eraseIdx i, cur := if f.cells ≤ 1 then keep else some (f, f.cells - 1) }
    if f.cells ≤ 1 then s.pljLeft p f else s

/-- A port's part of a tick: one cell on each 19.2 ns. After PFAIL only the frame under way goes on. -/
def Dev.pljPortTick (s : Dev) (p : Nat) : Dev :=
  let x := s.pljPort p
  let slot := s.ns * 10 / 192
  if s.pljState p != portUp || slot == x.slot then s
  else
    let s := s.onPljPort p fun x => { x with slot := slot }
    if 0 < x.resend then s.onPljPort p fun x => { x with resend := x.resend - 1 }
    else if 32 ≤ x.unacked.length then s
    else
      match x.cur with
      | some (f, n) =>
        match (if s.halted then none else between x.queue) with
        | some i => s.pljStart p i x.cur
        | none =>
          let s := (s.pljCell p).onPljPort p fun x => { x with cur := if n ≤ 1 then none else some (f, n - 1) }
          if n ≤ 1 then s.pljLeft p f else s
      | none =>
        match (if s.halted then none else nextPlj x.queue) with
        | some i => s.pljStart p i none
        | none => s

/-- Release cells acknowledged up to `ack`. -/
def ackCells (ack : Nat) : List Nat → List Nat
  | [] => []
  | c :: rest => if (ack + 256 - c) % 256 < 128 then ackCells ack rest else c :: rest

/-- The port goes DOWN and trains again. -/
def Dev.pljDown (s : Dev) (p : Nat) : Dev :=
  let s := (s.set (A.PLJ_PORT_STAT p) F.PLJ_PORT_STAT_STATE portTraining).offer 0x4A 0x10 .portDown
  s.onPljPort p fun _ => PljPort.init

/-- A cell that cannot be taken: discarded with NAK; the third failure of one cell takes the port DOWN. -/
def Dev.pljBad (s : Dev) (p : Nat) : Dev :=
  let x := s.pljPort p
  if 2 ≤ x.fails then s.pljDown p
  else
    let s := s.onPljPort p fun x => { x with fails := x.fails + 1, dropping := true }
    { s with sent := s.sent ++ [⟨4, p, 0x100, [BitVec.ofNat 32 x.rxSeq]⟩] }

/-- The acknowledgement that a good cell carries. -/
def Dev.pljAck (s : Dev) (p ack : Nat) (nak : Bool) : Dev :=
  let s := s.onPljPort p fun x => { x with unacked := ackCells ack x.unacked }
  if nak then
    (s.onPljPort p fun x => { x with resend := x.unacked.length }).count (A.PLJ_PORT_ERR p) F.PLJ_PORT_ERR_REPLAY 1
  else s

/-- CELL_RECEIVED (R374): wrong bits, LSEQ, ACKSEQ and NAK of the cell. -/
def Dev.pljCellIn (s : Dev) (p errs lseq ack : Nat) (nak : Bool) : Dev :=
  let find := lineFind lseq errs
  let e := A.PLJ_PORT_ERR p
  if s.pljState p != portUp then s
  else if s.pljV1 p then
    match find with
    | .corrected => s.count e F.PLJ_PORT_ERR_CE 1
    | .uncorrectable => s.count e F.PLJ_PORT_ERR_UE 1
    | _ => s
  else
    let x := s.pljPort p
    let next := (x.rxSeq + 1) % 256
    if find = .uncorrectable then (if x.dropping && lseq != next then s else s.pljBad p)
    else if lseq != next then (if x.dropping then s else s.pljBad p)
    else
      let s := if find = .corrected then s.count e F.PLJ_PORT_ERR_CE 1 else s
      (s.onPljPort p fun x => { x with rxSeq := lseq, dropping := false, fails := 0 }).pljAck p ack nak

/-- PORT_TRAINED (R388): a V1 partner puts the port in V1 mode; a PAIR port then stays DOWN. -/
def Dev.pljTrained (s : Dev) (p ver : Nat) : Dev :=
  let a := A.PLJ_PORT_STAT p
  if s.pljRole p = 0 || s.pljState p = portUp then s
  else
    let v1 := ver == 1
    let s := (s.onPljPort p fun _ => PljPort.init).setBit a F.PLJ_PORT_STAT_V1 v1
    s.set a F.PLJ_PORT_STAT_STATE (if v1 && s.pljRole p == rolePair then portDown else portUp)

/-! ## Origination and forwarding (R376) -/

/-- A frame sequence number is drawn. -/
def Dev.nextFseq (s : Dev) : Dev × Nat := (s.onPlj fun x => { x with fseq := (x.fseq + 1) % 65536 }, s.plj.fseq)

/-- A frame of this device goes out on every ROLE SEGMENT port. -/
def Dev.pljOut (s : Dev) (f : PljFrame) : Dev :=
  s.each 4 fun s p => if s.pljRole p = roleSegment then s.pljQueue p f else s

/-- Source device of a frame: the pair's number on a primary, but for presence frames of the device itself. -/
def Dev.srcDev (s : Dev) : Nat := if s.primary then s.get A.DUO_CFG F.DUO_CFG_PDEV else s.myDev

/-- The header and body of what a unit sent (unit 2 of `sent`): types 1 and 2 hold their half, and words 2 and 3; 5 and 7
their half and body; 0x13 is a REP with a point's value. -/
def Dev.pljFrameOf (s : Dev) (x : Sent) (fseq : Nat) : PljFrame :=
  let typ := x.kind % 16
  let dseg := if typ = ftGlu then (x.words.getD 2 0).toNat else s.mySeg
  let w0 := headWord0 dseg x.port (decide (32 ≤ x.port)) s.mySeg s.srcDev 0
  let half : Nat :=
    if typ = ftRep then (if x.kind = 0x13 then 2 else 3)
    else if typ = ftGlu then 0
    else (x.words.getD 0 0).toNat % 65536
  let w1 := BitVec.ofNat 32 (fseq + half * 65536)
  if typ = ftSync || typ = ftTrig then ⟨typ, [w0, w1, x.words.getD 1 0, x.words.getD 2 0], []⟩
  else if typ = ftRep || typ = ftGlu then ⟨typ, [w0, w1, 0, 0], x.words⟩
  else ⟨typ, [w0, w1, 0, 0], x.words.drop 1⟩

/-- What units sent on this tick joins the ports' queues. -/
def Dev.pljLaunch (s : Dev) : Dev :=
  s.sent.foldl (fun s x =>
    if x.unit = 2 then
      let (s, n) := s.nextFseq
      s.pljOut (s.pljFrameOf x n)
    else s) s

/-- A frame of another device is forwarded from port `p`: HOPS grows, and a SYNC's CORR by the residence time and the
delay of the port of arrival, in units of 0.5 ns; the residence of at most 240 ns is free. -/
def Dev.pljForward (s : Dev) (p : Nat) (f : PljFrame) : Dev :=
  let w0 := putBits (f.w 0) 23 19 (f.hops + 1)
  let add := (Config.freeWord s.free).toNat % 481 + s.get (A.PLJ_PORT_STAT p) F.PLJ_PORT_STAT_DLY / 5
  let w1 := if f.typ = ftSync then putBits (f.w 1) 31 16 (f.half + add) else f.w 1
  let g : PljFrame := { f with head := [w0, w1, f.w 2, f.w 3] }
  let s := if f.typ = ftSync then s.draw else s
  s.each 4 fun s k => if k != p && s.pljRole k == roleSegment then s.pljQueue k g else s

/-- The key of a frame is among the last 64 taken from its source. -/
def Dev.pljKnown (s : Dev) (f : PljFrame) : Bool := (tabGet [] s.plj.keys (f.sseg * 32 + f.sdev)).contains f.fseq
def Dev.pljNoteKey (s : Dev) (f : PljFrame) : Dev :=
  s.onPlj fun x => { x with
    keys := tabPut [] x.keys (f.sseg * 32 + f.sdev) ((f.fseq :: tabGet [] x.keys (f.sseg * 32 + f.sdev)).take 64) }

/-! ## Segment time (R378, R379) -/

/-- SLOCK: the root, or an offset of at most 2 ns. -/
def Dev.pljLock (s : Dev) (ok : Bool) : Dev := s.setBit A.PLJ_STAT F.PLJ_STAT_SLOCK (s.isRoot || ok)

/-- SEGMENT_SYNC (R378): the offset against a SYNC that arrived on port `p`, in units of 0.1 ns. -/
def Dev.pljSyncIn (s : Dev) (p : Nat) (f : PljFrame) : Dev :=
  if s.isRoot then s
  else
    let own : Int := (s.time.ts.toNat * 10 + s.time.frac.toNat * 10 / 2 ^ 32 : Nat)
    let ofs10 : Int := own - (f.stamp.toNat * 10 + f.half * 5 + s.get (A.PLJ_PORT_STAT p) F.PLJ_PORT_STAT_DLY : Nat)
    let ofs := ofs10.tdiv 10
    let s := (s.pljLock (decide (ofs10.natAbs ≤ 20))).onPlj fun x => { x with synced := true }
    if s.get A.TIME_CTL F.TIME_CTL_SRC != 3 then s
    else if Config.pljSteps ofs then
      ((s.onTime fun t => { t with steps := t.steps ++ [-ofs] }).setReg A.TIME_OFS_EST 0).setOffsync
    else s.slew.estimate ofs

/-- ROOT_SYNC: every 1 ms the root broadcasts its egress time. -/
def Dev.rootSync (s : Dev) : Dev :=
  if s.isRoot && !s.halted && (s.plj.syncSent == 0 || decide (s.plj.syncSent + 250000 ≤ s.ticks + 1)) then
    ((s.pljLock true).onPlj fun x => { x with syncSent := s.ticks + 1 }).emit
      ⟨2, 32, ftSync, [0, s.time.ts.setWidth 32, (s.time.ts >>> 32).setWidth 32]⟩
  else s

/-- DELAY_EXCHANGE: the mean of the last 16 exchanges, in units of 0.1 ns. -/
def Dev.delayExchange (s : Dev) (p d : Nat) : Dev :=
  if s.pljState p != portUp then s
  else
    let ds := (d :: (s.pljPort p).dlys).take 16
    (s.onPljPort p fun x => { x with dlys := ds }).set (A.PLJ_PORT_STAT p) F.PLJ_PORT_STAT_DLY (ds.foldl (· + ·) 0 / ds.length)

/-! ## Presence (R381, R382) -/

def cfgPresence : Nat := 1
def cfgSubscribe : Nat := 2
def cfgUnsubscribe : Nat := 3

/-- PRESENCE_FRAME: every 1 ms, with the budget; the primary of a pair also sends one for PDEV (R399). -/
def Dev.presenceOut (s : Dev) : Dev :=
  if s.halted || !(s.plj.presSent == 0 || decide (s.plj.presSent + 250000 ≤ s.ticks + 1)) then s
  else
    let s := s.onPlj fun x => { x with presSent := s.ticks + 1 }
    let send (s : Dev) (d : Nat) : Dev :=
      let (s, n) := s.nextFseq
      s.pljOut ⟨ftCfg, [headWord0 s.mySeg 0 true s.mySeg d 0, BitVec.ofNat 32 (n + cfgPresence * 65536), 0, 0],
        [BitVec.ofNat 32 (s.get A.PLJ_CFG F.PLJ_CFG_BUDGET)]⟩
    let s := send s s.myDev
    if s.primary then send s (s.get A.DUO_CFG F.DUO_CFG_PDEV) else s

/-- Ports over which a device's presence frames arrive: those within the last 3 ms. -/
def Dev.presPorts (s : Dev) (d : Nat) : List Nat :=
  (upto 4).filter (fun p =>
    let t := tabGet 0 s.plj.seen (4 * d + p)
    t != 0 && decide (s.ticks + 1 < t + 750000))

/-- BREAK, BUDERR aside: with two ROLE SEGMENT ports, a present device is heard over one only (R381). -/
def Dev.pljBreak (s : Dev) : Dev :=
  let ports := (upto 4).filter (fun p => s.pljRole p == roleSegment)
  let brk := ports.length == 2 && (upto 32).any (fun d =>
    (s.reg A.PLJ_PRESENT).getLsbD d && ports.any (fun p => !(s.presPorts d).contains p))
  s.setBit A.PLJ_STAT F.PLJ_STAT_BREAK brk

/-- A device becomes present or absent. -/
def Dev.pljSetPresent (s : Dev) (d : Nat) (on : Bool) : Dev :=
  let w := s.reg A.PLJ_PRESENT
  if w.getLsbD d = on then s
  else (s.setReg A.PLJ_PRESENT (putBits w d d (if on then 1 else 0))).offer 0x4A 0x10 .presenceChange

/-- Entries of the own segment that are enabled as READ points of a device. -/
def Dev.readEntries (s : Dev) (d : Nat) : List Nat :=
  (upto 4096).filter (fun e =>
    let c := s.reg (A.PLJ_SEGT_CFG e)
    F.PLJ_SEGT_CFG_EN.of c == 1 && F.PLJ_SEGT_CFG_DIR.of c == 0 && F.PLJ_SEGT_CFG_DEV.of c == d)

def remHandle (e : Nat) : Word := mkHandle 0x7F e

/-- Ask a device for the writes of a point (log 48). -/
def Dev.subscribe (s : Dev) (e : Nat) (on : Bool) : Dev :=
  s.emit ⟨2, s.get (A.PLJ_SEGT_CFG e) F.PLJ_SEGT_CFG_DEV, ftCfg,
    [BitVec.ofNat 32 (if on then cfgSubscribe else cfgUnsubscribe), s.reg (A.PLJ_SEGT_RHND e)]⟩

/-- A presence frame of device `d` arrives on port `p`. -/
def Dev.presenceIn (s : Dev) (p d : Nat) (budget : Word) : Dev :=
  let was := (s.reg A.PLJ_PRESENT).getLsbD d
  let s := (s.onPlj fun x => { x with seen := tabPut 0 x.seen (4 * d + p) (s.ticks + 1) }).pljSetPresent d true
  let s := { s with via := tabPut [] s.via d (s.presPorts d) }
  let s := if budget != BitVec.ofNat 32 (s.get A.PLJ_CFG F.PLJ_CFG_BUDGET) then s.set A.PLJ_STAT F.PLJ_STAT_BUDERR 1 else s
  (if was then s else (s.readEntries d).foldl (fun s e => s.subscribe e true) s).pljBreak

/-- DEVICE_ABSENT (R381): no presence frame for 3 ms. The local points of the device carry VALID clear (R384). -/
def Dev.deviceAbsent (s : Dev) (d : Nat) : Dev :=
  if (s.reg A.PLJ_PRESENT).getLsbD d && (s.presPorts d).isEmpty then
    let s := s.pljSetPresent d false
    let s := { s with via := tabPut [] s.via d [] }
    ((s.readEntries d).foldl (fun s e => s.publish (remHandle e) ⟨(s.point (remHandle e)).val, false⟩) s).pljBreak
  else s

/-! ## Remote points (R384) -/

/-- A write through a handle by the supervisor cores on behalf of a remote device. -/
def Dev.coreWrite (s : Dev) (h : Word) (p : Pt) : Dev :=
  let w : Writer := match s.claim h with
    | some (.core k) => .core k
    | _ => .core 0
  if hclass h = 0x08 then (if s.mWritable (hindex h) 0x38 then (s.mStore (hindex h) p.val).1 else s)
  else if hclass h = 0x7F then s
  else (s.deliver w h p).1

/-- A value of a remote point arrives from its device. -/
def Dev.repRead (s : Dev) (dev : Nat) (h : Word) (p : Pt) : Dev :=
  ((s.readEntries dev).filter (fun e => s.reg (A.PLJ_SEGT_RHND e) == h)).foldl (fun s e => s.publish (remHandle e) p) s

/-- Writes of points that other devices read leave as REP frames. -/
def Dev.pljReads (s : Dev) (wrote : List Word) : Dev :=
  (s.plj.subs.filter (fun x => wrote.contains x.1)).foldl (fun s x =>
    let p := s.now x.1
    s.emit ⟨2, x.2, 0x13, [x.1, p.val, if p.valid then 1 else 0, s.ts32]⟩) s

/-! ## Remote mailboxes (R387) -/

/-- The page that a notice carries. -/
def Dev.noticeWords (s : Dev) (m : Nat) (x : Notice) : List Word :=
  if s.bit (A.PLJ_MBX_ROUTE (m - 48)) F.PLJ_MBX_ROUTE_PAY then
    match handleAddrOf x.handle with
    | some a => s.words a 1024
    | none => []
  else []
where
  /-- Pool address of a page handle. -/
  handleAddrOf (h : Dbl) : Option Nat :=
    let n := h.toNat
    if 0x1000000 ≤ n && n < 0x3800000 && n % 4096 == 0 then some (n - 0x1000000) else none

/-- The head notice of a routed channel goes out with a frame sequence. -/
def Dev.mbxSendHead (s : Dev) (m fseq : Nat) : Dev :=
  match (s.mend m 1).queue with
  | [] => s
  | x :: _ =>
    let r := s.reg (A.PLJ_MBX_ROUTE (m - 48))
    let d := s.routeDev m
    let s := s.onPlj fun y => { y with mbxTx := tabPut (0, 0) y.mbxTx m (s.ticks + 1, fseq) }
    let w1 := BitVec.ofNat 32 (fseq + F.PLJ_MBX_ROUTE_RCH.of r * 65536)
    if s.roleStandby then s
    else s.pljOut ⟨ftMbx, [headWord0 s.mySeg d false s.mySeg s.srcDev 0, w1, 0, 0],
      [x.tag, x.stamp, x.handle.setWidth 32, (x.handle >>> 32).setWidth 32] ++ s.noticeWords m x⟩

/-- A routed channel's head that has not been sent goes out while its device is present. -/
def Dev.mbxFirst (s : Dev) (m : Nat) : Dev :=
  if s.routed m && (tabGet (0, 0) s.plj.mbxTx m).1 == 0 && s.present (s.routeDev m) && !s.halted then
    match (s.mend m 1).queue with
    | x :: _ => if x.tick < s.ticks then (let (s, n) := s.nextFseq; s.mbxSendHead m n) else s
    | [] => s
  else s

/-- MBX_RETRY: 10 µs without acknowledgement. -/
def Dev.mbxRetry (s : Dev) (m : Nat) : Dev :=
  let (t, n) := tabGet (0, 0) s.plj.mbxTx m
  if s.routed m && t != 0 && decide (t + 2500 ≤ s.ticks + 1) && s.present (s.routeDev m) && !s.halted then s.mbxSendHead m n
  else s

/-- An acknowledgement of the head arrives: the notice is gone. -/
def Dev.mbxAcked (s : Dev) (m fseq : Nat) : Dev :=
  let (t, n) := tabGet (0, 0) s.plj.mbxTx m
  match (s.mend m 1).queue with
  | x :: rest =>
    if t != 0 && n == fseq then
      let s := s.onPlj fun y => { y with mbxTx := tabPut (0, 0) y.mbxTx m (0, 0) }
      (s.freeNotice m x.handle).onMend m 1 fun d => { d with queue := rest }
    else s
  | [] => s

/-- Acknowledge a notice to its sender: RCH with bit 15 set. -/
def Dev.mbxAckOut (s : Dev) (dev chan fseq : Nat) : Dev :=
  s.emit ⟨2, dev, ftMbx, [BitVec.ofNat 32 (0x8000 + chan), BitVec.ofNat 32 fseq]⟩

/-- The page that comes with a notice is stored in one of the receiving channel; false when it is refused. -/
def Dev.mbxPage (s : Dev) (m : Nat) (page : List Word) (h : Dbl) : Dev × Option Dbl :=
  if page.isEmpty then (s, some h)
  else
    match s.rmAlloc m with
    | (s, .grant p) => (s.putSpan (p * 256) page, some (BitVec.ofNat 64 (0x1000000 + p * 4096)))
    | (s, _) => (s, none)

/-- A remote notice arrives: posted with the remote identity, and acknowledged. Gives whether it was taken. -/
def Dev.mbxIn (s : Dev) (dev m : Nat) (body : List Word) : Dev × Bool :=
  let ident := 0x80 + dev
  let stamp := stampWord ident (bitsOf (body.getD 1 0) 15 8) ((body.getD 1 0).getLsbD 16)
  let sec := stamp.getLsbD 16
  match s.postCheck m ident sec false with
  | .posted =>
    match s.mbxPage m (body.drop 4) (body.getD 3 0 ++ body.getD 2 0) with
    | (s, some h) => ((s.postStamped m ident sec false h (body.getD 0 0) stamp).1, true)
    | (s, none) => (s, false)
  | _ => (s, false)

/-! ## Taking frames -/

/-- An MBX frame: an acknowledgement, a notice taken before (acknowledged again), or a notice. A notice that is not taken
leaves no key, so that its retry is judged anew. -/
def Dev.pljMbxIn (s : Dev) (f : PljFrame) : Dev :=
  if s.standby then s
  else if f.half / 0x8000 = 1 then
    -- the channel here whose route names the sender and that channel
    (upto 16).foldl (fun s i =>
      let r := s.reg (A.PLJ_MBX_ROUTE i)
      if F.PLJ_MBX_ROUTE_EN.of r == 1 && F.PLJ_MBX_ROUTE_RCH.of r == f.half % 64 && s.routeDev (48 + i) == f.sdev then
        s.mbxAcked (48 + i) (f.body.getD 0 0).toNat
      else s) (s.pljNoteKey f)
  else if s.pljKnown f then s.mbxAckOut f.sdev (f.half % 64) f.fseq
  else
    match s.mbxIn f.sdev (f.half % 64) f.body with
    | (s, true) => (s.pljNoteKey f).mbxAckOut f.sdev (f.half % 64) f.fseq
    | (s, false) => s

/-- A CFG frame: presence, and requests for a point's writes. -/
def Dev.pljCfgIn (s : Dev) (p : Nat) (f : PljFrame) : Dev :=
  let x := (f.body.getD 0 0, f.sdev)
  if f.half = cfgPresence then s.presenceIn p f.sdev (f.body.getD 0 0)
  else if f.half = cfgSubscribe then
    s.onPlj fun y => { y with subs := if y.subs.contains x then y.subs else y.subs ++ [x] }
  else if f.half = cfgUnsubscribe then s.onPlj fun y => { y with subs := y.subs.filter (fun z => z != x) }
  else s

/-- A device takes a frame (R376). GLU frames act by the commands of the glue-up slots; one for another segment leaves
the root over Ethernet (R386). -/
def Dev.pljTake (s : Dev) (p : Nat) (f : PljFrame) : Dev :=
  if f.typ = ftSync then s.pljSyncIn p f
  else if f.typ = ftTrig then
    s.recBusTrigger f.stamp (if s.pljV1 p then 0 else bitsOf (f.w 1) 23 20) (bitsOf (f.w 1) 19 16) f.sseg f.sdev
  else if f.typ = ftRep then
    let h := f.body.getD 0 0
    let v := f.body.getD 1 0
    let ok := (f.body.getD 2 0).getLsbD 0
    if f.half = 2 then s.repRead f.sdev h ⟨v, ok⟩
    else if f.half = 3 && !s.standby then s.after (.remote h v ok)
    else s
  else if f.typ = ftCfg then s.pljCfgIn p f
  else s

/-- A whole frame arrives on a ROLE SEGMENT port: forwarded, dropped or taken (R376). -/
def Dev.pljSegmentIn (s : Dev) (p : Nat) (f : PljFrame) : Dev :=
  let own := f.sseg == s.mySeg && (f.sdev == s.myDev || (f.typ != ftCfg && s.addressed f.sdev))
  let mine := f.bcast || (f.dseg == s.mySeg && s.addressed f.ddev)
  let gate := f.typ == ftGlu && f.dseg != s.mySeg && s.isRoot
  let only := !f.bcast && f.dseg == s.mySeg && s.addressed f.ddev
  if own || (31 ≤ f.hops && !only && !gate) then s
  else if f.typ = ftMbx && mine then s.pljMbxIn f
  else if f.typ = ftCfg && f.half == cfgPresence && s.pljKnown f then s.presenceIn p f.sdev (f.body.getD 0 0)
  else if s.pljKnown f then s
  else
    let s := s.pljNoteKey f
    let s := if only || gate then s else s.pljForward p f
    if gate then s.emit ⟨1, s.get A.PLJ_CFG F.PLJ_CFG_GWPORT, 0x88B5, [0x59430002, BitVec.ofNat 32 f.ddev] ++ f.body⟩
    else if mine then s.pljTake p f else s

/-! ## The tick, and guarded register writes -/

/-- Plajo's part of a tick: what units sent joins the queues, notices of routed channels go out, each port sends. -/
def Dev.pljTick (s : Dev) : Dev :=
  let s := (upto 16).foldl (fun s i => s.mbxFirst (48 + i)) s
  s.each 4 Dev.pljPortTick

def Dev.pljCfgErr (s : Dev) : Dev := s.raise A.PLJ_STAT F.PLJ_STAT_CFGERR

/-- A write of PLJ_PORT_CTL.ROLE: a port leaves OFF by training. -/
def Dev.pljRoleWrite (s : Dev) (p r : Nat) : Dev :=
  if r = 3 || r = s.pljRole p then s
  else
    let s := (s.set (A.PLJ_PORT_CTL p) F.PLJ_PORT_CTL_ROLE r).onPljPort p fun _ => PljPort.init
    (s.set (A.PLJ_PORT_STAT p) F.PLJ_PORT_STAT_V1 0).set (A.PLJ_PORT_STAT p) F.PLJ_PORT_STAT_STATE (if r = 0 then portDown else portTraining)

/-- A write of PLJ_SEGT_CFG (R384, R388). -/
def Dev.segtWrite (s : Dev) (e : Nat) (v : Word) : Dev :=
  let a := A.PLJ_SEGT_CFG e
  let old := s.reg a
  let w := v &&& 0xC0001FF0
  let h := s.reg (A.PLJ_SEGT_RHND e)
  let d := F.PLJ_SEGT_CFG_DEV.of w
  let bad := F.PLJ_SEGT_CFG_EN.of w == 1 &&
    (F.PLJ_SEGT_CFG_SEG.of w != s.mySeg || d == s.myDev || hclass h == 0x7F || !validHandle h || s.onlyV1 d)
  if bad then s.pljCfgErr
  else
    let wasRead := F.PLJ_SEGT_CFG_EN.of old == 1 && F.PLJ_SEGT_CFG_DIR.of old == 0
    let s := if wasRead then s.subscribe e false else s
    let s := s.setReg a w
    let s := if F.PLJ_SEGT_CFG_EN.of w = 0 then { s with points := tabPut Pt.none s.points (remHandle e).toNat Pt.none } else s
    if F.PLJ_SEGT_CFG_EN.of w = 1 && F.PLJ_SEGT_CFG_DIR.of w == 0 then s.subscribe e true else s

/-- A write of PLJ_SEGT_RHND: only while EN is 0. -/
def Dev.segtRhndWrite (s : Dev) (e : Nat) (v : Word) : Dev :=
  if s.bit (A.PLJ_SEGT_CFG e) F.PLJ_SEGT_CFG_EN then s else s.setReg (A.PLJ_SEGT_RHND e) v

/-- A write of PLJ_MBX_ROUTE: RCH 48-63. -/
def Dev.routeWrite (s : Dev) (i : Nat) (v : Word) : Dev :=
  if F.PLJ_MBX_ROUTE_RCH.of v < 48 then s.pljCfgErr else s.setReg (A.PLJ_MBX_ROUTE i) (v &&& 0xFF000FFF)

end Sys2Proof.Machine
end

