-- ==== Sys2Proof/Machine/PljCmd.lean ====
section
/-! DEFINITION. The commands of Plajo Link (chapter 18). -/

namespace Sys2Proof.Machine

/-- CELL_RECEIVED (R374): a cell arrives with `errs` wrong bits. -/
def execCellReceived (p : Fin 4) (errs : Nat) (lseq ack : BitVec 8) (nak : Bool) (s : State) : Out :=
  s.go (·.pljCellIn p.val errs lseq.toNat ack.toNat nak)
/-- PORT_TRAINED (R388): the port has learned its partner's version. -/
def execPortTrained (p : Fin 4) (ver : Nat) (s : State) : Out := s.go (·.pljTrained p.val ver)
/-- ROOT_SYNC (R378). -/
def execRootSync (s : State) : Out := s.live Dev.rootSync
/-- DELAY_EXCHANGE (R378): the link delay measured, in units of 0.1 ns. -/
def execDelayExchange (p : Fin 4) (d : Nat) (s : State) : Out := s.go (·.delayExchange p.val d)
/-- PRESENCE_FRAME (R381). -/
def execPresenceFrame (s : State) : Out := s.live Dev.presenceOut
/-- DEVICE_ABSENT (R381). -/
def execDeviceAbsent (d : Fin 32) (s : State) : Out := s.live (·.deviceAbsent d.val)
/-- MBX_RETRY (R387). -/
def execMbxRetry (m : Fin 64) (s : State) : Out := s.live (·.mbxRetry m.val)

end Sys2Proof.Machine
end

