-- ==== Sys2Proof/Machine/Position.lean ====
section
/-! DEFINITION. The position channels (chapter 11): counts and direction hysteresis, references, toothed wheels, sin/cos,
SSI, velocity and publication. POS_RAW holds raw. -/

namespace Sys2Proof.Machine

def Dev.posCh (s : Dev) (n : Nat) : Pos := tabGet Pos.init s.poss n
def Dev.onPos (s : Dev) (n : Nat) (f : Pos → Pos) : Dev := { s with poss := tabPut Pos.init s.poss n (f (s.posCh n)) }

def Dev.posType (s : Dev) (n : Nat) : Nat := s.get (A.POS_CTL n) F.POS_CTL_TYPE
def Dev.posRaw (s : Dev) (n : Nat) : Word := s.reg (A.POS_RAW n)
def posHandle (n : Nat) : Word := mkHandle 0x12 n
def velHandle (n : Nat) : Word := mkHandle 0x13 n

/-- Number of the 5 ns sample of this tick: the last that does not lie after it. -/
def Dev.sampleNo (s : Dev) : Nat := (s.ticks * 4 + 3) / 5
/-- Its instant in ns. -/
def Dev.sampleNs (s : Dev) : Nat := s.sampleNo * 5

/-- Sign of DIR. -/
def Dev.posSign (s : Dev) (n : Nat) : Int := if s.bit (A.POS_CTL n) F.POS_CTL_DIR then -1 else 1

/-! ## Faults (R259) -/

/-- The first cause is latched and recorded; later ones do not replace it. -/
def Dev.posFault (s : Dev) (n cause : Nat) : Dev :=
  let s := s.onPos n fun p => { p with causeAt := s.ticks + 1 }
  if s.bit (A.POS_STAT n) F.POS_STAT_MODE then s
  else ((s.set (A.POS_STAT n) F.POS_STAT_MODE 1).set (A.POS_STAT n) F.POS_STAT_FCAUSE cause).offer 0x45 0x09 .posFault

def pcQerr : Nat := 1
def pcIndex : Nat := 2
def pcWheel : Nat := 3
def pcAmp : Nat := 4
def pcSsi : Nat := 5
def pcSsiFrame : Nat := 6

/-! ## raw and pos (R247, R250) -/

/-- pos takes a value at an instant; publications look back by 12 ns. -/
def Dev.setPos (s : Dev) (n ns : Nat) (v : Word) : Dev :=
  s.onPos n fun p =>
    let old := if p.log.isEmpty then [(0, p.pos)] else p.log
    { p with pos := v, log := (ns, v) :: (old.filter (fun x => x.1 + 64 > ns) ++ (old.filter (fun x => !decide (x.1 + 64 > ns))).take 1) }

/-- raw moves by `d` counts at an instant, `div` of them standing in one interval (R248, R253, R255): direction hysteresis
step by step, and what the velocity needs. -/
def Dev.posCount (s : Dev) (n ns : Nat) (d : Int) (div : Nat) : Dev :=
  if d = 0 then s
  else
    let p := s.posCh n
    let raw := s.posRaw n + wordOfInt d
    let dir : Int := if d < 0 then -1 else 1
    let s := s.setReg (A.POS_RAW n) raw
    let follows := !s.bit (A.POS_CTL n) F.POS_CTL_HYST || p.dlast == dir || decide (1 < d.natAbs)
    let s := if follows then s.setPos n ns raw else s
    s.onPos n fun q => { q with
      dlast := dir, cum := q.cum + d, countNs := ns + 1, ivl := if p.countNs = 0 then 0 else ns + 1 - p.countNs,
      ivlDiv := div }

/-- raw and pos are both reduced by a correction. -/
def Dev.posCorrect (s : Dev) (n ns : Nat) (d : Word) : Dev :=
  (s.setReg (A.POS_RAW n) (s.posRaw n - d)).setPos n ns ((s.posCh n).pos - d)

/-- raw and pos are set. -/
def Dev.posSet (s : Dev) (n ns : Nat) (v : Word) : Dev := (s.setReg (A.POS_RAW n) v).setPos n ns v

/-! ## Illegal transitions (R249, R255) -/

/-- An illegal transition at a sample: counted, and FAULT when three others lie within the 1023 samples before. -/
def Dev.posIllegal (s : Dev) (n k : Nat) : Dev :=
  let s := s.count (A.POS_QERR n) F.POS_QERR_DATA 1
  let near := (s.posCh n).illegal.filter (fun x => decide (k ≤ x + 1023))
  let s := s.onPos n fun p => { p with illegal := (k :: near).take 8, illegalAt := k + 1 }
  if 3 ≤ near.length then s.posFault n pcQerr else s

/-! ## References (R251, R252) -/

/-- Distance to the nearest multiple of `per`, ties toward zero. -/
def nearestDiff (x : Int) (per : Nat) : Int :=
  let q := x.natAbs / per
  let r := x.natAbs % per
  let m : Nat := if per < 2 * r then q + 1 else q
  x - (if x < 0 then -((m * per : Nat) : Int) else ((m * per : Nat) : Int))

/-- A mismatch `d` in CHECK (R252). -/
def Dev.posMismatch (s : Dev) (n ns : Nat) (d : Int) (cause : Nat) : Dev :=
  if d = 0 then s
  else
    let s := (s.raise (A.POS_STAT n) F.POS_STAT_IDXERR).setReg (A.POS_IDXDIFF n) (wordOfInt d)
    if !s.bit (A.POS_IDX n) F.POS_IDX_CORR then s
    else if d.natAbs ≤ s.get (A.POS_IDX n) F.POS_IDX_WIN then s.posCorrect n ns (wordOfInt d)
    else s.posFault n cause

/-- IMODE as it acts: HOME behaves as CHECK once HOMED is set. 0 OFF, 1 CHECK, 2 HOME. -/
def Dev.posImode (s : Dev) (n : Nat) : Nat :=
  let m := s.get (A.POS_IDX n) F.POS_IDX_IMODE
  if m = 2 && s.bit (A.POS_STAT n) F.POS_STAT_HOMED then 1 else m

/-- An index or a wheel reference: stamped, latched, then OFF, HOME or CHECK (R251). -/
def Dev.posReference (s : Dev) (n ns per : Nat) (cause : Nat) : Dev :=
  let s := (s.captureNow (0x50 + n) true).setReg (A.POS_LATCH n) (s.posRaw n)
  let ref := s.reg (A.POS_IDXREF n)
  match s.posImode n with
  | 2 => (s.posSet n ns ref).set (A.POS_STAT n) F.POS_STAT_HOMED 1
  | 1 => if per = 0 then s else s.posMismatch n ns (nearestDiff (s.posRaw n - ref).toInt per) cause
  | _ => s

/-! ## Incremental (R248, R251) -/

/-- Direction of an accepted transition of one line: A changing to a level unlike B's goes the same way as B changing to
A's level. -/
def quadDir (a b isA : Bool) : Int :=
  let up := if isA then a != b else a == b
  if up == Config.quadUp then 1 else -1

/-- Accepted transitions of A and B at this sample; both at once are illegal. -/
def Dev.posTransition (s : Dev) (n : Nat) (ta tb : Bool) : Dev :=
  let k := s.sampleNo
  let p := s.posCh n
  let a := p.a != ta
  let b := p.b != tb
  let s := s.onPos n fun p => { p with a := a, b := b }
  if ta && tb then s.posIllegal n k
  else if ta || tb then s.posCount n (k * 5) (quadDir a b ta * s.posSign n) 1
  else s

/-- An index: filtered Z is high (its rising edge for sin/cos). A and B must stand at IDXQ; a sample with an illegal
transition recognises none (R251, R255, R260). -/
def Dev.posIndex (s : Dev) (n : Nat) : Dev :=
  let t := s.posType n
  let p := s.posCh n
  let q := s.get (A.POS_IDX n) F.POS_IDX_IDXQ
  let level := p.a == (q % 2 == 1) && p.b == (q / 2 == 1)
  let per := (s.reg (A.POS_IDXPER n)).toNat
  if t = 1 || t = 2 then
    if level && p.illegalAt != s.sampleNo + 1 then s.posReference n s.sampleNs per pcIndex else s
  else if t = 3 then (if p.illegalAt != p.samples then s.posReference n s.ns per pcIndex else s)
  else s

/-! ## Toothed wheel (R253, R254) -/

/-- q = `per` ÷ (`num` ÷ `den`) lies from `lo` to below `hi`, both in quarters. -/
def ratioIn (per num den lo hi : Nat) : Bool := decide (lo * num ≤ 4 * per * den) && decide (4 * per * den < hi * num)

/-- Classes of a tooth period. -/
inductive Tooth where
  | normal | gap | extra | irregular
  deriving DecidableEq, Repr

def toothClass (refk per num den : Nat) : Tooth :=
  if refk = 4 then
    if ratioIn per num den 3 6 then .normal else if ratioIn per num den 1 3 then .extra else .irregular
  else if ratioIn per num den 2 6 then .normal
  else if ratioIn per num den (4 * refk + 2) (4 * refk + 6) then .gap
  else .irregular

/-- An irregular period is counted; four within the last T periods are a fault. -/
def Dev.wheelIrregular (s : Dev) (n : Nat) : Dev :=
  let s := s.count (A.POS_QERR n) F.POS_QERR_DATA 1
  let p := s.posCh n
  let near := p.periods :: p.irregular.filter (fun x => decide (p.periods < x + s.get (A.POS_WHL n) F.POS_WHL_T))
  let s := s.onPos n fun p => { p with irregular := near.take 8 }
  if 4 ≤ near.length then s.posFault n pcWheel else s

/-- A rising edge of the wheel. -/
def Dev.wheelEdge (s : Dev) (n : Nat) : Dev :=
  let k := s.sampleNo
  let ns := k * 5
  let p := s.posCh n
  let g := s.get (A.POS_WHL n) F.POS_WHL_REFK
  let t := s.get (A.POS_WHL n) F.POS_WHL_T
  let dir := s.posSign n
  let from1 := if p.pair != 0 then p.pair else p.edge
  let per := k + 1 - from1
  let next (s : Dev) (num den : Nat) : Dev :=
    s.onPos n fun p => { p with edge := k + 1, edges := p.edges + 1, refNum := num, refDen := den, pair := 0 }
  if p.edges = 0 then (s.posCount n ns dir 1).onPos n fun p => { p with edge := k + 1, edges := 1 }
  else if p.edges = 1 then next (s.posCount n ns dir 1) per 1
  else
    let cls := toothClass g per p.refNum p.refDen
    if cls = .extra && p.pair == 0 then s.onPos n fun q => { q with pair := p.edge, edge := k + 1, edges := q.edges + 1 }
    else
      let s := s.onPos n fun p => { p with periods := p.periods + 1 }
      match cls with
      | .normal =>
        let s := next (s.posCount n ns dir 1) per 1
        if p.pair != 0 then s.posReference n ns t pcIndex else s
      | .gap => (next (s.posCount n ns (dir * (g + 1)) (g + 1)) per (g + 1)).posReference n ns t pcIndex
      | _ => (next (s.posCount n ns dir 1) per 1).wheelIrregular n

/-! ## Sin/cos (R255, R256) -/

/-- `k` binary digits of the angle of (c, s) in turns, by doubling the angle: floor(atan2(s, c) × 2^k ÷ 2π) mod 2^k. -/
def phaseBits : Nat → Int → Int → Nat
  | 0, _, _ => 0
  | k + 1, c, s =>
    let lower := decide (s < 0) || (s == 0 && decide (c < 0))
    (if lower then 2 ^ k else 0) + phaseBits k (c * c - s * s) (2 * c * s)

def phase12 (c s : Int) : Nat := phaseBits 12 c s

/-- The amplitude ratio (sin² + cos²) ÷ (0.5 V)² lies from AMPLO to AMPHI in units of 0.0001; signals in µV. -/
def Dev.ampOk (s : Dev) (n : Nat) (c si : Int) : Bool :=
  let r := (c * c + si * si).toNat * 10000
  decide (s.get (A.POS_AMP n) F.POS_AMP_AMPLO * 250000000000 ≤ r) &&
    decide (r ≤ s.get (A.POS_AMP n) F.POS_AMP_AMPHI * 250000000000)

/-- A front-end sample. The first gives no change. -/
def Dev.phaseStep (s : Dev) (n : Nat) (si c : Int) : Dev :=
  let p := s.posCh n
  let ph := phase12 c si
  let s := s.onPos n fun q => { q with phase := some ph, samples := q.samples + 1 }
  let s := match p.phase with
    | none => s
    | some old =>
      let d : Int := (((ph + 4096 - old + 2048) % 4096 : Nat) : Int) - 2048
      if 1024 ≤ d.natAbs then s.posIllegal n p.samples else s.posCount n s.ns (d * s.posSign n) 1
  if s.ampOk n c si then s else s.posFault n pcAmp

/-! ## SSI (R257) -/

/-- Gray code to binary. -/
def grayNat : Nat → Nat → Nat
  | 0, g => g
  | k + 1, g => Nat.xor g (grayNat k (g / 2))

/-- Duration of a frame's clocks in ns. -/
def Dev.ssiLen (s : Dev) (n : Nat) : Nat :=
  s.get (A.POS_SSI n) F.POS_SSI_BITS * 100000 / s.get (A.POS_SSI n) F.POS_SSI_RATE

/-- A fire of comparator `tt` starts frames; a fire during a frame or its recovery is skipped (R257). -/
def Dev.ssiFire (s : Dev) (tt : Nat) : Dev :=
  s.each 16 fun s n =>
    if s.bit0 (A.POS_SSI n) F.POS_SSI_EN && s.get0 (A.POS_SSI n) F.POS_SSI_TT == tt then
      if s.ns < (s.posCh n).ssiEnd then s.offer 0x45 0x09 .ssiSkipped
      else s.onPos n fun p => { p with ssi := some (s.ns, s.posRaw n), ssiEnd := s.ns + s.ssiLen n + 20000 }
    else s

/-- The value A of a valid frame. -/
def Dev.ssiValue (s : Dev) (n : Nat) (v : Word) : Word :=
  let c := s.reg (A.POS_SSI n)
  let bits := F.POS_SSI_BITS.of c
  let raw := v.toNat % 2 ^ bits
  let val := if F.POS_SSI_GRAY.of c = 1 then grayNat bits raw else raw
  BitVec.ofNat 32 (val * 2 ^ F.POS_SSI_SHIFT.of c) + s.reg (A.POS_SSIOFS n)

/-- A valid frame acts by the channel type. -/
def Dev.ssiAct (s : Dev) (n : Nat) (latched a : Word) : Dev :=
  let ns := s.ns
  let s := (s.captureNow (0x50 + n) true).setReg (A.POS_LATCH n) latched
  if s.posType n = 5 then
    let d := (a - s.posRaw n).toInt
    (s.posCount n ns d 1).posSet n ns a
  else if 1 ≤ s.posType n && s.posType n ≤ 3 then
    let d := (latched - a).toInt
    match s.posImode n with
    | 2 => (s.posCorrect n ns (wordOfInt d)).set (A.POS_STAT n) F.POS_STAT_HOMED 1
    | 1 => s.posMismatch n ns d pcSsi
    | _ => s
  else s

/-- A frame is complete: in error unless the data line was high before the first clock and low after the last. -/
def Dev.ssiFrame (s : Dev) (n : Nat) (before after : Bool) (v : Word) : Dev :=
  match (s.posCh n).ssi with
  | none => s
  | some (t0, latched) =>
    if t0 + s.ssiLen n ≤ s.ns + 3 then
      let s := s.onPos n fun p => { p with ssi := none }
      if before && !after then (s.onPos n fun p => { p with ssiErrs := 0 }).ssiAct n latched (s.ssiValue n v)
      else
        let e := (s.posCh n).ssiErrs + 1
        let s := (s.raise (A.POS_STAT n) F.POS_STAT_SSIERR).onPos n fun p => { p with ssiErrs := e }
        if 4 ≤ e then s.posFault n pcSsiFrame else s
    else s

/-! ## Velocity and publication (R247, R258) -/

/-- Counts recorded at a microsecond. -/
def cumAt (us : Nat) : List (Nat × Int) → Int
  | [] => 0
  | (t, c) :: rest => if t ≤ us then c else cumAt us rest

/-- Keep what lies within the longest window, and the record before it. -/
def pruneHist (us : Nat) (h : List (Nat × Int)) : List (Nat × Int) :=
  h.filter (fun x => decide (us < x.1 + 65536)) ++ (h.filter (fun x => !decide (us < x.1 + 65536))).take 1

/-- The record at each whole microsecond. -/
def Dev.posTick (s : Dev) : Dev :=
  if s.ticks % 250 = 0 then
    s.each 16 fun s n =>
      let p := s.posCh n
      if p.hist.head?.map (·.2) == some p.cum || (p.hist.isEmpty && p.cum == 0) then s
      else s.onPos n fun p => { p with hist := pruneHist (s.ticks / 250) ((s.ticks / 250, p.cum) :: p.hist) }
  else s

/-- A quotient of integers as a binary32. -/
def ratio32 (a : Int) (b : Nat) : Word := e32 ((Fl.ofInt a).div (Fl.ofInt (b : Int)))

/-- The velocity of this tick and whether it is the period estimate (R258). -/
def Dev.posVel (s : Dev) (n : Nat) : Word × Bool :=
  let p := s.posCh n
  let vwin := s.get (A.POS_VEL n) F.POS_VEL_VWIN
  let us := s.ticks / 250
  let since := s.ns + 1 - p.countNs
  if us < p.histStart + vwin then (0, false)
  else
    let win := ratio32 ((cumAt us p.hist - cumAt (us - vwin) p.hist) * 1000000) vwin
    if p.countNs = 0 || s.get (A.POS_VEL n) F.POS_VEL_VZERO * 1000000 ≤ since then (0, true)
    else if (d32 (s.reg (A.POS_VLOW n))).le (d32 (win &&& 0x7FFFFFFF)) then (win, false)
    else
      let num : Int := p.dlast * 1000000000
      (if since * p.ivlDiv < p.ivl then ratio32 (num * p.ivlDiv) p.ivl else ratio32 num (max since 1), true)

/-- The position 12 ns before this tick. -/
def Dev.posSeen (s : Dev) (n : Nat) : Word :=
  let p := s.posCh n
  match p.log.find? (fun x => x.1 + 12 ≤ s.ns) with
  | some x => x.2
  | none => (p.log.getLast?.map (·.2)).getD p.pos

/-- VALID of the points: not OFF, ACTIVE, and of the position in HOME once HOMED. -/
def Dev.posValid (s : Dev) (n : Nat) : Bool := s.posType n != 0 && !s.bit (A.POS_STAT n) F.POS_STAT_MODE
def Dev.posHomed (s : Dev) (n : Nat) : Bool :=
  s.get (A.POS_IDX n) F.POS_IDX_IMODE != 2 || s.bit (A.POS_STAT n) F.POS_STAT_HOMED

/-- A publication is due on this tick: on the grid of IVL, or a fire of TT. -/
def Dev.pubDue (s : Dev) (n : Nat) : Bool :=
  let c := s.reg (A.POS_PUB n)
  let p := s.posCh n
  !s.halted && p.lastPub != s.ticks + 1 &&
    (if F.POS_PUB_SRC.of c = 1 then s.time.fired.contains (F.POS_PUB_TT.of c)
     else decide (p.pubBase < s.ticks) && (s.ticks - p.pubBase) % (F.POS_PUB_IVL.of c * 125) == 0)

/-- Both points are published on this tick. -/
def Dev.publication (s : Dev) (n : Nat) : Dev :=
  if s.pubDue n then
    let (v, mode) := s.posVel n
    let s := (s.onPos n fun p => { p with lastPub := s.ticks + 1 }).setBit (A.POS_STAT n) F.POS_STAT_VMODE mode
    let ok := s.posValid n
    (s.publish (posHandle n) ⟨s.posSeen n, ok && s.posHomed n⟩).publish (velHandle n) ⟨v, ok⟩
  else s

end Sys2Proof.Machine
end

