-- ==== Sys2Proof/Machine/PositionCmd.lean ====
section
/-! DEFINITION. The commands of the position channels (chapter 11). -/

namespace Sys2Proof.Machine

/-- A channel's decoder starts anew with a change of TYPE (R253). -/
def Pos.restart (p : Pos) : Pos :=
  { p with illegal := [], illegalAt := 0, dlast := 0, edge := 0, edges := 0, pair := 0, periods := 0, irregular := [],
           phase := none, samples := 0, ssi := none, ssiEnd := 0, ssiErrs := 0 }

/-- POS_CTL_WRITE (R246): TYPE and FILT change only when TYPE stands at OFF or is written OFF; the other fields always. -/
def Dev.posCtlWrite (s : Dev) (n : Nat) (v : Word) : Dev :=
  let a := A.POS_CTL n
  let old := s.reg a
  let ty := if F.POS_CTL_TYPE.of v ≤ 5 then F.POS_CTL_TYPE.of v else F.POS_CTL_TYPE.of old
  let fi := if F.POS_CTL_FILT.of v = 0 then F.POS_CTL_FILT.of old else F.POS_CTL_FILT.of v
  let s := ((s.set a F.POS_CTL_RESV (F.POS_CTL_RESV.of v)).set a F.POS_CTL_DIR (F.POS_CTL_DIR.of v)).set
    a F.POS_CTL_HYST (F.POS_CTL_HYST.of v)
  if ty = F.POS_CTL_TYPE.of old && fi == F.POS_CTL_FILT.of old then s
  else if F.POS_CTL_TYPE.of old = 0 || ty == 0 then
    let s := (s.set a F.POS_CTL_TYPE ty).set a F.POS_CTL_FILT fi
    if ty = F.POS_CTL_TYPE.of old then s
    else
      let s := s.onPos n Pos.restart
      if ty = 0 then
        let s := (s.set (A.POS_STAT n) F.POS_STAT_MODE 0).set (A.POS_STAT n) F.POS_STAT_FCAUSE 0
        (s.publish (posHandle n) ⟨(s.point (posHandle n)).val, false⟩).publish (velHandle n) ⟨(s.point (velHandle n)).val, false⟩
      else s
  else s.raise (A.POS_STAT n) F.POS_STAT_CFGERR
def execPosCtlWrite (n : Fin 16) (v : Word) (s : State) : Out := s.go (·.posCtlWrite n.val v)

/-- ACCEPTED_TRANSITION (R248, R249): filtered transitions of A and B at one sample, in an incremental channel. -/
def execAcceptedTransition (n : Fin 16) (a b : Bool) (s : State) : Out :=
  s.live fun d => if d.posType n.val = 1 || d.posType n.val = 2 then d.posTransition n.val a b else d

/-- INDEX (R251). -/
def execIndex (n : Fin 16) (s : State) : Out := s.live (·.posIndex n.val)

/-- TOOTH_EDGE (R253). -/
def execToothEdge (n : Fin 16) (s : State) : Out := s.live fun d => if d.posType n.val = 4 then d.wheelEdge n.val else d

/-- PHASE_STEP (R255, R256): a front-end sample of sin and cos in µV. -/
def execPhaseStep (n : Fin 16) (sin cos : Int) (s : State) : Out :=
  s.live fun d => if d.posType n.val = 3 then d.phaseStep n.val sin cos else d

/-- SSI_FRAME (R257): the data line before the first clock and after the last, and the bits received. -/
def execSsiFrame (n : Fin 16) (before after : Bool) (v : Word) (s : State) : Out := s.live (·.ssiFrame n.val before after v)

/-- PUBLICATION (R247): on a tick that POS_PUB selects. -/
def execPublication (n : Fin 16) (s : State) : Out := s.live (·.publication n.val)

/-- POS_CLR (R259): ACTIVE from the next tick. -/
def execPosClr (n : Fin 16) (s : State) : Out := s.go (·.after (.posClr n.val))

/-- The channel returns to ACTIVE on the tick after the write; in HOME HOMED clears. A cause of the tick of the write keeps
the channel in FAULT (R260). -/
def Dev.posCleared (s : Dev) (n : Nat) : Dev :=
  if (s.posCh n).causeAt != 0 && (s.posCh n).causeAt == s.ticks then s
  else
  let s := (s.set (A.POS_STAT n) F.POS_STAT_MODE 0).set (A.POS_STAT n) F.POS_STAT_FCAUSE 0
  if s.get (A.POS_IDX n) F.POS_IDX_IMODE = 2 then s.set (A.POS_STAT n) F.POS_STAT_HOMED 0 else s

/-- SETP (R259): raw and pos are set to IDXREF, HOMED is set. -/
def Dev.posSetp (s : Dev) (n : Nat) : Dev :=
  (s.posSet n s.ns (s.reg (A.POS_IDXREF n))).set (A.POS_STAT n) F.POS_STAT_HOMED 1
def execSetp (n : Fin 16) (s : State) : Out := s.go (·.posSetp n.val)

end Sys2Proof.Machine
end

