-- ==== Sys2Proof/Machine/RecCmd.lean ====
section
/-! DEFINITION. The commands of the signal recorder (chapter 14). -/

namespace Sys2Proof.Machine

def Dev.recCfgErr (s : Dev) : Dev := s.raise A.REC_STAT F.REC_STAT_CFGERR

/-- REC_ENROL (R302): a write of REC_ENR_CFG. FMT moves only while EN is 0; EN is writable through the P view. -/
def Dev.recEnrol (s : Dev) (acc : Acc) (e : Nat) (v : Word) : Dev :=
  let a := A.REC_ENR_CFG e
  let on := s.bit a F.REC_ENR_CFG_EN
  let s := if on then s else s.set a F.REC_ENR_CFG_FMT (F.REC_ENR_CFG_FMT.of v)
  let en := F.REC_ENR_CFG_EN.of v == 1
  if !acc.pview then (if en != on then s.violation a true else s)
  else if !en then (s.set a F.REC_ENR_CFG_EN 0).setPend e false
  else if on then s
  else if s.enrolOk e (s.get a F.REC_ENR_CFG_FMT) then (s.set a F.REC_ENR_CFG_EN 1).setPend e true
  else s.recCfgErr.offer 0x30 0x0C .configRefused
def execRecEnrol (acc : Acc) (e : Fin 8192) (v : Word) (s : State) : Out := s.go (·.recEnrol acc e.val v)

/-- SWEEP (R304): a record of the current value of the lowest-numbered pending entry, while the ring takes changes. -/
def Dev.recSweep (s : Dev) : Dev :=
  if s.recTaking && decide (s.recQueued < 4096) && (s.recWindow || decide (64 < s.recFree)) then
    match s.enabledEntries.find? s.recPend with
    | some e => let h := s.reg (A.REC_ENR_HND e); s.recTake e h (s.now h)
    | none => s
  else s
def execSweep (s : State) : Out := s.go Dev.recSweep

/-- RING_WRITE (R305, R319): the LOSS records that are due, then up to three records from the intake queue. -/
def Dev.ringWrite (s : Dev) : Dev := s.recLossRecords.recWriteHead.recWriteHead.recWriteHead.recUpdate
def execRingWrite (s : State) : Out := s.go Dev.ringWrite

/-- The recorder owns a volatile bank (R310). -/
def Dev.recOwnsVolatile (s : Dev) : Bool := (upto 32).any (fun k => s.owner (48 + k) == 0x30)

/-- Allocate `n` pages for the ring: the pages granted, and whether all were. -/
def Dev.recAlloc : Nat → Dev → List Nat → Dev × List Nat × Bool
  | 0, s, ps => (s, ps, true)
  | n + 1, s, ps =>
    match s.rmAlloc 80 with
    | (s', .grant p) => Dev.recAlloc n s' (ps ++ [p])
    | (s', _) => (s', ps, false)

/-- A new window begins: nothing counted since the ARM, every entry pending, a START marker due (R304, R307, R317). -/
def Dev.startWindow (s : Dev) : Dev :=
  let s := (s.onRec fun r => { r with sinceArm := 0, firstArm := s.recSeq }).recRelease s.recSeq
  ((s.setRecState recArmed).recPendAll).recMark false true false

/-- REC_ENABLE (R310): a write of REC_CTL with EN at 1. MODE and SINK of the same write come first; on an enabled recorder
a change of them is refused. -/
def Dev.recEnable (s : Dev) (v : Word) : Dev :=
  let a := A.REC_CTL
  let mode := F.REC_CTL_MODE.of v
  let sink := F.REC_CTL_SINK.of v
  if s.recEnabled then
    if mode != s.get a F.REC_CTL_MODE || sink != s.get a F.REC_CTL_SINK then s.recCfgErr else s
  else
    let s := (s.set a F.REC_CTL_MODE mode).set a F.REC_CTL_SINK sink
    if s.recOwnsVolatile then s.recCfgErr
    else
      match Dev.recAlloc (s.get A.REC_RING F.REC_RING_PAGES) s [] with
      | (s', ps, false) => (ps.foldl (fun s p => s.pageFreed p) s').raise A.REC_STAT F.REC_STAT_ALLOCREF
      | (s', ps, true) =>
        let q := s'.recSeq
        let s := s'.onRec fun r => { r with pages := ps, oldest := q, released := q, prevCond := [], frameSince := [] }
        let s := ((s.set a F.REC_CTL_EN 1).setReg A.REC_HB_RD q).setReg A.REC_HB_WR q
        let s := if mode = 1 then s.startWindow else (s.setRecState recRun).recMark false true false
        s.recUpdate
def execRecEnable (v : Word) (s : State) : Out := s.go (·.recEnable v)

/-- REC_DISABLE (R310): the ring is freed and the records held are discarded and counted in a Scribe record. -/
def Dev.recDisable (s : Dev) : Dev :=
  if s.recEnabled then
    let n := (s.recSeq - s.recorder.released).toNat
    let s := s.offerCode 0x30 (BitVec.ofNat 8 0x0C ++ Config.recordCode .recDiscarded) false [BitVec.ofNat 32 n]
    let s := s.recorder.pages.foldl (fun s p => s.after (.pageFree p)) s
    let q := s.recSeq
    let s := s.onRec fun r => { r with
      pages := [], queue := [], found := [], trigs := [], acting := [], oldest := q, released := q, frameSince := [],
      lossCount := [], lossFirst := [] }
    let s := ((s.set A.REC_CTL F.REC_CTL_EN 0).setRecState recDisabled).set A.REC_STAT F.REC_STAT_LOSSPEND 0
    ((s.setReg A.REC_HB_RD q).setReg A.REC_HB_WR q).recUpdate
  else s
def execRecDisable (s : State) : Out := s.go Dev.recDisable

/-- REC_ARM (R317): from ARMED or DONE, when the window fits the ring. -/
def Dev.recArm (s : Dev) : Dev :=
  let fits := decide (s.get A.REC_PRE F.REC_PRE_DEPTH + s.get A.REC_POST F.REC_POST_DEPTH + 1 ≤ s.recCap)
  if s.recEnabled && s.recWindow && (s.recState == recArmed || s.recState == recDone) && fits then s.startWindow.recUpdate
  else s.recCfgErr
def execRecArm (s : State) : Out := s.go Dev.recArm

/-- SOFTTRIG (R315): the trigger's instant is the tick from which the write is visible. -/
def execSofttrig (s : State) : Out := s.go (·.after .softTrig)

/-- CLRCNT (R321): the loss counts and the trigger counts are cleared. -/
def Dev.recClrcnt (s : Dev) : Dev := (s.each 128 fun s c => s.setReg (A.REC_LOSSCNT c) 0).setReg A.REC_TRG_STAT 0
def execClrcnt (s : State) : Out := s.go Dev.recClrcnt

/-- TRIGGER_ACT (R316): the first trigger whose acting instant has come acts on this tick: its record follows the tick's
changes (R308). -/
def Dev.triggerAct (s : Dev) : Dev :=
  match s.recorder.trigs.find? (fun t => decide (t.actAt ≤ s.ts)) with
  | some t => s.onRec fun r => { r with
      trigs := r.trigs.erase t, acting := r.acting ++ [.trigger t.ts t.frac t.kind t.num t.seg t.dev] }
  | none => s
def execTriggerAct (s : State) : Out := s.live Dev.triggerAct

/-! ## The sinks (R312-R314) -/

/-- The sink may deliver in the recorder's state: a window only once it is complete. -/
def Dev.recDelivers (s : Dev) : Bool :=
  !s.recorder.halted && !s.standby && (if s.recWindow then s.recState == recDone else s.recEnabled)

/-- The first record that the sink has not delivered, and the end of what it may deliver. -/
def Dev.recNextOut (s : Dev) : Word :=
  let w := s.reg A.REC_HB_WR
  if (w - s.recorder.released).toNat < 0x80000000 then w else s.recorder.released
def Dev.recLastOut (s : Dev) : Word :=
  if s.recWindow then s.reg A.REC_TRGPOS + BitVec.ofNat 32 (s.get A.REC_POST F.REC_POST_DEPTH) + 1 else s.recSeq

/-- Write a word into host memory. -/
def Dev.hostPut (s : Dev) (a : Nat) (w : Word) : Dev := s.onRec fun r => { r with hostMem := tabPut 0 r.hostMem (a / 4) w }

/-- Record `q` into its slot of the host buffer. -/
def Dev.hostRecord (s : Dev) (q : Word) : Dev :=
  let base := (s.pair A.REC_HB_BASE_LO).toNat
  let slots := s.get A.REC_HB_SIZE F.REC_HB_SIZE_DATA * 256
  let a := base + q.toNat % slots * 16
  (upto 4).foldl (fun s i => s.hostPut (a + 4 * i) (s.word (s.recAddr q + 4 * i))) s

/-- HOST_BURST (R312): the records that the host buffer has room for, then the status line. -/
def Dev.hostBurst (s : Dev) : Dev :=
  let size := s.get A.REC_HB_SIZE F.REC_HB_SIZE_DATA
  if s.recDelivers && !s.bit A.REC_CTL F.REC_CTL_SINK && size != 0 then
    let q := s.recNextOut
    let room := size * 256 - (q - s.reg A.REC_HB_RD).toNat
    let n := min room (s.recLastOut - q).toNat
    let s := (upto n).foldl (fun s i => s.hostRecord (q + BitVec.ofNat 32 i)) s
    let wr := q + BitVec.ofNat 32 n
    let s := s.setReg A.REC_HB_WR wr
    let a := (s.pair A.REC_HB_BASE_LO).toNat + size * 4096
    (((s.hostPut a wr).hostPut (a + 4) 0).hostPut (a + 8) s.ts32).hostPut (a + 12) ((s.ts >>> 32).setWidth 32)
  else s
def execHostBurst (s : State) : Out := s.live Dev.hostBurst

/-- HB_RD_WRITE (R313): every record before `v` is released; a move backwards or beyond WR is ignored with CFGERR. -/
def Dev.hbRdWrite (s : Dev) (v : Word) : Dev :=
  let rd := s.reg A.REC_HB_RD
  if (v - rd).toNat ≤ (s.reg A.REC_HB_WR - rd).toNat then
    ((s.setReg A.REC_HB_RD v).onRec fun r => { r with released := v }).recUpdate
  else s.recCfgErr
def execHbRdWrite (v : Word) (s : State) : Out := s.go (·.hbRdWrite v)

/-- REC_FRAME (R314): with SINK set to Ethernet, up to 88 records leave in a frame, once 88 wait or the oldest has waited
100 µs. They are released. -/
def Dev.recFrame (s : Dev) : Dev :=
  let q := s.recNextOut
  let wait := (s.recLastOut - q).toNat
  let n := min 88 wait
  let due := decide (88 ≤ wait) || match s.recorder.frameSince with
    | t :: _ => decide (t + 25000 ≤ s.ticks)
    | [] => false
  if s.recDelivers && s.bit A.REC_CTL F.REC_CTL_SINK && 0 < n && due then
    let head : List Word := [0x59430001, BitVec.ofNat 32 (n + s.get A.PLJ_ID F.PLJ_ID_SEG * 65536 + s.get A.PLJ_ID F.PLJ_ID_DEV * 2 ^ 20), q, 0]
    let body := (upto n).flatMap (fun i => s.words (s.recAddr (q + BitVec.ofNat 32 i)) 4)
    let c := s.reg A.REC_ETH_CTL
    let nx := q + BitVec.ofNat 32 n
    let s := { s with sent := s.sent ++ [Sent.mk 1 (F.REC_ETH_CTL_PORT.of c) 0x88B5 (
      [s.reg A.REC_ETH_DMAC_LO, s.reg A.REC_ETH_DMAC_HI, c] ++ head ++ body)] }
    let s := s.onRec fun r => { r with released := nx, frameSince := r.frameSince.drop n }
    ((s.setReg A.REC_HB_WR nx).setReg A.REC_HB_RD nx).recUpdate
  else s
def execRecFrame (s : State) : Out := s.live Dev.recFrame

end Sys2Proof.Machine
end

