-- ==== Sys2Proof/Machine/ScribeCmd.lean ====
section
/-! DEFINITION. The commands of the Scribe (chapter 15). -/

namespace Sys2Proof.Machine

/-- Some enabled event task names a Scribe code (R80). -/
def Dev.codeNamed (s : Dev) (code : Nat) : Bool :=
  (upto 8).any (fun e => (upto 16).any (fun t =>
    let c := s.reg (A.PE_TASK_CTL e t)
    F.PE_TASK_CTL_EN.of c == 1 && F.PE_TASK_CTL_KIND.of c == 1 && F.PE_TASK_CTL_ECLS.of c == 3 &&
      F.PE_TASK_CTL_EIDX.of c == code))

/-- An accepted record makes event tasks due (R326, R80); in a pair the acceptance enters the input set (R393), and a
standby takes it from there. -/
def Dev.accepted (s : Dev) (code : BitVec 16) : Dev :=
  if s.standby then s
  else
    let s := if s.codeNamed code.toNat then s.collect 0x0C (code.setWidth 32) (s.reg A.EVR_NEXT - 1) 0 [] else s
    s.taskEvent 3 code.toNat

/-- SCRIBE_WRITE (R328): the writer moves one line of the head record; on its last line the record is accepted. -/
def Dev.scribeWrite (s : Dev) : Dev :=
  match s.scribeLine with
  | (s', some o) => s'.accepted o.code
  | (s', none) => s'
def execScribeWrite (s : State) : Out := s.go Dev.scribeWrite

/-- REFILL (R327): when a refill of limiter `l` is due, one token, and the SUPPRESSED record of the offers suppressed. -/
def Dev.refill (s : Dev) (l : Nat) : Dev :=
  let m := s.limiter l
  let per := s.get (A.EVR_LIM_CFG l) F.EVR_LIM_CFG_REFILL * 250
  if m.base + per ≤ s.ticks then
    let n := s.get (A.EVR_LIM_STAT l) F.EVR_LIM_STAT_COUNT
    let s := s.setLimiter l { m with
      tokens := min (m.tokens + 1) (s.get (A.EVR_LIM_CFG l) F.EVR_LIM_CFG_DEPTH), base := m.base + per }
    if 0 < n then
      let s := s.offerCode 0x31 0x0002 false [BitVec.ofNat 32 l, BitVec.ofNat 32 n, m.firstTs.setWidth 32,
        (m.firstTs >>> 32).setWidth 32, m.firstCode.setWidth 32]
      s.setReg (A.EVR_LIM_STAT l) 0
    else s
  else s
def execRefill (l : Fin 511) (s : State) : Out := s.go (·.refill (l.val + 1))

/-- EVR_ENABLE (R329): a write of EVR_CTL.EN. -/
def Dev.evrEnable (s : Dev) (en : Bool) : Dev :=
  if !en then s.set A.EVR_CTL F.EVR_CTL_EN 0
  else if s.ringBanksOk then s.set A.EVR_CTL F.EVR_CTL_EN 1
  else s.raise A.EVR_STAT F.EVR_STAT_CFGERR
def execEvrEnable (en : Bool) (s : State) : Out := s.go (·.evrEnable en)

/-- The CLEARED record (R325). -/
def Dev.clearedOffer (s : Dev) (n req : Nat) : Offer := ⟨0x31, 0x0004, false, s.ts, [BitVec.ofNat 32 n, BitVec.ofNat 32 req]⟩

/-- Write a whole record into the ring at once. -/
def Dev.ringWhole (s : Dev) (o : Offer) : Dev :=
  let ws := recWords o false (s.reg A.EVR_NEXT)
  ((upto (recLines (recLen o))).foldl (fun s i => s.ringLine ws i) s).ringAccept o

/-- EVR_CLR (R332): the ring empties, and the CLEARED record becomes its first; in OPERATIONAL only with CLRPERM. A head
record that was being written starts again behind it. -/
def Dev.evrClr (s : Dev) (req : Nat) : Dev :=
  if s.get A.SEC_LCS_STAT F.SEC_LCS_STAT_STATE = 2 && !s.bit A.EVR_CFG F.EVR_CFG_CLRPERM then
    s.raise A.EVR_STAT F.EVR_STAT_CLRREF
  else
    let n := (s.reg A.EVR_NEXT - s.reg A.EVR_OLDEST).toNat
    let s := (s.onScribe fun c => { c with ring := [], linesDone := 0 }).setOldest
    if s.ringBanksOk then (s.ringWhole (s.clearedOffer n req)).accepted 0x0004 else s
def execEvrClr (req : Fin 15) (s : State) : Out := s.go (·.evrClr req.val)

/-- CURSOR_WRITE (R330): the requester's own cursor; the window follows from the next tick. -/
def execCursorWrite (req : Fin 15) (v : Word) (s : State) : Out := s.go (·.setReg (reqKey req.val A.EVR_CURSOR) v)

/-- LIM_CFG_WRITE (R327): the bucket fills and its refill count restarts; the suppressed count stays. -/
def Dev.limCfgWrite (s : Dev) (l : Nat) (v : Word) : Dev :=
  let a := A.EVR_LIM_CFG l
  let keep (f : Fld) : Nat := if f.of v = 0 then s.get a f else f.of v
  let s := (s.set a F.EVR_LIM_CFG_REFILL (keep F.EVR_LIM_CFG_REFILL)).set a F.EVR_LIM_CFG_DEPTH (keep F.EVR_LIM_CFG_DEPTH)
  s.setLimiter l { s.limiter l with tokens := s.get a F.EVR_LIM_CFG_DEPTH, base := s.ticks }
def execLimCfgWrite (l : Fin 511) (v : Word) (s : State) : Out := s.go (·.limCfgWrite (l.val + 1) v)

/-- The guard of EVR_CFG (R329): BANKA and BANKB move only while the Scribe is disabled and its queue empty, to 0-47. -/
def Dev.evrCfgGuard (s : Dev) (v : Word) : Dev × Word :=
  let a := A.EVR_CFG
  let free := !s.bit A.EVR_CTL F.EVR_CTL_EN && s.scribe.queue.isEmpty
  let ok (f : Fld) : Bool := f.of v == s.get a f || (free && decide (f.of v < 48))
  let keep (f : Fld) (v : Word) : Word := if ok f then v else putBits v f.hi f.lo (s.get a f)
  let s' := if ok F.EVR_CFG_BANKA && ok F.EVR_CFG_BANKB then s else s.raise A.EVR_STAT F.EVR_STAT_CFGERR
  (s', keep F.EVR_CFG_BANKA (keep F.EVR_CFG_BANKB v))

end Sys2Proof.Machine
end

