-- ==== Sys2Proof/Machine/Duo.lean ====
section
/-! DEFINITION. Dovetail pairs (chapter 19): roles, epochs and the input set, confirmation and digests, mirrored data,
heartbeats, failover and the release of acknowledgements. What an entry does on the standby stands in DuoReplay.lean. -/

namespace Sys2Proof.Machine

def Dev.onDuo (s : Dev) (f : Duo → Duo) : Dev := { s with duo := f s.duo }

def dsSolo : Nat := 0
def dsOut : Nat := 1
def dsTransfer : Nat := 2
def dsSynced : Nat := 3
def drNone : Nat := 0
def drPrimary : Nat := 1
def drStandby : Nat := 2

def dcDiverge : Nat := 1
def dcLate : Nat := 2
def dcPartner : Nat := 3
def dcLinks : Nat := 4
def dcRequest : Nat := 5
def dcStart : Nat := 6
def dcConfig : Nat := 7
def dcHandover : Nat := 8

def Dev.duoSync (s : Dev) : Nat := s.get A.DUO_STAT F.DUO_STAT_SYNC
def Dev.duoRole (s : Dev) : Nat := s.get A.DUO_STAT F.DUO_STAT_ROLE
def Dev.setSync (s : Dev) (n : Nat) : Dev := s.set A.DUO_STAT F.DUO_STAT_SYNC n
def Dev.setRole (s : Dev) (n : Nat) : Dev := s.set A.DUO_STAT F.DUO_STAT_ROLE n
def Dev.duoCause (s : Dev) (n : Nat) : Dev := s.set A.DUO_STAT F.DUO_STAT_CAUSE n
def Dev.duoOn (s : Dev) : Bool := s.bit A.DUO_CFG F.DUO_CFG_EN
def Dev.duoOffer (s : Dev) (ev : Ev) : Dev := s.offer 0x4B 0x11 ev
/-- LAG in ns. -/
def Dev.lagNs (s : Dev) : Nat := s.get A.DUO_CFG F.DUO_CFG_LAG * 1000

/-! ## Messages on the pair links -/

def pairPorts (s : Dev) : List Nat :=
  [s.get A.DUO_CFG F.DUO_CFG_PORTA, s.get A.DUO_CFG F.DUO_CFG_PORTB].filter (fun p => s.pljRole p == rolePair)

/-- A message whose frame the spec does not lay out leaves on both pair links: 1 heartbeat, 2 ECONF, 5 mirror
acknowledgement. Log 49. -/
def Dev.pairSend (s : Dev) (kind : Nat) (ws : List Word) : Dev :=
  let x : Sent := ⟨5, 0, kind, ws⟩
  { s with sent := s.sent ++ [x] }

/-- An input-set frame leaves on both pair links (R394). -/
def Dev.pairFrame (s : Dev) (body : List Word) : Dev :=
  let (s, n) := s.nextFseq
  let dev := match s.duo.partner with
    | some h => h.dev.val
    | none => 0
  let f : PljFrame := ⟨ftRep, [headWord0 s.mySeg dev false s.mySeg s.myDev 0, BitVec.ofNat 32 (n + 65536), 0, 0], body⟩
  (pairPorts s).foldl (fun s p => s.pljQueue p f) s

/-! ## Digests (R390, R400) -/

/-- Put an output in its place: by tick, then by unit, behind earlier ones. -/
def insOut (x : DuoOut) : List DuoOut → List DuoOut
  | [] => [x]
  | y :: ys => if x.ts < y.ts || (x.ts == y.ts && decide (x.unit < y.unit)) then x :: y :: ys else y :: insOut x ys

/-- The digest of an epoch: the low 64 bits of SHAKE256 over its outputs. -/
def Dev.digestOf (s : Dev) (k : Nat) : Dbl :=
  let outs := (s.duoOuts.filter (fun x => epochAt x.ts == k)).foldl (fun l x => insOut x l) []
  (Config.shake256 (Config.outputBytes (outs.map (fun x => (x.unit, x.words))))).setWidth 64

/-- Digest of the policy image and the engines' active images. -/
def Dev.imageDigest (s : Dev) : Dbl :=
  let p := match s.policyImg with
    | some i => i.digest
    | none => 0
  Config.pairDigest (p :: (upto 8).map (fun e => tabGet 0 s.halfDigest (s.get (A.PE_CODE e) F.PE_CODE_ACT)))

/-! ## Pair states (R391) -/

/-- Leave SYNCED or TRANSFER: what waits for the partner is dropped, and a primary's held frames go (R408). -/
def Dev.duoOut (s : Dev) (cause : Nat) : Dev :=
  let s := ((s.setSync dsOut).duoCause cause).set A.DUO_STAT F.DUO_STAT_DRY 0
  { s with duoSet := [], duoOuts := [],
           duo := { s.duo with syncNext := false, inbox := [], endsIn := [], digestIn := [], ends := [], handover := none, switch := false, cover := 0 } }

/-- A member asks its primary for a transfer (R402); its heartbeats carry the request. -/
def Dev.duoRequest (s : Dev) : Dev := s.onDuo fun d => { d with request := true }

/-- SYNCED is entered at the boundary before epoch `k`. -/
def Dev.duoEnter (s : Dev) (k : Nat) : Dev :=
  let s := (s.setSync dsSynced).set A.DUO_STAT F.DUO_STAT_DRY 0
  { s with
    duoSet := [], duoOuts := [], duoRel := BitVec.ofNat 32 (k - 1),
    duo := { s.duo with
      syncNext := false, request := false, cur := k, txEpoch := k, txIdx := 0, ends := [], confirmed := k - 1,
      msAt := [(k, s.duo.mseq)], digests := [], switch := false, inbox := [], taken := [], endsIn := [],
      cover := k * 10000, digestIn := [], handover := none } }

/-- DUO_LEAVE (R409). -/
def Dev.duoLeave (s : Dev) : Dev := if s.duoOn then s.duoOut dcRequest else s

/-- DUO_RESYNC (R402): the standby asks for a transfer. -/
def Dev.duoResync (s : Dev) : Dev := if s.duoOn && s.duoRole == drStandby then s.duoRequest else s

/-- DUO_SWITCH (R409): ignored unless PRIMARY and SYNCED. -/
def Dev.duoSwitch (s : Dev) : Dev := if s.syncedAs 1 then s.onDuo fun d => { d with switch := true } else s

/-! ## The input set (R394) -/

/-- Words of an entry: its first line, then its extra lines. -/
def entryWords (start : Nat) (x : DuoEntry) : List Word :=
  let n := (x.extra.length + 3) / 4
  BitVec.ofNat 32 (x.kind * 2 ^ 24 + n * 2 ^ 20 + (x.ts.toNat - start) / 4 % 4096) :: x.id :: x.value :: x.data ::
    (x.extra ++ List.replicate (4 * n - x.extra.length) 0)

def entryLines (x : DuoEntry) : Nat := 1 + (x.extra.length + 3) / 4

/-- The entries that fit into `n` lines, and the rest. -/
def takeLines (n : Nat) : List DuoEntry → List DuoEntry × List DuoEntry
  | [] => ([], [])
  | x :: xs =>
    if entryLines x ≤ n then
      let (a, b) := takeLines (n - entryLines x) xs
      (x :: a, b)
    else ([], x :: xs)

def pairGet (d : Word) (k : Nat) (l : List (Nat × Word)) : Word := ((l.find? (fun p => p.1 == k)).map (·.2)).getD d
def pairGet64 (k : Nat) (l : List (Nat × Dbl)) : Dbl := ((l.find? (fun p => p.1 == k)).map (·.2)).getD 0

/-- One frame of the epoch whose frames are sent, with entries `xs`. -/
def Dev.sendInputSet (s : Dev) (xs : List DuoEntry) (last hand : Bool) : Dev :=
  let k := s.duo.txEpoch
  let start := k * 10000
  let lines := (xs.map entryLines).foldl (· + ·) 2
  let dg := pairGet64 (k - 1) s.duo.digests
  let body : List Word :=
    [BitVec.ofNat 32 k, BitVec.ofNat 32 start, BitVec.ofNat 32 (start / 2 ^ 32),
     BitVec.ofNat 32 (lines + s.duo.txIdx % 256 * 65536 + (if last then 2 ^ 24 else 0) + (if hand then 2 ^ 25 else 0)),
     dg.setWidth 32, (dg >>> 32).setWidth 32, pairGet 0 k s.duo.msAt, 0] ++ xs.flatMap (entryWords start)
  let s := s.pairFrame body
  { s with
    duoSet := s.duoSet.filter (fun x => !xs.contains x),
    duo := { s.duo with txEpoch := if last then k + 1 else k, txIdx := if last then 0 else s.duo.txIdx + 1 } }

/-- INPUT_SET_FRAME (R394): the frame that is due. -/
def Dev.inputSetFrame (s : Dev) : Dev :=
  if !s.syncedAs 1 then s
  else
    let k := s.duo.txEpoch
    let (xs, rest) := takeLines 64 (s.duoSet.filter (fun x => epochAt x.ts == k))
    let lines := (xs.map entryLines).foldl (· + ·) 0
    let old := match xs with
      | x :: _ => decide (x.ts.toNat + 2000 ≤ s.ts.toNat)
      | [] => false
    if k < s.duo.cur then s.sendInputSet xs rest.isEmpty false
    else if lines = 64 || !rest.isEmpty || old then s.sendInputSet xs false false
    else s

/-- At a handover the frames of the ended epoch go out, the last with HANDOVER. -/
def Dev.flushHandover : Nat → Dev → Dev
  | 0, s => s
  | n + 1, s =>
    let (xs, rest) := takeLines 64 (s.duoSet.filter (fun x => epochAt x.ts == s.duo.txEpoch))
    if rest.isEmpty && s.duo.cur ≤ s.duo.txEpoch + 1 then s.sendInputSet xs true true
    else Dev.flushHandover n (s.sendInputSet xs rest.isEmpty false)

/-! ## Epoch boundaries (R393, R401, R407, R409) -/

/-- A synced primary's epoch `k` has ended. -/
def Dev.duoEnded (s : Dev) (k : Nat) : Dev :=
  let s := (s.setReg A.DUO_EPOCH (BitVec.ofNat 32 k)).onDuo fun d => { d with
    ends := d.ends ++ [(k, s.ticks)],
    digests := ((k, s.digestOf k) :: d.digests).take 4, msAt := ((k + 1, d.mseq) :: d.msAt).take 4 }
  { s with duoOuts := s.duoOuts.filter (fun x => decide (k < epochAt x.ts)) }

/-- The old primary hands over: it becomes STANDBY and requests a transfer. -/
def Dev.duoHandOver (s : Dev) : Dev :=
  let s := (Dev.flushHandover 512 s).duoOut dcHandover
  { s with acks := [] }.setRole drStandby |>.duoRequest

/-- What the standby does when it has replayed an epoch to its end: the digests are compared (R401). -/
def Dev.duoJudge (s : Dev) (k : Nat) (d : Dbl) : Dev :=
  let own := s.digestOf k
  let s := (s.setReg A.DUO_EPOCH (BitVec.ofNat 32 k)).onDuo fun x => { x with
    digestIn := x.digestIn.filter (fun p => p.1 != k), taken := x.taken.filter (fun p => decide (k < p.1)) }
  let s := { s with
    duoOuts := s.duoOuts.filter (fun x => decide (k < epochAt x.ts)),
    acks := s.acks.filter (fun a => decide (0 < (a.epoch - BitVec.ofNat 32 k).toInt)) }
  if own = d then s
  else (((s.duoOut dcDiverge).count A.DUO_ERRCNT F.DUO_ERRCNT_DIV 1).duoOffer .duoDiverge).duoRequest

/-- Judge every epoch that has been replayed to its end and whose digest has come. -/
def Dev.duoJudgeAll (s : Dev) : Dev :=
  s.duo.digestIn.foldl (fun s p =>
    if s.syncedAs 2 && decide ((p.1 + 1) * 10000 + s.lagNs ≤ s.ts.toNat) &&
        !s.duo.inbox.any (fun x => decide (epochAt x.ts ≤ p.1)) then s.duoJudge p.1 p.2
    else s) s

/-- Become PRIMARY in OUT with a cause (R407, R409). Partial epochs are discarded; the recorder goes on as R322 says. -/
def Dev.duoTakeover (s : Dev) (cause tko : Nat) : Dev :=
  let cover := s.duo.cover
  let s := (s.duoOut cause).setRole drPrimary
  let s := (s.onDuo fun d => { d with takeover := some (s.ticks + tko * 250), cover := cover }).set A.DUO_GAP F.DUO_GAP_TKO tko
  (s.setReg A.REC_SEQ (s.reg A.REC_SEQ + 65536)).recPendAll.recMark false true false

/-- The takeover is over at this boundary: the new primary collects, and GAP is known. -/
def Dev.duoCollects (s : Dev) : Dev :=
  match s.duo.takeover with
  | some t =>
    if t ≤ s.ticks then
      (s.onDuo fun d => { d with takeover := none }).set A.DUO_GAP F.DUO_GAP_GAP (min ((s.ts.toNat - s.duo.cover) / 1000) 65535)
    else s
  | none => s

/-- A standby whose primary has handed over, with everything replayed, takes over. -/
def Dev.duoHanded (s : Dev) : Dev :=
  match s.duo.handover with
  | some k =>
    if s.syncedAs 2 && s.duo.inbox.isEmpty && decide ((k + 1) * 10000 + s.lagNs ≤ s.ts.toNat) then s.duoTakeover dcHandover 0 else s
  | none => s

/-- EPOCH_START (R393). -/
def Dev.epochStart (s : Dev) : Dev :=
  let k := epochAt s.ts
  let was := s.duo.cur
  if !s.duoOn || k = was then s
  else
    let s := s.onDuo fun d => { d with cur := k }
    let s := if s.syncedAs 1 then s.duoEnded was else s
    let s := if s.syncedAs 1 && s.duo.switch then s.duoHandOver else s
    let s := if s.duo.syncNext then s.duoEnter k else s
    (s.duoJudgeAll.duoHanded).duoCollects

/-! ## Confirmation (R395, R404, R412, R396) -/

/-- The standby returns ECONF for epochs whose END frame is written, once the mirror has reached their MSEQ. -/
def Dev.duoConfirm (s : Dev) : Dev :=
  match s.duo.endsIn with
  | (k, m) :: rest =>
    if (m - s.duo.mseqIn).toInt ≤ 0 then
      (s.onDuo fun d => { d with endsIn := rest }).pairSend 2 [BitVec.ofNat 32 k]
    else s
  | [] => s

/-- ECONF_RECEIVED (R412): the frames and acknowledgements of epoch `k` may leave. -/
def Dev.econf (s : Dev) (k : Nat) : Dev :=
  if s.syncedAs 1 && decide (s.duo.confirmed < k) && decide (k < s.duo.cur) then
    let s := s.onDuo fun d => { d with confirmed := k, ends := d.ends.filter (fun p => decide (k < p.1)) }
    if 0 < (BitVec.ofNat 32 k - s.duoRel).toInt then { s with duoRel := BitVec.ofNat 32 k } else s
  else s

/-- CWAIT_EXPIRY (R396): the oldest unconfirmed epoch releases its frames, never its acknowledgements. -/
def Dev.cwaitExpiry (s : Dev) : Dev :=
  match s.duo.ends with
  | (k, t) :: rest =>
    if s.syncedAs 1 && decide (t + s.get A.DUO_CFG F.DUO_CFG_CWAIT * 250 ≤ s.ticks) then
      let s := s.onDuo fun d => { d with ends := rest }
      ({ s with duoRel := BitVec.ofNat 32 k }.count A.DUO_ERRCNT F.DUO_ERRCNT_CTO 1).duoOffer .duoRelease
    else s
  | [] => s

/-- An acknowledgement may leave (R412). -/
def Dev.ackFree (s : Dev) (a : Ack) : Bool :=
  if s.duoSync = dsSolo then decide (a.tick < s.ticks)
  else if s.duoSync = dsSynced then s.duoRole == drPrimary && decide ((a.epoch - BitVec.ofNat 32 s.duo.confirmed).toInt ≤ 0)
  else s.duoRole != drStandby && s.bit A.DUO_CFG F.DUO_CFG_SOLOACK

/-- Acknowledgements that may leave enter the queue of their end while it has room; ACKHOLD shows those held. -/
def Dev.ackTick (s : Dev) : Dev :=
  let all := s.acks
  let s := all.foldl (fun (s : Dev) a =>
    if s.ackFree a && decide ((s.mend a.chan a.dst).queue.length < 16) then
      s.enterQueue a.chan a.dst ⟨a.handle, a.tag, stampWord 0x32 0 true, s.ticks⟩
    else { s with acks := s.acks ++ [a] }) { s with acks := [] }
  let held := (s.duoSync == dsOut || s.duoSync == dsTransfer) && !s.bit A.DUO_CFG F.DUO_CFG_SOLOACK && !s.acks.isEmpty
  s.setBit A.DUO_STAT F.DUO_STAT_ACKHOLD held

/-! ## The standby's side of the input set (R394, R395) -/

/-- Entries from the lines of a frame. -/
def entriesOf (start : Nat) : Nat → List Word → List DuoEntry
  | 0, _ => []
  | n + 1, ws =>
    match ws with
    | w :: id :: v :: d :: rest =>
      let k := bitsOf w 23 20 * 4
      ⟨bitsOf w 31 24, id, v, d, rest.take k, BitVec.ofNat 64 (start + bitsOf w 11 0 * 4)⟩ :: entriesOf start n (rest.drop k)
    | _ => []

/-- The journal ring takes a frame's body (R395): lines in the journal bank, wrapping at its end. -/
def Dev.duoJournal (s : Dev) (body : List Word) : Dev :=
  let base := lineOf (bankBase (s.get A.DUO_JCFG F.DUO_JCFG_JBANK))
  let n := (body.length + 3) / 4
  let at_ := s.duo.jpos
  let s := s.each n fun s i =>
    s.putLine (base + (at_ + i) % 32768) ((upto 4).flatMap (fun j => wordBytes (body.getD (4 * i + j) 0)))
  s.onDuo fun d => { d with jpos := (at_ + n) % 32768 }

/-- Put an entry in its place by its tick, behind earlier ones. -/
def insEntry (x : DuoEntry) : List DuoEntry → List DuoEntry
  | [] => [x]
  | y :: ys => if x.ts < y.ts then x :: y :: ys else y :: insEntry x ys

/-- An input-set frame arrives: the first whole copy is journaled and its entries wait for their replay. -/
def Dev.inputSetIn (s : Dev) (body : List Word) : Dev :=
  let start := (body.getD 2 0 ++ body.getD 1 0 : Dbl)
  let k := epochAt start
  let w3 := body.getD 3 0
  let key := (k, bitsOf w3 23 16)
  if !s.syncedAs 2 || s.duo.taken.contains key then s
  else
    let s := s.duoJournal body
    let xs := entriesOf start.toNat body.length (body.drop 8)
    let last := w3.getLsbD 24
    let ends := xs.foldl (fun c x => max c x.ts.toNat) s.duo.cover
    let s := (s.onDuo fun d => { d with
      taken := d.taken ++ [key], inbox := xs.foldl (fun l x => insEntry x l) d.inbox,
      msAt := ((k, body.getD 6 0) :: d.msAt.filter (fun p => p.1 != k)).take 10, cover := if last then max ends ((k + 1) * 10000) else ends,
      digestIn := if last then d.digestIn ++ [(k - 1, body.getD 5 0 ++ body.getD 4 0)] else d.digestIn,
      endsIn := if last then d.endsIn ++ [(k, body.getD 6 0)] else d.endsIn,
      handover := if last && w3.getLsbD 25 then some k else d.handover }).set A.DUO_STAT F.DUO_STAT_DRY 0
    if xs.any (fun x => decide (x.ts.toNat + s.lagNs < s.ts.toNat)) then
      (((s.duoOut dcLate).count A.DUO_ERRCNT F.DUO_ERRCNT_LATE 1).duoOffer .duoLate)
    else s.duoConfirm

/-- REPLAY_DRY (R406): every event known has been replayed and nothing further has come. -/
def Dev.replayDry (s : Dev) : Dev :=
  if s.syncedAs 2 && s.duo.inbox.isEmpty && decide (s.duo.cover + s.lagNs ≤ s.ts.toNat) then
    s.set A.DUO_STAT F.DUO_STAT_DRY 1
  else s

/-! ## Mirrored data (R403) -/

/-- The offer that a Scribe record's words spell. -/
def offerOf (ws : List Word) : Offer :=
  let w := ws.getD 1 0
  ⟨bitsOf w 15 8, (w >>> 16).setWidth 16, w.getLsbD 0, ws.getD 3 0 ++ ws.getD 2 0, ws.drop 4⟩

/-- The standby applies one mirror record. -/
def Dev.mirrorApply (s : Dev) (m : Mirror) : Dev :=
  match m with
  | .scribe lost ws =>
    let s := if 0 < lost then s.enqueue (lossOffer s.ts s.ts [(0x31, lost)]) true else s
    s.enqueue (offerOf ws) true
  | .recorder q ws => (s.setReg A.REC_SEQ q).recPut ws
  | .page n ws =>
    let bs := ws.flatMap wordBytes
    { s with store := (upto bs.length).foldl (fun t i => tabPut memDefault t (n * 4096 + i) (bs.getD i 0)) s.store }
  | .half a ws => s.putSpan (lineOf a) ws
  | .bank a ws => s.putSpan (lineOf a) ws
  | .ack => s

/-- MIR_FRAME (R403): on the standby a record is applied and acknowledged; on the primary an acknowledgement arrives. -/
def Dev.mirFrame (s : Dev) (seq : Word) (m : Mirror) : Dev :=
  if s.duoRole = drPrimary then
    if m = .ack then
      let s := s.onDuo fun d => { d with unacked := d.unacked.filter (fun x => x.1 != seq) }
      s.setReg A.DUO_MLAG (BitVec.ofNat 32 s.duo.unacked.length)
    else s
  else if s.duoRole = drStandby && m != .ack then
    (((s.mirrorApply m).onDuo fun d => { d with mseqIn := seq }).pairSend 5 [seq]).duoConfirm
  else s

/-! ## Heartbeats (R392, R405) -/

/-- The newest epoch that the member holds whole: collected, replayed, or of a stored standby received (R392). -/
def Dev.heldEpoch (s : Dev) : Nat :=
  let e := (s.reg A.DUO_EPOCH).toNat
  if s.duo.stored = drStandby then max e (s.duo.cover / 10000 - 1) else e

/-- What this member's heartbeat tells. -/
def Dev.heartbeatOf (s : Dev) : Hb :=
  ⟨Fin.ofNat 4 s.duoRole, Fin.ofNat 4 s.duoSync, s.heldEpoch, s.duo.resume, s.duo.stored == drPrimary,
   s.bit A.DUO_CFG F.DUO_CFG_PREF, s.duo.request, Fin.ofNat 32 s.myDev, s.imageDigest⟩

def hbWords (h : Hb) : List Word :=
  let b (x : Bool) (n : Nat) : Nat := if x then 2 ^ n else 0
  [BitVec.ofNat 32 (h.role.val + h.sync.val * 4 + b h.resume 4 + b h.stored 5 + b h.pref 6 + b h.request 7 + h.dev.val * 256),
   BitVec.ofNat 32 h.epoch, h.digest.setWidth 32, (h.digest >>> 32).setWidth 32]

/-- The member's own heartbeat: every 20 µs on both links, and a witness frame with WITEN. -/
def Dev.heartbeatOut (s : Dev) : Dev :=
  if s.duoOn && !s.halted && (s.duo.hbSent == 0 || decide (s.duo.hbSent + 5000 ≤ s.ticks + 1)) then
    let s := (s.onDuo fun d => { d with hbSent := s.ticks + 1 }).pairSend 1 (hbWords s.heartbeatOf)
    if s.bit A.DUO_CFG F.DUO_CFG_WITEN then
      let x : Sent := ⟨1, s.get A.DUO_CFG F.DUO_CFG_WPORT, 0x88B5, [0x59430003]⟩
      { s with sent := s.sent ++ [x] }
    else s
  else s

/-- A path has carried a heartbeat or witness within 65 µs. -/
def Dev.pathHeard (s : Dev) (i : Nat) : Bool :=
  let t := tabGet 0 s.duo.seen i
  t != 0 && decide (s.ticks + 1 < t + 16250)

/-- LNKA, LNKB and WIT. -/
def Dev.duoLinks (s : Dev) : Dev :=
  if !s.duoOn then s
  else ((s.setBit A.DUO_STAT F.DUO_STAT_LNKA (s.pathHeard 0)).setBit A.DUO_STAT F.DUO_STAT_LNKB (s.pathHeard 1)).setBit
    A.DUO_STAT F.DUO_STAT_WIT (s.pathHeard 2)

/-- A partner's heartbeat arrives on a pair link. A differing digest keeps an OUT member out (R390); a request starts a
transfer at the primary, and the standby follows it (R402); a primary whose standby has left SYNCED goes on alone.
A witness frame (path 2) tells nothing but that the partner lives. -/
def Dev.heartbeatIn (s : Dev) (path : Nat) (h : Hb) : Dev :=
  if !s.duoOn then s
  else
    let s := (s.onDuo fun d => { d with
      partner := if path = 2 then d.partner else some h, seen := tabPut 0 d.seen path (s.ticks + 1) }).duoLinks
    let same := h.digest == s.imageDigest
    if path = 2 then s
    else if s.duoRole = drPrimary then
      if h.role.val = drStandby && h.request && same && (s.duoSync == dsOut || s.duoSync == dsSynced) && !s.duo.syncNext then
        ((s.duoOut (s.get A.DUO_STAT F.DUO_STAT_CAUSE)).setSync dsTransfer).set A.DUO_STAT F.DUO_STAT_TPCT 0
      else if h.role.val = drStandby && h.sync.val == dsOut && s.duoSync == dsSynced then s.duoOut dcPartner
      else if !same && s.duoSync == dsOut then s.duoCause dcConfig
      else s
    else if s.duoRole = drStandby then
      if !same && s.duoSync == dsOut then s.duoCause dcConfig
      else if h.role.val = drPrimary && h.sync.val == dsTransfer && s.duo.request && s.duoSync == dsOut then
        (s.setSync dsTransfer).set A.DUO_STAT F.DUO_STAT_TPCT 0
      else s
    else s

/-- HEARTBEAT (R405): the member's own, or the partner's on a path. -/
def Dev.heartbeat (s : Dev) (rx : Option (Nat × Hb)) : Dev :=
  match rx with
  | none => s.heartbeatOut
  | some (p, h) => s.heartbeatIn p h

/-- PARTNER_LOST (R405, R407, R408): 65 µs without a sign of the partner, or both links lost beside a witness. -/
def Dev.partnerLost (s : Dev) : Dev :=
  let heard := (upto 3).any s.pathHeard
  let links := (upto 2).any s.pathHeard
  if !s.duoOn || (s.duoSync != dsSynced && s.duoSync != dsTransfer) then s
  else if heard then (if links then s else s.duoOut dcLinks)
  else if s.syncedAs 2 then (s.duoTakeover dcPartner (Config.takeoverTime s.free % 171)).draw
  else s.duoOut dcPartner

/-! ## Roles (R392) -/

/-- This member wins a start of both: the later epoch held of those that resume, the stored primary, PREF, the lower
device number. -/
def Dev.winsStart (s : Dev) (h : Hb) : Bool :=
  let own := s.heartbeatOf
  let rest : Bool :=
    if own.pref != h.pref then own.pref else decide (own.dev.val < h.dev.val)
  if own.resume && h.resume then
    let d := (BitVec.ofNat 32 own.epoch - BitVec.ofNat 32 h.epoch).toInt
    if d = 0 then (if own.stored != h.stored then own.stored else rest) else decide (0 < d)
  else if own.resume || h.resume then own.resume
  else rest

/-- The member takes the role STANDBY and asks for a transfer. -/
def Dev.beStandby (s : Dev) : Dev :=
  ((((s.setRole drStandby).setSync dsOut).duoRequest).onDuo fun d => { d with deciding := none, inbox := [] }).duoOffer .duoRole

/-- The 2 s of R392 have passed. -/
def Dev.decisionDue (s : Dev) : Bool :=
  match s.duo.deciding with
  | some t => decide (t + 500000000 ≤ s.ticks)
  | none => false

/-- COMMIT of TRANSFER: the parts of the primary's state that a transfer copies (R402): banks with an owner, the unit
states, image-store pages. The member keeps its own time base, ports, island, fuses, keys and pair state. -/
def Dev.duoCopy (s src : Dev) : Dev :=
  let own (b : Nat) : Bool := src.get (A.MEM_BANK_STAT b) F.MEM_BANK_STAT_OWNER != 0
  let kept (k : Nat) : Bool :=
    let o := k % 0x4000000
    -- SYS, AON, SEC, SAF, REC, EVR, CAN, ETH, TIME, PLJ and DUO stay the member's own, but for SYS_MMAP and DUO_SRC
    (decide (o < 0x40000) && !(decide (0x200 ≤ o) && decide (o < 0x220))) || (decide (0x440000 ≤ o) && !(decide (0x600100 ≤ o) && decide (o < 0x600240)))
  let mem := (src.mem.filter (fun c => own (c.1 / 0x80000))).foldl (fun m c => tabPut memDefault m c.1 c.2)
    (s.mem.filter (fun c => !own (c.1 / 0x80000)))
  let regs := (src.regs.filter (fun r => !kept r.1)).foldl (fun t r => tabPut (resetWord r.1) t r.1 r.2)
    (s.regs.filter (fun r => kept r.1))
  { s with
    regs := regs, mem := mem, points := src.points, claims := src.claims, policy := src.policy, forces := src.forces,
    ctxs := src.ctxs, tasks := src.tasks, engs := src.engs, timers := src.timers, counters := src.counters,
    aos := src.aos, dqs := src.dqs, loops := src.loops, tiles := src.tiles, mbx := src.mbx, glus := src.glus,
    fetches := src.fetches, store := src.store, policyImg := src.policyImg, halfDigest := src.halfDigest,
    pool := { s.pool with pageOf := src.pool.pageOf, pageReqs := src.pool.pageReqs } }

/-- TRANSFER_DONE (R402): `src` is the primary's device. Both members enter SYNCED at the next epoch boundary. -/
def Dev.transferDone (s src : Dev) : Dev :=
  if s.duoSync != dsTransfer then s
  else
    let s := if s.duoRole = drStandby then s.duoCopy src else s
    (s.onDuo fun d => { d with syncNext := true }).set A.DUO_STAT F.DUO_STAT_TPCT 100

end Sys2Proof.Machine
end

