-- ==== Sys2Proof/Machine/Saf.lean ====
section
/-! DEFINITION. The safety island (chapter 13): safe inputs, STO pairs, resets, test pulses, requests on MB2. -/

namespace Sys2Proof.Machine

def SafIn.init : SafIn := ⟨none, false, false, false, 0, none⟩
def SafOut.init : SafOut := ⟨false, false, false, [], [], []⟩
def Dev.onSaf (s : Dev) (f : Saf → Saf) : Dev := { s with saf := f s.saf }
def Dev.safIn (s : Dev) (k : Nat) : SafIn := tabGet .init s.saf.ins k
def Dev.onSafIn (s : Dev) (k : Nat) (f : SafIn → SafIn) : Dev :=
  s.onSaf fun x => { x with ins := tabPut .init x.ins k (f (s.safIn k)) }
def Dev.safOut (s : Dev) (p : Nat) : SafOut := tabGet .init s.saf.outs p
def Dev.onSafOut (s : Dev) (p : Nat) (f : SafOut → SafOut) : Dev :=
  s.onSaf fun x => { x with outs := tabPut .init x.outs p (f (s.safOut p)) }

/-! ## Configuration (R295) -/

def Saf.word (x : Saf) (i : Nat) : Word := x.body.getD i 0
def Saf.role (x : Saf) (k : Nat) : Nat := bitsOf (x.word (2 * k)) 1 0
/-- FILT in ticks. -/
def Saf.filt (x : Saf) (k : Nat) : Nat := bitsOf (x.word (2 * k)) 15 8 * 25000
def Saf.mask (x : Saf) (k : Nat) : Nat := bitsOf (x.word (2 * k)) 19 16
def Saf.names (x : Saf) (k p : Nat) : Bool := x.role k != 0 && (x.mask k).testBit p
/-- DISC in ticks. -/
def Saf.disc (x : Saf) (k : Nat) : Nat := bitsOf (x.word (2 * k + 1)) 10 0 * 250000
def Saf.sto (x : Saf) (p : Nat) : Word := x.word (16 + p)
def Saf.enabled (x : Saf) (p : Nat) : Bool := (x.sto p).getLsbD 0
def Saf.auto (x : Saf) (p : Nat) : Bool := (x.sto p).getLsbD 1
def Saf.tpen (x : Saf) (p : Nat) : Bool := (x.sto p).getLsbD 2

def roleEquiv : Nat := 1
def roleAntiv : Nat := 2
def roleReset : Nat := 3

/-- The demand level of a channel (true: closed) for its role; none for an unused input. -/
def demandLevel (role : Nat) (chB : Bool) : Option Bool :=
  if role = roleEquiv then some false
  else if role = roleAntiv then some chB
  else if role = roleReset then some (Config.resetDemand chB)
  else none

/-- A channel is in demand. -/
def Dev.chDemand (s : Dev) (k : Nat) (chB : Bool) : Bool :=
  demandLevel (s.saf.role k) chB == some (s.bit (A.SAF_SI_STAT k) (if chB then F.SAF_SI_STAT_FB else F.SAF_SI_STAT_FA))

/-- An input is in demand until both channels stand at rest (R285). -/
def Dev.inDemand (s : Dev) (k : Nat) : Bool := s.chDemand k false || s.chDemand k true

/-- An input that acts on pair `p` is in demand. -/
def Dev.pairDemand (s : Dev) (p : Nat) : Bool :=
  (upto 8).any (fun k => s.saf.names k p && s.saf.role k != roleReset && s.inDemand k)

def Dev.safReady (s : Dev) : Bool := s.bit A.SAF_STAT F.SAF_STAT_READY
def Dev.ifault (s : Dev) : Bool := s.bit A.SAF_STAT F.SAF_STAT_IFAULT

/-- A latch concerns pair `p`. -/
def Dev.pairLatched (s : Dev) (p : Nat) : Bool :=
  s.ifault || (s.safOut p).ofault || (upto 8).any (fun k => s.saf.names k p && (s.safIn k).disc)

/-! ## What the registers show (R299, R300) -/

/-- Ticks that a lockout still has to run. -/
def Dev.lockLeft (s : Dev) : Nat := s.saf.lock - (s.ticks - s.saf.lockBase)

def Dev.siShow (s : Dev) (k : Nat) : Dev :=
  let a := A.SAF_SI_STAT k
  let x := s.safIn k
  let r := s.safReady
  let s := (s.set a F.SAF_SI_STAT_ROLE (s.saf.role k)).setBit a F.SAF_SI_STAT_DEMAND (s.inDemand k)
  (s.setBit a F.SAF_SI_STAT_DISC (r && x.disc)).setBit a F.SAF_SI_STAT_SEQOK (r && x.seqok)

/-- ON reads 1 while both outputs carry current, which a test pulse interrupts. -/
def Dev.stoShow (s : Dev) (p : Nat) : Dev :=
  let a := A.SAF_STO_STAT p
  let x := s.safOut p
  let s := (s.setBit a F.SAF_STO_STAT_ON (x.on && x.pulse.isEmpty)).setBit a F.SAF_STO_STAT_DEM (s.pairDemand p)
  s.setBit a F.SAF_STO_STAT_OFAULT (s.safReady && x.ofault)

def Dev.safShow (s : Dev) : Dev :=
  let r := s.safReady
  let a := A.SAF_STAT
  let s := (s.set a F.SAF_STAT_FAILS (if r then s.saf.fails else 0)).setBit a F.SAF_STAT_LOCKOUT (r && s.lockLeft != 0)
  let s := s.setBit a F.SAF_STAT_PWSET s.saf.hash.isSome
  (s.each 8 Dev.siShow).each 4 Dev.stoShow

/-! ## STO pairs (R287, R291) -/

/-- A pair goes off through the latch; SFC follows in its next cycle. -/
def Dev.pairOff (s : Dev) (p : Nat) : Dev :=
  ((s.onSafOut p fun x => { x with on := false, byReset := false }).set (A.SAF_STO_STAT p) F.SAF_STO_STAT_HWOPEN 1).stoShow p

/-- The pair counts as off by demand: a MANUAL pair waits for a reset. -/
def Dev.pairWait (s : Dev) (p : Nat) : Dev :=
  (s.onSafOut p fun x => { x with byReset := false }).setBit (A.SAF_STO_STAT p) F.SAF_STO_STAT_RSTW (!s.saf.auto p)

/-- Pairs with a demand or a latch go off. -/
def Dev.pairsJudge (s : Dev) : Dev :=
  s.each 4 fun s p =>
    let s := if s.pairDemand p then s.pairWait p else s
    let s := if (s.pairDemand p || s.pairLatched p || !s.saf.enabled p) && (s.safOut p).on then s.pairOff p else s
    s.stoShow p

/-- The filters have run out since the start. -/
def Dev.filtersRun (s : Dev) : Bool :=
  (upto 8).all (fun k => s.saf.role k == 0 || decide (s.saf.started + s.saf.filt k ≤ s.ticks))

/-- Ticks between a pair's going on and its first test pulses: 20 and 520 ms after a reset, else the interval. -/
def Dev.firstPulses (s : Dev) (p : Nat) : Tab Nat :=
  if (s.safOut p).byReset then [(0, s.ticks + 5000000), (1, s.ticks + 130000000)]
  else
    let tpi := bitsOf (s.saf.sto p) 23 18 * 250000000
    [(0, s.ticks + tpi), (1, s.ticks + tpi + 125000000)]

/-- STO outputs may carry current: from the power-fail step of a save to the next start they stay off (R300). -/
def Dev.stoFree (s : Dev) : Bool :=
  match s.power.phase with
  | .saving => false
  | .off => false
  | .held => false
  | _ => true

/-- PAIR_ON (R287, R291): in a safety cycle, once all conditions hold. -/
def Dev.pairOn (s : Dev) (p : Nat) : Dev :=
  if s.saf.enabled p && !s.pairDemand p && !s.pairLatched p && s.stoFree && s.filtersRun && !(s.safOut p).on &&
      !s.bit (A.SAF_STO_STAT p) F.SAF_STO_STAT_RSTW then
    let t := s.firstPulses p
    let s := s.onSafOut p fun x => { x with on := true, byReset := false, next := t, last := [], pulse := [] }
    (s.set (A.SAF_STO_STAT p) F.SAF_STO_STAT_HWOPEN 0).stoShow p
  else s

/-- An internal fault takes every pair off (R282). -/
def Dev.ifaultSet (s : Dev) : Dev :=
  if s.ifault then s else ((s.set A.SAF_STAT F.SAF_STAT_IFAULT 1).offer 0x47 0x0B .ifault).pairsJudge

/-! ## Inputs (R284-R286) -/

/-- The discrepancy time has passed with the other channel unchanged. -/
def Dev.discLatch (s : Dev) (k : Nat) : Dev :=
  let s := s.onSafIn k fun x => { x with timer := none, disc := true, seqok := false, both := false }
  ((s.siShow k).offer 0x47 0x0B .discLatched).pairsJudge

/-- Latch DISC where the timer of an input stands beyond its time. -/
def Dev.discJudge (s : Dev) (k : Nat) : Dev :=
  match (s.safIn k).timer with
  | some (t, _, _) => if t + s.saf.disc k < s.ticks then s.discLatch k else s
  | none => s

/-- The timer after a change of channel `chB` to demand state `dem`: satisfied by the same change of the other channel.
Gives whether it was satisfied. -/
def Dev.discStep (s : Dev) (k : Nat) (chB dem : Bool) : Dev × Bool :=
  let start (s : Dev) : Dev :=
    if s.chDemand k (!chB) = dem then s else s.onSafIn k fun x => { x with timer := some (s.ticks, chB, dem) }
  match (s.safIn k).timer with
  | none => (start s, false)
  | some (_, c, d) =>
    if c != chB && d == dem then (start (s.onSafIn k fun x => { x with timer := none }), true) else (s, false)

/-- The conditions of R286 and the press of R292 follow the channels. Gives the press that has ended, with its time in
demand. -/
def Dev.pressStep (s : Dev) (k : Nat) (sat : Bool) : Dev × Option (Option Nat) :=
  let a := s.chDemand k false
  let b := s.chDemand k true
  let x := s.safIn k
  if a && b then
    (s.onSafIn k fun x => { x with both := x.disc, bothAt := s.ticks + 1, stood := none }, none)
  else
    let x := if x.bothAt = 0 then x else { x with stood := some (s.ticks + 1 - x.bothAt), bothAt := 0 }
    if a || b then (s.onSafIn k fun _ => x, none)
    else
      (s.onSafIn k fun _ => { x with seqok := x.seqok || (x.disc && x.both && sat), both := false, stood := none }, some x.stood)

/-- SAFETY_RESET (R292). -/
def Dev.safetyReset (s : Dev) (k : Nat) : Dev :=
  let mask := s.saf.mask k
  let s := s.each 8 fun s j =>
    let x := s.safIn j
    if (s.saf.mask j &&& mask) != 0 && x.disc && x.seqok then
      (s.onSafIn j fun x => { x with disc := false, seqok := false }).siShow j
    else s
  s.each 4 fun s p =>
    if mask.testBit p then
      let s := (s.onSafOut p fun x => { x with ofault := false }).stoShow p
      if s.pairDemand p || s.pairLatched p then s
      else (s.onSafOut p fun x => { x with byReset := !x.on }).set (A.SAF_STO_STAT p) F.SAF_STO_STAT_RSTW 0
    else s

/-- The press of a RESET input has ended: 100 ms to 5 s in demand is a reset, which IFAULT voids (R293). -/
def Dev.pressEnd (s : Dev) (k : Nat) (stood : Option Nat) : Dev :=
  match stood with
  | some t =>
    if 25000000 ≤ t && t ≤ 1250000000 then (if s.ifault then s else s.safetyReset k) else s.offer 0x47 0x0B .badPress
  | none => s.offer 0x47 0x0B .badPress

/-- A filtered change of a channel. -/
def Dev.siChange (s : Dev) (k : Nat) (chB closed : Bool) : Dev :=
  let a := A.SAF_SI_STAT k
  let f := if chB then F.SAF_SI_STAT_FB else F.SAF_SI_STAT_FA
  if s.bit a f = closed then s
  else
    let s := (s.discJudge k).setBit a f closed
    if s.saf.role k = 0 then s
    else
      let (s, sat) := s.discStep k chB (s.chDemand k chB)
      let (s, press) := s.pressStep k sat
      let s := (s.siShow k).pairsJudge
      match press with
      | some t => if s.saf.role k = roleReset then s.pressEnd k t else s
      | none => s

/-! ## The safety cycle (R283, R291) -/

/-- READY with the first cycle since the start, on which the kept values show. -/
def Dev.safFirst (s : Dev) (crc : Word) : Dev :=
  if s.safReady then s
  else
    let s := ((s.set A.SAF_STAT F.SAF_STAT_READY 1).setReg A.SAF_CFG_CRC crc).setReg A.SAF_LOG_SEQ (BitVec.ofNat 32 s.saf.seq)
    s.safShow

/-- SFC's switches follow the pairs. -/
def Dev.safSwitches (s : Dev) : Dev :=
  s.each 4 fun s p => s.setBit (A.SAF_STO_STAT p) F.SAF_STO_STAT_SCOPEN (!(s.safOut p).on)

/-! ## Test pulses (R288) -/

def pulseTicks (x : Saf) (p : Nat) : Nat := bitsOf (x.sto p) 12 4 * 250
def tpiTicks (x : Saf) (p : Nat) : Nat := bitsOf (x.sto p) 23 18 * 250000000

/-- A test pulse of output `b` of pair `p` starts when it is due, 500 ms or more from the other's. -/
def Dev.testPulse (s : Dev) (p b : Nat) : Dev :=
  let x := s.safOut p
  let other := tabGet 0 x.last (1 - b)
  if x.on && s.saf.tpen p && s.stoFree && decide (tabGet 0 x.next b ≤ s.ticks) && (tabGet none x.pulse b).isNone &&
      (other == 0 || decide (other + 125000000 ≤ s.ticks + 1)) then
    (s.onSafOut p fun x => { x with
      pulse := tabPut none x.pulse b (some (s.ticks + pulseTicks s.saf p)),
      last := tabPut 0 x.last b (s.ticks + 1),
      next := tabPut 0 x.next b (s.ticks + tpiTicks s.saf p) }).stoShow p
  else s

/-- The end of a pulse: a pin not below 5 V latches OFAULT. -/
def Dev.testPulseEnd (s : Dev) (p b : Nat) (low : Bool) : Dev :=
  match tabGet none (s.safOut p).pulse b with
  | some t =>
    if s.ticks < t then s
    else
      let s := s.onSafOut p fun x => { x with pulse := tabPut none x.pulse b none, ofault := x.ofault || !low }
      let s := (s.setBit (A.SAF_STO_STAT p) F.SAF_STO_STAT_TPLAST low).stoShow p
      if low then s else (s.offer 0x47 0x0B .stoFault).pairsJudge
  | none => s

/-! ## Requests (R294-R298) -/

/-- One bit step and one byte of CRC-32C, reflected (log 43). -/
def crcBit (c : Word) : Word := if c.getLsbD 0 then (c >>> 1) ^^^ 0x82F63B78 else c >>> 1
def crcByte (c : Word) (b : Byte) : Word := (upto 8).foldl (fun c _ => crcBit c) (c ^^^ b.setWidth 32)
/-- CRC-32C of bytes. -/
def crc32c (bs : List Byte) : Word := (bs.foldl crcByte 0xFFFFFFFF) ^^^ 0xFFFFFFFF
def crcWords (ws : List Word) : Word := crc32c (ws.flatMap wordBytes)

def safDone : Nat := 0
def safFormat : Nat := 1
def safPassword : Nat := 2
def safLockout : Nat := 3
def safActive : Nat := 4
def safStale : Nat := 5
def safBusy : Nat := 6
def safState : Nat := 7

/-- Pool address of a handle into the bank window. -/
def handleAddr (h : Dbl) : Option Nat :=
  let n := h.toNat
  if 0x1000000 ≤ n && n < 0x3800000 && n % 4096 == 0 then some (n - 0x1000000) else none

/-- The first `n` words of a payload page. -/
def Dev.payload (s : Dev) (h : Dbl) (n : Nat) : Option (List Word) :=
  match handleAddr h with
  | some a => if s.spanOk a (4 * n) then some (s.words a n) else none
  | none => none

/-- A password held in 16 words, of `len` bytes: zero beyond. -/
def pwBytes (ws : List Word) (len : Nat) : Option (List Byte) :=
  let bs := ws.flatMap wordBytes
  if 8 ≤ len && len ≤ 64 && (bs.drop len).all (· == 0) then some (bs.take len) else none

/-- Record words in range, their other bits 0. -/
def inRecOk (a b : Word) : Bool :=
  a &&& 0xFFF000FC == 0 && decide (5 ≤ bitsOf a 15 8) && decide (bitsOf a 15 8 ≤ 200) &&
    b &&& 0xFFFFF800 == 0 && decide (5 ≤ bitsOf b 10 0) && decide (bitsOf b 10 0 ≤ 2000)
def stoRecOk (a : Word) : Bool :=
  a &&& 0xFF03E008 == 0 && decide (100 ≤ bitsOf a 12 4) && decide (bitsOf a 12 4 ≤ 300) &&
    decide (1 ≤ bitsOf a 23 18) && decide (bitsOf a 23 18 ≤ 60)

/-- A package of `n` body words: its password and body. -/
def package (ws : List Word) (n : Nat) : Option (List Byte × List Word) :=
  let body := (ws.drop 20).take n
  if ws.getD 0 0 == 0x53460001 && ws.getD 1 0 == BitVec.ofNat 32 n && ws.getD (20 + n) 0 == crcWords (ws.take (20 + n)) then
    (pwBytes ((ws.drop 4).take 16) (ws.getD 2 0).toNat).map (·, body)
  else none

def configBodyOk (b : List Word) : Bool :=
  (upto 8).all (fun k => inRecOk (b.getD (2 * k) 0) (b.getD (2 * k + 1) 0)) && (upto 4).all (fun p => stoRecOk (b.getD (16 + p) 0))

def saltedHash (salt pw : List Byte) : BitVec 256 := Config.shake256 (salt ++ pw)

/-- A password check: five failures in a row start a lockout of 10 min. -/
def Dev.pwCheck (s : Dev) (pw : List Byte) : Dev × Bool :=
  if s.saf.hash = some (saltedHash s.saf.salt pw) then ((s.onSaf fun x => { x with fails := 0 }).safShow, true)
  else
    let n := min (s.saf.fails + 1) 5
    let s := s.onSaf fun x => { x with fails := n, lock := if n = 5 then 150000000000 else x.lock,
                                       lockBase := if n = 5 then s.ticks else x.lockBase }
    (s.safShow, false)

/-- LOG_ENTRY (R298): code, sender stamp, old and new CRC; none when no index can be reserved. -/
def Dev.safLogEntry (s : Dev) (code : Nat) (stamp old new : Word) : Dev × Bool :=
  match s.idSign with
  | (s, none) => (s, false)
  | (s, some i) =>
    let prev : List Word := match s.saf.log.getLast? with
      | some e => (digestWords (Config.shake256 (e.words.flatMap wordBytes))).take 4
      | none => List.replicate 4 0
    let n := s.saf.seq + 1
    let ws : List Word := [BitVec.ofNat 32 n, s.time.ts.setWidth 32, (s.time.ts >>> 32).setWidth 32, BitVec.ofNat 32 code,
      stamp, old, new] ++ prev ++ [BitVec.ofNat 32 i] ++ List.replicate 4 0
    let log := s.saf.log ++ [⟨ws, i⟩]
    let s := s.onSaf fun x => { x with seq := n, log := log.drop (log.length - 256) }
    let s := s.setReg A.SAF_LOG_SEQ (BitVec.ofNat 32 n)
    ((s.offerCode 0x47 ((0x0B : BitVec 8) ++ Config.recordCode .safLog) true ws), true)

/-- The island answers with one notice, whose tag is the status. -/
def Dev.safReply (s : Dev) (status : Nat) (handle : Dbl) : Dev :=
  (s.mbxPost 2 0x39 true false handle (BitVec.ofNat 32 status)).1

/-- Write answer words into the request's page (log 44). -/
def Dev.safAnswer (s : Dev) (h : Dbl) (ws : List Word) : Dev :=
  match handleAddr h with
  | some a => (s.putSpan (lineOf a) ws).safReply safDone h
  | none => s.safReply safFormat 0

def Dev.allOff (s : Dev) : Bool := (upto 4).all (fun p => !(s.safOut p).on)

/-- CONFIGURE (R296): `same` says that SFC reads back from the latch the values that it loaded. -/
def Dev.safConfigure (s : Dev) (x : Notice) (same : Bool) : Dev :=
  match (s.payload x.handle 41).bind (fun ws => (package ws 20).map (fun r => (ws, r.1, r.2))) with
  | none => s.safReply safFormat 0
  | some (ws, pw, body) =>
    if !configBodyOk body then s.safReply safFormat 0
    else if s.lockLeft != 0 then s.safReply safLockout 0
    else
      match s.pwCheck pw with
      | (s, false) => s.safReply safPassword 0
      | (s, true) =>
        let old := s.reg A.SAF_CFG_CRC
        if ws.getD 3 0 != old then s.safReply safStale 0
        else if !s.allOff then s.safReply safActive 0
        else if !same then (s.ifaultSet).safReply safFormat 0
        else
          let new := crcWords body
          match s.safLogEntry 1 x.stamp old new with
          | (s, false) => s.safReply safBusy 0
          | (s, true) =>
            let s := (s.onSaf fun y => { y with body := body }).setReg A.SAF_CFG_CRC new
            ((s.safShow.pairsJudge).each 4 Dev.pairWait).safReply safDone 0

/-- SETPW (R297). -/
def Dev.safSetpw (s : Dev) (x : Notice) : Dev :=
  match (s.payload x.handle 38).bind (fun ws => (package ws 17).map (fun r => (ws, r.1, r.2))) with
  | none => s.safReply safFormat 0
  | some (ws, pw, body) =>
    match pwBytes (body.drop 1) (body.getD 0 0).toNat with
    | none => s.safReply safFormat 0
    | some new =>
      if s.lockLeft != 0 then s.safReply safLockout 0
      else
        let lc := s.lifecycle
        let free := s.saf.hash.isNone
        if free && lc != lcProvisioned && lc != lcService then s.safReply safState 0
        else
          let (s, ok) := if free then (s, true) else s.pwCheck pw
          if !ok then s.safReply safPassword 0
          else
            let crc := s.reg A.SAF_CFG_CRC
            if ws.getD 3 0 != crc then s.safReply safStale 0
            else
              match s.safLogEntry 2 x.stamp crc crc with
              | (s, false) => s.safReply safBusy 0
              | (s, true) =>
                let salt := (upto 16).map (fun i => Config.freeByte (16 * s.free + i))
                ((s.draw.onSaf fun y => { y with salt := salt, hash := some (saltedHash salt new) }).safShow).safReply safDone 0

/-- LOGREAD: the entries from a sequence number on with their signatures, as far as the page holds them. -/
def Dev.safLogread (s : Dev) (x : Notice) : Dev :=
  match s.payload x.handle 1 with
  | none => s.safReply safFormat 0
  | some ws =>
    if s.lockLeft != 0 then s.safReply safLockout 0
    else
      let es := s.saf.log.filter (fun e => decide ((ws.getD 0 0).toNat ≤ (e.words.getD 0 0).toNat))
      s.safAnswer x.handle ((es.take 1).flatMap (fun e => e.words ++ sigWords e.sig e.words))

/-- READBACK. -/
def Dev.safReadback (s : Dev) (x : Notice) : Dev :=
  if s.lockLeft != 0 then s.safReply safLockout 0
  else s.safAnswer x.handle (s.saf.body ++ [s.reg A.SAF_CFG_CRC])

/-- The island serves the notice at the head of its queue on MB2 when it carries the request `code`; a notice with a
code that is no request is answered FORMAT by whichever is served. -/
def Dev.safServe (s : Dev) (code : Nat) (f : Dev → Notice → Dev) : Dev :=
  match (s.mend 2 1).queue with
  | x :: _ =>
    let c := bitsOf x.tag 7 0
    let known := decide (1 ≤ c) && decide (c ≤ 4)
    if decide (x.tick < s.ticks) && (c == code || !known) then
      let s := (s.mbxTake 2 1).1
      if known then f s x else s.safReply safFormat 0
    else s
  | [] => s

/-! ## Starts (R294, R300) -/

/-- At PFAIL the STO outputs go off. -/
def Dev.safPfail (s : Dev) : Dev := s.each 4 Dev.pairOff
/-- A lockout stands still while the island has no supply: it runs for its remaining time after the start. -/
def Dev.safFreeze (s : Dev) : Dev := s.onSaf fun x => { x with lock := s.lockLeft, lockBase := s.ticks }

/-- The island starts anew: what its cells keep stays. -/
def Dev.safStart (s : Dev) : Dev :=
  let s := s.onSaf fun x => { x with
    ins := x.ins.map (fun p => (p.1, { SafIn.init with disc := p.2.disc, seqok := p.2.seqok })),
    outs := x.outs.map (fun p => (p.1, { SafOut.init with ofault := p.2.ofault })),
    lockBase := s.ticks, started := s.ticks }
  (s.each 4 Dev.pairWait).safShow

end Sys2Proof.Machine
end

