-- ==== Sys2Proof/Machine/SafCmd.lean ====
section
/-! DEFINITION. The commands of the safety island (chapter 13). -/

namespace Sys2Proof.Machine

/-- SI_CHANGE (R284): the contact of a channel has stood at a new level for FILT. -/
def execSiChange (k : Fin 8) (chB closed : Bool) (s : State) : Out := s.go (·.siChange k.val chB closed)
/-- DISC_EXPIRY (R285). -/
def execDiscExpiry (k : Fin 8) (s : State) : Out := s.go (·.discJudge k.val)
/-- SAFETY_CYCLE (R283): `ok` is the outcome of SFC's self-test. -/
def Dev.safetyCycle (s : Dev) (ok : Bool) : Dev :=
  let s := s.safFirst (crcWords s.saf.body)
  let s := if ok then s else s.ifaultSet
  ((s.pairsJudge).each 4 Dev.pairOn).safSwitches
def execSafetyCycle (ok : Bool) (s : State) : Out := s.go (·.safetyCycle ok)
/-- IFAULT (R282): a path finds the other's switch closed for more than 10 ms against its demand. -/
def execIfault (s : State) : Out := s.go Dev.ifaultSet
/-- TEST_PULSE (R288): output A (0) or B (1) of a pair. -/
def execTestPulse (p : Fin 4) (b : Fin 2) (s : State) : Out := s.go (·.testPulse p.val b.val)
/-- TEST_PULSE_END (R288): `low` says that the pin is below 5 V. -/
def execTestPulseEnd (p : Fin 4) (b : Fin 2) (low : Bool) (s : State) : Out := s.go (·.testPulseEnd p.val b.val low)
/-- CONFIGURE (R296): `same` says that the latch reads back the values loaded. -/
def execConfigure (same : Bool) (s : State) : Out := s.go fun d => d.safServe 1 (fun d x => d.safConfigure x same)
/-- SETPW (R297). -/
def execSetpw (s : State) : Out := s.go fun d => d.safServe 2 Dev.safSetpw
/-- LOGREAD (R294). -/
def execLogread (s : State) : Out := s.go fun d => d.safServe 3 Dev.safLogread
/-- READBACK (R294). -/
def execReadback (s : State) : Out := s.go fun d => d.safServe 4 Dev.safReadback
/-- LOCKOUT_END (R296): after 10 min. -/
def Dev.lockoutEnd (s : Dev) : Dev := if s.lockLeft = 0 then (s.onSaf fun x => { x with lock := 0 }).safShow else s
def execLockoutEnd (s : State) : Out := s.go Dev.lockoutEnd

end Sys2Proof.Machine
end

