-- ==== Sys2Proof/Machine/SeqCmd.lean ====
section
/-! DEFINITION. The commands of the sequencer units (chapter 9, R195-R212). -/

namespace Sys2Proof.Machine

/-- SEQ_BANK_WRITE (R195): a write of SEQ_UNIT_CFG. CFGERR clears on a 1; a new BANK is accepted with every context of the
unit IDLE and a retained bank that the unit owns. -/
def Dev.seqBankWrite (s : Dev) (u : Nat) (v : Word) : Dev :=
  let a := A.SEQ_UNIT_CFG u
  let hw := tabGet 0 s.hwSet a
  let s := s.setReg a (fieldWrite true false false hw v (s.reg a) F.SEQ_UNIT_CFG_CFGERR)
  let b := F.SEQ_UNIT_CFG_BANK.of v
  if b = s.get a F.SEQ_UNIT_CFG_BANK then s
  else if (upto 8).all (fun k => s.ctxMode (8 * u + k) == cmIdle && !(s.ctx (8 * u + k)).booting) && decide (b < 48) &&
      s.owner b == 0x20 + u then s.set a F.SEQ_UNIT_CFG_BANK b
  else (s.raise a F.SEQ_UNIT_CFG_CFGERR).offer (0x20 + u) 0x07 .configRefused
def execSeqBankWrite (u : Fin 2) (v : Word) (s : State) : Out := s.go (·.seqBankWrite u.val v)

/-- PROG_WRITE (R196): SEQ_CTX_PROG, writable while the context is IDLE. -/
def Dev.progWrite (s : Dev) (n : Nat) (v : Word) : Dev :=
  if s.ctxMode n = cmIdle && !(s.ctx n).booting then s.setReg (A.SEQ_CTX_PROG n) (v &&& 0x81FFFFFF) else s.ctxCfgErr n
def execProgWrite (n : Fin 16) (v : Word) (s : State) : Out := s.go (·.progWrite n.val v)

/-- A write of SEQ_CTX_CTL: STEP, and the request of REQ (R209). -/
def Dev.ctxCtl (s : Dev) (n req : Nat) (step : BitVec 16) : Dev :=
  (s.set (A.SEQ_CTX_CTL n) F.SEQ_CTX_CTL_STEP step.toNat).ctxRequest n req

/-- CTX_START (R209). -/
def execCtxStart (n : Fin 16) (step : BitVec 16) (s : State) : Out := s.go (·.ctxCtl n.val 1 step)
/-- CTX_PAUSE (R209). -/
def execCtxPause (n : Fin 16) (step : BitVec 16) (s : State) : Out := s.go (·.ctxCtl n.val 2 step)
/-- CTX_CONTINUE (R209). -/
def execCtxContinue (n : Fin 16) (step : BitVec 16) (s : State) : Out := s.go (·.ctxCtl n.val 3 step)
/-- CTX_ABORT (R209). -/
def execCtxAbort (n : Fin 16) (step : BitVec 16) (s : State) : Out := s.go (·.ctxCtl n.val 4 step)
/-- CTX_STOP (R209). -/
def execCtxStop (n : Fin 16) (step : BitVec 16) (s : State) : Out := s.go (·.ctxCtl n.val 5 step)

/-- STEP_EVALUATION (R202): on a tick on which one is due. -/
def Dev.stepEvaluation (s : Dev) (n : Nat) : Dev := if s.evalDue n then s.ctxEval n else s
def execStepEvaluation (n : Fin 16) (s : State) : Out := s.live (·.stepEvaluation n.val)

/-- RAMP_WRITE (R204): on a tick on which one is due. -/
def execRampWrite (n : Fin 16) (gen : Fin 4) (s : State) : Out := s.live (·.ctxRamp n.val gen.val)

/-- Words of a page of a context's program in the image store (R196). -/
def Dev.storePage (s : Dev) (n p : Nat) : List Word :=
  let a := ((s.get (A.SEQ_CTX_PROG n) F.SEQ_CTX_PROG_ADDR + p) % 262144) * 4096
  (upto 1024).map (fun k => BitVec.ofNat 32 (leNat ((upto 4).map (fun j => tabGet memDefault s.store (a + 4 * k + j)))))

/-- PAGE_ARRIVAL (R207): the page that unit `u` fetches arrives, or reads with an error. A synced pair's primary
collects it (R393). -/
def Dev.pageArrivalIn (s : Dev) (u : Nat) (ok : Bool) : Dev :=
  match tabGet [] s.fetches u with
  | [] => s
  | x :: _ =>
    if ok then (s.collect 0xA (BitVec.ofNat 32 x.ctx) (BitVec.ofNat 32 x.page) 0 []).pageArrival u (some (s.storePage x.ctx x.page))
    else s.pageArrival u none
def execPageArrival (u : Fin 2) (ok : Bool) (s : State) : Out :=
  s.live fun d => if d.standby then d else d.pageArrivalIn u.val ok

end Sys2Proof.Machine
end

