-- ==== Sys2Proof/Machine/HostCmd.lean ====
section
/-! DEFINITION. Host sessions and their commands (R431-R433). Firmware serves the head command of a session; bodies hold
one word per item in the order of R432 (log 50). -/

namespace Sys2Proof.Machine

def csOk : Nat := 0
def csDup : Nat := 1
def csGap : Nat := 2
def csFormat : Nat := 3
def csDenied : Nat := 4
def csVerify : Nat := 5
def csBusy : Nat := 6

/-- Channel of a session (R431). -/
def sessChan (n : Nat) : Nat := if n < 8 then 4 + n else 16 + n

/-- A response: its page is allocated under the channel's quota, and the notice waits for its release (R412); without a
page its handle is 0. -/
def Dev.hostReply (s : Dev) (m : Nat) (tag : Word) (ws : List Word) : Dev :=
  match s.rmAlloc m with
  | (s, .grant p) => (s.putSpan (p * 256) ws).queueAck m 0 tag (BitVec.ofNat 64 (0x1000000 + p * 4096))
  | (s, _) => s.queueAck m 0 tag 0

/-- A response page. -/
def respWords (status : Nat) (w1 : Word) (body : List Word) : List Word :=
  BitVec.ofNat 32 status :: w1 :: BitVec.ofNat 32 (4 * body.length) :: 0 :: body

/-- What serving a command gives: status and reply body. -/
abbrev Served := Dev × Nat × List Word

/-- INFO: SYS_ID, firmware version, life-cycle state, image digests, and the identity public key (R442). -/
def Dev.hostInfo (s : Dev) : Served :=
  let ver := match s.sysfw with
    | some x => x.version
    | none => 0
  (s, csOk, [s.reg A.SYS_ID, BitVec.ofNat 32 ver, BitVec.ofNat 32 s.lifecycle] ++ s.quoteDigests ++ idKeyWords)

/-- IMG_WRITE: slot, byte offset, data of the rest of the body. -/
def Dev.hostImgWrite (s : Dev) (len : Nat) (b : List Word) : Served :=
  let slot := (b.getD 0 0).toNat
  let ofs := (b.getD 1 0).toNat
  let n := len - 8
  if len < 8 || 4 ≤ slot || 2 ^ 26 < ofs + n then (s, csFormat, [])
  else
    let bs := (b.drop 2).flatMap wordBytes
    ({ s with staging := (upto n).foldl (fun t i => tabPut memDefault t (slot * 2 ^ 26 + ofs + i) (bs.getD i 0)) s.staging },
      csOk, [])

/-- The bytes of a staging slot. -/
def Dev.slotReader (s : Dev) (slot : Nat) : Reader := fun i =>
  if i < 2 ^ 26 then tabGet memDefault s.staging (slot * 2 ^ 26 + i) else 0

def Dev.clearSlot (s : Dev) (slot : Nat) : Dev := { s with staging := s.staging.filter (fun c => c.1 / 2 ^ 26 != slot) }

/-- Image-store pages from `page` on take a payload; each page is mirrored (R403). -/
def Dev.storePages (s : Dev) (page : Nat) (bs : List Byte) : Dev :=
  let s := { s with store := (upto bs.length).foldl (fun t i => tabPut memDefault t (page * 4096 + i) (bs.getD i 0)) s.store }
  s.each ((bs.length + 4095) / 4096) fun s k =>
    s.mirror 2 (BitVec.ofNat 32 (page + k) ::
      (upto 1024).map (fun j => BitVec.ofNat 32 (leNat ((upto 4).map (fun i => bs.getD (4096 * k + 4 * j + i) 0)))))

/-- Install a verified image by its kind (R433). -/
def Dev.imgInstall (s : Dev) (rd : Reader) (target : Nat) : Served :=
  let img := imgOf rd
  let n := imgLen rd
  if imgKind rd = 1 then ({ s with sysfwNext := some img }, csOk, [])
  else if imgKind rd = 2 then ({ s with policyNext := some img }, csOk, [])
  else if imgKind rd = 3 then
    let e := bitsOf (rdWord rd 1) 10 8
    let bank := s.get (A.PE_CODE e) F.PE_CODE_VEN
    if e != target || 0x80000 < n || !s.ownsLive (e + 1) bank then (s, csFormat, [])
    else if s.bit (A.PE_VNR_STAT e) F.PE_VNR_STAT_PEND then (s, csBusy, [])
    else
      let ws := byteWords (img.payload ++ List.replicate (padLen n - n) 0)
      let s := (s.putSpan (bank * 32768) ws).set (A.PE_CODE e) F.PE_CODE_VVAL 1
      (({ s with halfDigest := tabPut 0 s.halfDigest bank img.digest }).mirror 2 (BitVec.ofNat 32 (bankBase bank) :: ws), csOk, [])
  else if imgKind rd = 4 then
    if 262144 < target + (n + 4095) / 4096 then (s, csFormat, []) else (s.storePages target img.payload, csOk, [])
  else (s, csFormat, [])

/-- IMG_COMMIT: slot, length, kind, target. A slot that fails verification is cleared. -/
def Dev.hostImgCommit (s : Dev) (len : Nat) (b : List Word) : Served :=
  let slot := (b.getD 0 0).toNat
  let kind := (b.getD 2 0).toNat
  let rd := s.slotReader slot
  if len != 16 || 4 ≤ slot then (s, csFormat, [])
  else if s.recovery && kind != 1 && kind != 2 then (s, csDenied, [])
  else
    match s.verifyImage rd with
    | some _ => ((s.clearSlot slot).offer 0x4C 0x12 .imageRefused, csVerify, [])
    | none =>
      if kind != imgKind rd || (b.getD 1 0).toNat != 64 + padLen (imgLen rd) + 2820 then (s, csFormat, [])
      else s.imgInstall rd (b.getD 3 0).toNat

/-- START: context and step, written as SEQ_CTX_CTL. -/
def Dev.hostStart (s : Dev) (len : Nat) (b : List Word) : Served :=
  let n := (b.getD 0 0).toNat
  let k := (b.getD 1 0).toNat
  if len != 8 || 16 ≤ n || 65536 ≤ k then (s, csFormat, []) else (s.ctxCtl n 1 (BitVec.ofNat 16 k), csOk, [])

/-- SCRIBE: a code 0xF000-0xFFFF and up to 15 payload words, offered with SRC 0x3F. -/
def Dev.hostScribe (s : Dev) (len : Nat) (b : List Word) : Served :=
  let c := (b.getD 0 0).toNat
  let n := len / 4
  if len % 4 != 0 || n < 1 || 16 < n || c < 0xF000 || 0xFFFF < c then (s, csFormat, [])
  else (s.offerCode 0x3F (BitVec.ofNat 16 c) false ((b.drop 1).take (n - 1)), csOk, [])

/-- Execute a command of a session: `cmd` 1-5 as R432 numbers them. -/
def Dev.hostDo (s : Dev) (n cmd len : Nat) (b : List Word) : Served :=
  if (cmd = 2 || cmd = 3) && 8 ≤ n then (s, csDenied, [])
  else if s.recovery && (n != 0 || 4 ≤ cmd) then (s, csDenied, [])
  else if s.lifecycle = lcRetired && cmd != 1 then (s, csDenied, [])
  else if 4080 < len then (s, csFormat, [])
  else if cmd = 1 then s.hostInfo
  else if cmd = 2 then s.hostImgWrite len b
  else if cmd = 3 then s.hostImgCommit len b
  else if cmd = 4 then s.hostStart len b
  else if cmd = 5 then s.hostScribe len b
  else (s, csFormat, [])

/-- A command's page is judged, executed once, and answered; a duplicate repeats the first response with STATUS DUP. -/
def Dev.hostJudge (s : Dev) (n cmd : Nat) (tag : Word) (ws : List Word) : Dev :=
  let m := sessChan n
  let src := A.DUO_SRC (64 + n)
  match judge tag (s.reg src) with
  | .dup =>
    let first := tabGet [] s.hostResp n
    s.hostReply m tag (BitVec.ofNat 32 csDup :: tag :: first.drop 2)
  | .gap => s.hostReply m tag (respWords csGap (s.reg src + 1) [])
  | .new =>
    let s := (s.setReg src tag).collect 0xE (BitVec.ofNat 32 n) tag (BitVec.ofNat 32 ((ws.take 20).length / 4)) (ws.take 20)
    let (s, st, body) :=
      if ws.getD 1 0 != tag || (ws.getD 3 0) != 0 then (s, csFormat, [])
      else s.hostDo n cmd (ws.getD 2 0).toNat (ws.drop 4)
    let r := respWords st tag body
    ({ s with hostResp := tabPut [] s.hostResp n r }).hostReply m tag r

/-- Firmware serves the head command of session `n` when it is `cmd`; one that R432 does not name is answered FORMAT by
whichever is served. -/
def Dev.hostServe (s : Dev) (n cmd : Nat) : Dev :=
  let m := sessChan n
  if s.standby || (s.halted && !s.recovery) || s.endIdent m 1 != 0x38 || s.endIdent m 0 != 0x3F then s
  else
    match (s.mend m 1).queue with
    | [] => s
    | x :: _ =>
      match s.payload x.handle 1024 with
      | none => if cmd = 1 && x.tick < s.ticks then ((s.mbxTake m 1).1).hostReply m x.tag (respWords csFormat x.tag []) else s
      | some ws =>
        let c := bitsOf (ws.getD 0 0) 7 0
        if x.tick < s.ticks && (c == cmd || c == 0 || decide (6 ≤ c)) then ((s.mbxTake m 1).1).hostJudge n c x.tag ws else s

/-- INFO (R432). -/
def execInfo (session : Fin 16) (s : State) : Out := s.go (·.hostServe session.val 1)
/-- IMG_WRITE (R432). -/
def execImgWrite (session : Fin 16) (s : State) : Out := s.go (·.hostServe session.val 2)
/-- IMG_COMMIT (R433). -/
def execImgCommit (session : Fin 16) (s : State) : Out := s.go (·.hostServe session.val 3)
/-- HOST_START (R432). -/
def execHostStart (session : Fin 16) (s : State) : Out := s.go (·.hostServe session.val 4)
/-- HOST_SCRIBE (R432). -/
def execHostScribe (session : Fin 16) (s : State) : Out := s.go (·.hostServe session.val 5)

/-- A HOSTCMD entry is replayed (R393): judged alike, a START or SCRIBE executed, and nothing answered. Images come as
mirrored data. -/
def Dev.hostReplay (s : Dev) (n : Nat) (tag : Word) (ws : List Word) : Dev :=
  let src := A.DUO_SRC (64 + n)
  if judge tag (s.reg src) = .new then
    let s := s.setReg src tag
    let cmd := bitsOf (ws.getD 0 0) 7 0
    let bad := ws.getD 1 0 != tag || (ws.getD 3 0) != 0
    let (s, st, body) : Served :=
      if bad then (s, csFormat, [])
      else if cmd = 1 || cmd = 4 || cmd = 5 then s.hostDo n cmd (ws.getD 2 0).toNat (ws.drop 4) else (s, csOk, [])
    { s with hostResp := tabPut [] s.hostResp n (respWords st tag body) }
  else s

end Sys2Proof.Machine
end

