-- ==== Sys2Proof/Machine/Veneer.lean ====
section
/-! DEFINITION. Veneer changes and forces (chapter 6): the layout of a code half, the validation of a switch request, the
carry of M data with its conversions, the switch, and the force table. -/

namespace Sys2Proof.Machine

/-! ## Layout of a half (R138, R139) -/

/-- Word `i` of the half in a bank. -/
def Dev.halfWord (s : Dev) (bank i : Nat) : Nat := (s.word (bankBase bank + 4 * i)).toNat

/-- A symbol record. -/
structure Sym where
  id : Nat
  sp : Nat
  bit : Nat
  word : Nat
  count : Nat
  type : Nat
  init : Nat
  deriving DecidableEq, Repr

/-- Symbol record `i` of a half. -/
def Dev.symAt (s : Dev) (bank i : Nat) : Sym :=
  let b := s.halfWord bank 8 + 4 * i
  let w1 := s.halfWord bank (b + 1)
  let w2 := s.halfWord bank (b + 2)
  ⟨s.halfWord bank b, w1 / 2 ^ 29, w1 / 2 ^ 24 % 32, w1 % 2 ^ 20, w2 / 65536, w2 % 256, s.halfWord bank (b + 3)⟩

/-- The symbol table of a half; at most as many records as a half can hold. -/
def Dev.symsOf (s : Dev) (bank : Nat) : List Sym := (upto (min (s.halfWord bank 9) 32768)).map (s.symAt bank)

/-- Types of two words per element. -/
def isWide (t : Nat) : Bool := t == 0x08 || t == 0x09 || t == 0x0B || t == 0x0F || t == 0x10
/-- A type code of R139. -/
def isType (t : Nat) : Bool := (decide (1 ≤ t) && decide (t ≤ 0x10)) || t == 0x20
def elemWords (t : Nat) : Nat := if isWide t then 2 else 1
/-- Words of a symbol. -/
def Sym.words (x : Sym) : Nat := x.count * elemWords x.type

/-! ## Validation (R140) -/

/-- Sections of a half as base and length: header, code, constants, stop values, symbols, tasks. -/
def Dev.sections (s : Dev) (bank : Nat) : List (Nat × Nat) :=
  [(0, 16), (s.halfWord bank 2, s.halfWord bank 3), (s.halfWord bank 4, s.halfWord bank 5),
   (s.halfWord bank 6, s.halfWord bank 7), (s.halfWord bank 8, 4 * s.halfWord bank 9), (s.halfWord bank 10, 32)]

/-- No two runs of a list overlap. -/
def apart : List (Nat × Nat) → Bool
  | [] => true
  | x :: xs => xs.all (fun y => !blocksMeet x.1 x.2 y.1 y.2) && apart xs

/-- ENTRY and mask word of task `t` in a half. -/
def Dev.halfTask (s : Dev) (bank t : Nat) : Nat × Nat :=
  let b := s.halfWord bank 10 + 2 * t
  (s.halfWord bank b, s.halfWord bank (b + 1))

/-- Check 0x4 TASKS. -/
def Dev.halfTasksOk (s : Dev) (e bank : Nat) : Bool :=
  (upto 16).all (fun t =>
    let (entry, masks) := s.halfTask bank t
    let c := s.halfWord bank 2
    (if entry = 0xFFFFFFFF then !s.taskOn e t else decide (c ≤ entry) && decide (entry < c + s.halfWord bank 3)) &&
      masks == (s.reg (A.PE_TASK_MASK e t)).toNat)

/-- Two M variables share a place: words, or the same bit of one word for two single BOOLs. -/
def symsMeet (x y : Sym) : Bool :=
  blocksMeet x.word x.words y.word y.words && !(x.type == 1 && y.type == 1 && x.bit != y.bit)

/-- Check 0x5 on one record: SYMID, space, type, count, partition and constant section. -/
def Dev.symOk (s : Dev) (e bank : Nat) (x : Sym) : Bool :=
  x.id != 0 && decide (x.sp ≤ 2) && isType x.type && x.count != 0 &&
    (x.sp != 2 || decide (x.word + x.words ≤ s.partWords e)) &&
    (x.init == 0xFFFFFFFF || decide (x.init + x.words ≤ s.halfWord bank 5))

/-- No two records share a SYMID, and no two M variables a place. -/
def symsApart : List Sym → Bool
  | [] => true
  | x :: xs => xs.all (fun y => x.id != y.id && !(x.sp == 2 && y.sp == 2 && symsMeet x y)) && symsApart xs

/-! ## The carry (R144, R145) -/

/-- Integer types: width and whether signed. -/
def intType : Nat → Option (Nat × Bool)
  | 0x02 => some (8, true)
  | 0x03 => some (16, true)
  | 0x04 => some (32, true)
  | 0x05 => some (8, false)
  | 0x06 => some (16, false)
  | 0x07 => some (32, false)
  | 0x08 => some (64, true)
  | 0x09 => some (64, false)
  | _ => none

/-- Width of a bit-string type. -/
def bitsType : Nat → Option Nat
  | 0x0C => some 8
  | 0x0D => some 16
  | 0x0E => some 32
  | 0x0F => some 64
  | _ => none

/-- The integer that a stored pattern of a type stands for. -/
def intOf (w : Nat) (signed : Bool) (v : Nat) : Int := if signed then toSigned w (v % 2 ^ w) else ((v % 2 ^ w : Nat) : Int)

/-- An integer in the range of a type, with whether it saturated. -/
def satInt (w : Nat) (signed : Bool) (i : Int) : Int × Bool :=
  let lo : Int := if signed then -(2 ^ (w - 1)) else 0
  let hi : Int := if signed then 2 ^ (w - 1) - 1 else 2 ^ w - 1
  if i < lo then (lo, true) else if hi < i then (hi, true) else (i, false)

/-- How an integer of a type is stored: up to 32 bits in one extended word, else in two. -/
def storeInt (w : Nat) (i : Int) : Nat := (BitVec.ofInt (if w = 64 then 64 else 32) i).toNat

/-- A float rounded to an integer type: NaN gives 0; both report saturation. -/
def fltToInt (w : Nat) (signed : Bool) (x : Fl) : Int × Bool :=
  match x with
  | .nan => (0, true)
  | .inf neg => ((satInt w signed (if neg then -(2 ^ 64) else 2 ^ 64)).1, true)
  | .num _ _ _ => match x.toInt true with | some i => satInt w signed i | none => (0, true)

/-- One element converted (R145): its new stored value and whether it saturated; none where the new INIT is taken. `v`
is the stored value of the old element as one number. -/
def convElem (t t' v : Nat) : Option (Nat × Bool) :=
  if t = t' then some (v, false)
  else
    match intType t, bitsType t, intType t', bitsType t' with
    | some (w, sg), _, some (w', sg'), _ =>
      let r := satInt w' sg' (intOf w sg v)
      some (storeInt w' r.1, r.2)
    | some (w, _), _, _, some w' => some (v % 2 ^ w % 2 ^ w', false)
    | _, some w, _, some w' => some (v % 2 ^ w % 2 ^ w', false)
    | _, some w, some (w', sg'), _ => some (storeInt w' (intOf w' sg' (v % 2 ^ w)), false)
    | some (w, sg), _, _, _ =>
      if t' = 0x0A then some ((e32 (Fl.ofInt (intOf w sg v))).toNat, false)
      else if t' = 0x0B then some ((e64 (Fl.ofInt (intOf w sg v))).toNat, false)
      else if t' = 0x01 then some (if v % 2 ^ w = 0 then 0 else 1, false)
      else none
    | _, some w, _, _ => if t' = 0x01 then some (if v % 2 ^ w = 0 then 0 else 1, false) else none
    | _, _, some (w', sg'), _ =>
      if t = 0x0A then let r := fltToInt w' sg' (d32 (BitVec.ofNat 32 v)); some (storeInt w' r.1, r.2)
      else if t = 0x0B then let r := fltToInt w' sg' (d64 (BitVec.ofNat 64 v)); some (storeInt w' r.1, r.2)
      else if t = 0x01 then some (v % 2, false)
      else none
    | _, _, _, some _ => if t = 0x01 then some (v % 2, false) else none
    | _, _, _, _ =>
      if t = 0x0A && t' = 0x0B then some ((widen (BitVec.ofNat 32 v)).toNat, false)
      else if t = 0x0B && t' = 0x0A then
        let x := d64 (BitVec.ofNat 64 v)
        let r := narrow (BitVec.ofNat 64 v)
        some (r.toNat, x.isFinite && !(d32 r).isFinite)
      else none

/-- Stored value of element `i` of an M symbol; a BOOL is its bit. -/
def Dev.elemValue (s : Dev) (e : Nat) (x : Sym) (i : Nat) : Nat :=
  let w (k : Nat) : Nat :=
    match s.partWord e (x.word + i * elemWords x.type + k) with
    | some m => match s.mAddr m with | some a => (s.word a).toNat | none => 0
    | none => 0
  if x.type = 1 then (w 0 >>> x.bit) % 2 else if isWide x.type then w 0 + w 1 * 2 ^ 32 else w 0

/-- Initial value of element `i` from the constant section of a half (R139). -/
def Dev.initValue (s : Dev) (bank : Nat) (x : Sym) (i : Nat) : Nat :=
  if x.init = 0xFFFFFFFF then 0
  else
    let w (k : Nat) : Nat := s.halfWord bank (s.halfWord bank 4 + x.init + i * elemWords x.type + k)
    if x.type = 1 then w 0 % 2 else if isWide x.type then w 0 + w 1 * 2 ^ 32 else w 0

/-- Masked writes that store element `i`: partition word, mask, value. -/
def elemStores (x : Sym) (i v : Nat) : List (Nat × Word × Word) :=
  let w := x.word + i * elemWords x.type
  if x.type = 1 then [(w, bitMask x.bit, if v % 2 = 1 then bitMask x.bit else 0)]
  else if isWide x.type then [(w, 0xFFFFFFFF, BitVec.ofNat 32 v), (w + 1, 0xFFFFFFFF, BitVec.ofNat 32 (v / 2 ^ 32))]
  else [(w, 0xFFFFFFFF, BitVec.ofNat 32 v)]

/-- What a carry does: stores, words moved or freed, elements converted or initialised, a saturation. -/
structure Carry where
  stores : List (Nat × Word × Word)
  moved : Nat
  elems : Nat
  sat : Bool
  deriving DecidableEq, Repr

def Carry.join (a b : Carry) : Carry := ⟨a.stores ++ b.stores, a.moved + b.moved, a.elems + b.elems, a.sat || b.sat⟩

/-- Element `i` of a new symbol with its INIT value. -/
def Dev.carryInit (s : Dev) (bank : Nat) (y : Sym) (i : Nat) : Carry := ⟨elemStores y i (s.initValue bank y i), 0, 1, false⟩

/-- Element `i` carried from an old symbol of another type or count. -/
def Dev.carryConv (s : Dev) (e bank : Nat) (x y : Sym) (i : Nat) : Carry :=
  if i < x.count then
    match convElem x.type y.type (s.elemValue e x i) with
    | some (v, sat) => ⟨elemStores y i v, 0, 1, sat⟩
    | none => s.carryInit bank y i
  else s.carryInit bank y i

/-- The carry of one new symbol (R144). -/
def Dev.carrySym (s : Dev) (e bank : Nat) (old : List Sym) (y : Sym) : Carry :=
  let all (f : Nat → Carry) : Carry := (upto y.count).foldl (fun c i => c.join (f i)) (Carry.mk [] 0 0 false)
  match old.find? (fun x => x.id == y.id) with
  | some x =>
    if x.type = y.type && x.count = y.count then
      if x.word = y.word && x.bit = y.bit then ⟨[], 0, 0, false⟩
      else all (fun i => let st := elemStores y i (s.elemValue e x i); ⟨st, st.length, 0, false⟩)
    else if y.type = 0x20 || x.type = 0x20 then all (s.carryInit bank y)
    else all (s.carryConv e bank x y)
  | none => all (s.carryInit bank y)

/-- Words that belong to a list of symbols. -/
def symWords (xs : List Sym) : List Nat := xs.flatMap (fun x => (upto x.words).map (fun i => x.word + i))

/-- The words freed: in an old symbol that is gone and in no new one, without repeats. -/
def freedWords (old new : List Sym) : List Nat :=
  let gone := old.filter (fun x => !new.any (fun y => y.id == x.id))
  let kept := symWords new
  (symWords gone).foldl (fun acc w => if kept.contains w || acc.contains w then acc else acc ++ [w]) []

/-- M symbols of a half. -/
def Dev.mSyms (s : Dev) (bank : Nat) : List Sym := (s.symsOf bank).filter (fun x => x.sp == 2)

/-- The whole carry from the active half to the veneer half of an engine. -/
def Dev.carryPlan (s : Dev) (e : Nat) : Carry :=
  let code := A.PE_CODE e
  let ven := s.get code F.PE_CODE_VEN
  let old := if s.bit code F.PE_CODE_AVAL then s.mSyms (s.get code F.PE_CODE_ACT) else []
  let new := s.mSyms ven
  let free := freedWords old new
  let c : Carry := new.foldl (fun (c : Carry) y => c.join (s.carrySym e ven old y)) (Carry.mk [] 0 0 false)
  c.join ⟨free.map (fun w => (w, 0xFFFFFFFF, 0)), free.length, 0, false⟩

/-- One masked store of the carry. -/
def Dev.carryStore (s : Dev) (e : Nat) (x : Nat × Word × Word) : Dev :=
  match s.partWord e x.1 with
  | some m =>
    match s.mAddr m with
    | some a => (s.mStore m (overlay x.2.1 x.2.2 (s.word a))).1
    | none => s
  | none => s

/-! ## Requests (R140, R141) -/

/-- The cause that refuses a switch request, or none. -/
def Dev.vnrCheck (s : Dev) (e : Nat) : Option Nat :=
  let code := A.PE_CODE e
  let ven := s.get code F.PE_CODE_VEN
  let secs := s.sections ven
  if s.get code F.PE_CODE_VVAL = 0 then some 2
  else if s.halfWord ven 0 != 0x4C590001 || s.halfWord ven 1 != 0x01 + 256 * e then some 3
  else if !(secs.all (fun x => decide (x.1 + x.2 ≤ 131072)) && apart secs) then some 0xA
  else if !s.halfTasksOk e ven then some 4
  else if !((s.symsOf ven).all (s.symOk e ven) && symsApart (s.symsOf ven)) then some 5
  else if 65536 < ((s.carryPlan e).stores.map (·.1)).eraseDups.length then some 6
  else if s.peMode e = 2 then some 7
  else none

/-- A refused or withdrawn request: its cause, nothing pending. -/
def Dev.vnrEnd (s : Dev) (e cause : Nat) : Dev :=
  let a := A.PE_VNR_STAT e
  ((s.setEng e { s.eng e with vnr := none }).set a F.PE_VNR_STAT_PEND 0).set a F.PE_VNR_STAT_CAUSE cause

/-- A switch request in GAP or DRAIN mode. A request while one pends or runs is ignored. -/
def Dev.vnrRequest (s : Dev) (e : Nat) (drain : Bool) : Dev :=
  if (s.eng e).vnr.isSome then s
  else
    match s.vnrCheck e with
    | some c => (s.vnrEnd e c).offer (peSrc e) 0x05 .vnrRefused
    | none => (s.setEng e { s.eng e with vnr := some ⟨drain, s.ticks, none⟩ }).set (A.PE_VNR_STAT e) F.PE_VNR_STAT_PEND 1

/-- SWITCH_GAP and SWITCH_DRAIN (R141). -/
def execSwitchGap (e : Fin 8) (s : State) : Out := s.go (·.vnrRequest e.val false)
def execSwitchDrain (e : Fin 8) (s : State) : Out := s.go (·.vnrRequest e.val true)
/-- VNR_WITHDRAW (R141). -/
def execVnrWithdraw (e : Fin 8) (s : State) : Out := s.go (·.vnrWithdraw e.val)

/-- The bound B in ticks: the largest period of the enabled cyclic tasks' comparators, or 10 ms. -/
def Dev.vnrBound (s : Dev) (e : Nat) : Nat :=
  let ps := (upto 16).filterMap (fun t =>
    let c := s.reg (A.PE_TASK_CTL e t)
    if F.PE_TASK_CTL_EN.of c = 1 && F.PE_TASK_CTL_KIND.of c = 0 then
      some (s.get (A.TIME_TT_PER (F.PE_TASK_CTL_EIDX.of c)) F.TIME_TT_PER_PER) else none)
  if ps.isEmpty then 2500000 else ps.foldl max 0

/-- SWITCH_TIMEOUT (R141): the switch has not begun within B of its request. -/
def Dev.vnrTimeout (s : Dev) (e : Nat) : Dev :=
  match (s.eng e).vnr with
  | some v =>
    if v.endTick.isNone && v.reqTick + s.vnrBound e ≤ s.ticks then (s.vnrEnd e 8).offer (peSrc e) 0x05 .vnrRefused else s
  | none => s
def execSwitchTimeout (e : Fin 8) (s : State) : Out := s.live (·.vnrTimeout e.val)

/-! ## The force table (R146) -/

def Dev.forceAt (s : Dev) (i : Nat) : Option Force := tabGet none s.forces i
def Dev.setForce (s : Dev) (i : Nat) (f : Option Force) : Dev :=
  let s := { s with forces := tabPut none s.forces i f }
  s.set A.SYS_FRC_STAT F.SYS_FRC_STAT_USED s.forces.length

/-- Handle and mask that a symbol gives a force; a symbol of several words is forced on its first (R146). -/
def Dev.symForce (s : Dev) (e : Nat) (x : Sym) : Option (Word × Word) :=
  if x.sp = 2 then
    (s.partWord e x.word).map (fun m => (mkHandle 0x08 m, if x.type = 1 then bitMask x.bit else 0xFFFFFFFF))
  else if x.sp ≤ 1 then
    if x.type = 1 then some (mkHandle (if x.sp = 0 then 0x01 else 0x03) (x.word * 32 + x.bit), 1)
    else some (mkHandle (if x.sp = 0 then 0x02 else 0x04) x.word, 0xFFFFFFFF)
  else none

/-- The symbol of a SYMID in the active half of an engine. -/
def Dev.activeSym (s : Dev) (e id : Nat) : Option Sym :=
  let code := A.PE_CODE e
  if s.bit code F.PE_CODE_AVAL && id != 0 then (s.symsOf (s.get code F.PE_CODE_ACT)).find? (fun x => x.id == id) else none

/-- The value that an element's stored form presents on its force mask, and back. -/
def forcePlaced (x : Sym) (v : Nat) : Word :=
  if x.type = 1 && x.sp = 2 then (if v % 2 = 1 then bitMask x.bit else 0) else BitVec.ofNat 32 v
def forceElem (x : Sym) (v : Word) : Nat := if x.type = 1 && x.sp = 2 then (v.toNat >>> x.bit) % 2 else v.toNat

/-- The symbol record of a SYMID in a list. -/
def symNamed (xs : List Sym) (id : Nat) : Option Sym := xs.find? (fun x => x.id == id)

/-- A forced value converted for a symbol of the new half in a bank (R145, R150), and whether it saturated. -/
def Dev.forceConv (s : Dev) (bank : Nat) (x y : Sym) (v : Word) : Word × Bool :=
  if x.type = y.type then (forcePlaced y (forceElem x v), false)
  else
    match convElem x.type y.type (forceElem x v) with
    | some (v, sat) => (forcePlaced y v, sat)
    | none => (forcePlaced y (s.initValue bank y 0), false)

/-- The destinations of a Q word that stands at its stop or frozen value follow the forces on it (R93, R135). -/
def Dev.forceStands (s : Dev) (h : Word) : Dev :=
  if hclass h = 0x03 || hclass h = 0x04 then
    let w := (imagePlace h 0).1
    match s.qOwner (w / 4) with
    | some (e, _) =>
      if s.qStands (w / 4) then s.qDeliver e w (actingForces s.forces) (s.point (mkHandle 0x04 w)) true else s
    | none => s
  else s

/-- What follows a change of the force entry with this handle: a forced output is driven from the next tick, where the
converter stage and the read-back checks see its new code; a Q word that stands is delivered. -/
def Dev.forceDriven (s : Dev) (h : Word) : Dev :=
  if hclass h = 0x11 then s.aoNew (hindex h)
  else if hclass h = 0x19 then s.dqChanged (hindex h)
  else s.forceStands h

/-- An entry re-keyed to the new half in a bank (R150); `old` are the symbols of the half before. -/
def Dev.rekey (s : Dev) (e bank : Nat) (old new : List Sym) (i : Nat) (f : Force) : Dev :=
  let a := A.PE_FORCE_ORPHAN e
  let n := s.get a F.PE_FORCE_ORPHAN_COUNT
  match (symNamed new f.symid.toNat).bind (fun y => (s.symForce e y).map (fun p => (y, p))) with
  | some (y, h, m) =>
    let (v, sat) := match symNamed old f.symid.toNat with
      | some x => s.forceConv bank x y f.value
      | none => (f.value, false)
    let s := ((s.setForce i (some { f with key := h, mask := m, value := v, orphan := false })).forceStands f.key).forceStands h
    let s := if sat then s.raise (A.PE_VNR_STAT e) F.PE_VNR_STAT_SAT else s
    if f.orphan then s.set a F.PE_FORCE_ORPHAN_COUNT (n - 1) else s
  | none =>
    if f.orphan then s
    else (((s.setForce i (some { f with orphan := true })).forceStands f.key).set a F.PE_FORCE_ORPHAN_COUNT (n + 1)).offer (peSrc e) 0x05 .forceOrphan

/-- A switch of the engine runs. -/
def Dev.vnrRunning (s : Dev) (e : Nat) : Bool :=
  match (s.eng e).vnr with
  | some v => v.endTick.isSome
  | none => false

/-! ## The switch (R142, R143) -/

/-- A switch may begin: on a tick after its request, in STOP, or in RUN with no task in a cycle. -/
def Dev.vnrMay (s : Dev) (e : Nat) : Bool :=
  match (s.eng e).vnr with
  | some v => v.endTick.isNone && decide (v.reqTick < s.ticks) && (s.peMode e == 0 || (s.peMode e == 1 && !s.inCycle e))
  | none => false

/-- Steps 3 to 6 on registers and tasks. -/
def Dev.vnrSwap (s : Dev) (e : Nat) : Dev :=
  let code := A.PE_CODE e
  let act := s.get code F.PE_CODE_ACT
  let ven := s.get code F.PE_CODE_VEN
  let s := (((s.set code F.PE_CODE_ACT ven).set code F.PE_CODE_VEN act).set code F.PE_CODE_AVAL 1).set code F.PE_CODE_VVAL 0
  let s := s.each 16 fun s t =>
    let s := s.setTask e t { s.task e t with w := [], f := [] }
    if s.taskState e t = tsFaulted then s.setTaskState e t tsIdle else s
  s.each 8 fun s k => s.set (A.PE_BRK e k) F.PE_BRK_EN 0

/-- Entries whose ENG names the engine, with their numbers. -/
def Dev.engForces (s : Dev) (e : Nat) : List (Nat × Force) :=
  s.forces.filterMap (fun p => match p.2 with | some f => if f.eng = e then some (p.1, f) else none | none => none)

/-- VENEER_SWITCH (R142, R143): the steps of the switch; it lasts until its end tick, when CAUSE reads DONE. Stop values
are read from the active half whenever they are taken, so step 7 needs no copy. -/
def Dev.veneerSwitch (s : Dev) (e : Nat) : Dev :=
  if s.vnrMay e then
    let code := A.PE_CODE e
    let old := if s.bit code F.PE_CODE_AVAL then s.symsOf (s.get code F.PE_CODE_ACT) else []
    let ven := s.get code F.PE_CODE_VEN
    let new := s.symsOf ven
    let plan := s.carryPlan e
    let fs := s.engForces e
    let s := plan.stores.foldl (fun s x => s.carryStore e x) s
    let s := fs.foldl (fun s p => if p.2.symid = 0 then s else s.rekey e ven old new p.1 p.2) s
    let s := s.vnrSwap e
    let a := A.PE_VNR_STAT e
    let s := if plan.sat then s.raise a F.PE_VNR_STAT_SAT else s
    let ns := 1000 + plan.moved + 4 * plan.elems + 8 * fs.length
    let s := s.set a F.PE_VNR_STAT_DUR ns
    s.setEng e { s.eng e with vnr := (s.eng e).vnr.map (fun v => { v with endTick := some (s.ticks + cycleTicks ns) }) }
  else s
def execVeneerSwitch (e : Fin 8) (s : State) : Out := s.live (·.veneerSwitch e.val)

/-- The end of a switch on its end tick: PEND clears, CAUSE reads DONE, a record with the build identity is offered. -/
def Dev.vnrTick (s : Dev) : Dev :=
  s.each 8 fun s e =>
    match (s.eng e).vnr with
    | some v =>
      match v.endTick with
      | some t =>
        if t ≤ s.ticks then
          (s.vnrEnd e 1).offerCode (peSrc e) (BitVec.ofNat 8 0x05 ++ Config.recordCode .vnrDone) false [BitVec.ofNat 32 (s.layWord e 11)]
        else s
      | none => s
    | none => s

/-! ## Force commits (R146, R147) -/

/-- Classes that may be forced (R147). -/
def forceClass (c : Nat) : Bool :=
  c == 1 || c == 2 || c == 3 || c == 4 || c == 8 || c == 0x11 || c == 0x19 || c == 0x20 || c == 0x31 || c == 0x39

def isWordClass (c : Nat) : Bool := c == 2 || c == 4 || c == 8

/-- Two entries overlap (R146). -/
def forcesMeet (k m k' m' : Word) : Bool :=
  let c := hclass k
  let c' := hclass k'
  let covers (b w mw : Word) : Bool := hindex b / 32 == hindex w && mw.getLsbD (hindex b % 32)
  if k = k' then !isWordClass c || m &&& m' != 0
  else if (c = 1 && c' = 2) || (c = 3 && c' = 4) then covers k k' m'
  else if (c = 2 && c' = 1) || (c = 4 && c' = 3) then covers k' k m
  else false

def Dev.frcLast (s : Dev) (n : Nat) : Dev := s.set A.SYS_FRC_STAT F.SYS_FRC_STAT_LAST n

/-- VALID and ENG of a write of SYS_FRC_CTL are staged for the requester. -/
def Dev.frcStage (s : Dev) (req : Nat) (v : Word) : Dev :=
  let a := reqKey req A.SYS_FRC_CTL
  (s.set a F.SYS_FRC_CTL_VALID (F.SYS_FRC_CTL_VALID.of v)).set a F.SYS_FRC_CTL_ENG (F.SYS_FRC_CTL_ENG.of v)

/-- The entry that the requester selects. -/
def Dev.frcSel (s : Dev) (req : Nat) : Nat := s.get (reqKey req A.SYS_FRC_SEL) F.SYS_FRC_SEL_ENTRY

/-- An enabled entry other than `i` overlaps a key. -/
def Dev.forceDup (s : Dev) (i : Nat) (k m : Word) : Bool :=
  s.forces.any (fun p => p.1 != i && match p.2 with | some f => f.enabled && forcesMeet k m f.key f.mask | none => false)

/-- FORCE_ENABLE (R146): the checks in their order, then the commit. -/
def Dev.forceEnable (s : Dev) (req : Nat) (v : Word) : Dev :=
  let s := s.frcStage req v
  let i := s.frcSel req
  let eng := F.SYS_FRC_CTL_ENG.of v
  let sym := s.reg (reqKey req A.SYS_FRC_SYM)
  if s.vnrRunning eng then s.frcLast 4
  else
    let km : Option (Word × Word) :=
      if sym = 0 then some (s.reg (reqKey req A.SYS_FRC_KEY), s.reg (reqKey req A.SYS_FRC_MASK))
      else (s.activeSym eng sym.toNat).bind (s.symForce eng)
    match km with
    | none => s.frcLast 3
    | some (k, m) =>
      if !validHandle k then (s.frcLast 1).offer 0x40 0x01 .configRefused
      else if !forceClass (hclass k) then (s.frcLast 1).offer 0x40 0x01 .configRefused
      else if s.forceDup i k m then s.frcLast 2
      else
        let f : Force := ⟨true, false, k, sym, m, s.reg (reqKey req A.SYS_FRC_VAL), F.SYS_FRC_CTL_VALID.of v == 1, eng⟩
        ((s.setForce i (some f)).forceDriven k).frcLast 0
def execForceEnable (req : Fin 15) (v : Word) (s : State) : Out := s.go (·.forceEnable req.val v)

/-- FORCE_UPDATE (R146). -/
def Dev.forceUpdate (s : Dev) (req : Nat) (v : Word) : Dev :=
  let s := s.frcStage req v
  let i := s.frcSel req
  match s.forceAt i with
  | some f =>
    if s.vnrRunning f.eng then s.frcLast 4
    else if f.enabled then
      let f' := { f with value := s.reg (reqKey req A.SYS_FRC_VAL), valid := F.SYS_FRC_CTL_VALID.of v == 1 }
      ((s.setForce i (some f')).forceDriven f.key).frcLast 0
    else s.frcLast 5
  | none => s.frcLast 5
def execForceUpdate (req : Fin 15) (v : Word) (s : State) : Out := s.go (·.forceUpdate req.val v)

/-- FORCE_CLEAR (R146, R150): the entry goes, orphaned or not. -/
def Dev.forceClear (s : Dev) (req : Nat) : Dev :=
  let i := s.frcSel req
  match s.forceAt i with
  | some f =>
    if s.vnrRunning f.eng then s.frcLast 4
    else
      let a := A.PE_FORCE_ORPHAN f.eng
      let s := if f.orphan then s.set a F.PE_FORCE_ORPHAN_COUNT (s.get a F.PE_FORCE_ORPHAN_COUNT - 1) else s
      ((s.setForce i none).forceDriven f.key).frcLast 0
  | none => s.frcLast 0
def execForceClear (req : Fin 15) (s : State) : Out := s.go (·.forceClear req.val)

end Sys2Proof.Machine
end

