-- ==== Sys2Proof/Machine/Power.lean ====
section
/-! DEFINITION. Feeds, the ordered save and resets (chapter 22): what happens from the measurement of the feeds to power
good. Each unit's state stands in place while the device is without supply; the start type is applied on T_r, in
Start.lean (log 51). -/

namespace Sys2Proof.Machine

def Dev.onPower (s : Dev) (f : Power → Power) : Dev := { s with power := f s.power }
def Dev.phase (s : Dev) : PwrPhase := s.power.phase

def rkPowerOn : Nat := 1
def rkResetN : Nat := 2
def rkDevice : Nat := 3
def rkWatchdog : Nat := 4
def rkCold : Nat := 5
def rkFactory : Nat := 6

/-- PFAIL_N is high while units are in control (R451, R460). -/
def Dev.pfailN (s : Dev) : Bool := s.phase == .run

/-! ## Feeds (R447-R450) -/

/-- LOWA or LOWB after a measurement: set below 19.2 V with a record, clear after 10 ms at or above it. -/
def Dev.lowFeed (s : Dev) (b : Bool) (mv : Nat) : Dev :=
  let f := if b then F.SYS_PWR_STAT_LOWB else F.SYS_PWR_STAT_LOWA
  let at_ := if b then s.power.lowB else s.power.lowA
  let put (s : Dev) (t : Nat) : Dev := s.onPower fun p => if b then { p with lowB := t } else { p with lowA := t }
  if mv < 19200 then
    let s := put s (s.ticks + 1)
    if s.bit A.SYS_PWR_STAT f then s else (s.set A.SYS_PWR_STAT f 1).offer 0x40 0x01 .feedLow
  else if at_ + 2500000 ≤ s.ticks + 1 then s.set A.SYS_PWR_STAT f 0
  else s

/-- Since when a feed has stood at 19.2 V, plus one. -/
def goodSince (mv now was : Nat) : Nat := if mv < 19200 then 0 else if was = 0 then now + 1 else was

/-- The save under way was begun, or joined, by PFAIL. -/
def Power.pfail (p : Power) : Bool := p.kind == rkPowerOn || p.joined

/-- FEED_MEASUREMENT (R447-R449): both feeds in millivolts. -/
def Dev.feeds (s : Dev) (va vb : Nat) : Dev :=
  let a := A.SYS_PWR_STAT
  let lost := decide (va < 18000) && decide (vb < 18000)
  let s := (s.setBit a F.SYS_PWR_STAT_FEEDA (decide (18000 ≤ va))).setBit a F.SYS_PWR_STAT_FEEDB (decide (18000 ≤ vb))
  let s := (s.lowFeed false va).lowFeed true vb
  let s := s.onPower fun p => { p with goodA := goodSince va s.ticks p.goodA, goodB := goodSince vb s.ticks p.goodB }
  let riding := s.bit a F.SYS_PWR_STAT_RIDE
  if lost && !riding then
    if s.on then (s.set a F.SYS_PWR_STAT_RIDE 1).onPower fun p => { p with ride := s.ticks + 1 } else s
  else if !lost && riding then
    let s := s.set a F.SYS_PWR_STAT_RIDE 0
    if s.phase == .saving && s.power.pfail then s else s.count a F.SYS_PWR_STAT_RIDES 1
  else s
def execFeedMeasurement (va vb : BitVec 16) (s : State) : Out := s.raw (·.feeds va.toNat vb.toNat)

/-- HOLDUP_READY (R450). -/
def execHoldupReady (s : State) : Out := s.go fun d => d.set A.SYS_PWR_STAT F.SYS_PWR_STAT_HUPRDY 1

/-! ## The ordered save (R451-R453) -/

/-- The save starts on this tick, t_p: inputs freeze and the PFAIL markers are due. A device in a recovery start has no
unit state to save. -/
def Dev.beginSave (s : Dev) (kind : Nat) (full : Bool) : Dev :=
  let banks := (upto 48).filter (fun b => s.owner b != 0)
  let p : Power := { s.power with
    phase := .saving, kind := kind, full := full && s.phase == .run, tp := s.ticks,
    charged := s.bit A.SYS_PWR_STAT F.SYS_PWR_STAT_HUPRDY,
    next := ⟨s.ts, s.cal.sec, s.bit A.AON_CAL_STAT F.AON_CAL_STAT_VALID, banks⟩, pfDone := false, joined := false }
  let s := { s with power := p, halted := true, duo := { s.duo with stored := s.duoRole } }
  let s := (s.each 8 Dev.vnrWithdraw).recMark false false true |>.scribeMark false false true
  (s.onRec fun r => { r with halted := true }).onScribe fun c => { c with halted := true }

/-- Units that reset commands reach: at work, or in a recovery start. After t_p they are ignored (R453). -/
def Dev.resettable (s : Dev) : Bool := s.phase == .run || s.phase == .recovery

/-- PFAIL (R449, R451, R453): 6 ms of ride-through are over. A save of a reset is joined; before T_r the device halts. -/
def Dev.pfail (s : Dev) : Dev :=
  let off (s : Dev) : Dev := ((s.safPfail).safFreeze).onPower fun p => { p with phase := .off, kind := rkPowerOn }
  if s.bit A.SYS_PWR_STAT F.SYS_PWR_STAT_RIDE && decide (s.power.ride + 1500000 ≤ s.ticks + 1) then
    match s.phase with
    | .run => s.beginSave rkPowerOn true
    | .saving => s.onPower fun p => { p with joined := true }
    | .off => s
    | .held => off s
    | .starting => off s
    | .started => off s
    | .recovery => off s
  else s
def execPfail (s : State) : Out := s.go Dev.pfail

/-- Power-fail code of an analogue output (R242). -/
def Dev.aoPf (s : Dev) (m : Nat) : Word :=
  if s.bit (A.ANA_AO_CTL m) F.ANA_AO_CTL_PFM then sextHalf (s.get (A.ANA_AO_SAFE m) F.ANA_AO_SAFE_PFV) else s.aoCode m
/-- Power-fail command of a digital output (R278). -/
def Dev.dqPf (s : Dev) (n : Nat) : Word :=
  (dqStateCmd (s.get (A.DIO_DQ_CTL n) F.DIO_DQ_CTL_PFM)).getD (BitVec.ofNat 32 (s.dqCmd n))

/-- Outputs take the codes and commands named as their power-fail states. -/
def Dev.takePf (s : Dev) (ao dq : Nat → Word) : Dev :=
  let s := s.each 16 fun s m =>
    ((s.setAo m { s.ao m with pf := some (ao m) }).set (A.ANA_AO_STAT m) F.ANA_AO_STAT_PF 1).aoNew m
  s.each 32 fun s n =>
    ((s.setDq n { s.dq n with pf := some (dq n) }).set (A.DIO_DQ_STAT n) F.DIO_DQ_STAT_PF 1).dqChanged n

/-- A veneer switch that has begun completes before the engine's state is saved (R151). -/
def Dev.vnrFinish (s : Dev) : Dev :=
  (s.each 8 fun s e => s.setEng e { s.eng e with
    vnr := (s.eng e).vnr.map (fun v => { v with endTick := v.endTick.map (fun _ => s.ticks) }) }).vnrTick

/-- Step 3: power-fail states and the STO pairs, once. -/
def Dev.pfStates (s : Dev) : Dev :=
  if s.power.pfDone then s
  else (((s.takePf s.aoPf s.dqPf).safPfail).vnrFinish).onPower fun p => { p with pfDone := true }

def Dev.saveBank (s : Dev) : Nat := s.get A.SYS_START_CFG F.SYS_START_CFG_SAVEBANK

/-- Place of a line of banks 0-47 in the order of a shadow store: the save bank comes last (R451). -/
def storePos (save l : Nat) : Nat :=
  let b := l / 32768
  (if b = save then 47 else if b < save then b else b - 1) * 32768 + l % 32768

/-- Lines of banks 0-47. -/
def shadowLines : Nat := 48 * 32768

/-- The first `n` lines of a shadow store reach their shadow, all 145 bits of each (R53). -/
def Dev.shadowStore (s : Dev) (n : Nat) : Dev :=
  let sv := s.saveBank
  let takes (l : Nat) : Bool := decide (l < shadowLines) && decide (storePos sv l < n)
  s.onPool fun p => { p with
    shadow := (s.mem.filter (fun c => takes (lineOf c.1))).foldl (fun t c => tabPut memDefault t c.1 c.2)
      (p.shadow.filter (fun c => !takes (lineOf c.1))),
    shadowErrs := (p.errs.filter (fun c => takes c.1)).foldl (fun t c => tabPut 0 t c.1 c.2)
      (p.shadowErrs.filter (fun c => !takes c.1)),
    shadowPoison := (p.poison.filter (fun c => takes c.1)).foldl (fun t c => tabPut false t c.1 c.2)
      (p.shadowPoison.filter (fun c => !takes c.1)) }

/-! ## The end of a wipe (R446) -/

/-- The store is wiped: what it held is lost. -/
def Dev.wipeOver (s : Dev) : Dev :=
  let s := s.onSec fun x => { x with wipe := none }
  let s := (s.raise A.SEC_TAMP_STAT F.SEC_TAMP_STAT_WIPED).offer 0x4C 0x12 .wipeComplete
  let s := s.onSaf fun x => { x with hash := none, salt := [], log := [] }
  (s.idLost).setReg A.SEC_ATT_STAT 0

/-- STORE_WIPE_DONE (R446, R444): the wipe ends; a transition that waited for it programs its fuses and resets the device
to a COLD start. -/
def Dev.storeWipeDone (s : Dev) : Dev :=
  match s.sec.wipe with
  | none => s
  | some t =>
    if t ≤ s.ticks then
      let s := s.wipeOver
      match s.sec.target with
      | none => s
      | some k =>
        let s := (s.onSec fun x => { x with target := none }).lcsFuse k
        if s.resettable then s.beginSave rkCold false else s
    else s
def execStoreWipeDone (s : State) : Out := s.go Dev.storeWipeDone

/-- A wipe under way completes before the shadow store (R446). -/
def Dev.wipeBefore (s : Dev) : Dev := if s.sec.wipe.isSome then s.wipeOver else s

/-! ## The start of a device (R454-R459) -/

/-- Domain of a register by its key. -/
def keyDomain (k : Nat) : Option Domain := (regAt (k % 0x4000000)).map (·.dom)

/-- Every register of a domain takes its reset value (R6). -/
def Dev.resetDomain (s : Dev) (d : Domain) : Dev :=
  { s with regs := s.regs.filter (fun r => keyDomain r.1 != some d) }

/-- The shadow restore of banks 0-47; `bad` are lines whose cells yield an uncorrectable pattern (R55). -/
def Dev.shadowRestore (s : Dev) (bad : List Nat) : Dev :=
  let kept (a : Nat) : Bool := decide (48 * 0x80000 ≤ a)
  let other (l : Nat) : Bool := decide (shadowLines ≤ l)
  let q := s.pool
  let s := { s with
    mem := q.shadow.foldl (fun t c => tabPut memDefault t c.1 c.2) (s.mem.filter (fun c => kept c.1)),
    pool := { q with
      errs := q.shadowErrs.foldl (fun t c => tabPut 0 t c.1 c.2) (q.errs.filter (fun c => other c.1)),
      poison := q.shadowPoison.foldl (fun t c => tabPut false t c.1 c.2) (q.poison.filter (fun c => other c.1)) } }
  let own := (q.shadowErrs.filter (fun c => lineFind c.1 c.2 == .uncorrectable)).map (·.1)
  (own ++ bad.filter (fun l => decide (l < shadowLines))).foldl (fun s l => s.poisonLine l) s

/-- The Jig at a start (R71, R72): rows (bank, row) that fail a test it runs take spares. -/
def Dev.jigStart (s : Dev) (fails : List (Nat × Nat)) : Dev :=
  let s := s.each 80 fun s b => s.set (A.MEM_BANK_STAT b) F.MEM_BANK_STAT_SOFT 0
  let runs (b : Nat) : Bool :=
    if 48 ≤ b || s.power.kind == rkFactory then s.bit A.MEM_JIG_BOOT F.MEM_JIG_BOOT_EN else s.bit A.MEM_JIG_BOOT F.MEM_JIG_BOOT_RET
  (fails.filter (fun x => runs x.1)).foldl (fun s x => s.repairStart x.1) s

/-- Seconds since t_p of the save that this start judges (R458). -/
def Dev.offTime (s : Dev) : Word :=
  match s.power.mark with
  | some m =>
    if m.cal && s.bit A.AON_CAL_STAT F.AON_CAL_STAT_VALID then BitVec.ofNat 32 (s.cal.sec.toNat - m.sec.toNat) else 0xFFFFFFFF
  | none => 0xFFFFFFFF

/-- What the exchange, Plajo and CAN units lose at every start (R372, R389), and the seed that is due (R38). -/
def Dev.linksStart (s : Dev) : Dev :=
  let s := s.onTime fun t => { t with newAddend := none, steps := [], seedReq := true, crossed := none, fired := [], pulses := [], ppsEnd := none }
  let gated (x : EthPort) : EthPort := { EthPort.init with gates := x.gatesNew.getD x.gates, gateTt := x.gateTt }
  let s := s.onEth fun e => { e with
    ports := e.ports.foldl (fun t x => tabPut .init t x.1 (gated x.2)) [], pairs := [], macs := [], overlong := [], ptp := ⟨true, [], 0, 0, 0, 0, 0, 0⟩ }
  let s := s.onPlj fun p => { p with ports := [], keys := [], seen := [], presSent := 0, syncSent := 0, synced := false }
  let s := s.each 4 fun s p =>
    if s.pljRole p = 0 then s else s.set (A.PLJ_PORT_STAT p) F.PLJ_PORT_STAT_STATE portTraining
  { s with
    via := [], sent := [], sofBase := s.ticks,
    points := s.points.foldl (fun t x => if x.1 / 0x1000000 = 0x7F then tabPut Pt.none t x.1 { x.2 with valid := false } else t)
      s.points }

/-- The boot pins choose (R457): 0 normal, 1 recovery, 2 factory test, which BLANK alone allows, 3 reserved. -/
def Dev.bootStart (s : Dev) (boot : Nat) : Dev :=
  let a := A.SYS_START_STAT
  let s := { s with recovery := false }.set a F.SYS_START_STAT_BOOT boot
  let go (s : Dev) (ph : PwrPhase) (ty : Nat) : Dev := (s.onPower fun p => { p with phase := ph }).set a F.SYS_START_STAT_TYPE ty
  if boot = 1 then { go s .recovery 4 with recovery := true }
  else if boot = 2 && s.lifecycle == lcBlank then go s .recovery 5
  else
    let s := go s .starting 0
    if boot = 0 then s else s.raise a F.SYS_START_STAT_BOOTREF

/-- The device starts (R454, R459): domains, the hold-up store's capacity, the shadow restore at a power-on, the Jig,
system firmware. What the start type brings comes on T_r. -/
def Dev.startUp (s : Dev) (capOk : Bool) (bad : List Nat) (fails : List (Nat × Nat)) : Dev :=
  let k := s.power.kind
  let on := k == rkPowerOn
  let pw := s.reg A.SYS_PWR_STAT
  let s := { s.resetDomain .dev with
    latch := [], staged := [], bus := ⟨.idle, 0⟩, hwSet := [], swWrote := [], later := [], spRank := [], inReset := [],
    supply := [] }
  let s := s.onPool fun p => { p with
    scrubPos := [], scrubQueue := [], scrubWait := [], passCe := [], waiting := [], jig := none, jigPos := [],
    portA := none }
  let s := s.setReg A.SYS_PWR_STAT (pw &&& (if on then 0x1E else 0x7E))
  let s := if on || k == rkFactory then s.lcsRes 0 else s
  let s := if capOk then s else (s.raise A.SYS_PWR_STAT F.SYS_PWR_STAT_HUPERR).offer 0x40 0x01 .holdupLow
  let s := if on then s.shadowRestore bad else s
  let s := s.each 32 fun s b => s.zeroBank (48 + b)
  let s := if k = rkFactory then s.each 48 fun s b => s.zeroBank b else s
  let s := s.jigStart fails
  let s := s.set A.SYS_START_STAT F.SYS_START_STAT_KIND k
  let s := s.setBit A.SYS_START_STAT F.SYS_START_STAT_SAVED s.power.mark.isSome
  let s := s.setReg A.SYS_START_OFF s.offTime
  let s := { s with sysfw := if s.sysfwNext.isSome then s.sysfwNext else s.sysfw }
  let s := s.idSkip
  let s := if s.idState = idReady then s else s.setIdState (if s.fuses.idRoot then idBuilding else idNone)
  let s := s.safStart.linksStart
  let s := (s.onScribe fun c => { c with halted := false, limiters := [], started := s.ticks, offers := c.offers }).scribeMark false true false
  s.bootStart s.power.boot

/-! ## Resets (R454-R456) -/

/-- HALT (R451, R453): the save is over. `cut` is the number of lines stored when the energy ran out, which can be only
at a PFAIL that began with HUPRDY clear; the rest are findings of a start that follows at once. -/
def Dev.halt (s : Dev) (cut : Option Nat) (capOk : Bool) (bad : List Nat) (fails : List (Nat × Nat)) : Dev :=
  let p := s.power
  if s.phase == .saving && decide (p.tp + (if p.full then 500000 else 500) ≤ s.ticks) then
    let s := s.pfStates.wipeBefore
    let s := s.safFreeze
    let n := if p.pfail && !p.charged then min (cut.getD shadowLines) shadowLines else shadowLines
    let s := if !p.full then s
      else
        let s := s.shadowStore n
        if n = shadowLines then
          ((s.count A.MEM_SHADOW_STAT F.MEM_SHADOW_STAT_STORES 1)).onPower fun p => { p with mark := some p.next }
        else s
    if p.pfail then s.onPower fun p => { p with phase := .off, kind := rkPowerOn }
    else if p.kind = rkResetN && p.resetLow then s.onPower fun p => { p with phase := .held }
    else s.startUp capOk bad fails
  else s
def execHalt (cut : Option Nat) (capOk : Bool) (bad : List Nat) (fails : List (Nat × Nat)) (s : State) : Out :=
  s.go (·.halt cut capOk bad fails)

/-- POWER_GOOD (R459, R457): a feed has stood at 19.2 V for 2 ms. `boot` are the boot pins, `capOk` the measured capacity
(R450), `bad` lines whose shadow is lost, `fails` rows that the Jig finds. -/
def Dev.powerGood (s : Dev) (boot : Nat) (capOk : Bool) (bad : List Nat) (fails : List (Nat × Nat)) : Dev :=
  let stood (t : Nat) : Bool := t != 0 && decide (t + 500000 ≤ s.ticks + 1)
  if s.phase == .off && (stood s.power.goodA || stood s.power.goodB) then
    (s.onPower fun p => { p with kind := rkPowerOn, boot := boot }).startUp capOk bad fails
  else s
def execPowerGood (boot : Fin 4) (capOk : Bool) (bad : List Nat) (fails : List (Nat × Nat)) (s : State) : Out :=
  s.raw (·.powerGood boot.val capOk bad fails)

/-- RESET_N (R454): the pin has been low for 1 µs. Before T_r no state is saved. -/
def Dev.resetN (s : Dev) : Dev :=
  let low (s : Dev) : Dev := s.onPower fun p => { p with resetLow := true }
  match s.phase with
  | .run => low (s.beginSave rkResetN true)
  | .recovery => low (s.beginSave rkResetN true)
  | .starting => low (s.onPower fun p => { p with phase := .held, kind := rkResetN })
  | .started => low (s.onPower fun p => { p with phase := .held, kind := rkResetN })
  | .held => s
  | .saving => s
  | .off => s
def execResetN (s : State) : Out := s.go Dev.resetN

/-- RESET_N_RELEASE (R454, R457): the pin rises; the boot pins are sampled, and after its save the device starts. -/
def Dev.resetNRelease (s : Dev) (boot : Nat) (capOk : Bool) (bad : List Nat) (fails : List (Nat × Nat)) : Dev :=
  if s.power.resetLow then
    let s := s.onPower fun p => { p with resetLow := false, boot := boot }
    if s.phase == .held then s.startUp capOk bad fails else s
  else s
def execResetNRelease (boot : Fin 4) (capOk : Bool) (bad : List Nat) (fails : List (Nat × Nat)) (s : State) : Out :=
  s.go (·.resetNRelease boot.val capOk bad fails)

/-- DEVICE_RESET (R454): by SYS_RST_CTL, or by expiry of the supervisor cores' watchdog. -/
def Dev.deviceReset (s : Dev) (watchdog : Bool) : Dev :=
  if s.resettable then s.beginSave (if watchdog then rkWatchdog else rkDevice) true else s
def execDeviceReset (watchdog : Bool) (s : State) : Out := s.go (·.deviceReset watchdog)

/-- DEVICE_COLD_RESET (R454). -/
def Dev.coldReset (s : Dev) : Dev := if s.resettable then s.beginSave rkCold false else s
def execDeviceColdReset (s : State) : Out := s.go Dev.coldReset

/-- FACTORY_RESET (R454): taken in BLANK, PROVISIONED and SERVICE. -/
def Dev.factoryReset (s : Dev) : Dev :=
  if !s.resettable then s
  else if s.lifecycle = lcOperational || s.lifecycle = lcRetired then s.offer 0x40 0x01 .factoryIgnored
  else s.beginSave rkFactory false
def execFactoryReset (s : State) : Out := s.go Dev.factoryReset

/-! ## Unit resets (R455) -/

/-- Codes of SYS_RST_CTL.UNIT that name a unit. -/
def resetUnit (c : Nat) : Bool :=
  (decide (1 ≤ c) && decide (c ≤ 8)) || (decide (0x10 ≤ c) && decide (c ≤ 0x17)) || c == 0x20 || c == 0x21 ||
    (decide (0x30 ≤ c) && decide (c ≤ 0x32))

/-- UNIT_RESET (R455): SYS_RST_CTL.UNIT takes the code; the reset takes effect on the next tick. -/
def Dev.unitResetReq (s : Dev) (c : Nat) : Dev :=
  let s := s.set A.SYS_RST_CTL F.SYS_RST_CTL_UNIT c
  if s.resettable && resetUnit c then s.after (.unitReset c) else s
def execUnitReset (code : BitVec 8) (s : State) : Out := s.go (·.unitResetReq code.toNat)

/-- An engine's runtime state is cleared. -/
def Dev.engineReset (s : Dev) (e : Nat) : Dev :=
  (s.enterStop e 0).each 16 fun s t =>
    ((s.setTask e t Task.idle).setTaskState e t tsIdle).set (A.PE_TASK_STAT e t) F.PE_TASK_STAT_PEND 0

/-- A tile's slots are OFF, requests and updates under way are gone. -/
def Dev.tileReset (s : Dev) (n : Nat) : Dev :=
  let s := s.each 64 fun s k =>
    let g := 64 * n + k
    let s := if s.slotMode g = 0 then s else s.setSlotMode g 0 false
    let s := (s.slotSetPend g 0).set (slotStat g) F.LT_SLOT_STAT_GLUW 0
    if (s.loop g) = Loop.idle then s else s.onLoop g fun l => { l with upd := none, wr := none, policy := false, dest := none }
  s.onTile n fun t => { t with busy := 0, flights := [] }

/-- The mailbox unit's queues, held notices and page requests are gone, and their pages freed. -/
def Dev.mailReset (s : Dev) : Dev :=
  let s := s.each 64 fun s m => s.each 2 fun s e =>
    let s := (s.mend m e).queue.foldl (fun s x => s.freeNotice m x.handle) (s.mbxFreeHeld m e)
    { s with mbx := tabPut MbxEnd.init s.mbx (m * 2 + e) MbxEnd.init }
  { s with acks := [] }.onPool fun p => { p with pageReqs := p.pageReqs.filter (fun r => r.kind != 0) }

/-- The reset of one unit takes effect. -/
def Dev.unitReset (s : Dev) (c : Nat) : Dev :=
  if 1 ≤ c && c ≤ 8 then (s.engineReset (c - 1)).mbxReset c
  else if 0x10 ≤ c && c ≤ 0x17 then s.tileReset (c - 0x10)
  else if c = 0x20 || c = 0x21 then
    let u := c - 0x20
    let s := s.each 8 fun s k => (s.ctxIdle (8 * u + k)).mbxReset (0x40 + 8 * u + k)
    { s with fetches := tabPut [] s.fetches u [] }
  else if c = 0x30 then s.onRec fun r => { r with found := [], trigs := [], acting := [], queue := [] }
  else if c = 0x31 then (s.onScribe fun x => { x with offers := [], queue := [], linesDone := 0 }).setQlevel
  else if c = 0x32 then s.mailReset.mbxReset c
  else s

/-- AON_RESET (R6, R454): without either feed and VBAT the always-on domain is reset; the rest of the device is reset by
the start that must follow. -/
def Dev.aonReset (s : Dev) : Dev :=
  if s.feedPresent then s
  else (s.resetDomain .aon).onCal fun c => { c with sec := 0, tick := 0, commit := none, writeback := none }
def execAonReset (s : State) : Out := s.raw Dev.aonReset

end Sys2Proof.Machine
end

