-- ==== Sys2Proof/Machine/SecCmd.lean ====
section
/-! DEFINITION. The commands of the security block (chapter 21). -/

namespace Sys2Proof.Machine

/-- A SEC access during a wipe of the store gets a bus error (R446). -/
def Dev.secGate (s : Dev) (req : Nat) (f : Dev → Dev) : Dev :=
  if s.sec.wipe.isSome then s.answer (if req ≤ 1 then .completerAbort else .busError) 0 else (f s).answer .ok 0

/-- A write of SEC_KEY_CTL (R439): OP, SLOT and PAGE are taken from the write that sets GO. -/
def Dev.keyCtl (s : Dev) (v : Word) : Dev :=
  let a := A.SEC_KEY_CTL
  let op := F.SEC_KEY_CTL_OP.of v
  let s := if F.SEC_KEY_CTL_OP.isLegal op then s.set a F.SEC_KEY_CTL_OP op else s
  let s := (s.set a F.SEC_KEY_CTL_SLOT (F.SEC_KEY_CTL_SLOT.of v)).set a F.SEC_KEY_CTL_PAGE (F.SEC_KEY_CTL_PAGE.of v)
  if F.SEC_KEY_CTL_GO.of v = 0 then s
  else if op = 1 then s.keyEnrol (F.SEC_KEY_CTL_SLOT.of v) (F.SEC_KEY_CTL_PAGE.of v)
  else if op = 2 then s.keyRevoke (F.SEC_KEY_CTL_SLOT.of v) (F.SEC_KEY_CTL_PAGE.of v)
  else s

/-- The word of SEC_KEY_CTL that asks for an operation on a slot with a page. -/
def keyCtlWord (op slot page : Nat) : Word := BitVec.ofNat 32 (2 ^ 31 + op * 2 ^ 18 + slot * 2 ^ 16 + page)

/-- KEY_ENROL (R439). -/
def execKeyEnrol (req : Fin 15) (slot : Fin 4) (page : BitVec 14) (s : State) : Out :=
  s.go (·.secGate req.val (·.keyCtl (keyCtlWord 1 slot.val page.toNat)))
/-- KEY_REVOKE (R439). -/
def execKeyRevoke (req : Fin 15) (slot : Fin 4) (page : BitVec 14) (s : State) : Out :=
  s.go (·.secGate req.val (·.keyCtl (keyCtlWord 2 slot.val page.toNat)))

/-- A write of SEC_ATT_CTL (R442). -/
def Dev.attCtl (s : Dev) (v : Word) : Dev :=
  let s := s.set A.SEC_ATT_CTL F.SEC_ATT_CTL_PAGE (F.SEC_ATT_CTL_PAGE.of v)
  if F.SEC_ATT_CTL_GO.of v = 1 then s.attest (F.SEC_ATT_CTL_PAGE.of v) else s
/-- ATTEST (R442). -/
def execAttest (req : Fin 15) (page : BitVec 14) (s : State) : Out :=
  s.go (·.secGate req.val (·.attCtl (BitVec.ofNat 32 (2 ^ 31 + page.toNat))))

/-- A write of SEC_LCS_CTL (R444). -/
def Dev.lcsCtl (s : Dev) (v : Word) : Dev :=
  let a := A.SEC_LCS_CTL
  let t := F.SEC_LCS_CTL_TARGET.of v
  let s := if F.SEC_LCS_CTL_TARGET.isLegal t then s.set a F.SEC_LCS_CTL_TARGET t else s
  let s := s.set a F.SEC_LCS_CTL_PAGE (F.SEC_LCS_CTL_PAGE.of v)
  if F.SEC_LCS_CTL_GO.of v = 1 then s.lcsRequest t (F.SEC_LCS_CTL_PAGE.of v) else s
/-- LCS_TRANSITION (R444). -/
def execLcsTransition (req : Fin 15) (target : Fin 8) (page : BitVec 14) (s : State) : Out :=
  s.go (·.secGate req.val (·.lcsCtl (BitVec.ofNat 32 (2 ^ 31 + target.val * 2 ^ 20 + page.toNat))))

/-- ID_BUILD_DONE (R440): the identity tree stands and hashes to the fused value (`ok`), or not. -/
def Dev.idBuildDone (s : Dev) (ok : Bool) : Dev :=
  if s.idState = idBuilding then (s.setIdState (if ok then idReady else idFailed)).idSkip else s
def execIdBuildDone (ok : Bool) (s : State) : Out := s.go (·.idBuildDone ok)

/-- TAMPER (R445): source 0 lid, 1 glitch detector, 2 die temperature. -/
def execTamper (src : Fin 3) (s : State) : Out := s.raw (·.tamper src.val)

end Sys2Proof.Machine
end

