-- ==== Sys2Proof/Machine/TimeCmd.lean ====
section
/-! DEFINITION. The commands of the time unit and the calendar (chapter 2). COMPARATOR_FIRE and CAPTURE_EDGE, which
reach many units, stand in Fire.lean. -/

namespace Sys2Proof.Machine

/-- TIME_NOW_READ (R51): the low word now; TIME_NOW_HI and the three TOD registers are latched for the requester. -/
def Dev.timeNowRead (s : Dev) (req : Nat) : Dev :=
  let t := s.time.ts.toNat
  let sec := t / second
  let put (l : Tab (Option Word)) (a v : Nat) := tabPut none l (reqKey req a) (some (BitVec.ofNat 32 v))
  let l := put s.latch A.TIME_NOW_HI (t / 2 ^ 32)
  let l := put (put (put l A.TIME_TOD_SEC_LO sec) A.TIME_TOD_SEC_HI (sec / 2 ^ 32)) A.TIME_TOD_NS (t % second)
  ({ s with latch := l }).answerWord s.ts32

def execTimeNowRead (req : Fin 15) (s : State) : Out := s.go (·.timeNowRead req.val)

/-- ADDEND_COMMIT (R32, R10). -/
def execAddendCommit (req : Fin 15) (v : Word) (s : State) : Out := s.go (·.addendCommit req.val v)

/-- TIME_STEP (R33). -/
def execTimeStep (req : Fin 15) (v : Word) (s : State) : Out := s.go (·.timeStep req.val v)

/-- OFS_EST_WRITE (R35): the estimate, and OFFSYNC after it. -/
def Dev.ofsEstWrite (s : Dev) (v : Word) : Dev := (s.setReg A.TIME_OFS_EST v).setOffsync
def execOfsEstWrite (v : Word) (s : State) : Out := s.go (·.ofsEstWrite v)

/-- SEED (R38): the seed comes on the first crystal edge after the write. -/
def Dev.seed (s : Dev) : Dev := s.onTime fun t => { t with seedReq := true }
def execSeed (s : State) : Out := s.go Dev.seed

/-- SEED_APPLY (R38). -/
def execSeedApply (s : State) : Out := s.go Dev.seedApply

/-- CAL_COMMIT (R37, R10): the staged low seconds, else those in force, with the high seconds written; taken on the next
crystal edge. -/
def Dev.calCommit (s : Dev) (req : Nat) (v : Word) : Dev :=
  let (lo, s) := s.takeStaged req A.AON_CAL_SEC_LO (s.cal.sec.setWidth 32)
  s.onCal fun c => { c with commit := some ((v.setWidth 16 : BitVec 16) ++ lo) }
def execCalCommit (req : Fin 15) (v : Word) (s : State) : Out := s.go (·.calCommit req.val v)

/-- CAL_LOAD (R37). -/
def execCalLoad (s : State) : Out := s.go Dev.calLoad

/-- CAL_TICK_READ (R37): TICK as it stands; both second registers are latched for the requester. -/
def Dev.calTickRead (s : Dev) (req : Nat) : Dev :=
  let l := tabPut none s.latch (reqKey req A.AON_CAL_SEC_LO) (some (s.cal.sec.setWidth 32))
  let l := tabPut none l (reqKey req A.AON_CAL_SEC_HI) (some ((s.cal.sec >>> 32).setWidth 32))
  ({ s with latch := l }).answerWord (s.cal.tick.setWidth 32)
def execCalTickRead (req : Fin 15) (s : State) : Out := s.go (·.calTickRead req.val)

/-- SECOND_CROSSING (R47, R40, R307, R325): once for the second crossed on this tick. -/
def Dev.secondCrossing (s : Dev) : Dev :=
  match s.time.crossed with
  | some sec => s.secondCrossed sec
  | none => s
def execSecondCrossing (s : State) : Out := s.go Dev.secondCrossing

/-- CAL_WRITEBACK (R40). -/
def execCalWriteback (s : State) : Out := s.go Dev.calWriteback

/-- PPS_FALL (R47): the pin falls when its width has passed. -/
def Dev.ppsFall (s : Dev) : Dev :=
  match s.time.ppsEnd with
  | some e => if e ≤ s.ticks then s.onTime fun t => { t with ppsEnd := none } else s
  | none => s
def execPpsFall (s : State) : Out := s.go Dev.ppsFall

/-- TRG_OUT_PULSE_END (R46): the pulse of comparator `n` is over. -/
def Dev.trgOutEnd (s : Dev) (n : Nat) : Dev :=
  if (tabGet (4, 0) s.time.pulses n).2 ≤ s.ticks then s.onTime fun t => { t with pulses := tabPut (4, 0) t.pulses n (4, 0) }
  else s
def execTrgOutPulseEnd (n : Fin 64) (s : State) : Out := s.go (·.trgOutEnd n.val)

/-- CU_POP (R49): the head stamp leaves; nothing on an empty queue. A stamp of the same tick that found the queue full is
kept, because the POP comes before it. -/
def Dev.cuPop (s : Dev) (n : Nat) : Dev :=
  let s := s.setCuQueue n ((s.cuQueue n).drop 1)
  match s.time.cuOver.find? (fun p => p.1 == n) with
  | some p => (s.onTime fun t => { t with cuOver := t.cuOver.erase p }).cuPut n p.2
  | none => s
def execCuPop (n : Fin 32) (s : State) : Out := s.go (·.cuPop n.val)

/-- CU_CLR (R49): the queue empties and LOST is cleared. -/
def Dev.cuClr (s : Dev) (n : Nat) : Dev :=
  ((s.setCuQueue n []).set (A.TIME_CU_STAT n) F.TIME_CU_STAT_LOST 0).onTime fun t =>
    { t with cuOver := t.cuOver.filter (·.1 != n) }
def execCuClr (n : Fin 32) (s : State) : Out := s.go (·.cuClr n.val)

/-- COMMIT_HI (R10): by the pair. A comparator's commit clears MISS (TIME_TT_CMP) and is judged for LATE (R42). -/
def Dev.commitHi (s : Dev) (req off : Nat) (v : Word) : Dev :=
  let lo := off - 4
  if off = A.TIME_ADDEND_HI then s.addendCommit req v
  else if off = A.TIME_STEP_HI then s.timeStep req v
  else if off = A.AON_CAL_SEC_HI then s.calCommit req v
  else
    match regAt lo with
    | some d =>
      if !d.pair || !(d.fields.any (fun f => f.kind == .own)) then s
      else
        let s := (s.noteWrite req off).commitPair req lo v
        if 0x581000 ≤ lo && lo < 0x581800 then
          let n := (lo - 0x581000) / 0x20
          (s.setReg (A.TIME_TT_MISS n) 0).ttJudgeLate n
        else s
    | none => s

end Sys2Proof.Machine
end

