-- ==== Sys2Proof/Machine/Bus.lean ====
section
/-! DEFINITION. Register accesses over a bus (R5-R10, R22-R24, R51, R398, R428-R430): what a write to any offset does and
what a read of any offset gives, block by block, and the commands that are such accesses. -/

namespace Sys2Proof.Machine

/-! ## Writes by block. `d` is the register, `i` and `j` its indices. -/

/-- The selected entry's force registers and the reset register. -/
def Dev.sysWrite (s : Dev) (acc : Acc) (d : RegDesc) (i off : Nat) (v : Word) : Dev :=
  let r := acc.req.val
  if off = A.SYS_UVIOL_LAST then (if F.SYS_UVIOL_LAST_CLR.of v = 1 then s.uviolClr else s)
  else if d.base = A.SYS_MMAP 0 then s.mmapWrite i v
  else if off = A.SYS_FRC_CTL && acc.pview && F.SYS_FRC_CTL_OP.of v != 0 then
    if F.SYS_FRC_CTL_OP.of v = 1 then s.forceEnable r v
    else if F.SYS_FRC_CTL_OP.of v = 2 then s.forceUpdate r v
    else (s.frcStage r v).forceClear r
  else if off = A.SYS_RST_CTL then
    let k := F.SYS_RST_CTL_KIND.of v
    let s := s.set A.SYS_RST_CTL F.SYS_RST_CTL_UNIT (F.SYS_RST_CTL_UNIT.of v)
    if k = 1 then s.deviceReset false
    else if k = 2 then s.coldReset
    else if k = 3 then s.factoryReset
    else if k = 4 then s.unitResetReq (F.SYS_RST_CTL_UNIT.of v)
    else s
  else s.plain acc d off v

/-- The calendar (R37): seconds are staged and committed. -/
def Dev.aonWrite (s : Dev) (acc : Acc) (d : RegDesc) (off : Nat) (v : Word) : Dev :=
  if off = A.AON_CAL_SEC_LO then s.stageLo acc.req.val off v
  else if off = A.AON_CAL_SEC_HI then s.calCommit acc.req.val v
  else s.plain acc d off v

/-- The security block, which a wipe keeps from its bus (R446). -/
def Dev.secWrite (s : Dev) (acc : Acc) (d : RegDesc) (off : Nat) (v : Word) : Dev :=
  s.secGate acc.req.val fun s =>
    if off = A.SEC_LCS_CTL then s.lcsCtl v
    else if off = A.SEC_KEY_CTL then s.keyCtl v
    else if off = A.SEC_ATT_CTL then s.attCtl v
    else s.plain acc d off v

/-- The bank pool: ownership and the Jig. -/
def Dev.memRegWrite (s : Dev) (acc : Acc) (d : RegDesc) (i off : Nat) (v : Word) : Dev :=
  if d.base = A.MEM_BANK_CTL 0 then s.ownerWrite i v
  else if off = A.MEM_JIG_CTL && F.MEM_JIG_CTL_GO.of v == 1 then s.jigGo v
  else s.plain acc d off v

/-- The mailbox channels (R417-R423): each endpoint's own registers. CFGERR stands once per channel. -/
def Dev.mbxWrite (s : Dev) (acc : Acc) (d : RegDesc) (m off : Nat) (v : Word) : Dev :=
  let r := acc.req.val
  if d.base = A.MBX_CH_CFG 0 then s.chCfgWrite m v
  else if d.base = A.MBX_POST_TAG 0 then s.postTag acc m v
  else if d.base = A.MBX_RX_CTL 0 then
    let s := if F.MBX_RX_CTL_TAKE.of v = 1 then s.takeCmd r m else s
    if F.MBX_RX_CTL_REL.of v = 1 then s.relCmd r m else s
  else if d.base = A.MBX_STAT 0 then
    let a := A.MBX_STAT m
    if F.MBX_STAT_CFGERR.of v = 0 then s
    else if acc.pview then s.setReg a (fieldWrite true false false (tabGet 0 s.hwSet a) v (s.reg a) F.MBX_STAT_CFGERR)
    else s.violation off true
  else if d.base = A.MBX_PAGE 0 then (if F.MBX_PAGE_ALLOC.of v = 1 then s.allocCmd r m else s)
  else s.plain acc d off v

/-- A write of PE_DBG (R91, R92): STEP lets the engine execute one instruction of its held task, CYC all up to the end of
its forces phase. The instructions themselves come as the commands of HiWard-L. -/
def Dev.dbgWrite (s : Dev) (e : Nat) (cyc : Bool) : Dev :=
  if s.peMode e = 2 && s.lcs != 2 && (s.task e (s.get (A.PE_STAT e) F.PE_STAT_TASK)).phase == .execute then
    s.setEng e { s.eng e with step := if cyc then 2 else 1 }
  else s

/-- The program engines: requests, code halves, regions, tasks, breakpoints. -/
def Dev.peWrite (s : Dev) (acc : Acc) (d : RegDesc) (e k off : Nat) (v : Word) : Dev :=
  if d.base = A.PE_CTL 0 then
    let s := s.plain acc d off v
    let q := F.PE_CTL_REQ.of v
    if q = 1 then s.reqRun e else if q = 2 then s.reqStop e false else if q = 3 then s.reqHold e false else s
  else if d.base = A.PE_CODE 0 then (s.codeAct e v).codeVen e v
  else if d.base = A.PE_DBG 0 then
    if F.PE_DBG_CYC.of v = 1 then s.dbgWrite e true
    else if F.PE_DBG_STEP.of v = 1 then s.dbgWrite e false
    else s
  else if d.base = A.PE_BRK 0 0 then s.brkWrite e k v
  else if d.base = A.PE_VNR_CTL 0 then
    let q := F.PE_VNR_CTL_REQ.of v
    if q = 1 then s.vnrRequest e false else if q = 2 then s.vnrRequest e true else if q = 3 then s.vnrWithdraw e else s
  else if d.base = A.PE_IREG 0 0 then s.regionWrite e false k v
  else if d.base = A.PE_QREG 0 0 then s.regionWrite e true k v
  else if d.base = A.PE_TCRES 0 then s.tcresWrite e v
  else if d.base = A.PE_FAULT 0 then
    let s := s.plain acc d off v
    if acc.pview then s.setReg (A.PE_FAULT_INFO e) 0 else s
  else if d.base = A.PE_TASK_CTL 0 0 then s.taskEnable e k v
  else if d.base = A.PE_TASK_MASK 0 0 then s.taskMaskWrite e k v
  else s.plain acc d off v

/-- The loop tiles. A slot register's word number is its offset in the slot's 0x100 bytes. -/
def Dev.ltWrite (s : Dev) (acc : Acc) (d : RegDesc) (n k off : Nat) (v : Word) : Dev :=
  if d.base = A.LT_CFG 0 then s.ltBankWrite n v
  else if 0x210000 ≤ d.base then s.plain acc d off v
  else
    let g := n * 64 + k
    let w := (d.base - 0x200000) / 4
    if w < 32 then s.descriptorWrite acc.req.val g w v
    else if w < 40 then
      if w % 2 = 0 then s.stageLo acc.req.val off v else s.descriptorWrite acc.req.val g (32 + (w - 32) / 2) v
    else if d.base = A.LT_SLOT_CTL 0 0 then s.slotCtlWrite g v
    else if d.base = A.LT_SLOT_HLO 0 0 then s.hardLimitWrite g false v
    else if d.base = A.LT_SLOT_HHI 0 0 then s.hardLimitWrite g true v
    else if d.base = A.LT_SLOT_FBCMD 0 0 then (if F.LT_SLOT_FBCMD_GO.of v = 1 then s.fbcmdGo g else s)
    else if !(s.tile n).accepted then s.slotDo g (·.slotRefuse g F.LT_SLOT_STAT_CFGERR)
    else if d.base = A.LT_SLOT_DLY 0 0 then (if acc.pview then s.set off F.LT_SLOT_DLY_MAX 0 else s)
    else if d.base = A.LT_SLOT_STAT 0 0 then
      let s := s.slotDo g (·.plain acc d off v)
      if acc.pview && F.LT_SLOT_STAT_CCLR.of v == 1 then s.cclr g else s
    else s.slotDo g (·.plain acc d off v)

/-- The sequencer units. -/
def Dev.seqWrite (s : Dev) (acc : Acc) (d : RegDesc) (n off : Nat) (v : Word) : Dev :=
  if d.base = A.SEQ_CTX_PROG 0 then s.progWrite n v
  else if d.base = A.SEQ_CTX_CTL 0 then
    let q := F.SEQ_CTX_CTL_REQ.of v
    let s := s.plain acc d off v
    if 1 ≤ q && q ≤ 5 then s.ctxRequest n q else s
  else if d.base = A.SEQ_UNIT_CFG 0 then s.seqBankWrite n v
  else s.plain acc d off v

/-- A write that R221 takes only in BUILD. -/
def Dev.inBuild (s : Dev) (n : Nat) (f : Dev → Dev) : Dev := if s.gluState n = gsBuild then f s else s.gluCmdErr n

/-- The glue-up slots (R213-R221): a command of a write comes before its other fields (log 32). -/
def Dev.gluWrite (s : Dev) (acc : Acc) (d : RegDesc) (n j off : Nat) (v : Word) : Dev :=
  let r := acc.req.val
  let stage (s : Dev) : Dev := (s.plain acc d off v).onGlu n fun g => { g with staged := tabPut 0 g.staged j (r + 1) }
  if d.base = A.GLU_CTL 0 then
    let a := A.GLU_CTL n
    let c := F.GLU_CTL_CMD.of v
    let s := if c = 1 then s.gluBuild n else if c = 2 then s.gluLaunch n none else if c = 3 then s.gluCancel n
      else if c = 4 then s.gluFree n else s
    let w := s.written acc d off v
    let s := (s.set a F.GLU_CTL_RWIN (F.GLU_CTL_RWIN.of w)).noteWrite r a
    if F.GLU_CTL_NSTG.of w = s.get a F.GLU_CTL_NSTG && F.GLU_CTL_NPART.of w == s.get a F.GLU_CTL_NPART then s
    else s.inBuild n fun s => (s.set a F.GLU_CTL_NSTG (F.GLU_CTL_NSTG.of w)).set a F.GLU_CTL_NPART (F.GLU_CTL_NPART.of w)
  else if d.base = A.GLU_T_LO 0 then s.stageLo r off v
  else if d.base = A.GLU_T_HI 0 then s.inBuild n (·.commitHi r off v)
  else if d.base = A.GLU_MARGIN 0 then s.inBuild n (·.plain acc d off v)
  else if d.base = A.GLU_PART 0 0 then s.inBuild n (·.plain acc d off v)
  else if d.base = A.GLU_STG_H 0 0 then
    if validHandle v && (hclass v == 0x20 || hclass v == 0x08) then s.inBuild n stage else s.gluCmdErr n
  else if d.base = A.GLU_STG_V 0 0 then s.inBuild n stage
  else s.plain acc d off v

/-- Converters and analogue outputs. -/
def Dev.anaWrite (s : Dev) (acc : Acc) (d : RegDesc) (n k off : Nat) (v : Word) : Dev :=
  let r := acc.req.val
  if d.base = A.ANA_CTL 0 then s.anaCtlWrite n v
  else if d.base = A.ANA_ENT 0 0 then s.entWrite n k v
  else if d.base = A.ANA_AO_CTL 0 then (s.plain acc d off v).aoHclm r n (F.ANA_AO_CTL_HCLM.of v == 1)
  else if d.base = A.ANA_AO_VAL 0 then (s.deliver (writerOf r) (aoHandle n) ⟨sextHalf (F.ANA_AO_VAL_CODE.of v), true⟩).1
  else s.plain acc d off v

/-- A position channel refuses a write. -/
def Dev.posRefuse (s : Dev) (n : Nat) : Dev := s.raise (A.POS_STAT n) F.POS_STAT_CFGERR

/-- Position channels: a write of POS_PUB restarts the grid of publications (R247); AMPLO above AMPHI, and a port in use
by another channel (R257), are refused. -/
def Dev.posWrite (s : Dev) (acc : Acc) (d : RegDesc) (n off : Nat) (v : Word) : Dev :=
  let w := s.written acc d off v
  if d.base = A.POS_CTL 0 then s.posCtlWrite n v
  else if d.base = A.POS_PUB 0 then (s.plain acc d off v).onPos n fun p => { p with pubBase := s.ticks }
  else if d.base = A.POS_AMP 0 then
    if F.POS_AMP_AMPHI.of w < F.POS_AMP_AMPLO.of w then s.posRefuse n else s.plain acc d off v
  else if d.base = A.POS_VLOW 0 then
    if Fl.lt (.num false 0 0) (d32 v) && (d32 v).isFinite then s.plain acc d off v else s.posRefuse n
  else if d.base = A.POS_SSI 0 then
    let taken := (upto 16).any fun m =>
      m != n && s.bit (A.POS_SSI m) F.POS_SSI_EN && s.get (A.POS_SSI m) F.POS_SSI_PORT == F.POS_SSI_PORT.of w
    if F.POS_SSI_EN.of w = 1 && taken then s.posRefuse n else s.plain acc d off v
  else if d.base = A.POS_CMD 0 then
    let s := if F.POS_CMD_CLR.of v = 1 then s.after (.posClr n) else s
    if F.POS_CMD_SETP.of v = 1 then s.posSetp n else s
  else s.plain acc d off v

/-- Inputs and outputs at 24 V. -/
def Dev.dioWrite (s : Dev) (acc : Acc) (d : RegDesc) (n off : Nat) (v : Word) : Dev :=
  let r := acc.req.val
  if d.base = A.DIO_DIG_CTL 0 then s.digCtlWrite n v
  else if d.base = A.DIO_DI_CTL 0 then (s.plain acc d off v).diBrkStart n (s.bit off F.DIO_DI_CTL_BRKEN)
  else if d.base = A.DIO_DQ_CTL 0 then (s.plain acc d off v).dqHclm r n (F.DIO_DQ_CTL_HCLM.of v == 1)
  else if d.base = A.DIO_DQ_VAL 0 then (s.deliver (writerOf r) (dqHandle n) ⟨BitVec.ofNat 32 (F.DIO_DQ_VAL_CMD.of v), true⟩).1
  else if d.base = A.DIO_DQ_CMD 0 then (if F.DIO_DQ_CMD_RST.of v = 1 then s.dqRst n else s)
  else s.plain acc d off v

/-- A watched handle and its format are allowed (R315, R302). -/
def Dev.condOk (s : Dev) (h : Word) (fmt : Nat) : Bool :=
  validHandle h && hclass h != 0x7F && (fmt == 3 || fmtAllowed (s.kind h) fmt)

/-- REC_CTL (R310, R315, R317, R321): MODE and SINK move only while EN is 0, then EN, then the command. -/
def Dev.recCtlWrite (s : Dev) (v : Word) : Dev :=
  let a := A.REC_CTL
  let s :=
    if F.REC_CTL_EN.of v = 1 then s.recEnable v
    else
      let s := if s.recEnabled then
          if F.REC_CTL_MODE.of v = s.get a F.REC_CTL_MODE && F.REC_CTL_SINK.of v == s.get a F.REC_CTL_SINK then s else s.recCfgErr
        else (s.set a F.REC_CTL_MODE (F.REC_CTL_MODE.of v)).set a F.REC_CTL_SINK (F.REC_CTL_SINK.of v)
      if s.recEnabled then s.recDisable else s
  let c := F.REC_CTL_CMD.of v
  if c = 1 then s.recArm else if c = 2 then s.after .softTrig else if c = 3 then s.recClrcnt else s

/-- A host buffer of this many pages is allowed (R312). -/
def hbSizeOk (n : Nat) : Bool := (upto 16).any (fun k => n == 2 ^ k)

/-- The signal recorder. -/
def Dev.recWrite (s : Dev) (acc : Acc) (d : RegDesc) (i off : Nat) (v : Word) : Dev :=
  let idle := !s.recEnabled
  let hbFree := idle || s.bit A.REC_CTL F.REC_CTL_SINK
  if off = A.REC_CTL then s.recCtlWrite v
  else if off = A.REC_RING then (if idle then s.plain acc d off v else s.recCfgErr)
  else if off = A.REC_PRE || off = A.REC_POST then
    if idle || s.recState == recArmed || s.recState == recDone then s.plain acc d off v else s.recCfgErr
  else if d.base = A.REC_COND_HND 0 then
    if s.condOk v (s.get (A.REC_COND_CFG i) F.REC_COND_CFG_FMT) then
      (s.plain acc d off v).onRec fun r => { r with prevCond := tabPut none r.prevCond i none }
    else s.recCfgErr
  else if d.base = A.REC_COND_CFG 0 then
    let h := s.reg (A.REC_COND_HND i)
    if h = 0 || s.condOk h (F.REC_COND_CFG_FMT.of v) then s.plain acc d off v else s.recCfgErr
  else if off = A.REC_HB_BASE_LO then s.stageLo acc.req.val off v
  else if off = A.REC_HB_BASE_HI then
    if hbFree then
      let s := s.commitHi acc.req.val off v
      s.setReg A.REC_HB_BASE_LO (s.reg A.REC_HB_BASE_LO &&& 0xFFFFF000)
    else s.recCfgErr
  else if off = A.REC_HB_SIZE then (if hbFree && hbSizeOk (v.toNat % 65536) then s.plain acc d off v else s.recCfgErr)
  else if off = A.REC_HB_RD then s.hbRdWrite v
  else if d.base = A.REC_ENR_HND 0 then
    if acc.pview && s.bit (A.REC_ENR_CFG i) F.REC_ENR_CFG_EN then s else s.plain acc d off v
  else if d.base = A.REC_ENR_CFG 0 then s.recEnrol acc i v
  else s.plain acc d off v

/-- The Scribe. A clear of a write of EVR_CTL comes before its EN. -/
def Dev.evrWrite (s : Dev) (acc : Acc) (d : RegDesc) (i off : Nat) (v : Word) : Dev :=
  let r := acc.req.val
  if off = A.EVR_CTL then
    let s := if F.EVR_CTL_CLR.of v = 1 then s.evrClr r else s
    s.evrEnable (F.EVR_CTL_EN.of v == 1)
  else if off = A.EVR_CFG then
    let (s', v') := s.evrCfgGuard v
    s'.plain acc d off v'
  else if off = A.EVR_CURSOR then s.setReg (reqKey r off) v
  else if d.base = A.EVR_LIM_CFG 0 then s.limCfgWrite i v
  else if d.base = A.EVR_LMAP 0 then
    if F.EVR_LMAP_LIM.of v = 0 || i < 0x10 || (0xB0 ≤ i && i ≤ 0xBF) then s else s.plain acc d off v
  else s.plain acc d off v

/-- The CAN channels. A cancel over the bus names no state of the bus: the head has not started (log 38). -/
def Dev.cnWrite (s : Dev) (acc : Acc) (d : RegDesc) (n k off : Nat) (v : Word) : Dev :=
  let w := s.written acc d off v
  if d.base = A.CN_CTL 0 then s.canCtlWrite n v
  else if d.base = A.CN_BTR_N 0 then s.canBtrWrite n off w 80
  else if d.base = A.CN_BTR_D 0 then s.canBtrWrite n off w 10
  else if d.base = A.CN_ERR 0 then
    if acc.pview && s.canMode n != canConfig && F.CN_ERR_TDCO.of v != s.get (A.CN_ERR n) F.CN_ERR_TDCO then s.canCfgErr n
    else s.plain acc d off v
  else if d.base = A.CN_TXCMD 0 then
    let tag := F.CN_TXCMD_TAG.of v
    let s := if F.CN_TXCMD_PUSH.of v = 1 then s.canPush n tag else s
    let s := if F.CN_TXCMD_CANCEL.of v = 1 then s.canCancel n tag 0 0 else s
    let s := if F.CN_TXCMD_DPOP.of v = 1 then s.canDpop n else s
    if F.CN_TXCMD_RECOVER.of v = 0 then s else if acc.pview then s.canRecover n else s.violation off true
  else if d.base = A.CN_RXCMD 0 then (if F.CN_RXCMD_POP.of v = 1 then s.canPop n else s)
  else if d.base = A.CN_FLT_CFG 0 0 then (s.plain acc d off v).canFltWrite n k
  else if d.base = A.CN_FLD_CFG 0 0 then s.canFldWrite n k v
  else s.plain acc d off v

/-- The exchange unit. -/
def Dev.ethWrite (s : Dev) (acc : Acc) (d : RegDesc) (i off : Nat) (v : Word) : Dev :=
  if d.base = A.ETH_PORT_CTL 0 then (s.plain acc d off v).portModeWrite i (F.ETH_PORT_CTL_MODE.of v)
  else if off = A.ETH_PTP_CFG then s.ptpCfgWrite v
  else if d.base = A.ETH_PAIR_CTL 0 then s.pairCtlWrite i v
  else if d.base = A.ETH_RXO_MAC_LO 0 then s.stageLo acc.req.val off v
  else if d.base = A.ETH_RXO_MAC_HI 0 then s.commitHi acc.req.val off v
  else if d.base = A.ETH_RXO_CFG 0 then (s.plain acc d off v).rxoWrite i
  else if d.base = A.ETH_FLD_CFG 0 then s.ethFldWrite i v
  else s.plain acc d off v

/-- The time unit. -/
def Dev.timeWrite (s : Dev) (acc : Acc) (d : RegDesc) (i off : Nat) (v : Word) : Dev :=
  let r := acc.req.val
  if off = A.TIME_CTL then
    let s := (s.plain acc d off v).setOffsync
    if F.TIME_CTL_SEED.of v = 1 then s.seed else s
  else if off = A.TIME_ADDEND_LO || off = A.TIME_STEP_LO || d.base = A.TIME_TT_CMP_LO 0 then s.stageLo r off v
  else if off = A.TIME_ADDEND_HI || off = A.TIME_STEP_HI || d.base = A.TIME_TT_CMP_HI 0 then s.commitHi r off v
  else if off = A.TIME_OFS_EST then s.ofsEstWrite v
  else if d.base = A.TIME_TT_CTL 0 then (s.plain acc d off v).ttJudgeLate i
  else if d.base = A.TIME_CU_CTL 0 then
    let s := s.plain acc d off v
    let s := if F.TIME_CU_CTL_CLR.of v = 1 then s.cuClr i else s
    if F.TIME_CU_CTL_POP.of v = 1 then s.cuPop i else s
  else s.plain acc d off v

/-- Plajo Link. -/
def Dev.pljWrite (s : Dev) (acc : Acc) (d : RegDesc) (i off : Nat) (v : Word) : Dev :=
  if off = A.PLJ_CFG then
    let s := s.plain acc d off v
    s.pljLock (s.bit A.PLJ_STAT F.PLJ_STAT_SLOCK)
  else if d.base = A.PLJ_PORT_CTL 0 then s.pljRoleWrite i (F.PLJ_PORT_CTL_ROLE.of v)
  else if d.base = A.PLJ_MBX_ROUTE 0 then s.routeWrite i v
  else if d.base = A.PLJ_SEGT_CFG 0 then s.segtWrite i v
  else if d.base = A.PLJ_SEGT_RHND 0 then s.segtRhndWrite i v
  else s.plain acc d off v

/-- The journal bank that EN needs (DUO_JCFG). -/
def Dev.journalOk (s : Dev) (b : Nat) : Bool := decide (b < 48) && s.owner b == 0x38

/-- DUO_CFG: equal ports are refused, LAG stays while EN is set, EN is set only with a journal bank. A member waits for its
role from the write that sets EN on (DESIGN CHOICE, log 49); EN cleared makes it SOLO. -/
def Dev.duoCfgWrite (s : Dev) (acc : Acc) (d : RegDesc) (off : Nat) (v : Word) : Dev :=
  let old := s.reg off
  let on := F.DUO_CFG_EN.of old == 1
  let w := s.written acc d off v
  let w := if F.DUO_CFG_PORTA.of w = F.DUO_CFG_PORTB.of w then
      putBits (putBits w 7 6 (F.DUO_CFG_PORTA.of old)) 9 8 (F.DUO_CFG_PORTB.of old) else w
  let w := if on then putBits w 18 13 (F.DUO_CFG_LAG.of old) else w
  let w := if !on && !s.journalOk (s.get A.DUO_JCFG F.DUO_JCFG_JBANK) then putBits w 0 0 0 else w
  let s := (s.setReg off w).noteWrite acc.req.val off
  if !on && F.DUO_CFG_EN.of w == 1 then
    ((s.setSync dsOut).setRole drNone).onDuo fun x => { x with deciding := some s.ticks, resume := false, stored := 0 }
  else if on && F.DUO_CFG_EN.of w == 0 then
    let s := (s.duoOut 0).setRole drNone
    (s.setSync dsSolo).onDuo fun x => { x with deciding := none, request := false, takeover := none }
  else s

/-- The dovetail block. -/
def Dev.duoWrite (s : Dev) (acc : Acc) (d : RegDesc) (off : Nat) (v : Word) : Dev :=
  let r := acc.req.val
  if off = A.DUO_CFG then s.duoCfgWrite acc d off v
  else if off = A.DUO_CTL then
    let s := if F.DUO_CTL_LEAVE.of v = 1 then s.duoLeave else s
    let s := if F.DUO_CTL_RESYNC.of v = 1 then s.duoResync else s
    if F.DUO_CTL_SWITCH.of v = 1 then s.duoSwitch else s
  else if off = A.DUO_FOUT then (if s.duoOn then s else s.plain acc d off v)
  else if off = A.DUO_JCFG then (if s.journalOk (F.DUO_JCFG_JBANK.of v) then s.plain acc d off v else s)
  else if off = A.DUO_MAC_LO || off = A.DUO_JCH_LO || off = A.DUO_MIRB_LO then s.stageLo r off v
  else if off = A.DUO_MAC_HI || off = A.DUO_JCH_HI || off = A.DUO_MIRB_HI then s.commitHi r off v
  else s.plain acc d off v

/-! ## Any write -/

/-- The effect of a write that reaches its register, by block (R22). -/
def Dev.regEffect (s : Dev) (acc : Acc) (d : RegDesc) (i j off : Nat) (v : Word) : Dev :=
  if off < 0x10000 then s.sysWrite acc d i off v
  else if off < 0x20000 then s.aonWrite acc d off v
  else if off < 0x40000 then s.secWrite acc d off v
  else if off < 0x80000 then s.memRegWrite acc d i off v
  else if off < 0x100000 then s.mbxWrite acc d i off v
  else if off < 0x200000 then s.peWrite acc d i j off v
  else if off < 0x300000 then s.ltWrite acc d i j off v
  else if off < 0x340000 then s.seqWrite acc d i off v
  else if off < 0x380000 then s.gluWrite acc d i j off v
  else if off < 0x3C0000 then s.anaWrite acc d i j off v
  else if off < 0x400000 then s.posWrite acc d i off v
  else if off < 0x440000 then s.dioWrite acc d i off v
  else if off < 0x4C0000 then s.recWrite acc d i off v
  else if off < 0x500000 then s.evrWrite acc d i off v
  else if off < 0x540000 then s.cnWrite acc d i j off v
  else if off < 0x580000 then s.ethWrite acc d i off v
  else if off < 0x5C0000 then s.timeWrite acc d i off v
  else if off < 0x600000 then s.pljWrite acc d i off v
  else s.duoWrite acc d off v

/-- Writes that a standby takes through its own port and from its own cores (R398). -/
def standbyTakes (off : Nat) : Bool := decide (0x600000 ≤ off) || off == A.EVR_CURSOR || off == A.REC_HB_RD

/-- Registers of the module itself, whose writes do not enter the input set: each member has its own (R393: writes to a
unit do; DEDUCED, log 49). Posts enter it as notices. -/
def ownOfMember (off : Nat) : Bool :=
  (decide (off < 0x40000) && !(decide (0x200 ≤ off) && decide (off < 0x220)) && !(decide (0x400 ≤ off) && decide (off < 0x41C))) ||
  (decide (0x80000 ≤ off) && decide (off < 0x81000) && (off % 0x40 == 0x04 || off % 0x40 == 0x08 || off % 0x40 == 0x0C)) ||
  isSaf off || (decide (0x480100 ≤ off) && decide (off < 0x480118)) || off == A.EVR_CURSOR ||
  (decide (0x580000 ≤ off) && decide (off < 0x580040)) || off == A.PLJ_ID || decide (0x600000 ≤ off)

/-- A write of a register (R5-R10, R22-R24, R51, R398). -/
def Dev.busWrite (s : Dev) (acc : Acc) (off : Nat) (v : Word) : Dev :=
  let r := acc.req.val
  if !s.portOn r then s.portOff r
  else
    match regFind off with
    | none => s.undefinedResp r
    | some (d, ix) =>
      let s := s.answer .ok 0
      if isSaf off || (!acc.pview && !uReach d off) then s.violation off true
      else if s.roleStandby && !s.duo.replay && isHostReq r && !standbyTakes off then s.ignoreWrite
      else
        let s := if ownOfMember off then s else s.collectWrite acc off v false
        s.regEffect acc d (ix.getD 0 0) (ix.getD 1 0) off v

/-! ## Reads -/

/-- A force entry as SYS_FRC_KEY, SYM, MASK, VAL and CTL show the one selected (R146); one that holds nothing shows their
reset values. -/
def Dev.frcRead (s : Dev) (r off : Nat) : Word :=
  match tabGet none s.start.forces (s.get0 (reqKey r A.SYS_FRC_SEL) F.SYS_FRC_SEL_ENTRY) with
  | none => if off = A.SYS_FRC_CTL then 8 else 0
  | some f =>
    if off = A.SYS_FRC_KEY then f.key
    else if off = A.SYS_FRC_SYM then f.symid
    else if off = A.SYS_FRC_MASK then f.mask
    else if off = A.SYS_FRC_VAL then f.value
    else BitVec.ofNat 32 ((if f.orphan then 32 else 0) + (if f.enabled then 16 else 0) + (if f.valid then 8 else 0) + f.eng)

/-- The seconds and the time of day read what their requester has latched, 0 before that (R37, R51). -/
def ownLatch (off : Nat) : Bool :=
  off == A.AON_CAL_SEC_LO || off == A.AON_CAL_SEC_HI || off == A.TIME_TOD_SEC_LO || off == A.TIME_TOD_SEC_HI || off == A.TIME_TOD_NS

/-- Registers before a tile has accepted a bank read their reset values (R152). -/
def slotReg (off : Nat) : Bool := decide (0x200000 ≤ off) && decide (off < 0x300000) && decide (off % 0x20000 < 0x10000)

/-- The value of a register as a requester sees it at the start of the tick, pairs and latches apart. -/
def Dev.regValue (s : Dev) (acc : Acc) (d : RegDesc) (i off : Nat) : Word :=
  let r := acc.req.val
  let w := s.reg0 (reqOff d r off)
  if off < 0x80000 then
    if A.SYS_FRC_KEY ≤ off && off ≤ A.SYS_FRC_CTL then s.frcRead r off
    else if d.base = A.MEM_BANK_STAT 0 && F.MEM_BANK_STAT_OWNER.of w == 0 then putBits w 0 0 1
    else w
  else if off < 0x81000 then
    if off % 0x40 = 0 then (if off = A.MBX_CH_CFG 2 then putBits w 15 8 0x39 else w) else s.mbxRead r i (off % 0x40)
  else if slotReg off && !(s.tile i).accepted then BitVec.ofNat 32 d.resetWord
  else if d.base = A.ANA_RDUR 0 then BitVec.ofNat 32 (s.adcRdur i)
  else if d.base = A.ANA_AO_VAL 0 then (s.hread (aoHandle i)).val &&& 0xFFFF
  else if d.base = A.DIO_DQ_VAL 0 then (s.hread (dqHandle i)).val &&& 0xFFFF
  else if off = A.EVR_WSTAT then s.wstat r acc.pview
  else if d.base = A.EVR_WIN 0 then s.winWord r acc.pview i
  else if d.base = A.CN_SOFCNT 0 then s.sofCount
  else if off = A.PLJ_PRESENT then w ||| bitMask s.myDev
  else if d.base = A.PLJ_SEGT_CFG 0 && s.present (F.PLJ_SEGT_CFG_DEV.of w) && F.PLJ_SEGT_CFG_EN.of w == 1 then putBits w 29 29 1
  else w

/-- A register's high half that a requester has latched (R10). -/
def Dev.latched (s : Dev) (r off : Nat) : Option Word := tabGet none s.latch (reqKey r off)

/-- A read that reaches its register: the value answers, _LO halves latch (R10, R37, R51, R231). -/
def Dev.regAnswer (s : Dev) (acc : Acc) (d : RegDesc) (ix : List Nat) (off : Nat) : Dev :=
  let r := acc.req.val
  let i := ix.getD 0 0
  if off = A.TIME_NOW_LO then s.timeNowRead r
  else if off = A.AON_CAL_TICK then s.calTickRead r
  else if d.base = A.ANA_RES 0 0 then s.resRead r i (ix.getD 1 0)
  else if ownLatch off then s.answerWord ((s.latched r off).getD 0)
  else if off = A.TIME_NOW_HI then s.answerWord ((s.latched r off).getD ((s.ts >>> 32).setWidth 32))
  else if d.base = A.ANA_RTS 0 0 then s.answerWord ((s.latched r off).getD (s.reg0 off))
  else if d.pair then
    let hi := match regFind (off + 4) with
      | some (d', _) => s.regValue acc d' i (off + 4)
      | none => 0
    { s with latch := tabPut none s.latch (reqKey r (off + 4)) (some hi) }.answerWord (s.regValue acc d i off)
  else
    let isHi := match regFind (off - 4) with
      | some (d', _) => d'.pair && decide (4 ≤ off)
      | none => false
    s.answerWord (if isHi then (s.latched r off).getD (s.regValue acc d i off) else s.regValue acc d i off)

/-- A read of a register (R9, R10, R22, R23). -/
def Dev.busRead (s : Dev) (acc : Acc) (off : Nat) : Dev :=
  let r := acc.req.val
  if !s.portOn r then s.portOff r
  else
    match regFind off with
    | none => s.undefinedResp r
    | some (d, ix) =>
      if !acc.pview && !uReach d off then (s.violation off false).answerWord 0
      else if 0x20000 ≤ off && off < 0x40000 && s.sec.wipe.isSome then s.answer (if r ≤ 1 then .completerAbort else .busError) 0
      else s.regAnswer acc d ix off

/-! ## The commands -/

/-- The bank window of a BAR. -/
def isWindow (off : Nat) : Bool := decide (0x1000000 ≤ off) && decide (off < 0x3800000)

/-- A 32-bit write of any offset of a BAR. -/
def Dev.barWrite (s : Dev) (acc : Acc) (off : Nat) (v : Word) : Dev :=
  if isWindow off && off % 4 == 0 && s.portOn acc.req.val then s.windowAccess acc off 4 (some (v.setWidth 128)) false
  else s.busWrite acc off v
/-- A 32-bit read of any offset of a BAR. -/
def Dev.barRead (s : Dev) (acc : Acc) (off : Nat) : Dev :=
  if isWindow off && off % 4 == 0 && s.portOn acc.req.val then s.windowAccess acc off 4 none false else s.busRead acc off
def Dev.busOk (s : Dev) : Bool := s.bus.status == .ok
/-- The word that the last read answered. -/
def Dev.busWord (s : Dev) : Word := s.bus.data.setWidth 32

/-- REGISTER_WRITE (R5): a write of any register, with the effect that its block gives it. -/
def execRegisterWrite (acc : Acc) (off : BitVec 26) (v : Word) (s : State) : Out := s.go (·.busWrite acc off.toNat v)

/-- READ_LO_LATCH (R10): a read of the _LO half of a pair answers the low half and latches the high half for the
requester; off a pair nothing. -/
def execReadLoLatch (req : Fin 15) (off : BitVec 26) (s : State) : Out :=
  s.go fun d => match regFind off.toNat with
    | some (r, ix) => if r.pair then d.regAnswer ⟨req, true⟩ r ix off.toNat else d
    | none => d.undefinedResp req.val

/-- COMMIT_HI (R10): a write of the _HI register of a pair; off a pair nothing. -/
def execCommitHi (acc : Acc) (off : BitVec 26) (v : Word) (s : State) : Out :=
  s.go fun d =>
    let o := off.toNat
    match regAt (o - 4) with
    | some r => if r.pair && decide (4 ≤ o) then d.busWrite acc o v else d
    | none => d

/-- PAGE_ALLOC (R67, R68): the resource manager decides the request of the highest priority, among equals the oldest, and
answers the mailbox endpoint or the sequencer context. -/
def Dev.pageAlloc (s : Dev) : Dev :=
  let prio (q : PageReq) : Nat := s.get (A.MEM_RM_SUB q.sub) F.MEM_RM_SUB_PRIO
  let best : Option PageReq := s.pool.pageReqs.foldl (fun b q => match b with
    | none => some q
    | some x => if prio q < prio x then some q else b) none
  match best with
  | none => s
  | some q =>
    let s := s.onPool fun p => { p with pageReqs := p.pageReqs.erase q }
    let (s, r) := s.rmAlloc q.sub
    if q.kind = 0 then
      s.onMend q.sub q.who fun e => match r with
        | .grant p => { e with res := 1, page := 0x1000 + p }
        | .quota => { e with res := 2 }
        | .low => { e with res := 3 }
    else
      match r with
      | .grant p => s.pageGranted (q.sub - 64) q.who p
      | _ => s.pageRefused (q.sub - 64) q.who
def execPageAlloc (s : State) : Out := s.go Dev.pageAlloc

/-- The bytes that the module sends on HS: an answer of one status byte and words (R429). -/
def Dev.spiAnswer (s : Dev) (status : Word) (ws : List Word) : Dev :=
  { s with sent := s.sent ++ [Sent.mk 3 0 2 (status :: ws)] }

/-- The words of a burst at an offset on, up to the end of its 4 KiB: one after another. -/
def Dev.spiReads (s : Dev) (acc : Acc) (off0 off : Nat) : Nat → List Word → Dev × List Word × Bool
  | 0, ws => (s, ws, true)
  | n + 1, ws =>
    if off / 0x1000 != off0 / 0x1000 then (s, ws, false)
    else
      let s := s.barRead acc off
      if s.busOk then s.spiReads acc off0 (off + 4) n (ws ++ [s.busWord]) else (s, ws, false)
def Dev.spiWrites (s : Dev) (acc : Acc) (off0 off : Nat) (ok : Bool) : List Word → Dev × Bool
  | [] => (s, ok)
  | w :: ws =>
    if off / 0x1000 != off0 / 0x1000 then (s, false)
    else
      let s := s.barWrite acc off w
      s.spiWrites acc off0 (off + 4) (ok && s.busOk) ws

/-- SPI_TRANSACTION (R429, R430): opcode, offset, the number of words read or the words written. A read that meets an error
on its first word answers 0xE1 alone; a later one ends its data (DESIGN CHOICE, log 50). -/
def Dev.spi (s : Dev) (op : Nat) (off : Nat) (reads : Nat) (words : List Word) : Dev :=
  let cfg := s.reg A.SYS_HOST_CFG
  let pview := op == 0x03 || op == 0x02
  let acc : Acc := ⟨2, pview⟩
  if F.SYS_HOST_CFG_SPIEN.of cfg = 0 || !(op == 0x03 || op == 0x02 || op == 0x13 || op == 0x12) then s
  else if pview && F.SYS_HOST_CFG_SPIPEN.of cfg == 0 then s.spiAnswer 0xE1 []
  else if op = 0x03 || op = 0x13 then
    let (s, ws, ok) := s.spiReads acc off off reads []
    if ws.isEmpty && !ok then s.spiAnswer 0xE1 [] else s.spiAnswer 0x5A ws
  else
    let (s, ok) := s.spiWrites acc off off true words
    s.spiAnswer (if ok then 0x5A else 0xE1) []
def execSpiTransaction (op : BitVec 8) (off : Word) (reads : Nat) (words : List Word) (s : State) : Out :=
  s.go (·.spi op.toNat off.toNat reads words)

end Sys2Proof.Machine
end

