-- ==== Sys2Proof/Machine/Fire.lean ====
section
/-! DEFINITION. Fires of comparators and edges on the trigger inputs, which reach many units (R41-R50, R315, R393). -/

namespace Sys2Proof.Machine

/-- The consumers that a replayed fire reaches too: tasks, loop slots, transmit objects (R393, R395). -/
def Dev.fireUnits (s : Dev) (n : Nat) : Dev :=
  let s := if s.halted then s else s.fireTasks n
  ((s.fireSlots n).canFire n).ethFire n

/-- The consumers at the field side: converters, SSI frames, gate lists. -/
def Dev.fireField (s : Dev) (n : Nat) : Dev := ((s.adcFire n).ssiFire n).gateFire n

/-- A standby's transmit objects build on its own fires while its replay is dry (R406). -/
def Dev.fireDry (s : Dev) (n : Nat) : Dev :=
  if s.bit A.DUO_STAT F.DUO_STAT_DRY then (s.canFire n).ethFire n else s

/-- COMPARATOR_FIRE (R41): the comparator advances, and a due fire reaches every consumer on this tick. On a synced
standby only the units of its own field side see it (R395). -/
def Dev.comparatorFire (s : Dev) (n : Nat) : Dev :=
  if !s.ttDue n then s
  else
    let s := ((((s.onTime fun t => { t with fired := t.fired ++ [n] }).ttAdvance n).ttPulse n).fireField n)
    if s.standby then s.fireDry n
    else ((s.collect 2 (BitVec.ofNat 32 n) 0 0 []).captureNow (0x10 + n) true).fireUnits n

def execComparatorFire (n : Fin 64) (s : State) : Out := s.live (·.comparatorFire n.val)

/-- The recorder's trigger input watches an edge of this polarity (R315). -/
def Dev.trgInOn (s : Dev) (n : Nat) (rising : Bool) : Bool :=
  let c := s.reg A.REC_TRG_CTL
  let e := bitsOf c (19 + 2 * n) (18 + 2 * n)
  c.getLsbD n && (e == 2 || e == (if rising then 0 else 1)) && s.recEnabled && !s.recorder.halted && !s.standby

/-- CAPTURE_EDGE (R48-R50, R315): inputs 0-3 are TRG_IN0-3, 4 is PPS_IN; `ps` from the start of the tick. -/
def Dev.edgeIn (s : Dev) (inp : Nat) (rising : Bool) (ps : Nat) : Dev :=
  match s.captureEdge inp rising ps with
  | (s, some x) =>
    if inp < 4 && s.trgInOn inp rising then s.recTrigger x.ts x.frac 1 inp else s
  | (s, none) => s

def execCaptureEdge (inp : Fin 5) (rising : Bool) (ps : Fin 4000) (s : State) : Out :=
  s.live (·.edgeIn inp.val rising ps.val)

end Sys2Proof.Machine
end

