-- ==== Sys2Proof/Machine/DuoReplay.lean ====
section
/-! DEFINITION. The replay of the input set on a standby (R393, R395, R404), the choice of a role (R392), and the commands
of the Dovetail pair (chapter 19). -/

namespace Sys2Proof.Machine

/-! ## What an entry does -/

/-- POINT: the point, with the converter's or the input's registers as the primary had them, and the slots it feeds. -/
def Dev.replayPoint (s : Dev) (x : DuoEntry) : Dev :=
  let i := hindex x.id
  let valid := x.data.getLsbD 31
  let s :=
    if hclass x.id = 0x10 then
      let w := putBits x.data 15 0 (bitsOf x.value 15 0)
      let w := putBits (putBits w 31 20 (bitsOf x.data 11 0)) 19 19 (if valid then 1 else 0)
      (s.setReg (A.ANA_RES (i / 16) (i % 16)) w).setReg (A.ANA_RTS (i / 16) (i % 16)) s.ts32
    else if hclass x.id = 0x18 then
      (s.set (A.DIO_DI_STAT i) F.DIO_DI_STAT_STATE (x.value.toNat % 2)).setBit (A.DIO_DI_STAT i) F.DIO_DI_STAT_VALID valid
    else s
  (s.storePoint x.id ⟨x.value, valid⟩).feedbackUpdate x.id ⟨x.value, valid⟩

/-- STAMP: the capture unit stores the primary's stamp. -/
def Dev.replayStamp (s : Dev) (x : DuoEntry) : Dev :=
  s.cuPut (x.id.toNat % 32) ⟨x.extra.getD 1 0 ++ x.extra.getD 0 0, bitsOf x.value 3 0, x.value.getLsbD 4⟩

/-- NOTICE: it is accepted with the stamp it carries, from the end of its sender or else of an outside identity. -/
def Dev.replayNotice (s : Dev) (x : DuoEntry) : Dev :=
  let m := x.id.toNat % 64
  let e := match s.endOf m (bitsOf x.data 7 0) with
    | some e => e
    | none => if isOutside (s.endIdent m 0) then 0 else 1
  let h : Dbl := x.extra.getD 1 0 ++ x.extra.getD 0 0
  let s := s.output 0x32 [BitVec.ofNat 32 m, x.value, x.data, x.extra.getD 0 0, x.extra.getD 1 0]
  s.acceptNotice m e ⟨h, x.value, x.data, s.ticks⟩

/-- WRITE: a register, a handle or a word of a bank, as its requester wrote it. -/
def Dev.replayWrite (s : Dev) (x : DuoEntry) : Dev :=
  let acc : Acc := ⟨Fin.ofNat 15 (bitsOf x.data 7 0), !x.data.getLsbD 31⟩
  if x.data.getLsbD 30 then (s.deliver (writerOf acc.req.val) x.id ⟨x.value, true⟩).1
  else if isWindow x.id.toNat then s.windowAccess acc x.id.toNat 4 (some (x.value.setWidth 128)) false
  else s.busWrite acc x.id.toNat x.value

/-- CANDONE: the frame that carries the completion's tag leaves the FIFO with the primary's outcome (R352, R396). -/
def Dev.replayCanDone (s : Dev) (x : DuoEntry) : Dev :=
  let n := x.id.toNat % 16
  let tag := bitsOf x.value 31 16
  let out := bitsOf x.value 15 0
  match (s.can n).tx.findIdx? (fun f => frameTag f.words == tag) with
  | some i => s.canLeave n i out x.data
  | none => s.canComplete n tag out x.data

/-- STATION: an object of Ethernet or a filter of a CAN channel. -/
def Dev.replayStation (s : Dev) (x : DuoEntry) : Dev :=
  let j := bitsOf x.id 5 0
  if x.id.getLsbD 31 then s.ethStation j (x.value == 1) else s.canStation (x.data.toNat % 16) (j % 32) (x.value == 1)

/-- PAGE: the fetch of that page is the next of its unit to arrive. -/
def Dev.replayPage (s : Dev) (x : DuoEntry) : Dev :=
  let n := x.id.toNat % 16
  let p := x.value.toNat
  let q := tabGet [] s.fetches (n / 8)
  match q.find? (fun f => f.ctx == n && f.page == p) with
  | some f => { s with fetches := tabPut [] s.fetches (n / 8) (f :: q.erase f) }.pageArrival (n / 8) (some (s.storePage n p))
  | none => s

/-- The effect of an entry, by its KIND. -/
def Dev.entryEffect (s : Dev) (x : DuoEntry) : Dev :=
  match x.kind with
  | 0x1 => s.replayPoint x
  | 0x2 => s.fireUnits (x.id.toNat % 64)
  | 0x3 => s.replayStamp x
  | 0x4 => s.replayNotice x
  | 0x5 => s.replayWrite x
  | 0x6 => s.canStore (x.id.toNat % 16) x.extra
  | 0x7 => s.replayCanDone x
  | 0x8 => s.replayStation x
  | 0x9 => s.onDuo fun d =>
      { d with prd := tabPut [] d.prd (x.id.toNat % 8) (tabGet [] d.prd (x.id.toNat % 8) ++ [(x.value, x.data.getLsbD 0)]) }
  | 0xA => s.replayPage x
  | 0xB => s.gluReplay x.id x.extra
  | 0xC => s.taskEvent 3 (bitsOf x.id 15 0)
  | 0xE => s.hostReplay (x.id.toNat % 16) x.value x.extra
  | _ => s

/-- An entry is applied: time stamps that it calls for are its original TS64 (R393), and the host port's answers stand. -/
def Dev.applyEntry (s : Dev) (x : DuoEntry) : Dev :=
  let d : Dev := { s with time := { s.time with ts := x.ts }, duo := { s.duo with replay := true } }
  let d := d.entryEffect x
  { d with time := { d.time with ts := s.ts }, bus := s.bus, duo := { d.duo with replay := false } }

/-- A WRITE waits for the mirror records sent before its epoch (R404). -/
def Dev.mirrorBehind (s : Dev) (x : DuoEntry) : Bool :=
  x.kind == 5 && decide (0 < (pairGet 0 (epochAt x.ts) s.duo.msAt - s.duo.mseqIn).toInt)

/-- The standby leaves the pair with CAUSE LATE (R395, R404). -/
def Dev.duoLate (s : Dev) : Dev := ((s.duoOut dcLate).count A.DUO_ERRCNT F.DUO_ERRCNT_LATE 1).duoOffer .duoLate

/-- REPLAY_ENTRY (R395): the next entry, LAG after its tick. -/
def Dev.replayEntry (s : Dev) : Dev :=
  match s.duo.inbox with
  | [] => s
  | x :: rest =>
    if !s.syncedAs 2 || decide (s.ts.toNat < x.ts.toNat + s.lagNs) then s
    else if s.mirrorBehind x then s.duoLate
    else ((s.onDuo fun d => { d with inbox := rest }).applyEntry x).duoJudgeAll

/-! ## Taking a role (R392) -/

/-- A new primary that was stored as standby replays the whole epochs it holds; then it collects inputs itself. -/
def Dev.replayHeld (s : Dev) : Dev :=
  if s.duo.resume && s.duo.stored == drStandby then
    let whole := s.duo.inbox.filter (fun x => decide (epochAt x.ts ≤ s.heldEpoch))
    let s := whole.foldl Dev.applyEntry s
    s.setReg A.DUO_EPOCH (BitVec.ofNat 32 s.heldEpoch)
  else s

def Dev.bePrimary (s : Dev) : Dev :=
  let s := s.replayHeld
  (((s.setRole drPrimary).setSync dsOut).onDuo fun d => { d with deciding := none, inbox := [], cover := 0 }).duoOffer .duoRole

/-- ROLE_DECISION: a partner decides it at once, no partner after 2 s. A partner that stands by does not (DEDUCED, log 49). -/
def Dev.roleDecision (s : Dev) : Dev :=
  let alone : Dev := if s.decisionDue then (s.duoCause dcStart).bePrimary else s
  if !s.duoOn || s.duo.deciding.isNone then s
  else
    match s.duo.partner with
    | none => alone
    | some h =>
      if h.role.val = drPrimary then s.beStandby
      else if h.role.val = drNone then (if s.winsStart h then s.bePrimary else s.beStandby)
      else alone

/-! ## Frames -/

/-- A whole frame arrives on an UP port (R376): a segment's is forwarded, dropped or taken; a pair link carries the input
set. Mirror records and heartbeats of pair links are commands of their own (log 49). -/
def Dev.pljFrameIn (s : Dev) (p : Nat) (f : PljFrame) : Dev :=
  if s.pljState p != portUp then s
  else if s.pljRole p = roleSegment then s.pljSegmentIn p f
  else if s.pljRole p = rolePair && f.typ == ftRep && f.half == 1 then s.inputSetIn f.body
  else s

/-! ## The commands -/

/-- PLJ_FRAME_RECEIVED (R376): port, type, the four header words, the body. -/
def execPljFrameReceived (p : Fin 4) (typ : Fin 8) (h0 h1 h2 h3 : Word) (body : List Word) (s : State) : Out :=
  s.live (·.pljFrameIn p.val ⟨typ.val, [h0, h1, h2, h3], body⟩)

def execRoleDecision (s : State) : Out := s.live Dev.roleDecision
def execEpochStart (s : State) : Out := s.live Dev.epochStart
def execInputSetFrame (s : State) : Out := s.live Dev.inputSetFrame
def execReplayEntry (s : State) : Out := s.live Dev.replayEntry
/-- ECONF_RECEIVED (R412): epoch `k`. -/
def execEconfReceived (k : Nat) (s : State) : Out := s.live (·.econf k)
def execCwaitExpiry (s : State) : Out := s.live Dev.cwaitExpiry
/-- MIR_FRAME (R403): mirror sequence and record. -/
def execMirFrame (seq : Word) (m : Mirror) (s : State) : Out := s.live (·.mirFrame seq m)
def execDuoResync (s : State) : Out := s.live Dev.duoResync
/-- TRANSFER_DONE (R402): on the standby `src` is the device that was copied. -/
def execTransferDone (src : Dev) (s : State) : Out := s.live (·.transferDone src)
/-- HEARTBEAT (R405): none: the member's own is due; else one arrives: path (0 PORTA, 1 PORTB, 2 witness) and content. -/
def execHeartbeat (rx : Option (Fin 3 × Hb)) (s : State) : Out := s.live (·.heartbeat (rx.map fun x => (x.1.val, x.2)))
def execReplayDry (s : State) : Out := s.live Dev.replayDry
def execPartnerLost (s : State) : Out := s.live Dev.partnerLost
def execDuoSwitch (s : State) : Out := s.live Dev.duoSwitch
def execDuoLeave (s : State) : Out := s.live Dev.duoLeave

end Sys2Proof.Machine
end

