-- ==== Sys2Proof/Machine/Hl.lean ====
section
/-! DEFINITION. The instructions of Hiward-L (chapter 5): what each does to the executing task of an engine. `hs…` is the
instruction itself, shared by the command and by single stepping (R91); `exec…` is the command's meaning. MPOST, MRECV
and the privileged instructions stand in HlPriv.lean. -/

namespace Sys2Proof.Machine

/-! ## Pieces -/

/-- A NaN result: IEEE 754 leaves sign and payload open, so they are free (log 24). Any other result stands. -/
def nanFree (tag : Nat) (a b c r : Dbl) : Dbl :=
  if isNan64 r then 0x7FF8000000000000 ||| (Config.nanBits tag a b c &&& 0x8007FFFFFFFFFFFF) else r
/-- The same for a binary32 result. -/
def nanFree32 (a : Dbl) (r : Word) : Word :=
  if (d32 r).isNan then 0x7FC00000 ||| ((Config.nanBits 10 a 0 0).setWidth 32 &&& 0x803FFFFF) else r

/-- The end of a compare: with P set, BA is pushed before the outcome is written (R113, R120). `k'` holds the flags. -/
def compareRes (s : Dev) (k : Task) (p : Bool) (out : Option Bool) (k' : Task) : HlRes :=
  match out with
  | none => .fault s fIllegal
  | some b =>
    if p then
      match k.push with
      | some q => .ok s { k' with ba := b, bits := q.bits } 2
      | none => .fault s fBstk
    else .ok s { k' with ba := b } 2

/-- A binary32 result in a word register with its flags (R120). -/
def Task.sresult (k : Task) (d : Nat) (v : Word) : Task :=
  { k.setW d v with z := fIsZero (d32 v), n := fIsNeg (d32 v), v := fIsOver (d32 v) }

/-- The task is privileged. -/
def Dev.taskPriv (s : Dev) (e t : Nat) : Bool := s.bit (A.PE_TASK_CTL e t) F.PE_TASK_CTL_PRIV

/-- Timer or counter number that a TC instruction names: the index, plus Wn when X is set (R122). -/
def tcNo (k : Task) (x : Bool) (wn : Fin 16) (idx : BitVec 12) : Nat :=
  if x then (k.rw wn.val + idx.setWidth 32).toNat else idx.toNat

/-- What a timer does to its new IN: the timer after steps 1 and 2 of R122 (or the reset of TRST). -/
abbrev TimerOp := Timer → Bool → Timer

/-- A timer of another kind is reset before it takes the kind (R122). -/
def asKind (n : Nat) (x : Timer) : Timer :=
  if x.kind = n then x else { x with et := 0, q := false, inp := false, running := false, ticks := 0, kind := n }

/-- TON: a rising IN starts ET from 0; Q is IN and ET at PT; IN at 0 clears both. -/
def tonOp : TimerOp := fun x inp =>
  let x := asKind 1 x
  if !inp then { x with inp := false, et := 0, q := false, running := false, ticks := 0 }
  else
    let x := if x.inp then x else { x with inp := true, et := 0, ticks := 0, running := true }
    { x with q := decide (x.pt.toNat ≤ x.et.toNat) }

/-- TOF: IN at 1 sets Q; a falling IN starts ET; Q falls when ET reaches PT. -/
def tofOp : TimerOp := fun x inp =>
  let x := asKind 2 x
  if inp then { x with inp := true, q := true, et := 0, running := false, ticks := 0 }
  else
    let x := if x.inp then { x with inp := false, et := 0, ticks := 0, running := true } else x
    { x with q := x.q && decide (x.et.toNat < x.pt.toNat) }

/-- TP: a rising IN while Q is 0 sets Q and starts ET; Q falls when ET reaches PT. -/
def tpOp : TimerOp := fun x inp =>
  let x := (asKind 3 x).expired
  let x := if inp && !x.inp && !x.q then { x with inp := inp, q := true, et := 0, ticks := 0, running := true }
    else { x with inp := inp }
  { x with q := x.q && decide (x.et.toNat < x.pt.toNat) }

/-- TRST (R122). -/
def trstOp : TimerOp := fun x _ => { x with et := 0, q := false, inp := false, kind := 0, running := false, ticks := 0 }

/-- A TMR instruction: BA takes Q (R122). TRST leaves Q at 0, so BA takes 0 as well. -/
def timerOp (x : Bool) (wn : Fin 16) (idx : BitVec 12) (f : TimerOp) : HlStep := fun s e _ k =>
  let n := tcNo k x wn idx
  if n < s.get (A.PE_TCRES e) F.PE_TCRES_TCNT * 64 then
    let n := s.get (A.PE_TCRES e) F.PE_TCRES_TBASE * 64 + n
    let y := f (s.timer n) k.ba
    .ok (s.setTimer n y) { k with ba := y.q } 2
  else .fault s ⟨11, 0⟩

/-- CV moved by one, saturating (R124). -/
def cvUp (v : Word) : Word := if v = 0x7FFFFFFF then v else v + 1
def cvDown (v : Word) : Word := if v = 0x80000000 then v else v - 1

def ctuOp : Counter → Bool → Counter × Bool := fun c b =>
  let c := { c with cv := if b && !c.cu then cvUp c.cv else c.cv, cu := b }
  (c, c.qu)
def ctdOp : Counter → Bool → Counter × Bool := fun c b =>
  let c := { c with cv := if b && !c.cd then cvDown c.cv else c.cv, cd := b }
  (c, c.qd)
def crstOp : Counter → Bool → Counter × Bool := fun c b => (if b then { c with cv := 0 } else c, b)
def cldvOp : Counter → Bool → Counter × Bool := fun c b => (if b then { c with cv := c.pv } else c, b)

/-- A CNT instruction: the counter after it and the new BA (R124). -/
def counterOp (x : Bool) (wn : Fin 16) (idx : BitVec 12) (f : Counter → Bool → Counter × Bool) : HlStep := fun s e _ k =>
  let n := tcNo k x wn idx
  if n < s.get (A.PE_TCRES e) F.PE_TCRES_CCNT * 64 then
    let n := s.get (A.PE_TCRES e) F.PE_TCRES_CBASE * 64 + n
    let y := f (s.counter n) k.ba
    .ok (s.setCounter n y.1) { k with ba := y.2 } 2
  else .fault s ⟨11, 0⟩

/-- A handle of class 0x08 in a bank that is being wiped waits (R63). -/
def Dev.handleWaits (s : Dev) (h : Word) : Bool :=
  hclass h == 0x08 && match s.mAddr (hindex h) with | some a => s.wiping (bankOfAddr a) | none => false

/-- The line check behind a read of an M word by handle (R56-R58). -/
def Dev.handleLine (s : Dev) (h : Word) : Dev × Bool :=
  if hclass h = 0x08 then match s.mAddr (hindex h) with | some a => s.checkLine (lineOf a) | none => (s, true)
  else (s, true)

/-- An ignored handle write is recorded and clears C (R127). -/
def handleIgnored (s : Dev) (e : Nat) (k : Task) (cost : Nat) : HlRes :=
  .ok (s.offer (peSrc e) 0x04 .handleIgnored) { k with c := false } cost

/-- A handle write by class (R127); `phwr` reaches any M word (R132). -/
def handleWrite (phwr : Bool) (h v : Word) (cost : Nat) : HlStep := fun s e t k =>
  let i := hindex h
  if !validHandle h then .fault s ⟨12, h.toNat⟩
  else if s.handleWaits h then .stall
  else
    match hclass h with
    | 0x03 =>
      if s.hasQLine e t (i / 128) then
        .ok s { k with work := tabPut 0 k.work (i / 32) (setBitOf (tabGet 0 k.work (i / 32)) (i % 32) (v.getLsbD 0)), c := true } cost
      else handleIgnored s e k cost
    | 0x04 =>
      if s.hasQLine e t (i / 4) then .ok s { k with work := tabPut 0 k.work i v, c := true } cost
      else handleIgnored s e k cost
    | 0x08 =>
      let own := s.get (A.SYS_MMAP (i / 131072)) F.SYS_MMAP_ENG == e
      if (s.mAddr i).isSome && (phwr || own || s.granted i (e + 1)) then
        match s.mStore i v with
        | (s', .taken) => .ok s' { k with c := true } cost
        | (s', _) => .fault s' ⟨13, 0⟩
      else handleIgnored s e k cost
    | c =>
      if c = 0x20 then .ok (s.spWrite (.engine e) i ⟨v, true⟩) { k with c := true } cost
      else if claimedClass c then
        match s.deliver (.engine e) h ⟨v, true⟩ with
        | (s', .ignored) => .ok s' { k with c := false } cost
        | (s', _) => .ok s' { k with c := true } cost
      else handleIgnored s e k cost

/-! ## The instructions -/

/-- LD (R108). -/
def hsLd (op : BmOp) : HlStep := bitRead op false fun _ x => x
def execHlLd (e : Fin 8) (op : BmOp) (s : State) : Out := s.go (·.hl e.val (hsLd op))

/-- LDN (R108). -/
def hsLdn (op : BmOp) : HlStep := bitRead op false fun _ x => !x
def execHlLdn (e : Fin 8) (op : BmOp) (s : State) : Out := s.go (·.hl e.val (hsLdn op))

/-- BM_AND (R108). -/
def hsBmAnd (op : BmOp) : HlStep := bitRead op false fun b x => b && x
def execHlBmAnd (e : Fin 8) (op : BmOp) (s : State) : Out := s.go (·.hl e.val (hsBmAnd op))

/-- BM_ANDN (R108). -/
def hsBmAndn (op : BmOp) : HlStep := bitRead op false fun b x => b && !x
def execHlBmAndn (e : Fin 8) (op : BmOp) (s : State) : Out := s.go (·.hl e.val (hsBmAndn op))

/-- BM_OR (R108). -/
def hsBmOr (op : BmOp) : HlStep := bitRead op false fun b x => b || x
def execHlBmOr (e : Fin 8) (op : BmOp) (s : State) : Out := s.go (·.hl e.val (hsBmOr op))

/-- ORN (R108). -/
def hsOrn (op : BmOp) : HlStep := bitRead op false fun b x => b || !x
def execHlOrn (e : Fin 8) (op : BmOp) (s : State) : Out := s.go (·.hl e.val (hsOrn op))

/-- BM_XOR (R108). -/
def hsBmXor (op : BmOp) : HlStep := bitRead op false fun b x => xor b x
def execHlBmXor (e : Fin 8) (op : BmOp) (s : State) : Out := s.go (·.hl e.val (hsBmXor op))

/-- XORN (R108). -/
def hsXorn (op : BmOp) : HlStep := bitRead op false fun b x => xor b (!x)
def execHlXorn (e : Fin 8) (op : BmOp) (s : State) : Out := s.go (·.hl e.val (hsXorn op))

/-- ST (R108). -/
def hsSt (op : BmOp) : HlStep := bitWrite op fun b => some b
def execHlSt (e : Fin 8) (op : BmOp) (s : State) : Out := s.go (·.hl e.val (hsSt op))

/-- STN (R108). -/
def hsStn (op : BmOp) : HlStep := bitWrite op fun b => some (!b)
def execHlStn (e : Fin 8) (op : BmOp) (s : State) : Out := s.go (·.hl e.val (hsStn op))

/-- SET (R108). -/
def hsSet (op : BmOp) : HlStep := bitWrite op fun b => if b then some true else none
def execHlSet (e : Fin 8) (op : BmOp) (s : State) : Out := s.go (·.hl e.val (hsSet op))

/-- RST (R108). -/
def hsRst (op : BmOp) : HlStep := bitWrite op fun b => if b then some false else none
def execHlRst (e : Fin 8) (op : BmOp) (s : State) : Out := s.go (·.hl e.val (hsRst op))

/-- PLD (R108). -/
def hsPld (op : BmOp) : HlStep := bitRead op true fun _ x => x
def execHlPld (e : Fin 8) (op : BmOp) (s : State) : Out := s.go (·.hl e.val (hsPld op))

/-- PLDN (R108). -/
def hsPldn (op : BmOp) : HlStep := bitRead op true fun _ x => !x
def execHlPldn (e : Fin 8) (op : BmOp) (s : State) : Out := s.go (·.hl e.val (hsPldn op))

/-- REDG (R108). -/
def hsRedg (op : BmOp) : HlStep := bitEdge op fun b x => b && !x
def execHlRedg (e : Fin 8) (op : BmOp) (s : State) : Out := s.go (·.hl e.val (hsRedg op))

/-- FEDG (R108). -/
def hsFedg (op : BmOp) : HlStep := bitEdge op fun b x => !b && x
def execHlFedg (e : Fin 8) (op : BmOp) (s : State) : Out := s.go (·.hl e.val (hsFedg op))

/-- NOP (R109). -/
def hsNop : HlStep := onBank 1 id
def execHlNop (e : Fin 8) (s : State) : Out := s.go (·.hl e.val hsNop)

/-- END (R109: forces and output transfer follow). -/
def hsEnd : HlStep := fun s e t k => .ok s (s.endExecute e t k) 1
def execHlEnd (e : Fin 8) (s : State) : Out := s.go (·.hl e.val hsEnd)

/-- BKPT (R109, R91; a NOP with a record in OPERATIONAL (R92)). -/
def hsBkpt : HlStep := fun s e _ k =>
  if s.lcs = 2 then .ok (s.offer (peSrc e) 0x04 .bkptIgnored) k 1 else .ok (s.enterHold e 4) k 1
def execHlBkpt (e : Fin 8) (s : State) : Out := s.go (·.hl e.val hsBkpt)

/-- RET (R109). -/
def hsRet : HlStep := fun s _ _ k =>
  match k.calls with
  | (i, fp) :: cs => .ok s { k with idx := i, fp := fp, calls := cs } 3
  | [] => .fault s ⟨9, 0⟩
def execHlRet (e : Fin 8) (s : State) : Out := s.go (·.hl e.val hsRet)

/-- PUSH (R109). -/
def hsPush : HlStep := fun s _ _ k =>
  match k.push with
  | some k => .ok s k 1
  | none => .fault s fBstk
def execHlPush (e : Fin 8) (s : State) : Out := s.go (·.hl e.val hsPush)

/-- POP (R109). -/
def hsPop : HlStep := popBit fun b _ => b
def execHlPop (e : Fin 8) (s : State) : Out := s.go (·.hl e.val hsPop)

/-- ANDS (R109). -/
def hsAnds : HlStep := popBit fun b x => b && x
def execHlAnds (e : Fin 8) (s : State) : Out := s.go (·.hl e.val hsAnds)

/-- ORS (R109). -/
def hsOrs : HlStep := popBit fun b x => b || x
def execHlOrs (e : Fin 8) (s : State) : Out := s.go (·.hl e.val hsOrs)

/-- XORS (R109). -/
def hsXors : HlStep := popBit fun b x => xor b x
def execHlXors (e : Fin 8) (s : State) : Out := s.go (·.hl e.val hsXors)

/-- NOTBA (R109). -/
def hsNotba : HlStep := onBank 1 fun k => { k with ba := !k.ba }
def execHlNotba (e : Fin 8) (s : State) : Out := s.go (·.hl e.val hsNotba)

/-- SETBA (R109). -/
def hsSetba : HlStep := onBank 1 fun k => { k with ba := true }
def execHlSetba (e : Fin 8) (s : State) : Out := s.go (·.hl e.val hsSetba)

/-- CLRBA (R109). -/
def hsClrba : HlStep := onBank 1 fun k => { k with ba := false }
def execHlClrba (e : Fin 8) (s : State) : Out := s.go (·.hl e.val hsClrba)

/-- ZTB (R109). -/
def hsZtb : HlStep := onBank 1 fun k => { k with ba := k.z }
def execHlZtb (e : Fin 8) (s : State) : Out := s.go (·.hl e.val hsZtb)

/-- NTB (R109). -/
def hsNtb : HlStep := onBank 1 fun k => { k with ba := k.n }
def execHlNtb (e : Fin 8) (s : State) : Out := s.go (·.hl e.val hsNtb)

/-- VTB (R109). -/
def hsVtb : HlStep := onBank 1 fun k => { k with ba := k.v }
def execHlVtb (e : Fin 8) (s : State) : Out := s.go (·.hl e.val hsVtb)

/-- CTB (R109). -/
def hsCtb : HlStep := onBank 1 fun k => { k with ba := k.c }
def execHlCtb (e : Fin 8) (s : State) : Out := s.go (·.hl e.val hsCtb)

/-- CLRF (R109). -/
def hsClrf : HlStep := onBank 1 fun k => { k with z := false, n := false, v := false, c := false }
def execHlClrf (e : Fin 8) (s : State) : Out := s.go (·.hl e.val hsClrf)

/-- ADD (R111). -/
def hsAdd (d x y : Fin 16) : HlStep := onBank 2 fun k => k.result d.val (addRes (k.rw x.val) (k.rw y.val) false)
def execHlAdd (e : Fin 8) (d x y : Fin 16) (s : State) : Out := s.go (·.hl e.val (hsAdd d x y))

/-- ADC (R111). -/
def hsAdc (d x y : Fin 16) : HlStep := onBank 2 fun k => k.result d.val (addRes (k.rw x.val) (k.rw y.val) k.c)
def execHlAdc (e : Fin 8) (d x y : Fin 16) (s : State) : Out := s.go (·.hl e.val (hsAdc d x y))

/-- SUB (R111). -/
def hsSub (d x y : Fin 16) : HlStep := onBank 2 fun k => k.result d.val (subRes (k.rw x.val) (k.rw y.val) false)
def execHlSub (e : Fin 8) (d x y : Fin 16) (s : State) : Out := s.go (·.hl e.val (hsSub d x y))

/-- SBC (R111). -/
def hsSbc (d x y : Fin 16) : HlStep := onBank 2 fun k => k.result d.val (subRes (k.rw x.val) (k.rw y.val) k.c)
def execHlSbc (e : Fin 8) (d x y : Fin 16) (s : State) : Out := s.go (·.hl e.val (hsSbc d x y))

/-- AND (R111). -/
def hsAnd (d x y : Fin 16) : HlStep := onBank 2 fun k => k.result d.val (logicRes ((k.rw x.val) &&& (k.rw y.val)))
def execHlAnd (e : Fin 8) (d x y : Fin 16) (s : State) : Out := s.go (·.hl e.val (hsAnd d x y))

/-- OR (R111). -/
def hsOr (d x y : Fin 16) : HlStep := onBank 2 fun k => k.result d.val (logicRes ((k.rw x.val) ||| (k.rw y.val)))
def execHlOr (e : Fin 8) (d x y : Fin 16) (s : State) : Out := s.go (·.hl e.val (hsOr d x y))

/-- XOR (R111). -/
def hsXor (d x y : Fin 16) : HlStep := onBank 2 fun k => k.result d.val (logicRes ((k.rw x.val) ^^^ (k.rw y.val)))
def execHlXor (e : Fin 8) (d x y : Fin 16) (s : State) : Out := s.go (·.hl e.val (hsXor d x y))

/-- ANDN (R111). -/
def hsAndn (d x y : Fin 16) : HlStep := onBank 2 fun k => k.result d.val (logicRes ((k.rw x.val) &&& ~~~(k.rw y.val)))
def execHlAndn (e : Fin 8) (d x y : Fin 16) (s : State) : Out := s.go (·.hl e.val (hsAndn d x y))

/-- NOT (R111). -/
def hsNot (d x : Fin 16) : HlStep := onBank 2 fun k => k.result d.val (logicRes (~~~(k.rw x.val)))
def execHlNot (e : Fin 8) (d x : Fin 16) (s : State) : Out := s.go (·.hl e.val (hsNot d x))

/-- NEG (R111). -/
def hsNeg (d x : Fin 16) : HlStep := onBank 2 fun k => k.result d.val (negRes (k.rw x.val))
def execHlNeg (e : Fin 8) (d x : Fin 16) (s : State) : Out := s.go (·.hl e.val (hsNeg d x))

/-- ABS (R111). -/
def hsAbs (d x : Fin 16) : HlStep := onBank 2 fun k => k.result d.val (absRes (k.rw x.val))
def execHlAbs (e : Fin 8) (d x : Fin 16) (s : State) : Out := s.go (·.hl e.val (hsAbs d x))

/-- MOV (R111). -/
def hsMov (d x : Fin 16) : HlStep := onBank 2 fun k => k.result d.val (logicRes (k.rw x.val))
def execHlMov (e : Fin 8) (d x : Fin 16) (s : State) : Out := s.go (·.hl e.val (hsMov d x))

/-- MIN (R111). -/
def hsMin (d x y : Fin 16) : HlStep := onBank 2 fun k => k.result d.val (logicRes (minS (k.rw x.val) (k.rw y.val)))
def execHlMin (e : Fin 8) (d x y : Fin 16) (s : State) : Out := s.go (·.hl e.val (hsMin d x y))

/-- MAX (R111). -/
def hsMax (d x y : Fin 16) : HlStep := onBank 2 fun k => k.result d.val (logicRes (maxS (k.rw x.val) (k.rw y.val)))
def execHlMax (e : Fin 8) (d x y : Fin 16) (s : State) : Out := s.go (·.hl e.val (hsMax d x y))

/-- MINU (R111). -/
def hsMinu (d x y : Fin 16) : HlStep := onBank 2 fun k => k.result d.val (logicRes (minU (k.rw x.val) (k.rw y.val)))
def execHlMinu (e : Fin 8) (d x y : Fin 16) (s : State) : Out := s.go (·.hl e.val (hsMinu d x y))

/-- MAXU (R111). -/
def hsMaxu (d x y : Fin 16) : HlStep := onBank 2 fun k => k.result d.val (logicRes (maxU (k.rw x.val) (k.rw y.val)))
def execHlMaxu (e : Fin 8) (d x y : Fin 16) (s : State) : Out := s.go (·.hl e.val (hsMaxu d x y))

/-- MUL (R111). -/
def hsMul (d x y : Fin 16) : HlStep := onBank 2 fun k => k.result d.val (mulRes (k.rw x.val) (k.rw y.val))
def execHlMul (e : Fin 8) (d x y : Fin 16) (s : State) : Out := s.go (·.hl e.val (hsMul d x y))

/-- MULH (R111). -/
def hsMulh (d x y : Fin 16) : HlStep := onBank 2 fun k => k.result d.val (mulhRes (k.rw x.val) (k.rw y.val))
def execHlMulh (e : Fin 8) (d x y : Fin 16) (s : State) : Out := s.go (·.hl e.val (hsMulh d x y))

/-- MULHU (R111). -/
def hsMulhu (d x y : Fin 16) : HlStep := onBank 2 fun k => k.result d.val (mulhuRes (k.rw x.val) (k.rw y.val))
def execHlMulhu (e : Fin 8) (d x y : Fin 16) (s : State) : Out := s.go (·.hl e.val (hsMulhu d x y))

/-- DIV (R111, R112). -/
def hsDiv (d x y : Fin 16) : HlStep := onBank 20 fun k => k.result d.val (divRes (k.rw x.val) (k.rw y.val))
def execHlDiv (e : Fin 8) (d x y : Fin 16) (s : State) : Out := s.go (·.hl e.val (hsDiv d x y))

/-- DIVU (R111, R112). -/
def hsDivu (d x y : Fin 16) : HlStep := onBank 20 fun k => k.result d.val (divuRes (k.rw x.val) (k.rw y.val))
def execHlDivu (e : Fin 8) (d x y : Fin 16) (s : State) : Out := s.go (·.hl e.val (hsDivu d x y))

/-- REM (R111, R112). -/
def hsRem (d x y : Fin 16) : HlStep := onBank 20 fun k => k.result d.val (remRes (k.rw x.val) (k.rw y.val))
def execHlRem (e : Fin 8) (d x y : Fin 16) (s : State) : Out := s.go (·.hl e.val (hsRem d x y))

/-- REMU (R111, R112). -/
def hsRemu (d x y : Fin 16) : HlStep := onBank 20 fun k => k.result d.val (remuRes (k.rw x.val) (k.rw y.val))
def execHlRemu (e : Fin 8) (d x y : Fin 16) (s : State) : Out := s.go (·.hl e.val (hsRemu d x y))

/-- ADDI (R111). -/
def hsAddi (d x : Fin 16) (imm : BitVec 14) : HlStep := onBank 2 fun k => k.result d.val (addRes (k.rw x.val) (imm.signExtend 32) false)
def execHlAddi (e : Fin 8) (d x : Fin 16) (imm : BitVec 14) (s : State) : Out := s.go (·.hl e.val (hsAddi d x imm))

/-- ANDI (R111). -/
def hsAndi (d x : Fin 16) (imm : BitVec 14) : HlStep := onBank 2 fun k => k.result d.val (logicRes ((k.rw x.val) &&& imm.setWidth 32))
def execHlAndi (e : Fin 8) (d x : Fin 16) (imm : BitVec 14) (s : State) : Out := s.go (·.hl e.val (hsAndi d x imm))

/-- ORI (R111). -/
def hsOri (d x : Fin 16) (imm : BitVec 14) : HlStep := onBank 2 fun k => k.result d.val (logicRes ((k.rw x.val) ||| imm.setWidth 32))
def execHlOri (e : Fin 8) (d x : Fin 16) (imm : BitVec 14) (s : State) : Out := s.go (·.hl e.val (hsOri d x imm))

/-- XORI (R111). -/
def hsXori (d x : Fin 16) (imm : BitVec 14) : HlStep := onBank 2 fun k => k.result d.val (logicRes ((k.rw x.val) ^^^ imm.setWidth 32))
def execHlXori (e : Fin 8) (d x : Fin 16) (imm : BitVec 14) (s : State) : Out := s.go (·.hl e.val (hsXori d x imm))

/-- MULI (R111). -/
def hsMuli (d x : Fin 16) (imm : BitVec 14) : HlStep := onBank 2 fun k => k.result d.val (mulRes (k.rw x.val) (imm.signExtend 32))
def execHlMuli (e : Fin 8) (d x : Fin 16) (imm : BitVec 14) (s : State) : Out := s.go (·.hl e.val (hsMuli d x imm))

/-- MOVI (R111). -/
def hsMovi (d : Fin 16) (imm : BitVec 16) : HlStep := onBank 2 fun k => k.setW d.val (imm.signExtend 32)
def execHlMovi (e : Fin 8) (d : Fin 16) (imm : BitVec 16) (s : State) : Out := s.go (·.hl e.val (hsMovi d imm))

/-- MOVU (R111). -/
def hsMovu (d : Fin 16) (imm : BitVec 16) : HlStep := onBank 2 fun k => k.setW d.val (imm.setWidth 32)
def execHlMovu (e : Fin 8) (d : Fin 16) (imm : BitVec 16) (s : State) : Out := s.go (·.hl e.val (hsMovu d imm))

/-- MOVH (R111). -/
def hsMovh (d : Fin 16) (imm : BitVec 16) : HlStep := onBank 2 fun k => k.setW d.val (imm ++ (k.rw d.val).setWidth 16)
def execHlMovh (e : Fin 8) (d : Fin 16) (imm : BitVec 16) (s : State) : Out := s.go (·.hl e.val (hsMovh d imm))

/-- ICMP (R113). -/
def hsIcmp (p : Bool) (cond : Fin 10) (x y : Fin 16) : HlStep := fun s _ _ k =>
  compareRes s k p (icmpCond cond.val (k.rw x.val) (k.rw y.val)) (k.flags (subRes (k.rw x.val) (k.rw y.val) false))
def execHlIcmp (e : Fin 8) (p : Bool) (cond : Fin 10) (x y : Fin 16) (s : State) : Out := s.go (·.hl e.val (hsIcmp p cond x y))

/-- ICMPI (R113). -/
def hsIcmpi (p : Bool) (cond : Fin 8) (x : Fin 16) (imm : BitVec 14) : HlStep := fun s _ _ k =>
  compareRes s k p (icmpiCond cond.val (k.rw x.val) (imm.signExtend 32))
    (k.flags (subRes (k.rw x.val) (imm.signExtend 32) false))
def execHlIcmpi (e : Fin 8) (p : Bool) (cond : Fin 8) (x : Fin 16) (imm : BitVec 14) (s : State) : Out := s.go (·.hl e.val (hsIcmpi p cond x imm))

/-- SHL (R114). -/
def hsShl (d x y : Fin 16) : HlStep := onBank 2 fun k => k.result d.val (shiftRes .shl (k.rw x.val) ((k.rw y.val).toNat % 32))
def execHlShl (e : Fin 8) (d x y : Fin 16) (s : State) : Out := s.go (·.hl e.val (hsShl d x y))

/-- SHR (R114). -/
def hsShr (d x y : Fin 16) : HlStep := onBank 2 fun k => k.result d.val (shiftRes .shr (k.rw x.val) ((k.rw y.val).toNat % 32))
def execHlShr (e : Fin 8) (d x y : Fin 16) (s : State) : Out := s.go (·.hl e.val (hsShr d x y))

/-- SAR (R114). -/
def hsSar (d x y : Fin 16) : HlStep := onBank 2 fun k => k.result d.val (shiftRes .sar (k.rw x.val) ((k.rw y.val).toNat % 32))
def execHlSar (e : Fin 8) (d x y : Fin 16) (s : State) : Out := s.go (·.hl e.val (hsSar d x y))

/-- ROL (R114). -/
def hsRol (d x y : Fin 16) : HlStep := onBank 2 fun k => k.result d.val (shiftRes .rol (k.rw x.val) ((k.rw y.val).toNat % 32))
def execHlRol (e : Fin 8) (d x y : Fin 16) (s : State) : Out := s.go (·.hl e.val (hsRol d x y))

/-- SHLI (R114). -/
def hsShli (d x : Fin 16) (n : Fin 32) : HlStep := onBank 2 fun k => k.result d.val (shiftRes .shl (k.rw x.val) n.val)
def execHlShli (e : Fin 8) (d x : Fin 16) (n : Fin 32) (s : State) : Out := s.go (·.hl e.val (hsShli d x n))

/-- SHRI (R114). -/
def hsShri (d x : Fin 16) (n : Fin 32) : HlStep := onBank 2 fun k => k.result d.val (shiftRes .shr (k.rw x.val) n.val)
def execHlShri (e : Fin 8) (d x : Fin 16) (n : Fin 32) (s : State) : Out := s.go (·.hl e.val (hsShri d x n))

/-- SARI (R114). -/
def hsSari (d x : Fin 16) (n : Fin 32) : HlStep := onBank 2 fun k => k.result d.val (shiftRes .sar (k.rw x.val) n.val)
def execHlSari (e : Fin 8) (d x : Fin 16) (n : Fin 32) (s : State) : Out := s.go (·.hl e.val (hsSari d x n))

/-- ROLI (R114). -/
def hsRoli (d x : Fin 16) (n : Fin 32) : HlStep := onBank 2 fun k => k.result d.val (shiftRes .rol (k.rw x.val) n.val)
def execHlRoli (e : Fin 8) (d x : Fin 16) (n : Fin 32) (s : State) : Out := s.go (·.hl e.val (hsRoli d x n))

/-- LDB (R114). -/
def hsLdb (x : Fin 16) (n : Fin 32) : HlStep := onBank 1 fun k => { k with ba := ((k.rw x.val).getLsbD n.val) }
def execHlLdb (e : Fin 8) (x : Fin 16) (n : Fin 32) (s : State) : Out := s.go (·.hl e.val (hsLdb x n))

/-- PLDB (R114). -/
def hsPldb (x : Fin 16) (n : Fin 32) : HlStep := fun s _ _ k =>
  match k.push with
  | some k => .ok s { k with ba := ((k.rw x.val).getLsbD n.val) } 1
  | none => .fault s fBstk
def execHlPldb (e : Fin 8) (x : Fin 16) (n : Fin 32) (s : State) : Out := s.go (·.hl e.val (hsPldb x n))

/-- STB (R114). -/
def hsStb (d : Fin 16) (n : Fin 32) : HlStep := onBank 1 fun k => k.setW d.val (setBitOf (k.rw d.val) n.val k.ba)
def execHlStb (e : Fin 8) (d : Fin 16) (n : Fin 32) (s : State) : Out := s.go (·.hl e.val (hsStb d n))

/-- BTW (R114). -/
def hsBtw (d : Fin 16) : HlStep := onBank 1 fun k => k.setW d.val (if k.ba then 1 else 0)
def execHlBtw (e : Fin 8) (d : Fin 16) (s : State) : Out := s.go (·.hl e.val (hsBtw d))

/-- WTB (R114). -/
def hsWtb (x : Fin 16) : HlStep := onBank 1 fun k => { k with ba := k.rw x.val != 0 }
def execHlWtb (e : Fin 8) (x : Fin 16) (s : State) : Out := s.go (·.hl e.val (hsWtb x))

/-- ANDB (R114). -/
def hsAndb (x : Fin 16) (n : Fin 32) : HlStep := onBank 1 fun k => { k with ba := k.ba && ((k.rw x.val).getLsbD n.val) }
def execHlAndb (e : Fin 8) (x : Fin 16) (n : Fin 32) (s : State) : Out := s.go (·.hl e.val (hsAndb x n))

/-- ORB (R114). -/
def hsOrb (x : Fin 16) (n : Fin 32) : HlStep := onBank 1 fun k => { k with ba := k.ba || ((k.rw x.val).getLsbD n.val) }
def execHlOrb (e : Fin 8) (x : Fin 16) (n : Fin 32) (s : State) : Out := s.go (·.hl e.val (hsOrb x n))

/-- LDW (R115). -/
def hsLdw (d : Fin 16) (sp : Fin 8) (addr : BitVec 19) : HlStep := load (.direct sp addr) 1 false fun k ws => k.setW d.val (ws.headD 0)
def execHlLdw (e : Fin 8) (d : Fin 16) (sp : Fin 8) (addr : BitVec 19) (s : State) : Out := s.go (·.hl e.val (hsLdw d sp addr))

/-- STW (R115). -/
def hsStw (d : Fin 16) (sp : Fin 8) (addr : BitVec 19) : HlStep := store (.direct sp addr) false fun k => [k.rw d.val]
def execHlStw (e : Fin 8) (d : Fin 16) (sp : Fin 8) (addr : BitVec 19) (s : State) : Out := s.go (·.hl e.val (hsStw d sp addr))

/-- LDX (R115). -/
def hsLdx (d : Fin 16) (sp : Fin 8) (wb : Fin 16) (ofs : BitVec 15) : HlStep := load (.indexed sp wb ofs) 1 false fun k ws => k.setW d.val (ws.headD 0)
def execHlLdx (e : Fin 8) (d : Fin 16) (sp : Fin 8) (wb : Fin 16) (ofs : BitVec 15) (s : State) : Out := s.go (·.hl e.val (hsLdx d sp wb ofs))

/-- STX (R115). -/
def hsStx (d : Fin 16) (sp : Fin 8) (wb : Fin 16) (ofs : BitVec 15) : HlStep := store (.indexed sp wb ofs) false fun k => [k.rw d.val]
def execHlStx (e : Fin 8) (d : Fin 16) (sp : Fin 8) (wb : Fin 16) (ofs : BitVec 15) (s : State) : Out := s.go (·.hl e.val (hsStx d sp wb ofs))

/-- FLD (R115). -/
def hsFld (d : Fin 8) (sp : Fin 8) (addr : BitVec 19) : HlStep := load (.direct sp addr) 2 true fun k ws => k.setF d.val (ws.getD 1 0 ++ ws.getD 0 0)
def execHlFld (e : Fin 8) (d : Fin 8) (sp : Fin 8) (addr : BitVec 19) (s : State) : Out := s.go (·.hl e.val (hsFld d sp addr))

/-- FST (R115). -/
def hsFst (d : Fin 8) (sp : Fin 8) (addr : BitVec 19) : HlStep := store (.direct sp addr) true fun k => [(k.rf d.val).setWidth 32, ((k.rf d.val) >>> 32).setWidth 32]
def execHlFst (e : Fin 8) (d : Fin 8) (sp : Fin 8) (addr : BitVec 19) (s : State) : Out := s.go (·.hl e.val (hsFst d sp addr))

/-- FLDX (R115). -/
def hsFldx (d : Fin 8) (sp : Fin 8) (wb : Fin 16) (ofs : BitVec 15) : HlStep := load (.indexed sp wb ofs) 2 true fun k ws => k.setF d.val (ws.getD 1 0 ++ ws.getD 0 0)
def execHlFldx (e : Fin 8) (d : Fin 8) (sp : Fin 8) (wb : Fin 16) (ofs : BitVec 15) (s : State) : Out := s.go (·.hl e.val (hsFldx d sp wb ofs))

/-- FSTX (R115). -/
def hsFstx (d : Fin 8) (sp : Fin 8) (wb : Fin 16) (ofs : BitVec 15) : HlStep := store (.indexed sp wb ofs) true fun k => [(k.rf d.val).setWidth 32, ((k.rf d.val) >>> 32).setWidth 32]
def execHlFstx (e : Fin 8) (d : Fin 8) (sp : Fin 8) (wb : Fin 16) (ofs : BitVec 15) (s : State) : Out := s.go (·.hl e.val (hsFstx d sp wb ofs))

/-- BR (R116). -/
def hsBr (cond : Fin 15) (target : BitVec 17) : HlStep := fun s e _ k =>
  if !s.inCode e target.toNat then .fault s ⟨10, target.toNat⟩
  else
    match brCond cond.val k.z k.n k.v k.c k.ba with
    | some true => .ok s { k with idx := target.toNat } 2
    | some false => .ok s k 1
    | none => .fault s fIllegal
def execHlBr (e : Fin 8) (cond : Fin 15) (target : BitVec 17) (s : State) : Out := s.go (·.hl e.val (hsBr cond target))

/-- CALL (R117). -/
def hsCall (frame : BitVec 8) (target : BitVec 17) : HlStep := fun s e _ k =>
  if !s.inCode e target.toNat then .fault s ⟨10, target.toNat⟩
  else if 32 ≤ k.calls.length || 4096 ≤ k.fp + frame.toNat * 4 then .fault s ⟨9, 0⟩
  else .ok s { k with idx := target.toNat, fp := k.fp + frame.toNat * 4, calls := (k.idx, k.fp) :: k.calls } 3
def execHlCall (e : Fin 8) (frame : BitVec 8) (target : BitVec 17) (s : State) : Out := s.go (·.hl e.val (hsCall frame target))

/-- FADD (R119). -/
def hsFadd (d x y : Fin 8) : HlStep := onBank 4 fun k => k.fresult d.val (nanFree 0 (k.rf x.val) (k.rf y.val) 0 (fadd64 (k.rf x.val) (k.rf y.val)))
def execHlFadd (e : Fin 8) (d x y : Fin 8) (s : State) : Out := s.go (·.hl e.val (hsFadd d x y))

/-- FSUB (R119). -/
def hsFsub (d x y : Fin 8) : HlStep := onBank 4 fun k => k.fresult d.val (nanFree 1 (k.rf x.val) (k.rf y.val) 0 (fsub64 (k.rf x.val) (k.rf y.val)))
def execHlFsub (e : Fin 8) (d x y : Fin 8) (s : State) : Out := s.go (·.hl e.val (hsFsub d x y))

/-- FMUL (R119). -/
def hsFmul (d x y : Fin 8) : HlStep := onBank 4 fun k => k.fresult d.val (nanFree 2 (k.rf x.val) (k.rf y.val) 0 (fmul64 (k.rf x.val) (k.rf y.val)))
def execHlFmul (e : Fin 8) (d x y : Fin 8) (s : State) : Out := s.go (·.hl e.val (hsFmul d x y))

/-- FDIV (R119). -/
def hsFdiv (d x y : Fin 8) : HlStep := onBank 20 fun k => k.fresult d.val (nanFree 3 (k.rf x.val) (k.rf y.val) 0 (fdiv64 (k.rf x.val) (k.rf y.val)))
def execHlFdiv (e : Fin 8) (d x y : Fin 8) (s : State) : Out := s.go (·.hl e.val (hsFdiv d x y))

/-- FSQRT (R119). -/
def hsFsqrt (d x : Fin 8) : HlStep := onBank 20 fun k => k.fresult d.val (nanFree 4 (k.rf x.val) 0 0 (fsqrt64 (k.rf x.val)))
def execHlFsqrt (e : Fin 8) (d x : Fin 8) (s : State) : Out := s.go (·.hl e.val (hsFsqrt d x))

/-- FMADD (R119). -/
def hsFmadd (d x y : Fin 8) : HlStep := onBank 4 fun k => k.fresult d.val (nanFree 5 (k.rf x.val) (k.rf y.val) (k.rf d.val) (fma64 (k.rf x.val) (k.rf y.val) (k.rf d.val)))
def execHlFmadd (e : Fin 8) (d x y : Fin 8) (s : State) : Out := s.go (·.hl e.val (hsFmadd d x y))

/-- FMIN (R119). -/
def hsFmin (d x y : Fin 8) : HlStep := onBank 2 fun k => k.fresult d.val (nanFree 6 (k.rf x.val) (k.rf y.val) 0 (fpick true (k.rf x.val) (k.rf y.val)))
def execHlFmin (e : Fin 8) (d x y : Fin 8) (s : State) : Out := s.go (·.hl e.val (hsFmin d x y))

/-- FMAX (R119). -/
def hsFmax (d x y : Fin 8) : HlStep := onBank 2 fun k => k.fresult d.val (nanFree 7 (k.rf x.val) (k.rf y.val) 0 (fpick false (k.rf x.val) (k.rf y.val)))
def execHlFmax (e : Fin 8) (d x y : Fin 8) (s : State) : Out := s.go (·.hl e.val (hsFmax d x y))

/-- FABS (R119). -/
def hsFabs (d x : Fin 8) : HlStep := onBank 2 fun k => k.fresult d.val ((k.rf x.val) &&& 0x7FFFFFFFFFFFFFFF)
def execHlFabs (e : Fin 8) (d x : Fin 8) (s : State) : Out := s.go (·.hl e.val (hsFabs d x))

/-- FNEG (R119). -/
def hsFneg (d x : Fin 8) : HlStep := onBank 2 fun k => k.fresult d.val ((k.rf x.val) ^^^ 0x8000000000000000)
def execHlFneg (e : Fin 8) (d x : Fin 8) (s : State) : Out := s.go (·.hl e.val (hsFneg d x))

/-- FMOV (R119). -/
def hsFmov (d x : Fin 8) : HlStep := onBank 2 fun k => k.fresult d.val (k.rf x.val)
def execHlFmov (e : Fin 8) (d x : Fin 8) (s : State) : Out := s.go (·.hl e.val (hsFmov d x))

/-- FCMP_COMPARE (R120). -/
def hsFcmpCompare (p : Bool) (cond : Fin 7) (x y : Fin 8) : HlStep := fun s _ _ k =>
  let o := (d64 (k.rf x.val)).cmp (d64 (k.rf y.val))
  compareRes s k p (fcmpCond cond.val o) { k with z := o == some .eq, n := o == some .lt, v := o == none, c := false }
def execHlFcmpCompare (e : Fin 8) (p : Bool) (cond : Fin 7) (x y : Fin 8) (s : State) : Out := s.go (·.hl e.val (hsFcmpCompare p cond x y))

/-- FCVTW (R120). -/
def hsFcvtw (d : Fin 8) (x : Fin 16) : HlStep := onBank 4 fun k => k.fresult d.val (e64 (Fl.ofInt (k.rw x.val).toInt))
def execHlFcvtw (e : Fin 8) (d : Fin 8) (x : Fin 16) (s : State) : Out := s.go (·.hl e.val (hsFcvtw d x))

/-- FCVTU (R120). -/
def hsFcvtu (d : Fin 8) (x : Fin 16) : HlStep := onBank 4 fun k => k.fresult d.val (e64 (Fl.ofInt (k.rw x.val).toNat))
def execHlFcvtu (e : Fin 8) (d : Fin 8) (x : Fin 16) (s : State) : Out := s.go (·.hl e.val (hsFcvtu d x))

/-- WCVTF (R120). -/
def hsWcvtf (d : Fin 16) (x : Fin 8) : HlStep := onBank 4 fun k => k.result d.val (vRes (toWordSat true (d64 (k.rf x.val))).1 (toWordSat true (d64 (k.rf x.val))).2)
def execHlWcvtf (e : Fin 8) (d : Fin 16) (x : Fin 8) (s : State) : Out := s.go (·.hl e.val (hsWcvtf d x))

/-- WTRF (R120). -/
def hsWtrf (d : Fin 16) (x : Fin 8) : HlStep := onBank 4 fun k => k.result d.val (vRes (toWordSat false (d64 (k.rf x.val))).1 (toWordSat false (d64 (k.rf x.val))).2)
def execHlWtrf (e : Fin 8) (d : Fin 16) (x : Fin 8) (s : State) : Out := s.go (·.hl e.val (hsWtrf d x))

/-- FCVTS (R120). -/
def hsFcvts (d : Fin 8) (x : Fin 16) : HlStep := onBank 4 fun k => k.fresult d.val (nanFree 8 ((k.rw x.val).setWidth 64) 0 0 (widen (k.rw x.val)))
def execHlFcvts (e : Fin 8) (d : Fin 8) (x : Fin 16) (s : State) : Out := s.go (·.hl e.val (hsFcvts d x))

/-- SCVTF (R120). -/
def hsScvtf (d : Fin 16) (x : Fin 8) : HlStep := onBank 4 fun k => k.sresult d.val (nanFree32 (k.rf x.val) (narrow (k.rf x.val)))
def execHlScvtf (e : Fin 8) (d : Fin 16) (x : Fin 8) (s : State) : Out := s.go (·.hl e.val (hsScvtf d x))

/-- TON (R122, R123). -/
def hsTon (x : Bool) (wn : Fin 16) (idx : BitVec 12) : HlStep := timerOp x wn idx tonOp
def execHlTon (e : Fin 8) (x : Bool) (wn : Fin 16) (idx : BitVec 12) (s : State) : Out := s.go (·.hl e.val (hsTon x wn idx))

/-- TOF (R122, R123). -/
def hsTof (x : Bool) (wn : Fin 16) (idx : BitVec 12) : HlStep := timerOp x wn idx tofOp
def execHlTof (e : Fin 8) (x : Bool) (wn : Fin 16) (idx : BitVec 12) (s : State) : Out := s.go (·.hl e.val (hsTof x wn idx))

/-- TP (R122, R123). -/
def hsTp (x : Bool) (wn : Fin 16) (idx : BitVec 12) : HlStep := timerOp x wn idx tpOp
def execHlTp (e : Fin 8) (x : Bool) (wn : Fin 16) (idx : BitVec 12) (s : State) : Out := s.go (·.hl e.val (hsTp x wn idx))

/-- TRST (R122). -/
def hsTrst (x : Bool) (wn : Fin 16) (idx : BitVec 12) : HlStep := timerOp x wn idx trstOp
def execHlTrst (e : Fin 8) (x : Bool) (wn : Fin 16) (idx : BitVec 12) (s : State) : Out := s.go (·.hl e.val (hsTrst x wn idx))

/-- CTU (R124). -/
def hsCtu (x : Bool) (wn : Fin 16) (idx : BitVec 12) : HlStep := counterOp x wn idx ctuOp
def execHlCtu (e : Fin 8) (x : Bool) (wn : Fin 16) (idx : BitVec 12) (s : State) : Out := s.go (·.hl e.val (hsCtu x wn idx))

/-- CTD (R124). -/
def hsCtd (x : Bool) (wn : Fin 16) (idx : BitVec 12) : HlStep := counterOp x wn idx ctdOp
def execHlCtd (e : Fin 8) (x : Bool) (wn : Fin 16) (idx : BitVec 12) (s : State) : Out := s.go (·.hl e.val (hsCtd x wn idx))

/-- CRST (R124). -/
def hsCrst (x : Bool) (wn : Fin 16) (idx : BitVec 12) : HlStep := counterOp x wn idx crstOp
def execHlCrst (e : Fin 8) (x : Bool) (wn : Fin 16) (idx : BitVec 12) (s : State) : Out := s.go (·.hl e.val (hsCrst x wn idx))

/-- CLDV (R124). -/
def hsCldv (x : Bool) (wn : Fin 16) (idx : BitVec 12) : HlStep := counterOp x wn idx cldvOp
def execHlCldv (e : Fin 8) (x : Bool) (wn : Fin 16) (idx : BitVec 12) (s : State) : Out := s.go (·.hl e.val (hsCldv x wn idx))

/-- HRD (R126). -/
def hsHrd (d x : Fin 16) : HlStep := fun s _ _ k =>
  let h := k.rw x.val
  if !validHandle h then .fault s ⟨12, h.toNat⟩
  else if s.handleWaits h then .stall
  else
    match s.handleLine h with
    | (s', false) => .fault s' ⟨13, 0⟩
    | (s', true) => let p := s'.hread h; .ok s' { k.setW d.val p.val with z := isZero p.val, n := isNeg p.val, c := p.valid } 6
def execHlHrd (e : Fin 8) (d x : Fin 16) (s : State) : Out := s.go (·.hl e.val (hsHrd d x))

/-- HWR (R127). -/
def hsHwr (x y : Fin 16) : HlStep := fun s e t k => handleWrite false (k.rw x.val) (k.rw y.val) 6 s e t k
def execHlHwr (e : Fin 8) (x y : Fin 16) (s : State) : Out := s.go (·.hl e.val (hsHwr x y))

/-- HRDF (R126). -/
def hsHrdf (d : Fin 8) (x : Fin 16) : HlStep := fun s _ _ k =>
  let h := k.rw x.val
  if !validHandle h || s.kind h != .f32 then .fault s ⟨12, h.toNat⟩
  else
    let p := s.hread h
    let v := nanFree 9 (p.val.setWidth 64) 0 0 (widen p.val)
    .ok s { k.setF d.val v with z := fIsZero (d64 v), n := fIsNeg (d64 v), c := p.valid } 8
def execHlHrdf (e : Fin 8) (d : Fin 8) (x : Fin 16) (s : State) : Out := s.go (·.hl e.val (hsHrdf d x))

/-- HWRF (R126, R127). -/
def hsHwrf (x : Fin 16) (y : Fin 8) : HlStep := fun s e t k =>
  let h := k.rw x.val
  if !validHandle h || s.kind h != .f32 then .fault s ⟨12, h.toNat⟩
  else handleWrite false h (nanFree32 (k.rf y.val) (narrow (k.rf y.val))) 8 s e t k
def execHlHwrf (e : Fin 8) (x : Fin 16) (y : Fin 8) (s : State) : Out := s.go (·.hl e.val (hsHwrf x y))

/-- VLD (R126). -/
def hsVld (x : Fin 16) : HlStep := fun s e t k =>
  let w := (k.rw x.val).toNat
  if w < 16384 && s.hasILine e t (w / 4) then .ok s { k with ba := (tabGet Pt.none k.snap w).valid } 2
  else .fault s ⟨3, memInfo 0 w⟩
def execHlVld (e : Fin 8) (x : Fin 16) (s : State) : Out := s.go (·.hl e.val (hsVld x))

/-- TSNAP (R128). -/
def hsTsnap (d : Fin 16) : HlStep := fun s _ _ k =>
  if d.val % 2 = 1 then .fault s fIllegal
  else .ok s ((k.setW d.val (k.stamp.setWidth 32)).setW (d.val + 1) ((k.stamp >>> 32).setWidth 32)) 2
def execHlTsnap (e : Fin 8) (d : Fin 16) (s : State) : Out := s.go (·.hl e.val (hsTsnap d))

/-- TEXE (R128). -/
def hsTexe (d : Fin 16) : HlStep := onBank 2 fun k => k.setW d.val (BitVec.ofNat 32 (min k.ns 0xFFFFFFFF))
def execHlTexe (e : Fin 8) (d : Fin 16) (s : State) : Out := s.go (·.hl e.val (hsTexe d))

/-- EVT (R128, R130). -/
def hsEvt (x y : Fin 16) (imm : BitVec 8) : HlStep := fun s e t k =>
  let n := imm.toNat
  let a := (k.rw y.val + BitVec.ofNat 32 k.fp).toNat
  let priv := s.taskPriv e t
  let code := k.rw x.val
  if 16 < n then .fault s fIllegal
  else if 0 < n && 4096 < a + n then .fault s ⟨7, memInfo 3 (max a 4096)⟩
  else if !priv && !(0xE000 ≤ code.toNat && code.toNat ≤ 0xEFFF) then .ok s { k with c := false } (4 + n)
  else .ok (s.offerCode (peSrc e) (code.setWidth 16) priv ((upto n).map fun i => tabGet 0 k.lmem (a + i)))
    { k with c := true } (4 + n)
def execHlEvt (e : Fin 8) (x y : Fin 16) (imm : BitVec 8) (s : State) : Out := s.go (·.hl e.val (hsEvt x y imm))

end Sys2Proof.Machine
end

