-- ==== Sys2Proof/Machine/HlPriv.lean ====
section
/-! DEFINITION. The instructions of HiWard-L that reach over the bus, the mailboxes and the engines' modes (R128, R132,
R133), and single stepping (R91). -/

namespace Sys2Proof.Machine

/-- MPOST (R128, R421): a privileged task posts in the secure state (R420). -/
def hsMpost (d x y : Fin 16) : HlStep := fun s e t k =>
  if d.val % 2 = 1 then .fault s fIllegal
  else
    let m := (k.rw x.val).toNat
    let h : Dbl := k.rw (d.val + 1) ++ k.rw d.val
    let sec := s.bit (A.PE_TASK_CTL e t) F.PE_TASK_CTL_PRIV
    if 64 ≤ m then .ok s { k.setW d.val 2 with c := false } 8
    else
      let (s, r) := s.mbxPost m (e + 1) sec false h (k.rw y.val)
      let code : Word := match r with | .posted => 0 | .full => 1 | .error _ => 2
      .ok s { k.setW d.val code with c := code == 0 } 8
def execHlMpost (e : Fin 8) (d x y : Fin 16) (s : State) : Out := s.go (·.hl e.val (hsMpost d x y))

/-- MRECV (R128, R423). -/
def hsMrecv (d x : Fin 16) : HlStep := fun s e _ k =>
  if d.val % 4 != 0 then .fault s fIllegal
  else
    let m := (k.rw x.val).toNat
    match (if m < 64 then s.endOf m (e + 1) else none) with
    | none => .ok s { k with c := false } 8
    | some n =>
      match s.mbxTake m n with
      | (s, none) => .ok s { k with c := false } 8
      | (s, some x) =>
        let k := (k.setW d.val (x.handle.setWidth 32)).setW (d.val + 1) ((x.handle >>> 32).setWidth 32)
        .ok s { (k.setW (d.val + 2) x.tag).setW (d.val + 3) x.stamp with c := true } 8
def execHlMrecv (e : Fin 8) (d x : Fin 16) (s : State) : Out := s.go (·.hl e.val (hsMrecv d x))

/-- A PRIV instruction: only in a privileged task (R132). -/
def privileged (f : HlStep) : HlStep := fun s e t k =>
  if s.bit (A.PE_TASK_CTL e t) F.PE_TASK_CTL_PRIV then f s e t k else .fault s fPriv

/-- The access of an engine over the bus. -/
def engAcc (e : Nat) : Acc := ⟨Fin.ofNat 15 (7 + e % 8), true⟩

/-- PRD (R132, R133). A synced standby takes the value that the primary got, a synced primary sends its own (R393). -/
def hsPrd (d x : Fin 16) : HlStep := privileged fun s e _ k =>
  let put (s : Dev) (v : Word) (c : Bool) : HlRes := .ok s { k.setW d.val v with c := c } 20
  if s.standby then
    match tabGet [] s.duo.prd e with
    | (v, c) :: rest => put { s with duo := { s.duo with prd := tabPut [] s.duo.prd e rest } } v c
    | [] => .stall
  else
    let s := s.barRead (engAcc e) (k.rw x.val).toNat
    let c := s.busOk
    let v := if c then s.busWord else 0
    put (s.collect 9 (BitVec.ofNat 32 e) v (if c then 1 else 0) []) v c
def execHlPrd (e : Fin 8) (d x : Fin 16) (s : State) : Out := s.go (·.hl e.val (hsPrd d x))

/-- PWR (R132, R133): the write takes effect with the instruction. -/
def hsPwr (x y : Fin 16) : HlStep := privileged fun s e _ k =>
  let s := s.barWrite (engAcc e) (k.rw x.val).toNat (k.rw y.val)
  .ok s { k with c := s.busOk } 20
def execHlPwr (e : Fin 8) (x y : Fin 16) (s : State) : Out := s.go (·.hl e.val (hsPwr x y))

/-- PMODE (R132, R133): a policy handler's request, coded as PE_CTL.REQ. -/
def hsPmode (x y : Fin 16) : HlStep := privileged fun s _ _ k =>
  let n := (k.rw x.val).toNat % 8
  let q := (k.rw y.val).toNat % 4
  let s := if q = 1 then s.reqRun n else if q = 2 then s.reqStop n true else if q = 3 then s.reqHold n true else s
  .ok s k 4
def execHlPmode (e : Fin 8) (x y : Fin 16) (s : State) : Out := s.go (·.hl e.val (hsPmode x y))

/-- PHWR (R132): as HWR, with any M word writable. -/
def hsPhwr (x y : Fin 16) : HlStep := privileged fun s e t k => handleWrite true (k.rw x.val) (k.rw y.val) 6 s e t k
def execHlPhwr (e : Fin 8) (x y : Fin 16) (s : State) : Out := s.go (·.hl e.val (hsPhwr x y))

/-! ## Single stepping (R91) -/

/-- DBG_STEP (R91): the next instruction of the held task may execute. -/
def execDbgStep (e : Fin 8) (s : State) : Out := s.go (·.dbgWrite e.val false)
/-- DBG_CYC (R91): the instructions of the held task may execute up to the end of its forces phase. -/
def execDbgCyc (e : Fin 8) (s : State) : Out := s.go (·.dbgWrite e.val true)

end Sys2Proof.Machine
end

