-- ==== Sys2Proof/Machine/Start.lean ====
section
/-! DEFINITION. The choice of a start and the tick on which control resumes (R458-R463), with what each unit's state
returns as (R97, R178, R211, R223, R242, R245, R262, R278, R281, R321, R333, R353, R372, R389, R426). Log 51. -/

namespace Sys2Proof.Machine

def stResume : Nat := 1
def stCold : Nat := 2
def stFactory : Nat := 3

/-- A line of the save bank was poisoned by the restore, or reads wrongly: its digest differs. -/
def Dev.saveLost (s : Dev) : Bool :=
  let here (l : Nat) : Bool := bankOfLine l == s.saveBank
  let bad (f : LineFind) : Bool := f == .uncorrectable || f == .wrong
  s.pool.poison.any (fun x => here x.1 && x.2) || s.pool.errs.any (fun x => here x.1 && bad (lineFind x.1 x.2))

/-- Type and CAUSE of a start; `known` says that firmware knows the save's format. The first rule that applies. -/
def Dev.startType (s : Dev) (known : Bool) : Nat × Nat :=
  let pol := s.get A.SYS_START_CFG F.SYS_START_CFG_RESPOL
  let late := !s.bit A.AON_CAL_STAT F.AON_CAL_STAT_VALID ||
    decide (s.get A.SYS_START_CFG F.SYS_START_CFG_MAXOFF < s.offTime.toNat)
  if s.power.kind = rkFactory then (stFactory, 0)
  else if s.lifecycle = lcBlank || s.lifecycle = lcRetired then (stCold, 8)
  else if s.power.kind = rkCold then (stCold, 7)
  else
    match s.power.mark with
    | none => (stCold, 1)
    | some m =>
      if !known then (stCold, 6)
      else if s.saveLost then (stCold, 2)
      else if m.banks.any (fun b => s.owner b == 0xFF) then (stCold, 5)
      else if pol = 0 then (stCold, 3)
      else if pol = 2 && late then (stCold, 4)
      else (stResume, 0)

/-- Code and command that an output drives until its first write after a COLD start (R242, R278). -/
def Dev.aoCold (s : Dev) (m : Nat) : Word :=
  if s.bit (A.ANA_AO_CTL m) F.ANA_AO_CTL_PFM then sextHalf (s.get (A.ANA_AO_SAFE m) F.ANA_AO_SAFE_PFV) else 0
def Dev.dqCold (s : Dev) (n : Nat) : Word := (dqStateCmd (s.get (A.DIO_DQ_CTL n) F.DIO_DQ_CTL_PFM)).getD 0

/-- START_DECISION (R458): the outputs behave as their start type says from here on (R462). -/
def Dev.startDecision (s : Dev) (known : Bool) : Dev :=
  if s.phase == .starting then
    let (ty, cause) := s.startType known
    let s := (s.set A.SYS_START_STAT F.SYS_START_STAT_TYPE ty).set A.SYS_START_STAT F.SYS_START_STAT_CAUSE cause
    let s := s.onPower fun p => { p with phase := .started }
    if ty = stCold then s.takePf s.aoCold s.dqCold
    else if ty = stFactory then s.takePf (fun _ => 0) (fun _ => 0)
    else s
  else s
def execStartDecision (known : Bool) (s : State) : Out := s.go (·.startDecision known)

/-! ## RESUME -/

/-- Ticks from t_p to T_r, by which instants kept in ticks move on. -/
def Dev.away (s : Dev) : Nat := s.ticks - s.power.tp
/-- An instant kept as a tick plus one, 0 for none. -/
def moveOn (d t : Nat) : Nat := if t = 0 then 0 else t + d

/-- Enabled periodic ABSOLUTE comparators move to the first instant of their grid after the seeded time (R461). -/
def Dev.ttResume (s : Dev) : Dev :=
  s.each 64 fun s n =>
    let c := s.reg (A.TIME_TT_CTL n)
    let cmp := (s.pair (A.TIME_TT_CMP_LO n)).toNat
    let per := s.ttPeriod n
    if F.TIME_TT_CTL_EN.of c = 1 && F.TIME_TT_CTL_MODE.of c == 1 && F.TIME_TT_CTL_STEP.of c == 0 && decide (cmp ≤ s.ts.toNat) &&
        per != 0 then
      s.setPair (A.TIME_TT_CMP_LO n) (BitVec.ofNat 64 (cmp + ((s.ts.toNat - cmp) / per + 1) * per))
    else s

/-- Engines: cycles, latches and transfers go on from where they stood (R97). -/
def Dev.enginesResume (s : Dev) : Dev :=
  let d := s.away
  s.each 128 fun s k =>
    let x := tabGet Task.idle s.tasks k
    if x.phase = .none then s else { s with tasks := tabPut Task.idle s.tasks k { x with readyAt := x.readyAt + d } }

/-- A slot's lines in its tile's bank read as poisoned. -/
def Dev.slotPoisoned (s : Dev) (g : Nat) : Bool :=
  let l := (bankBase (s.get (A.LT_CFG (g / 64)) F.LT_CFG_BANK) + g % 64 * 256) / 16
  (upto 16).any (fun k => s.poisoned (l + k) || lineFind (l + k) (s.lineErrs (l + k)) == .uncorrectable)

/-- Loop slots: samples due while unpowered are no overruns (R178); a poisoned slot is OFF (R152). -/
def Dev.loopsResume (s : Dev) : Dev :=
  let d := s.away
  let s := s.loopSlots.foldl (fun s g => s.onLoop g fun l => { l with
    lastSample := moveOn d l.lastSample, rampTick := moveOn d l.rampTick, rampStart := l.rampStart + d }) s
  let s := s.each 8 fun s n =>
    s.set (A.LT_STAT n) F.LT_STAT_ACTIVE ((upto 64).filter (fun k => s.slotMode (64 * n + k) != 0)).length
  s.each 512 fun s g =>
    if (s.tile (g / 64)).accepted && s.slotPoisoned g then
      s.slotDo g fun s =>
        let s := if s.slotMode g = 0 then s else s.setSlotMode g 0 false
        (s.set (slotStat g) F.LT_SLOT_STAT_CAUSE causePoison).offer (ltSrc g) 0x06 .loopCondition
    else s

/-- The pages of a context that lay in volatile banks are fetched again. -/
def Dev.ctxRefetch (s : Dev) (n : Nat) : Dev :=
  (s.ctx n).pages.foldl (fun s p =>
    if 48 * 128 ≤ p.2 - 1 then
      let s := s.onCtx n fun c => { c with pages := tabPut 0 c.pages p.1 0, asked := c.asked ++ [(p.1, true)] }
      { s with fetches := tabPut [] s.fetches (n / 8) (tabGet [] s.fetches (n / 8) ++ [⟨n, p.1, p.2 - 1, true⟩]) }
    else s) s

/-- A context goes on by its step's policy, after its pages have come (R211). -/
def Dev.ctxResume (s : Dev) (n : Nat) : Dev :=
  let d := s.away
  let s := s.ctxRefetch n
  let s := s.onCtx n fun c => { c with waiting := c.waiting.map (fun w => { w with tick := w.tick + d }) }
  if s.ctxMode n != cmRunning then s
  else
    match (s.ctx n).waiting with
    | some w => if w.ready then s.after (.ctxEnter n) else s
    | none =>
      match s.stepRec n (s.ctx n).step with
      | (s, .fault c) => s.ctxFault n c
      | (s, .need p) => (s.pageAsk n p true).onCtx n fun c => { c with waiting := some ⟨none, trOther, s.ticks, false⟩ }
      | (s, .ok r) => s.ctxGoesOn n r

/-- Glue-up slots that were launched and not final are FREE (R223). -/
def Dev.gluResume (s : Dev) (n : Nat) : Dev :=
  let st := s.gluState n
  if st = gsArming || st = gsArmed || st = gsCommit || st = gsReport then
    ((s.setGluState n gsFree).offer 0x43 0x07 .gluCleared).loopGlueDrop n
  else s

/-- Outputs drive their saved codes and commands (R242, R278). -/
def Dev.outputsResume (s : Dev) : Dev :=
  let s := s.each 16 fun s m =>
    ((s.setAo m { s.ao m with pf := none, waiting := some s.ticks }).set (A.ANA_AO_STAT m) F.ANA_AO_STAT_PF 0)
  s.each 32 fun s n =>
    let s := ((s.setDq n { s.dq n with pf := none, fout := [] }).set (A.DIO_DQ_STAT n) F.DIO_DQ_STAT_PF 0).dqChanged n
    s.setDq n { s.dq n with pwmKey := s.dqKey n, pwm := none, pwmOn := false, pwmFrom := s.ticks }

/-- Converters begin a round at entry 0: at once in CONTINUOUS, on the next fire in TIMED (R245). -/
def Dev.adcResume (s : Dev) (n : Nat) : Dev :=
  s.onAdc n fun c => { c with
    busy := 0, idx := 0, due := if s.adcMode n = adcContinuous then some s.ns else none }

/-- Position channels: PWRGAP, HOMED under RESV, velocity history (R262). -/
def Dev.posResume (s : Dev) (n : Nat) : Dev :=
  let a := A.POS_STAT n
  let s := s.raise a F.POS_STAT_PWRGAP
  let s := if s.bit (A.POS_CTL n) F.POS_CTL_RESV then s.set a F.POS_STAT_HOMED 0 else s
  s.onPos n fun p => { p.restart with cum := 0, hist := [], histStart := s.ns / 1000 + 1, countNs := 0, ivl := 0, ivlDiv := 1 }

/-- Inputs restart their debounce from the first sample (R281). -/
def Dev.diResume (s : Dev) : Dev :=
  let s := s.each 8 fun s g => s.setDiGrp g { s.diGrp g with window := false, now := false }
  s.each 64 Dev.diRestart

/-- CAN channels integrate before their head contends, and their stations time out from here (R353); Ethernet stations are
present until TMO passes (R372). -/
def Dev.stationsResume (s : Dev) : Dev :=
  let d := s.away
  let s := s.each 16 fun s n =>
    let s := s.onCan n fun c => { c with seen := c.seen.map (fun x => (x.1, moveOn d x.2)) }
    (if s.canMode n = canConfig then s else s.set (A.CN_STAT n) F.CN_STAT_INTEG 1).canShow n
  s.each 64 fun s j =>
    (s.set (A.ETH_RXO_CFG j) F.ETH_RXO_CFG_ABS 0).onEth fun e => { e with seen := tabPut 0 e.seen j (s.ticks + 1) }

/-- The recorder goes on: START marker, every entry pending, delivery from RD on (R321). -/
def Dev.recResume (s : Dev) : Dev :=
  let s := s.onRec fun r => { r with halted := false, stored := [], prevCond := [] }
  if s.recEnabled then
    (((s.setReg A.REC_HB_WR (s.reg A.REC_HB_RD)).recPendAll).recMark false true false).recUpdate
  else s

/-- Capture units show their queues again. -/
def Dev.cuResume (s : Dev) : Dev := s.each 32 fun s u => s.setCuQueue u (s.cuQueue u)

/-- A dovetail member that has started has no role yet (R392). -/
def Dev.duoStart (s : Dev) (resume : Bool) : Dev :=
  let s := s.onDuo fun x => { x with
    deciding := none, resume := resume, partner := none, seen := [], hbSent := 0, request := false, syncNext := false,
    cur := 0, txEpoch := 0, txIdx := 0, ends := [], msAt := [], digests := [], switch := false, taken := [],
    inbox := if resume then x.inbox else [], cover := if resume then x.cover else 0,
    endsIn := [], digestIn := [], handover := none, replay := false, prd := [], unacked := [], mirLost := 0, takeover := none }
  let s := { s with duoSet := [], duoOuts := [] }
  if s.duoOn then (s.setSync dsOut).onDuo fun x => { x with deciding := some s.ticks } else s

/-- Everything takes up its restored state together. -/
def Dev.resumeStart (s : Dev) : Dev :=
  let s := ((s.ttResume.enginesResume.loopsResume).each 16 Dev.ctxResume).each 32 Dev.gluResume
  let s := (((s.outputsResume).each 8 Dev.adcResume).each 16 Dev.posResume).diResume
  let s := s.stationsResume.recResume.cuResume
  (s.set A.SYS_FRC_STAT F.SYS_FRC_STAT_USED s.forces.length).duoStart true

/-! ## COLD and FACTORY -/

/-- Registers of domain RET that a COLD start keeps: those whose chapters say so (R211, R321, R333, R353, R372, R72). -/
def coldBases : List Nat :=
  [A.SEQ_CTX_PROG 0, A.SEQ_UNIT_CFG 0, A.EVR_NEXT, A.EVR_OLDEST, A.EVR_LOSS, A.EVR_LIM_STAT 0, A.EVR_STAT, A.EVR_CFG,
   A.REC_SEQ, A.ETH_TXO_SEQ 0]

/-- The register entry stands after a COLD or FACTORY start. -/
def startKeeps (factory : Bool) (k : Nat) : Bool :=
  match regAt (k % 0x4000000) with
  | some d => d.dom != .ret || (!factory && coldBases.contains d.base)
  | none => false

/-- MEM_BANK_STAT after a start that assigns the owners anew: repairs stand, and FAILED banks. -/
def bankStart (w : Word) : Word :=
  let w' := putBits (putBits 0 F.MEM_BANK_STAT_SOFT.hi F.MEM_BANK_STAT_SOFT.lo (F.MEM_BANK_STAT_SOFT.of w))
    F.MEM_BANK_STAT_FUSED.hi F.MEM_BANK_STAT_FUSED.lo (F.MEM_BANK_STAT_FUSED.of w)
  if F.MEM_BANK_STAT_OWNER.of w = 0xFF then putBits w' F.MEM_BANK_STAT_OWNER.hi F.MEM_BANK_STAT_OWNER.lo 0xFF else w'

/-- The recorder as it stands before its configuration comes. -/
def Recorder.restart (r : Recorder) (factory : Bool) : Recorder :=
  if factory then { Dev.reset.recorder with hostMem := r.hostMem }
  else { Dev.reset.recorder with pages := r.pages, oldest := r.oldest, released := r.released, hostMem := r.hostMem }

/-- The device with every unit at its reset state but for what a start keeps. -/
def Dev.unitsReset (s : Dev) (factory : Bool) : Dev :=
  let d : Dev := { Dev.reset with
    regs := s.regs.filter (fun r => startKeeps factory r.1), bus := s.bus, ticks := s.ticks, free := s.free, start := s.start,
    mem := s.mem, time := s.time, cal := s.cal, scribe := s.scribe, recorder := s.recorder.restart factory,
    forces := if factory then [] else s.forces, counters := if factory then [] else s.counters, sent := s.sent,
    halted := s.halted, hwSet := s.hwSet, supply := s.supply, fuses := s.fuses, sec := s.sec, staging := s.staging,
    store := s.store, sysfwNext := s.sysfwNext, sysfw := s.sysfw, policyNext := s.policyNext, halfDigest := s.halfDigest,
    saf := s.saf, sofBase := s.sofBase, power := s.power, recovery := s.recovery,
    cans := if factory then [] else s.cans.foldl (fun t x => tabPut .init t x.1 { Can.init with seqs := x.2.seqs }) [],
    adcs := if factory then [] else s.adcs.foldl (fun t x => tabPut .init t x.1 { Adc.init with calRef := x.2.calRef }) [],
    pool := { s.pool with
      pageOf := if factory then [] else s.pool.pageOf.filter (fun x => x.2 == 81), pageReqs := [], relReq := [] } }
  d.each 80 fun d b => d.setReg (A.MEM_BANK_STAT b) (bankStart (s.reg (A.MEM_BANK_STAT b)))

/-- The Scribe after a FACTORY start: an empty ring, NEXT at 0 (R333). -/
def Dev.scribeFactory (s : Dev) : Dev :=
  s.onScribe fun c => { c with ring := [], pos := 0, linesDone := 0, queue := [], losses := [] }

/-- Epochs of the mailbox identities at a COLD start (R426). -/
def Dev.epochsCold (s old : Dev) : Dev :=
  s.each 256 fun s i => if identOk i then s.set (A.MBX_EPOCH i) F.MBX_EPOCH_EPOCH (old.epochOf i + 1) else s

/-- An output drives a code or command with VALID clear until its first write. -/
def Dev.outputsStart (s old : Dev) : Dev :=
  let s := s.each 16 fun s m =>
    let c := ((old.ao m).pf).getD 0
    (s.setAo m { Ao.init with driven := (old.ao m).driven, waiting := some s.ticks }).storePoint (aoHandle m) ⟨c, false⟩
  s.each 32 fun s n => (s.storePoint (dqHandle n) ⟨((old.dq n).pf).getD 0, false⟩).dqChanged n

/-! ### The owner policy image (R433, R437, R438, R458) -/

/-- Value that the image names for a register. -/
def policyReg (rs : List (Nat × Word)) (a : Nat) : Option Word := (rs.find? (fun r => r.1 == a)).map (·.2)

/-- The pending image, when it passes again: its key stands, its version is not below the minimum, and it leaves the save
bank to the supervisor cores. -/
def Dev.policyPasses (s : Dev) : Option Img :=
  match s.policyNext with
  | some i =>
    let rs := Config.policyRegs i.payload
    let save := ((policyReg rs A.SYS_START_CFG).map F.SYS_START_CFG_SAVEBANK.of).getD 0x2F
    let owner := ((policyReg rs (A.MEM_BANK_CTL save)).map F.MEM_BANK_CTL_OWNER.of).getD 0x38
    if s.enrolled i.slot && !s.revoked i.slot && decide (s.get A.SEC_MINVER F.SEC_MINVER_POLICY ≤ i.version) && owner == 0x38
    then some i else none
  | none => none

/-- The tables of an image. -/
def policyOf (i : Img) : Policy :=
  let place (x : Nat × Nat × Word) : Place := ⟨x.1, x.2.1, x.2.2⟩
  ⟨(Config.policyIn i.payload).map place, (Config.policyOut i.payload).map place, Config.policyGrants i.payload,
   Config.policyRegs i.payload, Config.policyRun i.payload⟩

/-- A bank gets its owner and windows at a start; with a change of the security state against its owner before, it is
written with zeros (R63). -/
def Dev.bankAssign (s old : Dev) (b : Nat) (v : Word) : Dev :=
  let code := F.MEM_BANK_CTL_OWNER.of v
  if s.owner b = 0xFF || !ownerCodes.contains code then s
  else
    let s := if secureOwner code == secureOwner (old.owner b) then s else s.zeroBank b
    let a := A.MEM_BANK_CTL b
    let s := (s.set (A.MEM_BANK_STAT b) F.MEM_BANK_STAT_OWNER code).set a F.MEM_BANK_CTL_OWNER code
    (s.set a F.MEM_BANK_CTL_UWIN (F.MEM_BANK_CTL_UWIN.of v)).set a F.MEM_BANK_CTL_PWIN (F.MEM_BANK_CTL_PWIN.of v)

/-- Banks are assigned before anything else of the image, then the save bank. -/
def Dev.banksStart (s old : Dev) (rs : List (Nat × Word)) : Dev :=
  let s := s.each 80 fun s b => match policyReg rs (A.MEM_BANK_CTL b) with
    | some v => s.bankAssign old b v
    | none => s
  let save := ((policyReg rs A.SYS_START_CFG).map F.SYS_START_CFG_SAVEBANK.of).getD 0x2F
  s.bankAssign old save 0x38

/-- The other registers of the image, as the supervisor cores write them. -/
def Dev.regsStart (s : Dev) (rs : List (Nat × Word)) : Dev :=
  let bank (a : Nat) : Bool := decide (0x40000 ≤ a) && decide (a < 0x40500) && a % 16 == 0
  let b := s.bus
  let s := rs.foldl (fun s r => if bank r.1 || r.1 == A.REC_CTL then s else s.busWrite ⟨3, true⟩ r.1 r.2) s
  { s with bus := b, swWrote := [] }

/-- The recorder after its configuration (R321, R310): the ring goes on when the image enables it with the pages that
stand; else it is freed. -/
def Dev.recStart (s : Dev) (ctl : Word) : Dev :=
  let s := s.set (A.MEM_RM_SUB 80) F.MEM_RM_SUB_OUT s.recorder.pages.length
  let s := (s.setReg A.REC_HB_RD s.recorder.released).setReg A.REC_HB_WR s.recorder.released
  let on := F.REC_CTL_EN.of ctl == 1
  let fits := !s.recorder.pages.isEmpty && s.recorder.pages.length == s.get A.REC_RING F.REC_RING_PAGES
  let s := (s.set A.REC_CTL F.REC_CTL_MODE (F.REC_CTL_MODE.of ctl)).set A.REC_CTL F.REC_CTL_SINK (F.REC_CTL_SINK.of ctl)
  if on && fits then
    let s := s.set A.REC_CTL F.REC_CTL_EN 1
    (if s.recWindow then s.startWindow else ((s.setRecState recRun).recPendAll).recMark false true false).recUpdate
  else
    let s := if s.recorder.pages.isEmpty then s else (s.set A.REC_CTL F.REC_CTL_EN 1).recDisable
    if on then s.recEnable ctl else s.recUpdate

/-- Gate lists of the image wait for the first fire of their comparators (R356). -/
def Dev.gatesStart (s : Dev) (i : Img) : Dev :=
  (Config.policyGates i.payload).foldl (fun s x => s.onPort x.1 fun p => { p with gatesNew := some x.2.2, gateTt := x.2.1 }) s

/-- Q regions stand at their stop values, VALID clear (R97, R84). -/
def Dev.qStart (s : Dev) : Dev :=
  s.each 128 fun s k =>
    if s.bit (A.PE_QREG (k / 16) (k % 16)) F.PE_QREG_EN then s.regionStop (k / 16) (k % 16) else s

/-- A minimum version rises to an image that advances it (R438). -/
def Dev.minverUp (s : Dev) (f : Fld) (i : Option Img) : Dev :=
  match i with
  | some x => if x.adv then s.set A.SEC_MINVER f (max (s.get A.SEC_MINVER f) x.version) else s
  | none => s
def Dev.minverRaise (s : Dev) : Dev := (s.minverUp F.SEC_MINVER_SYSFW s.sysfw).minverUp F.SEC_MINVER_POLICY s.policyImg

/-- The source of the time base is what the seed gave (R38). -/
def Dev.srcStart (s : Dev) : Dev :=
  (s.set A.TIME_CTL F.TIME_CTL_SRC (if s.bit A.AON_CAL_STAT F.AON_CAL_STAT_VALID then 1 else 0)).setOffsync

/-- A COLD start. -/
def Dev.coldStart (old : Dev) : Dev :=
  let s := ((old.unitsReset false).epochsCold old).outputsStart old
  let s := { s with policyImg := s.policyPasses }
  let s := match s.policyImg with
    | none => ((s.banksStart old []).srcStart).recStart 0
    | some i =>
      let p := policyOf i
      let s := ({ s with policy := p }.banksStart old p.regs).regsStart p.regs
      let s := (s.gatesStart i).recStart ((policyReg p.regs A.REC_CTL).getD 0)
      let s := p.run.foldl Dev.reqRun s.qStart
      s.srcStart
  let s := s.onRec fun r => { r with halted := false }
  ((s.set A.SYS_FRC_STAT F.SYS_FRC_STAT_USED s.forces.length).minverRaise).duoStart false

/-- A FACTORY start. -/
def Dev.factoryStart (old : Dev) : Dev :=
  ((((old.unitsReset true).scribeFactory).outputsStart old).srcStart).duoStart false

/-- CONTROL_RESUME (R460): on T_r, once the time base is seeded, every unit takes up its state; the marker is invalid from
here on. -/
def Dev.controlResume (s : Dev) : Dev :=
  if s.phase == .started && !s.time.seedReq then
    let ty := s.get A.SYS_START_STAT F.SYS_START_STAT_TYPE
    let s := { s with halted := false }
    let s := if ty = stResume then s.resumeStart else if ty = stCold then s.coldStart else s.factoryStart
    let s := s.onPower fun p => { p with phase := .run, mark := none }
    { s with halted := false }.set A.SYS_START_STAT F.SYS_START_STAT_SAVED 0
  else s
def execControlResume (s : State) : Out := s.go Dev.controlResume

end Sys2Proof.Machine
end

