-- ==== Sys2Proof/Machine/Dispatch.lean ====
section
/-! DEFINITION. The dispatch of a command to its meaning: one arm per constructor of `Instr`, each a direct call of
the meaning, which is defined in a file of Machine/. -/

namespace Sys2Proof.Machine

/-- The effect of a command on everything but the queue. -/
def exec (i : Instr) (s : State) : Host.Outcome State Fault Refusal :=
  match i with
  | .registerWrite acc off v => Sys2Proof.Machine.execRegisterWrite acc off v s
  | .undefinedAccess acc off size write => Sys2Proof.Machine.execUndefinedAccess acc off size write s
  | .uViewViolation req off write => Sys2Proof.Machine.execUViewViolation req off write s
  | .uviolClr => Sys2Proof.Machine.execUviolClr s
  | .readLoLatch req off => Sys2Proof.Machine.execReadLoLatch req off s
  | .stageLo req off v => Sys2Proof.Machine.execStageLo req off v s
  | .commitHi acc off v => Sys2Proof.Machine.execCommitHi acc off v s
  | .timeNowRead req => Sys2Proof.Machine.execTimeNowRead req s
  | .addendCommit req v => Sys2Proof.Machine.execAddendCommit req v s
  | .timeStep req v => Sys2Proof.Machine.execTimeStep req v s
  | .ofsEstWrite v => Sys2Proof.Machine.execOfsEstWrite v s
  | .seed => Sys2Proof.Machine.execSeed s
  | .seedApply => Sys2Proof.Machine.execSeedApply s
  | .calCommit req v => Sys2Proof.Machine.execCalCommit req v s
  | .calLoad => Sys2Proof.Machine.execCalLoad s
  | .calTickRead req => Sys2Proof.Machine.execCalTickRead req s
  | .secondCrossing => Sys2Proof.Machine.execSecondCrossing s
  | .calWriteback => Sys2Proof.Machine.execCalWriteback s
  | .ppsFall => Sys2Proof.Machine.execPpsFall s
  | .comparatorFire n => Sys2Proof.Machine.execComparatorFire n s
  | .trgOutPulseEnd n => Sys2Proof.Machine.execTrgOutPulseEnd n s
  | .captureEdge inp rising ps => Sys2Proof.Machine.execCaptureEdge inp rising ps s
  | .cuPop n => Sys2Proof.Machine.execCuPop n s
  | .cuClr n => Sys2Proof.Machine.execCuClr n s
  | .windowAccess acc addr size data same => Sys2Proof.Machine.execWindowAccess acc addr size data same s
  | .scrubRead bank bits => Sys2Proof.Machine.execScrubRead bank bits s
  | .scrubWriteback bank => Sys2Proof.Machine.execScrubWriteback bank s
  | .relreq bank => Sys2Proof.Machine.execRelreq bank s
  | .relcan bank => Sys2Proof.Machine.execRelcan bank s
  | .bankRelease bank => Sys2Proof.Machine.execBankRelease bank s
  | .ownerWrite bank v => Sys2Proof.Machine.execOwnerWrite bank v s
  | .wipeDone bank => Sys2Proof.Machine.execWipeDone bank s
  | .jigGo v => Sys2Proof.Machine.execJigGo v s
  | .jigDone fails => Sys2Proof.Machine.execJigDone fails s
  | .jigBgRegion fails => Sys2Proof.Machine.execJigBgRegion fails s
  | .pageAlloc => Sys2Proof.Machine.execPageAlloc s
  | .pageFree sub page => Sys2Proof.Machine.execPageFree sub page s
  | .codeWrite e v => Sys2Proof.Machine.execCodeWrite e v s
  | .regionWrite e q k v => Sys2Proof.Machine.execRegionWrite e q k v s
  | .taskMaskWrite e t v => Sys2Proof.Machine.execTaskMaskWrite e t v s
  | .taskEnable e t v => Sys2Proof.Machine.execTaskEnable e t v s
  | .tcresWrite e v => Sys2Proof.Machine.execTcresWrite e v s
  | .mmapWrite k v => Sys2Proof.Machine.execMmapWrite k v s
  | .reqRun e => Sys2Proof.Machine.execReqRun e s
  | .reqStop e => Sys2Proof.Machine.execReqStop e s
  | .reqHold e => Sys2Proof.Machine.execReqHold e s
  | .engineStop e => Sys2Proof.Machine.execEngineStop e s
  | .engineWake e => Sys2Proof.Machine.execEngineWake e s
  | .taskStart e => Sys2Proof.Machine.execTaskStart e s
  | .taskResume e => Sys2Proof.Machine.execTaskResume e s
  | .watchdogExpiry e => Sys2Proof.Machine.execWatchdogExpiry e s
  | .dbgStep e => Sys2Proof.Machine.execDbgStep e s
  | .dbgCyc e => Sys2Proof.Machine.execDbgCyc e s
  | .brkWrite e k v => Sys2Proof.Machine.execBrkWrite e k v s
  | .hlLd e op => Sys2Proof.Machine.execHlLd e op s
  | .hlLdn e op => Sys2Proof.Machine.execHlLdn e op s
  | .hlBmAnd e op => Sys2Proof.Machine.execHlBmAnd e op s
  | .hlBmAndn e op => Sys2Proof.Machine.execHlBmAndn e op s
  | .hlBmOr e op => Sys2Proof.Machine.execHlBmOr e op s
  | .hlOrn e op => Sys2Proof.Machine.execHlOrn e op s
  | .hlBmXor e op => Sys2Proof.Machine.execHlBmXor e op s
  | .hlXorn e op => Sys2Proof.Machine.execHlXorn e op s
  | .hlSt e op => Sys2Proof.Machine.execHlSt e op s
  | .hlStn e op => Sys2Proof.Machine.execHlStn e op s
  | .hlSet e op => Sys2Proof.Machine.execHlSet e op s
  | .hlRst e op => Sys2Proof.Machine.execHlRst e op s
  | .hlPld e op => Sys2Proof.Machine.execHlPld e op s
  | .hlPldn e op => Sys2Proof.Machine.execHlPldn e op s
  | .hlRedg e op => Sys2Proof.Machine.execHlRedg e op s
  | .hlFedg e op => Sys2Proof.Machine.execHlFedg e op s
  | .hlNop e => Sys2Proof.Machine.execHlNop e s
  | .hlEnd e => Sys2Proof.Machine.execHlEnd e s
  | .hlBkpt e => Sys2Proof.Machine.execHlBkpt e s
  | .hlRet e => Sys2Proof.Machine.execHlRet e s
  | .hlPush e => Sys2Proof.Machine.execHlPush e s
  | .hlPop e => Sys2Proof.Machine.execHlPop e s
  | .hlAnds e => Sys2Proof.Machine.execHlAnds e s
  | .hlOrs e => Sys2Proof.Machine.execHlOrs e s
  | .hlXors e => Sys2Proof.Machine.execHlXors e s
  | .hlNotba e => Sys2Proof.Machine.execHlNotba e s
  | .hlSetba e => Sys2Proof.Machine.execHlSetba e s
  | .hlClrba e => Sys2Proof.Machine.execHlClrba e s
  | .hlZtb e => Sys2Proof.Machine.execHlZtb e s
  | .hlNtb e => Sys2Proof.Machine.execHlNtb e s
  | .hlVtb e => Sys2Proof.Machine.execHlVtb e s
  | .hlCtb e => Sys2Proof.Machine.execHlCtb e s
  | .hlClrf e => Sys2Proof.Machine.execHlClrf e s
  | .hlAdd e d x y => Sys2Proof.Machine.execHlAdd e d x y s
  | .hlAdc e d x y => Sys2Proof.Machine.execHlAdc e d x y s
  | .hlSub e d x y => Sys2Proof.Machine.execHlSub e d x y s
  | .hlSbc e d x y => Sys2Proof.Machine.execHlSbc e d x y s
  | .hlAnd e d x y => Sys2Proof.Machine.execHlAnd e d x y s
  | .hlOr e d x y => Sys2Proof.Machine.execHlOr e d x y s
  | .hlXor e d x y => Sys2Proof.Machine.execHlXor e d x y s
  | .hlAndn e d x y => Sys2Proof.Machine.execHlAndn e d x y s
  | .hlNot e d x => Sys2Proof.Machine.execHlNot e d x s
  | .hlNeg e d x => Sys2Proof.Machine.execHlNeg e d x s
  | .hlAbs e d x => Sys2Proof.Machine.execHlAbs e d x s
  | .hlMov e d x => Sys2Proof.Machine.execHlMov e d x s
  | .hlMin e d x y => Sys2Proof.Machine.execHlMin e d x y s
  | .hlMax e d x y => Sys2Proof.Machine.execHlMax e d x y s
  | .hlMinu e d x y => Sys2Proof.Machine.execHlMinu e d x y s
  | .hlMaxu e d x y => Sys2Proof.Machine.execHlMaxu e d x y s
  | .hlMul e d x y => Sys2Proof.Machine.execHlMul e d x y s
  | .hlMulh e d x y => Sys2Proof.Machine.execHlMulh e d x y s
  | .hlMulhu e d x y => Sys2Proof.Machine.execHlMulhu e d x y s
  | .hlDiv e d x y => Sys2Proof.Machine.execHlDiv e d x y s
  | .hlDivu e d x y => Sys2Proof.Machine.execHlDivu e d x y s
  | .hlRem e d x y => Sys2Proof.Machine.execHlRem e d x y s
  | .hlRemu e d x y => Sys2Proof.Machine.execHlRemu e d x y s
  | .hlAddi e d x imm => Sys2Proof.Machine.execHlAddi e d x imm s
  | .hlAndi e d x imm => Sys2Proof.Machine.execHlAndi e d x imm s
  | .hlOri e d x imm => Sys2Proof.Machine.execHlOri e d x imm s
  | .hlXori e d x imm => Sys2Proof.Machine.execHlXori e d x imm s
  | .hlMuli e d x imm => Sys2Proof.Machine.execHlMuli e d x imm s
  | .hlMovi e d imm => Sys2Proof.Machine.execHlMovi e d imm s
  | .hlMovu e d imm => Sys2Proof.Machine.execHlMovu e d imm s
  | .hlMovh e d imm => Sys2Proof.Machine.execHlMovh e d imm s
  | .hlIcmp e p cond x y => Sys2Proof.Machine.execHlIcmp e p cond x y s
  | .hlIcmpi e p cond x imm => Sys2Proof.Machine.execHlIcmpi e p cond x imm s
  | .hlShl e d x y => Sys2Proof.Machine.execHlShl e d x y s
  | .hlShr e d x y => Sys2Proof.Machine.execHlShr e d x y s
  | .hlSar e d x y => Sys2Proof.Machine.execHlSar e d x y s
  | .hlRol e d x y => Sys2Proof.Machine.execHlRol e d x y s
  | .hlShli e d x n => Sys2Proof.Machine.execHlShli e d x n s
  | .hlShri e d x n => Sys2Proof.Machine.execHlShri e d x n s
  | .hlSari e d x n => Sys2Proof.Machine.execHlSari e d x n s
  | .hlRoli e d x n => Sys2Proof.Machine.execHlRoli e d x n s
  | .hlLdb e x n => Sys2Proof.Machine.execHlLdb e x n s
  | .hlPldb e x n => Sys2Proof.Machine.execHlPldb e x n s
  | .hlStb e d n => Sys2Proof.Machine.execHlStb e d n s
  | .hlBtw e d => Sys2Proof.Machine.execHlBtw e d s
  | .hlWtb e x => Sys2Proof.Machine.execHlWtb e x s
  | .hlAndb e x n => Sys2Proof.Machine.execHlAndb e x n s
  | .hlOrb e x n => Sys2Proof.Machine.execHlOrb e x n s
  | .hlLdw e d sp addr => Sys2Proof.Machine.execHlLdw e d sp addr s
  | .hlStw e d sp addr => Sys2Proof.Machine.execHlStw e d sp addr s
  | .hlLdx e d sp wb ofs => Sys2Proof.Machine.execHlLdx e d sp wb ofs s
  | .hlStx e d sp wb ofs => Sys2Proof.Machine.execHlStx e d sp wb ofs s
  | .hlFld e d sp addr => Sys2Proof.Machine.execHlFld e d sp addr s
  | .hlFst e d sp addr => Sys2Proof.Machine.execHlFst e d sp addr s
  | .hlFldx e d sp wb ofs => Sys2Proof.Machine.execHlFldx e d sp wb ofs s
  | .hlFstx e d sp wb ofs => Sys2Proof.Machine.execHlFstx e d sp wb ofs s
  | .hlBr e cond target => Sys2Proof.Machine.execHlBr e cond target s
  | .hlCall e frame target => Sys2Proof.Machine.execHlCall e frame target s
  | .hlFadd e d x y => Sys2Proof.Machine.execHlFadd e d x y s
  | .hlFsub e d x y => Sys2Proof.Machine.execHlFsub e d x y s
  | .hlFmul e d x y => Sys2Proof.Machine.execHlFmul e d x y s
  | .hlFdiv e d x y => Sys2Proof.Machine.execHlFdiv e d x y s
  | .hlFsqrt e d x => Sys2Proof.Machine.execHlFsqrt e d x s
  | .hlFmadd e d x y => Sys2Proof.Machine.execHlFmadd e d x y s
  | .hlFmin e d x y => Sys2Proof.Machine.execHlFmin e d x y s
  | .hlFmax e d x y => Sys2Proof.Machine.execHlFmax e d x y s
  | .hlFabs e d x => Sys2Proof.Machine.execHlFabs e d x s
  | .hlFneg e d x => Sys2Proof.Machine.execHlFneg e d x s
  | .hlFmov e d x => Sys2Proof.Machine.execHlFmov e d x s
  | .hlFcmpCompare e p cond x y => Sys2Proof.Machine.execHlFcmpCompare e p cond x y s
  | .hlFcvtw e d x => Sys2Proof.Machine.execHlFcvtw e d x s
  | .hlFcvtu e d x => Sys2Proof.Machine.execHlFcvtu e d x s
  | .hlWcvtf e d x => Sys2Proof.Machine.execHlWcvtf e d x s
  | .hlWtrf e d x => Sys2Proof.Machine.execHlWtrf e d x s
  | .hlFcvts e d x => Sys2Proof.Machine.execHlFcvts e d x s
  | .hlScvtf e d x => Sys2Proof.Machine.execHlScvtf e d x s
  | .hlTon e x wn idx => Sys2Proof.Machine.execHlTon e x wn idx s
  | .hlTof e x wn idx => Sys2Proof.Machine.execHlTof e x wn idx s
  | .hlTp e x wn idx => Sys2Proof.Machine.execHlTp e x wn idx s
  | .hlTrst e x wn idx => Sys2Proof.Machine.execHlTrst e x wn idx s
  | .timerExpiry n => Sys2Proof.Machine.execTimerExpiry n s
  | .hlCtu e x wn idx => Sys2Proof.Machine.execHlCtu e x wn idx s
  | .hlCtd e x wn idx => Sys2Proof.Machine.execHlCtd e x wn idx s
  | .hlCrst e x wn idx => Sys2Proof.Machine.execHlCrst e x wn idx s
  | .hlCldv e x wn idx => Sys2Proof.Machine.execHlCldv e x wn idx s
  | .hlHrd e d x => Sys2Proof.Machine.execHlHrd e d x s
  | .hlHwr e x y => Sys2Proof.Machine.execHlHwr e x y s
  | .hlHrdf e d x => Sys2Proof.Machine.execHlHrdf e d x s
  | .hlHwrf e x y => Sys2Proof.Machine.execHlHwrf e x y s
  | .hlVld e x => Sys2Proof.Machine.execHlVld e x s
  | .hlTsnap e d => Sys2Proof.Machine.execHlTsnap e d s
  | .hlTexe e d => Sys2Proof.Machine.execHlTexe e d s
  | .hlMpost e d x y => Sys2Proof.Machine.execHlMpost e d x y s
  | .hlMrecv e d x => Sys2Proof.Machine.execHlMrecv e d x s
  | .hlEvt e x y imm => Sys2Proof.Machine.execHlEvt e x y imm s
  | .hlPrd e d x => Sys2Proof.Machine.execHlPrd e d x s
  | .hlPwr e x y => Sys2Proof.Machine.execHlPwr e x y s
  | .hlPmode e x y => Sys2Proof.Machine.execHlPmode e x y s
  | .hlPhwr e x y => Sys2Proof.Machine.execHlPhwr e x y s
  | .switchGap e => Sys2Proof.Machine.execSwitchGap e s
  | .switchDrain e => Sys2Proof.Machine.execSwitchDrain e s
  | .vnrWithdraw e => Sys2Proof.Machine.execVnrWithdraw e s
  | .veneerSwitch e => Sys2Proof.Machine.execVeneerSwitch e s
  | .switchTimeout e => Sys2Proof.Machine.execSwitchTimeout e s
  | .forceEnable req v => Sys2Proof.Machine.execForceEnable req v s
  | .forceUpdate req v => Sys2Proof.Machine.execForceUpdate req v s
  | .forceClear req => Sys2Proof.Machine.execForceClear req s
  | .ltBankWrite n v => Sys2Proof.Machine.execLtBankWrite n v s
  | .descriptorWrite req g k v => Sys2Proof.Machine.execDescriptorWrite req g k v s
  | .hardLimitWrite g hi v => Sys2Proof.Machine.execHardLimitWrite g hi v s
  | .slotOff g glu => Sys2Proof.Machine.execSlotOff g glu s
  | .openHold g glu => Sys2Proof.Machine.execOpenHold g glu s
  | .openManual g glu => Sys2Proof.Machine.execOpenManual g glu s
  | .closeZero g glu => Sys2Proof.Machine.execCloseZero g glu s
  | .closePreset g glu => Sys2Proof.Machine.execClosePreset g glu s
  | .closeUser g glu => Sys2Proof.Machine.execCloseUser g glu s
  | .slotWithdraw g glu => Sys2Proof.Machine.execSlotWithdraw g glu s
  | .tileWake n => Sys2Proof.Machine.execTileWake n s
  | .loopUpdate n ns => Sys2Proof.Machine.execLoopUpdate n ns s
  | .staleTimeout g => Sys2Proof.Machine.execStaleTimeout g s
  | .rampStep g => Sys2Proof.Machine.execRampStep g s
  | .fbcmdGo g => Sys2Proof.Machine.execFbcmdGo g s
  | .cclr g => Sys2Proof.Machine.execCclr g s
  | .seqBankWrite u v => Sys2Proof.Machine.execSeqBankWrite u v s
  | .progWrite n v => Sys2Proof.Machine.execProgWrite n v s
  | .ctxStart n step => Sys2Proof.Machine.execCtxStart n step s
  | .ctxPause n step => Sys2Proof.Machine.execCtxPause n step s
  | .ctxContinue n step => Sys2Proof.Machine.execCtxContinue n step s
  | .ctxAbort n step => Sys2Proof.Machine.execCtxAbort n step s
  | .ctxStop n step => Sys2Proof.Machine.execCtxStop n step s
  | .stepEvaluation n => Sys2Proof.Machine.execStepEvaluation n s
  | .rampWrite n gen => Sys2Proof.Machine.execRampWrite n gen s
  | .pageArrival u ok => Sys2Proof.Machine.execPageArrival u ok s
  | .gluBuild n => Sys2Proof.Machine.execGluBuild n s
  | .gluLaunch n => Sys2Proof.Machine.execGluLaunch n s
  | .gluCancel n => Sys2Proof.Machine.execGluCancel n s
  | .gluFree n => Sys2Proof.Machine.execGluFree n s
  | .armReceived n seg dev t => Sys2Proof.Machine.execArmReceived n seg dev t s
  | .replyReceived n part armed => Sys2Proof.Machine.execReplyReceived n part armed s
  | .gluDeadline n => Sys2Proof.Machine.execGluDeadline n s
  | .commitReceived n seg dev => Sys2Proof.Machine.execCommitReceived n seg dev s
  | .abortReceived n seg dev => Sys2Proof.Machine.execAbortReceived n seg dev s
  | .gluSwitch n => Sys2Proof.Machine.execGluSwitch n s
  | .gluNodec n => Sys2Proof.Machine.execGluNodec n s
  | .reportReceived n part switched ofs late => Sys2Proof.Machine.execReportReceived n part switched ofs late s
  | .reportWindow n => Sys2Proof.Machine.execReportWindow n s
  | .modeIdle n => Sys2Proof.Machine.execModeIdle n s
  | .modeContinuous n => Sys2Proof.Machine.execModeContinuous n s
  | .modeTimed n tt => Sys2Proof.Machine.execModeTimed n tt s
  | .entWrite n k v => Sys2Proof.Machine.execEntWrite n k v s
  | .roundStart n => Sys2Proof.Machine.execRoundStart n s
  | .conversionDone n code ovr => Sys2Proof.Machine.execConversionDone n code ovr s
  | .anaCal n => Sys2Proof.Machine.execAnaCal n s
  | .calibrationRound n ref => Sys2Proof.Machine.execCalibrationRound n ref s
  | .resRead req n k => Sys2Proof.Machine.execResRead req n k s
  | .aoHclm req m on => Sys2Proof.Machine.execAoHclm req m on s
  | .aoValWrite req m v => Sys2Proof.Machine.execAoValWrite req m v s
  | .aoUpdate m => Sys2Proof.Machine.execAoUpdate m s
  | .posCtlWrite n v => Sys2Proof.Machine.execPosCtlWrite n v s
  | .acceptedTransition n a b => Sys2Proof.Machine.execAcceptedTransition n a b s
  | .index n => Sys2Proof.Machine.execIndex n s
  | .toothEdge n => Sys2Proof.Machine.execToothEdge n s
  | .phaseStep n sin cos => Sys2Proof.Machine.execPhaseStep n sin cos s
  | .ssiFrame n before after v => Sys2Proof.Machine.execSsiFrame n before after v s
  | .publication n => Sys2Proof.Machine.execPublication n s
  | .posClr n => Sys2Proof.Machine.execPosClr n s
  | .setp n => Sys2Proof.Machine.execSetp n s
  | .digCtlWrite g v => Sys2Proof.Machine.execDigCtlWrite g v s
  | .diStateChange n level => Sys2Proof.Machine.execDiStateChange n level s
  | .wireBreak n brk => Sys2Proof.Machine.execWireBreak n brk s
  | .lpiMeasurement volt => Sys2Proof.Machine.execLpiMeasurement volt s
  | .dqHclm req n on => Sys2Proof.Machine.execDqHclm req n on s
  | .dqValWrite req n v => Sys2Proof.Machine.execDqValWrite req n v s
  | .pwmPeriod n => Sys2Proof.Machine.execPwmPeriod n s
  | .overheat n => Sys2Proof.Machine.execOverheat n s
  | .ovtRetry n => Sys2Proof.Machine.execOvtRetry n s
  | .dqRst n => Sys2Proof.Machine.execDqRst n s
  | .groupOverload g => Sys2Proof.Machine.execGroupOverload g s
  | .readbackMismatch n => Sys2Proof.Machine.execReadbackMismatch n s
  | .openLoad n => Sys2Proof.Machine.execOpenLoad n s
  | .lpMeasurement g volt => Sys2Proof.Machine.execLpMeasurement g volt s
  | .siChange k chB closed => Sys2Proof.Machine.execSiChange k chB closed s
  | .discExpiry k => Sys2Proof.Machine.execDiscExpiry k s
  | .safetyCycle ok => Sys2Proof.Machine.execSafetyCycle ok s
  | .ifault => Sys2Proof.Machine.execIfault s
  | .testPulse p b => Sys2Proof.Machine.execTestPulse p b s
  | .testPulseEnd p b low => Sys2Proof.Machine.execTestPulseEnd p b low s
  | .configure same => Sys2Proof.Machine.execConfigure same s
  | .setpw => Sys2Proof.Machine.execSetpw s
  | .logread => Sys2Proof.Machine.execLogread s
  | .readback => Sys2Proof.Machine.execReadback s
  | .lockoutEnd => Sys2Proof.Machine.execLockoutEnd s
  | .recEnrol acc e v => Sys2Proof.Machine.execRecEnrol acc e v s
  | .sweep => Sys2Proof.Machine.execSweep s
  | .ringWrite => Sys2Proof.Machine.execRingWrite s
  | .recEnable v => Sys2Proof.Machine.execRecEnable v s
  | .recDisable => Sys2Proof.Machine.execRecDisable s
  | .recArm => Sys2Proof.Machine.execRecArm s
  | .softtrig => Sys2Proof.Machine.execSofttrig s
  | .clrcnt => Sys2Proof.Machine.execClrcnt s
  | .triggerAct => Sys2Proof.Machine.execTriggerAct s
  | .hostBurst => Sys2Proof.Machine.execHostBurst s
  | .hbRdWrite v => Sys2Proof.Machine.execHbRdWrite v s
  | .recFrame => Sys2Proof.Machine.execRecFrame s
  | .refill l => Sys2Proof.Machine.execRefill l s
  | .scribeWrite => Sys2Proof.Machine.execScribeWrite s
  | .evrEnable en => Sys2Proof.Machine.execEvrEnable en s
  | .evrClr req => Sys2Proof.Machine.execEvrClr req s
  | .cursorWrite req v => Sys2Proof.Machine.execCursorWrite req v s
  | .limCfgWrite l v => Sys2Proof.Machine.execLimCfgWrite l v s
  | .canMode n m => Sys2Proof.Machine.execCanMode n m s
  | .integrationDone n => Sys2Proof.Machine.execIntegrationDone n s
  | .canPush n tag => Sys2Proof.Machine.execCanPush n tag s
  | .canCancel n tag bus sof => Sys2Proof.Machine.execCanCancel n tag bus sof s
  | .dpop n => Sys2Proof.Machine.execDpop n s
  | .recover n => Sys2Proof.Machine.execRecover n s
  | .recoveryDone n => Sys2Proof.Machine.execRecoveryDone n s
  | .canFrameSent n sof => Sys2Proof.Machine.execCanFrameSent n sof s
  | .txError n lec sof => Sys2Proof.Machine.execTxError n lec sof s
  | .canFrameReceived n w0 w1 data sof => Sys2Proof.Machine.execCanFrameReceived n w0 w1 data sof s
  | .canPop n => Sys2Proof.Machine.execCanPop n s
  | .snap n => Sys2Proof.Machine.execSnap n s
  | .stationAbsent n f => Sys2Proof.Machine.execStationAbsent n f s
  | .portModeWrite p m => Sys2Proof.Machine.execPortModeWrite p m s
  | .ethFrameReceived p bytes sync => Sys2Proof.Machine.execEthFrameReceived p bytes sync s
  | .masterLoss b => Sys2Proof.Machine.execMasterLoss b s
  | .holdoverUpdate => Sys2Proof.Machine.execHoldoverUpdate s
  | .ethStationAbsent j => Sys2Proof.Machine.execEthStationAbsent j s
  | .supervisionFrame q => Sys2Proof.Machine.execSupervisionFrame q s
  | .cellReceived p errs lseq ack nak => Sys2Proof.Machine.execCellReceived p errs lseq ack nak s
  | .portTrained p ver => Sys2Proof.Machine.execPortTrained p ver s
  | .pljFrameReceived p typ h0 h1 h2 h3 body => Sys2Proof.Machine.execPljFrameReceived p typ h0 h1 h2 h3 body s
  | .rootSync => Sys2Proof.Machine.execRootSync s
  | .delayExchange p d => Sys2Proof.Machine.execDelayExchange p d s
  | .presenceFrame => Sys2Proof.Machine.execPresenceFrame s
  | .deviceAbsent d => Sys2Proof.Machine.execDeviceAbsent d s
  | .mbxRetry m => Sys2Proof.Machine.execMbxRetry m s
  | .roleDecision => Sys2Proof.Machine.execRoleDecision s
  | .epochStart => Sys2Proof.Machine.execEpochStart s
  | .inputSetFrame => Sys2Proof.Machine.execInputSetFrame s
  | .replayEntry => Sys2Proof.Machine.execReplayEntry s
  | .econfReceived k => Sys2Proof.Machine.execEconfReceived k s
  | .cwaitExpiry => Sys2Proof.Machine.execCwaitExpiry s
  | .mirFrame seq m => Sys2Proof.Machine.execMirFrame seq m s
  | .duoResync => Sys2Proof.Machine.execDuoResync s
  | .transferDone src => Sys2Proof.Machine.execTransferDone src s
  | .heartbeat rx => Sys2Proof.Machine.execHeartbeat rx s
  | .replayDry => Sys2Proof.Machine.execReplayDry s
  | .partnerLost => Sys2Proof.Machine.execPartnerLost s
  | .duoSwitch => Sys2Proof.Machine.execDuoSwitch s
  | .duoLeave => Sys2Proof.Machine.execDuoLeave s
  | .chCfgWrite m v => Sys2Proof.Machine.execChCfgWrite m v s
  | .post acc m tag => Sys2Proof.Machine.execPost acc m tag s
  | .take req m => Sys2Proof.Machine.execTake req m s
  | .mbxRel req m => Sys2Proof.Machine.execMbxRel req m s
  | .mbxAlloc req m => Sys2Proof.Machine.execMbxAlloc req m s
  | .spiTransaction op off reads words => Sys2Proof.Machine.execSpiTransaction op off reads words s
  | .hostReset => Sys2Proof.Machine.execHostReset s
  | .info session => Sys2Proof.Machine.execInfo session s
  | .imgWrite session => Sys2Proof.Machine.execImgWrite session s
  | .imgCommit session => Sys2Proof.Machine.execImgCommit session s
  | .hostStart session => Sys2Proof.Machine.execHostStart session s
  | .hostScribe session => Sys2Proof.Machine.execHostScribe session s
  | .keyEnrol req slot page => Sys2Proof.Machine.execKeyEnrol req slot page s
  | .keyRevoke req slot page => Sys2Proof.Machine.execKeyRevoke req slot page s
  | .attest req page => Sys2Proof.Machine.execAttest req page s
  | .lcsTransition req target page => Sys2Proof.Machine.execLcsTransition req target page s
  | .idBuildDone ok => Sys2Proof.Machine.execIdBuildDone ok s
  | .tamper src => Sys2Proof.Machine.execTamper src s
  | .storeWipeDone => Sys2Proof.Machine.execStoreWipeDone s
  | .feedMeasurement va vb => Sys2Proof.Machine.execFeedMeasurement va vb s
  | .pfail => Sys2Proof.Machine.execPfail s
  | .halt cut capOk bad fails => Sys2Proof.Machine.execHalt cut capOk bad fails s
  | .holdupReady => Sys2Proof.Machine.execHoldupReady s
  | .resetN => Sys2Proof.Machine.execResetN s
  | .deviceReset watchdog => Sys2Proof.Machine.execDeviceReset watchdog s
  | .deviceColdReset => Sys2Proof.Machine.execDeviceColdReset s
  | .factoryReset => Sys2Proof.Machine.execFactoryReset s
  | .unitReset code => Sys2Proof.Machine.execUnitReset code s
  | .aonReset => Sys2Proof.Machine.execAonReset s
  | .powerGood boot capOk bad fails => Sys2Proof.Machine.execPowerGood boot capOk bad fails s
  | .startDecision known => Sys2Proof.Machine.execStartDecision known s
  | .controlResume => Sys2Proof.Machine.execControlResume s
  | .resetNRelease boot capOk bad fails => Sys2Proof.Machine.execResetNRelease boot capOk bad fails s
  | .autorevReturn => Sys2Proof.Machine.execAutorevReturn s
  | .duplicateEntryForgotten q => Sys2Proof.Machine.execDuplicateEntryForgotten q s
  | .macEntryAgeing => Sys2Proof.Machine.execMacEntryAgeing s
  | .pwmOnPhaseEnd n => Sys2Proof.Machine.execPwmOnPhaseEnd n s
  | .canReceiveError n lec eight => Sys2Proof.Machine.execCanReceiveError n lec eight s
  | .gateEntryEnd p => Sys2Proof.Machine.execGateEntryEnd p s
  | .ptpMasterSync p => Sys2Proof.Machine.execPtpMasterSync p s

end Sys2Proof.Machine
end

