-- ==== Sys2Proof/Machine/Tick.lean ====
section
/-! DEFINITION. One tick of the time base, 4 ns: what ends with the old tick, the time, what the hardware does on every tick
without a command, the effects put off to this tick, and the values that stand at its start. -/

namespace Sys2Proof.Machine

/-! ## Effects put off -/

/-- An effect that waited for this tick. Samples and step entries come once the values of the tick stand. -/
def Dev.applyLater (s : Dev) : Later → Dev
  | .owner b c w u p => s.handOver b c w u p
  | .pageFree p => s.pageFreed p
  | .outStop true n => s.dqStop n
  | .outStop false n => s.aoStop n
  | .softTrig => s.recTrigger s.ts 0 4 0
  | .policy g => s.onLoop g fun l => { l with policy := true }
  | .complete _ => s
  | .gluArm n l => s.gluArm n l
  | .gluReply n l arms => s.gluLocalReply n l arms
  | .ctxReq n req => if req = 4 then s else s.ctxReqAct n req
  | .ctxPages n => s.ctxPages n
  | .ctxEnter _ => s
  | .posClr n => s.posCleared n
  | .remote h v ok => s.coreWrite h ⟨v, ok⟩
  | .unitReset c => s.unitReset c

/-- Those of them that read handles: CASCADE samples (R159), step entries (R207), ABORT (R209). -/
def Dev.applyReader (s : Dev) : Later → Dev
  | .complete g => s.complete g
  | .ctxEnter n => s.ctxEnterLate n
  | .ctxReq n 4 => s.ctxReqAct n 4
  | _ => s

/-! ## Hardware on every tick -/

/-- A running timer over one tick: 250 make a µs of ET, which stops at PT (R123). -/
def Timer.tick (x : Timer) : Timer :=
  if !x.running || x.pt.toNat ≤ x.et.toNat then x
  else if x.ticks + 1 < 250 then { x with ticks := x.ticks + 1 }
  else { x with ticks := 0, et := x.et + 1 }

/-- Timer `n` lies in the block of an engine in RUN; timers pause in STOP and HOLD. -/
def Dev.timerRuns (s : Dev) (n : Nat) : Bool :=
  (upto 8).any (fun e =>
    let w := s.reg (A.PE_TCRES e)
    s.peMode e == 1 && decide (F.PE_TCRES_TBASE.of w * 64 ≤ n) && decide (n < (F.PE_TCRES_TBASE.of w + F.PE_TCRES_TCNT.of w) * 64))

def Dev.timersTick (s : Dev) : Dev :=
  { s with timers := s.timers.map (fun x => if s.timerRuns x.1 then (x.1, x.2.tick) else x) }

/-- The time base stands from t_p until the seed of the next start (R449, R459). -/
def Dev.timeRuns (s : Dev) : Bool :=
  !s.halted || ((s.phase == .starting || s.phase == .started || s.phase == .recovery) && !s.time.seedReq)

/-- The time of the new tick (R31). -/
def Dev.timeGoes (s : Dev) : Dev :=
  if s.timeRuns then s.timeTick
  else { s with ticks := s.ticks + 1 }.onTime fun t => { t with fired := [], crossed := none }

/-- What ends with the old tick. -/
def Dev.tickEnd (s : Dev) : Dev :=
  let s := ((s.cuTickEnd.loopEnd).scribeTick).recTick
  let s := if s.halted then s else (s.pljReads s.wrote).pljLaunch
  { s with hwSet := [], spRank := [], swWrote := [], sent := [], inReset := [], pool := { s.pool with portA := none } }

/-- Units in control over one tick (R451: none of them from t_p until T_r). `stepped`: the time base was stepped; `t0`: TS64
before the tick. -/
def Dev.unitsTick (s : Dev) (stepped : Bool) (t0 : Nat) : Dev :=
  let t1 := s.ts.toNat
  let s := ((s.timersTick.phaseTick).vnrTick).ctxTick
  let s := s.diTick stepped (if stepped then t1 - 4 else t0) t1
  let s := (s.ethTick.pljTick).duoLinks
  if s.time.crossed.isSome then s.canSecond else s

/-- The values that stand at the start of the tick (R20). -/
def Dev.snapshot (s : Dev) : Dev := { s with start := ⟨s.regs, s.points, s.forces, s.ctxs⟩ }

/-- Step 3 of the ordered save falls 2 µs after t_p (R451). -/
def Dev.saveTick (s : Dev) : Dev :=
  if s.phase == .saving && decide (s.power.tp + 500 ≤ s.ticks) then s.pfStates else s

/-- The new tick, with the supply on. -/
def Dev.tickOn (s : Dev) : Dev :=
  let s := s.tickEnd
  let stepped := !s.time.steps.isEmpty
  let t0 := s.ts.toNat
  let s := ((s.timeGoes.calTick).ppsTick).saveTick
  let s := if s.halted then s else s.unitsTick stepped t0
  let s := s.dqTick
  let ls := s.later
  let s := ls.foldl Dev.applyLater { s with later := [] }
  let s := if s.halted then s else (s.ackTick.adcTick).posTick
  let s := { s.recDetect s.wrote with wrote := [] }.snapshot
  if s.halted then s else (ls.foldl Dev.applyReader s.loopRequests).tileGate

/-- A tick (R31): without the logic supply only the crystal's clock goes on (R37). -/
def Dev.tick (s : Dev) : Dev :=
  if s.on then s.tickOn else { s with ticks := s.ticks + 1, sent := [] }.calTick

end Sys2Proof.Machine
end

