-- ==== Sys2Proof/Safety.lean ====
section
/-! DEFINITION. What counts as a safe run, in the terms that claims use. -/

namespace Sys2Proof.Machine

/-- A command completes: it answers a next state and leaves the waiting commands as they are. -/
def Completes (c : Instr) (s : State) : Prop := ∃ d, exec c s = .next { s with dev := d }

/-- A command completes with a device of which `P` holds, and leaves the waiting commands as they are. -/
def Does (c : Instr) (s : State) (P : Dev → Prop) : Prop := ∃ d, exec c s = .next { s with dev := d } ∧ P d

/-- Every register but those listed keeps its value. -/
def Dev.RegsKept (s d : Dev) (as : List Nat) : Prop := ∀ a, a ∉ as → d.reg a = s.reg a

/-- Every byte of bank memory but the `n` bytes from `a` keeps its value. -/
def Dev.BytesKept (s d : Dev) (a n : Nat) : Prop := ∀ k, (k < a ∨ a + n ≤ k) → d.byte k = s.byte k

/-- No loop slot samples on an update of the point behind a handle. -/
def Dev.Unwatched (s : Dev) (h : Word) : Prop :=
  ∀ g ∈ s.loopSlots, s.slotMode g = 0 ∨ F.LT_SLOT_TRIG_KIND.of (s.reg0 (slotBase g + 0x10)) ≠ 2 ∨ s.reg0 (slotBase g + 4) ≠ h

/-- First byte of a loop slot's 256 bytes in its tile's bank (R152). -/
def Dev.slotHome (s : Dev) (g : Nat) : Nat := bankBase (s.get (A.LT_CFG (g / 64)) F.LT_CFG_BANK) + g % 64 * 256

/-- A run stops at the first fault or refusal; a safe run of `n` steps meets none. -/
def SafeRun (n : Nat) (s : State) : Prop := ∃ t, Sys2Proof.core.run n s = .next t

/-- Bank memory and its shadow are in canonical form. -/
def Dev.MemCanonical (d : Dev) : Prop := Memory.wf d.mem = true ∧ Memory.wf d.pool.shadow = true

/-- Engine `e` is about to execute an instruction of its task `t`: in RUN, in the execute phase, its watchdog not expired, no
breakpoint in its way, and the line that holds the instruction is good. -/
def Dev.Ready (s : Dev) (e t : Nat) : Prop :=
  s.on = true ∧ s.halted = false ∧ (s.eng e).cur = some t ∧ (s.task e t).phase = .execute ∧ s.peMode e = 1 ∧
  (s.task e t).ns < s.wdtNs e t ∧ (s.breakAt e (s.task e t).idx = false ∨ (s.task e t).passBrk = true) ∧
  s.poisoned (s.fetchLine e (s.task e t).idx) = false ∧ s.lineErrs (s.fetchLine e (s.task e t).idx) = 0

/-- The task's bank as its instruction finds it: the index has moved on. -/
def Dev.hlBank (s : Dev) (e t : Nat) : Task := { s.task e t with idx := (s.task e t).idx + 1, passBrk := false }

/-- The command is an instruction that completes with the task's bank `k` at a cost of `n` ns, and nothing else. -/
def Banks (c : Instr) (s : State) (e t : Nat) (k : Task) (n : Nat) : Prop :=
  Does c s fun d => d = s.dev.setTask e t { k with ns := k.ns + n }

/-- The device after an instruction that leaves the device `y` and the task's bank `k` at a cost of `n` ns. -/
def Dev.hlAfter (y : Dev) (e t : Nat) (k : Task) (n : Nat) : Dev := (y.setTask e t { k with ns := k.ns + n }).stepped e t

/-- The command is an instruction that faults: its task is FAULTED as R135 says, with the code and information given. -/
def Faults (c : Instr) (s : State) (e t : Nat) (x : HlFault) : Prop :=
  Does c s fun d => d = (s.dev.taskFault e t x (s.dev.task e t).idx).stepped e t

end Sys2Proof.Machine
end

