-- ==== Sys2Proof/Certificates/Slice0/Obligations.lean ====
section
/-! DEFINITION. The statements of this model for the provers. -/

open Sys2Proof Sys2Proof.Machine

/-! ## The queue, the supply, the state after reset -/

/-- A step with a command at the front of the queue is that command's effect with the rest of the queue. -/
def Obligations.StepTakesFrontCommand : Prop :=
  ∀ (c : Instr) (s : State), step { s with pending := c :: s.pending } = exec c s

/-- Whatever commands stand in the queue, they all complete one after another: as many steps as there are commands in front
leave exactly the commands behind them, and the device that they leave does not depend on those behind. -/
def Obligations.QueueIsServedInOrder : Prop :=
  ∀ (d : Dev) (a b : List Instr), ∃ d', Sys2Proof.core.run a.length ⟨d, a ++ b⟩ = .next ⟨d', b⟩ ∧
    Sys2Proof.core.run a.length ⟨d, a⟩ = .next ⟨d', []⟩

/-- Without the logic supply every command but a feed measurement, power good, the reset of the always-on domain and a
tamper event changes nothing.
With no command waiting a step is one tick (the model's choice, log 1). Without the logic supply a tick moves only the
count of ticks and the calendar clock. -/
def Obligations.PoweredOffAndIdle : Prop :=
  (
    ∀ (s : State) (c : Instr), s.dev.on = false → (∀ va vb, c ≠ .feedMeasurement va vb) →
      (∀ b k x y, c ≠ .powerGood b k x y) → c ≠ .aonReset → (∀ k, c ≠ .tamper k) → exec c s = .next s) ∧
  (
    ∀ d : Dev, step ⟨d, []⟩ = .next ⟨d.tick, []⟩ ∧
      (d.on = false → d.tick = { d with ticks := d.ticks + 1, sent := [], cal := d.tick.cal }))

/-- That a device has no logic supply, that no command waits which could bring it back (a feed measurement, power good, the
reset of the always-on domain, a tamper event), and that it stands as `d0` but for the count of ticks, the calendar clock and the
messages of the tick, is kept by every step; from `d0` itself it holds after any number of steps. -/
def Obligations.OffDeviceRetains : Prop :=
  let wakes : Instr → Prop := fun c => (∃ va vb, c = .feedMeasurement va vb) ∨ (∃ b k x y, c = .powerGood b k x y) ∨ c = .aonReset ∨ ∃ k, c = .tamper k
  let held (d0 : Dev) (s : State) : Prop := s.dev.on = false ∧ (∀ c ∈ s.pending, ¬wakes c) ∧
    s.dev = { d0 with ticks := s.dev.ticks, sent := s.dev.sent, cal := s.dev.cal }
  (∀ (d0 : Dev) (s s' : State), held d0 s → step s = .next s' → held d0 s') ∧
  (∀ (d0 : Dev) (q : List Instr) (n : Nat), d0.on = false → (∀ c ∈ q, ¬wakes c) →
    ∃ t, Sys2Proof.core.run n ⟨d0, q⟩ = .next t ∧ held d0 t ∧ t.pending = q.drop n)

/-- After reset every register reads its reset value (R6; where the spec gives none, the model's choice, log 2), every point is 0
and invalid (the model's choice, log 8), no point is claimed, no force
stands, no sequencer context, task or glue-up slot is active, every byte of bank memory reads 0 (for the retained banks the
model's choice, log 3), and no command waits. -/
def Obligations.ResetState : Prop :=
  let d := State.reset.dev
  State.reset.pending = [] ∧ (∀ a, d.reg a = resetWord a) ∧ (∀ h, d.point h = ⟨0, false⟩) ∧ (∀ h, d.claim h = none) ∧
  (∀ k, tabGet none d.forces k = none) ∧ (∀ a, d.byte a = 0) ∧ d.MemCanonical ∧
  (∀ n < 16, d.ctxMode n = cmIdle) ∧ (∀ e < 8, d.peMode e = 0 ∧ ∀ t < 16, d.taskState e t = tsIdle) ∧
  (∀ n < 32, d.gluState n = gsFree) ∧ d.ts = 0 ∧ d.on = true

/-! ## Register accesses (chapter 1) -/

/-- R5, R7, R8: a P-view write that reaches a register with no write action of its own acts on each field by its type: RW and
RWL take a defined value (RWL while its block is not locked), a reserved encoding leaves the field, W1C and W1S bits clear and
set where 1 is written and stay set where hardware has set them on this tick, RO, WO and `own` fields stay (a field `own` has
a command row of its own, log 4); bits in no field stay. No other register, point, claim or byte of memory changes. -/
def Obligations.RegisterWriteByTypes : Prop :=
  ∀ (s : State) (acc : Acc) (off : BitVec 26) (v : Word) (r : RegDesc) (ix : List Nat),
    s.dev.on = true → s.dev.portOn acc.req.val = true → regFind off.toNat = some (r, ix) → isSaf off.toNat = false →
    acc.pview = true → s.dev.roleStandby = false → r.clr = false →
    (∀ x : Dev, x.regEffect acc r (ix.getD 0 0) (ix.getD 1 0) off.toNat v = x.plain acc r off.toNat v) →
    let a := reqOff r acc.req.val off.toNat
    s.dev.outranked acc.req.val a = false →
    Does (.registerWrite acc off v) s fun d =>
      d = { s.dev with regs := d.regs, bus := ⟨.ok, 0⟩, swWrote := d.swWrote, duoSet := d.duoSet } ∧ s.dev.RegsKept d [a] ∧
      (∀ f ∈ r.fields, d.get a f =
        if f.kind = .rw ∧ f.isLegal (f.of v) = true then f.of v
        else if f.kind = .rwl ∧ s.dev.locked r = false ∧ f.isLegal (f.of v) = true then f.of v
        else if f.kind = .w1c then f.of (s.dev.reg a &&& ~~~(v &&& ~~~(tabGet 0 s.dev.hwSet a)))
        else if f.kind = .w1s then f.of (s.dev.reg a ||| v)
        else s.dev.get a f) ∧
      (∀ i, i < 32 → (∀ f ∈ r.fields, i < f.lo ∨ f.hi < i) → (d.reg a).getLsbD i = (s.dev.reg a).getLsbD i)

/-- R10: a read of a _LO half answers it and latches the _HI half for its requester alone; a write of _LO stages it for its
requester alone; a comparator's _HI write commits both halves at once, with the half that the same requester has staged since
its last commit, else with the half in force, and consumes only its own staging. Every other requester's latch and staging,
every other register, the points and memory are unchanged. -/
def Obligations.PairsPerRequester : Prop :=
  ∀ (s : State) (req : Fin 15) (off : BitVec 26) (v : Word), s.dev.on = true →
    (∀ r ix, regFind off.toNat = some (r, ix) → r.pair = true →
      (ownLatch off.toNat = false → off.toNat ≠ A.TIME_NOW_LO → off.toNat ≠ A.TIME_NOW_HI → off.toNat ≠ A.AON_CAL_TICK →
        r.base ≠ A.ANA_RES 0 0 → r.base ≠ A.ANA_RTS 0 0 →
        Does (.readLoLatch req off) s fun d =>
          d = { s.dev with latch := d.latch, bus := d.bus } ∧
          d.bus = ⟨.ok, (s.dev.regValue ⟨req, true⟩ r (ix.getD 0 0) off.toNat).setWidth 128⟩ ∧
          (∀ r' ix', regFind (off.toNat + 4) = some (r', ix') →
            d.latched req (off.toNat + 4) = some (s.dev.regValue ⟨req, true⟩ r' (ix.getD 0 0) (off.toNat + 4))) ∧
          (∀ k, k ≠ reqKey req (off.toNat + 4) → tabGet none d.latch k = tabGet none s.dev.latch k)) ∧
      Does (.stageLo req off v) s fun d =>
        d = { s.dev with staged := d.staged, bus := ⟨.ok, 0⟩ } ∧ tabGet none d.staged (reqKey req off.toNat) = some v ∧
        (∀ k, k ≠ reqKey req off.toNat → tabGet none d.staged k = tabGet none s.dev.staged k)) ∧
    (∀ n : Fin 64, s.dev.portOn req = true → s.dev.roleStandby = false →
      let lo := A.TIME_TT_CMP_LO n
      Does (.commitHi ⟨req, true⟩ (BitVec.ofNat 26 (lo + 4)) v) s fun d =>
        d = { s.dev with regs := d.regs, staged := d.staged, bus := ⟨.ok, 0⟩, swWrote := d.swWrote, duoSet := d.duoSet,
                         time := { s.dev.time with late := d.time.late } } ∧
        d.pair lo = v ++ (tabGet none s.dev.staged (reqKey req lo)).getD (s.dev.reg lo) ∧
        d.reg (A.TIME_TT_MISS n) = 0 ∧ tabGet none d.staged (reqKey req lo) = none ∧
        (∀ k, k ≠ reqKey req lo → tabGet none d.staged k = tabGet none s.dev.staged k) ∧
        s.dev.RegsKept d [lo, lo + 4, A.TIME_TT_MISS n])

/-- R22, R9: an access to an offset that is not listed answers Unsupported Request on PCIe, a bus error elsewhere, and changes
nothing else. R23: a U-view access to a register that the U view does not reach answers 0, is counted (the count saturates),
noted in SYS_UVIOL_LAST and offered to the Scribe; nothing else changes. -/
def Obligations.RefusedAccesses : Prop :=
  ∀ (s : State) (off : BitVec 26) (write : Bool), s.dev.on = true →
    (∀ acc size, regFind off.toNat = none → (off.toNat < 0x1000000 ∨ 0x3800000 ≤ off.toNat) →
      Does (.undefinedAccess acc off size write) s fun d =>
        d = { s.dev with bus := ⟨if acc.req.val ≤ 1 then .unsupported else .busError, 0⟩ }) ∧
    (∀ req r ix, regFind off.toNat = some (r, ix) → uReach r off.toNat = false →
      Does (.uViewViolation req off write) s fun d =>
        d = { s.dev with regs := d.regs, hwSet := d.hwSet, scribe := d.scribe, free := d.free, bus := ⟨.ok, 0⟩ } ∧
        d.get A.SYS_UVIOL_CNT F.SYS_UVIOL_CNT_COUNT = min (s.dev.get A.SYS_UVIOL_CNT F.SYS_UVIOL_CNT_COUNT + 1)
          (2 ^ (F.SYS_UVIOL_CNT_COUNT.hi - F.SYS_UVIOL_CNT_COUNT.lo + 1) - 1) ∧
        d.get A.SYS_UVIOL_LAST F.SYS_UVIOL_LAST_OFFSET = off.toNat ∧ d.bit A.SYS_UVIOL_LAST F.SYS_UVIOL_LAST_WR = write ∧
        (∃ o : Offer, o.src = 0x40 ∧ d.scribe = { s.dev.scribe with offers := s.dev.scribe.offers ++ [o] }) ∧
        s.dev.RegsKept d [A.SYS_UVIOL_CNT, A.SYS_UVIOL_LAST])

/-- R24: where the one violation of a tick and the clear fall on the same tick, in either order, the clear is applied first
and COUNT then reads 1, with the offset of that access. A clear on a tick with no violation leaves both registers 0. -/
def Obligations.ViolationClearComesFirst : Prop :=
  ∀ (s : State) (req : Fin 15) (off : BitVec 26) (write : Bool) (r : RegDesc) (ix : List Nat), s.dev.on = true →
    tabGet 0 s.dev.hwSet A.SYS_UVIOL_CNT = 0 → regFind off.toNat = some (r, ix) → uReach r off.toNat = false →
    (Does .uviolClr s fun d => d.reg A.SYS_UVIOL_CNT = 0 ∧ d.reg A.SYS_UVIOL_LAST = 0 ∧ d = { s.dev with regs := d.regs } ∧
      s.dev.RegsKept d [A.SYS_UVIOL_CNT, A.SYS_UVIOL_LAST] ∧
      Does (.uViewViolation req off write) { s with dev := d } fun e =>
        e.get A.SYS_UVIOL_CNT F.SYS_UVIOL_CNT_COUNT = 1 ∧ e.get A.SYS_UVIOL_LAST F.SYS_UVIOL_LAST_OFFSET = off.toNat) ∧
    (Does (.uViewViolation req off write) s fun d => Does .uviolClr { s with dev := d } fun e =>
      e.get A.SYS_UVIOL_CNT F.SYS_UVIOL_CNT_COUNT = 1 ∧ e.get A.SYS_UVIOL_LAST F.SYS_UVIOL_LAST_OFFSET = off.toNat)

/-! ## Time base, calendar, comparators, capture units (chapter 2) -/

/-- R51: a read of TIME_NOW_LO answers TS32 and latches the high word and the three TOD registers of the same instant for its
requester alone. R37: a read of TICK latches both second registers likewise; a commit of the seconds waits for the crystal.
R32: an addend from 3.996 ns to 4.004 ns is taken for the next tick; another is refused with ADDERR and recorded, and the one
in force stays. R33: a step waits for the next tick. R35: OFFSYNC follows the estimate. R38: a seed is asked for. Each commit
consumes its own requester's staging alone; nothing else changes. -/
def Obligations.TimeReadsAndCommits : Prop :=
  ∀ (s : State) (req : Fin 15) (v : Word), s.dev.on = true →
    let x := s.dev
    let own (a : Nat) := (tabGet none x.staged (reqKey req a)).getD
    let used (d : Dev) (a : Nat) := tabGet none d.staged (reqKey req a) = none ∧
      ∀ k, k ≠ reqKey req a → tabGet none d.staged k = tabGet none x.staged k
    (Does (.timeNowRead req) s fun d =>
      d = { x with latch := d.latch, bus := ⟨.ok, (x.ts.setWidth 32 : Word).setWidth 128⟩ } ∧
      d.latched req A.TIME_NOW_HI = some (BitVec.ofNat 32 (x.ts.toNat / 2 ^ 32)) ∧
      d.latched req A.TIME_TOD_SEC_LO = some (BitVec.ofNat 32 (x.ts.toNat / second)) ∧
      d.latched req A.TIME_TOD_SEC_HI = some (BitVec.ofNat 32 (x.ts.toNat / second / 2 ^ 32)) ∧
      d.latched req A.TIME_TOD_NS = some (BitVec.ofNat 32 (x.ts.toNat % second)) ∧
      (∀ k, k ∉ [A.TIME_NOW_HI, A.TIME_TOD_SEC_LO, A.TIME_TOD_SEC_HI, A.TIME_TOD_NS].map (reqKey req) →
        tabGet none d.latch k = tabGet none x.latch k)) ∧
    (Does (.calTickRead req) s fun d =>
      d = { x with latch := d.latch, bus := ⟨.ok, x.cal.tick.setWidth 128⟩ } ∧
      d.latched req A.AON_CAL_SEC_LO = some (x.cal.sec.setWidth 32) ∧
      d.latched req A.AON_CAL_SEC_HI = some ((x.cal.sec >>> 32).setWidth 32) ∧
      (∀ k, k ∉ [A.AON_CAL_SEC_LO, A.AON_CAL_SEC_HI].map (reqKey req) → tabGet none d.latch k = tabGet none x.latch k)) ∧
    (let a := bitsOf v 3 0 * 2 ^ 32 + (own A.TIME_ADDEND_LO (x.reg A.TIME_ADDEND_LO)).toNat
      let ok := 3996 * 2 ^ 32 ≤ a * 1000 ∧ a * 1000 ≤ 4004 * 2 ^ 32
      Does (.addendCommit req v) s fun d => used d A.TIME_ADDEND_LO ∧
        (ok → d = { x with staged := d.staged, time := { x.time with newAddend := some (BitVec.ofNat 36 a) } }) ∧
        (¬ok → d = { x with staged := d.staged, regs := d.regs, hwSet := d.hwSet, scribe := d.scribe, free := d.free } ∧
          d.bit A.TIME_STAT F.TIME_STAT_ADDERR = true ∧ d.scribe.offers.length = x.scribe.offers.length + 1 ∧
          x.RegsKept d [A.TIME_STAT])) ∧
    (Does (.timeStep req v) s fun d => used d A.TIME_STEP_LO ∧
      d = { x with staged := d.staged,
                   time := { x.time with steps := x.time.steps ++ [(v ++ own A.TIME_STEP_LO 0 : Dbl).toInt] } }) ∧
    (Does (.ofsEstWrite v) s fun d => d = { x with regs := d.regs } ∧ d.reg A.TIME_OFS_EST = v ∧
      (d.bit A.TIME_STAT F.TIME_STAT_OFFSYNC = true ↔
        x.get A.TIME_CTL F.TIME_CTL_SRC < 2 ∨ 1000 < v.toInt.natAbs) ∧ x.RegsKept d [A.TIME_OFS_EST, A.TIME_STAT]) ∧
    (Does .seed s fun d => d = { x with time := { x.time with seedReq := true } }) ∧
    (Does (.calCommit req v) s fun d => used d A.AON_CAL_SEC_LO ∧
      d = { x with staged := d.staged,
                   cal := { x.cal with
                            commit := some ((v.setWidth 16 : BitVec 16) ++ own A.AON_CAL_SEC_LO (x.cal.sec.setWidth 32)) } })

/-- On a crystal edge a committed calendar is loaded with TICK 0 and VALID, and drops a write-back of the same edge (R37, R40);
without a commit a write-back sets the whole second (R40). A seed loads TS64 = SEC · 10^9 + floor(TICK · 10^9 ÷ 32768), the
fraction 0, and SRC CAL or NONE by VALID; comparators, recorder and Scribe see the difference as a step (R38). A whole second
crossed raises PPS_OUT for WIDTH ms where EN is set, and asks for a write-back while OFFSYNC is clear (R47, R40). Pulses end
when their time has passed (R46, R47). -/
def Obligations.TimeEvents : Prop :=
  ∀ (s : State), s.dev.on = true →
    let x := s.dev
    (x.cal.edge = true → ∀ v, x.cal.commit = some v → Does .calLoad s fun d =>
      d = { x with regs := d.regs, cal := { x.cal with sec := v, tick := 0, commit := none, writeback := none } } ∧
      d.bit A.AON_CAL_STAT F.AON_CAL_STAT_VALID = true ∧ x.RegsKept d [A.AON_CAL_STAT]) ∧
    (x.cal.edge = true → ∀ v, x.cal.commit = none → x.cal.writeback = some v → Does .calWriteback s fun d =>
      d = { x with regs := d.regs, cal := { x.cal with sec := v, tick := 0, writeback := none } } ∧
      d.bit A.AON_CAL_STAT F.AON_CAL_STAT_VALID = true ∧ x.RegsKept d [A.AON_CAL_STAT]) ∧
    (x.time.seedReq = true → x.cal.edge = true →
      let t1 := x.cal.sec.toNat * 1000000000 + x.cal.tick.toNat * 1000000000 / 32768
      Does .seedApply s fun d => ∃ y : Dev, y.ts = BitVec.ofNat 64 t1 ∧ y.time.frac = 0 ∧ y.time.seedReq = false ∧
        y = { x with regs := y.regs, time := y.time } ∧ x.RegsKept y [A.TIME_CTL] ∧
        y.get A.TIME_CTL F.TIME_CTL_SRC = (if x.bit A.AON_CAL_STAT F.AON_CAL_STAT_VALID then 1 else 0) ∧
        d = (y.timeStepped ((t1 : Int) - x.ts.toNat) x.ts.toNat t1).setOffsync) ∧
    (∀ sec, x.time.crossed = some sec → Does .secondCrossing s fun d =>
      d = { x with recorder := d.recorder, scribe := d.scribe, time := d.time, cal := d.cal } ∧
      d.time = { x.time with crossed := none, ppsEnd := d.time.ppsEnd } ∧ d.cal = { x.cal with writeback := d.cal.writeback } ∧
      d.time.ppsEnd = (if x.bit A.TIME_PPS_CTL F.TIME_PPS_CTL_EN then
        some (x.ticks + x.get A.TIME_PPS_CTL F.TIME_PPS_CTL_WIDTH * 250000) else x.time.ppsEnd) ∧
      d.cal.writeback = if x.bit A.TIME_STAT F.TIME_STAT_OFFSYNC then x.cal.writeback else some (BitVec.ofNat 48 sec)) ∧
    (∀ e, x.time.ppsEnd = some e → e ≤ x.ticks →
      Does .ppsFall s fun d => d = { x with time := { x.time with ppsEnd := none } }) ∧
    (∀ n : Fin 64, (tabGet (4, 0) x.time.pulses n).2 ≤ x.ticks → Does (.trgOutPulseEnd n) s fun d =>
      d = { x with time := { x.time with pulses := d.time.pulses } } ∧ tabGet (4, 0) d.time.pulses n = (4, 0) ∧
      ∀ k, k ≠ n.val → tabGet (4, 0) d.time.pulses k = tabGet (4, 0) x.time.pulses k)

/-- R41 to R46: a comparator that is not due does nothing. A due one fires once for the tick. Where no write of the same tick
stands over it, a one-shot clears EN and sets FIRED, with LATE where its instant lay in the past; a periodic one advances by
the smallest number of whole periods, at least one, that puts its instant after the time, counts the others as missed and
sets LATE where there are any. With OUTEN its pin's pulse ends PW µs from now. Then the fire reaches its consumers. -/
def Obligations.ComparatorFires : Prop :=
  ∀ (s : State) (n : Fin 64), s.dev.on = true → s.dev.halted = false →
    let x := s.dev
    let lo := A.TIME_TT_CMP_LO n
    let ctl := A.TIME_TT_CTL n
    (x.ttDue n = false → Does (.comparatorFire n) s fun d => d = x) ∧
    (x.ttDue n = true → x.wroteReg ctl = false → x.wroteReg (A.TIME_TT_CMP_HI n) = false →
      0 < x.get0 (A.TIME_TT_PER n) F.TIME_TT_PER_PER → (x.get0 (A.TIME_TT_PER n) F.TIME_TT_PER_PER * 4 + x.ts.toNat < 2 ^ 64) →
      Does (.comparatorFire n) s fun d => ∃ y : Dev, y = { x with regs := y.regs, time := y.time, hwSet := y.hwSet } ∧
        y.time.fired = x.time.fired ++ [n.val] ∧ y.ttDue n = false ∧
        x.RegsKept y [ctl, lo, lo + 4, A.TIME_TT_MISS n] ∧
        (x.get0 ctl F.TIME_TT_CTL_MODE ≠ 1 → y.bit ctl F.TIME_TT_CTL_EN = false ∧ y.bit ctl F.TIME_TT_CTL_FIRED = true ∧
          (x.time.late.contains n.val = true → y.bit ctl F.TIME_TT_CTL_LATE = true) ∧ y.pair lo = x.pair lo) ∧
        (x.get0 ctl F.TIME_TT_CTL_MODE = 1 → ∃ k, 1 ≤ k ∧
          let per := x.get0 (A.TIME_TT_PER n) F.TIME_TT_PER_PER * 4
          (y.pair lo).toNat = (x.pair0 lo).toNat + k * per ∧ x.ts < y.pair lo ∧ (y.pair lo).toNat ≤ x.ts.toNat + per ∧
          (1 < k → y.bit ctl F.TIME_TT_CTL_LATE = true) ∧
          y.get (A.TIME_TT_MISS n) F.TIME_TT_MISS_MISS =
            min (x.get (A.TIME_TT_MISS n) F.TIME_TT_MISS_MISS + (k - 1)) (2 ^ 32 - 1)) ∧
        (x.get0 ctl F.TIME_TT_CTL_OUTEN = 1 → tabGet (4, 0) y.time.pulses n =
          (x.get0 ctl F.TIME_TT_CTL_OUTSEL, x.ticks + x.get0 ctl F.TIME_TT_CTL_PW * 250)) ∧
        d = let z := y.fireField n
          if z.standby then z.fireDry n
          else ((z.collect 2 (BitVec.ofNat 32 n) 0 0 []).captureNow (0x10 + n.val) true).fireUnits n)

/-- R50: an edge in the dead time of its input adds 1 to LOST (which saturates) of exactly the units that watch that input and
polarity. R48: any other edge is stamped with the accumulator at its instant, truncated to 100 ps, in every such unit, and
starts the dead time. R49: POP takes the head of the queue of 8, and a stamp of the same tick that found it full then enters;
CLR empties it and clears LOST. -/
def Obligations.CaptureUnits : Prop :=
  ∀ (s : State) (inp : Fin 5) (rising : Bool) (ps : Fin 4000) (n : Fin 32), s.dev.on = true → s.dev.halted = false →
    s.dev.standby = false →
    let x := s.dev
    let last := tabGet 0 x.time.lastEdge inp
    let now := x.ticks * 4000 + ps.val + 1
    (last ≠ 0 → now < last + 16000 → Does (.captureEdge inp rising ps) s fun d => d = { x with regs := d.regs } ∧
      (∀ u < 32, d.get (A.TIME_CU_STAT u) F.TIME_CU_STAT_LOST =
        if x.cuWatches u (inp.val + 1) rising then
          min (x.get (A.TIME_CU_STAT u) F.TIME_CU_STAT_LOST + 1) (2 ^ (F.TIME_CU_STAT_LOST.hi - F.TIME_CU_STAT_LOST.lo + 1) - 1)
        else x.get (A.TIME_CU_STAT u) F.TIME_CU_STAT_LOST) ∧
      x.RegsKept d ((upto 32).map A.TIME_CU_STAT)) ∧
    ((last = 0 ∨ last + 16000 ≤ now) → Does (.captureEdge inp rising ps) s fun d =>
      let st := x.edgeStamp ps rising
      let y := (x.onTime fun t => { t with lastEdge := tabPut 0 t.lastEdge inp now }).each 32 fun y u =>
        if y.cuWatches u (inp.val + 1) rising then y.cuStore u st else y
      d = (if inp.val < 4 ∧ y.trgInOn inp rising = true then y.recTrigger st.ts st.frac 1 inp else y)) ∧
    (∀ h q, x.cuQueue n = h :: q → x.time.cuOver.find? (fun p => p.1 == n.val) = none → q.length < 8 →
      Does (.cuPop n) s fun d => d = { x with regs := d.regs, stamps := d.stamps } ∧ d.cuQueue n = q ∧
        d.get (A.TIME_CU_STAT n) F.TIME_CU_STAT_LEVEL = q.length ∧
        d.pair (A.TIME_CU_TS_LO n) = (q.headD ⟨0, 0, false⟩).ts ∧ (∀ k, k ≠ n.val → d.cuQueue k = x.cuQueue k) ∧
        x.RegsKept d [A.TIME_CU_STAT n, A.TIME_CU_TS_LO n, A.TIME_CU_TS_LO n + 4]) ∧
    (∀ h q st, x.cuQueue n = h :: q → q.length = 7 → x.time.cuOver = [(n.val, st)] →
      x.bit (A.TIME_CU_CTL n) F.TIME_CU_CTL_NOTIFY = false →
      Does (.cuPop n) s fun d => d.cuQueue n = q ++ [st] ∧ d.time.cuOver = [] ∧
        d.get (A.TIME_CU_STAT n) F.TIME_CU_STAT_LOST = x.get (A.TIME_CU_STAT n) F.TIME_CU_STAT_LOST) ∧
    (Does (.cuClr n) s fun d => d = { x with regs := d.regs, stamps := d.stamps, time := { x.time with cuOver := d.time.cuOver } } ∧
      d.cuQueue n = [] ∧ d.get (A.TIME_CU_STAT n) F.TIME_CU_STAT_LEVEL = 0 ∧
      d.get (A.TIME_CU_STAT n) F.TIME_CU_STAT_LOST = 0 ∧ (∀ k, k ≠ n.val → d.cuQueue k = x.cuQueue k) ∧
      x.RegsKept d [A.TIME_CU_STAT n, A.TIME_CU_TS_LO n, A.TIME_CU_TS_LO n + 4])

/-! ## The bank pool (chapter 3) -/

/-- R64, R59: through the window a read of a good line of a bank that the view may read answers its bytes, lowest first, and
changes nothing else; a write of a bank that the view may write stores its bytes and no other, and a whole line or the rest of
a good line then holds no error. An access without the right is refused with an error response and counted in MEM_WDENY (the
count saturates), and one of a bank under a wipe waits (R63). Stated where no standby, pair or port A write takes part. -/
def Obligations.WindowAccess : Prop :=
  ∀ (s : State) (acc : Acc) (addr : BitVec 26) (size : Fin 17) (v : BitVec 128) (same : Bool),
    s.dev.on = true → s.dev.portOn acc.req.val = true → winAccOk addr.toNat size = true →
    s.dev.roleStandby = false → s.dev.syncedAs 1 = false → s.dev.pool.portA = none →
    let a := addr.toNat - 0x1000000
    let b := bankOfAddr a
    let x := s.dev
    let right := x.winRights acc.pview b
    (x.wiping b = false → x.poisoned (lineOf a) = false → x.lineErrs (lineOf a) = 0 →
      (1 ≤ right → Does (.windowAccess acc addr size none same) s fun d =>
        d = { x with bus := ⟨.ok, BitVec.ofNat 128 (leNat (x.bytes a size))⟩ }) ∧
      (2 ≤ right → Does (.windowAccess acc addr size (some v) same) s fun d =>
        d = { x with bus := ⟨.ok, 0⟩, mem := d.mem, pool := d.pool } ∧
        (∀ i, i < size.val → d.byte (a + i) = BitVec.ofNat 8 (v.toNat >>> (8 * i))) ∧ x.BytesKept d a size ∧
        d.lineErrs (lineOf a) = 0 ∧ d.poisoned (lineOf a) = false ∧ (x.MemCanonical → d.MemCanonical) ∧
        (∀ l, l ≠ lineOf a → d.lineErrs l = x.lineErrs l ∧ d.poisoned l = x.poisoned l))) ∧
    (∀ data : Option (BitVec 128), right < (if data.isSome then 2 else 1) →
      Does (.windowAccess acc addr size data same) s fun d =>
        d = { x with regs := d.regs, bus := ⟨if acc.req.val ≤ 1 then .unsupported else .busError, 0⟩ } ∧
        d.get A.MEM_WDENY F.MEM_WDENY_COUNT = min (x.get A.MEM_WDENY F.MEM_WDENY_COUNT + 1) (2 ^ 32 - 1) ∧
        x.RegsKept d [A.MEM_WDENY]) ∧
    (x.wiping b = true → 1 ≤ right → Does (.windowAccess acc addr size none same) s fun d =>
      d = { x with pool := { x.pool with waiting := x.pool.waiting ++ [⟨acc, a, size, none⟩] } })

/-- R60, R56 to R58: a scrub read takes the line queued for the bank, else the next of the pass. With one or two wrong bits it
counts CE and the line waits for its write back, which leaves it without an error; with three it is poisoned, UE is counted
(both counts saturate), and MEM_POISON_LAST names it. No scrub read or write back changes a byte of data.
R69: a test that is allowed starts; PRESERVING copies the bank to the save bank and, at its end, back, DESTRUCTIVE ends with
zeroes, and DONE is set; a test that is not allowed sets BUSY. R70: with background tests on, the next region of every bank
that no wipe holds is tested. R72: a failing row takes a spare, else its failing lines are poisoned and the bank is DEGRADED.
Without a failing line no bank outside the test changes. -/
def Obligations.ScrubberAndJig : Prop :=
  (
    ∀ (s : State) (bank : Fin 80) (bits : Fin 146) (l : Nat) (p : Pool), s.dev.on = true → s.dev.wiping bank = false →
      s.dev.pool.scrubNext bank = (l, p) → s.dev.poisoned l = false → bankOfLine l = bank.val →
      let n := s.dev.lineErrs l + bits.val
      let err := A.MEM_BANK_ERR bank
      (n = 0 → Does (.scrubRead bank bits) s fun d => d = { s.dev with pool := d.pool } ∧ d.lineErrs l = 0 ∧
        d.pool.poison = s.dev.pool.poison ∧ d.pool.scrubPos = p.scrubPos) ∧
      (1 ≤ n → n ≤ 2 → Does (.scrubRead bank bits) s fun d =>
        d = { s.dev with regs := d.regs, pool := d.pool, scribe := d.scribe, free := d.free } ∧ d.lineErrs l = n ∧
        l ∈ d.pool.scrubWait ∧ d.pool.poison = s.dev.pool.poison ∧
        d.get err F.MEM_BANK_ERR_CE = min (s.dev.get err F.MEM_BANK_ERR_CE + 1) 65535 ∧ s.dev.RegsKept d [err]) ∧
      (n = 3 → Does (.scrubRead bank bits) s fun d =>
        d = { s.dev with regs := d.regs, pool := d.pool, scribe := d.scribe, free := d.free } ∧ d.poisoned l = true ∧
        d.lineErrs l = 0 ∧ d.get err F.MEM_BANK_ERR_UE = min (s.dev.get err F.MEM_BANK_ERR_UE + 1) 65535 ∧
        d.reg A.MEM_POISON_LAST = BitVec.ofNat 32 (bank.val * 65536 + l % 32768) ∧
        s.dev.RegsKept d [err, A.MEM_POISON_LAST]) ∧
      (∀ j, s.dev.pool.scrubWait.find? (fun k => bankOfLine k == bank.val) = some j → s.dev.poisoned j = false →
        Does (.scrubWriteback bank) s fun d => d = { s.dev with pool := d.pool } ∧ d.lineErrs j = 0 ∧ j ∉ d.pool.scrubWait ∧
          (∀ k, k ≠ j → d.lineErrs k = s.dev.lineErrs k) ∧ d.pool.poison = s.dev.pool.poison)) ∧
  (
    ∀ (s : State) (v : Word), s.dev.on = true →
      let x := s.dev
      let mode := F.MEM_JIG_CTL_MODE.of v
      let bank := F.MEM_JIG_CTL_BANK.of v
      let save := F.MEM_JIG_CTL_SAVE.of v
      let fldOk := mode ≤ 2 ∧ bank < 80 ∧ 48 ≤ save ∧ save < 80
      (fldOk → x.pool.jig = none → x.jigOk mode bank save = true → Does (.jigGo v) s fun d =>
        d.pool.jig = some ⟨bank, mode, save⟩ ∧ d.bit A.MEM_JIG_STAT F.MEM_JIG_STAT_RUN = true ∧
        d = { x with regs := d.regs, mem := d.mem, pool := d.pool } ∧ x.RegsKept d [A.MEM_JIG_CTL, A.MEM_JIG_STAT] ∧
        (mode ≠ 1 → d.mem = x.mem) ∧
        (mode = 1 → bank ≠ save → x.MemCanonical → (∀ i, i < 0x80000 → d.byte (bankBase save + i) = x.byte (bankBase bank + i)) ∧
          x.BytesKept d (bankBase save) 0x80000)) ∧
      (fldOk → (x.pool.jig ≠ none ∨ x.jigOk mode bank save = false) → Does (.jigGo v) s fun d =>
        d.bit A.MEM_JIG_STAT F.MEM_JIG_STAT_BUSY = true ∧ d = { x with regs := d.regs, hwSet := d.hwSet } ∧
        x.RegsKept d [A.MEM_JIG_CTL, A.MEM_JIG_STAT]) ∧
      (∀ j, x.pool.jig = some j → Does (.jigDone []) s fun d => d.pool.jig = none ∧
        d.bit A.MEM_JIG_STAT F.MEM_JIG_STAT_DONE = true ∧ d.bit A.MEM_JIG_STAT F.MEM_JIG_STAT_RUN = false ∧
        d.get A.MEM_JIG_STAT F.MEM_JIG_STAT_FAILROWS = 0 ∧
        d = { x with regs := d.regs, mem := d.mem, pool := d.pool, hwSet := d.hwSet } ∧ x.RegsKept d [A.MEM_JIG_STAT] ∧
        (j.mode = 0 → ∀ i, i < 0x80000 → d.byte (bankBase j.bank + i) = 0) ∧
        (j.mode = 1 → j.bank ≠ j.save → x.MemCanonical → ∀ i, i < 0x80000 → d.byte (bankBase j.bank + i) = x.byte (bankBase j.save + i)) ∧
        (j.mode = 2 → d.mem = x.mem) ∧ x.BytesKept d (bankBase j.bank) 0x80000) ∧
      (x.bit A.MEM_JIG_BG F.MEM_JIG_BG_EN = true → Does (.jigBgRegion []) s fun d =>
        d = { x with pool := { x.pool with jigPos := d.pool.jigPos } } ∧
        ∀ b, b < 80 → tabGet 0 d.pool.jigPos b = if x.wiping b then tabGet 0 x.pool.jigPos b else (tabGet 0 x.pool.jigPos b + 1) % 128) ∧
      (∀ (b : Fin 80) (lines : List Nat),
        let a := A.MEM_BANK_STAT b
        let d := x.repairWork b lines
        (x.get a F.MEM_BANK_STAT_SOFT + x.get a F.MEM_BANK_STAT_FUSED < 2 →
          d.get a F.MEM_BANK_STAT_SOFT = x.get a F.MEM_BANK_STAT_SOFT + 1 ∧ d.pool = x.pool ∧ d.mem = x.mem ∧ x.RegsKept d [a]) ∧
        (2 ≤ x.get a F.MEM_BANK_STAT_SOFT + x.get a F.MEM_BANK_STAT_FUSED →
          (∀ l ∈ lines, d.poisoned (lineNo b l) = true) ∧ d.bit a F.MEM_BANK_STAT_DEGRADED = true ∧ d.owner b = x.owner b ∧
          d.mem = x.mem ∧ x.RegsKept d [a])))

/-- R62: RELREQ leaves a request that is visible from the next tick, RELCAN withdraws it; once it is visible and the owner's
condition holds, REL is set. An OWNER write of a new code on a released bank takes effect on the next tick: the bank then has
the new owner with REL clear, and is wiped where WIPE was set or the security state changes (R63), else keeps its contents. An
OWNER write on a bank that is not released is refused with HOREF and a record. A wipe's end clears WIPING. -/
def Obligations.BankHandover : Prop :=
  ∀ (s : State) (bank : Fin 80) (v : Word), s.dev.on = true →
    let x := s.dev
    let st := A.MEM_BANK_STAT bank
    (tabGet 0 x.pool.relReq bank = 0 → Does (.relreq bank) s fun d =>
      d = { x with pool := { x.pool with relReq := d.pool.relReq } } ∧ tabGet 0 d.pool.relReq bank = x.ticks + 2 ∧
      ∀ k, k ≠ bank.val → tabGet 0 d.pool.relReq k = tabGet 0 x.pool.relReq k) ∧
    (Does (.relcan bank) s fun d => d = { x with pool := { x.pool with relReq := d.pool.relReq } } ∧
      tabGet 0 d.pool.relReq bank = 0 ∧ ∀ k, k ≠ bank.val → tabGet 0 d.pool.relReq k = tabGet 0 x.pool.relReq k) ∧
    (0 < tabGet 0 x.pool.relReq bank → tabGet 0 x.pool.relReq bank ≤ x.ticks + 1 → x.releaseOk bank = true →
      Does (.bankRelease bank) s fun d => d.released bank = true ∧ tabGet 0 d.pool.relReq bank = 0 ∧
        d = { x with regs := d.regs, pool := { x.pool with relReq := d.pool.relReq } } ∧ x.RegsKept d [st]) ∧
    (F.MEM_BANK_CTL_RELREQ.of v = 0 → F.MEM_BANK_CTL_RELCAN.of v = 0 → ownerCodes.contains (F.MEM_BANK_CTL_OWNER.of v) = true →
      F.MEM_BANK_CTL_OWNER.of v ≠ x.owner bank → x.owner bank ≠ 0xFF →
      let code := F.MEM_BANK_CTL_OWNER.of v
      (x.released bank = true → x.ownerTaken bank = false → Does (.ownerWrite bank v) s fun d => ∃ wipe u p,
        d = { x with later := x.later ++ [.owner bank code wipe u p] } ∧ (wipe = true ↔ F.MEM_BANK_CTL_WIPE.of v = 1) ∧
        let e := x.handOver bank code wipe u p
        e.owner bank = code ∧ e.bit st F.MEM_BANK_STAT_REL = false ∧
        (wipe = true ∨ secureOwner code ≠ secureOwner (x.owner bank) →
          e.wiping bank = true ∧ ∀ i, i < 0x80000 → e.byte (bankBase bank + i) = 0) ∧
        (wipe = false → secureOwner code = secureOwner (x.owner bank) → e.mem = x.mem ∧ e.wiping bank = x.wiping bank)) ∧
      (x.released bank = false → Does (.ownerWrite bank v) s fun d =>
        d = { x with regs := d.regs, hwSet := d.hwSet, scribe := d.scribe, free := d.free } ∧
        d.bit st F.MEM_BANK_STAT_HOREF = true ∧ d.owner bank = x.owner bank ∧ x.RegsKept d [st])) ∧
    (x.wiping bank = true → x.pool.waiting.filter (fun w => bankOfAddr w.addr == bank.val) = [] →
      Does (.wipeDone bank) s fun d => d.wiping bank = false ∧ d.owner bank = x.owner bank ∧
        d = { x with regs := d.regs, pool := { x.pool with waiting := d.pool.waiting } } ∧ x.RegsKept d [st])

/-- R67: a request of a sub-client at or over its quota is refused with QUOTA, one that finds no more free pages than the
threshold of its priority with LOW, and neither changes O or F; else it gets a free page of a bank that its unit owns, O rises
by one, and the page is its own (the lowest free page, the model's choice, log 22). R68: the request of the highest priority,
among equals the oldest, is decided and answered; a page that its sub-client frees is free from the next tick on. -/
def Obligations.ResourceManager : Prop :=
  ∀ (s : State), s.dev.on = true →
    let x := s.dev
    (∀ m : Fin 81,
      let sub := A.MEM_RM_SUB m
      let full := x.get sub F.MEM_RM_SUB_QUOTA ≤ x.get sub F.MEM_RM_SUB_OUT
      let free := x.freePages (subOwner m)
      let low := free.length ≤ x.rmThr (x.get sub F.MEM_RM_SUB_PRIO)
      (full → x.rmAlloc m = (x, .quota)) ∧ (¬full → low → x.rmAlloc m = (x, .low)) ∧
      (¬full → ¬low → ∃ d p, x.rmAlloc m = (d, .grant p) ∧ p ∈ free ∧ d.pageSub p = some m.val ∧
        d.get sub F.MEM_RM_SUB_OUT = x.get sub F.MEM_RM_SUB_OUT + 1 ∧
        d = { x with regs := d.regs, pool := { x.pool with pageOf := d.pool.pageOf } } ∧ x.RegsKept d [sub])) ∧
    (∀ q, x.pool.pageReqs = [q] → q.kind = 0 → q.sub < 64 → q.who < 2 → Does .pageAlloc s fun d =>
      d.pool.pageReqs = [] ∧
      let r := ({ x with pool := { x.pool with pageReqs := [] } } : Dev).rmAlloc q.sub
      d = { r.1 with mbx := d.mbx } ∧
      (r.2 = .quota → (d.mend q.sub q.who).res = 2) ∧ (r.2 = .low → (d.mend q.sub q.who).res = 3) ∧
      (∀ p, r.2 = .grant p → (d.mend q.sub q.who).res = 1 ∧ (d.mend q.sub q.who).page = 0x1000 + p)) ∧
    (∀ (sub : Fin 81) (page : Fin 10240), x.pageSub page = some sub.val →
      (Does (.pageFree sub page) s fun d => d = { x with later := x.later ++ [.pageFree page] }) ∧
      (x.pageFreed page).pageSub page = none ∧
      (x.pageFreed page).get (A.MEM_RM_SUB sub) F.MEM_RM_SUB_OUT = x.get (A.MEM_RM_SUB sub) F.MEM_RM_SUB_OUT - 1) ∧
    (∀ (sub : Fin 81) (page : Fin 10240), x.pageSub page ≠ some sub.val → Does (.pageFree sub page) s fun d => d = x)

/-! ## Program engines (chapter 4) -/

/-- R74 to R78, R92, R95, R96, R137: a write of the code halves, a task's masks, its control, the timer and counter blocks, an
M window or a breakpoint that its rule allows is taken, and changes nothing else; an enabled task begins with a clear bank
(R99), a disabled one loses its events. One that its rule does not allow leaves the registers as they are, but for CFGERR. -/
def Obligations.EngineConfigured : Prop :=
  ∀ (s : State) (e : Fin 8) (t : Fin 16) (v : Word), s.dev.on = true →
    let x := s.dev
    let stat := A.PE_STAT e
    let refused (c : Instr) := Does c s fun d => d.bit stat F.PE_STAT_CFGERR = true ∧ x.RegsKept d [stat] ∧
      d = { x with regs := d.regs, hwSet := d.hwSet, scribe := d.scribe, free := d.free }
    let code := A.PE_CODE e
    let same (f : Fld) := f.of v = x.get code f
    (x.peMode e = 0 → same F.PE_CODE_VEN → same F.PE_CODE_VVAL → Does (.codeWrite e v) s fun d =>
      d = { x with regs := d.regs } ∧ x.RegsKept d [code] ∧ d.get code F.PE_CODE_ACT = F.PE_CODE_ACT.of v ∧
      d.get code F.PE_CODE_AVAL = F.PE_CODE_AVAL.of v ∧ d.get code F.PE_CODE_VEN = x.get code F.PE_CODE_VEN) ∧
    (x.peMode e ≠ 0 → ¬same F.PE_CODE_ACT → same F.PE_CODE_VEN → same F.PE_CODE_VVAL → refused (.codeWrite e v)) ∧
    (same F.PE_CODE_ACT → same F.PE_CODE_AVAL → ¬same F.PE_CODE_VEN → x.bit (A.PE_VNR_STAT e) F.PE_VNR_STAT_PEND = false →
      F.PE_CODE_VEN.of v < 80 → x.owner (F.PE_CODE_VEN.of v) = e.val + 1 → F.PE_CODE_VEN.of v ≠ x.get code F.PE_CODE_ACT →
      Does (.codeWrite e v) s fun d => d = { x with regs := d.regs } ∧ x.RegsKept d [code] ∧
        d.get code F.PE_CODE_VEN = F.PE_CODE_VEN.of v ∧ d.get code F.PE_CODE_VVAL = 0 ∧
        d.get code F.PE_CODE_ACT = x.get code F.PE_CODE_ACT) ∧
    (x.masksOk e t v = true → Does (.taskMaskWrite e t v) s fun d => d = { x with regs := d.regs } ∧
      d.reg (A.PE_TASK_MASK e t) = v ∧ x.RegsKept d [A.PE_TASK_MASK e t]) ∧
    (x.masksOk e t v = false → refused (.taskMaskWrite e t v)) ∧
    (let w := x.taskWord e v (x.reg (A.PE_TASK_CTL e t))
      let en := F.PE_TASK_CTL_EN.of w = 1
      (x.taskOk e t w = true → Does (.taskEnable e t v) s fun d => d = { x with regs := d.regs, tasks := d.tasks } ∧
        d.reg (A.PE_TASK_CTL e t) = w ∧ x.RegsKept d [A.PE_TASK_CTL e t, A.PE_TASK_STAT e t] ∧
        (en → x.taskOn e t = false → d.task e t = { Task.idle with lmem := (x.task e t).lmem } ∧
          d.taskState e t = if x.taskState e t = tsFaulted then tsIdle else x.taskState e t) ∧
        (¬en → x.taskOn e t = true → d.task e t = x.task e t ∧ d.get (A.PE_TASK_STAT e t) F.PE_TASK_STAT_PEND = 0 ∧
          d.taskState e t = if x.taskState e t = tsDue then tsIdle else x.taskState e t)) ∧
      (x.taskOk e t w = false → refused (.taskEnable e t v))) ∧
    (let a := A.PE_TCRES e
      let tb := F.PE_TCRES_TBASE.of v
      let tc := F.PE_TCRES_TCNT.of v
      let cb := F.PE_TCRES_CBASE.of v
      let cc := F.PE_TCRES_CCNT.of v
      let apart (k : Nat) :=
        blocksMeet tb tc (x.get (A.PE_TCRES k) F.PE_TCRES_TBASE) (x.get (A.PE_TCRES k) F.PE_TCRES_TCNT) = false ∧
        blocksMeet cb cc (x.get (A.PE_TCRES k) F.PE_TCRES_CBASE) (x.get (A.PE_TCRES k) F.PE_TCRES_CCNT) = false
      (tb + tc ≤ 64 → cb + cc ≤ 64 → (∀ k, k < 8 → k ≠ e.val → apart k) → Does (.tcresWrite e v) s fun d =>
        d = { x with regs := d.regs } ∧ x.RegsKept d [a] ∧ d.get a F.PE_TCRES_TBASE = tb ∧ d.get a F.PE_TCRES_TCNT = tc ∧
        d.get a F.PE_TCRES_CBASE = cb ∧ d.get a F.PE_TCRES_CCNT = cc) ∧
      (tc ≤ 64 → cc ≤ 64 → (∃ k, k < 8 ∧ k ≠ e.val ∧ ¬apart k) → refused (.tcresWrite e v))) ∧
    (∀ k : Fin 8, F.SYS_MMAP_EN.of v = 1 → F.SYS_MMAP_ENG.of v = e.val →
      let bank := F.SYS_MMAP_BANK.of v
      (bank < 48 → x.owner bank = e.val + 1 → x.peMode e = 0 → (∀ j, j < 8 → j ≠ k.val → x.mBank j ≠ some bank) →
        Does (.mmapWrite k v) s fun d => d = { x with regs := d.regs } ∧ d.mBank k = some bank ∧
          d.get (A.SYS_MMAP k) F.SYS_MMAP_ENG = e.val ∧ x.RegsKept d [A.SYS_MMAP k]) ∧
      (x.peMode e ≠ 0 → refused (.mmapWrite k v))) ∧
    (∀ k : Fin 8,
      (x.lcs ≠ 2 → Does (.brkWrite e k v) s fun d => d = { x with regs := d.regs } ∧ x.RegsKept d [A.PE_BRK e k] ∧
        d.get (A.PE_BRK e k) F.PE_BRK_EN = F.PE_BRK_EN.of v ∧ d.get (A.PE_BRK e k) F.PE_BRK_ADDR = F.PE_BRK_ADDR.of v) ∧
      (x.lcs = 2 → F.PE_BRK_EN.of v = 1 → Does (.brkWrite e k v) s fun d => d.bit stat F.PE_STAT_CFGERR = true ∧
        d.bit (A.PE_BRK e k) F.PE_BRK_EN = false ∧ x.RegsKept d [stat, A.PE_BRK e k]))

/-- R75: in STOP a region of the image is taken, an enabled Q region only where it overlaps no other (R75) and every claimed
destination in its lines is free (R18). A Q region taken enabled holds the claim of every such destination, and the Q words of
a newly enabled one carry VALID clear (R84), with their values kept. Outside STOP the write is refused with CFGERR. -/
def Obligations.RegionsTaken : Prop :=
  ∀ (s : State) (e : Fin 8) (k : Fin 16) (v : Word), s.dev.on = true →
    1 ≤ F.PE_QREG_COUNT.of v → F.PE_QREG_COUNT.of v ≤ 4096 →
    let x := s.dev
    (∀ q, x.regionOk e q k (regionWord q v (x.reg (if q then A.PE_QREG e k else A.PE_IREG e k))) = true →
      Does (.regionWrite e q k v) s fun d =>
        let a := if q then A.PE_QREG e k else A.PE_IREG e k
        d.get a F.PE_QREG_BASE = F.PE_QREG_BASE.of v ∧ d.get a F.PE_QREG_COUNT = F.PE_QREG_COUNT.of v ∧
        d.get a F.PE_QREG_EN = F.PE_QREG_EN.of v ∧ (q = true → d.get a F.PE_QREG_STOPV = F.PE_QREG_STOPV.of v) ∧
        d = { x with regs := d.regs, points := d.points, claims := d.claims, wrote := d.wrote } ∧
        (q = false → d = { x with regs := d.regs } ∧ x.RegsKept d [a]) ∧
        (q = true → F.PE_QREG_EN.of v = 1 → ∀ h ∈ x.regionDests (d.reg a), claimedClass (hclass h) = true →
          d.claim h = some (.engine e)) ∧
        (q = true → F.PE_QREG_EN.of v = 1 → x.bit a F.PE_QREG_EN = false → ∀ l ∈ regionLines (d.reg a), ∀ j, j < 4 →
          d.point (mkHandle 0x04 (l * 4 + j)) = ⟨(x.point (mkHandle 0x04 (l * 4 + j))).val, false⟩)) ∧
    (∀ q, x.peMode e ≠ 0 → Does (.regionWrite e q k v) s fun d => d.bit (A.PE_STAT e) F.PE_STAT_CFGERR = true ∧
      x.RegsKept d [A.PE_STAT e] ∧ d = { x with regs := d.regs, hwSet := d.hwSet, scribe := d.scribe, free := d.free })

/-- R87, R74, R92: RUN is entered at once from STOP or HOLD with an active half that the engine holds, and refused with RUNREF
and a record without one. STOP from RUN is pending and then takes effect once no task is in a cycle; from HOLD it takes effect
at once. HOLD is entered at once, but refused with CFGERR in OPERATIONAL. STEP and CYC in HOLD let one instruction, or the rest
of the cycle, execute (R91). R86: the watchdog takes the engine to STOP with WDF set. R82: a gated engine wakes before a fire. -/
def Obligations.EngineModes : Prop :=
  ∀ (s : State) (e : Fin 8), s.dev.on = true →
    let x := s.dev
    let stat := A.PE_STAT e
    let good := x.bit (A.PE_CODE e) F.PE_CODE_AVAL = true ∧ x.ownsLive (e.val + 1) (x.get (A.PE_CODE e) F.PE_CODE_ACT) = true
    (x.peMode e ≠ 1 → x.lcs ≠ 0 → x.lcs ≠ 4 → good → Does (.reqRun e) s fun d => d.peMode e = 1 ∧
      d.get stat F.PE_STAT_PEND = 0 ∧ d = { x with regs := d.regs, engs := d.engs } ∧
      x.RegsKept d (stat :: (upto 16).map (A.PE_TASK_STAT e)) ∧
      (∀ t, t < 16 → x.taskState e t = tsHalted → d.taskState e t = tsRunning)) ∧
    (x.peMode e ≠ 1 → x.lcs ≠ 0 → x.lcs ≠ 4 → ¬good → Does (.reqRun e) s fun d => d.peMode e = x.peMode e ∧
      d.bit stat F.PE_STAT_RUNREF = true ∧ d = { x with regs := d.regs, hwSet := d.hwSet, scribe := d.scribe, free := d.free } ∧
      x.RegsKept d [stat]) ∧
    (x.peMode e = 1 → Does (.reqStop e) s fun d => d.peMode e = 1 ∧ d.get stat F.PE_STAT_PEND = 2 ∧
      d = { x with regs := d.regs, engs := d.engs } ∧ x.RegsKept d [stat]) ∧
    (x.peMode e = 2 → Does (.reqStop e) s fun d => d = x.enterStop e 1) ∧
    (x.halted = false → x.peMode e = 1 → x.get stat F.PE_STAT_PEND = 2 → x.inCycle e = false →
      Does (.engineStop e) s fun d => d = x.enterStop e (if (x.eng e).byPolicy then 2 else 1)) ∧
    (∀ cause, cause < 16 → (x.enterStop e cause).peMode e = 0 ∧ (x.enterStop e cause).get stat F.PE_STAT_CAUSE = cause ∧
      ((x.enterStop e cause).eng e).cur = none) ∧
    (x.lcs ≠ 2 → x.peMode e = 1 → Does (.reqHold e) s fun d => d = x.enterHold e 1 ∧
      ((∀ t, t < 16 → x.bit (A.PE_TASK_CTL e t) F.PE_TASK_CTL_HOLDOUT = false) → d.peMode e = 2 ∧
        d.get stat F.PE_STAT_CAUSE = 1 ∧ d = { x with regs := d.regs, engs := d.engs })) ∧
    (x.lcs = 2 → Does (.reqHold e) s fun d => d.peMode e = x.peMode e ∧ d.bit stat F.PE_STAT_CFGERR = true ∧
      d = { x with regs := d.regs, hwSet := d.hwSet } ∧ x.RegsKept d [stat]) ∧
    (x.lcs ≠ 2 → x.peMode e = 2 → (x.task e (x.get stat F.PE_STAT_TASK)).phase = .execute →
      (Does (.dbgStep e) s fun d => d = { x with engs := d.engs } ∧ d.eng e = { x.eng e with step := 1 }) ∧
      (Does (.dbgCyc e) s fun d => d = { x with engs := d.engs } ∧ d.eng e = { x.eng e with step := 2 })) ∧
    (∀ t, x.halted = false → (x.eng e).cur = some t → t < 16 → x.peMode e = 1 → x.wdtNs e t ≤ (x.task e t).ns →
      Does (.watchdogExpiry e) s fun d => d.get stat F.PE_STAT_TASK = t ∧
        d = ((x.taskQRegions e t).foldl (fun y k => y.regionStop e k)
          (((x.raise (A.PE_TASK_STAT e t) F.PE_TASK_STAT_WDF).setTaskState e t tsFaulted).enterStop e 3)).set
            stat F.PE_STAT_TASK t) ∧
    (x.halted = false → (x.eng e).gated = true → x.wakeDue e = true → Does (.engineWake e) s fun d =>
      d = { x with engs := d.engs } ∧ d.eng e = { x.eng e with gated := false })

/-- R81: an engine that may start takes its due task of the highest priority where none executes and none of higher priority
is preempted, or where one of lower priority executes or applies its forces, which is then preempted. R83, R99, R104: the task is RUNNING in its
latch, with its snapshot of the I words as they stood at the start of the tick with the time of the tick, BA, bit stack, flags
and call stack clear, its words and floats kept, and the working copy of its last transfer. A preempted task resumes when no
other waits, a forces phase with what is left of it. R123: a timer whose ET stands at PT has Q of its kind. -/
def Obligations.TasksStart : Prop :=
  ∀ (s : State) (e : Fin 8) (t : Nat), s.dev.on = true → s.dev.halted = false →
    let x := s.dev
    let begun (y d : Dev) := d = y.startCycle e t ∧ (d.eng e).cur = some t ∧ d.taskState e t = tsRunning ∧
      (let k := d.task e t;
        k.phase = .latch ∧ k.w = (x.task e t).w ∧ k.f = (x.task e t).f ∧ k.ba = false ∧ k.bits = [] ∧ k.calls = [] ∧ k.fp = 0 ∧
        k.z = false ∧ k.n = false ∧ k.v = false ∧ k.c = false ∧ k.stamp = y.actTs ∧ k.idx = y.taskEntry e t ∧
        ((x.task e t).fresh = false → k.work = (x.task e t).kept))
    (x.dueTask e = some t → x.noStarts e = false → t < 16 →
      ((x.eng e).cur = none → (∀ u, x.preemptedTask e = some u → x.taskPrio e t < x.taskPrio e u) →
        Does (.taskStart e) s fun d => begun (x.consumeEvent e t) d) ∧
      (∀ u, u < 16 → u ≠ t → (x.eng e).cur = some u → ((x.task e u).phase = .execute ∨ (x.task e u).phase = .forces) →
        x.taskPrio e t < x.taskPrio e u →
        Does (.taskStart e) s fun d => begun ((x.preempt e u).consumeEvent e t) d ∧ d.taskState e u = tsPreempted)) ∧
    ((x.eng e).cur = none → x.preemptedTask e = some t → t < 16 → x.peMode e = 1 → x.dueTask e = none →
      Does (.taskResume e) s fun d => d = { x with regs := d.regs, engs := d.engs, tasks := d.tasks } ∧ (d.eng e).cur = some t ∧
        d.taskState e t = tsRunning ∧ x.RegsKept d [A.PE_TASK_STAT e t] ∧
        d.task e t = (if (x.task e t).phase = .forces then { x.task e t with readyAt := x.ticks + (x.task e t).left }
          else x.task e t)) ∧
    (∀ n : Fin 4096, (x.timer n).pt.toNat ≤ (x.timer n).et.toNat → Does (.timerExpiry n) s fun d =>
      d = { x with timers := d.timers } ∧ (∀ k, k ≠ n.val → d.timer k = x.timer k) ∧
      ((x.timer n).kind = 1 → (d.timer n).q = (x.timer n).inp) ∧
      ((x.timer n).kind = 2 → (x.timer n).inp = false → (d.timer n).q = false) ∧ ((x.timer n).kind = 3 → (d.timer n).q = false))

/-! ## HiWard-L (chapter 5) -/

/-- R101, R102, R104, R105: an I word in the task's regions reads its snapshot and cannot be stored to; a Q word reads and
writes the task's working copy; an L word lies at FP plus its address and beyond 4096 faults RANGE; T and C words are those of
the engine's blocks, and one beyond them faults TCR; an image word outside the regions faults IMG; a K word beyond the
constants faults RANGE. A location reads back what was stored to it, and a store to it leaves every other.
R135, R134: a fault leaves the task FAULTED with no cycle under way and the engine in its mode with no task executing; the
first fault's code, task, index and information stand in PE_FAULT, every fault is counted and recorded. A push on a full bit
stack and a pop from an empty one fault. Stated for a task that names no Q region. -/
def Obligations.OperandsAndFaults : Prop :=
  (
    ∀ (s : Dev) (e t w a : Nat) (k : Task) (v : Word),
      (w < 16384 → s.hasILine e t (w / 4) = true → s.resolve e t 0 w a = .ok (.i w) ∧ (Loc.i w).writable = false ∧
        s.locRead k (.i w) = (s, some (tabGet Pt.none k.snap w).val)) ∧
      (s.hasILine e t (w / 4) = false → s.resolve e t 0 w a = .error ⟨3, memInfo 0 a⟩) ∧
      (w < 16384 → s.hasQLine e t (w / 4) = true → s.resolve e t 1 w a = .ok (.q w) ∧
        s.locWrite k (.q w) v = (s, { k with work := tabPut 0 k.work w v }, true)) ∧
      (s.hasQLine e t (w / 4) = false → s.resolve e t 1 w a = .error ⟨3, memInfo 1 a⟩) ∧
      (w < 4096 → s.resolve e t 3 w a = .ok (.l w)) ∧ (4096 ≤ w → s.resolve e t 3 w a = .error ⟨7, memInfo 3 a⟩) ∧
      (s.get (A.PE_TCRES e) F.PE_TCRES_TCNT * 64 ≤ w / 4 → s.resolve e t 4 w a = .error ⟨11, memInfo 4 a⟩) ∧
      (s.get (A.PE_TCRES e) F.PE_TCRES_CCNT * 64 ≤ w / 4 → s.resolve e t 5 w a = .error ⟨11, memInfo 5 a⟩) ∧
      (w < s.layWord e 5 → s.resolve e t 6 w a = .ok (.k (s.actBase e + (s.layWord e 4 + w) * 4))) ∧
      (s.layWord e 5 ≤ w → s.resolve e t 6 w a = .error ⟨7, memInfo 6 a⟩) ∧
      (∀ i b, s.partWord e w = some i → s.mBank (i / 131072) = some b → s.ownsLive (e + 1) b = true →
        s.resolve e t 2 w a = .ok (.m i (bankBase b + i % 131072 * 4))) ∧
      (s.partWord e w = none → s.resolve e t 2 w a = .error ⟨4, memInfo 2 a⟩) ∧
      (∀ l, (l = .q w ∨ l = .l w ∨ l = .t w 0 ∨ l = .c w 0 ∨ l = .c w 1) → l.writable = true ∧
        ((s.locWrite k l v).1.locRead (s.locWrite k l v).2.1 l).2 = some v ∧
        (∀ m, m ≠ l → (∀ n j, m ≠ .m n j) → (∀ n, m ≠ .k n) → m ≠ .c w 2 →
          ((s.locWrite k l v).1.locRead (s.locWrite k l v).2.1 m).2 = (s.locRead k m).2))) ∧
  (
    ∀ (s : State) (e : Fin 8) (t : Nat), s.dev.Ready e t → t < 16 →
      let x := s.dev
      let k := x.hlBank e t
      (k.bits.length = 16 → Faults (.hlPush e) s e t ⟨8, 0⟩) ∧
      (k.bits = [] → ∀ c ∈ [Instr.hlPop e, .hlAnds e, .hlOrs e, .hlXors e], Faults c s e t ⟨8, 0⟩) ∧
      (∀ f : HlFault, f.code < 16 → f.code ≠ 0 → x.taskQRegions e t = [] →
        let i := (x.task e t).idx
        let d := x.taskFault e t f i
        d.taskState e t = tsFaulted ∧ (d.task e t).phase = .none ∧ (d.eng e).cur = none ∧ d.peMode e = x.peMode e ∧
        d.get (A.PE_STAT e) F.PE_STAT_TASK = t ∧ d.points = x.points ∧ d.mem = x.mem ∧
        (x.get (A.PE_FAULT e) F.PE_FAULT_CODE = 0 → d.get (A.PE_FAULT e) F.PE_FAULT_CODE = f.code ∧
          d.get (A.PE_FAULT e) F.PE_FAULT_TASK = t ∧ d.reg (A.PE_FAULT_INFO e) = BitVec.ofNat 32 f.info) ∧
        (x.get (A.PE_FAULT e) F.PE_FAULT_CODE ≠ 0 → d.get (A.PE_FAULT e) F.PE_FAULT_CODE = x.get (A.PE_FAULT e) F.PE_FAULT_CODE ∧
          d.reg (A.PE_FAULT_INFO e) = x.reg (A.PE_FAULT_INFO e)) ∧
        x.RegsKept d [A.PE_TASK_STAT e t, A.PE_STAT e, A.PE_FAULT e, A.PE_FAULT_INFO e]))

/-- R108: with an operand that resolves and answers, each bit-memory instruction gives BA, the bit stack and the operand the
values of its row, at 1 cycle and the surcharges; no flag, word or float register changes, and SET and RST with BA 0 store
nothing. A push with room puts the old BA on the stack.
R109, R114: each instruction of BA, the bit stack and single bits of word registers gives the bank the values of its row at
one cycle, and changes nothing else. PUSH and PLDB need room on the stack of 16, POP, ANDS, ORS and XORS a bit on it. -/
def Obligations.BitInstructions : Prop :=
  (
    ∀ (s : State) (e : Fin 8) (t : Nat) (op : BmOp) (r : BitRef), s.dev.Ready e t →
      let x := s.dev
      let k := x.hlBank e t
      x.bitRef e t k op = .ok r → x.locWaits r.loc = false →
      let cost := 1 + r.cost
      let put (y : Dev) (k' : Task) := y.hlAfter e t k' cost
      (∀ y w, x.locRead k r.loc = (y, some w) →
        let b := w.getLsbD r.bit
        (∀ c v, (c, v) ∈ [(Instr.hlLd e op, b), (.hlLdn e op, !b), (.hlBmAnd e op, k.ba && b), (.hlBmAndn e op, k.ba && !b),
            (.hlBmOr e op, k.ba || b), (.hlOrn e op, k.ba || !b), (.hlBmXor e op, k.ba ^^ b), (.hlXorn e op, k.ba ^^ !b)] →
          Does c s fun d => d = put y { k with ba := v }) ∧
        (k.bits.length < 16 → ∀ c v, (c, v) ∈ [(Instr.hlPld e op, b), (.hlPldn e op, !b)] →
          Does c s fun d => d = put y { k with ba := v, bits := k.ba :: k.bits }) ∧
        (r.loc.writable = true → ∀ z k', y.locWrite k r.loc (setBitOf (y.locBeneath k r.loc) r.bit k.ba) = (z, k', true) →
          ∀ c v, (c, v) ∈ [(Instr.hlRedg e op, k.ba && !b), (.hlFedg e op, !k.ba && b)] →
            Does c s fun d => d = put z { k' with ba := v })) ∧
      (r.loc.writable = true → ∀ c o, (c, o) ∈ [(Instr.hlSt e op, some k.ba), (.hlStn e op, some !k.ba),
          (.hlSet e op, if k.ba then some true else none), (.hlRst e op, if k.ba then some false else none)] →
        (o = none → Does c s fun d => d = put x k) ∧
        (∀ b y k', o = some b → x.locWrite k r.loc (setBitOf (x.locBeneath k r.loc) r.bit b) = (y, k', true) →
          Does c s fun d => d = put y k'))) ∧
  (
    ∀ (s : State) (e : Fin 8) (t : Nat) (d i : Fin 16) (n : Fin 32), s.dev.Ready e t →
      let k := s.dev.hlBank e t
      let bit := (k.rw i).getLsbD n
      (∀ c k', (c, k') ∈ [(Instr.hlNop e, k), (.hlNotba e, { k with ba := !k.ba }), (.hlSetba e, { k with ba := true }),
          (.hlClrba e, { k with ba := false }), (.hlZtb e, { k with ba := k.z }), (.hlNtb e, { k with ba := k.n }),
          (.hlVtb e, { k with ba := k.v }), (.hlCtb e, { k with ba := k.c }),
          (.hlClrf e, { k with z := false, n := false, v := false, c := false }), (.hlLdb e i n, { k with ba := bit }),
          (.hlStb e d n, k.setW d (if k.ba then k.rw d ||| bitMask n else k.rw d &&& ~~~(bitMask n))),
          (.hlBtw e d, k.setW d (if k.ba then 1 else 0)), (.hlWtb e i, { k with ba := k.rw i != 0 }),
          (.hlAndb e i n, { k with ba := k.ba && bit }), (.hlOrb e i n, { k with ba := k.ba || bit })] → Banks c s e t k' 1) ∧
      (k.bits.length < 16 → Banks (.hlPush e) s e t { k with bits := k.ba :: k.bits } 1 ∧
        Banks (.hlPldb e i n) s e t { k with ba := bit, bits := k.ba :: k.bits } 1) ∧
      (∀ b bs, k.bits = b :: bs → ∀ c v, (c, v) ∈ [(Instr.hlPop e, b), (.hlAnds e, b && k.ba), (.hlOrs e, b || k.ba),
          (.hlXors e, b ^^ k.ba)] → Banks c s e t { k with ba := v, bits := bs } 1))

/-- R110 to R112: each integer instruction gives Wd the result of its row; Z and N follow the result where the instruction sets
flags, V is signed overflow, C the carry or the borrow, and the flags that it does not set stay. A divisor of 0 gives quotient
0, remainder Wa and V. Nothing but Wd, the flags, the index and the time of the task changes. -/
def Obligations.IntegerArithmetic : Prop :=
  ∀ (s : State) (e : Fin 8) (t : Nat) (d i j : Fin 16) (imm : BitVec 14) (h : BitVec 16), s.dev.Ready e t →
    let k := s.dev.hlBank e t
    let a := k.rw i
    let b := k.rw j
    let m := imm.signExtend 32
    let u := imm.setWidth 32
    let ci : Nat := if k.c then 1 else 0
    let ovr (n : Int) : Bool := decide (n < -2147483648) || decide (2147483647 < n)
    let low : Word := 0x80000000
    let set (r : Word) (v c : Option Bool) : Task :=
      { k.setW d r with z := r == 0, n := r.getLsbD 31, v := v.getD k.v, c := c.getD k.c }
    (∀ c k', (c, k') ∈ [
        (Instr.hlAdd e d i j, set (a + b) (ovr (a.toInt + b.toInt)) (decide (2 ^ 32 ≤ a.toNat + b.toNat))),
        (.hlAdc e d i j, set (BitVec.ofNat 32 (a.toNat + b.toNat + ci)) (ovr (a.toInt + b.toInt + ci))
          (decide (2 ^ 32 ≤ a.toNat + b.toNat + ci))),
        (.hlSub e d i j, set (a - b) (ovr (a.toInt - b.toInt)) (decide (a.toNat < b.toNat))),
        (.hlSbc e d i j, set (BitVec.ofInt 32 (a.toInt - b.toInt - ci)) (ovr (a.toInt - b.toInt - ci))
          (decide (a.toNat < b.toNat + ci))),
        (.hlAnd e d i j, set (a &&& b) none none), (.hlOr e d i j, set (a ||| b) none none),
        (.hlXor e d i j, set (a ^^^ b) none none), (.hlAndn e d i j, set (a &&& ~~~b) none none),
        (.hlNot e d i, set (~~~a) none none), (.hlMov e d i, set a none none), (.hlNeg e d i, set (-a) (a == low) none),
        (.hlAbs e d i, set (if a.toInt < 0 then -a else a) (a == low) none),
        (.hlMin e d i j, set (if a.toInt ≤ b.toInt then a else b) none none),
        (.hlMax e d i j, set (if a.toInt ≤ b.toInt then b else a) none none),
        (.hlMinu e d i j, set (if a.toNat ≤ b.toNat then a else b) none none),
        (.hlMaxu e d i j, set (if a.toNat ≤ b.toNat then b else a) none none),
        (.hlMul e d i j, set (a * b) (ovr (a.toInt * b.toInt)) none),
        (.hlMulh e d i j, set (BitVec.ofInt 32 (a.toInt * b.toInt / 2 ^ 32)) none none),
        (.hlMulhu e d i j, set (BitVec.ofNat 32 (a.toNat * b.toNat / 2 ^ 32)) none none),
        (.hlAddi e d i imm, set (a + m) (ovr (a.toInt + m.toInt)) (decide (2 ^ 32 ≤ a.toNat + m.toNat))),
        (.hlAndi e d i imm, set (a &&& u) none none), (.hlOri e d i imm, set (a ||| u) none none),
        (.hlXori e d i imm, set (a ^^^ u) none none), (.hlMuli e d i imm, set (a * m) (ovr (a.toInt * m.toInt)) none),
        (.hlMovi e d h, k.setW d (h.signExtend 32)), (.hlMovu e d h, k.setW d (h.setWidth 32)),
        (.hlMovh e d h, k.setW d (h ++ (k.rw d).setWidth 16))] → Banks c s e t k' 2) ∧
    (∀ c k', (c, k') ∈ [
        (Instr.hlDiv e d i j, if b = 0 then set 0 true none
          else if a = low ∧ b = -1 then set low true none else set (a.sdiv b) false none),
        (.hlDivu e d i j, if b = 0 then set 0 true none else set (a / b) false none),
        (.hlRem e d i j, if b = 0 then set a true none else set (a.srem b) false none),
        (.hlRemu e d i j, if b = 0 then set a true none else set (a % b) false none)] → Banks c s e t k' 20)

/-- R113: a compare sets the flags as a subtraction would and writes its outcome to BA, with P after a push. R114: a shift or
rotate by n = 0 to 31 (a register's count modulo 32) gives Wd its result, Z and N, and C the last bit shifted out; a count of
0 leaves C. -/
def Obligations.ComparesAndShifts : Prop :=
  ∀ (s : State) (e : Fin 8) (t : Nat) (d i j : Fin 16) (imm : BitVec 14) (cnt : Fin 32) (p : Bool), s.dev.Ready e t →
    let k := s.dev.hlBank e t
    let a := k.rw i
    let flags (b : Word) (k : Task) : Task :=
      { k with z := a == b, n := (a - b).getLsbD 31,
               v := decide (a.toInt - b.toInt < -2147483648) || decide (2147483647 < a.toInt - b.toInt),
               c := decide (a.toNat < b.toNat) }
    let signed (b : Word) := [a == b, a != b, decide (a.toInt < b.toInt), decide (a.toInt ≤ b.toInt),
      decide (b.toInt < a.toInt), decide (b.toInt ≤ a.toInt), decide (a.toNat < b.toNat)]
    let q : Task := if p then { k with bits := k.ba :: k.bits } else k
    ((p = true → k.bits.length < 16) →
      (∀ cond : Fin 10,
        let b := k.rw j
        Banks (.hlIcmp e p cond i j) s e t
          { flags b q with ba := (signed b ++ [decide (a.toNat ≤ b.toNat), decide (b.toNat < a.toNat),
                                               decide (b.toNat ≤ a.toNat)]).getD cond false } 2) ∧
      (∀ cond : Fin 8,
        let b := imm.signExtend 32
        Banks (.hlIcmpi e p cond i imm) s e t
          { flags b q with ba := (signed b ++ [decide (b.toNat ≤ a.toNat)]).getD cond false } 2)) ∧
    (let set (n : Nat) (r : Word) (out : Bool) : Task :=
        { k.setW d r with z := r == 0, n := r.getLsbD 31, c := if n = 0 then k.c else out }
      let n := (k.rw j).toNat % 32
      ∀ c k', (c, k') ∈ [(Instr.hlShl e d i j, set n (a <<< n) (a.getLsbD (32 - n))),
          (.hlShr e d i j, set n (a >>> n) (a.getLsbD (n - 1))), (.hlSar e d i j, set n (a.sshiftRight n) (a.getLsbD (n - 1))),
          (.hlRol e d i j, set n (a.rotateLeft n) (a.getLsbD (32 - n))),
          (.hlShli e d i cnt, set cnt (a <<< cnt.val) (a.getLsbD (32 - cnt.val))),
          (.hlShri e d i cnt, set cnt (a >>> cnt.val) (a.getLsbD (cnt.val - 1))),
          (.hlSari e d i cnt, set cnt (a.sshiftRight cnt.val) (a.getLsbD (cnt.val - 1))),
          (.hlRoli e d i cnt, set cnt (a.rotateLeft cnt.val) (a.getLsbD (32 - cnt.val)))] → Banks c s e t k' 2)

/-- R115: a load of a word gives Wd the word that its operand names, a load of a double gives Fd two words, the low one first; a
store puts them there. The cost is 2 and the surcharges; no flag changes. An odd address of a double faults ALIGN, space code 7
ILLEGAL, and a store to a location that cannot be written WRO. -/
def Obligations.LoadsAndStores : Prop :=
  ∀ (s : State) (e : Fin 8) (t : Nat) (d wb : Fin 16) (f sp : Fin 8) (addr : BitVec 19) (ofs : BitVec 15), s.dev.Ready e t →
    let x := s.dev
    let k := x.hlBank e t
    ∀ op ldw stw fld fst, (op, ldw, stw, fld, fst) ∈
        [(MwOp.direct sp addr, Instr.hlLdw e d sp addr, Instr.hlStw e d sp addr, Instr.hlFld e f sp addr, Instr.hlFst e f sp addr),
         (.indexed sp wb ofs, .hlLdx e d sp wb ofs, .hlStx e d sp wb ofs, .hlFldx e f sp wb ofs, .hlFstx e f sp wb ofs)] →
      let a := wordAddr k op
      let put (y : Dev) (k' : Task) := y.hlAfter e t k' (2 + mwCost op)
      (∀ l, sp.val ≠ 7 → x.resolve e t sp a a = .ok l → x.locWaits l = false →
        (∀ y v, x.locRead k l = (y, some v) → Does ldw s fun g => g = put y (k.setW d v)) ∧
        (∀ y k', l.writable = true → x.locWrite k l (k.rw d) = (y, k', true) → Does stw s fun g => g = put y k') ∧
        (l.writable = false → Faults stw s e t ⟨5, memInfo sp a⟩) ∧
        (∀ m, a % 2 = 0 →
          (∀ y z v w, x.locRead k l = (y, some v) → y.resolve e t sp (a + 1) (a + 1) = .ok m → y.locWaits m = false →
            y.locRead k m = (z, some w) → Does fld s fun g => g = put z (k.setF f (w ++ v))) ∧
          (∀ y k' z k'', l.writable = true → m.writable = true → x.resolve e t sp (a + 1) (a + 1) = .ok m →
            x.locWaits m = false → x.locWrite k l ((k.rf f).setWidth 32) = (y, k', true) →
            y.locWrite k' m (((k.rf f) >>> 32).setWidth 32) = (z, k'', true) → Does fst s fun g => g = put z k''))) ∧
      (sp.val ≠ 7 → a % 2 = 1 → Faults fld s e t ⟨6, memInfo sp a⟩ ∧ Faults fst s e t ⟨6, memInfo sp a⟩) ∧
      (sp.val = 7 → Faults ldw s e t ⟨1, 0⟩ ∧ Faults stw s e t ⟨1, 0⟩ ∧ Faults fld s e t ⟨1, 0⟩ ∧ Faults fst s e t ⟨1, 0⟩)

/-- R116: a branch to a target in the code section goes there when its condition holds (2 cycles), else on (1 cycle). R117: a
call stacks the next index and FP, adds the frame to FP and goes to its target; RET undoes it. A target outside the code
section faults BRANCH, a full stack or frame and an empty stack CSTK. END (R83) ends the execute phase: forces go over the
working copy at 2 cycles each, and the output transfer follows. BKPT brings the engine to HOLD with cause 4, in OPERATIONAL only a record. -/
def Obligations.FlowOfControl : Prop :=
  ∀ (s : State) (e : Fin 8) (t : Nat) (cond : Fin 15) (target : BitVec 17) (frame : BitVec 8), s.dev.Ready e t →
    let x := s.dev
    let k := x.hlBank e t
    let holds := [true, k.z, !k.z, k.n != k.v, k.n == k.v, !k.z && k.n == k.v, k.z || k.n != k.v, k.c, !k.c, k.v, !k.v, k.n,
      !k.n, k.ba, !k.ba].getD cond false
    let fp := k.fp + frame.toNat * 4
    (x.inCode e target.toNat = true →
      (holds = true → Banks (.hlBr e cond target) s e t { k with idx := target.toNat } 2) ∧
      (holds = false → Banks (.hlBr e cond target) s e t k 1) ∧
      (k.calls.length < 32 → fp < 4096 →
        Banks (.hlCall e frame target) s e t { k with idx := target.toNat, fp := fp, calls := (k.idx, k.fp) :: k.calls } 3) ∧
      ((32 ≤ k.calls.length ∨ 4096 ≤ fp) → Faults (.hlCall e frame target) s e t ⟨9, 0⟩)) ∧
    (x.inCode e target.toNat = false → Faults (.hlBr e cond target) s e t ⟨10, target.toNat⟩ ∧
      Faults (.hlCall e frame target) s e t ⟨10, target.toNat⟩) ∧
    (∀ i f cs, k.calls = (i, f) :: cs → Banks (.hlRet e) s e t { k with idx := i, fp := f, calls := cs } 3) ∧
    (k.calls = [] → Faults (.hlRet e) s e t ⟨9, 0⟩) ∧
    (let ws := x.regionWords (x.taskQRegs e t)
      let n := 16 + ws.length / 4
      let f := 2 * (x.forcesOn 0x03 0x04 ws).length
      let p := k.ns % 4 + 1
      let ended := { k with calls := [], work := x.forceWork ws k.work, acted := x.forcesOn 0x03 0x04 ws }
      (f = 0 → Banks (.hlEnd e) s e t { ended with phase := .transfer, readyAt := x.ticks + (p + n + 3) / 4 } (n + 1)) ∧
      (f ≠ 0 → Banks (.hlEnd e) s e t { ended with phase := .forces, fcost := p + f, readyAt := x.ticks + (p + f) / 4 } (f + 1))) ∧
    (x.lcs = 2 → Does (.hlBkpt e) s fun d =>
      d = (x.offer (peSrc e) 0x04 .bkptIgnored).setTask e t { k with ns := k.ns + 1 }) ∧
    (x.lcs ≠ 2 → (∀ u, u < 16 → x.bit (A.PE_TASK_CTL e u) F.PE_TASK_CTL_HOLDOUT = false) → t < 16 →
      Does (.hlBkpt e) s fun d => d.peMode e = 2 ∧ d.get (A.PE_STAT e) F.PE_STAT_CAUSE = 4 ∧
        d.get (A.PE_STAT e) F.PE_STAT_TASK = t ∧ d.taskState e t = tsHalted ∧ d.task e t = { k with ns := k.ns + 1 } ∧
        d = { x with regs := d.regs, engs := d.engs, tasks := d.tasks })

/-- R119, R120: each float instruction gives its register the result that binary64 arithmetic rounds to nearest even, at its
cost; a NaN result is some NaN, whose sign and payload stay open (log 24). Z: ±0. N: the sign of a result that is not a NaN. V:
NaN or infinite, for a word a saturated or NaN conversion. C stays, but a compare clears it. -/
def Obligations.FloatArithmetic : Prop :=
  ∀ (s : State) (e : Fin 8) (t : Nat) (d i j : Fin 8) (w : Fin 16) (p : Bool), s.dev.Ready e t →
    let k := s.dev.hlBank e t
    let a := k.rf i
    let b := k.rf j
    let expo (v : Dbl) := (v >>> 52).setWidth 11 == (0x7FF : BitVec 11)
    let nan (v : Dbl) := expo v && (v &&& 0x000FFFFFFFFFFFFF) != 0
    let set (v : Dbl) : Task := { k.setF d v with z := v &&& 0x7FFFFFFFFFFFFFFF == 0, n := v.getLsbD 63 && !nan v, v := expo v }
    let setW (v : Word) (o : Bool) : Task := { k.setW w v with z := v == 0, n := v.getLsbD 31, v := o }
    (∀ c r n, (c, r, n) ∈ [(Instr.hlFadd e d i j, fadd64 a b, 4), (.hlFsub e d i j, fsub64 a b, 4),
        (.hlFmul e d i j, fmul64 a b, 4), (.hlFdiv e d i j, fdiv64 a b, 20), (.hlFsqrt e d i, fsqrt64 a, 20),
        (.hlFmadd e d i j, fma64 a b (k.rf d), 4), (.hlFabs e d i, a &&& 0x7FFFFFFFFFFFFFFF, 2),
        (.hlFneg e d i, a ^^^ 0x8000000000000000, 2), (.hlFmov e d i, a, 2), (.hlFcvts e d w, widen (k.rw w), 4),
        (.hlFcvtw e d w, e64 (Fl.ofInt (k.rw w).toInt), 4), (.hlFcvtu e d w, e64 (Fl.ofInt (k.rw w).toNat), 4)] →
      ∃ v, (nan r = false → v = r) ∧ (nan r = true → nan v = true) ∧ Banks c s e t (set v) n) ∧
    (∀ c up dn, (c, up, dn) ∈ [(Instr.hlFmin e d i j, Ordering.lt, Ordering.gt), (.hlFmax e d i j, .gt, .lt)] →
      ∃ v, Banks c s e t (set v) 2 ∧ (nan a = true → nan b = true → nan v = true) ∧ (nan a = true → nan b = false → v = b) ∧
        (nan a = false → nan b = true → v = a) ∧ ((d64 a).cmp (d64 b) = some up → v = a) ∧
        ((d64 a).cmp (d64 b) = some dn → v = b)) ∧
    ((p = true → k.bits.length < 16) → ∀ cond : Fin 7,
      let o := (d64 a).cmp (d64 b)
      let q : Task := if p then { k with bits := k.ba :: k.bits } else k
      Banks (.hlFcmpCompare e p cond i j) s e t
        { q with z := o == some .eq, n := o == some .lt, v := o == none, c := false,
                 ba := [o == some .eq, o != some .eq, o == some .lt, o == some .lt || o == some .eq, o == some .gt,
                        o == some .gt || o == some .eq, o == none].getD cond false } 2) ∧
    (Banks (.hlWcvtf e w i) s e t (setW (toWordSat true (d64 a)).1 (toWordSat true (d64 a)).2) 4 ∧
      Banks (.hlWtrf e w i) s e t (setW (toWordSat false (d64 a)).1 (toWordSat false (d64 a)).2) 4) ∧
    (∃ v : Word, ((d32 (narrow a)).isNan = false → v = narrow a) ∧ ((d32 (narrow a)).isNan = true → (d32 v).isNan = true) ∧
      Banks (.hlScvtf e w i) s e t { k.setW w v with z := fIsZero (d32 v), n := fIsNeg (d32 v), v := fIsOver (d32 v) } 4)

/-- R122: a timer instruction of the engine's block applies its kind to IN = BA, and BA takes Q; of another kind it resets the
timer first. R124: a counter moves by one on a rising BA, saturating at its bounds, and BA takes QU or QD; CRST and CLDV load
it when BA is 1. An index beyond the block faults TCR. Nothing else changes. -/
def Obligations.TimersAndCounters : Prop :=
  ∀ (s : State) (e : Fin 8) (t : Nat) (x : Bool) (wn : Fin 16) (idx : BitVec 12), s.dev.Ready e t →
    let y := s.dev
    let k := y.hlBank e t
    let i := if x then (k.rw wn + idx.setWidth 32).toNat else idx.toNat
    let tcr := A.PE_TCRES e
    let tmr (c : Instr) (f : Timer) := Does c s fun d =>
      d = (y.setTimer (y.get tcr F.PE_TCRES_TBASE * 64 + i) f).setTask e t { k with ba := f.q, ns := k.ns + 2 }
    let cnt (c : Instr) (f : Counter) (b : Bool) := Does c s fun d =>
      d = (y.setCounter (y.get tcr F.PE_TCRES_CBASE * 64 + i) f).setTask e t { k with ba := b, ns := k.ns + 2 }
    (i < y.get tcr F.PE_TCRES_TCNT * 64 →
      let o := y.timer (y.get tcr F.PE_TCRES_TBASE * 64 + i)
      let zero := o.pt = 0
      (k.ba = false → tmr (.hlTon e x wn idx) ⟨o.pt, 0, false, false, 1, false, 0⟩) ∧
      (k.ba = true → (o.kind ≠ 1 ∨ o.inp = false) → tmr (.hlTon e x wn idx) ⟨o.pt, 0, true, zero, 1, true, 0⟩) ∧
      (k.ba = true → o.kind = 1 → o.inp = true → tmr (.hlTon e x wn idx) { o with q := decide (o.pt.toNat ≤ o.et.toNat) }) ∧
      (k.ba = true → tmr (.hlTof e x wn idx) ⟨o.pt, 0, true, true, 2, false, 0⟩) ∧
      (k.ba = false → o.kind ≠ 2 → tmr (.hlTof e x wn idx) ⟨o.pt, 0, false, false, 2, false, 0⟩) ∧
      (k.ba = false → o.kind = 2 → o.inp = true →
        tmr (.hlTof e x wn idx) ⟨o.pt, 0, false, o.q && !decide zero, 2, true, 0⟩) ∧
      (k.ba = false → o.kind = 2 → o.inp = false →
        tmr (.hlTof e x wn idx) { o with q := o.q && decide (o.et.toNat < o.pt.toNat) }) ∧
      (k.ba = true → o.kind ≠ 3 → tmr (.hlTp e x wn idx) ⟨o.pt, 0, true, !decide zero, 3, true, 0⟩) ∧
      (k.ba = true → o.kind = 3 → o.inp = false → o.q = false → o.et.toNat < o.pt.toNat →
        tmr (.hlTp e x wn idx) ⟨o.pt, 0, true, true, 3, true, 0⟩) ∧
      (o.kind = 3 → o.q = true → o.et.toNat < o.pt.toNat → tmr (.hlTp e x wn idx) { o with inp := k.ba }) ∧
      tmr (.hlTrst e x wn idx) ⟨o.pt, 0, false, false, 0, false, 0⟩) ∧
    (y.get tcr F.PE_TCRES_TCNT * 64 ≤ i → ∀ c ∈ [Instr.hlTon e x wn idx, .hlTof e x wn idx, .hlTp e x wn idx, .hlTrst e x wn idx],
      Faults c s e t ⟨11, 0⟩) ∧
    (i < y.get tcr F.PE_TCRES_CCNT * 64 →
      let o := y.counter (y.get tcr F.PE_TCRES_CBASE * 64 + i)
      let up := if k.ba && !o.cu then (if o.cv = 0x7FFFFFFF then o.cv else o.cv + 1) else o.cv
      let down := if k.ba && !o.cd then (if o.cv = 0x80000000 then o.cv else o.cv - 1) else o.cv
      cnt (.hlCtu e x wn idx) { o with cv := up, cu := k.ba } (decide (o.pv.toInt ≤ up.toInt)) ∧
      cnt (.hlCtd e x wn idx) { o with cv := down, cd := k.ba } (decide (down.toInt ≤ 0)) ∧
      cnt (.hlCrst e x wn idx) { o with cv := if k.ba then 0 else o.cv } k.ba ∧
      cnt (.hlCldv e x wn idx) { o with cv := if k.ba then o.pv else o.cv } k.ba) ∧
    (y.get tcr F.PE_TCRES_CCNT * 64 ≤ i → ∀ c ∈ [Instr.hlCtu e x wn idx, .hlCtd e x wn idx, .hlCrst e x wn idx, .hlCldv e x wn idx],
      Faults c s e t ⟨11, 0⟩)

/-- R126: a read through a handle gives the value that the handle has for the tick, its validity in C, Z and N from the value;
a binary32 handle widens exactly (a NaN stays a NaN, log 24). R127: a write of a Q place of the task goes to its working copy
with C set; one that its class does not allow is recorded and clears C. VLD gives the validity of an I word of the snapshot,
TSNAP its stamp, TEXE the cycle's time; EVT offers a record from L words, of an unprivileged task only codes 0xE000 to 0xEFFF
(R130). An invalid handle faults HND. -/
def Obligations.HandlesAndRecords : Prop :=
  ∀ (s : State) (e : Fin 8) (t : Nat) (d i j : Fin 16) (f : Fin 8) (imm : BitVec 8), s.dev.Ready e t →
    let x := s.dev
    let k := x.hlBank e t
    let h := k.rw i
    let p := x.hread h
    (validHandle h = true → hclass h ≠ 0x08 →
      Banks (.hlHrd e d i) s e t { k.setW d p.val with z := p.val == 0, n := p.val.getLsbD 31, c := p.valid } 6) ∧
    (validHandle h = true → x.kind h = .f32 → ∃ v, (isNan64 (widen p.val) = false → v = widen p.val) ∧
      (isNan64 (widen p.val) = true → isNan64 v = true) ∧
      Banks (.hlHrdf e f i) s e t { k.setF f v with z := fIsZero (d64 v), n := fIsNeg (d64 v), c := p.valid } 8) ∧
    (hclass h = 0x04 → validHandle h = true → x.hasQLine e t (hindex h / 4) = true →
      Banks (.hlHwr e i j) s e t { k with work := tabPut 0 k.work (hindex h) (k.rw j), c := true } 6) ∧
    (hclass h = 0x04 → validHandle h = true → x.hasQLine e t (hindex h / 4) = false → Does (.hlHwr e i j) s fun g =>
      g = (x.offer (peSrc e) 0x04 .handleIgnored).setTask e t { k with c := false, ns := k.ns + 6 }) ∧
    (hclass h = 0x20 → validHandle h = true → x.kind h = .f32 → ∃ v, ((d32 (narrow (k.rf f))).isNan = false → v = narrow (k.rf f)) ∧
      ((d32 (narrow (k.rf f))).isNan = true → (d32 v).isNan = true) ∧
      Does (.hlHwrf e i f) s fun g => g = (x.spWrite (.engine e) (hindex h) ⟨v, true⟩).hlAfter e t { k with c := true } 8) ∧
    (validHandle h = false → ∀ c ∈ [Instr.hlHrd e d i, .hlHwr e i j, .hlHrdf e f i, .hlHwrf e i f], Faults c s e t ⟨12, h.toNat⟩) ∧
    (h.toNat < 16384 → x.hasILine e t (h.toNat / 4) = true →
      Banks (.hlVld e i) s e t { k with ba := (tabGet Pt.none k.snap h.toNat).valid } 2) ∧
    (d.val % 2 = 0 → Banks (.hlTsnap e d) s e t
      ((k.setW d (k.stamp.setWidth 32)).setW (d.val + 1) ((k.stamp >>> 32).setWidth 32)) 2) ∧
    (d.val % 2 = 1 → Faults (.hlTsnap e d) s e t ⟨1, 0⟩) ∧
    (k.ns < 2 ^ 32 → Banks (.hlTexe e d) s e t (k.setW d (BitVec.ofNat 32 k.ns)) 2) ∧
    (let n := imm.toNat
      let a := (k.rw j + BitVec.ofNat 32 k.fp).toNat
      n ≤ 16 → (n = 0 ∨ a + n ≤ 4096) →
      ((x.taskPriv e t = true ∨ (0xE000 ≤ h.toNat ∧ h.toNat ≤ 0xEFFF)) → Does (.hlEvt e i j imm) s fun g =>
        g = (x.offerCode (peSrc e) (h.setWidth 16) (x.taskPriv e t) ((upto n).map fun m => tabGet 0 k.lmem (a + m))).setTask
          e t { k with c := true, ns := k.ns + (4 + n) }) ∧
      (x.taskPriv e t = false → ¬(0xE000 ≤ h.toNat ∧ h.toNat ≤ 0xEFFF) → Banks (.hlEvt e i j imm) s e t { k with c := false } (4 + n)))

/-- R132: outside a privileged task PRD, PWR, PMODE and PHWR fault PRIV. In one, PRD gives the register that a BAR0 access by
the engine reads, with C, or 0 with C clear on an error response; PWR writes it; PMODE asks for a mode; PHWR acts as HWR does.
R128: MPOST answers 0, 1 or 2 in Wd, with C for POSTED; MRECV gives the head notice, or clears C on an empty queue. An odd pair
or a quad that is no multiple of four faults ILLEGAL. -/
def Obligations.PrivilegedInstructions : Prop :=
  ∀ (s : State) (e : Fin 8) (t : Nat) (d i j : Fin 16), s.dev.Ready e t →
    let x := s.dev
    let k := x.hlBank e t
    (x.taskPriv e t = false → ∀ c ∈ [Instr.hlPrd e d i, .hlPwr e i j, .hlPmode e i j, .hlPhwr e i j], Faults c s e t ⟨2, 0⟩) ∧
    (x.taskPriv e t = true →
      (x.standby = false → Does (.hlPrd e d i) s fun g =>
        let y := x.barRead (engAcc e) (k.rw i).toNat
        let v := if y.busOk then y.busWord else 0
        g = (y.collect 9 (BitVec.ofNat 32 e) v (if y.busOk then 1 else 0) []).hlAfter e t { k.setW d v with c := y.busOk } 20) ∧
      (Does (.hlPwr e i j) s fun g =>
        let y := x.barWrite (engAcc e) (k.rw i).toNat (k.rw j)
        g = y.hlAfter e t { k with c := y.busOk } 20) ∧
      (∀ q f, (q, f) ∈ [(1, x.reqRun ((k.rw i).toNat % 8)), (2, x.reqStop ((k.rw i).toNat % 8) true),
          (3, x.reqHold ((k.rw i).toNat % 8) true), (0, x)] → (k.rw j).toNat % 4 = q →
        Does (.hlPmode e i j) s fun g => g = f.hlAfter e t k 4) ∧
      (hclass (k.rw i) = 0x04 → validHandle (k.rw i) = true → x.hasQLine e t (hindex (k.rw i) / 4) = true →
        Banks (.hlPhwr e i j) s e t { k with work := tabPut 0 k.work (hindex (k.rw i)) (k.rw j), c := true } 6)) ∧
    (d.val % 2 = 1 → Faults (.hlMpost e d i j) s e t ⟨1, 0⟩) ∧ (d.val % 4 ≠ 0 → Faults (.hlMrecv e d i) s e t ⟨1, 0⟩) ∧
    (d.val % 2 = 0 → (k.rw i).toNat < 64 → Does (.hlMpost e d i j) s fun g =>
      let r := x.mbxPost (k.rw i).toNat (e.val + 1) (x.taskPriv e t) false (k.rw (d.val + 1) ++ k.rw d) (k.rw j)
      ∃ code : Word, g = r.1.hlAfter e t { k.setW d code with c := code == 0 } 8 ∧ code.toNat ≤ 2 ∧
        (r.2 = .posted ↔ code = 0) ∧ (r.2 = .full ↔ code = 1)) ∧
    (d.val % 4 = 0 → ∀ n, (k.rw i).toNat < 64 → x.endOf (k.rw i).toNat (e.val + 1) = some n →
      (∀ y m, x.mbxTake (k.rw i).toNat n = (y, some m) → Does (.hlMrecv e d i) s fun g =>
        let k1 := (k.setW d (m.handle.setWidth 32)).setW (d.val + 1) ((m.handle >>> 32).setWidth 32)
        g = y.hlAfter e t { (k1.setW (d.val + 2) m.tag).setW (d.val + 3) m.stamp with c := true } 8) ∧
      (∀ y, x.mbxTake (k.rw i).toNat n = (y, none) → Does (.hlMrecv e d i) s fun g => g = y.hlAfter e t { k with c := false } 8))

/-! ## Veneers and forces (chapter 6) -/

/-- R140, R141: a request that no check refuses waits in PEND with its mode; one that a check refuses leaves the check's
cause and a record; VVAL clear is such a check. A request that waits is withdrawn with cause 9 or timed out with cause 8. R142,
R143: the switch exchanges the halves, makes the new one valid, clears the W and F registers of every task, returns FAULTED
tasks to IDLE, disables the breakpoints, and ends 1000 ns plus its work later; M bytes change only where the carry stores,
and with nothing to carry no memory changes. -/
def Obligations.VeneerChange : Prop :=
  ∀ (s : State) (e : Fin 8), s.dev.on = true →
    let x := s.dev
    let a := A.PE_VNR_STAT e
    let code := A.PE_CODE e
    (∀ drain, let c := if drain then Instr.switchDrain e else .switchGap e
      ((x.eng e).vnr = none → x.vnrCheck e = none → Does c s fun d => d = { x with regs := d.regs, engs := d.engs } ∧
        (d.eng e).vnr = some ⟨drain, x.ticks, none⟩ ∧ (∀ k, k ≠ e.val → d.eng k = x.eng k) ∧ d.bit a F.PE_VNR_STAT_PEND = true ∧
        x.RegsKept d [a]) ∧
      (∀ k, (x.eng e).vnr = none → x.vnrCheck e = some k → Does c s fun d => d.get a F.PE_VNR_STAT_CAUSE = k ∧
        d.bit a F.PE_VNR_STAT_PEND = false ∧ d = { x with regs := d.regs, engs := d.engs, scribe := d.scribe, free := x.free + 1 } ∧
        (d.eng e).vnr = none ∧ x.RegsKept d [a] ∧
        ∃ o : Offer, o.src = e.val + 1 ∧ d.scribe = { x.scribe with offers := x.scribe.offers ++ [o] }) ∧
      ((x.eng e).vnr.isSome = true → Does c s fun d => d = x)) ∧
    (x.get code F.PE_CODE_VVAL = 0 → x.vnrCheck e = some 2) ∧
    (∀ v, (x.eng e).vnr = some v → v.endTick = none →
      let ended (c : Instr) (k : Nat) := Does c s fun d => d.get a F.PE_VNR_STAT_CAUSE = k ∧ d.bit a F.PE_VNR_STAT_PEND = false ∧
        (d.eng e).vnr = none ∧ x.RegsKept d [a] ∧ d = { x with regs := d.regs, engs := d.engs, scribe := d.scribe, free := d.free }
      ended (.vnrWithdraw e) 9 ∧
      (x.halted = false → v.reqTick + x.vnrBound e ≤ x.ticks → ended (.switchTimeout e) 8) ∧
      (x.halted = false → v.reqTick < x.ticks → (x.peMode e = 0 ∨ (x.peMode e = 1 ∧ x.inCycle e = false)) →
        Does (.veneerSwitch e) s fun d =>
          let plan := x.carryPlan e
          d.get code F.PE_CODE_ACT = x.get code F.PE_CODE_VEN ∧ d.get code F.PE_CODE_VEN = x.get code F.PE_CODE_ACT ∧
          d.get code F.PE_CODE_AVAL = 1 ∧ d.get code F.PE_CODE_VVAL = 0 ∧
          (∀ t, t < 16 → d.task e t = { x.task e t with w := [], f := [] } ∧
            d.taskState e t = if x.taskState e t = tsFaulted then tsIdle else x.taskState e t) ∧
          (∀ k, k < 8 → d.bit (A.PE_BRK e k) F.PE_BRK_EN = false) ∧
          (d.eng e).vnr = some { v with endTick := some (x.ticks +
            cycleTicks (1000 + plan.moved + 4 * plan.elems + 8 * (x.engForces e).length)) } ∧
          ((∀ p ∈ x.policy.outMap, x.qStands (p.word / 4) = false) →
          d = { x with regs := d.regs, tasks := d.tasks, engs := d.engs, forces := d.forces, mem := d.mem, pool := d.pool,
                       wrote := d.wrote, hwSet := d.hwSet, scribe := d.scribe, free := d.free } ∧
          (∀ k, (∀ st ∈ plan.stores, ∀ m b, x.partWord e st.1 = some m → x.mAddr m = some b → k < b ∨ b + 4 ≤ k) →
            d.byte k = x.byte k) ∧
          (plan.stores = [] → d.mem = x.mem ∧ d.pool = x.pool ∧ x.RegsKept d (code :: a :: A.PE_FORCE_ORPHAN e :: A.SYS_FRC_STAT ::
            ((upto 16).map (A.PE_TASK_STAT e) ++ (upto 8).map (A.PE_BRK e)))))))

/-- R146: an enable whose key is a point of a class that may be forced, and that overlaps no other enabled entry, sets the
requester's selected entry with its staged key, mask and value and the VALID and engine written; LAST reads 0 and USED counts
the entries. An invalid key or class leaves the table and LAST 1; an overlap LAST 2. An update replaces the value and VALID of
an enabled entry, of a free one it leaves LAST 5. A clear frees the entry. Every other entry is unchanged. R93, R135: with a key
on a Q word that stands at its stop or frozen value, the word's output-map destinations follow under the new table. R147: with no other
force standing, a forced setpoint reads the forced value. -/
def Obligations.ForceCommits : Prop :=
  ∀ (s : State) (req : Fin 15) (v : Word), s.dev.on = true →
    let x := s.dev
    let i := x.frcSel req
    let ctl := reqKey req A.SYS_FRC_CTL
    let stat := A.SYS_FRC_STAT
    let k := x.reg (reqKey req A.SYS_FRC_KEY)
    let m := x.reg (reqKey req A.SYS_FRC_MASK)
    let val := x.reg (reqKey req A.SYS_FRC_VAL)
    let eng := F.SYS_FRC_CTL_ENG.of v
    let valid := F.SYS_FRC_CTL_VALID.of v == 1
    let last (d : Dev) (n : Nat) := d.get stat F.SYS_FRC_STAT_LAST = n
    let others (d : Dev) := ∀ j, j ≠ i → d.forceAt j = x.forceAt j
    let q (h : Word) := (imagePlace h 0).1
    let still (h : Word) := (hclass h ≠ 0x03 ∧ hclass h ≠ 0x04) ∨ x.qStands (q h / 4) = false
    let framed (d : Dev) (h : Word) := last d 0 ∧ others d ∧
      (still h → d.get stat F.SYS_FRC_STAT_USED = d.forces.length % 2048 ∧
        d = { x with regs := d.regs, forces := d.forces, aos := d.aos, dqs := d.dqs, hwSet := d.hwSet } ∧
        (hclass h ≠ 0x11 → hclass h ≠ 0x19 → d = { x with regs := d.regs, forces := d.forces })) ∧
      (¬ still h → ∃ (z : Dev) (e k : Nat), x.qOwner (q h / 4) = some (e, k) ∧ z = { x with regs := z.regs, forces := d.forces } ∧
        d = (z.qDeliver e (q h) (actingForces d.forces) (x.point (mkHandle 0x04 (q h))) true).frcLast 0 ∧
        x.RegsKept z (stat :: ctl :: (upto 8).map A.PE_FORCE_ORPHAN))
    let refused (c : Instr) (n : Nat) := Does c s fun d => last d n ∧ d.forces = x.forces ∧
      d = { x with regs := d.regs, scribe := d.scribe, free := d.free } ∧ x.RegsKept d [stat, ctl]
    (x.reg (reqKey req A.SYS_FRC_SYM) = 0 → x.vnrRunning eng = false →
      (validHandle k = true → forceClass (hclass k) = true → x.forceDup i k m = false → Does (.forceEnable req v) s fun d =>
        framed d k ∧ d.forceAt i = some ⟨true, false, k, 0, m, val, valid, eng⟩ ∧
        (hclass k ≠ 0x11 → still k → x.RegsKept d [stat, ctl]) ∧ (x.forces = [] → hclass k = 0x20 → d.now k = ⟨val, valid⟩)) ∧
      (validHandle k = false → refused (.forceEnable req v) 1) ∧ (forceClass (hclass k) = false → refused (.forceEnable req v) 1) ∧
      (validHandle k = true → forceClass (hclass k) = true → x.forceDup i k m = true → refused (.forceEnable req v) 2)) ∧
    (x.vnrRunning eng = true → refused (.forceEnable req v) 4) ∧
    (∀ f, x.forceAt i = some f → x.vnrRunning f.eng = false →
      (f.enabled = true → Does (.forceUpdate req v) s fun d =>
        framed d f.key ∧ d.forceAt i = some { f with value := val, valid := valid } ∧
        (hclass f.key ≠ 0x11 → still f.key → x.RegsKept d [stat, ctl])) ∧
      Does (.forceClear req) s fun d => framed d f.key ∧ d.forceAt i = none ∧
        (hclass f.key ≠ 0x11 → still f.key → f.orphan = false → x.RegsKept d [stat])) ∧
    (x.forceAt i = none → refused (.forceUpdate req v) 5 ∧ Does (.forceClear req) s fun d => last d 0 ∧
      d = { x with regs := d.regs } ∧ x.RegsKept d [stat])

/-! ## The loop tiles (chapters 7 and 8) -/

/-- R171, R176: a request of a mode stands in PEND, visible from the next tick; with GLUEN it waits in GLUW for the
glue-up slot. The mode, the other slots, the points and all of memory outside the slot's lines are unchanged.
R171, R192: WITHDRAW removes a pending request and its wait for a glue-up; CCLR clears the latched cause. Neither
changes the mode, another register field of the slot's status, the points, or memory outside the slot's lines. -/
def Obligations.SlotRequests : Prop :=
  (
    ∀ (s : State) (g : Fin 512) (glu : Option (Fin 32)) (c : Instr) (r : Nat),
      s.dev.on = true → (s.dev.tile (g.val / 64)).accepted = true →
      (c, r) ∈ [(Instr.slotOff g glu, 1), (.openHold g glu, 2), (.openManual g glu, 3), (.closeZero g glu, 4),
        (.closePreset g glu, 5), (.closeUser g glu, 6)] →
      Does c s fun d =>
        d = { s.dev with regs := d.regs, loops := d.loops, mem := d.mem, pool := d.pool } ∧
        d.slotPend g = r ∧ d.slotMode g = s.dev.slotMode g ∧
        d.bit (slotStat g) F.LT_SLOT_STAT_GLUW = glu.isSome ∧
        (∀ n, glu = some n → d.get (A.LT_SLOT_CTL (g.val / 64) (g.val % 64)) F.LT_SLOT_CTL_GLU = n.val) ∧
        d.loop g = { s.dev.loop g with glu := ((glu.map (·.val)).getD 0), reqTick := s.dev.ticks + 1 } ∧
        (∀ k, k ≠ g.val → d.loop k = s.dev.loop k) ∧
        s.dev.RegsKept d [slotStat g, A.LT_SLOT_CTL (g.val / 64) (g.val % 64)] ∧
        s.dev.BytesKept d (s.dev.slotHome g) 176) ∧
  (
    ∀ (s : State) (g : Fin 512) (glu : Option (Fin 32)), s.dev.on = true → (s.dev.tile (g.val / 64)).accepted = true →
      (Does (.slotWithdraw g glu) s fun d =>
        d = { s.dev with regs := d.regs, mem := d.mem, pool := d.pool } ∧
        d.slotPend g = 0 ∧ d.bit (slotStat g) F.LT_SLOT_STAT_GLUW = false ∧ d.slotMode g = s.dev.slotMode g ∧
        d.get (slotStat g) F.LT_SLOT_STAT_CAUSE = s.dev.get (slotStat g) F.LT_SLOT_STAT_CAUSE ∧
        s.dev.RegsKept d [slotStat g, A.LT_SLOT_CTL (g.val / 64) (g.val % 64)] ∧
        s.dev.BytesKept d (s.dev.slotHome g) 176) ∧
      (Does (.cclr g) s fun d =>
        d = { s.dev with regs := d.regs, mem := d.mem, pool := d.pool } ∧
        d.get (slotStat g) F.LT_SLOT_STAT_CAUSE = 0 ∧ d.slotMode g = s.dev.slotMode g ∧ d.slotPend g = s.dev.slotPend g ∧
        s.dev.RegsKept d [slotStat g] ∧ s.dev.BytesKept d (s.dev.slotHome g) 176))

/-- R155, R193: a write of a descriptor word that the rules allow, a commit of a state pair, and a write of a hard limit
take the value written. Allowed: the slot's bank is accepted, the checks of R155 and R156 refuse nothing; for a state the
slot is not CLOSED and no close is pending; for a limit LOCK is clear, the value is a number and does not cross. -/
def Obligations.DescriptorWordTaken : Prop :=
  ∀ (s : State) (g : Fin 512), s.dev.on = true → (s.dev.tile (g.val / 64)).accepted = true →
    (∀ (req : Fin 15) (i : Fin 36) (v : Word), 7 ≤ i.val → i.val ≤ 30 → i.val ≠ 27 →
      s.dev.slotWriteCheck g i v = none →
      Does (.descriptorWrite req g i v) s fun d =>
        d = { s.dev with regs := d.regs, mem := d.mem, pool := d.pool } ∧ d.reg (slotBase g + 4 * i.val) = v ∧
        s.dev.RegsKept d [slotBase g + 4 * i.val] ∧ s.dev.BytesKept d (s.dev.slotHome g) 176) ∧
    (∀ (hi : Bool) (v : Word),
      let lo := A.LT_SLOT_HLO (g.val / 64) (g.val % 64)
      let up := A.LT_SLOT_HHI (g.val / 64) (g.val % 64)
      s.dev.bit (A.LT_CFG (g.val / 64)) F.LT_CFG_LOCK = false →
      (d32 v).isNan = false → (d32 (s.dev.reg (if hi then lo else up))).isNan = false →
      (if hi then (d32 v).lt (d32 (s.dev.reg lo)) else (d32 (s.dev.reg up)).lt (d32 v)) = false →
      Does (.hardLimitWrite g hi v) s fun d =>
        d = { s.dev with regs := d.regs, mem := d.mem, pool := d.pool } ∧ d.reg (if hi then up else lo) = v ∧
        s.dev.RegsKept d [if hi then up else lo] ∧ s.dev.BytesKept d (s.dev.slotHome g) 176)

/-- R152: with every slot OFF, a retained bank and its owner the tile, a write of LT_CFG takes the bank, sets LOCK where it
is written, and lays the tile's copy into the bank; nothing else changes.
R169: a tile that must run is not gated after a wake, and a tile that need not run stays as it is. -/
def Obligations.TilesAcceptAndWake : Prop :=
  (
    ∀ (s : State) (n : Fin 8) (v : Word), s.dev.on = true →
      (∀ k, k < 64 → s.dev.slotMode (n.val * 64 + k) = 0) → F.LT_CFG_BANK.of v < 48 →
      s.dev.owner (F.LT_CFG_BANK.of v) = 0x10 + n.val →
      Does (.ltBankWrite n v) s fun d =>
        d = { s.dev with regs := d.regs, tiles := d.tiles, mem := d.mem, pool := d.pool } ∧
        d.get (A.LT_CFG n) F.LT_CFG_BANK = F.LT_CFG_BANK.of v ∧ (d.tile n).accepted = true ∧
        d.bit (A.LT_CFG n) F.LT_CFG_LOCK = (s.dev.bit (A.LT_CFG n) F.LT_CFG_LOCK || F.LT_CFG_LOCK.of v == 1) ∧
        s.dev.RegsKept d [A.LT_CFG n] ∧ s.dev.BytesKept d (bankBase (F.LT_CFG_BANK.of v)) 0x4000) ∧
  (
    ∀ (s : State) (n : Fin 8), s.dev.on = true → s.dev.tileAwake n = true →
      Does (.tileWake n) s fun d => d = { s.dev with regs := d.regs } ∧ d.bit (A.LT_STAT n) F.LT_STAT_GATED = false ∧
        d.get (A.LT_STAT n) F.LT_STAT_ACTIVE = s.dev.get (A.LT_STAT n) F.LT_STAT_ACTIVE ∧ s.dev.RegsKept d [A.LT_STAT n])

/-- R163, R166, R170: a free datapath whose only waiting job is a sample's update takes it. The update gives the states and
the flags that the arithmetic of R162 to R165 gives, occupies the datapath for 25 ns, and its output is on its way, visible
two ticks after the first tick boundary that follows the update's end. No point changes yet.
R193: what a slot writes lies within the hard limits: an update's output (R163), and every value that is clamped for
it (a manual output, the safe target, a ramp step), whatever the states, the sources and the other descriptor words, as
long as the limits are in order. -/
def Obligations.LoopUpdates : Prop :=
  (
    ∀ (s : State) (n : Fin 8) (ns : Fin 4) (g : Nat) (j : Job) (r : UpdRes),
      s.dev.on = true → g / 64 = n.val → (s.dev.tile n).busy ≤ s.dev.ticks * 4 + ns.val →
      s.dev.tileJobs n = [(g, true, j)] → j.act = 0 →
      updateWith j.close j.words (s.dev.slotSt g) j.e j.ff = some r →
      Does (.loopUpdate n ns) s fun d =>
        d = { s.dev with regs := d.regs, loops := d.loops, tiles := d.tiles, mem := d.mem, pool := d.pool } ∧
        d.slotSt g = r.st ∧ d.bit (slotStat g) F.LT_SLOT_STAT_HELD = r.held ∧
        d.bit (slotStat g) F.LT_SLOT_STAT_CLAMPH = r.clampH ∧ d.bit (slotStat g) F.LT_SLOT_STAT_CLAMPL = r.clampL ∧
        d.bit (slotStat g) F.LT_SLOT_STAT_SLEWA = r.slewA ∧ d.bit (slotStat g) F.LT_SLOT_STAT_LIMERR = r.limErr ∧
        d.slotMode g = s.dev.slotMode g ∧ (d.loop g).upd = none ∧
        (d.tile n).busy = s.dev.ticks * 4 + ns.val + 25 ∧
        (d.tile n).flights = (s.dev.tile n).flights ++
          [⟨g, some (d.slotOut j.words r.y), (s.dev.ticks * 4 + ns.val + 25) / 4 + 3, j.tick⟩] ∧
        s.dev.BytesKept d (s.dev.slotHome g) 176) ∧
  (
    ∀ (w : List Word), lt64 (slotHhi w) (slotHlo w) = false →
      (∀ y, lt64 (hardClamp w y) (slotHlo w) = false ∧ lt64 (slotHhi w) (hardClamp w y) = false) ∧
      (∀ close x e ff r, updateWith close w x e ff = some r →
        lt64 r.y (slotHlo w) = false ∧ lt64 (slotHhi w) r.y = false) ∧
      (∀ ypv n, lt64 (rampTo w ypv n).1 (slotHlo w) = false ∧ lt64 (slotHhi w) (rampTo w ypv n).1 = false))

/-- R187, R188, R189, R183: what the tile does of itself. A policy command acts on the next tick. A slot on UPDATE that has
been silent for longer than STALEN times MINIV has STALE: CLOSED under HOLD it becomes OPEN HOLD with CAUSE STALE, and its
last output stays. A due ramp step moves the output by the rule and waits for the datapath. -/
def Obligations.TileConditions : Prop :=
  ∀ (s : State) (g : Fin 512), s.dev.on = true →
    ((s.dev.tile (g.val / 64)).accepted = true →
      Does (.fbcmdGo g) s fun d => d = { s.dev with later := s.dev.later ++ [.policy g] }) ∧
    (s.dev.halted = false → s.dev.slotMode g = 2 → slotKind (s.dev.slotWords g) = 2 →
      s.dev.staleChecked (slotWord (s.dev.slotWords g) 1) = true → (s.dev.loop g).staleArmed = true →
      F.LT_SLOT_SUPV_STALEN.of (slotWord (s.dev.slotWords g) 27) * slotMiniv (s.dev.slotWords g) <
        (s.dev.ticks + 1 - (s.dev.loop g).lastSample) * 4 →
      (s.dev.loop g).policy = false → s.dev.get0 (slotBase g + 0x6C) F.LT_SLOT_SUPV_FBK = 0 →
      s.dev.get (slotStat g) F.LT_SLOT_STAT_CAUSE = 0 →
      Does (.staleTimeout g) s fun d =>
        d.slotMode g = 1 ∧ d.bit (slotStat g) F.LT_SLOT_STAT_MAN = false ∧
        d.get (slotStat g) F.LT_SLOT_STAT_CAUSE = causeStale ∧ d.slotPend g = 0 ∧
        d.pair (slotYpv g) = s.dev.pair (slotYpv g) ∧ (d.loop g).upd = none ∧ (d.loop g).wr = none ∧
        d.reg (A.LT_SLOT_FBTS (g.val / 64) (g.val % 64)) = s.dev.ts32) ∧
    (s.dev.halted = false → s.dev.slotMode g = 1 → s.dev.ramping g = true →
      slotKind (s.dev.slotWords g) = 1 → s.dev.time.fired.contains (slotIdx (s.dev.slotWords g)) = true →
      (s.dev.loop g).rampTick ≠ s.dev.ticks + 1 →
      let w := s.dev.slotWords g
      let y := rampTo w (s.dev.pair (slotYpv g)) (s.dev.rampInterval w)
      Does (.rampStep g) s fun d =>
        d = { s.dev with regs := d.regs, loops := d.loops, mem := d.mem, pool := d.pool } ∧
        d.pair (slotYpv g) = y.1 ∧ d.ramping g = !y.2 ∧ d.slotMode g = 1 ∧
        (d.loop g).wr = some ⟨1, 0, 0, 0, y.1, w, s.dev.ticks, s.dev.slotDeadline w⟩ ∧
        s.dev.BytesKept d (s.dev.slotHome g) 176)

/-! ## Sequencers and glue-up (chapter 9) -/

/-- R195, R196: with every context of the unit IDLE, a retained bank that the unit owns is taken as its state bank; an IDLE
context takes its program. Neither changes anything else.
R206, R207: the page that a unit fetches arrives from the image store: its 4096 bytes stand in the pool page that the
resource manager gave, the context holds the page, and the next fetch of the unit begins. A context that waits for nothing
is else unchanged. -/
def Obligations.SequencerPrograms : Prop :=
  (
    ∀ (s : State) (v : Word), s.dev.on = true →
      (∀ u : Fin 2, (∀ k, k < 8 → s.dev.ctxMode (8 * u.val + k) = cmIdle ∧ (s.dev.ctx (8 * u.val + k)).booting = false) →
        F.SEQ_UNIT_CFG_BANK.of v < 48 → s.dev.owner (F.SEQ_UNIT_CFG_BANK.of v) = 0x20 + u.val →
        Does (.seqBankWrite u v) s fun d =>
          d = { s.dev with regs := d.regs } ∧ d.get (A.SEQ_UNIT_CFG u) F.SEQ_UNIT_CFG_BANK = F.SEQ_UNIT_CFG_BANK.of v ∧
          s.dev.RegsKept d [A.SEQ_UNIT_CFG u]) ∧
      (∀ n : Fin 16, s.dev.ctxMode n = cmIdle → (s.dev.ctx n).booting = false →
        Does (.progWrite n v) s fun d =>
          d = { s.dev with regs := d.regs } ∧ d.reg (A.SEQ_CTX_PROG n) = v &&& 0x81FFFFFF ∧
          s.dev.RegsKept d [A.SEQ_CTX_PROG n])) ∧
  (
    ∀ (s : State) (u : Fin 2) (x : Fetch) (rest : List Fetch), s.dev.on = true → s.dev.halted = false →
      s.dev.standby = false → tabGet [] s.dev.fetches u = x :: rest → (s.dev.ctx x.ctx).waiting = none →
      Does (.pageArrival u true) s fun d =>
        tabGet [] d.fetches u = rest ∧ tabGet 0 (d.ctx x.ctx).pages x.page = x.pool + 1 ∧
        (∀ i, i < 4096 → d.byte (x.pool * 4096 + i) =
          tabGet memDefault s.dev.store (((s.dev.get (A.SEQ_CTX_PROG x.ctx) F.SEQ_CTX_PROG_ADDR + x.page) % 262144) * 4096 + i)) ∧
        s.dev.BytesKept d (x.pool * 4096) 4096 ∧ d.regs = s.dev.regs ∧ d.points = s.dev.points)

/-- R209: a request that fits the context's mode is put off to the next tick, and changes nothing else but the STEP written
with it. When it acts, PAUSE leaves the context PAUSED, CONTINUE leaves it RUNNING, STOP leaves it IDLE with no claim, no
ramp and no page; a request that does not fit by then is ignored with CFGERR.
R209, R206: START of an IDLE context with an IMAGE program asks the resource manager for the program's first page and
waits for it; with a RESIDENT program whose header, bank and claims pass the checks the context takes its claims, is
RUNNING, and takes a transition to STEP, or to the header's first step where STEP is 0xFFFF. -/
def Obligations.ContextControl : Prop :=
  (
    ∀ (s : State) (n : Fin 16) (step : BitVec 16), s.dev.on = true → (s.dev.ctx n).booting = false →
      (∀ c req, (c, req) ∈ [(Instr.ctxPause n step, 2), (.ctxContinue n step, 3), (.ctxAbort n step, 4), (.ctxStop n step, 5)] →
        reqFits req (s.dev.ctxMode n) = true →
        Does c s fun d =>
          d = { s.dev with regs := d.regs, later := s.dev.later ++ [.ctxReq n req] } ∧
          d.get (A.SEQ_CTX_CTL n) F.SEQ_CTX_CTL_STEP = step.toNat ∧ s.dev.RegsKept d [A.SEQ_CTX_CTL n]) ∧
      (s.dev.ctxMode n = cmRunning → (s.dev.ctxReqAct n 2).ctxMode n = cmPaused) ∧
      (s.dev.ctxMode n = cmPaused → (s.dev.ctxReqAct n 3).ctxMode n = cmRunning) ∧
      (s.dev.ctxMode n ≠ cmIdle → (s.dev.ctxReqAct n 5).ctxMode n = cmIdle ∧ ((s.dev.ctxReqAct n 5).ctx n).claims = [] ∧
        ((s.dev.ctxReqAct n 5).ctx n).ramps = [] ∧ ((s.dev.ctxReqAct n 5).ctx n).pages = []) ∧
      (∀ req, reqFits req (s.dev.ctxMode n) = false →
        (s.dev.ctxReqAct n req).ctxMode n = s.dev.ctxMode n ∧
        (s.dev.ctxReqAct n req).bit (A.SEQ_CTX_STAT n) F.SEQ_CTX_STAT_CFGERR = true)) ∧
  (
    ∀ (s : State) (n : Fin 16) (step : BitVec 16), s.dev.on = true → s.dev.ctxMode n = cmIdle →
      (s.dev.ctx n).booting = false →
      let s0 := s.dev.set (A.SEQ_CTX_CTL n) F.SEQ_CTX_CTL_STEP step.toNat
      (s.dev.resident n = false → (s.dev.ctx n).asked = [] →
        Does (.ctxStart n step) s fun d =>
          d = { s.dev with regs := d.regs, ctxs := d.ctxs, pool := d.pool } ∧
          (d.ctx n).booting = true ∧ (d.ctx n).asked = [(0, true)] ∧
          (d.ctx n).waiting = some ⟨if step = 0xFFFF then none else some step.toNat, trStart, s.dev.ticks, false⟩ ∧
          d.pool.pageReqs = s.dev.pool.pageReqs ++ [⟨64 + n.val, 1, 0⟩] ∧ d.ctxMode n = cmIdle) ∧
      (∀ s1 s2 ws hs, s.dev.resident n = true → (s.dev.ctx n).waiting = none →
        s0.progWords n 0 0 16 = (s1, .ok ws) → s1.headerOk n ws = true →
        s1.owner (s1.get (A.SEQ_UNIT_CFG (n.val / 8)) F.SEQ_UNIT_CFG_BANK) = seqSrc n →
        s1.claimTable n (headerOf ws) = (s2, .ok hs) → (s2.ctx n).waiting = none →
        Does (.ctxStart n step) s fun d =>
          ∃ s3 : Dev, s3.ctxMode n = cmRunning ∧ s3.get (A.SEQ_CTX_STAT n) F.SEQ_CTX_STAT_CAUSE = 0 ∧ (s3.ctx n).claims = hs ∧
            (∀ h ∈ hs, s3.claim h = some (.context n)) ∧
            d = s3.ctxTake n (if step = 0xFFFF then (headerOf ws).first else step.toNat) trStart))

/-- R202: on a tick on which an evaluation is due, the first transition of the current step that holds is taken; where none
holds and the timeout has passed, the timeout is taken, or faults the context; else the step goes on. Where the target's
record is there and passes its checks, this tick is its entry tick.
R204: a ramp write that is due writes, through a setpoint's handle that no SP names and no higher writer has written on
this tick, the value of the formula at this multiple, rounded to binary32, and VALID; the generator stops at the first
multiple at or beyond its duration. No other point, no register and no byte of memory changes. -/
def Obligations.EvaluationsAndRamps : Prop :=
  (
    ∀ (s : State) (n : Fin 16) (s1 : Dev) (r : StepRec), s.dev.on = true → s.dev.evalDue n = true →
      let k := (s.dev.ctx n).ticks / 250
      (s.dev.onCtx n fun c => { c with evaled := k + 1 }).stepRec n (s.dev.ctx n).step = (s1, .ok r) →
      (∀ i t, s1.firstTrans n k none 0 r.trans = some (i, t) →
        Does (.stepEvaluation n) s fun d => d = s1.ctxTake n t.target i ∧
          ∀ s2 s3 r' p w, s1.stepRec n t.target = (s2, .ok r') → s2.stepPlace n t.target = (s3, .ok (p, w)) →
            d = s3.ctxEnter n t.target i r' p) ∧
      (s1.firstTrans n k none 0 r.trans = none → r.timeout ≠ 0 → r.timeout ≤ k →
        Does (.stepEvaluation n) s fun d =>
          if r.toFault then d.ctxMode n = cmFaulted ∧ d.get (A.SEQ_CTX_STAT n) F.SEQ_CTX_STAT_CAUSE = scTimeout ∧ d.points = s1.points
          else d = s1.ctxTake n r.toTarget trTimeout) ∧
      (s1.firstTrans n k none 0 r.trans = none → (r.timeout = 0 ∨ k < r.timeout) →
        Does (.stepEvaluation n) s fun d => d = s1 ∧ (d.ctx n).step = (s.dev.ctx n).step)) ∧
  (
    ∀ (s : State) (n : Fin 16) (gen : Fin 4) (i : Nat), s.dev.on = true → s.dev.halted = false →
      s.dev.rampDue n gen = true → i < 512 →
      let r := (s.dev.ctx n).ramp gen
      let j := r.ticks / (250 * r.riv)
      r.handle = mkHandle 0x20 i →
      s.dev.reg (A.LT_SLOT_SP (i / 64) (i % 64)) = 0 → tabGet 0 s.dev.spRank i ≤ spPlace (.context n) →
      Does (.rampWrite n gen) s fun d =>
        d.point (mkHandle 0x20 i) = ⟨toF32 (r.at j), true⟩ ∧
        (d.ctx n).ramp gen = { r with done := j, running := decide (j * r.riv < r.dur) } ∧
        (∀ h, h ≠ mkHandle 0x20 i → d.point h = s.dev.point h) ∧
        d = { s.dev with points := d.points, wrote := d.wrote, spRank := d.spRank, ctxs := d.ctxs })

/-- R214, R216, R221, R222: BUILD takes a FREE slot to BUILD; a LAUNCH that meets the conditions of R214 takes it from BUILD
to ARMING as coordinator, and ARM goes out on the next tick; CANCEL takes it from ARMING to ABORTED with its cause, ABORT is
sent and the loop requests that wait for it are discarded; FREE takes it from BUILD or a final state to FREE. A command that
does not fit the state is ignored with CMDERR. -/
def Obligations.GlueCommands : Prop :=
  ∀ (s : State) (n : Fin 32), s.dev.on = true →
    let st := s.dev.gluState n
    (st = gsFree → Does (.gluBuild n) s fun d => d = { s.dev with regs := d.regs } ∧ d.gluState n = gsBuild ∧
      s.dev.RegsKept d (A.GLU_STAT n :: (upto 32).map (fun k => A.GLU_PART n k))) ∧
    (st = gsBuild → s.dev.bit A.TIME_STAT F.TIME_STAT_OFFSYNC = false → s.dev.ts.toNat + s.dev.gluMargin n < s.dev.gluT n →
      Does (.gluLaunch n) s fun d =>
        d = { s.dev with regs := d.regs, glus := d.glus, later := s.dev.later ++ [.gluArm n ((s.dev.glu n).launch + 1)] } ∧
        d.gluState n = gsArming ∧ d.bit (A.GLU_STAT n) F.GLU_STAT_COORD = true ∧
        s.dev.RegsKept d (A.GLU_STAT n :: (upto 32).map (fun k => A.GLU_PART n k))) ∧
    (st = gsArming → Does (.gluCancel n) s fun d => ∃ x : Dev, x.gluState n = gsAborted ∧
      x.get (A.GLU_STAT n) F.GLU_STAT_CAUSE = gcCancel ∧ x = { s.dev with regs := x.regs, sent := x.sent } ∧
      s.dev.RegsKept x [A.GLU_STAT n] ∧ d = x.loopGlueDrop n) ∧
    (st = gsBuild ∨ gluFinal st = true → Does (.gluFree n) s fun d => d = { s.dev with regs := d.regs } ∧
      d.gluState n = gsFree ∧ s.dev.RegsKept d [A.GLU_STAT n]) ∧
    (∀ c ok, (c, ok) ∈ [(Instr.gluBuild n, st == gsFree), (.gluLaunch n, st == gsBuild), (.gluCancel n, st == gsArming),
        (.gluFree n, st == gsBuild || gluFinal st)] → ok = false →
      Does c s fun d => d = { s.dev with regs := d.regs, hwSet := d.hwSet } ∧ d.gluState n = st ∧
        d.bit (A.GLU_STAT n) F.GLU_STAT_CMDERR = true ∧ s.dev.RegsKept d [A.GLU_STAT n])

/-- R215, R216, R217, R219, on a device that is not a standby: ARM finds a slot in BUILD whose locals are ready and whose T
is 0 or the T carried: the slot takes T and is ARMED, and the reply goes to the coordinator. A REFUSED reply aborts an ARMING
slot. COMMIT from the coordinator takes an ARMED slot to COMMIT, ABORT to ABORTED. A report of a participant that has not
switched leaves the coordinator SPLIT; the last report of a switch leaves it COMMITTED.
R216 to R219: at T − MARGIN with a reply missing the coordinator aborts with NOREPLY; an ARMED slot with no decision at T
is NOTSWITCHED with NODEC; a report still missing at T + RWIN leaves the coordinator SPLIT with NOREPORT; at T a slot that
holds COMMIT writes its staged writes in order, its local participants have switched, and it is SWITCHED, REPORT or COMMITTED;
then the waiting loop requests, the event tasks and the contexts that wait for it follow, on the same tick. -/
def Obligations.GlueFramesAndInstants : Prop :=
  (
    ∀ (s : State) (n part : Fin 32) (seg : Fin 16) (dev : Fin 32), s.dev.on = true → s.dev.halted = false →
      s.dev.standby = false → s.dev.syncedAs 1 = false →
      (∀ t, s.dev.gluState n = gsBuild → ((s.dev.gluParts n).filter (fun p => p.2.1 != 4)).all (fun p => s.dev.gluReady p.2.1 p.2.2) = true →
        (s.dev.gluT n = 0 ∨ s.dev.pair (A.GLU_T_LO n) = t) →
        Does (.armReceived n seg dev t) s fun d => d.gluState n = gsArmed ∧ d.pair (A.GLU_T_LO n) = t ∧
          d.gluFrom n seg dev = true ∧ d = { s.dev with regs := d.regs, sent := d.sent }) ∧
      (s.dev.gluState n = gsArming → (s.dev.gluParts n).any (fun p => p.1 == part.val && p.2.1 == 4) = true →
        Does (.replyReceived n part false) s fun d => ∃ x : Dev, x.gluState n = gsAborted ∧
          x.get (A.GLU_STAT n) F.GLU_STAT_CAUSE = gcRefused ∧ s.dev.RegsKept x [A.GLU_STAT n] ∧ d = x.loopGlueDrop n) ∧
      (s.dev.gluState n = gsArmed → s.dev.gluFrom n seg dev = true →
        (Does (.commitReceived n seg dev) s fun d => d.gluState n = gsCommit ∧ (d.glu n).commit = s.dev.ticks + 1 ∧
          (d.bit (A.GLU_STAT n) F.GLU_STAT_LATE = true ↔
            s.dev.gluT n < s.dev.ts.toNat ∨ s.dev.bit (A.GLU_STAT n) F.GLU_STAT_LATE = true) ∧
          d = { s.dev with regs := d.regs, glus := d.glus } ∧ s.dev.RegsKept d [A.GLU_STAT n]) ∧
        (Does (.abortReceived n seg dev) s fun d => ∃ x : Dev, x.gluState n = gsAborted ∧ x = { s.dev with regs := x.regs } ∧
          s.dev.RegsKept x [A.GLU_STAT n] ∧ d = x.loopGlueDrop n)) ∧
      (∀ ofs late, s.dev.gluState n = gsReport → (s.dev.gluParts n).any (fun p => p.1 == part.val && p.2.1 == 4) = true →
        (Does (.reportReceived n part false ofs late) s fun d => d.gluState n = gsSplit ∧ d = { s.dev with regs := d.regs } ∧
          s.dev.RegsKept d [A.GLU_STAT n]) ∧
        ((∀ p ∈ s.dev.gluParts n, p.1 ≠ part.val → s.dev.bit (A.GLU_PART n p.1) F.GLU_PART_SW = true) →
          Does (.reportReceived n part true ofs late) s fun d => d.gluState n = gsCommitted ∧
            d.bit (A.GLU_PART n part) F.GLU_PART_SW = true ∧ d = { s.dev with regs := d.regs } ∧
            s.dev.RegsKept d [A.GLU_STAT n, A.GLU_PART n part]))) ∧
  (
    ∀ (s : State) (n : Fin 32), s.dev.on = true → s.dev.halted = false →
      (s.dev.gluState n = gsArming → s.dev.gluT n ≤ s.dev.ts.toNat + s.dev.gluMargin n →
        Does (.gluDeadline n) s fun d => ∃ x : Dev, x.gluState n = gsAborted ∧
          x.get (A.GLU_STAT n) F.GLU_STAT_CAUSE = gcNoReply ∧ s.dev.RegsKept x [A.GLU_STAT n] ∧ d = x.loopGlueDrop n) ∧
      (s.dev.gluState n = gsArmed → s.dev.gluT n ≤ s.dev.ts.toNat →
        Does (.gluNodec n) s fun d => ∃ x : Dev, x.gluState n = gsNotSwitched ∧
          x.get (A.GLU_STAT n) F.GLU_STAT_CAUSE = gcNoDec ∧ s.dev.RegsKept x [A.GLU_STAT n] ∧ d = x.loopGlueDrop n) ∧
      (s.dev.gluState n = gsReport →
        s.dev.gluT n + s.dev.get (A.GLU_CTL n) F.GLU_CTL_RWIN * 1000000 ≤ s.dev.ts.toNat →
        Does (.reportWindow n) s fun d => d.gluState n = gsSplit ∧ d.get (A.GLU_STAT n) F.GLU_STAT_CAUSE = gcNoReport ∧
          d = { s.dev with regs := d.regs } ∧ s.dev.RegsKept d [A.GLU_STAT n]) ∧
      (s.dev.gluDue n = true → s.dev.bit A.TIME_STAT F.TIME_STAT_OFFSYNC = false →
        Does (.gluSwitch n) s fun d => ∃ x : Dev,
          let y := (upto (s.dev.get (A.GLU_CTL n) F.GLU_CTL_NSTG)).foldl (fun s j => s.gluStaged n j) s.dev
          x = { y with regs := x.regs, sent := x.sent } ∧
          (∀ p ∈ y.gluParts n, p.2.1 ≠ 4 → x.bit (A.GLU_PART n p.1) F.GLU_PART_SW = true) ∧
          x.gluState n = (if y.bit (A.GLU_STAT n) F.GLU_STAT_COORD = false then gsSwitched
            else if (y.gluParts n).any (fun p => p.2.1 == 4) then gsReport else gsCommitted) ∧
          d = ((x.loopGlueSwitch n).taskEvent 4 n).each 16 (fun s c => s.ctxGlue c n)))

/-! ## Converters and analogue outputs (chapter 10) -/

/-- R226, R227: a mode requested with no round under way is in force at once, TIMED only with a periodic comparator whose period
covers the round; else it is refused with CFGERR and a record; during a round it waits. R229: a good entry is stored and comes
into force with the next round, a bad one is refused; so NENT. R225, R238: a due round starts, a calibration instead where one
is requested, which stores the code of REF and marks the results STALE. R230, R236: a conversion writes its result, saturated
when over range, with VALID, OVR, KERF and the round's count, and the point. R231: a read of a result latches its stamp for
its requester. -/
def Obligations.Converters : Prop :=
  ∀ (s : State) (n : Fin 8), s.dev.on = true →
    let x := s.dev
    let ctl := A.ANA_CTL n
    let stat := A.ANA_STAT n
    let c := x.adc n
    let refused (i : Instr) := Does i s fun d => d.bit stat F.ANA_STAT_CFGERR = true ∧ x.RegsKept d [stat] ∧
      d = { x with regs := d.regs, hwSet := d.hwSet, scribe := d.scribe, free := d.free } ∧ d.adcMode n = x.adcMode n
    (F.ANA_CTL_CAL.of (x.reg ctl) = 0 →
      (∀ m i, (m, i) ∈ [(0, Instr.modeIdle n), (1, .modeContinuous n)] → x.adcMode n ≠ m → Does i s fun d =>
        d = { x with regs := d.regs, adcs := d.adcs } ∧ d.adcReq n = m ∧ x.RegsKept d [ctl, stat] ∧
        (c.busy = 0 → d.adcMode n = m ∧ (d.adc n).due = if m = 1 then some ((x.ticks + 1) * 4) else none) ∧
        (c.busy ≠ 0 → d.adcMode n = x.adcMode n ∧ d.adcs = x.adcs)) ∧
      (∀ tt, x.adcMode n ≠ 2 →
        (x.timedOk tt.val (x.adcRdur n) = true → c.busy = 0 → Does (.modeTimed n tt) s fun d =>
          d = { x with regs := d.regs, adcs := d.adcs } ∧ d.adcMode n = 2 ∧ d.get ctl F.ANA_CTL_TT = tt.val ∧
          (d.adc n).due = none ∧ x.RegsKept d [ctl, stat]) ∧
        (x.timedOk tt.val (x.adcRdur n) = false → x.adcReq n ≠ 2 → refused (.modeTimed n tt)))) ∧
    (∀ (k : Fin 17) (v : Word), k.val < 16 → 1 ≤ F.ANA_ENT_TS.of v → F.ANA_ENT_TS.of v ≤ 64 → F.ANA_ENT_GAIN.of v ≤ 5 →
      F.ANA_ENT_FILT.of v ≠ 3 → F.ANA_ENT_INP.of v ≤ 0xB →
      let w := v &&& 0x1FFFFFFF
      (entBad w = false → x.adcIsTimed n = false → Does (.entWrite n k v) s fun d => d = { x with regs := d.regs, adcs := d.adcs } ∧
        d.reg (A.ANA_ENT n k) = w ∧ x.RegsKept d [A.ANA_ENT n k] ∧ (d.adc n).word = c.word ∧
        (d.adc n).pend = c.pend ++ [(x.ticks, k.val, w)]) ∧
      (entBad w = true → refused (.entWrite n k v))) ∧
    (∀ v : Word, F.ANA_CTL_CAL.of (x.reg ctl) = 0 → x.adcReq n = x.adcMode n → x.adcIsTimed n = false → 1 ≤ v.toNat % 32 →
      v.toNat % 32 ≤ 16 → v.toNat % 32 ≠ x.get ctl F.ANA_CTL_NENT → Does (.entWrite n 16 v) s fun d =>
        d = { x with regs := d.regs, adcs := d.adcs } ∧ d.get ctl F.ANA_CTL_NENT = v.toNat % 32 ∧ x.RegsKept d [ctl] ∧
        (d.adc n).nent = c.nent ∧ (d.adc n).pend = c.pend ++ [(x.ticks, 16, BitVec.ofNat 32 (v.toNat % 32))]) ∧
    (∀ t, x.halted = false → x.roundDue n = some t →
      (c.calReq = false → c.pend = [] → Does (.roundStart n) s fun d => d = { x with regs := d.regs, adcs := d.adcs } ∧
        (d.adc n).busy = 1 ∧ (d.adc n).idx = 0 ∧ (d.adc n).startNs = t ∧ (d.adc n).rounds = (c.rounds + 1) % 4096 ∧
        d.get stat F.ANA_STAT_RCNT = c.rounds % 4096 ∧ x.RegsKept d [stat]) ∧
      (∀ (k : Fin 16) (w : Word) (u : Nat), c.calReq = false → u < t / 4 → c.pend = [(u, k.val, w)] → Does (.roundStart n) s fun d =>
        d = { x with regs := d.regs, adcs := d.adcs } ∧ (d.adc n).busy = 1 ∧ (d.adc n).word k = w ∧ (d.adc n).pend = [] ∧
        x.RegsKept d [stat, A.ANA_ENT_STAT n k] ∧ x.krem n k ≤ d.krem n k) ∧
      (∀ ref, c.calReq = true → c.pend = [] → c.nent ≤ 16 → x.standby = false → Does (.calibrationRound n ref) s fun d =>
        d = { x with regs := d.regs, adcs := d.adcs } ∧ (d.adc n).busy = 2 ∧ (d.adc n).calReq = false ∧
        (d.adc n).calRef = some ref.toInt ∧ d.bit stat F.ANA_STAT_CALPEND = true ∧
        (∀ k, k < c.nent → d.bit (A.ANA_RES n k) F.ANA_RES_STALE = true) ∧
        x.RegsKept d (stat :: (upto c.nent).map (A.ANA_RES n)))) ∧
    (∀ (k : Fin 16) (code : BitVec 16) (ovr : Bool), c.busy = 1 → c.convEnd / 4 ≤ x.ticks → x.halted = false → c.idx = k.val →
      k.val < c.nent → kerfLen (c.word k) = 0 → x.standby = false → x.Unwatched (mkHandle 0x10 (16 * n + k)) →
      Does (.conversionDone n code ovr) s fun d =>
        let r := A.ANA_RES n k
        let v : BitVec 16 := if ovr then (if code.toInt < 0 then 0x8000 else 0x7FFF) else code
        d = { x with regs := d.regs, adcs := d.adcs, points := d.points, wrote := d.wrote, duoSet := d.duoSet } ∧
        d.get r F.ANA_RES_VALUE = v.toNat ∧ d.bit r F.ANA_RES_OVR = ovr ∧ d.bit r F.ANA_RES_VALID = !ovr ∧
        d.bit r F.ANA_RES_STALE = false ∧ d.get r F.ANA_RES_RCNT = x.get stat F.ANA_STAT_RCNT ∧
        d.reg (A.ANA_RTS n k) = c.sampleTs.setWidth 32 ∧ d.point (mkHandle 0x10 (16 * n + k)) = ⟨v.signExtend 32, !ovr⟩ ∧
        (entInput (c.word k) = c.lastInp → c.ovrNs = 0 → d.bit r F.ANA_RES_KERF = decide (x.krem n k ≠ 0) ∧
          d.krem n k = x.krem n k - 1) ∧
        (d.adc n).busy = (if x.slotFollows n then 1 else 0) ∧ (x.slotFollows n = true → (d.adc n).idx = k.val + 1) ∧
        x.RegsKept d [stat, r, A.ANA_RTS n k, A.ANA_ENT_STAT n k] ∧
        (∀ h, h ≠ mkHandle 0x10 (16 * n + k) → d.point h = x.point h)) ∧
    (c.busy ≠ 2 → Does (.anaCal n) s fun d => d = { x with regs := d.regs, adcs := d.adcs } ∧ (d.adc n).calReq = true ∧
      d.bit stat F.ANA_STAT_CALPEND = true ∧ x.RegsKept d [stat]) ∧
    (c.busy = 2 → Does (.anaCal n) s fun d => d = x) ∧
    (∀ (req : Fin 15) (k : Fin 16), Does (.resRead req n k) s fun d => d = { x with latch := d.latch, bus := d.bus } ∧
      d.bus = ⟨.ok, (x.reg0 (A.ANA_RES n k)).setWidth 128⟩ ∧ d.latched req (A.ANA_RTS n k) = some (x.reg0 (A.ANA_RTS n k)) ∧
      (∀ j, j ≠ reqKey req (A.ANA_RTS n k) → tabGet none d.latch j = tabGet none x.latch j))

/-- R240, R269: a supervisor core or the host claims a free output by HCLM and gives its own claim up; where another writer
holds it the claim stays and the refusal is recorded (for an analogue output with CFGERR, the model's choice of log 34). R18: a
write by the claim's holder stands in the point; one by another changes nothing and is recorded. R240: the converter drives the
code that is visible, at most once in a microsecond. -/
def Obligations.OutputClaims : Prop :=
  ∀ (s : State) (req : Fin 15), s.dev.on = true →
    let x := s.dev
    let w := writerOf req
    let claims (c : Bool → Instr) (h : Word) (ctl stat : Nat) (hclm claim : Fld) (as : List Nat) :=
      (req.val < 7 → (x.claim h = none ∨ x.claim h = some w) → Does (c true) s fun d => d = { x with regs := d.regs, claims := d.claims } ∧
        d.claim h = some w ∧ d.bit ctl hclm = true ∧ d.get stat claim = claimCode (some w) ∧ x.RegsKept d [ctl, stat] ∧
        (∀ k, k ≠ h → d.claim k = x.claim k)) ∧
      (∀ o, x.claim h = some o → o ≠ w → Does (c true) s fun d => d.claims = x.claims ∧ x.RegsKept d (ctl :: as) ∧
        d = { x with regs := d.regs, hwSet := d.hwSet, scribe := d.scribe, free := d.free } ∧
        ∃ r, d.scribe = { x.scribe with offers := x.scribe.offers ++ [r] }) ∧
      (req.val < 7 → x.claim h = some w → Does (c false) s fun d => d = { x with regs := d.regs, claims := d.claims } ∧
        d.claim h = none ∧ d.bit ctl hclm = false ∧ d.get stat claim = 0 ∧ x.RegsKept d [ctl, stat] ∧
        (∀ k, k ≠ h → d.claim k = x.claim k))
    let ignored (c : Instr) := Does c s fun d => d.points = x.points ∧
      d = { x with scribe := d.scribe, free := d.free, duoOuts := d.duoOuts } ∧
      ∃ r, d.scribe = { x.scribe with offers := x.scribe.offers ++ [r] }
    (∀ m : Fin 16, let h := aoHandle m
      claims (.aoHclm req m) h (A.ANA_AO_CTL m) (A.ANA_AO_STAT m) F.ANA_AO_CTL_HCLM F.ANA_AO_STAT_CLAIM [A.ANA_STAT (m.val / 2)] ∧
      (∀ v, x.claim h = some w → Does (.aoValWrite req m v) s fun d => d.point h = ⟨v.signExtend 32, true⟩ ∧
        d = { x with regs := d.regs, points := d.points, wrote := d.wrote, aos := d.aos, hwSet := d.hwSet, duoOuts := d.duoOuts } ∧
        d.bit (A.ANA_AO_STAT m) F.ANA_AO_STAT_STOPPED = false ∧ x.RegsKept d [A.ANA_AO_STAT m] ∧
        (∀ k, k ≠ h → d.point k = x.point k) ∧ (x.forces = [] → (d.ao m).waiting = some (x.ticks + 1))) ∧
      (∀ v, x.claim h ≠ some w → ignored (.aoValWrite req m v)) ∧
      (∀ t, (x.ao m).waiting = some t → t ≤ x.ticks →
        ((x.ao m).lastUpd = 0 ∨ (x.ao m).lastUpd + 250 ≤ x.ticks + 1 → Does (.aoUpdate m) s fun d =>
          d = { x with aos := d.aos } ∧ d.ao m = { x.ao m with driven := x.aoCode m, waiting := none, lastUpd := x.ticks + 1 } ∧
          (∀ k, k ≠ m.val → d.ao k = x.ao k)) ∧
        ((x.ao m).lastUpd ≠ 0 → x.ticks + 1 < (x.ao m).lastUpd + 250 → Does (.aoUpdate m) s fun d => d = x))) ∧
    (∀ n : Fin 32, let h := dqHandle n
      claims (.dqHclm req n) h (A.DIO_DQ_CTL n) (A.DIO_DQ_STAT n) F.DIO_DQ_CTL_HCLM F.DIO_DQ_STAT_CLAIM [] ∧
      (∀ v, x.claim h = some w → Does (.dqValWrite req n v) s fun d => d.point h = ⟨v.setWidth 32, true⟩ ∧
        d = { x with regs := d.regs, points := d.points, wrote := d.wrote, dqs := d.dqs, duoOuts := d.duoOuts } ∧
        d.bit (A.DIO_DQ_STAT n) F.DIO_DQ_STAT_STOPPED = false ∧ x.RegsKept d [A.DIO_DQ_STAT n] ∧
        (∀ k, k ≠ h → d.point k = x.point k) ∧ (∀ k, k ≠ n.val → d.dq k = x.dq k)) ∧
      (∀ v, x.claim h ≠ some w → ignored (.dqValWrite req n v)))

/-! ## Position channels (chapter 11) -/

/-- R246: TYPE and FILT change from or to OFF, else CFGERR; OFF clears the fault and the VALID of both points. R248, R249, R250:
a transition of one line moves raw by one count, with hysteresis pos follows from the second count in a direction on; both lines
at once are counted in QERR and the fourth within 1023 samples is a fault. R251: an index in HOME sets raw and pos to the reference
and HOMED, and latches raw. R253, R255: the first edge of a wheel counts one, a phase step counts the difference. R257: a frame
with a good start and stop latches and acts, another sets SSIERR. R247: a due publication writes both points. R259: SETP and
POS_CLR. No memory changes, and the other channels are unchanged. -/
def Obligations.PositionChannel : Prop :=
  ∀ (s : State) (n : Fin 16), s.dev.on = true →
    let x := s.dev
    let ctl := A.POS_CTL n
    let stat := A.POS_STAT n
    let raw := A.POS_RAW n
    let p := x.posCh n
    let others (d : Dev) := ∀ k, k ≠ n.val → d.posCh k = x.posCh k
    let uncaptured := ∀ u, u < 32 → ∀ up, x.cuWatches u (0x50 + n.val) up = false
    let step (d : Dev) (k : Int) := d = { x with regs := d.regs, poss := d.poss } ∧ others d ∧
      d.reg raw = x.reg raw + wordOfInt k ∧ (d.posCh n).cum = p.cum + k ∧ (d.posCh n).dlast = (if k < 0 then -1 else 1) ∧
      x.RegsKept d [raw] ∧
      ((x.bit ctl F.POS_CTL_HYST = false ∨ p.dlast = (if k < 0 then -1 else 1) ∨ 1 < k.natAbs) → (d.posCh n).pos = d.reg raw) ∧
      (x.bit ctl F.POS_CTL_HYST = true → p.dlast ≠ (if k < 0 then -1 else 1) → k.natAbs = 1 → (d.posCh n).pos = p.pos)
    (∀ v, F.POS_CTL_TYPE.of v ≤ 5 → F.POS_CTL_FILT.of v ≠ 0 →
      let rest (d : Dev) := d.get ctl F.POS_CTL_DIR = F.POS_CTL_DIR.of v ∧ d.get ctl F.POS_CTL_HYST = F.POS_CTL_HYST.of v
      (x.posType n = 0 → Does (.posCtlWrite n v) s fun d =>
        d.posType n = F.POS_CTL_TYPE.of v ∧ d.get ctl F.POS_CTL_FILT = F.POS_CTL_FILT.of v ∧ rest d ∧
        d = { x with regs := d.regs, poss := d.poss } ∧ x.RegsKept d [ctl] ∧ others d) ∧
      (x.posType n ≠ 0 → F.POS_CTL_TYPE.of v ≠ 0 → (F.POS_CTL_TYPE.of v ≠ x.posType n ∨ F.POS_CTL_FILT.of v ≠ x.get ctl F.POS_CTL_FILT) →
        Does (.posCtlWrite n v) s fun d => d.posType n = x.posType n ∧ d.get ctl F.POS_CTL_FILT = x.get ctl F.POS_CTL_FILT ∧ rest d ∧
          d.bit stat F.POS_STAT_CFGERR = true ∧ d = { x with regs := d.regs, hwSet := d.hwSet } ∧ x.RegsKept d [ctl, stat]) ∧
      (x.posType n ≠ 0 → F.POS_CTL_TYPE.of v = 0 → x.standby = false → x.halted = false → x.Unwatched (posHandle n) →
        x.Unwatched (velHandle n) → Does (.posCtlWrite n v) s fun d => d.posType n = 0 ∧ d.bit stat F.POS_STAT_MODE = false ∧
          d.get stat F.POS_STAT_FCAUSE = 0 ∧ d.point (posHandle n) = ⟨(x.point (posHandle n)).val, false⟩ ∧
          d.point (velHandle n) = ⟨(x.point (velHandle n)).val, false⟩ ∧ x.RegsKept d [ctl, stat] ∧ others d ∧
          d = { x with regs := d.regs, poss := d.poss, points := d.points, wrote := d.wrote, duoSet := d.duoSet })) ∧
    (x.halted = false → x.posType n = 1 ∨ x.posType n = 2 →
      (∀ ta tb, ta ≠ tb → Does (.acceptedTransition n ta tb) s fun d =>
        step d (quadDir (p.a != ta) (p.b != tb) ta * x.posSign n) ∧ (d.posCh n).a = (p.a != ta) ∧ (d.posCh n).b = (p.b != tb)) ∧
      Does (.acceptedTransition n true true) s fun d =>
        d = { x with regs := d.regs, poss := d.poss, scribe := d.scribe, free := d.free } ∧ others d ∧ d.reg raw = x.reg raw ∧
        d.get (A.POS_QERR n) F.POS_QERR_DATA = min (x.get (A.POS_QERR n) F.POS_QERR_DATA + 1) (2 ^ 32 - 1) ∧
        x.RegsKept d [A.POS_QERR n, stat] ∧
        (3 ≤ (p.illegal.filter (fun k => x.sampleNo ≤ k + 1023)).length → d.bit stat F.POS_STAT_MODE = true ∧
          (x.bit stat F.POS_STAT_MODE = false → d.get stat F.POS_STAT_FCAUSE = pcQerr)) ∧
        ((p.illegal.filter (fun k => x.sampleNo ≤ k + 1023)).length < 3 → d.reg stat = x.reg stat)) ∧
    (x.halted = false → x.posType n = 1 → uncaptured →
      (let q := x.get (A.POS_IDX n) F.POS_IDX_IDXQ;
        p.a = (q % 2 == 1) → p.b = (q / 2 == 1) → p.illegalAt ≠ x.sampleNo + 1 → x.posImode n = 2 →
        Does (.index n) s fun d => d = { x with regs := d.regs, poss := d.poss } ∧ d.reg (A.POS_LATCH n) = x.reg raw ∧
          d.reg raw = x.reg (A.POS_IDXREF n) ∧ (d.posCh n).pos = x.reg (A.POS_IDXREF n) ∧ d.bit stat F.POS_STAT_HOMED = true ∧
          x.RegsKept d [raw, stat, A.POS_LATCH n] ∧ others d)) ∧
    (x.halted = false → x.posType n = 4 → p.edges = 0 → Does (.toothEdge n) s fun d => step d (x.posSign n) ∧ (d.posCh n).edges = 1) ∧
    (∀ sin cos old, x.halted = false → x.posType n = 3 → p.phase = some old → x.ampOk n cos sin = true →
      let k : Int := (((phase12 cos sin + 4096 - old + 2048) % 4096 : Nat) : Int) - 2048
      (k ≠ 0 → k.natAbs < 1024 → Does (.phaseStep n sin cos) s fun d => step d (k * x.posSign n) ∧
        (d.posCh n).phase = some (phase12 cos sin)) ∧
      (k = 0 → Does (.phaseStep n sin cos) s fun d => d = { x with poss := d.poss } ∧ others d ∧
        (d.posCh n).phase = some (phase12 cos sin))) ∧
    (∀ t0 latched before after v, x.halted = false → p.ssi = some (t0, latched) → t0 + x.ssiLen n ≤ x.ns + 3 →
      (before = true → after = false → x.posType n = 5 → uncaptured → Does (.ssiFrame n before after v) s fun d =>
        d = { x with regs := d.regs, poss := d.poss } ∧ d.reg raw = x.ssiValue n v ∧ (d.posCh n).pos = x.ssiValue n v ∧
        (d.posCh n).ssi = none ∧ (d.posCh n).ssiErrs = 0 ∧ d.reg (A.POS_LATCH n) = latched ∧
        x.RegsKept d [raw, A.POS_LATCH n] ∧ others d) ∧
      ((before = false ∨ after = true) → Does (.ssiFrame n before after v) s fun d => d.bit stat F.POS_STAT_SSIERR = true ∧
        d = { x with regs := d.regs, poss := d.poss, hwSet := d.hwSet, scribe := d.scribe, free := d.free } ∧
        (d.posCh n).ssi = none ∧ (d.posCh n).ssiErrs = p.ssiErrs + 1 ∧ x.RegsKept d [stat] ∧ others d ∧
        (4 ≤ p.ssiErrs + 1 → d.bit stat F.POS_STAT_MODE = true))) ∧
    (x.halted = false → x.pubDue n = true → x.standby = false → x.Unwatched (posHandle n) → x.Unwatched (velHandle n) →
      Does (.publication n) s fun d => d.point (posHandle n) = ⟨x.posSeen n, x.posValid n && x.posHomed n⟩ ∧
        d.point (velHandle n) = ⟨(x.posVel n).1, x.posValid n⟩ ∧ d.bit stat F.POS_STAT_VMODE = (x.posVel n).2 ∧ others d ∧
        d = { x with regs := d.regs, poss := d.poss, points := d.points, wrote := d.wrote, duoSet := d.duoSet } ∧
        x.RegsKept d [stat] ∧ (∀ h, h ≠ posHandle n → h ≠ velHandle n → d.point h = x.point h)) ∧
    (Does (.setp n) s fun d => d = { x with regs := d.regs, poss := d.poss } ∧ d.reg raw = x.reg (A.POS_IDXREF n) ∧
      (d.posCh n).pos = x.reg (A.POS_IDXREF n) ∧ d.bit stat F.POS_STAT_HOMED = true ∧ x.RegsKept d [raw, stat] ∧ others d) ∧
    (Does (.posClr n) s fun d => d = { x with later := x.later ++ [.posClr n] })

/-! ## The 24 V inputs and outputs (chapter 12) -/

/-- R272: a group whose current has stayed above 3 A for 10 ms (which the command reports) has GOVL set and offers one record;
every output keeps its state, its command point and its level, every other register stays, and so does memory. -/
def Obligations.GroupOverloadKeepsOutputs : Prop :=
  ∀ (s : State) (g : Fin 4), s.dev.on = true → Does (.groupOverload g) s fun d =>
    d.bit (A.DIO_DQG_STAT g) F.DIO_DQG_STAT_GOVL = true ∧
    (∃ o : Offer, d.scribe = { s.dev.scribe with offers := s.dev.scribe.offers ++ [o] }) ∧
    (∀ n, n < 32 → d.dq n = s.dev.dq n ∧ d.point (dqHandle n) = s.dev.point (dqHandle n) ∧
      d.reg (A.DIO_DQ_STAT n) = s.dev.reg (A.DIO_DQ_STAT n) ∧ d.dqLevel n = s.dev.dqLevel n) ∧
    s.dev.RegsKept d [A.DIO_DQG_STAT g] ∧
    d = { s.dev with regs := d.regs, hwSet := d.hwSet, scribe := d.scribe, free := d.free }

/-- R263: a write of a group's control waits for the next whole microsecond. R266, R267: a counted change sets STATE, the point
and its validity; a counted break sets BRK, the point then 0 and invalid. R268: a measurement is kept, and one below a threshold
makes the type invalid. R270: a due period starts with the on-time of its duty, which ends it. R271: an overheat shuts the channel
down with a record, a retry 100 ms later or RST with LATCH turns it on again. R273, R274: a mismatch of more than 1 ms and an open
load are set and recorded. R275, R276: below 11 V a group is UNPOWERED and its readbacks invalid; above 18 V for 10 ms it is powered and its outputs begin anew. -/
def Obligations.InputsAndOutputs : Prop :=
  ∀ s : State, s.dev.on = true →
    let x := s.dev
    let recorded (d : Dev) := ∃ o : Offer, o.src = 0x46 ∧ d.scribe = { x.scribe with offers := x.scribe.offers ++ [o] }
    (∀ (g : Fin 8) v, Does (.digCtlWrite g v) s fun d => d = { x with diGrps := d.diGrps } ∧ (∀ k, k ≠ g.val → d.diGrp k = x.diGrp k) ∧
      (5 ≤ F.DIO_DIG_CTL_PER.of v → F.DIO_DIG_CTL_PER.of v ≤ 100 → d.diGrp g = { x.diGrp g with pend := some (v &&& 0x1FF) })) ∧
    (∀ n : Fin 64, x.halted = false → x.Unwatched (diHandle n) →
      let a := A.DIO_DI_STAT n
      let others (d : Dev) := (∀ k, k ≠ n.val → d.di k = x.di k) ∧ (∀ h, h ≠ diHandle n → d.point h = x.point h) ∧ x.RegsKept d [a]
      (∀ level, x.diCounted n (x.di n).since = true → x.bit a F.DIO_DI_STAT_BRK = false →
        (∀ u, u < 32 → ∀ up, x.cuWatches u (0x80 + n.val) up = false) → (x.bit a F.DIO_DI_STAT_STATE ≠ level ∨ (x.di n).ok = false) →
        Does (.diStateChange n level) s fun d => d.bit a F.DIO_DI_STAT_STATE = level ∧ d.bit a F.DIO_DI_STAT_VALID = true ∧
          d.point (diHandle n) = ⟨if level then 1 else 0, true⟩ ∧
          d.di n = { x.di n with since := (x.diGrp (n.val / 8)).count, ok := true } ∧ others d ∧
          d = { x with regs := d.regs, dis := d.dis, points := d.points, wrote := d.wrote, duoSet := d.duoSet }) ∧
      (x.bit (A.DIO_DI_CTL n) F.DIO_DI_CTL_BRKEN = true → x.bit a F.DIO_DI_STAT_BRK = false → x.diCounted n (x.di n).brkSince = true →
        Does (.wireBreak n true) s fun d => d.bit a F.DIO_DI_STAT_BRK = true ∧ d.bit a F.DIO_DI_STAT_VALID = false ∧
          d.point (diHandle n) = ⟨0, false⟩ ∧ others d ∧ recorded d ∧
          d = { x with regs := d.regs, dis := d.dis, points := d.points, wrote := d.wrote, duoSet := d.duoSet,
                       scribe := d.scribe, free := d.free })) ∧
    (∀ volt,
      let lpi := A.DIO_LPI_STAT
      let judged (d : Dev) := d.get lpi F.DIO_LPI_STAT_VOLT = volt.toNat ∧ (volt.toNat < 1500 → d.bit lpi F.DIO_LPI_STAT_T1INV = true) ∧
        (volt.toNat < 1100 → d.bit lpi F.DIO_LPI_STAT_T3INV = true)
      (x.standby = true ∨ x.halted = true → Does (.lpiMeasurement volt) s fun d => judged d ∧ x.RegsKept d [lpi] ∧
        d = { x with regs := d.regs, supply := d.supply }) ∧
      (x.standby = false → x.halted = false → (∀ n, n < 64 → x.Unwatched (diHandle n)) → Does (.lpiMeasurement volt) s fun d =>
        judged d ∧ x.RegsKept d (lpi :: (upto 64).map A.DIO_DI_STAT) ∧
        (∀ n, n < 64 →
          let inv := d.bit lpi (if x.bit (A.DIO_DIG_CTL (n / 8)) F.DIO_DIG_CTL_TYPE then F.DIO_LPI_STAT_T3INV else F.DIO_LPI_STAT_T1INV)
          d.bit (A.DIO_DI_STAT n) F.DIO_DI_STAT_LPINV = inv ∧
          (inv = true → d.bit (A.DIO_DI_STAT n) F.DIO_DI_STAT_VALID = false ∧ (d.point (diHandle n)).valid = false)) ∧
        d = { x with regs := d.regs, supply := d.supply, dis := d.dis, points := d.points, wrote := d.wrote, duoSet := d.duoSet })) ∧
    (∀ n : Fin 32,
      let a := A.DIO_DQ_STAT n
      let q := x.dq n
      let others (d : Dev) := (∀ k, k ≠ n.val → d.dq k = x.dq k) ∧ x.RegsKept d [a]
      let cleared (c : Instr) := Does c s fun d => d = { x with regs := d.regs, dqs := d.dqs } ∧ others d ∧
        d.bit a F.DIO_DQ_STAT_OVT = false ∧ d.dq n = { q with mismSince := x.ticks + 1 }
      (q.pwm = none → q.pwmFrom ≤ x.ticks → q.pwmKey ≠ 0 →
        let on := pwmOnTime (x.dqCmd n) q.pwmKey
        let stop := x.ticks + 250000000 / q.pwmKey
        20 ≤ on → (on + 20) * q.pwmKey ≤ 10000000 → Does (.pwmPeriod n) s fun d => d = { x with dqs := d.dqs } ∧ others d ∧
          d.dq n = { q with pwm := some (x.ticks, x.ticks + on * 25, stop), pwmOn := true }) ∧
      (∀ t on stop, q.pwm = some (t, on, stop) → on ≤ x.ticks → on < stop → Does (.pwmOnPhaseEnd n) s fun d =>
        d = { x with dqs := d.dqs } ∧ others d ∧ d.dq n = { q with pwmOn := false }) ∧
      (Does (.overheat n) s fun d => d.bit a F.DIO_DQ_STAT_OVT = true ∧ d.dq n = { q with ovtTick := x.ticks } ∧ d.dqLevel n = false ∧
        others d ∧ d = { x with regs := d.regs, dqs := d.dqs, scribe := d.scribe, free := d.free } ∧ (x.dqOvt n = false → recorded d)) ∧
      (x.dqOvt n = true → x.bit (A.DIO_DQ_CTL n) F.DIO_DQ_CTL_LATCH = false → q.ovtTick + 25000000 ≤ x.ticks → cleared (.ovtRetry n)) ∧
      (x.dqOvt n = true → x.bit (A.DIO_DQ_CTL n) F.DIO_DQ_CTL_LATCH = true → q.ovtTick ≠ x.ticks → cleared (.dqRst n)) ∧
      (x.dqPwm n = false → x.dqOvt n = false → x.dqSusp n = false → q.mismSince + 250001 ≤ x.ticks + 1 →
        Does (.readbackMismatch n) s fun d => d.bit a F.DIO_DQ_STAT_MISM = true ∧ d.dq n = { q with rbDiff := true } ∧ others d ∧
          d = { x with regs := d.regs, dqs := d.dqs, hwSet := d.hwSet, scribe := d.scribe, free := d.free } ∧
          (x.bit a F.DIO_DQ_STAT_MISM = false → recorded d)) ∧
      (x.bit (A.DIO_DQ_CTL n) F.DIO_DQ_CTL_OLEN = true → (x.dqPwm n = false ∨ x.dqCmd n = 0 ∨ x.dqCmd n = 65535) →
        x.dqSusp n = false → q.openSince + 2500000 ≤ x.ticks + 1 →
        Does (.openLoad n) s fun d => d.bit a (if x.dqCmd n = 0 then F.DIO_DQ_STAT_OLOFF else F.DIO_DQ_STAT_OLON) = true ∧ others d ∧
          d = { x with regs := d.regs, hwSet := d.hwSet, scribe := d.scribe, free := d.free })) ∧
    (∀ (g : Fin 4) volt, (volt.toNat < 1100 → x.standby = false ∧ x.halted = false ∧ ∀ k, k < 8 → x.Unwatched (rbHandle (8 * g.val + k))) →
      let a := A.DIO_DQG_STAT g
      let judged (d : Dev) := d.get a F.DIO_DQG_STAT_VOLT = volt.toNat ∧ (volt.toNat < 1920 → d.bit a F.DIO_DQG_STAT_SAG = true) ∧
        (volt.toNat < 1500 → d.bit a F.DIO_DQG_STAT_SUSP = true) ∧ (volt.toNat < 1100 → d.bit a F.DIO_DQG_STAT_UNPWR = true)
      (volt.toNat < 1100 → x.bit a F.DIO_DQG_STAT_UNPWR = false → Does (.lpMeasurement g volt) s fun d => judged d ∧
        (∀ k, k < 8 → (d.dq (8 * g.val + k)).pwm = none ∧ d.bit (A.DIO_DQ_STAT (8 * g.val + k)) F.DIO_DQ_STAT_RBV = false ∧
          (d.point (rbHandle (8 * g.val + k))).valid = false) ∧
        x.RegsKept d (a :: (upto 8).map (fun k => A.DIO_DQ_STAT (8 * g.val + k))) ∧
        d = { x with regs := d.regs, dqs := d.dqs, supply := d.supply, points := d.points, wrote := d.wrote, duoSet := d.duoSet,
                     scribe := d.scribe, free := d.free }) ∧
      (x.bit a F.DIO_DQG_STAT_UNPWR = true → 1800 < volt.toNat → tabGet 0 x.supply (6 + 3 * g.val) ≠ 0 →
        tabGet 0 x.supply (6 + 3 * g.val) + 2500000 ≤ x.ticks + 1 → Does (.lpMeasurement g volt) s fun d => judged d ∧
          d.bit a F.DIO_DQG_STAT_UNPWR = false ∧
          (∀ k, k < 8 → d.bit (A.DIO_DQ_STAT (8 * g.val + k)) F.DIO_DQ_STAT_OVT = false ∧
            (d.dq (8 * g.val + k)).pwm = none ∧ (d.dq (8 * g.val + k)).pwmFrom = x.ticks) ∧
          x.RegsKept d (a :: (upto 8).map (fun k => A.DIO_DQ_STAT (8 * g.val + k))) ∧
          d = { x with regs := d.regs, dqs := d.dqs, supply := d.supply, scribe := d.scribe, free := d.free }) ∧
      ((x.bit a F.DIO_DQG_STAT_UNPWR = true → volt.toNat ≤ 1800) → (x.bit a F.DIO_DQG_STAT_UNPWR = false → 1100 ≤ volt.toNat) → Does (.lpMeasurement g volt) s fun d => judged d ∧ x.RegsKept d [a] ∧
        d = { x with regs := d.regs, dqs := d.dqs, supply := d.supply, scribe := d.scribe, free := d.free }))

/-! ## The safety island (chapter 13) -/

/-- R284, R287: a filtered change into demand takes every pair of the input's MASK off through the latch, and a MANUAL pair waits
for a reset. R285: a discrepancy time that has passed latches DISC and takes the pairs off; before it, and with no timer, nothing
happens. R286, R292, R293: the end of a reset press of 100 ms to 5 s clears the fulfilled latches and the wait of each pair of
its MASK that no demand and no latch concerns; IFAULT voids it; a press out of range is recorded. R282, R283: a safety cycle
shows READY, switches the pairs that may be on, and with a failed self-test latches IFAULT, with every pair off. R288: a test
pulse that is due interrupts its output alone; one at whose end the pin is not low latches OFAULT and takes the pair off. -/
def Obligations.SafetyPaths : Prop :=
  ∀ s : State, s.dev.on = true →
    let x := s.dev
    let si := A.SAF_SI_STAT
    let sto := A.SAF_STO_STAT
    let shown := A.SAF_STAT :: ((upto 8).map si ++ (upto 4).map sto)
    let framed (d : Dev) := d = { x with regs := d.regs, saf := d.saf, scribe := d.scribe, free := d.free } ∧ x.RegsKept d shown ∧
      d.saf = { x.saf with ins := d.saf.ins, outs := d.saf.outs }
    let recorded (d : Dev) (n : Nat) := ∃ os : List Offer, os.length = n ∧ (∀ o ∈ os, o.src = 0x47) ∧
      d.scribe = { x.scribe with offers := x.scribe.offers ++ os }
    let off (d : Dev) (p : Nat) := (d.safOut p).on = false ∧ ((x.safOut p).on = true → d.bit (sto p) F.SAF_STO_STAT_HWOPEN = true)
    let waits (k : Nat) := ∀ t c v, (x.safIn k).timer = some (t, c, v) → x.ticks ≤ t + x.saf.disc k
    (∀ (k : Fin 8) (chB closed : Bool),
      let f := if chB then F.SAF_SI_STAT_FB else F.SAF_SI_STAT_FA
      let c := Instr.siChange k chB closed
      let into := demandLevel (x.saf.role k) chB = some closed
      (x.bit (si k) f = closed → Does c s fun d => d = x) ∧
      (x.bit (si k) f = !closed →
        Does c s (fun d => framed d ∧ d.bit (si k) f = closed) ∧
        (x.saf.role k = 0 → waits k → Does c s fun d => d = { x with regs := d.regs } ∧ x.RegsKept d [si k]) ∧
        (into → Does c s fun d => d.bit (si k) F.SAF_SI_STAT_DEMAND = true ∧ (x.saf.role k ≠ roleReset →
          ∀ p, p < 4 → x.saf.names k p = true → off d p ∧ d.bit (sto p) F.SAF_STO_STAT_RSTW = !x.saf.auto p)) ∧
        (x.saf.role k = roleReset → ¬into → x.chDemand k (!chB) = false → (x.safIn k).bothAt = 0 → waits k →
          (∀ t, (x.safIn k).stood = some t → 25000000 ≤ t → t ≤ 1250000000 → x.ifault = false → Does c s fun d =>
            d.bit (si k) F.SAF_SI_STAT_DEMAND = false ∧ recorded d 0 ∧
            ∀ p, p < 4 → (x.saf.mask k).testBit p = true → (d.safOut p).ofault = false ∧
              (∀ j, j < 8 → x.saf.names j p = true → (x.safIn j).seqok = true → (d.safIn j).disc = false) ∧
              (x.pairDemand p = false → (∀ j, j < 8 → x.saf.names j p = true → (x.safIn j).disc = false ∨ (x.safIn j).seqok = true) →
                d.bit (sto p) F.SAF_STO_STAT_RSTW = false)) ∧
          (∀ t, (x.safIn k).stood = some t → x.ifault = true → 25000000 ≤ t → t ≤ 1250000000 → Does c s fun d => recorded d 0 ∧
            ∀ j, (d.safIn j).disc = (x.safIn j).disc ∧ (d.safOut j).ofault = (x.safOut j).ofault) ∧
          (((x.safIn k).stood = none ∨ ∃ t, (x.safIn k).stood = some t ∧ (t < 25000000 ∨ 1250000000 < t)) → Does c s fun d =>
            recorded d 1 ∧ ∀ j, (d.safIn j).disc = (x.safIn j).disc ∧ (d.safOut j).ofault = (x.safOut j).ofault)))) ∧
    (∀ k : Fin 8,
      (waits k → Does (.discExpiry k) s fun d => d = x) ∧
      (∀ t c v, (x.safIn k).timer = some (t, c, v) → t + x.saf.disc k < x.ticks → Does (.discExpiry k) s fun d => framed d ∧
        recorded d 1 ∧ d.safIn k = { x.safIn k with timer := none, disc := true, seqok := false, both := false } ∧
        (∀ j, j ≠ k.val → d.safIn j = x.safIn j) ∧ d.bit (si k) F.SAF_SI_STAT_DISC = x.safReady ∧
        ∀ p, p < 4 → x.saf.names k p = true → off d p)) ∧
    (∀ ok, Does (.safetyCycle ok) s fun d => d.safReady = true ∧
      d = { x with regs := d.regs, saf := d.saf, scribe := d.scribe, free := d.free } ∧
      x.RegsKept d (A.SAF_CFG_CRC :: A.SAF_LOG_SEQ :: shown) ∧ d.saf = { x.saf with outs := d.saf.outs } ∧
      (x.safReady = true → x.RegsKept d shown) ∧ (x.safReady = false → d.reg A.SAF_CFG_CRC = crcWords x.saf.body ∧
        d.reg A.SAF_LOG_SEQ = BitVec.ofNat 32 x.saf.seq) ∧
      (∀ p, p < 4 →
        (ok = false ∨ x.pairDemand p = true ∨ x.pairLatched p = true ∨ x.saf.enabled p = false →
          off d p ∧ d.bit (sto p) F.SAF_STO_STAT_SCOPEN = true) ∧
        (ok = true → x.saf.enabled p = true → x.pairDemand p = false → x.pairLatched p = false → x.stoFree = true →
          x.filtersRun = true → x.bit (sto p) F.SAF_STO_STAT_RSTW = false → (d.safOut p).on = true ∧
          d.bit (sto p) F.SAF_STO_STAT_SCOPEN = false ∧
          ((x.safOut p).on = false → d.bit (sto p) F.SAF_STO_STAT_HWOPEN = false))) ∧
      (ok = true → recorded d 0 ∧ d.ifault = x.ifault) ∧ (ok = false → d.ifault = true ∧ recorded d (if x.ifault then 0 else 1))) ∧
    (x.ifault = true → Does .ifault s fun d => d = x) ∧
    (x.ifault = false → Does .ifault s fun d => framed d ∧ recorded d 1 ∧ d.ifault = true ∧ d.saf.ins = x.saf.ins ∧
      ∀ p, p < 4 → off d p) ∧
    (∀ (p : Fin 4) (b : Fin 2),
      let y := x.safOut p
      let other := tabGet 0 y.last (1 - b)
      let due := y.on = true ∧ x.saf.tpen p = true ∧ x.stoFree = true ∧ tabGet 0 y.next b ≤ x.ticks ∧
        tabGet none y.pulse b = none ∧ (other = 0 ∨ other + 125000000 ≤ x.ticks + 1)
      (due → Does (.testPulse p b) s fun d => d = { x with regs := d.regs, saf := d.saf } ∧ x.RegsKept d [sto p] ∧
        d.bit (sto p) F.SAF_STO_STAT_ON = false ∧ (∀ q, q ≠ p.val → d.safOut q = x.safOut q) ∧ d.saf.ins = x.saf.ins ∧
        d.safOut p = { y with pulse := tabPut none y.pulse b (some (x.ticks + pulseTicks x.saf p)),
                              last := tabPut 0 y.last b (x.ticks + 1), next := tabPut 0 y.next b (x.ticks + tpiTicks x.saf p) }) ∧
      (¬due → Does (.testPulse p b) s fun d => d = x) ∧
      (∀ t, tabGet none y.pulse b = some t → t ≤ x.ticks →
        Does (.testPulseEnd p b true) s (fun d => d = { x with regs := d.regs, saf := d.saf } ∧ x.RegsKept d [sto p] ∧
          d.bit (sto p) F.SAF_STO_STAT_TPLAST = true ∧ d.safOut p = { y with pulse := tabPut none y.pulse b none }) ∧
        Does (.testPulseEnd p b false) s fun d => framed d ∧ recorded d 1 ∧ d.bit (sto p) F.SAF_STO_STAT_TPLAST = false ∧
          (d.safOut p).ofault = true ∧ off d p) ∧
      (∀ low, (∀ t, tabGet none y.pulse b = some t → x.ticks < t) → Does (.testPulseEnd p b low) s fun d => d = x))

/-- R294, R296, R297: the command of the request at the head of the island's queue takes it and answers with one notice whose
tag is the status; another request waits; an unknown code is FORMAT. CONFIGURE and SETPW check the form, the lockout, the
password, the base CRC and the pairs in this order; a wrong password counts, and five in a row lock out for 10 min. Accepted,
CONFIGURE puts the body in force with its CRC and every pair counts as off by demand; SETPW stores the salted hash; each
writes a log entry and counts (R298). LOGREAD and READBACK answer in the request's page and change no other memory. The CRC
polynomial, the answers' places in the page and a refused verification's status are readings of logs 43 and 44. -/
def Obligations.SafetyRequests : Prop :=
  ∀ s : State, s.dev.on = true →
    let x := s.dev
    let q := (x.mend 2 1).queue
    (∀ y rest, q = y :: rest → y.tick < x.ticks → x.postCheck 2 0x39 true false = .posted → x.endIdent 2 0 ≠ 0x39 →
      let code := bitsOf y.tag 7 0
      let ans (st : Nat) (h : Dbl) (d : Dev) := (d.mend 2 1).queue = rest ∧ (d.mend 2 1).held = y ∧
        (d.mend 2 0).queue = (x.mend 2 0).queue ++ [⟨h, BitVec.ofNat 32 st, stampWord 0x39 (x.epochOf 0x39) true, x.ticks⟩] ∧
        (x.endIdent 2 0 = 0 ∨ 8 < x.endIdent 2 0 →
          d = { x with mbx := d.mbx, later := d.later, regs := d.regs, saf := d.saf, sec := d.sec, mem := d.mem, pool := d.pool,
                       scribe := d.scribe, free := d.free, sent := d.sent, duoOuts := d.duoOuts } ∧
          x.RegsKept d (A.SAF_STAT :: A.SAF_CFG_CRC :: A.SAF_LOG_SEQ :: A.SEC_IDX_BLK :: A.SEC_ID_STAT ::
            ((upto 8).map A.SAF_SI_STAT ++ (upto 4).map A.SAF_STO_STAT)))
      let refused (c : Instr) (st : Nat) := Does c s fun d => ans st 0 d ∧ d.saf = x.saf ∧ d.mem = x.mem
      let counted (d : Dev) := d.saf.fails = min (x.saf.fails + 1) 5 ∧ (4 ≤ x.saf.fails → d.lockLeft = 150000000000) ∧
        d.saf = { x.saf with fails := d.saf.fails, lock := d.saf.lock, lockBase := d.saf.lockBase } ∧ d.mem = x.mem
      let held (d : Dev) := d.saf.body = x.saf.body ∧ d.saf.hash = x.saf.hash ∧ d.saf.log = x.saf.log ∧ d.saf.seq = x.saf.seq ∧
        d.saf.fails = 0 ∧ d.mem = x.mem
      let logged (d : Dev) := d.saf.seq = x.saf.seq + 1 ∧ d.reg A.SAF_LOG_SEQ = BitVec.ofNat 32 (x.saf.seq + 1) ∧ d.mem = x.mem
      let right (pw : List Byte) := x.saf.hash = some (saltedHash x.saf.salt pw)
      (∀ same, code = 1 →
        let c := Instr.configure same
        let parts := (x.payload y.handle 41).bind fun ws => (package ws 20).map fun r => (ws, r.1, r.2)
        (parts = none → refused c safFormat) ∧
        (∀ ws pw body, parts = some (ws, pw, body) →
          (configBodyOk body = false → refused c safFormat) ∧
          (configBodyOk body = true →
            (x.lockLeft ≠ 0 → refused c safLockout) ∧
            (x.lockLeft = 0 → ¬right pw → Does c s fun d => ans safPassword 0 d ∧ counted d) ∧
            (x.lockLeft = 0 → right pw →
              let base := ws.getD 3 0 = x.reg A.SAF_CFG_CRC
              (¬base → Does c s fun d => ans safStale 0 d ∧ held d) ∧
              (base → x.allOff = false → Does c s fun d => ans safActive 0 d ∧ held d) ∧
              (base → x.allOff = true → same = false → Does c s fun d => ans safFormat 0 d ∧ held d ∧ d.ifault = true) ∧
              (base → x.allOff = true → same = true → (x.idSign).2.isSome = true → Does c s fun d => ans safDone 0 d ∧ logged d ∧
                d.saf.body = body ∧ d.reg A.SAF_CFG_CRC = crcWords body ∧ d.saf.fails = 0 ∧ d.saf.hash = x.saf.hash ∧
                ∀ p, p < 4 → d.bit (A.SAF_STO_STAT p) F.SAF_STO_STAT_RSTW = !d.saf.auto p))))) ∧
      (code = 2 →
        let c := Instr.setpw
        let parts := (x.payload y.handle 38).bind fun ws => (package ws 17).map fun r => (ws, r.1, r.2)
        (parts = none → refused c safFormat) ∧
        (∀ ws pw body, parts = some (ws, pw, body) →
          (pwBytes (body.drop 1) (body.getD 0 0).toNat = none → refused c safFormat) ∧
          (∀ new, pwBytes (body.drop 1) (body.getD 0 0).toNat = some new →
            (x.lockLeft ≠ 0 → refused c safLockout) ∧
            (x.lockLeft = 0 →
              let early := x.lifecycle = lcProvisioned ∨ x.lifecycle = lcService
              let base := ws.getD 3 0 = x.reg A.SAF_CFG_CRC
              (x.saf.hash = none → ¬early → refused c safState) ∧
              (x.saf.hash ≠ none → ¬right pw → Does c s fun d => ans safPassword 0 d ∧ counted d) ∧
              (x.saf.hash = none ∧ early ∨ right pw →
                (¬base → Does c s fun d => ans safStale 0 d ∧ d.saf.hash = x.saf.hash ∧ d.saf.seq = x.saf.seq) ∧
                (base → (x.idSign).2.isSome = true → Does c s fun d => ans safDone 0 d ∧ logged d ∧ d.saf.body = x.saf.body ∧
                  d.reg A.SAF_CFG_CRC = x.reg A.SAF_CFG_CRC ∧ d.saf.salt.length = 16 ∧
                  d.saf.hash = some (saltedHash d.saf.salt new))))))) ∧
      (∀ c n, (c, n) ∈ [(Instr.logread, 3), (.readback, 4)] → code = n → x.lockLeft ≠ 0 → x.payload y.handle 1 ≠ none → refused c safLockout) ∧
      (∀ a, handleAddr y.handle = some a → x.lockLeft = 0 →
        (∀ ws, code = 3 → x.payload y.handle 1 = some ws →
          let es := x.saf.log.filter fun e => decide ((ws.getD 0 0).toNat ≤ (e.words.getD 0 0).toNat)
          Does .logread s fun d => ans safDone y.handle d ∧ d.saf = x.saf ∧ x.BytesKept d a 4096 ∧
            (∀ e es', es = e :: es' → e.words.length = 16 → d.words a 16 = e.words ∧ d.words (a + 64) 705 = sigWords e.sig e.words) ∧
            (es = [] → d.mem = x.mem)) ∧
        (code = 4 → x.saf.body.length = 20 → Does .readback s fun d => ans safDone y.handle d ∧ d.saf = x.saf ∧ x.BytesKept d a 96 ∧
          d.words a 21 = x.saf.body ++ [x.reg A.SAF_CFG_CRC])) ∧
      (∀ c n, (c, n) ∈ [(Instr.configure true, 1), (.setpw, 2), (.logread, 3), (.readback, 4)] →
        (code = 0 ∨ 4 < code → refused c safFormat) ∧ (1 ≤ code → code ≤ 4 → code ≠ n → Does c s fun d => d = x))) ∧
    (q = [] → ∀ c ∈ [Instr.configure true, .configure false, .setpw, .logread, .readback], Does c s fun d => d = x) ∧
    (x.lockLeft ≠ 0 → Does .lockoutEnd s fun d => d = x) ∧
    (x.lockLeft = 0 → Does .lockoutEnd s fun d => d = { x with regs := d.regs, saf := { x.saf with lock := 0 } } ∧
      d.bit A.SAF_STAT F.SAF_STAT_LOCKOUT = false ∧
      x.RegsKept d (A.SAF_STAT :: ((upto 8).map A.SAF_SI_STAT ++ (upto 4).map A.SAF_STO_STAT)))

/-! ## The signal recorder (chapter 14) -/

/-- R302: a good enrolment through the P view is enabled and pending, a bad one is refused with CFGERR; EN 0 ends it. R304: a
sweep takes the value of the first pending entry. R305, R306: a change at the head of the intake queue becomes the next record
of the ring, in its four words; no other byte changes. R310: an enable takes the ring's pages, a disable frees them and records
what is discarded. R317: ARM begins a window. R315: SOFTTRIG acts from the next tick; R316: a trigger acts at its instant. R312,
R313, R314: the host buffer takes records up to its room with WR behind them, a good write of RD releases records, and an
Ethernet frame takes 88. -/
def Obligations.SignalRecorder : Prop :=
  ∀ s : State, s.dev.on = true →
    let x := s.dev
    let stat := A.REC_STAT
    let cfgErr (c : Instr) (as : List Nat) := Does c s fun d => d.bit stat F.REC_STAT_CFGERR = true ∧ x.RegsKept d (stat :: as) ∧
      d.recorder = x.recorder ∧ d = { x with regs := d.regs, hwSet := d.hwSet, scribe := d.scribe, free := d.free }
    let framed (d : Dev) (as : List Nat) := d = { x with regs := d.regs, recorder := d.recorder } ∧ x.RegsKept d as
    let q := x.recNextOut
    (∀ (req : Fin 15) (e : Fin 8192) (v : Word),
      let a := A.REC_ENR_CFG e
      let c := Instr.recEnrol ⟨req, true⟩ e v
      (F.REC_ENR_CFG_EN.of v = 1 → x.bit a F.REC_ENR_CFG_EN = false →
        (x.enrolOk e (F.REC_ENR_CFG_FMT.of v) = true → Does c s fun d => d.bit a F.REC_ENR_CFG_EN = true ∧ d.recPend e = true ∧
          d.get a F.REC_ENR_CFG_FMT = F.REC_ENR_CFG_FMT.of v ∧ d = { x with regs := d.regs } ∧ x.RegsKept d [a]) ∧
        (x.enrolOk e (F.REC_ENR_CFG_FMT.of v) = false → cfgErr c [a])) ∧
      (F.REC_ENR_CFG_EN.of v = 0 → Does c s fun d => d.bit a F.REC_ENR_CFG_EN = false ∧ d.recPend e = false ∧
        d = { x with regs := d.regs } ∧ x.RegsKept d [a])) ∧
    (∀ e, x.recTaking = true → x.recQueued < 4096 → (x.recWindow = true ∨ 64 < x.recFree) → x.enabledEntries.find? x.recPend = some e →
      let h := x.reg (A.REC_ENR_HND e)
      Does .sweep s fun d => framed d [A.REC_ENR_CFG e] ∧ d.recPend e = false ∧ d.recStored e = x.now h ∧
        d.recorder.found = x.recorder.found ++ [.change x.ts e h (x.now h) true (x.kerfOf h)]) ∧
    (∀ t e h p resync kerf, let it := RecItem.change t e h p resync kerf
      x.recorder.queue = [it] → x.recorder.lossCount = [] → x.recState = recRun → x.recWindow = false → 64 < x.recFree →
      x.syncedAs 1 = false → Does .ringWrite s fun d => d = { x with regs := d.regs, recorder := d.recorder, mem := d.mem, pool := d.pool } ∧
        d.recSeq = x.recSeq + 1 ∧ d.words (x.recAddr x.recSeq) 4 = recLine it ∧ x.BytesKept d (x.recAddr x.recSeq) 16 ∧
        d.recorder.queue = [] ∧ x.RegsKept d [A.REC_SEQ, A.REC_FREE, stat]) ∧
    (∀ v, let mode := F.REC_CTL_MODE.of v
      let y := (x.set A.REC_CTL F.REC_CTL_MODE mode).set A.REC_CTL F.REC_CTL_SINK (F.REC_CTL_SINK.of v)
      (∀ z ps, x.recEnabled = false → x.recOwnsVolatile = false →
        Dev.recAlloc (x.get A.REC_RING F.REC_RING_PAGES) y [] = (z, ps, true) → Does (.recEnable v) s fun d => d.recEnabled = true ∧
          d.recState = (if mode = 1 then recArmed else recRun) ∧ d.get A.REC_CTL F.REC_CTL_MODE = mode ∧ d.recorder.pages = ps ∧
          d.recorder.released = x.recSeq ∧ d.reg A.REC_HB_RD = x.recSeq ∧ d.reg A.REC_HB_WR = x.recSeq ∧ d.recSeq = x.recSeq ∧
          d.recorder.mark.due = true ∧ d.recorder.mark.start = true ∧
          d = { x with regs := d.regs, recorder := d.recorder, pool := d.pool }) ∧
      (x.recEnabled = true → mode = x.get A.REC_CTL F.REC_CTL_MODE → F.REC_CTL_SINK.of v = x.get A.REC_CTL F.REC_CTL_SINK →
        Does (.recEnable v) s fun d => d = x) ∧
      (x.recEnabled = true → mode ≠ x.get A.REC_CTL F.REC_CTL_MODE → cfgErr (.recEnable v) [])) ∧
    (x.recEnabled = true → Does .recDisable s fun d => d.recEnabled = false ∧ d.recState = recDisabled ∧ d.recorder.pages = [] ∧
      d.recorder.queue = [] ∧ d.later = x.later ++ x.recorder.pages.map .pageFree ∧ d.recSeq = x.recSeq ∧
      (∃ o : Offer, o.payload = [BitVec.ofNat 32 (x.recSeq - x.recorder.released).toNat] ∧
        d.scribe = { x.scribe with offers := x.scribe.offers ++ [o] }) ∧
      x.RegsKept d [A.REC_CTL, stat, A.REC_HB_RD, A.REC_HB_WR, A.REC_FREE] ∧
      d = { x with regs := d.regs, recorder := d.recorder, later := d.later, scribe := d.scribe }) ∧
    (x.recEnabled = true → x.recWindow = true → (x.recState = recArmed ∨ x.recState = recDone) →
      x.get A.REC_PRE F.REC_PRE_DEPTH + x.get A.REC_POST F.REC_POST_DEPTH + 1 ≤ x.recCap → Does .recArm s fun d =>
        d.recState = recArmed ∧ d.recorder.sinceArm = 0 ∧ d.recorder.released = x.recSeq ∧ d.recorder.mark.start = true ∧
        d = { x with regs := d.regs, recorder := d.recorder }) ∧
    ((x.recEnabled = false ∨ x.recWindow = false) → cfgErr .recArm []) ∧
    (Does .softtrig s fun d => d = { x with later := x.later ++ [.softTrig] }) ∧
    (Does .clrcnt s fun d => d = { x with regs := d.regs } ∧ d.reg A.REC_TRG_STAT = 0 ∧ (∀ c, c < 128 → d.reg (A.REC_LOSSCNT c) = 0) ∧
      x.RegsKept d (A.REC_TRG_STAT :: (upto 128).map A.REC_LOSSCNT)) ∧
    (∀ t, x.halted = false → x.recorder.trigs.find? (fun t => t.actAt ≤ x.ts) = some t → Does .triggerAct s fun d =>
      d = { x with recorder := { x.recorder with trigs := x.recorder.trigs.erase t,
                                                 acting := x.recorder.acting ++ [.trigger t.ts t.frac t.kind t.num t.seg t.dev] } }) ∧
    (let size := x.get A.REC_HB_SIZE F.REC_HB_SIZE_DATA
      let n := min (size * 256 - (q - x.reg A.REC_HB_RD).toNat) (x.recLastOut - q).toNat
      let base := (x.pair A.REC_HB_BASE_LO).toNat
      x.halted = false → x.recDelivers = true → x.bit A.REC_CTL F.REC_CTL_SINK = false → size ≠ 0 → q.toNat + n ≤ 2 ^ 32 →
      Does .hostBurst s fun d => framed d [A.REC_HB_WR] ∧ d.reg A.REC_HB_WR = q + BitVec.ofNat 32 n ∧
        d.recorder = { x.recorder with hostMem := d.recorder.hostMem } ∧
        tabGet 0 d.recorder.hostMem ((base + size * 4096) / 4) = q + BitVec.ofNat 32 n ∧
        (∀ i j, i < n → j < 4 → tabGet 0 d.recorder.hostMem ((base + (q.toNat + i) % (size * 256) * 16 + 4 * j) / 4) =
          x.word (x.recAddr (q + BitVec.ofNat 32 i) + 4 * j))) ∧
    (∀ v, let rd := x.reg A.REC_HB_RD
      let far := (x.reg A.REC_HB_WR - rd).toNat
      ((v - rd).toNat ≤ far → Does (.hbRdWrite v) s fun d => framed d [A.REC_HB_RD, A.REC_FREE, stat] ∧ d.reg A.REC_HB_RD = v ∧
        d.recorder = { x.recorder with released := v }) ∧
      (far < (v - rd).toNat → cfgErr (.hbRdWrite v) [])) ∧
    (x.halted = false → x.recDelivers = true → x.bit A.REC_CTL F.REC_CTL_SINK = true → 88 ≤ (x.recLastOut - q).toNat →
      Does .recFrame s fun d => d = { x with regs := d.regs, recorder := d.recorder, sent := d.sent } ∧
        d.recorder.released = q + 88 ∧ d.reg A.REC_HB_WR = q + 88 ∧ d.reg A.REC_HB_RD = q + 88 ∧
        x.RegsKept d [A.REC_HB_WR, A.REC_HB_RD, A.REC_FREE, stat] ∧
        ∃ ws, d.sent = x.sent ++ [⟨1, x.get A.REC_ETH_CTL F.REC_ETH_CTL_PORT, 0x88B5, ws⟩] ∧
          ∀ i, i < 88 → (ws.drop (7 + 4 * i)).take 4 = x.words (x.recAddr (q + BitVec.ofNat 32 i)) 4)

/-! ## The Scribe (chapter 15) -/

/-- R327: a due refill adds a token up to DEPTH and reports and clears what was suppressed; a write of a limiter's configuration
fills its bucket, restarts its count and keeps the suppressed count. R328, R323: the writer moves one line of the head record
(each record starts on a line, the model's choice of log 21); on its last line the record is accepted under NEXT. R329: the
Scribe is enabled only with two retained banks of its own. R332: a clear empties the ring and its CLEARED record becomes the
first; in OPERATIONAL without CLRPERM it is refused. R330: a cursor is its requester's own. -/
def Obligations.ScribeRing : Prop :=
  ∀ s : State, s.dev.on = true →
    let x := s.dev
    let next := x.reg A.EVR_NEXT
    let lineAt (i : Nat) := lineOf (x.ringAddr (x.scribe.pos + 16 * i))
    (∀ l : Fin 511, let k := l.val + 1
      let m := x.limiter k
      let cfg := A.EVR_LIM_CFG k
      let n := x.get (A.EVR_LIM_STAT k) F.EVR_LIM_STAT_COUNT
      let base := m.base + x.get cfg F.EVR_LIM_CFG_REFILL * 250
      (base ≤ x.ticks → Does (.refill l) s fun d => d = { x with regs := d.regs, scribe := d.scribe } ∧
        d.limiter k = { m with tokens := min (m.tokens + 1) (x.get cfg F.EVR_LIM_CFG_DEPTH), base := base } ∧
        (n = 0 → d.regs = x.regs ∧ d.scribe.offers = x.scribe.offers) ∧
        (0 < n → d.reg (A.EVR_LIM_STAT k) = 0 ∧ x.RegsKept d [A.EVR_LIM_STAT k] ∧
          ∃ o : Offer, o.code = 2 ∧ o.payload.take 2 = [BitVec.ofNat 32 k, BitVec.ofNat 32 n] ∧
            d.scribe.offers = x.scribe.offers ++ [o])) ∧
      (x.ticks < base → Does (.refill l) s fun d => d = x) ∧
      (∀ v, F.EVR_LIM_CFG_REFILL.of v ≠ 0 → F.EVR_LIM_CFG_DEPTH.of v ≠ 0 → Does (.limCfgWrite l v) s fun d =>
        d = { x with regs := d.regs, scribe := d.scribe } ∧ x.RegsKept d [cfg] ∧ d.get cfg F.EVR_LIM_CFG_REFILL = F.EVR_LIM_CFG_REFILL.of v ∧
        d.get cfg F.EVR_LIM_CFG_DEPTH = F.EVR_LIM_CFG_DEPTH.of v ∧ (d.limiter k).tokens = F.EVR_LIM_CFG_DEPTH.of v ∧
        (d.limiter k).base = x.ticks ∧ (d.limiter k).firstTs = m.firstTs ∧ (d.limiter k).firstCode = m.firstCode)) ∧
    (∀ o mirror rest, x.scribe.queue = (o, mirror) :: rest →
      let i := x.scribe.linesDone
      let ws := recWords o mirror next
      (i + 1 < recLines (recLen o) → Does .scribeWrite s fun d => d = { x with regs := d.regs, scribe := d.scribe, mem := d.mem, pool := d.pool } ∧
        d.scribe.linesDone = i + 1 ∧ d.scribe.queue = x.scribe.queue ∧ x.RegsKept d [A.EVR_OLDEST] ∧
        d.words (lineAt i * 16) 4 = ((ws.drop (4 * i)).take 4 ++ [0, 0, 0, 0]).take 4 ∧ x.BytesKept d (lineAt i * 16) 16) ∧
      (recLines (recLen o) ≤ i + 1 → x.syncedAs 1 = false → x.codeNamed o.code.toNat = false → Does .scribeWrite s fun d =>
        d = { x with regs := d.regs, scribe := d.scribe, mem := d.mem, pool := d.pool } ∧
        d.reg A.EVR_NEXT = next + 1 ∧ d.scribe.queue = rest ∧ d.scribe.linesDone = 0 ∧
        d.scribe.ring.getLast? = some ⟨next, x.scribe.pos, recLen o, o.sec⟩ ∧ x.RegsKept d [A.EVR_OLDEST, A.EVR_NEXT, A.EVR_STAT] ∧
        d.words (lineAt i * 16) 4 = ((ws.drop (4 * i)).take 4 ++ [0, 0, 0, 0]).take 4 ∧ x.BytesKept d (lineAt i * 16) 16)) ∧
    (Does (.evrEnable false) s fun d => d = { x with regs := d.regs } ∧ d.bit A.EVR_CTL F.EVR_CTL_EN = false ∧ x.RegsKept d [A.EVR_CTL]) ∧
    (x.ringBanksOk = true → Does (.evrEnable true) s fun d => d = { x with regs := d.regs } ∧ d.bit A.EVR_CTL F.EVR_CTL_EN = true ∧
      x.RegsKept d [A.EVR_CTL]) ∧
    (x.ringBanksOk = false → Does (.evrEnable true) s fun d => d = { x with regs := d.regs, hwSet := d.hwSet } ∧
      d.bit A.EVR_STAT F.EVR_STAT_CFGERR = true ∧ x.RegsKept d [A.EVR_STAT]) ∧
    (∀ req : Fin 15,
      let refused := x.lifecycle = 2 ∧ x.bit A.EVR_CFG F.EVR_CFG_CLRPERM = false
      (refused → Does (.evrClr req) s fun d => d = { x with regs := d.regs, hwSet := d.hwSet } ∧
        d.bit A.EVR_STAT F.EVR_STAT_CLRREF = true ∧ x.RegsKept d [A.EVR_STAT]) ∧
      (¬refused → x.ringBanksOk = true → x.syncedAs 1 = false → x.codeNamed 4 = false → Does (.evrClr req) s fun d =>
        d = { x with regs := d.regs, scribe := d.scribe, mem := d.mem, pool := d.pool } ∧ d.reg A.EVR_NEXT = next + 1 ∧
        d.reg A.EVR_OLDEST = next ∧ x.RegsKept d [A.EVR_NEXT, A.EVR_OLDEST] ∧ d.scribe.queue = x.scribe.queue ∧
        (∃ len, d.scribe.ring = [⟨next, x.scribe.pos, len, false⟩]) ∧
        (∀ a, a / 16 ≠ lineAt 0 → a / 16 ≠ lineAt 1 → d.byte a = x.byte a)) ∧
      (¬refused → x.ringBanksOk = false → Does (.evrClr req) s fun d => d = { x with regs := d.regs, scribe := d.scribe } ∧
        d.scribe.ring = [] ∧ d.reg A.EVR_OLDEST = next ∧ x.RegsKept d [A.EVR_OLDEST]) ∧
      ∀ v, Does (.cursorWrite req v) s fun d => d = { x with regs := d.regs } ∧ d.reg (reqKey req A.EVR_CURSOR) = v ∧
        x.RegsKept d [reqKey req A.EVR_CURSOR])

/-! ## The CAN FD channels (chapter 16) -/

/-- R335: a mode other than the one in force is taken, out of CONFIG with integration. R337, R340, R341: PUSH enters the transmit
FIFO, CANCEL takes a frame out with its completion or marks a head that has won, a sent frame completes with its stamp; DPOP and
POP drop the heads. R339, R342, R344: an error raises the counters and the head is tried again or fails; RECOVER starts, and its
end clears, the counters of bus-off. R345, R346: a frame that no filter matches is dropped; a matching one enters the receive
FIFO with its data, or its fields take their values (R349); a full FIFO counts a loss. R348: a snapshot. R351: an absent station
is set and recorded and its fields are invalid. No bank memory changes. -/
def Obligations.CanChannel : Prop :=
  ∀ (s : State) (n : Fin 16), s.dev.on = true →
    let x := s.dev
    let c := x.can n
    let ctl := A.CN_CTL n
    let stat := A.CN_STAT n
    let err := A.CN_ERR n
    let shown := A.CN_TXSTAT n :: A.CN_TXDONE_A n :: A.CN_TXDONE_B n :: A.CN_RXCMD n :: (upto 20).map (A.CN_RXW n)
    let others (d : Dev) := ∀ k, k ≠ n.val → d.can k = x.can k
    (∀ m : Fin 4, m.val ≠ x.canMode n → Does (.canMode n m) s fun d => d = { x with regs := d.regs } ∧ x.RegsKept d [ctl, stat] ∧
      d.canMode n = m ∧ (m.val = 0 → d.bit stat F.CN_STAT_INTEG = false ∧ d.bit stat F.CN_STAT_RECOV = false) ∧
      (x.canMode n = 0 → d.bit stat F.CN_STAT_INTEG = true) ∧ (x.canMode n ≠ 0 → m.val ≠ 0 → d.reg stat = x.reg stat)) ∧
    (x.halted = false → x.canMode n ≠ 0 → Does (.integrationDone n) s fun d => d = { x with regs := d.regs } ∧ x.RegsKept d [stat] ∧
      d.bit stat F.CN_STAT_INTEG = false) ∧
    (∀ tag : BitVec 16,
      let w0 := frameWord0 (x.reg (A.CN_TXW n 0))
      let full := 32 ≤ c.tx.length
      let bad := frameFdf w0 && frameRtr w0
      (bad = false → ¬full → Does (.canPush n tag) s fun d => d = { x with regs := d.regs, cans := d.cans } ∧ others d ∧ x.RegsKept d shown ∧
        d.get (A.CN_TXSTAT n) F.CN_TXSTAT_PRES = 1 ∧ d.get (A.CN_TXSTAT n) F.CN_TXSTAT_LEVEL = c.tx.length + 1 ∧
        ∃ y : CanTx, d.can n = { c with tx := c.tx ++ [y] } ∧ y.epoch = x.epochNow ∧ y.words.getD 0 0 = w0 ∧
          frameTag y.words = tag.toNat ∧ ∀ k, k < 16 → y.words.getD (4 + k) 0 = x.reg (A.CN_TXW n (4 + k))) ∧
      (bad = true ∨ full → Does (.canPush n tag) s fun d => d = { x with regs := d.regs } ∧ x.RegsKept d [A.CN_TXSTAT n] ∧
        d.get (A.CN_TXSTAT n) F.CN_TXSTAT_PRES = if bad then 3 else 2)) ∧
    (∀ (tag : BitVec 16) (bus : Fin 3) (sof : Word),
      let place := c.tx.findIdx? (fun y => frameTag y.words == tag.toNat)
      (place = none → Does (.canCancel n tag bus sof) s fun d => d = { x with regs := d.regs } ∧ x.RegsKept d [A.CN_TXSTAT n] ∧
        d.get (A.CN_TXSTAT n) F.CN_TXSTAT_CRES = 3) ∧
      (∀ i, place = some i → i ≠ 0 ∨ bus.val ≠ 2 → c.done.length < 32 → Does (.canCancel n tag bus sof) s fun d =>
        d = { x with regs := d.regs, cans := d.cans, duoSet := d.duoSet } ∧ others d ∧ x.RegsKept d shown ∧
        d.get (A.CN_TXSTAT n) F.CN_TXSTAT_CRES = 1 ∧ (d.can n).tx = c.tx.eraseIdx i ∧
        (d.can n).done = c.done ++ [(BitVec.ofNat 32 (tag.toNat * 65536 + 2), if i = 0 ∧ bus.val = 1 then sof else 0)]) ∧
      (place = some 0 → bus.val = 2 → x.canContends n = true → Does (.canCancel n tag bus sof) s fun d =>
        d = { x with regs := d.regs, cans := d.cans } ∧ others d ∧ x.RegsKept d [A.CN_TXSTAT n] ∧
        d.get (A.CN_TXSTAT n) F.CN_TXSTAT_CRES = 2 ∧ d.can n = { c with last := true })) ∧
    (Does (.dpop n) s fun d => d = { x with regs := d.regs, cans := d.cans } ∧ others d ∧ x.RegsKept d shown ∧
      d.can n = { c with done := c.done.drop 1 }) ∧
    (Does (.canPop n) s fun d => d = { x with regs := d.regs, cans := d.cans } ∧ others d ∧ x.RegsKept d shown ∧
      (d.can n).rx = c.rx.drop 1 ∧ (d.can n).tx = c.tx ∧ (d.can n).done = c.done) ∧
    (x.canBusOff n = true → x.canMode n ≠ 0 → Does (.recover n) s fun d => d = { x with regs := d.regs } ∧ x.RegsKept d [stat] ∧
      d.bit stat F.CN_STAT_RECOV = true) ∧
    (x.halted = false → x.bit stat F.CN_STAT_RECOV = true → Does (.recoveryDone n) s fun d => d = { x with regs := d.regs } ∧
      x.RegsKept d [stat, err] ∧ d.get stat F.CN_STAT_STATE = 0 ∧ d.bit stat F.CN_STAT_BOFF = false ∧
      d.bit stat F.CN_STAT_RECOV = false ∧ d.canTec n = 0 ∧ d.canRec n = 0) ∧
    (∀ y rest sof, x.canContends n = true → c.tx = y :: rest → c.done.length < 32 → x.canMode n = 1 →
      x.bit ctl F.CN_CTL_SELFRX = false → Does (.canFrameSent n sof) s fun d =>
        d = { x with regs := d.regs, cans := d.cans, duoSet := d.duoSet, sent := d.sent, scribe := d.scribe, free := d.free } ∧
        others d ∧ x.RegsKept d (stat :: err :: shown) ∧ d.sent = x.sent ++ [⟨0, n, 0, y.words⟩] ∧ d.canTec n = x.canTec n - 1 ∧
        d.can n = { c with tx := rest, retries := 0, last := false, ackErrs := 0,
                           done := c.done ++ [(BitVec.ofNat 32 (frameTag y.words * 65536 + 1), sof)] } ∧
        d.bit stat F.CN_STAT_ALONE = false) ∧
    (∀ (lec : Fin 8) (sof : Word), x.canContends n = true →
      let errs (d : Dev) := d.get err F.CN_ERR_LEC = lec ∧ others d ∧
        (¬(x.get stat F.CN_STAT_STATE = 1 ∧ lec.val = lecAck) → d.canTec n = min (x.canTec n + 8) 256) ∧
        (x.get stat F.CN_STAT_STATE = 1 ∧ lec.val = lecAck → d.canTec n = x.canTec n)
      (c.last = false → x.get ctl F.CN_CTL_RETRY = 255 ∨ c.retries < x.get ctl F.CN_CTL_RETRY → Does (.txError n lec sof) s fun d =>
        errs d ∧ d = { x with regs := d.regs, cans := d.cans, scribe := d.scribe, free := d.free } ∧ x.RegsKept d [stat, err] ∧
        (d.can n).tx = c.tx ∧ (d.can n).retries = c.retries + 1) ∧
      (c.done.length < 32 → c.last = true ∨ (x.get ctl F.CN_CTL_RETRY ≠ 255 ∧ x.get ctl F.CN_CTL_RETRY ≤ c.retries) →
        Does (.txError n lec sof) s fun d => errs d ∧ x.RegsKept d (stat :: err :: shown) ∧ (d.can n).tx = c.tx.drop 1 ∧
          d = { x with regs := d.regs, cans := d.cans, duoSet := d.duoSet, scribe := d.scribe, free := d.free } ∧
          ∀ y, c.tx.head? = some y → (d.can n).done = c.done ++ [(BitVec.ofNat 32 (frameTag y.words * 65536 + 3), sof)])) ∧
    (∀ (lec : Fin 8) eight, x.canOnBus n = true → x.canMode n ≠ 3 → Does (.canReceiveError n lec eight) s fun d =>
      d = { x with regs := d.regs, scribe := d.scribe, free := d.free } ∧ x.RegsKept d [stat, err] ∧
      d.get err F.CN_ERR_LEC = lec ∧ d.canRec n = min (x.canRec n + if eight then 8 else 1) 255) ∧
    (∀ (w0 w1 : Word) (data : List Byte) (sof : Word), x.canOnBus n = true → x.canMode n ≠ 3 → x.standby = false → x.halted = false →
      let z := frameWord0 w0
      let len := if frameRtr z then 0 else dlcLen (frameFdf z) (bitsOf w1 3 0)
      let c' := Instr.canFrameReceived n w0 w1 data sof
      let heard (d : Dev) := d.bit stat F.CN_STAT_ALONE = false ∧ others d ∧ (x.canRec n ≤ 127 → d.canRec n = x.canRec n - 1) ∧
        (127 < x.canRec n → 119 ≤ d.canRec n ∧ d.canRec n ≤ 127)
      (x.canFilter n z = none → Does c' s fun d => heard d ∧ (d.can n).rx = c.rx ∧ x.RegsKept d [stat, err] ∧
        d = { x with regs := d.regs, cans := d.cans, scribe := d.scribe, free := d.free }) ∧
      (∀ f, x.canFilter n z = some f → x.get (A.CN_FLT_CFG n f) F.CN_FLT_CFG_ACT = 1 →
        Does c' s fun d => heard d ∧ d.bit (A.CN_FLT_CFG n f) F.CN_FLT_CFG_ABS = false ∧
          d = { x with regs := d.regs, cans := d.cans, duoSet := d.duoSet, scribe := d.scribe, free := d.free } ∧
          (c.rx.length < 64 → x.RegsKept d (stat :: err :: A.CN_FLT_CFG n f :: shown) ∧ ∃ e, (d.can n).rx = c.rx ++ [e] ∧
            e.getD 0 0 = z ∧ bitsOf (e.getD 1 0) 15 8 = f ∧ e.getD 2 0 = sof ∧ ∀ i, i < len → frameByte e i = data.getD i 0) ∧
          (64 ≤ c.rx.length → (d.can n).rx = c.rx ∧ x.RegsKept d [stat, err, A.CN_FLT_CFG n f, A.CN_LOST n] ∧
            d.get (A.CN_LOST n) F.CN_LOST_RX = min (x.get (A.CN_LOST n) F.CN_LOST_RX + 1) 65535)) ∧
      (∀ f, x.canFilter n z = some f → x.get (A.CN_FLT_CFG n f) F.CN_FLT_CFG_ACT = 2 → (∀ k, x.Unwatched (canRxHandle n k)) →
        Does c' s fun d => heard d ∧ (d.can n).rx = c.rx ∧ x.RegsKept d [stat, err, A.CN_FLT_CFG n f] ∧
          d = { x with regs := d.regs, cans := d.cans, points := d.points, wrote := d.wrote, duoSet := d.duoSet,
                       scribe := d.scribe, free := d.free } ∧
          ∀ k, k < 256 → let cfg := x.reg (A.CN_FLD_CFG n k)
            (fieldOf cfg 0 f = true → (canLay cfg).ofs + (canLay cfg).width ≤ len →
              d.point (canRxHandle n k) = ⟨(canLay cfg).value (fun i => data.getD i 0), true⟩) ∧
            (fieldOf cfg 0 f = false → d.point (canRxHandle n k) = x.point (canRxHandle n k)))) ∧
    (∀ f : Fin 32, let a := A.CN_FLT_CFG n f
      x.halted = false → x.standby = false → x.get a F.CN_FLT_CFG_EN = 1 → x.get a F.CN_FLT_CFG_ABS = 0 → x.get a F.CN_FLT_CFG_TMO ≠ 0 →
      tabGet 0 c.seen f + x.get a F.CN_FLT_CFG_TMO * 250000 ≤ x.ticks + 1 → (∀ k, x.Unwatched (canRxHandle n k)) →
      Does (.stationAbsent n f) s fun d => d.bit a F.CN_FLT_CFG_ABS = true ∧ x.RegsKept d [a] ∧
        (∃ o : Offer, o.src = 0x48 ∧ d.scribe = { x.scribe with offers := x.scribe.offers ++ [o] }) ∧
        d = { x with regs := d.regs, points := d.points, wrote := d.wrote, duoSet := d.duoSet, scribe := d.scribe, free := d.free } ∧
        ∀ k, k < 256 → fieldOf (x.reg (A.CN_FLD_CFG n k)) 0 f = true → (d.point (canRxHandle n k)).valid = false) ∧
    Does (.snap n) s fun d => d = { x with regs := d.regs } ∧ d.reg (A.CN_SNAP_CNT n) = x.sofCount ∧ d.pair (A.CN_SNAP_TS_LO n) = x.ts ∧
      x.RegsKept d [A.CN_SNAP_CNT n, A.CN_SNAP_TS_LO n, A.CN_SNAP_TS_HI n]

/-! ## Ethernet (chapter 17) -/

/-- R354: MODE is written while OFF. R355, R365: a frame that arrives on a plain port is learned, enters the queues of its egress
ports, and the first receive object that matches takes its fields; with none it goes to the cores; an overlong one is dropped.
R369: a duplicate does nothing, a new key enters the table; an entry is forgotten after DDTIME. R360: an offset sets its lock bit;
the steering domain steps on the first one and beyond 1 ms, else slews within the range of R32. R362, R363: a loss of the
steering master gives holdover or, in dual mode with LOCKB, domain B without a step; the estimate grows once a second; AUTOREV
returns. R367: an absent station is recorded and its fields are invalid. R368, R356, R358: supervision frames, gate entries and
Syncs. The free addend and the estimate after a step are the model's free values. -/
def Obligations.EthernetBlock : Prop :=
  ∀ s : State, s.dev.on = true →
    let x := s.dev
    let st := A.ETH_STAT
    let ports (d : Dev) (ks : List Nat) := ∀ k, k ∉ ks → d.ethPort k = x.ethPort k
    let est (d : Dev) (v : Int) := d.reg A.TIME_OFS_EST = wordOfInt v
    (∀ p m : Fin 8, let ctl := A.ETH_PORT_CTL p
      (m.val = x.portMode p ∨ (x.portMode p = 0 ∧ 5 < m.val) → Does (.portModeWrite p m) s fun d => d = x) ∧
      (m.val ≠ x.portMode p → x.portMode p ≠ 0 → Does (.portModeWrite p m) s fun d => d.bit st F.ETH_STAT_CFGERR = true ∧
        d = { x with regs := d.regs, hwSet := d.hwSet } ∧ x.RegsKept d [st]) ∧
      (x.portMode p = 0 → m.val ≤ 5 → Does (.portModeWrite p m) s fun d => d.portMode p = m ∧ d = { x with regs := d.regs } ∧
        x.RegsKept d [ctl])) ∧
    (x.halted = false →
      (∀ (p : Fin 8) (bs : List Byte),
        let long := (if x.pairMode p = 0 then 1518 else 1524) < bs.length
        let got := Instr.ethFrameReceived p bs none
        (x.portMode p = 0 → ∀ y, Does (.ethFrameReceived p bs y) s fun d => d = x) ∧
        (x.portMode p ≠ 0 → long → ∀ y, Does (.ethFrameReceived p bs y) s fun d =>
          d = { x with eth := { x.eth with overlong := tabPut 0 x.eth.overlong p (tabGet 0 x.eth.overlong p + 1) } }) ∧
        (x.portMode p ≠ 0 → ¬long → (∀ k, x.Unwatched (ethRxHandle k)) →
          let framed (d : Dev) := d = { x with eth := d.eth, regs := d.regs, points := d.points, wrote := d.wrote, sent := d.sent,
                                               duoSet := d.duoSet, scribe := d.scribe, free := d.free,
                                               duo := { x.duo with seen := d.duo.seen } } ∧
            x.RegsKept d (A.ETH_PAIR_STAT (p / 2) :: (upto 64).map A.ETH_RXO_CFG)
          Does got s framed ∧
          (∀ seq inner, x.unLan p bs = (some seq, inner) → ptpOfs inner = none →
            let t := (x.ethPair (p / 2)).table
            let known := t.any (fun e => e.1 == srcMac bs && e.2.1 == seq)
            (known = true → Does got s fun d => d = x) ∧
            (known = false → Does got s fun d => framed d ∧ (d.ethPair (p / 2)).table =
              (if 1024 ≤ t.length then t.drop 1 else t) ++ [(srcMac bs, seq, x.ticks)])) ∧
          (x.pairMode p = 0 →
            let u := untag bs (x.get (A.ETH_PORT_CTL p) F.ETH_PORT_CTL_PVID)
            let ofVlan (k : Nat) := k ∈ (x.learn (srcMac u.2.2) u.1 p).egressPorts p (dstMac u.2.2) u.1
            Does got s (fun d => (srcMac u.2.2, u.1, p.val, x.ticks) ∈ d.eth.macs ∧
              (ptpOfs u.2.2 = none → ∀ k, k < 8 → x.pairMode k = 0 →
                (ofVlan k → x.portMode k ≠ 0 → x.queueFull k u.2.1 = false → (d.ethPort k).queue = (x.ethPort k).queue ++
                  [⟨if Config.vlanTagged k u.1 then tagged u.2.2 u.1 u.2.1 else u.2.2, u.2.1, none, none⟩]) ∧
                (¬ofVlan k ∨ x.portMode k = 0 ∨ x.queueFull k u.2.1 = true → d.ethPort k = x.ethPort k))) ∧
            (x.standby = false →
              (∀ j, x.rxObject u.2.2 u.1 = some j → Does got s fun d => d.bit (A.ETH_RXO_CFG j) F.ETH_RXO_CFG_ABS = false ∧
                tabGet 0 d.eth.seen j = x.ticks + 1 ∧ d.sent = x.sent ∧ ∀ k, k < 4096 →
                  let cfg := x.reg (A.ETH_FLD_CFG k)
                  (ethFieldOf cfg 0 j = true → (ethLay cfg).ofs + (ethLay cfg).width ≤ u.2.2.length →
                    d.point (ethRxHandle k) = ⟨(ethLay cfg).value (fun i => u.2.2.getD i 0), true⟩) ∧
                  (ethFieldOf cfg 0 j = false → d.point (ethRxHandle k) = x.point (ethRxHandle k))) ∧
              (x.rxObject u.2.2 u.1 = none → x.roleStandby = false → Does got s fun d => d.points = x.points ∧ d.regs = x.regs ∧
                d.sent = x.sent ++ [⟨1, 8, 0, frameWords u.2.2⟩]))) ∧
          (∀ (b : Bool) (ofs : Int), x.bit (A.ETH_PORT_CTL p) F.ETH_PORT_CTL_PTPEN = true →
            b = false ∨ x.bit A.ETH_PTP_CFG F.ETH_PTP_CFG_DUAL = true →
            let steers := x.ptpSteers = true ∧ x.bit st F.ETH_STAT_ACTB = b
            let first := x.eth.ptp.first = true ∨ x.bit st F.ETH_STAT_HOLD = true
            let c := Instr.ethFrameReceived p bs (some (b, ofs))
            Does c s (fun d => d.bit st (if b then F.ETH_STAT_LOCKB else F.ETH_STAT_LOCKA) = decide (ofs.natAbs ≤ 1000) ∧
              (if b then d.eth.ptp.ofsB else d.eth.ptp.ofsA) = ofs ∧ (¬steers → d.time = x.time)) ∧
            (steers → x.residualLeft = 0 → Does c s fun d => d.get st F.ETH_STAT_HOLD = 0 ∧ d.get st F.ETH_STAT_HAGE = 0 ∧
              d.eth.ptp.first = false ∧
              (first ∨ 1000000 < ofs.natAbs → d.time = { x.time with steps := x.time.steps ++ [-ofs] }) ∧
              (¬first → ofs.natAbs ≤ 1000000 → est d ofs ∧ ∃ a : BitVec 36, d.time = { x.time with newAddend := some a } ∧
                3996 * 2 ^ 32 ≤ 1000 * a.toNat ∧ 1000 * a.toNat ≤ 4004 * 2 ^ 32))))) ∧
      (∀ b : Bool,
        let steers := x.ptpSteers = true ∧ x.bit st F.ETH_STAT_ACTB = b ∧ x.bit st F.ETH_STAT_HOLD = false
        let toB := b = false ∧ x.bit A.ETH_PTP_CFG F.ETH_PTP_CFG_DUAL = true ∧ x.bit st F.ETH_STAT_LOCKB = true
        Does (.masterLoss b) s fun d => d = { x with regs := d.regs, eth := { x.eth with ptp := d.eth.ptp }, time := d.time } ∧
          x.RegsKept d [st, A.TIME_OFS_EST, A.TIME_STAT] ∧ d.bit st (if b then F.ETH_STAT_LOCKB else F.ETH_STAT_LOCKA) = false ∧
          (¬steers → x.RegsKept d [st] ∧ d.time = x.time) ∧
          (steers → toB → d.bit st F.ETH_STAT_ACTB = true ∧ d.eth.ptp.residual = x.eth.ptp.ofsB ∧ d.eth.ptp.resTick = x.ticks ∧
            d.time = x.time ∧ est d (x.eth.ptp.ofsB.natAbs + 20)) ∧
          (steers → ¬toB → d.bit st F.ETH_STAT_HOLD = true ∧ d.get st F.ETH_STAT_HAGE = 0 ∧ d.eth.ptp.lossTick = x.ticks ∧
            d.time = { x.time with newAddend := some x.meanAddend, steps := [] } ∧ x.RegsKept d [st])) ∧
      (let age := x.get st F.ETH_STAT_HAGE
       let due := x.bit st F.ETH_STAT_HOLD = true ∧ x.eth.ptp.lossTick + (age + 1) * 250000000 ≤ x.ticks
       (due → Does .holdoverUpdate s fun d => d = { x with regs := d.regs } ∧ x.RegsKept d [st, A.TIME_OFS_EST, A.TIME_STAT] ∧
         (age < 65535 → d.get st F.ETH_STAT_HAGE = age + 1 ∧
           est d (20 + x.get A.ETH_PTP_HOLD F.ETH_PTP_HOLD_HDRIFT * (age + 1) : Nat))) ∧
       (¬due → Does .holdoverUpdate s fun d => d = x)) ∧
      (let t := x.eth.ptp.lockSince
       let due := x.bit A.ETH_PTP_CFG F.ETH_PTP_CFG_AUTOREV = true ∧ x.bit st F.ETH_STAT_ACTB = true ∧ t ≠ 0 ∧ t + 4000000000 ≤ x.ticks + 1
       (due → Does .autorevReturn s fun d => d = { x with regs := d.regs, eth := { x.eth with ptp := d.eth.ptp } } ∧
         x.RegsKept d [st, A.TIME_OFS_EST, A.TIME_STAT] ∧ d.bit st F.ETH_STAT_ACTB = false ∧ est d (x.eth.ptp.ofsA.natAbs + 20) ∧
         d.eth.ptp = { x.eth.ptp with residual := x.eth.ptp.ofsA, resTick := x.ticks }) ∧
       (¬due → Does .autorevReturn s fun d => d = x)) ∧
      (∀ j : Fin 64, let a := A.ETH_RXO_CFG j
        let tmo := x.get a F.ETH_RXO_CFG_TMO * 2500
        let due := x.standby = false ∧ x.get a F.ETH_RXO_CFG_EN = 1 ∧ tmo ≠ 0 ∧ x.get a F.ETH_RXO_CFG_ABS = 0 ∧
          tabGet 0 x.eth.seen j + tmo ≤ x.ticks + 1
        (due → (∀ k, x.Unwatched (ethRxHandle k)) → Does (.ethStationAbsent j) s fun d => d.bit a F.ETH_RXO_CFG_ABS = true ∧
          x.RegsKept d [a] ∧ (∃ o : Offer, o.src = 0x49 ∧ d.scribe = { x.scribe with offers := x.scribe.offers ++ [o] }) ∧
          d = { x with regs := d.regs, points := d.points, wrote := d.wrote, duoSet := d.duoSet, scribe := d.scribe, free := d.free } ∧
          ∀ k, k < 4096 → let f := A.ETH_FLD_CFG k
            (ethFieldOf (x.reg f) 0 j = true → d.point (ethRxHandle k) =
              ⟨if x.bit f F.ETH_FLD_CFG_SUBM then x.reg (A.ETH_FLD_SUB k) else (x.point (ethRxHandle k)).val, false⟩) ∧
            (ethFieldOf (x.reg f) 0 j = false → d.point (ethRxHandle k) = x.point (ethRxHandle k))) ∧
        (¬due → Does (.ethStationAbsent j) s fun d => d = x)) ∧
      (∀ q : Fin 4, let y := x.ethPair q
        let due := x.pairMode (2 * q) ≠ 0 ∧ (y.sup = 0 ∨ y.sup + 500000000 ≤ x.ticks + 1)
        let w := BitVec.ofNat 32 y.count
        (due → Does (.supervisionFrame q) s fun d => d = { x with eth := { x.eth with pairs := d.eth.pairs }, sent := d.sent } ∧
          d.ethPair q = { y with sup := x.ticks + 1, count := (y.count + 1) % 65536 } ∧ (∀ k, k ≠ q.val → d.ethPair k = x.ethPair k) ∧
          d.sent = x.sent ++ (if x.roleStandby then [] else [⟨1, 2 * q, 2, [w]⟩, ⟨1, 2 * q + 1, 2, [w]⟩])) ∧
        (¬due → Does (.supervisionFrame q) s fun d => d = x)) ∧
      (∀ (p : Fin 8), let y := x.ethPort p
        (∀ i, y.gateIdx = some i → y.gateEnd ≤ x.ticks → i + 1 < y.gates.length → Does (.gateEntryEnd p) s fun d =>
          d = { x with eth := { x.eth with ports := d.eth.ports } } ∧ ports d [p] ∧
          d.ethPort p = { y with gateIdx := some (i + 1), gateEnd := y.gateEnd + (y.gates.getD (i + 1) (0, 0)).2 }) ∧
        (y.gateIdx = none ∨ x.ticks < y.gateEnd → Does (.gateEntryEnd p) s fun d => d = x)) ∧
      (∀ p : Fin 8, let ctl := x.reg (A.ETH_PORT_CTL p)
        let role := x.get A.ETH_PTP_CFG F.ETH_PTP_CFG_ROLE
        let t := BitVec.ofInt 64 (x.egressInstant p)
        let ws : List Word := [t.setWidth 32, (t >>> 32).setWidth 32]
        let due := F.ETH_PORT_CTL_PTPEN.of ctl = 1 ∧ x.portMode p ≠ 0 ∧ (role = 1 ∨ role = 2)
        (due → Does (.ptpMasterSync p) s fun d => d = { x with sent := x.sent ++ (if x.roleStandby then []
          else if F.ETH_PORT_CTL_ONESTEP.of ctl = 1 then [⟨1, p, 3, ws⟩] else [⟨1, p, 4, []⟩, ⟨1, p, 5, ws⟩]) }) ∧
        (¬due → Does (.ptpMasterSync p) s fun d => d = x))) ∧
    (∀ q : Fin 4, let stat := A.ETH_PAIR_STAT q
      (∀ e rest, (x.ethPair q).table = e :: rest →
        let due := e.2.2 + x.get (A.ETH_PAIR_CTL q) F.ETH_PAIR_CTL_DDTIME * 250000 ≤ x.ticks
        (due → Does (.duplicateEntryForgotten q) s fun d => (d.ethPair q) = { x.ethPair q with table := rest } ∧
          d = { x with regs := d.regs, eth := { x.eth with pairs := d.eth.pairs } } ∧ x.RegsKept d [stat] ∧
          (∀ k, k ≠ q.val → d.ethPair k = x.ethPair k)) ∧
        (¬due → Does (.duplicateEntryForgotten q) s fun d => d = x)) ∧
      ((x.ethPair q).table = [] → Does (.duplicateEntryForgotten q) s fun d => d = x)) ∧
    (∀ e rest, x.eth.macs = e :: rest →
      (e.2.2.2 + 75000000000 ≤ x.ticks → Does .macEntryAgeing s fun d => d = { x with eth := { x.eth with macs := rest } }) ∧
      (x.ticks < e.2.2.2 + 75000000000 → Does .macEntryAgeing s fun d => d = x)) ∧
    (x.eth.macs = [] → Does .macEntryAgeing s fun d => d = x)

/-! ## Plajo Link (chapter 18) -/

/-- R374: a good cell is taken and acknowledges, a bad one gives NAK and the third failure takes the port DOWN; V1 ports count
only. R376: own frames, and keys taken before, do nothing; a new frame is noted, forwarded to the other segment ports with HOPS
raised (a SYNC's CORR by the delay and a residence of at most 240 ns), and taken where it is addressed: R378 an offset sets SLOCK
and steers, R384 a remote point takes its value, a remote write acts on the next tick, R381 presence, R387 a notice is posted with
its stamp and acknowledged, a known one acknowledged again. R378, R381, R387: root SYNC, link delays, presence frames, absent
devices, retries. The residence is the model's free value; the forms of presence and MBX frames are readings of log 48. -/
def Obligations.PlajoLink : Prop :=
  ∀ s : State, s.dev.on = true →
    let x := s.dev
    let stat := A.PLJ_PORT_STAT
    let segOut (k : Nat) := x.pljRole k = roleSegment ∧ x.pljState k = portUp
    let joins (d : Dev) (k : Nat) (f : PljFrame) := (d.pljPort k).queue = (x.pljPort k).queue ++ [f]
    (∀ (p : Fin 4) (errs : Nat) (lseq ack : BitVec 8) (nak : Bool),
      let find := lineFind lseq.toNat errs
      let y := x.pljPort p
      let e := A.PLJ_PORT_ERR p
      let next := lseq.toNat = (y.rxSeq + 1) % 256
      let c := Instr.cellReceived p errs lseq ack nak
      let others (d : Dev) := ∀ k, k ≠ p.val → d.pljPort k = x.pljPort k
      let counts (d : Dev) (f : Fld) (n : Nat) := d.get e f = min (x.get e f + n) (2 ^ (f.hi - f.lo + 1) - 1)
      (x.pljState p ≠ portUp → Does c s fun d => d = x) ∧
      (x.pljState p = portUp → x.pljV1 p = true → Does c s fun d => d = { x with regs := d.regs } ∧ x.RegsKept d [e] ∧
        counts d F.PLJ_PORT_ERR_CE (if find = .corrected then 1 else 0) ∧ counts d F.PLJ_PORT_ERR_UE (if find = .uncorrectable then 1 else 0)) ∧
      (x.pljState p = portUp → x.pljV1 p = false →
        (find ≠ .uncorrectable → next → Does c s fun d => others d ∧ d = { x with regs := d.regs, plj := { x.plj with ports := d.plj.ports } } ∧
          x.RegsKept d [e] ∧ counts d F.PLJ_PORT_ERR_CE (if find = .corrected then 1 else 0) ∧
          counts d F.PLJ_PORT_ERR_REPLAY (if nak then 1 else 0) ∧
          let left := ackCells ack.toNat y.unacked
          d.pljPort p = { y with rxSeq := lseq.toNat, dropping := false, fails := 0, unacked := left,
                                 resend := if nak then left.length else y.resend }) ∧
        (let bad := (find = .uncorrectable ∧ (y.dropping = false ∨ next)) ∨ (find ≠ .uncorrectable ∧ ¬next ∧ y.dropping = false)
         (bad → y.fails < 2 → Does c s fun d => others d ∧ d.pljPort p = { y with fails := y.fails + 1, dropping := true } ∧
           d = { x with plj := { x.plj with ports := d.plj.ports }, sent := x.sent ++ [⟨4, p, 0x100, [BitVec.ofNat 32 y.rxSeq]⟩] }) ∧
         (bad → 2 ≤ y.fails → Does c s fun d => others d ∧ d.pljPort p = PljPort.init ∧ d.pljState p = portTraining ∧
           x.RegsKept d [stat p] ∧ (∃ o : Offer, o.src = 0x4A ∧ d.scribe = { x.scribe with offers := x.scribe.offers ++ [o] }) ∧
           d = { x with regs := d.regs, plj := { x.plj with ports := d.plj.ports }, scribe := d.scribe, free := d.free }) ∧
         (¬bad → ¬(find ≠ .uncorrectable ∧ next) → Does c s fun d => d = x)))) ∧
    (∀ (p : Fin 4) (ver : Nat),
      (x.pljRole p = 0 ∨ x.pljState p = portUp → Does (.portTrained p ver) s fun d => d = x) ∧
      (x.pljRole p ≠ 0 → x.pljState p ≠ portUp → Does (.portTrained p ver) s fun d =>
        d = { x with regs := d.regs, plj := { x.plj with ports := d.plj.ports } } ∧ x.RegsKept d [stat p] ∧
        d.pljPort p = PljPort.init ∧ (∀ k, k ≠ p.val → d.pljPort k = x.pljPort k) ∧ d.pljV1 p = (ver == 1) ∧
        d.pljState p = if ver = 1 ∧ x.pljRole p = rolePair then portDown else portUp)) ∧
    (∀ (p : Fin 4) (n : Nat),
      (x.pljState p ≠ portUp → Does (.delayExchange p n) s fun d => d = x) ∧
      (x.pljState p = portUp → Does (.delayExchange p n) s fun d => let ds := (n :: (x.pljPort p).dlys).take 16
        d = { x with regs := d.regs, plj := { x.plj with ports := d.plj.ports } } ∧ x.RegsKept d [stat p] ∧
        d.pljPort p = { x.pljPort p with dlys := ds } ∧ (∀ k, k ≠ p.val → d.pljPort k = x.pljPort k) ∧
        ((∀ v ∈ ds, v < 65536) → d.get (stat p) F.PLJ_PORT_STAT_DLY = ds.foldl (· + ·) 0 / ds.length))) ∧
    (x.halted = false →
      (let due := x.isRoot = true ∧ (x.plj.syncSent = 0 ∨ x.plj.syncSent + 250000 ≤ x.ticks + 1)
       (due → Does .rootSync s fun d => d.bit A.PLJ_STAT F.PLJ_STAT_SLOCK = true ∧ x.RegsKept d [A.PLJ_STAT] ∧
         d = { x with regs := d.regs, plj := { x.plj with syncSent := x.ticks + 1 },
                      sent := x.sent ++ if x.roleStandby then [] else [⟨2, 32, ftSync, [0, x.ts.setWidth 32, (x.ts >>> 32).setWidth 32]⟩] }) ∧
       (¬due → Does .rootSync s fun d => d = x)) ∧
      (let due := x.plj.presSent = 0 ∨ x.plj.presSent + 250000 ≤ x.ticks + 1
       let f (dev n : Nat) : PljFrame := ⟨ftCfg, [headWord0 x.mySeg 0 true x.mySeg dev 0, BitVec.ofNat 32 (n + cfgPresence * 65536), 0, 0],
         [BitVec.ofNat 32 (x.get A.PLJ_CFG F.PLJ_CFG_BUDGET)]⟩
       let fs := if x.primary then [f x.myDev x.plj.fseq, f (x.get A.DUO_CFG F.DUO_CFG_PDEV) ((x.plj.fseq + 1) % 65536)]
         else [f x.myDev x.plj.fseq]
       (due → Does .presenceFrame s fun d => d = { x with plj := { x.plj with ports := d.plj.ports, presSent := x.ticks + 1, fseq := d.plj.fseq } } ∧
         ∀ k, k < 4 → (segOut k → (d.pljPort k).queue = (x.pljPort k).queue ++ fs) ∧ (¬segOut k → d.pljPort k = x.pljPort k)) ∧
       (¬due → Does .presenceFrame s fun d => d = x)) ∧
      (∀ dev : Fin 32, let due := (x.reg A.PLJ_PRESENT).getLsbD dev = true ∧ x.presPorts dev = []
        (due → (∀ e, x.Unwatched (remHandle e)) → Does (.deviceAbsent dev) s fun d => (d.reg A.PLJ_PRESENT).getLsbD dev = false ∧
          (∀ k, k < 32 → k ≠ dev.val → (d.reg A.PLJ_PRESENT).getLsbD k = (x.reg A.PLJ_PRESENT).getLsbD k) ∧
          x.RegsKept d [A.PLJ_PRESENT, A.PLJ_STAT] ∧
          (∃ o : Offer, o.src = 0x4A ∧ d.scribe = { x.scribe with offers := x.scribe.offers ++ [o] }) ∧
          d = { x with regs := d.regs, via := d.via, points := d.points, wrote := d.wrote, duoSet := d.duoSet,
                       scribe := d.scribe, free := d.free } ∧
          (x.standby = false → ∀ e, e < 4096 → (e ∈ x.readEntries dev → d.point (remHandle e) = ⟨(x.point (remHandle e)).val, false⟩) ∧
            (e ∉ x.readEntries dev → d.point (remHandle e) = x.point (remHandle e)))) ∧
        (¬due → Does (.deviceAbsent dev) s fun d => d = x)) ∧
      (∀ m : Fin 64,
        let tx := tabGet (0, 0) x.plj.mbxTx m
        let due := x.routed m = true ∧ tx.1 ≠ 0 ∧ tx.1 + 2500 ≤ x.ticks + 1 ∧ x.present (x.routeDev m) = true
        let rch := F.PLJ_MBX_ROUTE_RCH.of (x.reg (A.PLJ_MBX_ROUTE (m - 48)))
        (¬due ∨ (x.mend m 1).queue = [] → Does (.mbxRetry m) s fun d => d = x) ∧
        (∀ y rest, due → (x.mend m 1).queue = y :: rest → Does (.mbxRetry m) s fun d =>
          d = { x with plj := { x.plj with ports := d.plj.ports, mbxTx := d.plj.mbxTx } } ∧
          tabGet (0, 0) d.plj.mbxTx m = (x.ticks + 1, tx.2) ∧ (x.roleStandby = false → ∀ k, k < 4 → (segOut k → joins d k
            ⟨ftMbx, [headWord0 x.mySeg (x.routeDev m) false x.mySeg x.srcDev 0, BitVec.ofNat 32 (tx.2 + rch * 65536), 0, 0],
             [y.tag, y.stamp, y.handle.setWidth 32, (y.handle >>> 32).setWidth 32] ++ x.noticeWords m y⟩) ∧
            (¬segOut k → d.pljPort k = x.pljPort k)))) ∧
      (∀ (p : Fin 4) (t : Fin 8) (h0 h1 h2 h3 : Word) (body : List Word),
        let f : PljFrame := ⟨t, [h0, h1, h2, h3], body⟩
        let c := Instr.pljFrameReceived p t h0 h1 h2 h3 body
        let own := f.sseg = x.mySeg ∧ (f.sdev = x.myDev ∨ (t.val ≠ ftCfg ∧ x.addressed f.sdev = true))
        let here := f.bcast = false ∧ f.dseg = x.mySeg ∧ x.addressed f.ddev = true
        let gate := t.val = ftGlu ∧ f.dseg ≠ x.mySeg ∧ x.isRoot = true
        let mine := f.bcast = true ∨ (f.dseg = x.mySeg ∧ x.addressed f.ddev = true)
        (x.pljState p ≠ portUp → Does c s fun d => d = x) ∧
        (x.pljState p = portUp → x.pljRole p = roleSegment →
          (own ∨ (31 ≤ f.hops ∧ ¬here ∧ ¬gate) → Does c s fun d => d = x) ∧
          (¬own → here ∨ gate ∨ f.hops < 31 →
            (x.pljKnown f = true → ¬(t.val = ftMbx ∧ mine) → ¬(t.val = ftCfg ∧ f.half = cfgPresence) → Does c s fun d => d = x) ∧
            (x.pljKnown f = false → ¬(t.val = ftMbx ∧ mine) →
              let noted (d : Dev) := let key := f.sseg * 32 + f.sdev
                tabGet [] d.plj.keys key = (f.fseq :: tabGet [] x.plj.keys key).take 64 ∧
                (∀ k, k ≠ key → tabGet [] d.plj.keys k = tabGet [] x.plj.keys k)
              let dly := x.get (stat p) F.PLJ_PORT_STAT_DLY / 5
              let passed (d : Dev) := (here ∨ gate → d.plj.ports = x.plj.ports) ∧ (¬here → ¬gate → ∃ n, dly ≤ n ∧ n ≤ dly + 480 ∧
                ∀ k, k < 4 → (k ≠ p.val → segOut k → (x.pljV1 k = false ∨ v1Frame t = true) → joins d k { f with head :=
                    [putBits h0 23 19 (f.hops + 1), if t.val = ftSync then putBits h1 31 16 (f.half + n) else h1, h2, h3] }) ∧
                  (k = p.val ∨ ¬segOut k ∨ (x.pljV1 k = true ∧ v1Frame t = false) → d.pljPort k = x.pljPort k))
              ((∀ h, x.Unwatched h) → Does c s fun d => noted d ∧ passed d) ∧
              (gate → x.roleStandby = false → Does c s fun d => d = { x with plj := d.plj, sent := x.sent ++
                [⟨1, x.get A.PLJ_CFG F.PLJ_CFG_GWPORT, 0x88B5, [0x59430002, BitVec.ofNat 32 f.ddev] ++ body⟩] }) ∧
              (t.val = ftSync → mine → x.isRoot = false →
                let own10 : Int := (x.ts.toNat * 10 + x.time.frac.toNat * 10 / 2 ^ 32 : Nat)
                let ofs10 : Int := own10 - (f.stamp.toNat * 10 + f.half * 5 + x.get (stat p) F.PLJ_PORT_STAT_DLY : Nat)
                let ofs := ofs10.tdiv 10
                Does c s fun d => d = { x with plj := d.plj, regs := d.regs, eth := { x.eth with ptp := d.eth.ptp }, time := d.time, free := d.free } ∧
                  x.RegsKept d [A.PLJ_STAT, A.TIME_OFS_EST, A.TIME_STAT] ∧ d.bit A.PLJ_STAT F.PLJ_STAT_SLOCK = decide (ofs10.natAbs ≤ 20) ∧
                  (x.get A.TIME_CTL F.TIME_CTL_SRC ≠ 3 → d.time = x.time) ∧ (x.get A.TIME_CTL F.TIME_CTL_SRC = 3 →
                    (Config.pljSteps ofs = true → d.time = { x.time with steps := x.time.steps ++ [-ofs] } ∧ d.reg A.TIME_OFS_EST = 0) ∧
                    (Config.pljSteps ofs = false → d.reg A.TIME_OFS_EST = wordOfInt ofs ∧ ∃ a, d.time = { x.time with newAddend := some a }))) ∧
              (t.val = ftRep → mine → let h := body.getD 0 0
                let ok := (body.getD 2 0).getLsbD 0
                (f.half = 3 → x.standby = false → Does c s fun d =>
                  d = { x with plj := d.plj, later := x.later ++ [.remote h (body.getD 1 0) ok] }) ∧
                (f.half = 2 → x.standby = false → (∀ e, x.Unwatched (remHandle e)) → Does c s fun d =>
                  d = { x with plj := d.plj, points := d.points, wrote := d.wrote, duoSet := d.duoSet } ∧
                  ∀ e ∈ x.readEntries f.sdev, x.reg (A.PLJ_SEGT_RHND e) = h → d.point (remHandle e) = ⟨body.getD 1 0, ok⟩)) ∧
              (t.val = ftCfg → mine → f.half = cfgSubscribe → Does c s fun d => d = { x with plj := d.plj } ∧
                (body.getD 0 0, f.sdev) ∈ d.plj.subs) ∧
              (t.val = ftCfg → mine → f.half = cfgUnsubscribe → Does c s fun d => d = { x with plj := d.plj } ∧
                (body.getD 0 0, f.sdev) ∉ d.plj.subs)) ∧
            (t.val = ftCfg → mine → f.half = cfgPresence → Does c s fun d => (d.reg A.PLJ_PRESENT).getLsbD f.sdev = true ∧
              tabGet 0 d.plj.seen (4 * f.sdev + p) = x.ticks + 1 ∧ x.RegsKept d [A.PLJ_PRESENT, A.PLJ_STAT] ∧
              d = { x with plj := d.plj, regs := d.regs, via := d.via, sent := d.sent, scribe := d.scribe, free := d.free }) ∧
            (t.val = ftMbx → mine → x.standby = false → f.half / 0x8000 = 0 →
              let m := f.half % 64
              let ident := 0x80 + f.sdev
              let sec := (body.getD 1 0).getLsbD 16
              let stamp := stampWord ident (bitsOf (body.getD 1 0) 15 8) sec
              let ack : List Sent := if x.roleStandby then [] else [⟨2, f.sdev, ftMbx, [BitVec.ofNat 32 (0x8000 + m), BitVec.ofNat 32 f.fseq]⟩]
              (x.pljKnown f = true → Does c s fun d => d = { x with sent := x.sent ++ ack }) ∧
              (x.pljKnown f = false → x.postCheck m ident sec false ≠ .posted → Does c s fun d => d = x) ∧
              (∀ e, x.pljKnown f = false → x.postCheck m ident sec false = .posted → x.endOf m ident = some e → x.journaled m e = false →
                body.length ≤ 4 → Does c s fun d => (∃ b, d.sent = x.sent ++ b ++ ack) ∧
                  (d.mend m (1 - e)).queue = (x.mend m (1 - e)).queue ++ [⟨body.getD 3 0 ++ body.getD 2 0, body.getD 0 0, stamp, x.ticks⟩])) ∧
            (∀ i, t.val = ftMbx → mine → x.standby = false → f.half / 0x8000 = 1 → i < 16 →
              let onRoute (j : Nat) := let r := x.reg (A.PLJ_MBX_ROUTE j)
                F.PLJ_MBX_ROUTE_EN.of r = 1 ∧ F.PLJ_MBX_ROUTE_RCH.of r = f.half % 64 ∧ x.routeDev (48 + j) = f.sdev
              onRoute i → ∀ y rest, (x.mend (48 + i) 1).queue = y :: rest →
                tabGet (0, 0) x.plj.mbxTx (48 + i) = ((tabGet (0, 0) x.plj.mbxTx (48 + i)).1, (body.getD 0 0).toNat) →
                (tabGet (0, 0) x.plj.mbxTx (48 + i)).1 ≠ 0 → Does c s fun d => d = { x with plj := d.plj, mbx := d.mbx, later := d.later } ∧
                  (d.mend (48 + i) 1).queue = rest ∧ (tabGet (0, 0) d.plj.mbxTx (48 + i)).1 = 0))) ∧
        (x.pljState p = portUp → x.pljRole p = rolePair →
          (t.val = ftRep → f.half = 1 → x.syncedAs 2 = false → Does c s fun d => d = x) ∧
          (¬(t.val = ftRep ∧ f.half = 1) → Does c s fun d => d = x))))

/-! ## Dovetail pairs (chapter 19) -/

/-- R392: a member that finds a primary stands by, alone for 2 s it is primary. R393, R401, R402, R409: an epoch boundary enters
SYNCED, ends a primary's epoch, judges a digest, hands the role over, or ends a takeover. R394, R395: the entries of an epoch leave
in a frame; an arriving frame waits for its replay; an entry is applied LAG later, and one whose mirror is behind takes the
member OUT. R396: confirmations and CWAIT release. R403: a mirror record is applied and acknowledged. R402: a transfer copies the
primary's banks, points and units. R405, R407: heartbeats, their loss, the takeover within 170 µs (its time is the model's free
value). SWITCH, LEAVE, RESYNC and DRY. The decision against a partner that stands by is the reading of log 49. -/
def Obligations.DovetailPair : Prop :=
  ∀ s : State, s.dev.on = true → s.dev.halted = false →
    let x := s.dev
    let st := A.DUO_STAT
    let u := x.duo
    let is (c : Instr) (P : Dev → Prop) := Does c s P
    let idle (c : Instr) := is c fun d => d = x
    let out (d : Dev) (cause : Nat) := d.duoSync = dsOut ∧ d.get st F.DUO_STAT_CAUSE = cause ∧ d.duoSet = [] ∧ d.duoOuts = [] ∧ d.duo.inbox = []
    let recorded (d : Dev) := ∃ o : Offer, o.src = 0x4B ∧ d.scribe = { x.scribe with offers := x.scribe.offers ++ [o] }
    let k := epochAt x.ts
    (let stands (d : Dev) := d.duoRole = drStandby ∧ d.duoSync = dsOut ∧ d.duo = { u with deciding := none, inbox := [], request := true } ∧
       d = { x with regs := d.regs, duo := d.duo, scribe := d.scribe, free := d.free } ∧ x.RegsKept d [st] ∧ recorded d
     let leads (d : Dev) := d.duoRole = drPrimary ∧ d.duoSync = dsOut ∧ d.duo.deciding = none ∧ d.duo.inbox = [] ∧
       (u.resume = false ∨ u.stored ≠ drStandby → recorded d ∧ x.RegsKept d [st] ∧
         d = { x with regs := d.regs, duo := { u with deciding := none, inbox := [], cover := 0 }, scribe := d.scribe, free := d.free })
     let c := Instr.roleDecision
     (x.duoOn = false ∨ u.deciding = none → idle c) ∧
     (∀ t, x.duoOn = true → u.deciding = some t →
       (u.partner = none → (t + 500000000 ≤ x.ticks → is c leads) ∧ (x.ticks < t + 500000000 → idle c)) ∧
       (∀ h, u.partner = some h → (h.role.val = drPrimary → is c stands) ∧
         (h.role.val = drNone → (x.winsStart h = true → is c leads) ∧ (x.winsStart h = false → is c stands))))) ∧
    (let c := Instr.epochStart
     (x.duoOn = false ∨ k = u.cur → idle c) ∧
     (x.duoOn = true → k ≠ u.cur →
       is c (fun d => d.duo.cur = k) ∧
       (x.duoSync ≠ dsSynced → u.takeover = none →
         (u.syncNext = false → is c fun d => d = { x with duo := { u with cur := k } }) ∧
         (u.syncNext = true → is c fun d => d.duoSync = dsSynced ∧ d.duoSet = [] ∧ d.duoOuts = [] ∧ d.duoRel = BitVec.ofNat 32 (k - 1) ∧
           d.duo.confirmed = k - 1 ∧ d.duo.txEpoch = k ∧ d.duo.inbox = [] ∧ x.RegsKept d [st] ∧ d.duoRole = x.duoRole ∧
           d = { x with regs := d.regs, duoSet := d.duoSet, duoOuts := d.duoOuts, duoRel := d.duoRel, duo := d.duo })) ∧
       (x.syncedAs 1 = true → u.syncNext = false → u.takeover = none →
         (u.switch = false → is c fun d => d.reg A.DUO_EPOCH = BitVec.ofNat 32 u.cur ∧ x.RegsKept d [A.DUO_EPOCH] ∧
           d.duo.ends = u.ends ++ [(u.cur, x.ticks)] ∧ d.duo.digests = ((u.cur, x.digestOf u.cur) :: u.digests).take 4 ∧
           d = { x with regs := d.regs, duoOuts := x.duoOuts.filter (fun y => decide (u.cur < epochAt y.ts)), duo := d.duo }) ∧
         (u.switch = true → is c fun d => out d dcHandover ∧ d.duoRole = drStandby ∧ d.duo.request = true ∧ d.acks = [] ∧
           d.mem = x.mem ∧ d.points = x.points ∧ x.RegsKept d [st, A.DUO_EPOCH])) ∧
       (∀ e dg, x.syncedAs 2 = true → u.syncNext = false → u.takeover = none → u.handover = none → u.digestIn = [(e, dg)] →
         (e + 1) * 10000 + x.lagNs ≤ x.ts.toNat → (∀ y ∈ u.inbox, e < epochAt y.ts) →
         (x.digestOf e = dg → is c fun d => d.reg A.DUO_EPOCH = BitVec.ofNat 32 e ∧ x.RegsKept d [A.DUO_EPOCH] ∧ d.duo.digestIn = []) ∧
         (x.digestOf e ≠ dg → is c fun d => out d dcDiverge ∧ d.duo.request = true ∧ recorded d ∧ x.RegsKept d [st, A.DUO_EPOCH, A.DUO_ERRCNT] ∧
           d.get A.DUO_ERRCNT F.DUO_ERRCNT_DIV = min (x.get A.DUO_ERRCNT F.DUO_ERRCNT_DIV + 1) 255)) ∧
       (∀ j, x.syncedAs 2 = true → u.syncNext = false → u.digestIn = [] → u.handover = some j → u.inbox = [] →
         (j + 1) * 10000 + x.lagNs ≤ x.ts.toNat → is c fun d => out d dcHandover ∧ d.duoRole = drPrimary ∧ d.duo.takeover = none ∧
           d.get A.DUO_GAP F.DUO_GAP_TKO = 0 ∧ d.reg A.REC_SEQ = x.reg A.REC_SEQ + 65536) ∧
       (∀ t, x.duoSync ≠ dsSynced → u.syncNext = false → u.takeover = some t →
         (t ≤ x.ticks → is c fun d => d = { x with regs := d.regs, duo := { u with cur := k, takeover := none } } ∧ x.RegsKept d [A.DUO_GAP] ∧
           d.get A.DUO_GAP F.DUO_GAP_GAP = min ((x.ts.toNat - u.cover) / 1000) 65535) ∧
         (x.ticks < t → is c fun d => d = { x with duo := { u with cur := k } })))) ∧
    (let n := u.txEpoch
     let cut := takeLines 64 (x.duoSet.filter fun y => epochAt y.ts == n)
     let full := (cut.1.map entryLines).foldl (· + ·) 0 = 64 ∨ cut.2 ≠ []
     let old := ∃ y ys, cut.1 = y :: ys ∧ y.ts.toNat + 2000 ≤ x.ts.toNat
     let sends (last : Bool) (d : Dev) := d.duoSet = x.duoSet.filter (fun y => !cut.1.contains y) ∧
       d.duo = { u with txEpoch := if last then n + 1 else n, txIdx := if last then 0 else u.txIdx + 1 } ∧
       d = { x with duoSet := d.duoSet, duo := d.duo, plj := d.plj } ∧
       ((pairPorts x).Nodup → ∃ f : PljFrame, f.typ = ftRep ∧ f.body.getD 0 0 = BitVec.ofNat 32 n ∧ (f.body.getD 3 0).getLsbD 24 = last ∧
         f.body.drop 8 = cut.1.flatMap (entryWords (n * 10000)) ∧ ∀ p ∈ pairPorts x, x.pljState p = portUp → x.pljV1 p = false →
           (d.pljPort p).queue = (x.pljPort p).queue ++ [f])
     (x.syncedAs 1 = false → idle .inputSetFrame) ∧
     (x.syncedAs 1 = true → (n < u.cur → is .inputSetFrame (sends cut.2.isEmpty)) ∧
       (u.cur ≤ n → full ∨ old → is .inputSetFrame (sends false)) ∧ (u.cur ≤ n → ¬(full ∨ old) → idle .inputSetFrame))) ∧
    (∀ (p : Fin 4) h0 h1 h2 h3 body, x.pljState p = portUp → x.pljRole p = rolePair → bitsOf h1 31 16 = 1 → x.syncedAs 2 = true →
      let c := Instr.pljFrameReceived p 3 h0 h1 h2 h3 body
      let start : Dbl := body.getD 2 0 ++ body.getD 1 0
      let key := (epochAt start, bitsOf (body.getD 3 0) 23 16)
      let xs := entriesOf start.toNat body.length (body.drop 8)
      let late := ∃ y ∈ xs, y.ts.toNat + x.lagNs < x.ts.toNat
      (key ∈ u.taken → idle c) ∧
      (key ∉ u.taken → late → is c fun d => out d dcLate ∧ recorded d ∧ x.RegsKept d [st, A.DUO_ERRCNT] ∧
        d.get A.DUO_ERRCNT F.DUO_ERRCNT_LATE = min (x.get A.DUO_ERRCNT F.DUO_ERRCNT_LATE + 1) 255) ∧
      (key ∉ u.taken → ¬late → is c fun d => key ∈ d.duo.taken ∧ d.duo.inbox = xs.foldl (fun l y => insEntry y l) u.inbox ∧
        x.RegsKept d [st] ∧ d.bit st F.DUO_STAT_DRY = false ∧
        d = { x with regs := d.regs, mem := d.mem, pool := d.pool, sent := d.sent, duo := d.duo })) ∧
    (let c := Instr.replayEntry
     (u.inbox = [] ∨ x.syncedAs 2 = false → idle c) ∧
     (∀ y rest, u.inbox = y :: rest → x.syncedAs 2 = true →
       (x.ts.toNat < y.ts.toNat + x.lagNs → idle c) ∧
       (y.ts.toNat + x.lagNs ≤ x.ts.toNat →
         (x.mirrorBehind y = true → is c fun d => out d dcLate ∧ recorded d ∧ x.RegsKept d [st, A.DUO_ERRCNT] ∧
           d.get A.DUO_ERRCNT F.DUO_ERRCNT_LATE = min (x.get A.DUO_ERRCNT F.DUO_ERRCNT_LATE + 1) 255) ∧
         (u.digestIn = [] →
           (y.kind = 1 → hclass y.id ≠ 0x10 → hclass y.id ≠ 0x18 → x.Unwatched y.id → is c fun d =>
             d.point y.id = ⟨y.value, y.data.getLsbD 31⟩ ∧ (∀ h, h ≠ y.id → d.point h = x.point h) ∧
             d = { x with points := d.points, wrote := d.wrote, duo := { u with inbox := rest, replay := false } }) ∧
           (y.kind = 9 → is c fun d => d = { x with duo := { u with inbox := rest, replay := false, prd := d.duo.prd } } ∧
             let e := y.id.toNat % 8
             tabGet [] d.duo.prd e = tabGet [] u.prd e ++ [(y.value, y.data.getLsbD 0)]) ∧
           (∀ e, y.kind = 4 → x.endOf (y.id.toNat % 64) (bitsOf y.data 7 0) = some e → x.journaled (y.id.toNat % 64) e = false →
             is c fun d => let m := y.id.toNat % 64
               (d.mend m (1 - e)).queue = (x.mend m (1 - e)).queue ++
                 [⟨y.extra.getD 1 0 ++ y.extra.getD 0 0, y.value, y.data, x.ticks⟩]))))) ∧
    (∀ n, let due := x.syncedAs 1 = true ∧ u.confirmed < n ∧ n < u.cur
      (due → is (.econfReceived n) fun d => d = { x with duoRel := d.duoRel, duo := { u with confirmed := n, ends := u.ends.filter (fun p => decide (n < p.1)) } } ∧
        d.duoRel = if 0 < (BitVec.ofNat 32 n - x.duoRel).toInt then BitVec.ofNat 32 n else x.duoRel) ∧
      (¬due → idle (.econfReceived n))) ∧
    (∀ n t rest, u.ends = (n, t) :: rest → let due := x.syncedAs 1 = true ∧ t + x.get A.DUO_CFG F.DUO_CFG_CWAIT * 250 ≤ x.ticks
      (due → is .cwaitExpiry fun d => d.duoRel = BitVec.ofNat 32 n ∧ d.duo = { u with ends := rest } ∧ recorded d ∧ d.acks = x.acks ∧
        d = { x with regs := d.regs, duoRel := d.duoRel, duo := d.duo, scribe := d.scribe, free := d.free } ∧ x.RegsKept d [A.DUO_ERRCNT] ∧
        d.get A.DUO_ERRCNT F.DUO_ERRCNT_CTO = min (x.get A.DUO_ERRCNT F.DUO_ERRCNT_CTO + 1) 65535) ∧
      (¬due → idle .cwaitExpiry)) ∧
    (u.ends = [] → idle .cwaitExpiry) ∧
    (∀ seq : Word,
      (x.duoRole = drPrimary → is (.mirFrame seq .ack) fun d => d.duo = { u with unacked := u.unacked.filter (fun y => y.1 != seq) } ∧
        d.reg A.DUO_MLAG = BitVec.ofNat 32 d.duo.unacked.length ∧ d = { x with regs := d.regs, duo := d.duo } ∧ x.RegsKept d [A.DUO_MLAG]) ∧
      (∀ m, (x.duoRole = drPrimary ∧ m ≠ .ack) ∨ (x.duoRole ≠ drPrimary ∧ (x.duoRole ≠ drStandby ∨ m = .ack)) → idle (.mirFrame seq m)) ∧
      (x.duoRole = drStandby → (∀ m, m ≠ .ack → is (.mirFrame seq m) fun d => d.duo.mseqIn = seq) ∧
        (u.endsIn = [] → let told : List Sent := x.sent ++ [⟨5, 0, 5, [seq]⟩]
          (∀ n ws, is (.mirFrame seq (.page n ws)) fun d => d = { x with store := d.store, sent := told, duo := { u with mseqIn := seq } } ∧
            ∀ i, tabGet memDefault d.store i = if n * 4096 ≤ i ∧ i < n * 4096 + 4 * ws.length then
              (ws.flatMap wordBytes).getD (i - n * 4096) 0 else tabGet memDefault x.store i) ∧
          (∀ a ws, ws.length % 4 = 0 → is (.mirFrame seq (.bank (16 * a) ws)) fun d =>
            d = { x with mem := d.mem, pool := d.pool, sent := told, duo := { u with mseqIn := seq } } ∧
            d.words (16 * a) ws.length = ws ∧ x.BytesKept d (16 * a) (4 * ws.length))))) ∧
    (x.duoOn = true → x.duoRole = drStandby → is .duoResync fun d => d = { x with duo := { u with request := true } }) ∧
    (x.duoOn = false ∨ x.duoRole ≠ drStandby → idle .duoResync) ∧
    (x.syncedAs 1 = true → is .duoSwitch fun d => d = { x with duo := { u with switch := true } }) ∧
    (x.syncedAs 1 = false → idle .duoSwitch) ∧
    (x.duoOn = true → is .duoLeave fun d => out d dcRequest ∧ d.duoRole = x.duoRole ∧ x.RegsKept d [st] ∧
      d = { x with regs := d.regs, duoSet := [], duoOuts := [], duo := d.duo }) ∧
    (x.duoOn = false → idle .duoLeave) ∧
    (let dry := x.syncedAs 2 = true ∧ u.inbox = [] ∧ u.cover + x.lagNs ≤ x.ts.toNat
     (dry → is .replayDry fun d => d.bit st F.DUO_STAT_DRY = true ∧ d = { x with regs := d.regs } ∧ x.RegsKept d [st]) ∧
     (¬dry → idle .replayDry)) ∧
    (∀ src : Dev,
      (x.duoSync ≠ dsTransfer → idle (.transferDone src)) ∧
      (x.duoSync = dsTransfer → is (.transferDone src) (fun d => d.duo = { u with syncNext := true } ∧ d.get st F.DUO_STAT_TPCT = 100 ∧
          d.duoRole = x.duoRole ∧ d.duoSync = dsTransfer ∧ d.saf = x.saf ∧ d.sec = x.sec ∧ d.time = x.time ∧ d.sent = x.sent) ∧
        (x.duoRole ≠ drStandby → is (.transferDone src) fun d => d = { x with regs := d.regs, duo := d.duo } ∧ x.RegsKept d [st]) ∧
        (x.duoRole = drStandby → Memory.wf src.mem = true → is (.transferDone src) fun d => d.points = src.points ∧ d.forces = src.forces ∧
          d.tasks = src.tasks ∧ d.engs = src.engs ∧ d.loops = src.loops ∧ d.mbx = src.mbx ∧ d.store = src.store ∧ d.ctxs = src.ctxs ∧
          ∀ a, d.byte a = if src.get (A.MEM_BANK_STAT (a / 0x80000)) F.MEM_BANK_STAT_OWNER ≠ 0 then src.byte a else x.byte a))) ∧
    (let due := x.duoOn = true ∧ (u.hbSent = 0 ∨ u.hbSent + 5000 ≤ x.ticks + 1)
     (due → is (.heartbeat none) fun d => d = { x with duo := { u with hbSent := x.ticks + 1 }, sent := x.sent ++ [⟨5, 0, 1, hbWords x.heartbeatOf⟩] ++
       (if x.bit A.DUO_CFG F.DUO_CFG_WITEN then [⟨1, x.get A.DUO_CFG F.DUO_CFG_WPORT, 0x88B5, [0x59430003]⟩] else []) }) ∧
     (¬due → idle (.heartbeat none))) ∧
    (∀ (p : Fin 3) (h : Hb), let c := Instr.heartbeat (some (p, h))
      let same := h.digest = x.imageDigest
      let asks := h.role.val = drStandby ∧ h.request = true ∧ same ∧ (x.duoSync = dsOut ∨ x.duoSync = dsSynced) ∧ u.syncNext = false
      (x.duoOn = false → idle c) ∧
      (x.duoOn = true →
        is c (fun d => tabGet 0 d.duo.seen p = x.ticks + 1 ∧ d.duo.partner = (if p.val = 2 then u.partner else some h) ∧
          d.duoRole = x.duoRole ∧ x.RegsKept d [st] ∧ (p.val = 0 → d.bit st F.DUO_STAT_LNKA = true) ∧ (p.val = 1 → d.bit st F.DUO_STAT_LNKB = true) ∧
          (p.val = 2 → d.bit st F.DUO_STAT_WIT = true ∧ d.duoSync = x.duoSync) ∧
          d = { x with regs := d.regs, duo := d.duo, duoSet := d.duoSet, duoOuts := d.duoOuts }) ∧
        (p.val ≠ 2 → x.duoRole = drPrimary →
          (asks → is c fun d => d.duoSync = dsTransfer ∧ d.get st F.DUO_STAT_TPCT = 0) ∧
          (¬asks → h.role.val = drStandby → h.sync.val = dsOut → x.duoSync = dsSynced → is c fun d => out d dcPartner)) ∧
        (p.val ≠ 2 → x.duoRole = drStandby → x.duoSync = dsOut →
          (¬same → is c fun d => d.duoSync = dsOut ∧ d.get st F.DUO_STAT_CAUSE = dcConfig) ∧
          (same → h.role.val = drPrimary → h.sync.val = dsTransfer → u.request = true → is c fun d =>
            d.duoSync = dsTransfer ∧ d.get st F.DUO_STAT_TPCT = 0)))) ∧
    (let c := Instr.partnerLost
     let links := x.pathHeard 0 = true ∨ x.pathHeard 1 = true
     let paired := x.duoOn = true ∧ (x.duoSync = dsSynced ∨ x.duoSync = dsTransfer)
     (¬paired ∨ links → idle c) ∧
     (paired → ¬links → x.pathHeard 2 = true → is c fun d => out d dcLinks ∧ d.duoRole = x.duoRole ∧ x.RegsKept d [st]) ∧
     (paired → ¬links → x.pathHeard 2 = false → x.syncedAs 2 = false → is c fun d => out d dcPartner ∧ d.duoRole = x.duoRole ∧ x.RegsKept d [st]) ∧
     (paired → ¬links → x.pathHeard 2 = false → x.syncedAs 2 = true → is c fun d => out d dcPartner ∧ d.duoRole = drPrimary ∧
       d.reg A.REC_SEQ = x.reg A.REC_SEQ + 65536 ∧ d.mem = x.mem ∧ d.points = x.points ∧
       ∃ tko, tko ≤ 170 ∧ d.get A.DUO_GAP F.DUO_GAP_TKO = tko ∧ d.duo.takeover = some (x.ticks + tko * 250)))

/-! ## Mailboxes and the host's commands (chapter 20) -/

/-- R417, R418: while EN is 0 a configuration with two different identities is taken, while EN is 1 only EN to 0 with no notice
held; another write sets CFGERR. R421, R422: a post that no check refuses enters the other end's queue with the stamp of its
sender's identity, epoch and security (work that is journaled is judged first, R413); 16 notices in the queue give FULL, a
failed check ERROR with its cause. R423: a take gives the oldest visible notice and frees the page of the one before, MBX_REL
frees it, MBX_ALLOC asks for a page. R424: an empty queue gives the DISCARDED notice once. R419: a host reset starts an epoch. -/
def Obligations.MailboxChannel : Prop :=
  ∀ (s : State) (m : Fin 64), s.dev.on = true →
    let x := s.dev
    let cfg := A.MBX_CH_CFG m
    let q (e : Nat) := x.mend m e
    let others (d : Dev) (es : List Nat) := ∀ k e, (k, e) ∉ es.map (fun e => (m.val, e)) → k < 64 → e < 2 → d.mend k e = x.mend k e
    (∀ v, x.bit cfg F.MBX_CH_CFG_EN = false → identOk (chEnds m v).1 = true → identOk (chEnds m v).2 = true →
      (chEnds m v).1 ≠ (chEnds m v).2 → Does (.chCfgWrite m v) s fun d => d = { x with regs := d.regs } ∧ x.RegsKept d [cfg] ∧
        d.bit cfg F.MBX_CH_CFG_EN = (F.MBX_CH_CFG_EN.of v == 1) ∧ d.get cfg F.MBX_CH_CFG_END0 = (chEnds m v).1 ∧
        d.get cfg F.MBX_CH_CFG_END1 = (chEnds m v).2 ∧ d.get cfg F.MBX_CH_CFG_VEC = F.MBX_CH_CFG_VEC.of v ∧
        d.get cfg F.MBX_CH_CFG_IRQEN = F.MBX_CH_CFG_IRQEN.of v) ∧
    (∀ v, x.bit cfg F.MBX_CH_CFG_EN = true → F.MBX_CH_CFG_EN.of v = 0 → (q 0).queue = [] → (q 1).queue = [] → (q 0).disc = 0 →
      (q 1).disc = 0 → Does (.chCfgWrite m v) s fun d => d = { x with regs := d.regs } ∧ x.RegsKept d [cfg] ∧
        d.bit cfg F.MBX_CH_CFG_EN = false) ∧
    (∀ v, x.bit cfg F.MBX_CH_CFG_EN = true → (F.MBX_CH_CFG_EN.of v = 1 ∨ (q 0).queue ≠ [] ∨ (q 1).queue ≠ []) →
      Does (.chCfgWrite m v) s fun d => d.bit (A.MBX_STAT m) F.MBX_STAT_CFGERR = true ∧ x.RegsKept d [A.MBX_STAT m] ∧
        d = { x with regs := d.regs, hwSet := d.hwSet }) ∧
    (∀ (acc : Acc) (tag : Word) (e : Nat), x.endOf m (identOf acc.req) = some e →
      let r := acc.req.val
      let ident := identOf r
      let h : Dbl := x.reg (reqKey r (A.MBX_POST_HI m)) ++ x.reg (reqKey r (A.MBX_POST_LO m))
      let n : Notice := ⟨h, tag, stampWord ident (x.epochOf ident) acc.pview, x.ticks⟩
      let dest := x.endIdent m (1 - e)
      (x.postCheck m ident acc.pview (decide (r ≤ 6)) = .posted → x.journaled m e = false →
        Does (.post acc m tag) s fun d => (d.mend m (1 - e)).queue = (q (1 - e)).queue ++ [n] ∧ (d.mend m e).pres = 1 ∧
          d.bus = ⟨.ok, 0⟩ ∧ d.mem = x.mem ∧ d.points = x.points ∧
          (dest = 0 ∨ 8 < dest → others d [0, 1] ∧
            d = { x with mbx := d.mbx, bus := d.bus, sent := d.sent, duoSet := d.duoSet, duoOuts := d.duoOuts })) ∧
      (∀ res, x.postCheck m ident acc.pview (decide (r ≤ 6)) = res → res ≠ .posted → Does (.post acc m tag) s fun d =>
        d = { x with mbx := d.mbx, bus := ⟨.ok, 0⟩ } ∧ others d [e] ∧ d.mend m e = { q e with pres := res.pres, ecause := res.cause }) ∧
      (16 ≤ (q (1 - e)).queue.length → x.postCheck m ident acc.pview (decide (r ≤ 6)) ≠ .posted)) ∧
    (∀ (req : Fin 15) (e : Nat), x.endOf m (identOf req) = some e →
      (∀ n rest, (q e).queue = n :: rest → n.tick < x.ticks → Does (.take req m) s fun d =>
        d = { x with mbx := d.mbx, later := d.later } ∧ others d [e] ∧ (d.mend m e).queue = rest ∧ (d.mend m e).held = n ∧
        (d.mend m e).tok = true ∧ ((q e).heldPage = false → d.later = x.later) ∧
        (∀ p, (q e).heldPage = true → x.noticePage m (q e).held.handle = some p → x.later.contains (.pageFree p) = false →
          d.later = x.later ++ [.pageFree p])) ∧
      ((q e).queue = [] → (q e).disc = 0 → Does (.take req m) s fun d => d = { x with mbx := d.mbx } ∧ others d [e] ∧
        d.mend m e = { q e with tok := false }) ∧
      ((q e).queue = [] → (q e).disc ≠ 0 → Does (.take req m) s fun d => d = { x with mbx := d.mbx, later := d.later } ∧ others d [e] ∧
        (d.mend m e).disc = 0 ∧ (d.mend m e).held = discNotice (q e).disc x.ticks ∧ (d.mend m e).tok = true) ∧
      (∀ p, (q e).heldPage = true → x.noticePage m (q e).held.handle = some p → x.later.contains (.pageFree p) = false →
        Does (.mbxRel req m) s fun d => d = { x with mbx := d.mbx, later := x.later ++ [.pageFree p] } ∧ others d [e] ∧
          d.mend m e = { q e with heldPage := false }) ∧
      Does (.mbxAlloc req m) s fun d => d = { x with mbx := d.mbx, pool := d.pool } ∧ others d [e] ∧
        d.mend m e = { q e with res := 0 } ∧ d.pool = { x.pool with pageReqs := x.pool.pageReqs ++ [⟨m, 0, e⟩] }) ∧
    (∀ req : Fin 15, x.endOf m (identOf req) = none → ∀ c ∈ [Instr.take req m, .mbxRel req m, .mbxAlloc req m], Does c s fun d => d = x) ∧
    Does .hostReset s fun d => d = { x with regs := d.regs } ∧ x.RegsKept d [A.MBX_EPOCH 0x3F] ∧
      d.epochOf 0x3F = (x.epochOf 0x3F + 1) % 256

/-- R431, R432, R413: the head command of a session whose sequence number is new is taken, executed once and answered with its
number; a gap is answered with the number expected. INFO answers identity, version, life cycle and digests; IMG_WRITE stages
bytes; IMG_COMMIT keeps a verified firmware image and clears a slot that fails; START and SCRIBE act as their commands. Only
response pages change memory. R429: an enabled port answers a read with its word, a write acts as a register write. The order
of the words in a body is the model's choice of log 50. -/
def Obligations.HostCommands : Prop :=
  ∀ s : State, s.dev.on = true →
    let x := s.dev
    (∀ (n : Fin 16) (cmd : Nat) (c : Instr) (y : Notice) (rest : List Notice) (ws : List Word),
      (cmd, c) ∈ [(1, Instr.info n), (2, .imgWrite n), (3, .imgCommit n), (4, .hostStart n), (5, .hostScribe n)] →
      let m := sessChan n
      let src := A.DUO_SRC (64 + n.val)
      let len := (ws.getD 2 0).toNat
      let b := ws.drop 4
      let arg (k : Nat) := (b.getD k 0).toNat
      let answered (d : Dev) := (d.mend m 1).queue = rest ∧ (∃ h, d.acks = x.acks ++ [⟨m, 0, y.tag, h, x.epochNow, x.ticks⟩] ∧
        (h = 0 ∧ d.mem = x.mem ∨ ∃ p, h = BitVec.ofNat 64 (0x1000000 + p * 4096) ∧ x.BytesKept d (p * 4096) 4096))
      let done (st : Nat) (body : List Word) (d : Dev) := answered d ∧ tabGet [] d.hostResp n = respWords st y.tag body ∧ d.reg src = y.tag
      let framed (d z : Dev) := d = { z with regs := d.regs, mbx := d.mbx, later := d.later, mem := d.mem, pool := d.pool, acks := d.acks,
                                             hostResp := d.hostResp, duoSet := d.duoSet }
      let kept (d : Dev) := x.RegsKept d [src, A.MEM_RM_SUB m]
      x.standby = false → x.halted = false → x.endIdent m 0 = 0x3F → x.endIdent m 1 = 0x38 → (x.mend m 1).queue = y :: rest →
      y.tick < x.ticks → x.payload y.handle 1024 = some ws → bitsOf (ws.getD 0 0) 7 0 = cmd →
      (judge y.tag (x.reg src) = .gap → Does c s fun d => answered d ∧ framed d x ∧ x.RegsKept d [A.MEM_RM_SUB m] ∧
        d.hostResp = x.hostResp) ∧
      (judge y.tag (x.reg src) = .new → ws.getD 1 0 = y.tag → ws.getD 3 0 = 0 → n.val < 8 → x.recovery = false →
        x.lifecycle ≠ lcRetired → len ≤ 4080 →
        (cmd = 1 → Does c s fun d => done csOk ([x.reg A.SYS_ID, BitVec.ofNat 32 (match x.sysfw with | some i => i.version | none => 0),
          BitVec.ofNat 32 x.lifecycle] ++ x.quoteDigests ++ idKeyWords) d ∧ framed d x ∧ kept d) ∧
        (cmd = 2 → 8 ≤ len → arg 0 < 4 → arg 1 + (len - 8) ≤ 2 ^ 26 → Does c s fun d => done csOk [] d ∧
          framed d { x with staging := d.staging } ∧ kept d ∧
          (∀ i, i < len - 8 → tabGet memDefault d.staging (arg 0 * 2 ^ 26 + arg 1 + i) = ((b.drop 2).flatMap wordBytes).getD i 0) ∧
          (∀ a, (a < arg 0 * 2 ^ 26 + arg 1 ∨ arg 0 * 2 ^ 26 + arg 1 + (len - 8) ≤ a) →
            tabGet memDefault d.staging a = tabGet memDefault x.staging a)) ∧
        (cmd = 3 → len = 16 → arg 0 < 4 →
          let rd := x.slotReader (arg 0)
          (∀ k, x.verifyImage rd = some k → Does c s fun d => done csVerify [] d ∧ kept d ∧
            d.staging = x.staging.filter (fun c => c.1 / 2 ^ 26 != arg 0) ∧
            framed d { x with staging := d.staging, scribe := d.scribe, free := d.free }) ∧
          (x.verifyImage rd = none → arg 2 = 1 → imgKind rd = 1 → arg 1 = 64 + padLen (imgLen rd) + 2820 →
            Does c s fun d => done csOk [] d ∧ d.sysfwNext = some (imgOf rd) ∧ framed d { x with sysfwNext := d.sysfwNext } ∧ kept d)) ∧
        (cmd = 4 → len = 8 → arg 0 < 16 → arg 1 < 65536 → x.ctxMode (arg 0) = cmIdle → (x.ctx (arg 0)).booting = false →
          x.resident (arg 0) = false → (x.ctx (arg 0)).asked = [] → Does c s fun d => done csOk [] d ∧
            (d.ctx (arg 0)).booting = true ∧ d.get (A.SEQ_CTX_CTL (arg 0)) F.SEQ_CTX_CTL_STEP = arg 1 ∧
            framed d { x with ctxs := d.ctxs } ∧ x.RegsKept d [src, A.MEM_RM_SUB m, A.SEQ_CTX_CTL (arg 0), A.SEQ_CTX_STAT (arg 0)]) ∧
        (cmd = 5 → len % 4 = 0 → 4 ≤ len → len ≤ 64 → 0xF000 ≤ arg 0 → arg 0 ≤ 0xFFFF → Does c s fun d => done csOk [] d ∧ kept d ∧
          d.scribe = { x.scribe with offers := x.scribe.offers ++
            [⟨0x3F, BitVec.ofNat 16 (arg 0), false, x.time.ts, (b.drop 1).take (len / 4 - 1)⟩] } ∧
          framed d { x with scribe := d.scribe }))) ∧
    (∀ (off : Word) (w : Word), F.SYS_HOST_CFG_SPIEN.of (x.reg A.SYS_HOST_CFG) = 1 →
      (F.SYS_HOST_CFG_SPIPEN.of (x.reg A.SYS_HOST_CFG) = 1 →
        (x.portOn 2 = true → off.toNat = A.SYS_ID → Does (.spiTransaction 3 off 1 []) s fun d =>
          d = { x with bus := d.bus, sent := x.sent ++ [⟨3, 0, 2, [0x5A, x.reg0 A.SYS_ID]⟩] }) ∧
        Does (.spiTransaction 2 off 0 [w]) s fun d =>
          let y := x.barWrite ⟨2, true⟩ off.toNat w
          d = { y with sent := y.sent ++ [⟨3, 0, 2, [if y.busOk then 0x5A else 0xE1]⟩] }) ∧
      (F.SYS_HOST_CFG_SPIPEN.of (x.reg A.SYS_HOST_CFG) = 0 → Does (.spiTransaction 2 off 0 [w]) s fun d =>
        d = { x with sent := x.sent ++ [⟨3, 0, 2, [0xE1]⟩] })) ∧
    (∀ op off reads words, F.SYS_HOST_CFG_SPIEN.of (x.reg A.SYS_HOST_CFG) = 0 → Does (.spiTransaction op off reads words) s fun d => d = x)

/-! ## Keys, attestation and the life cycle (chapter 21) -/

/-- R446: during a wipe a SEC access is a bus error with no effect. R439: an enrolment stores and fuses a key, bare in BLANK and
PROVISIONED, else by a KEYOP of another slot; a revocation marks its slot while another stands; the result is refused (2) or a
failed check (3) otherwise. R442: a quote is signed with a fresh index into an owned page, else the cause is told. R444: an
allowed transition with its condition begins a wipe, else the result tells which failed. R440: the build ends READY or FAILED,
and the rest of an index block is skipped. R445, R446: a trip raises its flag and wipes; at its end the store is empty, and a
transition that waited programs its fuses and resets the device. -/
def Obligations.SecurityBlock : Prop :=
  ∀ s : State,
    let x := s.dev
    let recorded (d : Dev) := ∃ o : Offer, o.src = 0x4C ∧ d.scribe = { x.scribe with offers := x.scribe.offers ++ [o] }
    (x.on = true → ∀ (req : Fin 15) (k : Fin 4) (page : BitVec 14) (t : Fin 8),
      x.sec.wipe.isSome = true → ∀ c ∈ [Instr.keyEnrol req k page, .keyRevoke req k page, .attest req page, .lcsTransition req t page],
        Does c s fun d => d = { x with bus := ⟨if req.val ≤ 1 then .completerAbort else .busError, 0⟩ }) ∧
    (x.on = true → x.sec.wipe = none → ∀ (req : Fin 15) (k : Fin 4) (page : BitVec 14),
      let lc := x.lifecycle
      let ctl := A.SEC_KEY_CTL
      let own := A.SEC_OWNKEY k
      let res (d : Dev) (r : Nat) := d.get ctl F.SEC_KEY_CTL_RES = r ∧ d.bus = ⟨.ok, 0⟩
      let refused (c : Instr) := Does c s fun d => res d 2 ∧ d = { x with regs := d.regs, bus := d.bus } ∧ x.RegsKept d [ctl]
      let failed (c : Instr) := Does c s fun d => res d 3 ∧ recorded d ∧
        d = { x with regs := d.regs, bus := d.bus, scribe := d.scribe, free := d.free } ∧ x.RegsKept d [ctl]
      let enrols (ws : List Word) := Does (.keyEnrol req k page) s fun d => res d 1 ∧ d.enrolled k = true ∧
        tabGet [] d.sec.keys k = ws ∧ tabGet 0 d.fuses.ownHash k = Config.shake256 (ws.flatMap wordBytes) ∧
        (∀ j, j ≠ k.val → tabGet [] d.sec.keys j = tabGet [] x.sec.keys j ∧ tabGet 0 d.fuses.ownHash j = tabGet 0 x.fuses.ownHash j) ∧
        d = { x with regs := d.regs, bus := d.bus, sec := { x.sec with keys := d.sec.keys }, fuses := { x.fuses with ownHash := d.fuses.ownHash } } ∧
        x.RegsKept d [ctl, own]
      let open_ := lc = lcBlank ∨ lc = lcProvisioned
      (lc = lcRetired ∨ x.enrolled k = true → refused (.keyEnrol req k page)) ∧
      (lc ≠ lcRetired → x.enrolled k = false →
        (open_ → (∀ a, pageAddr page.toNat = some a → (x.spanOk a 68 = true → enrols (x.words a 17)) ∧
            (x.spanOk a 68 = false → refused (.keyEnrol req k page))) ∧
          (pageAddr page.toNat = none → refused (.keyEnrol req k page))) ∧
        (¬open_ → (∀ ws, x.keyop page.toNat k 18 = some ws → enrols (ws.drop 1)) ∧
          (x.keyop page.toNat k 18 = none → failed (.keyEnrol req k page)))) ∧
      (let closed := lc = lcBlank ∨ lc = lcRetired ∨ x.liveWithout k = false
       (closed → refused (.keyRevoke req k page)) ∧
       (¬closed → (x.keyop page.toNat k 1 = none → failed (.keyRevoke req k page)) ∧
         (∀ ws, x.keyop page.toNat k 1 = some ws → Does (.keyRevoke req k page) s fun d => res d 1 ∧ d.revoked k = true ∧
           d = { x with regs := d.regs, bus := d.bus } ∧ x.RegsKept d [ctl, own])))) ∧
    (x.on = true → x.sec.wipe = none → ∀ (req : Fin 15) (page : BitVec 14),
      let stat := A.SEC_ATT_STAT
      let c := Instr.attest req page
      let fails (n : Nat) := Does c s fun d => d.get stat F.SEC_ATT_STAT_STATE = 3 ∧ d.get stat F.SEC_ATT_STAT_CAUSE = n ∧ d.bus = ⟨.ok, 0⟩ ∧
        d = { x with regs := d.regs, bus := d.bus } ∧ x.RegsKept d [stat, A.SEC_ATT_CTL]
      (pageAddr page.toNat = none → fails 1) ∧
      (∀ a, pageAddr page.toNat = some a →
        (x.ownsLive 0x3F (bankOfAddr a) = false → fails 1) ∧
        (x.ownsLive 0x3F (bankOfAddr a) = true →
          (x.idState = idBuilding → fails 2) ∧
          (x.idState ≠ idBuilding → x.idState ≠ idReady → fails 4) ∧
          (x.idState = idReady → (x.idSign).2 = none → fails 3) ∧
          (∀ i, x.idState = idReady → (x.idSign).2 = some i → Does c s fun d => d.get stat F.SEC_ATT_STAT_STATE = 2 ∧
            d.get stat F.SEC_ATT_STAT_CAUSE = 0 ∧ i = x.sec.next ∧ d.sec.next = i + 1 ∧ d.bus = ⟨.ok, 0⟩ ∧
            d.words a 100 = x.quote i ∧ d.words (a + 400) 705 = sigWords i (x.quote i) ∧ x.BytesKept d a 4096 ∧
            d = { x with regs := d.regs, bus := d.bus, mem := d.mem, pool := d.pool, sec := { x.sec with next := d.sec.next, limit := d.sec.limit } } ∧
            x.RegsKept d [stat, A.SEC_ATT_CTL, A.SEC_IDX_BLK, A.SEC_ID_STAT])))) ∧
    (x.on = true → x.sec.wipe = none → ∀ (req : Fin 15) (t : Fin 8) (page : BitVec 14),
      let c := Instr.lcsTransition req t page
      let regs (d : Dev) := x.RegsKept d [A.SEC_LCS_CTL, A.SEC_LCS_STAT] ∧ d.lifecycle = x.lifecycle ∧ d.bus = ⟨.ok, 0⟩
      let res (n : Nat) := Does c s fun d => regs d ∧ d.get A.SEC_LCS_STAT F.SEC_LCS_STAT_RES = n ∧ d = { x with regs := d.regs, bus := d.bus }
      let begins := Does c s fun d => regs d ∧
        d = { x with regs := d.regs, bus := d.bus, sec := { x.sec with target := some t, wipe := some (x.ticks + 1250) } }
      let first := x.lifecycle = lcBlank ∧ t.val = lcProvisioned
      (x.lcsAllowed t = false → res 3) ∧
      (x.lcsAllowed t = true →
        (first → ((upto 4).any x.enrolled = true → begins) ∧ ((upto 4).any x.enrolled = false → res 4)) ∧
        (¬first → (x.tokenOk t page.toNat = true → begins) ∧ (x.tokenOk t page.toNat = false → Does c s fun d => regs d ∧ recorded d ∧
          d.get A.SEC_LCS_STAT F.SEC_LCS_STAT_RES = 2 ∧
          d = { x with regs := d.regs, bus := d.bus, scribe := d.scribe, free := d.free })))) ∧
    (x.on = true →
      (∀ ok, x.idState = idBuilding → Does (.idBuildDone ok) s fun d => d.idState = (if ok then idReady else idFailed) ∧
        d = { x with regs := d.regs, sec := { x.sec with next := 64 * x.blocks, limit := 64 * x.blocks } } ∧ x.RegsKept d [A.SEC_ID_STAT]) ∧
      (∀ ok, x.idState ≠ idBuilding → Does (.idBuildDone ok) s fun d => d = x) ∧
      (x.sec.wipe = none → Does .storeWipeDone s fun d => d = x) ∧
      (∀ t, x.sec.wipe = some t →
        (x.ticks < t → Does .storeWipeDone s fun d => d = x) ∧
        (t ≤ x.ticks → Does .storeWipeDone s (fun d => d.sec.wipe = none ∧ d.sec.target = none ∧
            d.bit A.SEC_TAMP_STAT F.SEC_TAMP_STAT_WIPED = true ∧ d.saf = { x.saf with hash := none, salt := [], log := [] } ∧
            d.sec.next = 64 * x.blocks ∧ d.reg A.SEC_ATT_STAT = 0) ∧
          (x.sec.target = none → Does .storeWipeDone s fun d => recorded d ∧ d.idState = (if x.fuses.idRoot then idBuilding else idNone) ∧
            d = { x with regs := d.regs, hwSet := d.hwSet, sec := d.sec, saf := d.saf, scribe := d.scribe, free := d.free } ∧
            x.RegsKept d [A.SEC_TAMP_STAT, A.SEC_ID_STAT, A.SEC_ATT_STAT]) ∧
          (∀ k, x.sec.target = some k → k ≤ 4 → Does .storeWipeDone s fun d => d.lifecycle = k ∧
            d.get A.SEC_LCS_STAT F.SEC_LCS_STAT_RES = 1 ∧
            d.get A.SEC_LCS_STAT F.SEC_LCS_STAT_TCOUNT = min (x.get A.SEC_LCS_STAT F.SEC_LCS_STAT_TCOUNT + 1) 65535 ∧
            (k = lcOperational → d.bit A.SEC_TAMP_CFG F.SEC_TAMP_CFG_LOCK = true) ∧ (k = lcRetired → d.fuses.idRoot = false) ∧
            (x.resettable = true → d.phase = .saving ∧ d.power.kind = rkCold ∧ d.power.full = false ∧ d.halted = true) ∧
            (x.resettable = false → d.power = x.power))))) ∧
    (∀ src : Fin 3,
      let flag := if src.val = 0 then F.SEC_TAMP_STAT_LID else if src.val = 1 then F.SEC_TAMP_STAT_GLITCH else F.SEC_TAMP_STAT_TEMP
      let blind := x.feedPresent = false ∨ (src.val = 0 ∧ x.bit A.SEC_TAMP_CFG F.SEC_TAMP_CFG_LIDEN = false)
      (blind → Does (.tamper src) s fun d => d = x) ∧
      (¬blind → Does (.tamper src) s fun d => d.bit A.SEC_TAMP_STAT flag = true ∧ recorded d ∧ x.RegsKept d [A.SEC_TAMP_STAT] ∧
        d.sec = { x.sec with target := none, wipe := some (x.sec.wipe.getD (x.ticks + 1250)) } ∧
        d = { x with regs := d.regs, hwSet := d.hwSet, sec := d.sec, scribe := d.scribe, free := d.free }))

/-! ## Feeds, saves, resets and starts (chapter 22) -/

/-- R447-R449: a measurement shows the feeds; with both lost RIDE is set, and 6 ms later PFAIL starts a full save, joins a
reset's, or halts the device before T_r. R451, R453: at its end the outputs stand in their power-fail states, a full save has
stored every bank of 0-47, and the device is off, held in reset, or starts anew. R454: resets begin saves of their kinds where
they are taken. R455: a unit reset takes effect on the next tick. R457, R459: the device starts by the boot pins, the shadow in
banks 0-47 after a power-on, zeros in banks 48-79. R458: the first rule that applies gives the type and CAUSE. R460: control
resumes once, the marker is spent. The start of this model in two commands is the choice of log 51. -/
def Obligations.PowerAndStart : Prop :=
  ∀ s : State,
    let x := s.dev
    let pw := A.SYS_PWR_STAT
    let ss := A.SYS_START_STAT
    let idle (c : Instr) := Does c s fun d => d = x
    let begins (c : Instr) (kind : Nat) (full low : Bool) := Does c s fun d => d.phase = .saving ∧ d.halted = true ∧ d.power.kind = kind ∧
      d.power.full = full ∧ d.power.tp = x.ticks ∧ d.power.charged = x.bit pw F.SYS_PWR_STAT_HUPRDY ∧ d.power.mark = x.power.mark ∧
      (low = true → d.power.resetLow = true) ∧ d.duo = { x.duo with stored := x.duoRole } ∧
      d = { x with power := d.power, halted := true, duo := d.duo, regs := d.regs, engs := d.engs, recorder := d.recorder,
                   scribe := d.scribe, free := d.free } ∧ x.RegsKept d ((upto 8).map A.PE_VNR_STAT)
    let started (boot : Nat) (d : Dev) := d.recovery = (boot == 1) ∧
      d.phase = (if boot = 1 ∨ (boot = 2 ∧ x.lifecycle = lcBlank) then .recovery else .starting) ∧
      (boot < 4 → d.get ss F.SYS_START_STAT_BOOT = boot) ∧ d.fuses = x.fuses ∧ d.store = x.store ∧ d.loops = x.loops ∧ d.tasks = x.tasks
    let zeroed (d : Dev) := ∀ a, 48 * 0x80000 ≤ a → a < 80 * 0x80000 → d.byte a = 0
    (∀ va vb : BitVec 16,
      let lost := va.toNat < 18000 ∧ vb.toNat < 18000
      let riding := x.bit pw F.SYS_PWR_STAT_RIDE = true
      Does (.feedMeasurement va vb) s fun d => d = { x with regs := d.regs, power := d.power, scribe := d.scribe, free := d.free } ∧
        x.RegsKept d [pw] ∧ d.power = { x.power with ride := d.power.ride, lowA := d.power.lowA, lowB := d.power.lowB,
                                                     goodA := d.power.goodA, goodB := d.power.goodB } ∧
        d.bit pw F.SYS_PWR_STAT_FEEDA = decide (18000 ≤ va.toNat) ∧ d.bit pw F.SYS_PWR_STAT_FEEDB = decide (18000 ≤ vb.toNat) ∧
        (va.toNat < 19200 → d.bit pw F.SYS_PWR_STAT_LOWA = true ∧ d.power.goodA = 0) ∧
        (vb.toNat < 19200 → d.bit pw F.SYS_PWR_STAT_LOWB = true ∧ d.power.goodB = 0) ∧
        (lost → ¬riding → x.on = true → d.bit pw F.SYS_PWR_STAT_RIDE = true ∧ d.power.ride = x.ticks + 1) ∧
        (¬lost → d.bit pw F.SYS_PWR_STAT_RIDE = false) ∧ (lost → riding → d.bit pw F.SYS_PWR_STAT_RIDE = true ∧ d.power.ride = x.power.ride) ∧
        (¬lost → riding → x.phase ≠ .saving → d.get pw F.SYS_PWR_STAT_RIDES = min (x.get pw F.SYS_PWR_STAT_RIDES + 1) 65535)) ∧
    (x.on = true →
      (Does .holdupReady s fun d => d.bit pw F.SYS_PWR_STAT_HUPRDY = true ∧ d = { x with regs := d.regs } ∧ x.RegsKept d [pw]) ∧
      (let due := x.bit pw F.SYS_PWR_STAT_RIDE = true ∧ x.power.ride + 1500000 ≤ x.ticks + 1
       (¬due → idle .pfail) ∧
       (due → (x.phase = .run → begins .pfail rkPowerOn true false) ∧
         (x.phase = .saving → Does .pfail s fun d => d = { x with power := { x.power with joined := true } }) ∧
         (x.phase = .held ∨ x.phase = .starting ∨ x.phase = .started ∨ x.phase = .recovery → Does .pfail s fun d =>
           d.phase = .off ∧ d.power.kind = rkPowerOn ∧ (∀ p, p < 4 → (d.safOut p).on = false) ∧ d.mem = x.mem ∧
           d = { x with power := d.power, saf := d.saf, regs := d.regs } ∧ x.RegsKept d ((upto 4).map A.SAF_STO_STAT)))) ∧
      (∀ cut capOk bad fails,
        let p := x.power
        let c := Instr.halt cut capOk bad fails
        let due := x.phase = .saving ∧ p.tp + (if p.full then 500000 else 500) ≤ x.ticks
        (¬due → idle c) ∧
        (due →
          (p.pfail = true ∨ (p.kind = rkResetN ∧ p.resetLow = true) → Does c s fun d =>
            d.phase = (if p.pfail then .off else .held) ∧ d.mem = x.mem ∧ d.points = x.points ∧ d.sec.wipe = none ∧
            (p.pfDone = false → (∀ m, m < 16 → (d.ao m).pf = some (x.aoPf m)) ∧ (∀ n, n < 32 → (d.dq n).pf = some (x.dqPf n)) ∧
              ∀ q, q < 4 → (d.safOut q).on = false) ∧
            (p.full = false → d.pool = x.pool ∧ d.power.mark = p.mark) ∧
            (p.full = true → p.pfail = false ∨ p.charged = true ∨ cut = none → d.power.mark = some p.next ∧
              (Memory.wf x.mem = true → ∀ a, a < 48 * 0x80000 → tabGet memDefault d.pool.shadow a = x.byte a))) ∧
          (p.pfail = false → ¬(p.kind = rkResetN ∧ p.resetLow = true) → Does c s fun d => started p.boot d ∧
            d.get ss F.SYS_START_STAT_KIND = p.kind % 16 ∧ (fails = [] → zeroed d ∧
              (p.kind ≠ rkFactory → p.kind ≠ rkPowerOn → ∀ a, a < 48 * 0x80000 → d.byte a = x.byte a))))) ∧
      (x.phase = .run ∨ x.phase = .recovery → begins .resetN rkResetN (x.phase == .run) true) ∧
      (x.phase = .starting ∨ x.phase = .started → Does .resetN s fun d =>
        d = { x with power := { x.power with phase := .held, kind := rkResetN, resetLow := true } }) ∧
      (x.phase = .held ∨ x.phase = .saving ∨ x.phase = .off → idle .resetN) ∧
      (∀ (boot : Fin 4) capOk bad fails, let c := Instr.resetNRelease boot capOk bad fails
        (x.power.resetLow = false → idle c) ∧
        (x.power.resetLow = true → x.phase ≠ .held → Does c s fun d => d = { x with power := { x.power with resetLow := false, boot := boot } }) ∧
        (x.power.resetLow = true → x.phase = .held → Does c s fun d => started boot d ∧ d.power.resetLow = false ∧ (fails = [] → zeroed d))) ∧
      (x.resettable = true →
        (∀ w, begins (.deviceReset w) (if w then rkWatchdog else rkDevice) (x.phase == .run) false) ∧
        begins .deviceColdReset rkCold false false ∧
        (x.lifecycle = lcOperational ∨ x.lifecycle = lcRetired → Does .factoryReset s fun d =>
          d = { x with scribe := d.scribe, free := d.free } ∧ ∃ o : Offer, o.src = 0x40 ∧ d.scribe = { x.scribe with offers := x.scribe.offers ++ [o] }) ∧
        (x.lifecycle ≠ lcOperational → x.lifecycle ≠ lcRetired → begins .factoryReset rkFactory false false)) ∧
      (x.resettable = false → (∀ w, idle (.deviceReset w)) ∧ idle .deviceColdReset ∧ idle .factoryReset) ∧
      (∀ n : BitVec 8, Does (.unitReset n) s fun d => d.get A.SYS_RST_CTL F.SYS_RST_CTL_UNIT = n.toNat ∧ x.RegsKept d [A.SYS_RST_CTL] ∧
        d = { x with regs := d.regs, later := x.later ++ if x.resettable && resetUnit n.toNat then [.unitReset n.toNat] else [] }) ∧
      (∀ known, let c := Instr.startDecision known
        let ty := x.startType known
        (x.phase ≠ .starting → idle c) ∧
        (x.phase = .starting → Does c s fun d => d.phase = .started ∧ d.get ss F.SYS_START_STAT_TYPE = ty.1 ∧
          d.get ss F.SYS_START_STAT_CAUSE = ty.2 ∧ d = { x with regs := d.regs, power := d.power, aos := d.aos, dqs := d.dqs, hwSet := d.hwSet } ∧
          (ty.1 = stResume → x.RegsKept d [ss] ∧ d.aos = x.aos ∧ d.dqs = x.dqs) ∧
          (ty.1 = stCold → (∀ m, m < 16 → (d.ao m).pf = some (x.aoCold m)) ∧ ∀ n, n < 32 → (d.dq n).pf = some (x.dqCold n)) ∧
          (ty.1 = stFactory → (∀ m, m < 16 → (d.ao m).pf = some 0) ∧ ∀ n, n < 32 → (d.dq n).pf = some 0)) ∧
        (let lc := x.lifecycle
         let kind := x.power.kind
         (kind = rkFactory → ty = (stFactory, 0)) ∧
         (kind ≠ rkFactory → (lc = lcBlank ∨ lc = lcRetired → ty = (stCold, 8)) ∧
           (lc ≠ lcBlank → lc ≠ lcRetired → (kind = rkCold → ty = (stCold, 7)) ∧
             (kind ≠ rkCold → (x.power.mark = none → ty = (stCold, 1)) ∧
               (x.power.mark.isSome = true → (known = false → ty = (stCold, 6)) ∧ (known = true →
                 (x.saveLost = true → ty = (stCold, 2)) ∧
                 (x.saveLost = false → ty.1 = stResume → x.get A.SYS_START_CFG F.SYS_START_CFG_RESPOL ≠ 0)))))))) ∧
      (let ty := x.get ss F.SYS_START_STAT_TYPE
       let due := x.phase = .started ∧ x.time.seedReq = false
       (¬due → idle .controlResume) ∧
       (due → Does .controlResume s (fun d => d.phase = .run ∧ d.power.mark = none ∧ d.halted = false ∧ d.bit ss F.SYS_START_STAT_SAVED = false) ∧
         (ty ≠ stResume → ty ≠ stCold → Does .controlResume s fun d => d.forces = [] ∧ d.counters = [] ∧ d.mem = x.mem ∧
           d.tasks = Dev.reset.tasks ∧ d.ctxs = Dev.reset.ctxs ∧ d.mbx = Dev.reset.mbx ∧ d.fuses = x.fuses) ∧
         (ty = stCold → x.policyNext = none → Does .controlResume s fun d => d.forces = x.forces ∧ d.policyImg = none ∧
           d.tasks = Dev.reset.tasks ∧ d.ctxs = Dev.reset.ctxs ∧ d.fuses = x.fuses)))) ∧
    (∀ (boot : Fin 4) capOk bad fails, let c := Instr.powerGood boot capOk bad fails
      let stood (t : Nat) := t ≠ 0 ∧ t + 500000 ≤ x.ticks + 1
      let due := x.phase = .off ∧ (stood x.power.goodA ∨ stood x.power.goodB)
      (¬due → idle c) ∧
      (due → Does c s fun d => started boot d ∧ d.get ss F.SYS_START_STAT_KIND = rkPowerOn ∧
        (fails = [] → zeroed d ∧ (bad = [] → x.pool.shadowErrs = [] → Memory.wf x.pool.shadow = true → ∀ a, a < 48 * 0x80000 →
          d.byte a = tabGet memDefault x.pool.shadow a)))) ∧
    (x.feedPresent = true → idle .aonReset) ∧
    (x.feedPresent = false → Does .aonReset s fun d => d = { x with regs := d.regs, cal := d.cal } ∧ d.cal.sec = 0 ∧
      ∀ k, d.reg k = if keyDomain k = some .aon then resetWord k else x.reg k)
end

