-- ==== Sys2Proof/Laws/Tab.lean ====
section
/-! SUPPORT. The laws of sparse tables: a read after a write to the same key gives the value written, a write leaves
every other key alone, and writing keeps the canonical form. -/

namespace Sys2Proof.Machine

variable {α : Type}

@[simp] theorem tabFind_nil (k : Nat) : tabFind ([] : Tab α) k = none := rfl

theorem tabFind_drop_same (t : Tab α) (k : Nat) : tabFind (tabDrop t k) k = none := by
  induction t with
  | nil => rfl
  | cons p t ih =>
    obtain ⟨k', v⟩ := p
    by_cases h : k = k' <;> simp [tabDrop, tabFind, h] <;> simp_all

theorem tabFind_drop_other (t : Tab α) {j k : Nat} (h : j ≠ k) : tabFind (tabDrop t k) j = tabFind t j := by
  induction t with
  | nil => rfl
  | cons p t ih =>
    obtain ⟨k', v⟩ := p
    by_cases hk : k = k'
    · subst hk; simp [tabDrop, tabFind, h, ih]
    · simp [tabDrop, tabFind, hk, ih]

theorem tabFind_ins_same (t : Tab α) (k : Nat) (v : α) (h : tabFind t k = none) :
    tabFind (tabIns t k v) k = some v := by
  induction t with
  | nil => simp [tabIns, tabFind]
  | cons p t ih =>
    obtain ⟨k', v'⟩ := p
    by_cases hk : k = k'
    · simp [tabFind, hk] at h
    · simp only [tabFind, hk, if_false] at h
      by_cases hl : k < k' <;> simp [tabIns, tabFind, hl, hk, ih h]

theorem tabFind_ins_other (t : Tab α) {j k : Nat} (v : α) (h : j ≠ k) :
    tabFind (tabIns t k v) j = tabFind t j := by
  induction t with
  | nil => simp [tabIns, tabFind, h]
  | cons p t ih =>
    obtain ⟨k', v'⟩ := p
    by_cases hl : k < k' <;> simp [tabIns, tabFind, hl, h, ih]

variable [DecidableEq α]

/-- A read after a write to the same key gives the value written. -/
@[simp] theorem tabGet_put_same (d : α) (t : Tab α) (k : Nat) (v : α) : tabGet d (tabPut d t k v) k = v := by
  by_cases h : v = d
  · simp [tabGet, tabPut, h, tabFind_drop_same]
  · simp [tabGet, tabPut, h, tabFind_ins_same _ _ _ (tabFind_drop_same t k)]

/-- A write leaves every other key alone. -/
theorem tabGet_put_other (d e : α) (t : Tab α) {j k : Nat} (v : α) (h : j ≠ k) :
    tabGet e (tabPut d t k v) j = tabGet e t j := by
  by_cases hv : v = d
  · simp [tabGet, tabPut, hv, tabFind_drop_other _ h]
  · simp [tabGet, tabPut, hv, tabFind_ins_other _ _ h, tabFind_drop_other _ h]

theorem tabAbove_mono {b c : Nat} (hbc : b ≤ c) : ∀ {t : Tab α}, tabAbove (some c) t = true →
    tabAbove (some b) t = true
  | [], _ => rfl
  | (k, v) :: t, h => by
    simp only [tabAbove, Bool.and_eq_true, decide_eq_true_eq] at h ⊢
    exact ⟨by omega, h.2⟩

theorem tabAbove_drop (b : Option Nat) (t : Tab α) (k : Nat) (h : tabAbove b t = true) :
    tabAbove b (tabDrop t k) = true := by
  induction t generalizing b with
  | nil => exact h
  | cons p t ih =>
    obtain ⟨k', v⟩ := p
    simp only [tabAbove, Bool.and_eq_true] at h
    by_cases hk : k = k'
    · simp only [tabDrop, hk, if_true]
      have := ih (some k') h.2
      rw [← hk] at this ⊢
      cases b with
      | none =>
        revert this; generalize tabDrop t k = u
        cases u with
        | nil => intro; rfl
        | cons q u => intro hh; simp only [tabAbove, Bool.and_eq_true] at hh ⊢; exact ⟨trivial, hh.2⟩
      | some b =>
        have hb : b < k := by simpa [hk] using h.1
        exact tabAbove_mono (Nat.le_of_lt hb) this
    · simp only [tabDrop, hk, if_false, tabAbove, Bool.and_eq_true]
      exact ⟨h.1, ih _ h.2⟩

theorem tabAbove_ins (b : Option Nat) (t : Tab α) (k : Nat) (v : α) (hb : ∀ x, b = some x → x < k)
    (hk : tabFind t k = none) (h : tabAbove b t = true) : tabAbove b (tabIns t k v) = true := by
  induction t generalizing b with
  | nil => cases b <;> simp [tabIns, tabAbove]; exact hb _ rfl
  | cons p t ih =>
    obtain ⟨k', v'⟩ := p
    simp only [tabAbove, Bool.and_eq_true] at h
    have hne : k ≠ k' := by intro e; simp [tabFind, e] at hk
    have hkt : tabFind t k = none := by simpa [tabFind, hne] using hk
    by_cases hl : k < k'
    · simp only [tabIns, hl, if_true, tabAbove, Bool.and_eq_true, decide_eq_true_eq]
      refine ⟨?_, trivial, h.2⟩
      cases b with
      | none => rfl
      | some x => simpa using hb x rfl
    · simp only [tabIns, hl, if_false, tabAbove, Bool.and_eq_true]
      refine ⟨h.1, ih (some k') ?_ hkt h.2⟩
      intro x hx; cases hx; omega

theorem tabLean_drop (d : Nat → α) (t : Tab α) (k : Nat) (h : tabLean d t = true) :
    tabLean d (tabDrop t k) = true := by
  induction t with
  | nil => rfl
  | cons p t ih =>
    obtain ⟨k', v⟩ := p
    simp only [tabLean, Bool.and_eq_true] at h
    by_cases hk : k = k' <;> simp only [tabDrop, hk, if_true, if_false]
    · exact hk ▸ ih h.2
    · simp only [tabLean, Bool.and_eq_true]; exact ⟨h.1, ih h.2⟩

theorem tabLean_ins (d : Nat → α) (t : Tab α) (k : Nat) (v : α) (hv : v ≠ d k) (h : tabLean d t = true) :
    tabLean d (tabIns t k v) = true := by
  induction t with
  | nil => simp [tabIns, tabLean, hv]
  | cons p t ih =>
    obtain ⟨k', v'⟩ := p
    by_cases hl : k < k'
    · simp only [tabIns, hl, if_true, tabLean, Bool.and_eq_true] at h ⊢
      exact ⟨by simpa using hv, h⟩
    · simp only [tabIns, hl, if_false, tabLean, Bool.and_eq_true] at h ⊢
      exact ⟨h.1, ih h.2⟩

/-- Writing keeps the canonical form. -/
theorem tabWf_put (d : Nat → α) (t : Tab α) (k : Nat) (v : α) (h : tabWf d t = true) :
    tabWf d (tabPut (d k) t k v) = true := by
  simp only [tabWf, Bool.and_eq_true] at h ⊢
  by_cases hv : v = d k
  · simp only [tabPut, hv, if_true]
    exact ⟨tabAbove_drop _ _ _ h.1, tabLean_drop _ _ _ h.2⟩
  · simp only [tabPut, hv, if_false]
    exact ⟨tabAbove_ins _ _ _ _ (by simp) (tabFind_drop_same t k) (tabAbove_drop _ _ _ h.1),
      tabLean_ins _ _ _ _ hv (tabLean_drop _ _ _ h.2)⟩

@[simp] theorem tabWf_nil (d : Nat → α) : tabWf d ([] : Tab α) = true := rfl

end Sys2Proof.Machine
end

