-- ==== Sys2Proof/Laws/State.lean ====
section
/-! SUPPORT. What the shared updates of the device leave alone, field by field, and what they change. -/

namespace Sys2Proof.Machine

/-! ## The block and its queue -/

/-- A command that needs the feeds alone completes. -/
theorem State.raw_next (s : State) (f : Dev → Dev) : s.raw f = .next { s with dev := f s.dev } := rfl

/-- With the logic supply a command of the logic acts. -/
theorem State.go_on (s : State) (f : Dev → Dev) (h : s.dev.on = true) : s.go f = .next { s with dev := f s.dev } := by
  simp [State.go, State.raw, h]

/-- Without the logic supply it changes nothing. -/
theorem State.go_off (s : State) (f : Dev → Dev) (h : s.dev.on = false) : s.go f = .next s := by
  simp [State.go, State.raw, h]

/-- In control a unit acts. -/
theorem State.live_on (s : State) (f : Dev → Dev) (h : s.dev.on = true) (g : s.dev.halted = false) :
    s.live f = .next { s with dev := f s.dev } := by
  simp [State.live, State.raw, h, g]

/-- While control is halted it does nothing. -/
theorem State.live_halted (s : State) (f : Dev → Dev) (h : s.dev.halted = true) : s.live f = .next s := by
  simp [State.live, State.raw, h]

/-! ## setReg -/

@[simp] theorem Dev.setReg_latch (s : Dev) (a : Nat) (w : Word) : (s.setReg a w).latch = s.latch := rfl
@[simp] theorem Dev.setReg_staged (s : Dev) (a : Nat) (w : Word) : (s.setReg a w).staged = s.staged := rfl
@[simp] theorem Dev.setReg_bus (s : Dev) (a : Nat) (w : Word) : (s.setReg a w).bus = s.bus := rfl
@[simp] theorem Dev.setReg_ticks (s : Dev) (a : Nat) (w : Word) : (s.setReg a w).ticks = s.ticks := rfl
@[simp] theorem Dev.setReg_free (s : Dev) (a : Nat) (w : Word) : (s.setReg a w).free = s.free := rfl
@[simp] theorem Dev.setReg_points (s : Dev) (a : Nat) (w : Word) : (s.setReg a w).points = s.points := rfl
@[simp] theorem Dev.setReg_claims (s : Dev) (a : Nat) (w : Word) : (s.setReg a w).claims = s.claims := rfl
@[simp] theorem Dev.setReg_spRank (s : Dev) (a : Nat) (w : Word) : (s.setReg a w).spRank = s.spRank := rfl
@[simp] theorem Dev.setReg_start (s : Dev) (a : Nat) (w : Word) : (s.setReg a w).start = s.start := rfl
@[simp] theorem Dev.setReg_wrote (s : Dev) (a : Nat) (w : Word) : (s.setReg a w).wrote = s.wrote := rfl
@[simp] theorem Dev.setReg_hwSet (s : Dev) (a : Nat) (w : Word) : (s.setReg a w).hwSet = s.hwSet := rfl
@[simp] theorem Dev.setReg_swWrote (s : Dev) (a : Nat) (w : Word) : (s.setReg a w).swWrote = s.swWrote := rfl
@[simp] theorem Dev.setReg_later (s : Dev) (a : Nat) (w : Word) : (s.setReg a w).later = s.later := rfl
@[simp] theorem Dev.setReg_mem (s : Dev) (a : Nat) (w : Word) : (s.setReg a w).mem = s.mem := rfl
@[simp] theorem Dev.setReg_time (s : Dev) (a : Nat) (w : Word) : (s.setReg a w).time = s.time := rfl
@[simp] theorem Dev.setReg_cal (s : Dev) (a : Nat) (w : Word) : (s.setReg a w).cal = s.cal := rfl
@[simp] theorem Dev.setReg_stamps (s : Dev) (a : Nat) (w : Word) : (s.setReg a w).stamps = s.stamps := rfl
@[simp] theorem Dev.setReg_scribe (s : Dev) (a : Nat) (w : Word) : (s.setReg a w).scribe = s.scribe := rfl
@[simp] theorem Dev.setReg_recorder (s : Dev) (a : Nat) (w : Word) : (s.setReg a w).recorder = s.recorder := rfl
@[simp] theorem Dev.setReg_pool (s : Dev) (a : Nat) (w : Word) : (s.setReg a w).pool = s.pool := rfl
@[simp] theorem Dev.setReg_policy (s : Dev) (a : Nat) (w : Word) : (s.setReg a w).policy = s.policy := rfl
@[simp] theorem Dev.setReg_forces (s : Dev) (a : Nat) (w : Word) : (s.setReg a w).forces = s.forces := rfl
@[simp] theorem Dev.setReg_ctxs (s : Dev) (a : Nat) (w : Word) : (s.setReg a w).ctxs = s.ctxs := rfl
@[simp] theorem Dev.setReg_tasks (s : Dev) (a : Nat) (w : Word) : (s.setReg a w).tasks = s.tasks := rfl
@[simp] theorem Dev.setReg_engs (s : Dev) (a : Nat) (w : Word) : (s.setReg a w).engs = s.engs := rfl
@[simp] theorem Dev.setReg_timers (s : Dev) (a : Nat) (w : Word) : (s.setReg a w).timers = s.timers := rfl
@[simp] theorem Dev.setReg_counters (s : Dev) (a : Nat) (w : Word) : (s.setReg a w).counters = s.counters := rfl
@[simp] theorem Dev.setReg_aos (s : Dev) (a : Nat) (w : Word) : (s.setReg a w).aos = s.aos := rfl
@[simp] theorem Dev.setReg_dqs (s : Dev) (a : Nat) (w : Word) : (s.setReg a w).dqs = s.dqs := rfl
@[simp] theorem Dev.setReg_sent (s : Dev) (a : Nat) (w : Word) : (s.setReg a w).sent = s.sent := rfl
@[simp] theorem Dev.setReg_duoSet (s : Dev) (a : Nat) (w : Word) : (s.setReg a w).duoSet = s.duoSet := rfl
@[simp] theorem Dev.setReg_loops (s : Dev) (a : Nat) (w : Word) : (s.setReg a w).loops = s.loops := rfl
@[simp] theorem Dev.setReg_tiles (s : Dev) (a : Nat) (w : Word) : (s.setReg a w).tiles = s.tiles := rfl
@[simp] theorem Dev.setReg_halted (s : Dev) (a : Nat) (w : Word) : (s.setReg a w).halted = s.halted := rfl
@[simp] theorem Dev.setReg_mbx (s : Dev) (a : Nat) (w : Word) : (s.setReg a w).mbx = s.mbx := rfl
@[simp] theorem Dev.setReg_acks (s : Dev) (a : Nat) (w : Word) : (s.setReg a w).acks = s.acks := rfl
@[simp] theorem Dev.setReg_inReset (s : Dev) (a : Nat) (w : Word) : (s.setReg a w).inReset = s.inReset := rfl
@[simp] theorem Dev.setReg_glus (s : Dev) (a : Nat) (w : Word) : (s.setReg a w).glus = s.glus := rfl
@[simp] theorem Dev.setReg_fetches (s : Dev) (a : Nat) (w : Word) : (s.setReg a w).fetches = s.fetches := rfl
@[simp] theorem Dev.setReg_via (s : Dev) (a : Nat) (w : Word) : (s.setReg a w).via = s.via := rfl
@[simp] theorem Dev.setReg_adcs (s : Dev) (a : Nat) (w : Word) : (s.setReg a w).adcs = s.adcs := rfl
@[simp] theorem Dev.setReg_poss (s : Dev) (a : Nat) (w : Word) : (s.setReg a w).poss = s.poss := rfl
@[simp] theorem Dev.setReg_diGrps (s : Dev) (a : Nat) (w : Word) : (s.setReg a w).diGrps = s.diGrps := rfl
@[simp] theorem Dev.setReg_dis (s : Dev) (a : Nat) (w : Word) : (s.setReg a w).dis = s.dis := rfl
@[simp] theorem Dev.setReg_supply (s : Dev) (a : Nat) (w : Word) : (s.setReg a w).supply = s.supply := rfl
@[simp] theorem Dev.setReg_fuses (s : Dev) (a : Nat) (w : Word) : (s.setReg a w).fuses = s.fuses := rfl
@[simp] theorem Dev.setReg_sec (s : Dev) (a : Nat) (w : Word) : (s.setReg a w).sec = s.sec := rfl
@[simp] theorem Dev.setReg_staging (s : Dev) (a : Nat) (w : Word) : (s.setReg a w).staging = s.staging := rfl
@[simp] theorem Dev.setReg_store (s : Dev) (a : Nat) (w : Word) : (s.setReg a w).store = s.store := rfl
@[simp] theorem Dev.setReg_sysfwNext (s : Dev) (a : Nat) (w : Word) : (s.setReg a w).sysfwNext = s.sysfwNext := rfl
@[simp] theorem Dev.setReg_sysfw (s : Dev) (a : Nat) (w : Word) : (s.setReg a w).sysfw = s.sysfw := rfl
@[simp] theorem Dev.setReg_policyNext (s : Dev) (a : Nat) (w : Word) : (s.setReg a w).policyNext = s.policyNext := rfl
@[simp] theorem Dev.setReg_policyImg (s : Dev) (a : Nat) (w : Word) : (s.setReg a w).policyImg = s.policyImg := rfl
@[simp] theorem Dev.setReg_halfDigest (s : Dev) (a : Nat) (w : Word) : (s.setReg a w).halfDigest = s.halfDigest := rfl
@[simp] theorem Dev.setReg_saf (s : Dev) (a : Nat) (w : Word) : (s.setReg a w).saf = s.saf := rfl
@[simp] theorem Dev.setReg_cans (s : Dev) (a : Nat) (w : Word) : (s.setReg a w).cans = s.cans := rfl
@[simp] theorem Dev.setReg_sofBase (s : Dev) (a : Nat) (w : Word) : (s.setReg a w).sofBase = s.sofBase := rfl
@[simp] theorem Dev.setReg_duoRel (s : Dev) (a : Nat) (w : Word) : (s.setReg a w).duoRel = s.duoRel := rfl
@[simp] theorem Dev.setReg_eth (s : Dev) (a : Nat) (w : Word) : (s.setReg a w).eth = s.eth := rfl
@[simp] theorem Dev.setReg_plj (s : Dev) (a : Nat) (w : Word) : (s.setReg a w).plj = s.plj := rfl
@[simp] theorem Dev.setReg_duo (s : Dev) (a : Nat) (w : Word) : (s.setReg a w).duo = s.duo := rfl
@[simp] theorem Dev.setReg_duoOuts (s : Dev) (a : Nat) (w : Word) : (s.setReg a w).duoOuts = s.duoOuts := rfl
@[simp] theorem Dev.setReg_hostResp (s : Dev) (a : Nat) (w : Word) : (s.setReg a w).hostResp = s.hostResp := rfl
@[simp] theorem Dev.setReg_recovery (s : Dev) (a : Nat) (w : Word) : (s.setReg a w).recovery = s.recovery := rfl
@[simp] theorem Dev.setReg_power (s : Dev) (a : Nat) (w : Word) : (s.setReg a w).power = s.power := rfl

/-! ## putByte -/

@[simp] theorem Dev.putByte_regs (s : Dev) (a : Nat) (b : Byte) : (s.putByte a b).regs = s.regs := rfl
@[simp] theorem Dev.putByte_latch (s : Dev) (a : Nat) (b : Byte) : (s.putByte a b).latch = s.latch := rfl
@[simp] theorem Dev.putByte_staged (s : Dev) (a : Nat) (b : Byte) : (s.putByte a b).staged = s.staged := rfl
@[simp] theorem Dev.putByte_bus (s : Dev) (a : Nat) (b : Byte) : (s.putByte a b).bus = s.bus := rfl
@[simp] theorem Dev.putByte_ticks (s : Dev) (a : Nat) (b : Byte) : (s.putByte a b).ticks = s.ticks := rfl
@[simp] theorem Dev.putByte_free (s : Dev) (a : Nat) (b : Byte) : (s.putByte a b).free = s.free := rfl
@[simp] theorem Dev.putByte_points (s : Dev) (a : Nat) (b : Byte) : (s.putByte a b).points = s.points := rfl
@[simp] theorem Dev.putByte_claims (s : Dev) (a : Nat) (b : Byte) : (s.putByte a b).claims = s.claims := rfl
@[simp] theorem Dev.putByte_spRank (s : Dev) (a : Nat) (b : Byte) : (s.putByte a b).spRank = s.spRank := rfl
@[simp] theorem Dev.putByte_start (s : Dev) (a : Nat) (b : Byte) : (s.putByte a b).start = s.start := rfl
@[simp] theorem Dev.putByte_wrote (s : Dev) (a : Nat) (b : Byte) : (s.putByte a b).wrote = s.wrote := rfl
@[simp] theorem Dev.putByte_hwSet (s : Dev) (a : Nat) (b : Byte) : (s.putByte a b).hwSet = s.hwSet := rfl
@[simp] theorem Dev.putByte_swWrote (s : Dev) (a : Nat) (b : Byte) : (s.putByte a b).swWrote = s.swWrote := rfl
@[simp] theorem Dev.putByte_later (s : Dev) (a : Nat) (b : Byte) : (s.putByte a b).later = s.later := rfl
@[simp] theorem Dev.putByte_time (s : Dev) (a : Nat) (b : Byte) : (s.putByte a b).time = s.time := rfl
@[simp] theorem Dev.putByte_cal (s : Dev) (a : Nat) (b : Byte) : (s.putByte a b).cal = s.cal := rfl
@[simp] theorem Dev.putByte_stamps (s : Dev) (a : Nat) (b : Byte) : (s.putByte a b).stamps = s.stamps := rfl
@[simp] theorem Dev.putByte_scribe (s : Dev) (a : Nat) (b : Byte) : (s.putByte a b).scribe = s.scribe := rfl
@[simp] theorem Dev.putByte_recorder (s : Dev) (a : Nat) (b : Byte) : (s.putByte a b).recorder = s.recorder := rfl
@[simp] theorem Dev.putByte_pool (s : Dev) (a : Nat) (b : Byte) : (s.putByte a b).pool = s.pool := rfl
@[simp] theorem Dev.putByte_policy (s : Dev) (a : Nat) (b : Byte) : (s.putByte a b).policy = s.policy := rfl
@[simp] theorem Dev.putByte_forces (s : Dev) (a : Nat) (b : Byte) : (s.putByte a b).forces = s.forces := rfl
@[simp] theorem Dev.putByte_ctxs (s : Dev) (a : Nat) (b : Byte) : (s.putByte a b).ctxs = s.ctxs := rfl
@[simp] theorem Dev.putByte_tasks (s : Dev) (a : Nat) (b : Byte) : (s.putByte a b).tasks = s.tasks := rfl
@[simp] theorem Dev.putByte_engs (s : Dev) (a : Nat) (b : Byte) : (s.putByte a b).engs = s.engs := rfl
@[simp] theorem Dev.putByte_timers (s : Dev) (a : Nat) (b : Byte) : (s.putByte a b).timers = s.timers := rfl
@[simp] theorem Dev.putByte_counters (s : Dev) (a : Nat) (b : Byte) : (s.putByte a b).counters = s.counters := rfl
@[simp] theorem Dev.putByte_aos (s : Dev) (a : Nat) (b : Byte) : (s.putByte a b).aos = s.aos := rfl
@[simp] theorem Dev.putByte_dqs (s : Dev) (a : Nat) (b : Byte) : (s.putByte a b).dqs = s.dqs := rfl
@[simp] theorem Dev.putByte_sent (s : Dev) (a : Nat) (b : Byte) : (s.putByte a b).sent = s.sent := rfl
@[simp] theorem Dev.putByte_duoSet (s : Dev) (a : Nat) (b : Byte) : (s.putByte a b).duoSet = s.duoSet := rfl
@[simp] theorem Dev.putByte_loops (s : Dev) (a : Nat) (b : Byte) : (s.putByte a b).loops = s.loops := rfl
@[simp] theorem Dev.putByte_tiles (s : Dev) (a : Nat) (b : Byte) : (s.putByte a b).tiles = s.tiles := rfl
@[simp] theorem Dev.putByte_halted (s : Dev) (a : Nat) (b : Byte) : (s.putByte a b).halted = s.halted := rfl
@[simp] theorem Dev.putByte_mbx (s : Dev) (a : Nat) (b : Byte) : (s.putByte a b).mbx = s.mbx := rfl
@[simp] theorem Dev.putByte_acks (s : Dev) (a : Nat) (b : Byte) : (s.putByte a b).acks = s.acks := rfl
@[simp] theorem Dev.putByte_inReset (s : Dev) (a : Nat) (b : Byte) : (s.putByte a b).inReset = s.inReset := rfl
@[simp] theorem Dev.putByte_glus (s : Dev) (a : Nat) (b : Byte) : (s.putByte a b).glus = s.glus := rfl
@[simp] theorem Dev.putByte_fetches (s : Dev) (a : Nat) (b : Byte) : (s.putByte a b).fetches = s.fetches := rfl
@[simp] theorem Dev.putByte_via (s : Dev) (a : Nat) (b : Byte) : (s.putByte a b).via = s.via := rfl
@[simp] theorem Dev.putByte_adcs (s : Dev) (a : Nat) (b : Byte) : (s.putByte a b).adcs = s.adcs := rfl
@[simp] theorem Dev.putByte_poss (s : Dev) (a : Nat) (b : Byte) : (s.putByte a b).poss = s.poss := rfl
@[simp] theorem Dev.putByte_diGrps (s : Dev) (a : Nat) (b : Byte) : (s.putByte a b).diGrps = s.diGrps := rfl
@[simp] theorem Dev.putByte_dis (s : Dev) (a : Nat) (b : Byte) : (s.putByte a b).dis = s.dis := rfl
@[simp] theorem Dev.putByte_supply (s : Dev) (a : Nat) (b : Byte) : (s.putByte a b).supply = s.supply := rfl
@[simp] theorem Dev.putByte_fuses (s : Dev) (a : Nat) (b : Byte) : (s.putByte a b).fuses = s.fuses := rfl
@[simp] theorem Dev.putByte_sec (s : Dev) (a : Nat) (b : Byte) : (s.putByte a b).sec = s.sec := rfl
@[simp] theorem Dev.putByte_staging (s : Dev) (a : Nat) (b : Byte) : (s.putByte a b).staging = s.staging := rfl
@[simp] theorem Dev.putByte_store (s : Dev) (a : Nat) (b : Byte) : (s.putByte a b).store = s.store := rfl
@[simp] theorem Dev.putByte_sysfwNext (s : Dev) (a : Nat) (b : Byte) : (s.putByte a b).sysfwNext = s.sysfwNext := rfl
@[simp] theorem Dev.putByte_sysfw (s : Dev) (a : Nat) (b : Byte) : (s.putByte a b).sysfw = s.sysfw := rfl
@[simp] theorem Dev.putByte_policyNext (s : Dev) (a : Nat) (b : Byte) : (s.putByte a b).policyNext = s.policyNext := rfl
@[simp] theorem Dev.putByte_policyImg (s : Dev) (a : Nat) (b : Byte) : (s.putByte a b).policyImg = s.policyImg := rfl
@[simp] theorem Dev.putByte_halfDigest (s : Dev) (a : Nat) (b : Byte) : (s.putByte a b).halfDigest = s.halfDigest := rfl
@[simp] theorem Dev.putByte_saf (s : Dev) (a : Nat) (b : Byte) : (s.putByte a b).saf = s.saf := rfl
@[simp] theorem Dev.putByte_cans (s : Dev) (a : Nat) (b : Byte) : (s.putByte a b).cans = s.cans := rfl
@[simp] theorem Dev.putByte_sofBase (s : Dev) (a : Nat) (b : Byte) : (s.putByte a b).sofBase = s.sofBase := rfl
@[simp] theorem Dev.putByte_duoRel (s : Dev) (a : Nat) (b : Byte) : (s.putByte a b).duoRel = s.duoRel := rfl
@[simp] theorem Dev.putByte_eth (s : Dev) (a : Nat) (b : Byte) : (s.putByte a b).eth = s.eth := rfl
@[simp] theorem Dev.putByte_plj (s : Dev) (a : Nat) (b : Byte) : (s.putByte a b).plj = s.plj := rfl
@[simp] theorem Dev.putByte_duo (s : Dev) (a : Nat) (b : Byte) : (s.putByte a b).duo = s.duo := rfl
@[simp] theorem Dev.putByte_duoOuts (s : Dev) (a : Nat) (b : Byte) : (s.putByte a b).duoOuts = s.duoOuts := rfl
@[simp] theorem Dev.putByte_hostResp (s : Dev) (a : Nat) (b : Byte) : (s.putByte a b).hostResp = s.hostResp := rfl
@[simp] theorem Dev.putByte_recovery (s : Dev) (a : Nat) (b : Byte) : (s.putByte a b).recovery = s.recovery := rfl
@[simp] theorem Dev.putByte_power (s : Dev) (a : Nat) (b : Byte) : (s.putByte a b).power = s.power := rfl

/-! ## storePoint -/

@[simp] theorem Dev.storePoint_regs (s : Dev) (h : Word) (p : Pt) : (s.storePoint h p).regs = s.regs := rfl
@[simp] theorem Dev.storePoint_latch (s : Dev) (h : Word) (p : Pt) : (s.storePoint h p).latch = s.latch := rfl
@[simp] theorem Dev.storePoint_staged (s : Dev) (h : Word) (p : Pt) : (s.storePoint h p).staged = s.staged := rfl
@[simp] theorem Dev.storePoint_bus (s : Dev) (h : Word) (p : Pt) : (s.storePoint h p).bus = s.bus := rfl
@[simp] theorem Dev.storePoint_ticks (s : Dev) (h : Word) (p : Pt) : (s.storePoint h p).ticks = s.ticks := rfl
@[simp] theorem Dev.storePoint_free (s : Dev) (h : Word) (p : Pt) : (s.storePoint h p).free = s.free := rfl
@[simp] theorem Dev.storePoint_claims (s : Dev) (h : Word) (p : Pt) : (s.storePoint h p).claims = s.claims := rfl
@[simp] theorem Dev.storePoint_spRank (s : Dev) (h : Word) (p : Pt) : (s.storePoint h p).spRank = s.spRank := rfl
@[simp] theorem Dev.storePoint_start (s : Dev) (h : Word) (p : Pt) : (s.storePoint h p).start = s.start := rfl
@[simp] theorem Dev.storePoint_hwSet (s : Dev) (h : Word) (p : Pt) : (s.storePoint h p).hwSet = s.hwSet := rfl
@[simp] theorem Dev.storePoint_swWrote (s : Dev) (h : Word) (p : Pt) : (s.storePoint h p).swWrote = s.swWrote := rfl
@[simp] theorem Dev.storePoint_later (s : Dev) (h : Word) (p : Pt) : (s.storePoint h p).later = s.later := rfl
@[simp] theorem Dev.storePoint_mem (s : Dev) (h : Word) (p : Pt) : (s.storePoint h p).mem = s.mem := rfl
@[simp] theorem Dev.storePoint_time (s : Dev) (h : Word) (p : Pt) : (s.storePoint h p).time = s.time := rfl
@[simp] theorem Dev.storePoint_cal (s : Dev) (h : Word) (p : Pt) : (s.storePoint h p).cal = s.cal := rfl
@[simp] theorem Dev.storePoint_stamps (s : Dev) (h : Word) (p : Pt) : (s.storePoint h p).stamps = s.stamps := rfl
@[simp] theorem Dev.storePoint_scribe (s : Dev) (h : Word) (p : Pt) : (s.storePoint h p).scribe = s.scribe := rfl
@[simp] theorem Dev.storePoint_recorder (s : Dev) (h : Word) (p : Pt) : (s.storePoint h p).recorder = s.recorder := rfl
@[simp] theorem Dev.storePoint_pool (s : Dev) (h : Word) (p : Pt) : (s.storePoint h p).pool = s.pool := rfl
@[simp] theorem Dev.storePoint_policy (s : Dev) (h : Word) (p : Pt) : (s.storePoint h p).policy = s.policy := rfl
@[simp] theorem Dev.storePoint_forces (s : Dev) (h : Word) (p : Pt) : (s.storePoint h p).forces = s.forces := rfl
@[simp] theorem Dev.storePoint_ctxs (s : Dev) (h : Word) (p : Pt) : (s.storePoint h p).ctxs = s.ctxs := rfl
@[simp] theorem Dev.storePoint_tasks (s : Dev) (h : Word) (p : Pt) : (s.storePoint h p).tasks = s.tasks := rfl
@[simp] theorem Dev.storePoint_engs (s : Dev) (h : Word) (p : Pt) : (s.storePoint h p).engs = s.engs := rfl
@[simp] theorem Dev.storePoint_timers (s : Dev) (h : Word) (p : Pt) : (s.storePoint h p).timers = s.timers := rfl
@[simp] theorem Dev.storePoint_counters (s : Dev) (h : Word) (p : Pt) : (s.storePoint h p).counters = s.counters := rfl
@[simp] theorem Dev.storePoint_aos (s : Dev) (h : Word) (p : Pt) : (s.storePoint h p).aos = s.aos := rfl
@[simp] theorem Dev.storePoint_dqs (s : Dev) (h : Word) (p : Pt) : (s.storePoint h p).dqs = s.dqs := rfl
@[simp] theorem Dev.storePoint_sent (s : Dev) (h : Word) (p : Pt) : (s.storePoint h p).sent = s.sent := rfl
@[simp] theorem Dev.storePoint_duoSet (s : Dev) (h : Word) (p : Pt) : (s.storePoint h p).duoSet = s.duoSet := rfl
@[simp] theorem Dev.storePoint_loops (s : Dev) (h : Word) (p : Pt) : (s.storePoint h p).loops = s.loops := rfl
@[simp] theorem Dev.storePoint_tiles (s : Dev) (h : Word) (p : Pt) : (s.storePoint h p).tiles = s.tiles := rfl
@[simp] theorem Dev.storePoint_halted (s : Dev) (h : Word) (p : Pt) : (s.storePoint h p).halted = s.halted := rfl
@[simp] theorem Dev.storePoint_mbx (s : Dev) (h : Word) (p : Pt) : (s.storePoint h p).mbx = s.mbx := rfl
@[simp] theorem Dev.storePoint_acks (s : Dev) (h : Word) (p : Pt) : (s.storePoint h p).acks = s.acks := rfl
@[simp] theorem Dev.storePoint_inReset (s : Dev) (h : Word) (p : Pt) : (s.storePoint h p).inReset = s.inReset := rfl
@[simp] theorem Dev.storePoint_glus (s : Dev) (h : Word) (p : Pt) : (s.storePoint h p).glus = s.glus := rfl
@[simp] theorem Dev.storePoint_fetches (s : Dev) (h : Word) (p : Pt) : (s.storePoint h p).fetches = s.fetches := rfl
@[simp] theorem Dev.storePoint_via (s : Dev) (h : Word) (p : Pt) : (s.storePoint h p).via = s.via := rfl
@[simp] theorem Dev.storePoint_adcs (s : Dev) (h : Word) (p : Pt) : (s.storePoint h p).adcs = s.adcs := rfl
@[simp] theorem Dev.storePoint_poss (s : Dev) (h : Word) (p : Pt) : (s.storePoint h p).poss = s.poss := rfl
@[simp] theorem Dev.storePoint_diGrps (s : Dev) (h : Word) (p : Pt) : (s.storePoint h p).diGrps = s.diGrps := rfl
@[simp] theorem Dev.storePoint_dis (s : Dev) (h : Word) (p : Pt) : (s.storePoint h p).dis = s.dis := rfl
@[simp] theorem Dev.storePoint_supply (s : Dev) (h : Word) (p : Pt) : (s.storePoint h p).supply = s.supply := rfl
@[simp] theorem Dev.storePoint_fuses (s : Dev) (h : Word) (p : Pt) : (s.storePoint h p).fuses = s.fuses := rfl
@[simp] theorem Dev.storePoint_sec (s : Dev) (h : Word) (p : Pt) : (s.storePoint h p).sec = s.sec := rfl
@[simp] theorem Dev.storePoint_staging (s : Dev) (h : Word) (p : Pt) : (s.storePoint h p).staging = s.staging := rfl
@[simp] theorem Dev.storePoint_store (s : Dev) (h : Word) (p : Pt) : (s.storePoint h p).store = s.store := rfl
@[simp] theorem Dev.storePoint_sysfwNext (s : Dev) (h : Word) (p : Pt) : (s.storePoint h p).sysfwNext = s.sysfwNext := rfl
@[simp] theorem Dev.storePoint_sysfw (s : Dev) (h : Word) (p : Pt) : (s.storePoint h p).sysfw = s.sysfw := rfl
@[simp] theorem Dev.storePoint_policyNext (s : Dev) (h : Word) (p : Pt) : (s.storePoint h p).policyNext = s.policyNext := rfl
@[simp] theorem Dev.storePoint_policyImg (s : Dev) (h : Word) (p : Pt) : (s.storePoint h p).policyImg = s.policyImg := rfl
@[simp] theorem Dev.storePoint_halfDigest (s : Dev) (h : Word) (p : Pt) : (s.storePoint h p).halfDigest = s.halfDigest := rfl
@[simp] theorem Dev.storePoint_saf (s : Dev) (h : Word) (p : Pt) : (s.storePoint h p).saf = s.saf := rfl
@[simp] theorem Dev.storePoint_cans (s : Dev) (h : Word) (p : Pt) : (s.storePoint h p).cans = s.cans := rfl
@[simp] theorem Dev.storePoint_sofBase (s : Dev) (h : Word) (p : Pt) : (s.storePoint h p).sofBase = s.sofBase := rfl
@[simp] theorem Dev.storePoint_duoRel (s : Dev) (h : Word) (p : Pt) : (s.storePoint h p).duoRel = s.duoRel := rfl
@[simp] theorem Dev.storePoint_eth (s : Dev) (h : Word) (p : Pt) : (s.storePoint h p).eth = s.eth := rfl
@[simp] theorem Dev.storePoint_plj (s : Dev) (h : Word) (p : Pt) : (s.storePoint h p).plj = s.plj := rfl
@[simp] theorem Dev.storePoint_duo (s : Dev) (h : Word) (p : Pt) : (s.storePoint h p).duo = s.duo := rfl
@[simp] theorem Dev.storePoint_duoOuts (s : Dev) (h : Word) (p : Pt) : (s.storePoint h p).duoOuts = s.duoOuts := rfl
@[simp] theorem Dev.storePoint_hostResp (s : Dev) (h : Word) (p : Pt) : (s.storePoint h p).hostResp = s.hostResp := rfl
@[simp] theorem Dev.storePoint_recovery (s : Dev) (h : Word) (p : Pt) : (s.storePoint h p).recovery = s.recovery := rfl
@[simp] theorem Dev.storePoint_power (s : Dev) (h : Word) (p : Pt) : (s.storePoint h p).power = s.power := rfl

/-! ## setClaim -/

@[simp] theorem Dev.setClaim_regs (s : Dev) (h : Word) (w : Option Writer) : (s.setClaim h w).regs = s.regs := rfl
@[simp] theorem Dev.setClaim_latch (s : Dev) (h : Word) (w : Option Writer) : (s.setClaim h w).latch = s.latch := rfl
@[simp] theorem Dev.setClaim_staged (s : Dev) (h : Word) (w : Option Writer) : (s.setClaim h w).staged = s.staged := rfl
@[simp] theorem Dev.setClaim_bus (s : Dev) (h : Word) (w : Option Writer) : (s.setClaim h w).bus = s.bus := rfl
@[simp] theorem Dev.setClaim_ticks (s : Dev) (h : Word) (w : Option Writer) : (s.setClaim h w).ticks = s.ticks := rfl
@[simp] theorem Dev.setClaim_free (s : Dev) (h : Word) (w : Option Writer) : (s.setClaim h w).free = s.free := rfl
@[simp] theorem Dev.setClaim_points (s : Dev) (h : Word) (w : Option Writer) : (s.setClaim h w).points = s.points := rfl
@[simp] theorem Dev.setClaim_spRank (s : Dev) (h : Word) (w : Option Writer) : (s.setClaim h w).spRank = s.spRank := rfl
@[simp] theorem Dev.setClaim_start (s : Dev) (h : Word) (w : Option Writer) : (s.setClaim h w).start = s.start := rfl
@[simp] theorem Dev.setClaim_wrote (s : Dev) (h : Word) (w : Option Writer) : (s.setClaim h w).wrote = s.wrote := rfl
@[simp] theorem Dev.setClaim_hwSet (s : Dev) (h : Word) (w : Option Writer) : (s.setClaim h w).hwSet = s.hwSet := rfl
@[simp] theorem Dev.setClaim_swWrote (s : Dev) (h : Word) (w : Option Writer) : (s.setClaim h w).swWrote = s.swWrote := rfl
@[simp] theorem Dev.setClaim_later (s : Dev) (h : Word) (w : Option Writer) : (s.setClaim h w).later = s.later := rfl
@[simp] theorem Dev.setClaim_mem (s : Dev) (h : Word) (w : Option Writer) : (s.setClaim h w).mem = s.mem := rfl
@[simp] theorem Dev.setClaim_time (s : Dev) (h : Word) (w : Option Writer) : (s.setClaim h w).time = s.time := rfl
@[simp] theorem Dev.setClaim_cal (s : Dev) (h : Word) (w : Option Writer) : (s.setClaim h w).cal = s.cal := rfl
@[simp] theorem Dev.setClaim_stamps (s : Dev) (h : Word) (w : Option Writer) : (s.setClaim h w).stamps = s.stamps := rfl
@[simp] theorem Dev.setClaim_scribe (s : Dev) (h : Word) (w : Option Writer) : (s.setClaim h w).scribe = s.scribe := rfl
@[simp] theorem Dev.setClaim_recorder (s : Dev) (h : Word) (w : Option Writer) : (s.setClaim h w).recorder = s.recorder := rfl
@[simp] theorem Dev.setClaim_pool (s : Dev) (h : Word) (w : Option Writer) : (s.setClaim h w).pool = s.pool := rfl
@[simp] theorem Dev.setClaim_policy (s : Dev) (h : Word) (w : Option Writer) : (s.setClaim h w).policy = s.policy := rfl
@[simp] theorem Dev.setClaim_forces (s : Dev) (h : Word) (w : Option Writer) : (s.setClaim h w).forces = s.forces := rfl
@[simp] theorem Dev.setClaim_ctxs (s : Dev) (h : Word) (w : Option Writer) : (s.setClaim h w).ctxs = s.ctxs := rfl
@[simp] theorem Dev.setClaim_tasks (s : Dev) (h : Word) (w : Option Writer) : (s.setClaim h w).tasks = s.tasks := rfl
@[simp] theorem Dev.setClaim_engs (s : Dev) (h : Word) (w : Option Writer) : (s.setClaim h w).engs = s.engs := rfl
@[simp] theorem Dev.setClaim_timers (s : Dev) (h : Word) (w : Option Writer) : (s.setClaim h w).timers = s.timers := rfl
@[simp] theorem Dev.setClaim_counters (s : Dev) (h : Word) (w : Option Writer) : (s.setClaim h w).counters = s.counters := rfl
@[simp] theorem Dev.setClaim_aos (s : Dev) (h : Word) (w : Option Writer) : (s.setClaim h w).aos = s.aos := rfl
@[simp] theorem Dev.setClaim_dqs (s : Dev) (h : Word) (w : Option Writer) : (s.setClaim h w).dqs = s.dqs := rfl
@[simp] theorem Dev.setClaim_sent (s : Dev) (h : Word) (w : Option Writer) : (s.setClaim h w).sent = s.sent := rfl
@[simp] theorem Dev.setClaim_duoSet (s : Dev) (h : Word) (w : Option Writer) : (s.setClaim h w).duoSet = s.duoSet := rfl
@[simp] theorem Dev.setClaim_loops (s : Dev) (h : Word) (w : Option Writer) : (s.setClaim h w).loops = s.loops := rfl
@[simp] theorem Dev.setClaim_tiles (s : Dev) (h : Word) (w : Option Writer) : (s.setClaim h w).tiles = s.tiles := rfl
@[simp] theorem Dev.setClaim_halted (s : Dev) (h : Word) (w : Option Writer) : (s.setClaim h w).halted = s.halted := rfl
@[simp] theorem Dev.setClaim_mbx (s : Dev) (h : Word) (w : Option Writer) : (s.setClaim h w).mbx = s.mbx := rfl
@[simp] theorem Dev.setClaim_acks (s : Dev) (h : Word) (w : Option Writer) : (s.setClaim h w).acks = s.acks := rfl
@[simp] theorem Dev.setClaim_inReset (s : Dev) (h : Word) (w : Option Writer) : (s.setClaim h w).inReset = s.inReset := rfl
@[simp] theorem Dev.setClaim_glus (s : Dev) (h : Word) (w : Option Writer) : (s.setClaim h w).glus = s.glus := rfl
@[simp] theorem Dev.setClaim_fetches (s : Dev) (h : Word) (w : Option Writer) : (s.setClaim h w).fetches = s.fetches := rfl
@[simp] theorem Dev.setClaim_via (s : Dev) (h : Word) (w : Option Writer) : (s.setClaim h w).via = s.via := rfl
@[simp] theorem Dev.setClaim_adcs (s : Dev) (h : Word) (w : Option Writer) : (s.setClaim h w).adcs = s.adcs := rfl
@[simp] theorem Dev.setClaim_poss (s : Dev) (h : Word) (w : Option Writer) : (s.setClaim h w).poss = s.poss := rfl
@[simp] theorem Dev.setClaim_diGrps (s : Dev) (h : Word) (w : Option Writer) : (s.setClaim h w).diGrps = s.diGrps := rfl
@[simp] theorem Dev.setClaim_dis (s : Dev) (h : Word) (w : Option Writer) : (s.setClaim h w).dis = s.dis := rfl
@[simp] theorem Dev.setClaim_supply (s : Dev) (h : Word) (w : Option Writer) : (s.setClaim h w).supply = s.supply := rfl
@[simp] theorem Dev.setClaim_fuses (s : Dev) (h : Word) (w : Option Writer) : (s.setClaim h w).fuses = s.fuses := rfl
@[simp] theorem Dev.setClaim_sec (s : Dev) (h : Word) (w : Option Writer) : (s.setClaim h w).sec = s.sec := rfl
@[simp] theorem Dev.setClaim_staging (s : Dev) (h : Word) (w : Option Writer) : (s.setClaim h w).staging = s.staging := rfl
@[simp] theorem Dev.setClaim_store (s : Dev) (h : Word) (w : Option Writer) : (s.setClaim h w).store = s.store := rfl
@[simp] theorem Dev.setClaim_sysfwNext (s : Dev) (h : Word) (w : Option Writer) : (s.setClaim h w).sysfwNext = s.sysfwNext := rfl
@[simp] theorem Dev.setClaim_sysfw (s : Dev) (h : Word) (w : Option Writer) : (s.setClaim h w).sysfw = s.sysfw := rfl
@[simp] theorem Dev.setClaim_policyNext (s : Dev) (h : Word) (w : Option Writer) : (s.setClaim h w).policyNext = s.policyNext := rfl
@[simp] theorem Dev.setClaim_policyImg (s : Dev) (h : Word) (w : Option Writer) : (s.setClaim h w).policyImg = s.policyImg := rfl
@[simp] theorem Dev.setClaim_halfDigest (s : Dev) (h : Word) (w : Option Writer) : (s.setClaim h w).halfDigest = s.halfDigest := rfl
@[simp] theorem Dev.setClaim_saf (s : Dev) (h : Word) (w : Option Writer) : (s.setClaim h w).saf = s.saf := rfl
@[simp] theorem Dev.setClaim_cans (s : Dev) (h : Word) (w : Option Writer) : (s.setClaim h w).cans = s.cans := rfl
@[simp] theorem Dev.setClaim_sofBase (s : Dev) (h : Word) (w : Option Writer) : (s.setClaim h w).sofBase = s.sofBase := rfl
@[simp] theorem Dev.setClaim_duoRel (s : Dev) (h : Word) (w : Option Writer) : (s.setClaim h w).duoRel = s.duoRel := rfl
@[simp] theorem Dev.setClaim_eth (s : Dev) (h : Word) (w : Option Writer) : (s.setClaim h w).eth = s.eth := rfl
@[simp] theorem Dev.setClaim_plj (s : Dev) (h : Word) (w : Option Writer) : (s.setClaim h w).plj = s.plj := rfl
@[simp] theorem Dev.setClaim_duo (s : Dev) (h : Word) (w : Option Writer) : (s.setClaim h w).duo = s.duo := rfl
@[simp] theorem Dev.setClaim_duoOuts (s : Dev) (h : Word) (w : Option Writer) : (s.setClaim h w).duoOuts = s.duoOuts := rfl
@[simp] theorem Dev.setClaim_hostResp (s : Dev) (h : Word) (w : Option Writer) : (s.setClaim h w).hostResp = s.hostResp := rfl
@[simp] theorem Dev.setClaim_recovery (s : Dev) (h : Word) (w : Option Writer) : (s.setClaim h w).recovery = s.recovery := rfl
@[simp] theorem Dev.setClaim_power (s : Dev) (h : Word) (w : Option Writer) : (s.setClaim h w).power = s.power := rfl

/-! ## draw -/

@[simp] theorem Dev.draw_regs (s : Dev) : (s.draw).regs = s.regs := rfl
@[simp] theorem Dev.draw_latch (s : Dev) : (s.draw).latch = s.latch := rfl
@[simp] theorem Dev.draw_staged (s : Dev) : (s.draw).staged = s.staged := rfl
@[simp] theorem Dev.draw_bus (s : Dev) : (s.draw).bus = s.bus := rfl
@[simp] theorem Dev.draw_ticks (s : Dev) : (s.draw).ticks = s.ticks := rfl
@[simp] theorem Dev.draw_points (s : Dev) : (s.draw).points = s.points := rfl
@[simp] theorem Dev.draw_claims (s : Dev) : (s.draw).claims = s.claims := rfl
@[simp] theorem Dev.draw_spRank (s : Dev) : (s.draw).spRank = s.spRank := rfl
@[simp] theorem Dev.draw_start (s : Dev) : (s.draw).start = s.start := rfl
@[simp] theorem Dev.draw_wrote (s : Dev) : (s.draw).wrote = s.wrote := rfl
@[simp] theorem Dev.draw_hwSet (s : Dev) : (s.draw).hwSet = s.hwSet := rfl
@[simp] theorem Dev.draw_swWrote (s : Dev) : (s.draw).swWrote = s.swWrote := rfl
@[simp] theorem Dev.draw_later (s : Dev) : (s.draw).later = s.later := rfl
@[simp] theorem Dev.draw_mem (s : Dev) : (s.draw).mem = s.mem := rfl
@[simp] theorem Dev.draw_time (s : Dev) : (s.draw).time = s.time := rfl
@[simp] theorem Dev.draw_cal (s : Dev) : (s.draw).cal = s.cal := rfl
@[simp] theorem Dev.draw_stamps (s : Dev) : (s.draw).stamps = s.stamps := rfl
@[simp] theorem Dev.draw_scribe (s : Dev) : (s.draw).scribe = s.scribe := rfl
@[simp] theorem Dev.draw_recorder (s : Dev) : (s.draw).recorder = s.recorder := rfl
@[simp] theorem Dev.draw_pool (s : Dev) : (s.draw).pool = s.pool := rfl
@[simp] theorem Dev.draw_policy (s : Dev) : (s.draw).policy = s.policy := rfl
@[simp] theorem Dev.draw_forces (s : Dev) : (s.draw).forces = s.forces := rfl
@[simp] theorem Dev.draw_ctxs (s : Dev) : (s.draw).ctxs = s.ctxs := rfl
@[simp] theorem Dev.draw_tasks (s : Dev) : (s.draw).tasks = s.tasks := rfl
@[simp] theorem Dev.draw_engs (s : Dev) : (s.draw).engs = s.engs := rfl
@[simp] theorem Dev.draw_timers (s : Dev) : (s.draw).timers = s.timers := rfl
@[simp] theorem Dev.draw_counters (s : Dev) : (s.draw).counters = s.counters := rfl
@[simp] theorem Dev.draw_aos (s : Dev) : (s.draw).aos = s.aos := rfl
@[simp] theorem Dev.draw_dqs (s : Dev) : (s.draw).dqs = s.dqs := rfl
@[simp] theorem Dev.draw_sent (s : Dev) : (s.draw).sent = s.sent := rfl
@[simp] theorem Dev.draw_duoSet (s : Dev) : (s.draw).duoSet = s.duoSet := rfl
@[simp] theorem Dev.draw_loops (s : Dev) : (s.draw).loops = s.loops := rfl
@[simp] theorem Dev.draw_tiles (s : Dev) : (s.draw).tiles = s.tiles := rfl
@[simp] theorem Dev.draw_halted (s : Dev) : (s.draw).halted = s.halted := rfl
@[simp] theorem Dev.draw_mbx (s : Dev) : (s.draw).mbx = s.mbx := rfl
@[simp] theorem Dev.draw_acks (s : Dev) : (s.draw).acks = s.acks := rfl
@[simp] theorem Dev.draw_inReset (s : Dev) : (s.draw).inReset = s.inReset := rfl
@[simp] theorem Dev.draw_glus (s : Dev) : (s.draw).glus = s.glus := rfl
@[simp] theorem Dev.draw_fetches (s : Dev) : (s.draw).fetches = s.fetches := rfl
@[simp] theorem Dev.draw_via (s : Dev) : (s.draw).via = s.via := rfl
@[simp] theorem Dev.draw_adcs (s : Dev) : (s.draw).adcs = s.adcs := rfl
@[simp] theorem Dev.draw_poss (s : Dev) : (s.draw).poss = s.poss := rfl
@[simp] theorem Dev.draw_diGrps (s : Dev) : (s.draw).diGrps = s.diGrps := rfl
@[simp] theorem Dev.draw_dis (s : Dev) : (s.draw).dis = s.dis := rfl
@[simp] theorem Dev.draw_supply (s : Dev) : (s.draw).supply = s.supply := rfl
@[simp] theorem Dev.draw_fuses (s : Dev) : (s.draw).fuses = s.fuses := rfl
@[simp] theorem Dev.draw_sec (s : Dev) : (s.draw).sec = s.sec := rfl
@[simp] theorem Dev.draw_staging (s : Dev) : (s.draw).staging = s.staging := rfl
@[simp] theorem Dev.draw_store (s : Dev) : (s.draw).store = s.store := rfl
@[simp] theorem Dev.draw_sysfwNext (s : Dev) : (s.draw).sysfwNext = s.sysfwNext := rfl
@[simp] theorem Dev.draw_sysfw (s : Dev) : (s.draw).sysfw = s.sysfw := rfl
@[simp] theorem Dev.draw_policyNext (s : Dev) : (s.draw).policyNext = s.policyNext := rfl
@[simp] theorem Dev.draw_policyImg (s : Dev) : (s.draw).policyImg = s.policyImg := rfl
@[simp] theorem Dev.draw_halfDigest (s : Dev) : (s.draw).halfDigest = s.halfDigest := rfl
@[simp] theorem Dev.draw_saf (s : Dev) : (s.draw).saf = s.saf := rfl
@[simp] theorem Dev.draw_cans (s : Dev) : (s.draw).cans = s.cans := rfl
@[simp] theorem Dev.draw_sofBase (s : Dev) : (s.draw).sofBase = s.sofBase := rfl
@[simp] theorem Dev.draw_duoRel (s : Dev) : (s.draw).duoRel = s.duoRel := rfl
@[simp] theorem Dev.draw_eth (s : Dev) : (s.draw).eth = s.eth := rfl
@[simp] theorem Dev.draw_plj (s : Dev) : (s.draw).plj = s.plj := rfl
@[simp] theorem Dev.draw_duo (s : Dev) : (s.draw).duo = s.duo := rfl
@[simp] theorem Dev.draw_duoOuts (s : Dev) : (s.draw).duoOuts = s.duoOuts := rfl
@[simp] theorem Dev.draw_hostResp (s : Dev) : (s.draw).hostResp = s.hostResp := rfl
@[simp] theorem Dev.draw_recovery (s : Dev) : (s.draw).recovery = s.recovery := rfl
@[simp] theorem Dev.draw_power (s : Dev) : (s.draw).power = s.power := rfl

/-! ## after -/

@[simp] theorem Dev.after_regs (s : Dev) (l : Later) : (s.after l).regs = s.regs := rfl
@[simp] theorem Dev.after_latch (s : Dev) (l : Later) : (s.after l).latch = s.latch := rfl
@[simp] theorem Dev.after_staged (s : Dev) (l : Later) : (s.after l).staged = s.staged := rfl
@[simp] theorem Dev.after_bus (s : Dev) (l : Later) : (s.after l).bus = s.bus := rfl
@[simp] theorem Dev.after_ticks (s : Dev) (l : Later) : (s.after l).ticks = s.ticks := rfl
@[simp] theorem Dev.after_free (s : Dev) (l : Later) : (s.after l).free = s.free := rfl
@[simp] theorem Dev.after_points (s : Dev) (l : Later) : (s.after l).points = s.points := rfl
@[simp] theorem Dev.after_claims (s : Dev) (l : Later) : (s.after l).claims = s.claims := rfl
@[simp] theorem Dev.after_spRank (s : Dev) (l : Later) : (s.after l).spRank = s.spRank := rfl
@[simp] theorem Dev.after_start (s : Dev) (l : Later) : (s.after l).start = s.start := rfl
@[simp] theorem Dev.after_wrote (s : Dev) (l : Later) : (s.after l).wrote = s.wrote := rfl
@[simp] theorem Dev.after_hwSet (s : Dev) (l : Later) : (s.after l).hwSet = s.hwSet := rfl
@[simp] theorem Dev.after_swWrote (s : Dev) (l : Later) : (s.after l).swWrote = s.swWrote := rfl
@[simp] theorem Dev.after_mem (s : Dev) (l : Later) : (s.after l).mem = s.mem := rfl
@[simp] theorem Dev.after_time (s : Dev) (l : Later) : (s.after l).time = s.time := rfl
@[simp] theorem Dev.after_cal (s : Dev) (l : Later) : (s.after l).cal = s.cal := rfl
@[simp] theorem Dev.after_stamps (s : Dev) (l : Later) : (s.after l).stamps = s.stamps := rfl
@[simp] theorem Dev.after_scribe (s : Dev) (l : Later) : (s.after l).scribe = s.scribe := rfl
@[simp] theorem Dev.after_recorder (s : Dev) (l : Later) : (s.after l).recorder = s.recorder := rfl
@[simp] theorem Dev.after_pool (s : Dev) (l : Later) : (s.after l).pool = s.pool := rfl
@[simp] theorem Dev.after_policy (s : Dev) (l : Later) : (s.after l).policy = s.policy := rfl
@[simp] theorem Dev.after_forces (s : Dev) (l : Later) : (s.after l).forces = s.forces := rfl
@[simp] theorem Dev.after_ctxs (s : Dev) (l : Later) : (s.after l).ctxs = s.ctxs := rfl
@[simp] theorem Dev.after_tasks (s : Dev) (l : Later) : (s.after l).tasks = s.tasks := rfl
@[simp] theorem Dev.after_engs (s : Dev) (l : Later) : (s.after l).engs = s.engs := rfl
@[simp] theorem Dev.after_timers (s : Dev) (l : Later) : (s.after l).timers = s.timers := rfl
@[simp] theorem Dev.after_counters (s : Dev) (l : Later) : (s.after l).counters = s.counters := rfl
@[simp] theorem Dev.after_aos (s : Dev) (l : Later) : (s.after l).aos = s.aos := rfl
@[simp] theorem Dev.after_dqs (s : Dev) (l : Later) : (s.after l).dqs = s.dqs := rfl
@[simp] theorem Dev.after_sent (s : Dev) (l : Later) : (s.after l).sent = s.sent := rfl
@[simp] theorem Dev.after_duoSet (s : Dev) (l : Later) : (s.after l).duoSet = s.duoSet := rfl
@[simp] theorem Dev.after_loops (s : Dev) (l : Later) : (s.after l).loops = s.loops := rfl
@[simp] theorem Dev.after_tiles (s : Dev) (l : Later) : (s.after l).tiles = s.tiles := rfl
@[simp] theorem Dev.after_halted (s : Dev) (l : Later) : (s.after l).halted = s.halted := rfl
@[simp] theorem Dev.after_mbx (s : Dev) (l : Later) : (s.after l).mbx = s.mbx := rfl
@[simp] theorem Dev.after_acks (s : Dev) (l : Later) : (s.after l).acks = s.acks := rfl
@[simp] theorem Dev.after_inReset (s : Dev) (l : Later) : (s.after l).inReset = s.inReset := rfl
@[simp] theorem Dev.after_glus (s : Dev) (l : Later) : (s.after l).glus = s.glus := rfl
@[simp] theorem Dev.after_fetches (s : Dev) (l : Later) : (s.after l).fetches = s.fetches := rfl
@[simp] theorem Dev.after_via (s : Dev) (l : Later) : (s.after l).via = s.via := rfl
@[simp] theorem Dev.after_adcs (s : Dev) (l : Later) : (s.after l).adcs = s.adcs := rfl
@[simp] theorem Dev.after_poss (s : Dev) (l : Later) : (s.after l).poss = s.poss := rfl
@[simp] theorem Dev.after_diGrps (s : Dev) (l : Later) : (s.after l).diGrps = s.diGrps := rfl
@[simp] theorem Dev.after_dis (s : Dev) (l : Later) : (s.after l).dis = s.dis := rfl
@[simp] theorem Dev.after_supply (s : Dev) (l : Later) : (s.after l).supply = s.supply := rfl
@[simp] theorem Dev.after_fuses (s : Dev) (l : Later) : (s.after l).fuses = s.fuses := rfl
@[simp] theorem Dev.after_sec (s : Dev) (l : Later) : (s.after l).sec = s.sec := rfl
@[simp] theorem Dev.after_staging (s : Dev) (l : Later) : (s.after l).staging = s.staging := rfl
@[simp] theorem Dev.after_store (s : Dev) (l : Later) : (s.after l).store = s.store := rfl
@[simp] theorem Dev.after_sysfwNext (s : Dev) (l : Later) : (s.after l).sysfwNext = s.sysfwNext := rfl
@[simp] theorem Dev.after_sysfw (s : Dev) (l : Later) : (s.after l).sysfw = s.sysfw := rfl
@[simp] theorem Dev.after_policyNext (s : Dev) (l : Later) : (s.after l).policyNext = s.policyNext := rfl
@[simp] theorem Dev.after_policyImg (s : Dev) (l : Later) : (s.after l).policyImg = s.policyImg := rfl
@[simp] theorem Dev.after_halfDigest (s : Dev) (l : Later) : (s.after l).halfDigest = s.halfDigest := rfl
@[simp] theorem Dev.after_saf (s : Dev) (l : Later) : (s.after l).saf = s.saf := rfl
@[simp] theorem Dev.after_cans (s : Dev) (l : Later) : (s.after l).cans = s.cans := rfl
@[simp] theorem Dev.after_sofBase (s : Dev) (l : Later) : (s.after l).sofBase = s.sofBase := rfl
@[simp] theorem Dev.after_duoRel (s : Dev) (l : Later) : (s.after l).duoRel = s.duoRel := rfl
@[simp] theorem Dev.after_eth (s : Dev) (l : Later) : (s.after l).eth = s.eth := rfl
@[simp] theorem Dev.after_plj (s : Dev) (l : Later) : (s.after l).plj = s.plj := rfl
@[simp] theorem Dev.after_duo (s : Dev) (l : Later) : (s.after l).duo = s.duo := rfl
@[simp] theorem Dev.after_duoOuts (s : Dev) (l : Later) : (s.after l).duoOuts = s.duoOuts := rfl
@[simp] theorem Dev.after_hostResp (s : Dev) (l : Later) : (s.after l).hostResp = s.hostResp := rfl
@[simp] theorem Dev.after_recovery (s : Dev) (l : Later) : (s.after l).recovery = s.recovery := rfl
@[simp] theorem Dev.after_power (s : Dev) (l : Later) : (s.after l).power = s.power := rfl

/-! ## answer -/

@[simp] theorem Dev.answer_regs (s : Dev) (st : BusStatus) (d : BitVec 128) : (s.answer st d).regs = s.regs := rfl
@[simp] theorem Dev.answer_latch (s : Dev) (st : BusStatus) (d : BitVec 128) : (s.answer st d).latch = s.latch := rfl
@[simp] theorem Dev.answer_staged (s : Dev) (st : BusStatus) (d : BitVec 128) : (s.answer st d).staged = s.staged := rfl
@[simp] theorem Dev.answer_ticks (s : Dev) (st : BusStatus) (d : BitVec 128) : (s.answer st d).ticks = s.ticks := rfl
@[simp] theorem Dev.answer_free (s : Dev) (st : BusStatus) (d : BitVec 128) : (s.answer st d).free = s.free := rfl
@[simp] theorem Dev.answer_points (s : Dev) (st : BusStatus) (d : BitVec 128) : (s.answer st d).points = s.points := rfl
@[simp] theorem Dev.answer_claims (s : Dev) (st : BusStatus) (d : BitVec 128) : (s.answer st d).claims = s.claims := rfl
@[simp] theorem Dev.answer_spRank (s : Dev) (st : BusStatus) (d : BitVec 128) : (s.answer st d).spRank = s.spRank := rfl
@[simp] theorem Dev.answer_start (s : Dev) (st : BusStatus) (d : BitVec 128) : (s.answer st d).start = s.start := rfl
@[simp] theorem Dev.answer_wrote (s : Dev) (st : BusStatus) (d : BitVec 128) : (s.answer st d).wrote = s.wrote := rfl
@[simp] theorem Dev.answer_hwSet (s : Dev) (st : BusStatus) (d : BitVec 128) : (s.answer st d).hwSet = s.hwSet := rfl
@[simp] theorem Dev.answer_swWrote (s : Dev) (st : BusStatus) (d : BitVec 128) : (s.answer st d).swWrote = s.swWrote := rfl
@[simp] theorem Dev.answer_later (s : Dev) (st : BusStatus) (d : BitVec 128) : (s.answer st d).later = s.later := rfl
@[simp] theorem Dev.answer_mem (s : Dev) (st : BusStatus) (d : BitVec 128) : (s.answer st d).mem = s.mem := rfl
@[simp] theorem Dev.answer_time (s : Dev) (st : BusStatus) (d : BitVec 128) : (s.answer st d).time = s.time := rfl
@[simp] theorem Dev.answer_cal (s : Dev) (st : BusStatus) (d : BitVec 128) : (s.answer st d).cal = s.cal := rfl
@[simp] theorem Dev.answer_stamps (s : Dev) (st : BusStatus) (d : BitVec 128) : (s.answer st d).stamps = s.stamps := rfl
@[simp] theorem Dev.answer_scribe (s : Dev) (st : BusStatus) (d : BitVec 128) : (s.answer st d).scribe = s.scribe := rfl
@[simp] theorem Dev.answer_recorder (s : Dev) (st : BusStatus) (d : BitVec 128) : (s.answer st d).recorder = s.recorder := rfl
@[simp] theorem Dev.answer_pool (s : Dev) (st : BusStatus) (d : BitVec 128) : (s.answer st d).pool = s.pool := rfl
@[simp] theorem Dev.answer_policy (s : Dev) (st : BusStatus) (d : BitVec 128) : (s.answer st d).policy = s.policy := rfl
@[simp] theorem Dev.answer_forces (s : Dev) (st : BusStatus) (d : BitVec 128) : (s.answer st d).forces = s.forces := rfl
@[simp] theorem Dev.answer_ctxs (s : Dev) (st : BusStatus) (d : BitVec 128) : (s.answer st d).ctxs = s.ctxs := rfl
@[simp] theorem Dev.answer_tasks (s : Dev) (st : BusStatus) (d : BitVec 128) : (s.answer st d).tasks = s.tasks := rfl
@[simp] theorem Dev.answer_engs (s : Dev) (st : BusStatus) (d : BitVec 128) : (s.answer st d).engs = s.engs := rfl
@[simp] theorem Dev.answer_timers (s : Dev) (st : BusStatus) (d : BitVec 128) : (s.answer st d).timers = s.timers := rfl
@[simp] theorem Dev.answer_counters (s : Dev) (st : BusStatus) (d : BitVec 128) : (s.answer st d).counters = s.counters := rfl
@[simp] theorem Dev.answer_aos (s : Dev) (st : BusStatus) (d : BitVec 128) : (s.answer st d).aos = s.aos := rfl
@[simp] theorem Dev.answer_dqs (s : Dev) (st : BusStatus) (d : BitVec 128) : (s.answer st d).dqs = s.dqs := rfl
@[simp] theorem Dev.answer_sent (s : Dev) (st : BusStatus) (d : BitVec 128) : (s.answer st d).sent = s.sent := rfl
@[simp] theorem Dev.answer_duoSet (s : Dev) (st : BusStatus) (d : BitVec 128) : (s.answer st d).duoSet = s.duoSet := rfl
@[simp] theorem Dev.answer_loops (s : Dev) (st : BusStatus) (d : BitVec 128) : (s.answer st d).loops = s.loops := rfl
@[simp] theorem Dev.answer_tiles (s : Dev) (st : BusStatus) (d : BitVec 128) : (s.answer st d).tiles = s.tiles := rfl
@[simp] theorem Dev.answer_halted (s : Dev) (st : BusStatus) (d : BitVec 128) : (s.answer st d).halted = s.halted := rfl
@[simp] theorem Dev.answer_mbx (s : Dev) (st : BusStatus) (d : BitVec 128) : (s.answer st d).mbx = s.mbx := rfl
@[simp] theorem Dev.answer_acks (s : Dev) (st : BusStatus) (d : BitVec 128) : (s.answer st d).acks = s.acks := rfl
@[simp] theorem Dev.answer_inReset (s : Dev) (st : BusStatus) (d : BitVec 128) : (s.answer st d).inReset = s.inReset := rfl
@[simp] theorem Dev.answer_glus (s : Dev) (st : BusStatus) (d : BitVec 128) : (s.answer st d).glus = s.glus := rfl
@[simp] theorem Dev.answer_fetches (s : Dev) (st : BusStatus) (d : BitVec 128) : (s.answer st d).fetches = s.fetches := rfl
@[simp] theorem Dev.answer_via (s : Dev) (st : BusStatus) (d : BitVec 128) : (s.answer st d).via = s.via := rfl
@[simp] theorem Dev.answer_adcs (s : Dev) (st : BusStatus) (d : BitVec 128) : (s.answer st d).adcs = s.adcs := rfl
@[simp] theorem Dev.answer_poss (s : Dev) (st : BusStatus) (d : BitVec 128) : (s.answer st d).poss = s.poss := rfl
@[simp] theorem Dev.answer_diGrps (s : Dev) (st : BusStatus) (d : BitVec 128) : (s.answer st d).diGrps = s.diGrps := rfl
@[simp] theorem Dev.answer_dis (s : Dev) (st : BusStatus) (d : BitVec 128) : (s.answer st d).dis = s.dis := rfl
@[simp] theorem Dev.answer_supply (s : Dev) (st : BusStatus) (d : BitVec 128) : (s.answer st d).supply = s.supply := rfl
@[simp] theorem Dev.answer_fuses (s : Dev) (st : BusStatus) (d : BitVec 128) : (s.answer st d).fuses = s.fuses := rfl
@[simp] theorem Dev.answer_sec (s : Dev) (st : BusStatus) (d : BitVec 128) : (s.answer st d).sec = s.sec := rfl
@[simp] theorem Dev.answer_staging (s : Dev) (st : BusStatus) (d : BitVec 128) : (s.answer st d).staging = s.staging := rfl
@[simp] theorem Dev.answer_store (s : Dev) (st : BusStatus) (d : BitVec 128) : (s.answer st d).store = s.store := rfl
@[simp] theorem Dev.answer_sysfwNext (s : Dev) (st : BusStatus) (d : BitVec 128) : (s.answer st d).sysfwNext = s.sysfwNext := rfl
@[simp] theorem Dev.answer_sysfw (s : Dev) (st : BusStatus) (d : BitVec 128) : (s.answer st d).sysfw = s.sysfw := rfl
@[simp] theorem Dev.answer_policyNext (s : Dev) (st : BusStatus) (d : BitVec 128) : (s.answer st d).policyNext = s.policyNext := rfl
@[simp] theorem Dev.answer_policyImg (s : Dev) (st : BusStatus) (d : BitVec 128) : (s.answer st d).policyImg = s.policyImg := rfl
@[simp] theorem Dev.answer_halfDigest (s : Dev) (st : BusStatus) (d : BitVec 128) : (s.answer st d).halfDigest = s.halfDigest := rfl
@[simp] theorem Dev.answer_saf (s : Dev) (st : BusStatus) (d : BitVec 128) : (s.answer st d).saf = s.saf := rfl
@[simp] theorem Dev.answer_cans (s : Dev) (st : BusStatus) (d : BitVec 128) : (s.answer st d).cans = s.cans := rfl
@[simp] theorem Dev.answer_sofBase (s : Dev) (st : BusStatus) (d : BitVec 128) : (s.answer st d).sofBase = s.sofBase := rfl
@[simp] theorem Dev.answer_duoRel (s : Dev) (st : BusStatus) (d : BitVec 128) : (s.answer st d).duoRel = s.duoRel := rfl
@[simp] theorem Dev.answer_eth (s : Dev) (st : BusStatus) (d : BitVec 128) : (s.answer st d).eth = s.eth := rfl
@[simp] theorem Dev.answer_plj (s : Dev) (st : BusStatus) (d : BitVec 128) : (s.answer st d).plj = s.plj := rfl
@[simp] theorem Dev.answer_duo (s : Dev) (st : BusStatus) (d : BitVec 128) : (s.answer st d).duo = s.duo := rfl
@[simp] theorem Dev.answer_duoOuts (s : Dev) (st : BusStatus) (d : BitVec 128) : (s.answer st d).duoOuts = s.duoOuts := rfl
@[simp] theorem Dev.answer_hostResp (s : Dev) (st : BusStatus) (d : BitVec 128) : (s.answer st d).hostResp = s.hostResp := rfl
@[simp] theorem Dev.answer_recovery (s : Dev) (st : BusStatus) (d : BitVec 128) : (s.answer st d).recovery = s.recovery := rfl
@[simp] theorem Dev.answer_power (s : Dev) (st : BusStatus) (d : BitVec 128) : (s.answer st d).power = s.power := rfl

/-! ## Registers, points, claims and bytes after a write -/

/-- A register reads back what was written. -/
@[simp] theorem Dev.reg_setReg_same (s : Dev) (a : Nat) (w : Word) : (s.setReg a w).reg a = w := by
  simp [Dev.reg, Dev.setReg]

/-- Writing a register leaves every other register. -/
theorem Dev.reg_setReg_other (s : Dev) {a b : Nat} (w : Word) (h : b ≠ a) : (s.setReg a w).reg b = s.reg b := by
  simp [Dev.reg, Dev.setReg, tabGet_put_other _ _ _ _ h]

@[simp] theorem Dev.reg_putByte (s : Dev) (a : Nat) (b : Byte) (k : Nat) : (s.putByte a b).reg k = s.reg k := rfl
@[simp] theorem Dev.reg_storePoint (s : Dev) (h : Word) (p : Pt) (k : Nat) : (s.storePoint h p).reg k = s.reg k := rfl
@[simp] theorem Dev.reg_draw (s : Dev) (k : Nat) : s.draw.reg k = s.reg k := rfl
@[simp] theorem Dev.reg_after (s : Dev) (l : Later) (k : Nat) : (s.after l).reg k = s.reg k := rfl
@[simp] theorem Dev.reg_answer (s : Dev) (st : BusStatus) (d : BitVec 128) (k : Nat) : (s.answer st d).reg k = s.reg k := rfl
@[simp] theorem Dev.byte_setReg (s : Dev) (a : Nat) (w : Word) (k : Nat) : (s.setReg a w).byte k = s.byte k := rfl
@[simp] theorem Dev.byte_storePoint (s : Dev) (h : Word) (p : Pt) (k : Nat) : (s.storePoint h p).byte k = s.byte k := rfl
@[simp] theorem Dev.point_setReg (s : Dev) (a : Nat) (w : Word) (h : Word) : (s.setReg a w).point h = s.point h := rfl
@[simp] theorem Dev.point_putByte (s : Dev) (a : Nat) (b : Byte) (h : Word) : (s.putByte a b).point h = s.point h := rfl

/-- A byte reads back what was stored. -/
@[simp] theorem Dev.byte_putByte_same (s : Dev) (a : Nat) (b : Byte) : (s.putByte a b).byte a = b := by
  simp [Dev.byte, Dev.putByte]

/-- Storing a byte leaves every other byte. -/
theorem Dev.byte_putByte_other (s : Dev) {a k : Nat} (b : Byte) (h : k ≠ a) : (s.putByte a b).byte k = s.byte k := by
  simp [Dev.byte, Dev.putByte, tabGet_put_other _ _ _ _ h]

/-- A stored point reads back. -/
@[simp] theorem Dev.point_storePoint_same (s : Dev) (h : Word) (p : Pt) : (s.storePoint h p).point h = p := by
  simp [Dev.point, Dev.storePoint]

/-- Storing a point leaves every other point. -/
theorem Dev.point_storePoint_other (s : Dev) {h k : Word} (p : Pt) (hk : k ≠ h) :
    (s.storePoint h p).point k = s.point k := by
  have : k.toNat ≠ h.toNat := fun e => hk (BitVec.eq_of_toNat_eq e)
  simp [Dev.point, Dev.storePoint, tabGet_put_other _ _ _ _ this]

/-- A claim reads back. -/
@[simp] theorem Dev.claim_setClaim_same (s : Dev) (h : Word) (w : Option Writer) : (s.setClaim h w).claim h = w := by
  simp [Dev.claim, Dev.setClaim]

end Sys2Proof.Machine
end

