-- ==== Sys2Proof/Laws/Bits.lean ====
section
/-! SUPPORT. Fields of registers: a field reads back what was set, and setting it leaves the other fields of its register
and every other register. -/

namespace Sys2Proof.Machine

/-- A field whose bits lie in a word. -/
def Fld.ok (f : Fld) : Bool := decide (f.lo ≤ f.hi) && decide (f.hi < 32)

/-- Bit `i` of a field as a number. -/
theorem testBit_bitsOf (w : Word) (hi lo i : Nat) :
    (bitsOf w hi lo).testBit i = (decide (i < hi - lo + 1) && w.getLsbD (lo + i)) := by
  simp [bitsOf, Nat.testBit_mod_two_pow, Nat.testBit_shiftRight, BitVec.getLsbD]

/-- Bit `i` of a word in which a field is replaced. -/
theorem getLsbD_putBits (w : Word) (hi lo v i : Nat) (hl : lo ≤ hi) :
    (putBits w hi lo v).getLsbD i =
      (decide (i < 32) && (if lo ≤ i ∧ i ≤ hi then v.testBit (i - lo) else w.getLsbD i)) := by
  simp only [putBits, BitVec.getLsbD_or, BitVec.getLsbD_and, BitVec.getLsbD_not, BitVec.getLsbD_ofNat,
    Nat.testBit_shiftLeft, Nat.testBit_two_pow_sub_one, Nat.testBit_mod_two_pow]
  by_cases h32 : i < 32
  · by_cases h1 : lo ≤ i
    · by_cases h2 : i ≤ hi
      · have : i - lo < hi - lo + 1 := by omega
        simp [h32, h1, h2, this]
      · have : ¬ i - lo < hi - lo + 1 := by omega
        simp [h32, h1, h2, this]
    · simp [h32, h1]
  · simp [h32]

/-- A field reads back what was put, cut to its width. -/
theorem bitsOf_putBits_same (w : Word) (hi lo v : Nat) (hl : lo ≤ hi) (hh : hi < 32) :
    bitsOf (putBits w hi lo v) hi lo = v % 2 ^ (hi - lo + 1) := by
  apply Nat.eq_of_testBit_eq
  intro i
  rw [testBit_bitsOf, getLsbD_putBits _ _ _ _ _ hl, Nat.testBit_mod_two_pow]
  by_cases h : i < hi - lo + 1
  · have h1 : lo + i ≤ hi := by omega
    have h2 : lo + i < 32 := by omega
    simp [h, h1, h2]
  · simp [h]

/-- A field that shares no bit with the one put is unchanged. -/
theorem bitsOf_putBits_other (w : Word) (hi lo hi' lo' v : Nat) (hl : lo ≤ hi) (hl' : lo' ≤ hi') (hh' : hi' < 32)
    (h : hi' < lo ∨ hi < lo') : bitsOf (putBits w hi lo v) hi' lo' = bitsOf w hi' lo' := by
  apply Nat.eq_of_testBit_eq
  intro i
  rw [testBit_bitsOf, testBit_bitsOf, getLsbD_putBits _ _ _ _ _ hl]
  by_cases hi1 : i < hi' - lo' + 1
  · have h1 : ¬ (lo ≤ lo' + i ∧ lo' + i ≤ hi) := by omega
    have h2 : lo' + i < 32 := by omega
    simp [hi1, h1, h2]
  · simp [hi1]

/-- A field set reads back its value. -/
theorem Dev.get_set_same (s : Dev) (a : Nat) (f : Fld) (v : Nat) (h : f.ok = true) (hv : v < 2 ^ (f.hi - f.lo + 1)) :
    (s.set a f v).get a f = v := by
  simp only [Fld.ok, Bool.and_eq_true, decide_eq_true_eq] at h
  simp [Dev.get, Dev.set, Fld.of, bitsOf_putBits_same _ _ _ _ h.1 h.2, Nat.mod_eq_of_lt hv]

/-- A field set leaves a field apart from it. -/
theorem Dev.get_set_field (s : Dev) (a : Nat) (f g : Fld) (v : Nat) (hf : f.ok = true) (hg : g.ok = true)
    (h : g.hi < f.lo ∨ f.hi < g.lo) : (s.set a f v).get a g = s.get a g := by
  simp only [Fld.ok, Bool.and_eq_true, decide_eq_true_eq] at hf hg
  simp [Dev.get, Dev.set, Fld.of, bitsOf_putBits_other _ _ _ _ _ _ hf.1 hg.1 hg.2 h]

/-- A field set leaves every other register. -/
theorem Dev.reg_set_other (s : Dev) {a b : Nat} (f : Fld) (v : Nat) (h : b ≠ a) : (s.set a f v).reg b = s.reg b :=
  Dev.reg_setReg_other s _ h

/-- A field set leaves the fields of every other register. -/
theorem Dev.get_set_reg (s : Dev) {a b : Nat} (f g : Fld) (v : Nat) (h : b ≠ a) : (s.set a f v).get b g = s.get b g := by
  simp [Dev.get, s.reg_set_other f v h]

/-- A field set twice keeps the second value. -/
theorem putBits_putBits (w : Word) (hi lo v v' : Nat) (hl : lo ≤ hi) :
    putBits (putBits w hi lo v) hi lo v' = putBits w hi lo v' := by
  apply BitVec.eq_of_getLsbD_eq
  intro i hi32
  rw [getLsbD_putBits _ _ _ _ _ hl, getLsbD_putBits _ _ _ _ _ hl, getLsbD_putBits _ _ _ _ _ hl]
  by_cases h : lo ≤ i ∧ i ≤ hi <;> simp [h, hi32]

/-- Setting a field changes the registers alone. -/
theorem Dev.set_regs (s : Dev) (a : Nat) (f : Fld) (v : Nat) : s.set a f v = { s with regs := (s.set a f v).regs } := rfl

/-- Raising a status bit changes the registers and the note of what hardware set. -/
theorem Dev.raise_regs (s : Dev) (a : Nat) (f : Fld) :
    s.raise a f = { s with regs := (s.raise a f).regs, hwSet := (s.raise a f).hwSet } := rfl

/-- Raising a status bit writes its register as setting it does. -/
@[simp] theorem Dev.reg_raise (s : Dev) (a : Nat) (f : Fld) (b : Nat) : (s.raise a f).reg b = (s.set a f 1).reg b := rfl

/-- A status bit raised reads 1. -/
theorem Dev.get_raise_same (s : Dev) (a : Nat) (f : Fld) (h : f.ok = true) : (s.raise a f).get a f = 1 := by
  have hv : 1 < 2 ^ (f.hi - f.lo + 1) := by
    have := Nat.pow_le_pow_right (show 1 ≤ 2 by omega) (show 1 ≤ f.hi - f.lo + 1 by omega)
    omega
  exact s.get_set_same a f 1 h hv

/-- Setting a field counts as a write of its register: `Dev.set` on the register it writes. -/
@[simp] theorem Dev.set_reg_same (s : Dev) (a : Nat) (f : Fld) (v : Nat) :
    (s.set a f v).reg a = putBits (s.reg a) f.hi f.lo v := Dev.reg_setReg_same s a _

end Sys2Proof.Machine
end

