-- ==== Sys2Proof/Laws/Does.lean ====
section
/-! SUPPORT. How a command is shown to complete: from the device operation that its meaning applies. -/

namespace Sys2Proof.Machine

/-- A command of the feeds completes as its operation says. -/
theorem Does.of_raw {c : Instr} {s : State} {f : Dev → Dev} {P : Dev → Prop} (he : exec c s = s.raw f) (hp : P (f s.dev)) :
    Does c s P := ⟨_, he, hp⟩

/-- With the supply on, a command of the logic completes as its operation says. -/
theorem Does.of_go {c : Instr} {s : State} {f : Dev → Dev} {P : Dev → Prop} (he : exec c s = s.go f) (h : s.dev.on = true)
    (hp : P (f s.dev)) : Does c s P := ⟨_, he.trans (s.go_on f h), hp⟩

/-- In control, what a unit does completes as its operation says. -/
theorem Does.of_live {c : Instr} {s : State} {f : Dev → Dev} {P : Dev → Prop} (he : exec c s = s.live f)
    (h : s.dev.on = true) (k : s.dev.halted = false) (hp : P (f s.dev)) : Does c s P := ⟨_, he.trans (s.live_on f h k), hp⟩

/-- A command that completes answers a next state. -/
theorem Does.completes {c : Instr} {s : State} {P : Dev → Prop} (h : Does c s P) : Completes c s := ⟨h.choose, h.choose_spec.1⟩

/-- What completes with a stronger property completes with a weaker one. -/
theorem Does.mono {c : Instr} {s : State} {P Q : Dev → Prop} (h : Does c s P) (i : ∀ d, P d → Q d) : Does c s Q :=
  ⟨h.choose, h.choose_spec.1, i _ h.choose_spec.2⟩

end Sys2Proof.Machine
end

