-- ==== Sys2Proof/Laws/Hl.lean ====
section
/-! SUPPORT. What an engine that is ready does with an instruction: the instruction acts on the task's bank, and its result is
put into the device. -/

namespace Sys2Proof.Machine

/-- A good line passes its checks and leaves the device. -/
theorem Dev.checkLine_good (s : Dev) (l : Nat) (h : s.poisoned l = false) (e : s.lineErrs l = 0) : s.checkLine l = (s, true) := by
  simp [Dev.checkLine, h, e, lineFind]

/-- An engine that is ready executes its instruction. -/
theorem Dev.Ready.hl_eq {s : Dev} {e t : Nat} (h : s.Ready e t) (f : HlStep) :
    s.hl e f = (s.hlPut e t (s.task e t).idx (f s e t (s.hlBank e t))).stepped e t := by
  obtain ⟨-, h2, h3, h4, h5, h6, h7, h8, h9⟩ := h
  have hr : s.hlReady e t = true := by simp [Dev.hlReady, h2, h4, h5, h6]
  have hb : (s.breakAt e (s.task e t).idx && !(s.task e t).passBrk) = false := by
    cases h7 with
    | inl h => simp [h]
    | inr h => simp [h]
  simp [Dev.hl, h3, hr, hb, Dev.hlApply, Dev.hlTry, s.checkLine_good _ h8 h9, Dev.hlBank]

/-- The single step of an engine in RUN ends nothing. -/
theorem Dev.stepped_run (s : Dev) (e t : Nat) (h : s.peMode e = 1) : s.stepped e t = s := by simp [Dev.stepped, h]

/-- An instruction that completes, on an engine that is ready. -/
theorem Dev.Ready.after {c : Instr} {s : State} {e t : Nat} {f : HlStep} {y : Dev} {k : Task} {n : Nat}
    (h : s.dev.Ready e t) (he : exec c s = s.go (·.hl e f)) (hf : f s.dev e t (s.dev.hlBank e t) = .ok y k n) :
    Does c s fun d => d = y.hlAfter e t k n :=
  Does.of_go he h.1 (by rw [h.hl_eq, hf]; rfl)

/-- An instruction on the task's bank alone, on an engine that is ready. -/
theorem Dev.Ready.banks {c : Instr} {s : State} {e t : Nat} {f : HlStep} {k : Task} {n : Nat} (h : s.dev.Ready e t)
    (he : exec c s = s.go (·.hl e f)) (hf : f s.dev e t (s.dev.hlBank e t) = .ok s.dev k n) : Banks c s e t k n :=
  (h.after he hf).mono fun d hd => by rw [hd]; exact Dev.stepped_run _ _ _ h.2.2.2.2.1

/-- An instruction that faults, on an engine that is ready. -/
theorem Dev.Ready.faults {c : Instr} {s : State} {e t : Nat} {f : HlStep} {x : HlFault} (h : s.dev.Ready e t)
    (he : exec c s = s.go (·.hl e f)) (hf : f s.dev e t (s.dev.hlBank e t) = .fault s.dev x) : Faults c s e t x :=
  Does.of_go he h.1 (by rw [h.hl_eq, hf]; rfl)

end Sys2Proof.Machine
end

