-- ==== Sys2Proof/Laws/Memory.lean ====
section
/-! SUPPORT. The laws of bank memory: every memory operation keeps its canonical form, and a write of bytes leaves every
other byte. -/

namespace Sys2Proof.Machine

/-- Storing a byte keeps the canonical form. -/
theorem Dev.wf_putByte (s : Dev) (a : Nat) (b : Byte) (h : Memory.wf s.mem = true) :
    Memory.wf (s.putByte a b).mem = true := tabWf_put (fun _ => memDefault) s.mem a b h

/-- Storing bytes keeps the canonical form. -/
theorem Dev.wf_putBytes (bs : List Byte) : ∀ (s : Dev) (a : Nat), Memory.wf s.mem = true →
    Memory.wf (s.putBytes a bs).mem = true := by
  induction bs with
  | nil => exact fun s a h => h
  | cons b bs ih => exact fun s a h => ih _ _ (s.wf_putByte a b h)

/-- Storing words keeps the canonical form. -/
theorem Dev.wf_putWords (ws : List Word) : ∀ (s : Dev) (a : Nat), Memory.wf s.mem = true →
    Memory.wf (s.putWords a ws).mem = true := by
  induction ws with
  | nil => exact fun s a h => h
  | cons w ws ih => exact fun s a h => ih _ _ (Dev.wf_putBytes _ _ _ h)

/-- Storing bytes leaves every byte outside them. -/
theorem Dev.byte_putBytes_other (bs : List Byte) : ∀ (s : Dev) (a k : Nat), (k < a ∨ a + bs.length ≤ k) →
    (s.putBytes a bs).byte k = s.byte k := by
  induction bs with
  | nil => exact fun s a k _ => rfl
  | cons b bs ih =>
    intro s a k h
    simp only [List.length_cons] at h
    have hk : k ≠ a := by omega
    show ((s.putByte a b).putBytes (a + 1) bs).byte k = _
    rw [ih _ _ _ (by omega), Dev.byte_putByte_other _ _ hk]

/-- A stored byte reads back. -/
theorem Dev.byte_putBytes_at (bs : List Byte) : ∀ (s : Dev) (a i : Nat) (h : i < bs.length),
    (s.putBytes a bs).byte (a + i) = bs[i] := by
  induction bs with
  | nil => intro s a i h; simp at h
  | cons b bs ih =>
    intro s a i h
    show ((s.putByte a b).putBytes (a + 1) bs).byte (a + i) = _
    cases i with
    | zero =>
      rw [Dev.byte_putBytes_other _ _ _ _ (.inl (by omega))]
      simp
    | succ i =>
      have := ih (s.putByte a b) (a + 1) i (by simpa using h)
      simpa [Nat.add_assoc, Nat.add_comm 1 i] using this

/-- Storing bytes changes memory alone. -/
theorem Dev.putBytes_frame (bs : List Byte) : ∀ (s : Dev) (a : Nat), ∃ m, s.putBytes a bs = { s with mem := m } := by
  induction bs with
  | nil => exact fun s a => ⟨s.mem, rfl⟩
  | cons b bs ih =>
    intro s a
    obtain ⟨m, hm⟩ := ih (s.putByte a b) (a + 1)
    exact ⟨m, hm⟩

/-- Storing bytes leaves the registers. -/
@[simp] theorem Dev.reg_putBytes (s : Dev) (a : Nat) (bs : List Byte) (k : Nat) : (s.putBytes a bs).reg k = s.reg k := by
  obtain ⟨m, hm⟩ := s.putBytes_frame bs a
  simp [hm, Dev.reg]

theorem tabAbove_filter (p : Nat × Byte → Bool) : ∀ (b : Option Nat) (t : Tab Byte), tabAbove b t = true →
    tabAbove b (t.filter p) = true := by
  intro b t
  induction t generalizing b with
  | nil => exact fun h => h
  | cons c t ih =>
    obtain ⟨k, v⟩ := c
    intro h
    simp only [tabAbove, Bool.and_eq_true] at h
    by_cases hp : p (k, v) = true
    · simp only [List.filter, hp, tabAbove, Bool.and_eq_true]
      exact ⟨h.1, ih _ h.2⟩
    · simp only [List.filter, hp]
      have h' := ih _ h.2
      cases b with
      | none =>
        revert h'; generalize t.filter p = u
        cases u with
        | nil => exact fun _ => rfl
        | cons c u => intro hh; simp only [tabAbove, Bool.and_eq_true] at hh ⊢; exact ⟨trivial, hh.2⟩
      | some b => exact tabAbove_mono (Nat.le_of_lt (by simpa using h.1)) h'

theorem tabLean_filter (d : Nat → Byte) (p : Nat × Byte → Bool) : ∀ (t : Tab Byte), tabLean d t = true →
    tabLean d (t.filter p) = true := by
  intro t
  induction t with
  | nil => exact fun h => h
  | cons c t ih =>
    intro h
    simp only [tabLean, Bool.and_eq_true] at h
    by_cases hp : p c = true
    · simp only [List.filter, hp, tabLean, Bool.and_eq_true]; exact ⟨h.1, ih h.2⟩
    · simp only [List.filter, hp]; exact ih h.2

/-- Dropping cells keeps the canonical form. -/
theorem Memory.wf_filter (m : List Host.Cell) (p : Host.Cell → Bool) (h : Memory.wf m = true) :
    Memory.wf (m.filter p) = true := by
  simp only [Memory.wf, tabWf, Bool.and_eq_true] at h ⊢
  exact ⟨tabAbove_filter _ _ _ h.1, tabLean_filter _ _ _ h.2⟩

/-- Wiping a bank keeps the canonical form. -/
theorem Dev.wf_zeroBank (s : Dev) (b : Nat) (h : Memory.wf s.mem = true) : Memory.wf (s.zeroBank b).mem = true :=
  Memory.wf_filter _ _ h

theorem Dev.wf_foldl_putByte (cs : List Host.Cell) (f : Nat → Nat) : ∀ (s : Dev), Memory.wf s.mem = true →
    Memory.wf (cs.foldl (fun s c => s.putByte (f c.1) c.2) s).mem = true := by
  induction cs with
  | nil => exact fun s h => h
  | cons c cs ih => exact fun s h => ih _ (s.wf_putByte _ _ h)

/-- Copying a bank keeps the canonical form. -/
theorem Dev.wf_copyBank (s : Dev) (src dst : Nat) (h : Memory.wf s.mem = true) :
    Memory.wf (s.copyBank src dst).mem = true :=
  Dev.wf_foldl_putByte _ (fun a => bankBase dst + a % 0x80000) _ (s.wf_zeroBank dst h)

/-- Writing a line changes its bytes and clears its errors and poison. -/
theorem Dev.wf_putLine (s : Dev) (l : Nat) (bs : List Byte) (h : Memory.wf s.mem = true) :
    Memory.wf (s.putLine l bs).mem = true := Dev.wf_putBytes _ _ _ h

/-- Counting, raising and offering leave memory alone. -/
@[simp] theorem Dev.set_mem (s : Dev) (a : Nat) (f : Fld) (v : Nat) : (s.set a f v).mem = s.mem := rfl
@[simp] theorem Dev.count_mem (s : Dev) (a : Nat) (f : Fld) (n : Nat) : (s.count a f n).mem = s.mem := rfl
@[simp] theorem Dev.raise_mem (s : Dev) (a : Nat) (f : Fld) : (s.raise a f).mem = s.mem := rfl
@[simp] theorem Dev.offer_mem (s : Dev) (a b : Nat) (e : Ev) : (s.offer a b e).mem = s.mem := rfl
@[simp] theorem Dev.poisonLine_mem (s : Dev) (l : Nat) : (s.poisonLine l).mem = s.mem := rfl

/-- A corrected read leaves memory alone. -/
@[simp] theorem Dev.correctedRead_mem (s : Dev) (l : Nat) : (s.correctedRead l).mem = s.mem := by
  unfold Dev.correctedRead
  dsimp only
  split <;> rfl

/-- Reading a line leaves memory alone. -/
@[simp] theorem Dev.checkLine_mem (s : Dev) (l : Nat) : (s.checkLine l).1.mem = s.mem := by
  unfold Dev.checkLine
  split
  · rfl
  · split <;> simp

@[simp] theorem Dev.readMem_mem (s : Dev) (a n : Nat) : (s.readMem a n).1.mem = s.mem := by
  have := s.checkLine_mem (lineOf a)
  unfold Dev.readMem
  split <;> simp_all

/-- A write within a line keeps the canonical form. -/
theorem Dev.wf_writeMem (s : Dev) (a : Nat) (bs : List Byte) (h : Memory.wf s.mem = true) :
    Memory.wf (s.writeMem a bs).1.mem = true := by
  have hc := s.checkLine_mem (lineOf a)
  unfold Dev.writeMem
  dsimp only
  split
  · exact s.wf_putLine _ _ h
  · split
    · rename_i x e
      rw [e] at hc
      exact Dev.wf_putBytes _ _ _ (by rw [hc]; exact h)
    · rename_i x e
      rw [e] at hc
      rw [hc]; exact h

/-- Handing a bank over keeps the canonical form. -/
theorem Dev.wf_handOver (s : Dev) (b code : Nat) (wipe : Bool) (u p : Nat) (h : Memory.wf s.mem = true) :
    Memory.wf (s.handOver b code wipe u p).mem = true := by
  unfold Dev.handOver
  dsimp only
  split
  · exact Dev.wf_zeroBank _ _ h
  · exact h

/-- The memory of a block just reset is in canonical form. -/
theorem reset_memCanonical : State.reset.dev.MemCanonical := ⟨rfl, rfl⟩

end Sys2Proof.Machine
end

