-- ==== Sys2Proof/Laws/Loop.lean ====
section
/-! SUPPORT. What an operation on a loop slot changes beside its own effect: the slot's lines in the tile's bank (R152). -/

namespace Sys2Proof.Machine

/-- A property that every turn of a fold keeps holds at its end. -/
theorem foldl_keeps {α β : Type} (P : α → Prop) (f : α → β → α) :
    ∀ (l : List β) (a : α), (∀ a b, b ∈ l → P a → P (f a b)) → P a → P (l.foldl f a) := by
  intro l
  induction l with
  | nil => exact fun a _ ha => ha
  | cons b l ih =>
    exact fun a h ha => ih _ (fun a c hc => h a c (List.mem_cons_of_mem _ hc)) (h a b List.mem_cons_self ha)

/-- `d` differs from `s` in memory and pool alone, and there in the `n` bytes from `a` alone. -/
def Dev.MemOnly (s d : Dev) (a n : Nat) : Prop :=
  (∃ m p, d = { s with mem := m, pool := p }) ∧ s.BytesKept d a n

theorem Dev.MemOnly.refl (s : Dev) (a n : Nat) : s.MemOnly s a n := ⟨⟨s.mem, s.pool, rfl⟩, fun _ _ => rfl⟩

theorem Dev.MemOnly.trans {s t u : Dev} {a n : Nat} (h : s.MemOnly t a n) (k : t.MemOnly u a n) : s.MemOnly u a n := by
  obtain ⟨⟨m, p, rfl⟩, hb⟩ := h
  obtain ⟨⟨m', p', rfl⟩, hb'⟩ := k
  exact ⟨⟨m', p', rfl⟩, fun i hi => (hb' i hi).trans (hb i hi)⟩

theorem Dev.slotLine_length (s : Dev) (g k : Nat) : ((s.slotLine g k).flatMap (fun w => leBytes 4 w.toNat)).length = 16 := rfl

/-- Writing a line replaces its sixteen bytes. -/
theorem Dev.putLine_memOnly (s : Dev) (l : Nat) (bs : List Byte) (h : bs.length = 16) : s.MemOnly (s.putLine l bs) (l * 16) 16 := by
  obtain ⟨m, hm⟩ := s.putBytes_frame bs (l * 16)
  refine ⟨⟨m, (s.putLine l bs).pool, ?_⟩, fun k hk => ?_⟩
  · simp only [Dev.putLine, hm]
  · have := s.byte_putBytes_other bs (l * 16) k (by omega)
    exact this

/-- A line that the slot writes through. -/
theorem Dev.slotThrough_memOnly (s : Dev) (g k : Nat) (hk : k < 11) : s.MemOnly (s.slotThrough g k) (s.slotHome g) 176 := by
  have h16 : s.slotHome g / 16 * 16 = s.slotHome g := by
    show (_ * 0x80000 + _ * 256) / 16 * 16 = _ * 0x80000 + _ * 256
    omega
  have h := s.putLine_memOnly (s.slotHome g / 16 + k) _ (s.slotLine_length g k)
  obtain ⟨⟨m, p, hm⟩, hb⟩ := h
  have e : s.slotThrough g k = { s.putLine (s.slotHome g / 16 + k) ((s.slotLine g k).flatMap (fun w => leBytes 4 w.toNat))
      with pool := (s.slotThrough g k).pool } := rfl
  have hd := e.trans (by rw [hm])
  refine ⟨⟨m, _, hd⟩, fun i hi => ?_⟩
  have : (s.slotThrough g k).byte i = (s.putLine (s.slotHome g / 16 + k) _).byte i := rfl
  rw [this]
  exact hb i (by omega)

/-- What `slotDo` adds to the effect it carries out. -/
theorem Dev.slotDo_memOnly (s : Dev) (g : Nat) (f : Dev → Dev) : (f s).MemOnly (s.slotDo g f) ((f s).slotHome g) 176 := by
  unfold Dev.slotDo
  simp only
  split
  · refine foldl_keeps (fun u => (f s).MemOnly u ((f s).slotHome g) 176) _ (upto 11) (f s) (fun u k hk hu => ?_)
      (Dev.MemOnly.refl _ _ _)
    split
    · exact hu
    · have hh : u.slotHome g = (f s).slotHome g := by
        obtain ⟨⟨m, p, rfl⟩, _⟩ := hu
        rfl
      exact hu.trans (hh ▸ u.slotThrough_memOnly g k (by simpa [upto] using hk))
  · exact Dev.MemOnly.refl _ _ _

@[simp] theorem Dev.reg_onLoop (s : Dev) (g : Nat) (f : Loop → Loop) (a : Nat) : (s.onLoop g f).reg a = s.reg a := rfl
@[simp] theorem Dev.get_onLoop (s : Dev) (g : Nat) (f : Loop → Loop) (a : Nat) (x : Fld) : (s.onLoop g f).get a x = s.get a x := rfl
@[simp] theorem Dev.loop_onLoop_same (s : Dev) (g : Nat) (f : Loop → Loop) : (s.onLoop g f).loop g = f (s.loop g) := by
  simp [Dev.loop, Dev.onLoop]
theorem Dev.loop_onLoop_other (s : Dev) {g k : Nat} (f : Loop → Loop) (h : k ≠ g) : (s.onLoop g f).loop k = s.loop k := by
  simp [Dev.loop, Dev.onLoop, tabGet_put_other _ _ _ _ h]
@[simp] theorem Dev.loop_set (s : Dev) (a : Nat) (f : Fld) (v g : Nat) : (s.set a f v).loop g = s.loop g := rfl

/-- Operations with one result on a slot are written through alike. -/
theorem Dev.slotDo_congr (s : Dev) (g : Nat) {f h : Dev → Dev} (e : f s = h s) : s.slotDo g f = s.slotDo g h := by
  unfold Dev.slotDo
  simp only [e]

theorem Dev.MemOnly.eq {s d : Dev} {a n : Nat} (h : s.MemOnly d a n) : d = { s with mem := d.mem, pool := d.pool } := by
  obtain ⟨⟨m, p, rfl⟩, _⟩ := h
  rfl
theorem Dev.MemOnly.regs {s d : Dev} {a n : Nat} (h : s.MemOnly d a n) : d.regs = s.regs := by
  obtain ⟨⟨m, p, rfl⟩, _⟩ := h
  rfl
theorem Dev.MemOnly.loop {s d : Dev} {a n : Nat} (h : s.MemOnly d a n) (g : Nat) : d.loop g = s.loop g := by
  obtain ⟨⟨m, p, rfl⟩, _⟩ := h
  rfl
theorem Dev.MemOnly.tile {s d : Dev} {a n : Nat} (h : s.MemOnly d a n) (k : Nat) : d.tile k = s.tile k := by
  obtain ⟨⟨m, p, rfl⟩, _⟩ := h
  rfl
theorem Dev.MemOnly.reg {s d : Dev} {a n : Nat} (h : s.MemOnly d a n) (k : Nat) : d.reg k = s.reg k := by
  simp [Dev.reg, h.regs]
theorem Dev.MemOnly.get {s d : Dev} {a n : Nat} (h : s.MemOnly d a n) (k : Nat) (f : Fld) : d.get k f = s.get k f := by
  simp [Dev.get, h.reg]

/-- Bytes kept from a device of the same memory. -/
theorem Dev.BytesKept.of_mem {s t d : Dev} {a n : Nat} (h : t.BytesKept d a n) (k : t.mem = s.mem) : s.BytesKept d a n :=
  fun i hi => (h i hi).trans (by simp [Dev.byte, k])

/-- A request to a slot whose bank is accepted. -/
theorem Dev.slotRequest_accepted (s : Dev) (g req : Nat) (glu : Option Nat) (h : (s.tile (g / 64)).accepted = true) :
    s.slotRequest g req glu = s.slotDo g (·.slotPut g req glu) := s.slotDo_congr g (by simp [h])

/-- A request changes the registers and the slot's hidden state. -/
theorem Dev.slotPut_eq (s : Dev) (g req : Nat) (glu : Option Nat) :
    s.slotPut g req glu = { s with regs := (s.slotPut g req glu).regs, loops := (s.slotPut g req glu).loops } := by
  by_cases h : req = 7 <;> cases glu <;> simp only [Dev.slotPut, h, if_true, if_false] <;> rfl

/-- The slot's registers lie apart from each other and from the tile's. -/
theorem slotStat_ne_ctl (g : Nat) : slotStat g ≠ A.LT_SLOT_CTL (g / 64) (g % 64) := by
  simp only [slotStat, A.LT_SLOT_STAT, A.LT_SLOT_CTL]
  omega
theorem ltCfg_ne_stat (g : Nat) : A.LT_CFG (g / 64) ≠ slotStat g := by
  simp only [A.LT_CFG, slotStat, A.LT_SLOT_STAT]
  omega
theorem ltCfg_ne_ctl (g : Nat) : A.LT_CFG (g / 64) ≠ A.LT_SLOT_CTL (g / 64) (g % 64) := by
  simp only [A.LT_CFG, A.LT_SLOT_CTL]
  omega

end Sys2Proof.Machine
end

