-- ==== Sys2Proof/Laws/PerInstr.lean ====
section
/-! SUPPORT. What holds of every command as syntax: no well-formed command carries more than the 40 MiB of the pool. One lemma per
constructor. -/

namespace Sys2Proof.Laws.Load

/-- A well-formed command carries at most the whole pool. -/
def Statement (i : Instr) : Prop := i.wf = true → i.load ≤ 80 * 0x80000

theorem mirror_load (m : Mirror) (h : m.wf = true) : m.load ≤ 80 * 0x80000 := by
  cases m <;> simp_all [Mirror.wf, Mirror.load] <;> omega

theorem registerWrite (acc : Acc) (off : BitVec 26) (v : Word) : Statement (.registerWrite acc off v) := fun _ => Nat.zero_le _
theorem undefinedAccess (acc : Acc) (off : BitVec 26) (size : Nat) (write : Bool) : Statement (.undefinedAccess acc off size write) := fun _ => Nat.zero_le _
theorem uViewViolation (req : Fin 15) (off : BitVec 26) (write : Bool) : Statement (.uViewViolation req off write) := fun _ => Nat.zero_le _
theorem uviolClr : Statement (.uviolClr) := fun _ => Nat.zero_le _
theorem readLoLatch (req : Fin 15) (off : BitVec 26) : Statement (.readLoLatch req off) := fun _ => Nat.zero_le _
theorem stageLo (req : Fin 15) (off : BitVec 26) (v : Word) : Statement (.stageLo req off v) := fun _ => Nat.zero_le _
theorem commitHi (acc : Acc) (off : BitVec 26) (v : Word) : Statement (.commitHi acc off v) := fun _ => Nat.zero_le _
theorem timeNowRead (req : Fin 15) : Statement (.timeNowRead req) := fun _ => Nat.zero_le _
theorem addendCommit (req : Fin 15) (v : Word) : Statement (.addendCommit req v) := fun _ => Nat.zero_le _
theorem timeStep (req : Fin 15) (v : Word) : Statement (.timeStep req v) := fun _ => Nat.zero_le _
theorem ofsEstWrite (v : Word) : Statement (.ofsEstWrite v) := fun _ => Nat.zero_le _
theorem seed : Statement (.seed) := fun _ => Nat.zero_le _
theorem seedApply : Statement (.seedApply) := fun _ => Nat.zero_le _
theorem calCommit (req : Fin 15) (v : Word) : Statement (.calCommit req v) := fun _ => Nat.zero_le _
theorem calLoad : Statement (.calLoad) := fun _ => Nat.zero_le _
theorem calTickRead (req : Fin 15) : Statement (.calTickRead req) := fun _ => Nat.zero_le _
theorem secondCrossing : Statement (.secondCrossing) := fun _ => Nat.zero_le _
theorem calWriteback : Statement (.calWriteback) := fun _ => Nat.zero_le _
theorem ppsFall : Statement (.ppsFall) := fun _ => Nat.zero_le _
theorem comparatorFire (n : Fin 64) : Statement (.comparatorFire n) := fun _ => Nat.zero_le _
theorem trgOutPulseEnd (n : Fin 64) : Statement (.trgOutPulseEnd n) := fun _ => Nat.zero_le _
theorem captureEdge (inp : Fin 5) (rising : Bool) (ps : Fin 4000) : Statement (.captureEdge inp rising ps) := fun _ => Nat.zero_le _
theorem cuPop (n : Fin 32) : Statement (.cuPop n) := fun _ => Nat.zero_le _
theorem cuClr (n : Fin 32) : Statement (.cuClr n) := fun _ => Nat.zero_le _
theorem windowAccess (acc : Acc) (addr : BitVec 26) (size : Fin 17) (data : Option (BitVec 128)) (same : Bool) : Statement (.windowAccess acc addr size data same) := fun _ => Nat.zero_le _
theorem scrubRead (bank : Fin 80) (bits : Fin 146) : Statement (.scrubRead bank bits) := fun _ => Nat.zero_le _
theorem scrubWriteback (bank : Fin 80) : Statement (.scrubWriteback bank) := fun _ => Nat.zero_le _
theorem relreq (bank : Fin 80) : Statement (.relreq bank) := fun _ => Nat.zero_le _
theorem relcan (bank : Fin 80) : Statement (.relcan bank) := fun _ => Nat.zero_le _
theorem bankRelease (bank : Fin 80) : Statement (.bankRelease bank) := fun _ => Nat.zero_le _
theorem ownerWrite (bank : Fin 80) (v : Word) : Statement (.ownerWrite bank v) := fun _ => Nat.zero_le _
theorem wipeDone (bank : Fin 80) : Statement (.wipeDone bank) := fun _ => Nat.zero_le _
theorem jigGo (v : Word) : Statement (.jigGo v) := fun _ => Nat.zero_le _
theorem jigDone (fails : List (Fin 32768)) : Statement (.jigDone fails) := fun _ => Nat.zero_le _
theorem jigBgRegion (fails : List (Fin 80 × Fin 32768)) : Statement (.jigBgRegion fails) := fun _ => Nat.zero_le _
theorem pageAlloc : Statement (.pageAlloc) := fun _ => Nat.zero_le _
theorem pageFree (sub : Fin 81) (page : Fin 10240) : Statement (.pageFree sub page) := fun _ => Nat.zero_le _
theorem codeWrite (e : Fin 8) (v : Word) : Statement (.codeWrite e v) := fun _ => Nat.zero_le _
theorem regionWrite (e : Fin 8) (q : Bool) (k : Fin 16) (v : Word) : Statement (.regionWrite e q k v) := fun _ => Nat.zero_le _
theorem taskMaskWrite (e : Fin 8) (t : Fin 16) (v : Word) : Statement (.taskMaskWrite e t v) := fun _ => Nat.zero_le _
theorem taskEnable (e : Fin 8) (t : Fin 16) (v : Word) : Statement (.taskEnable e t v) := fun _ => Nat.zero_le _
theorem tcresWrite (e : Fin 8) (v : Word) : Statement (.tcresWrite e v) := fun _ => Nat.zero_le _
theorem mmapWrite (k : Fin 8) (v : Word) : Statement (.mmapWrite k v) := fun _ => Nat.zero_le _
theorem reqRun (e : Fin 8) : Statement (.reqRun e) := fun _ => Nat.zero_le _
theorem reqStop (e : Fin 8) : Statement (.reqStop e) := fun _ => Nat.zero_le _
theorem reqHold (e : Fin 8) : Statement (.reqHold e) := fun _ => Nat.zero_le _
theorem engineStop (e : Fin 8) : Statement (.engineStop e) := fun _ => Nat.zero_le _
theorem engineWake (e : Fin 8) : Statement (.engineWake e) := fun _ => Nat.zero_le _
theorem taskStart (e : Fin 8) : Statement (.taskStart e) := fun _ => Nat.zero_le _
theorem taskResume (e : Fin 8) : Statement (.taskResume e) := fun _ => Nat.zero_le _
theorem watchdogExpiry (e : Fin 8) : Statement (.watchdogExpiry e) := fun _ => Nat.zero_le _
theorem dbgStep (e : Fin 8) : Statement (.dbgStep e) := fun _ => Nat.zero_le _
theorem dbgCyc (e : Fin 8) : Statement (.dbgCyc e) := fun _ => Nat.zero_le _
theorem brkWrite (e : Fin 8) (k : Fin 8) (v : Word) : Statement (.brkWrite e k v) := fun _ => Nat.zero_le _
theorem hlLd (e : Fin 8) (op : BmOp) : Statement (.hlLd e op) := fun _ => Nat.zero_le _
theorem hlLdn (e : Fin 8) (op : BmOp) : Statement (.hlLdn e op) := fun _ => Nat.zero_le _
theorem hlBmAnd (e : Fin 8) (op : BmOp) : Statement (.hlBmAnd e op) := fun _ => Nat.zero_le _
theorem hlBmAndn (e : Fin 8) (op : BmOp) : Statement (.hlBmAndn e op) := fun _ => Nat.zero_le _
theorem hlBmOr (e : Fin 8) (op : BmOp) : Statement (.hlBmOr e op) := fun _ => Nat.zero_le _
theorem hlOrn (e : Fin 8) (op : BmOp) : Statement (.hlOrn e op) := fun _ => Nat.zero_le _
theorem hlBmXor (e : Fin 8) (op : BmOp) : Statement (.hlBmXor e op) := fun _ => Nat.zero_le _
theorem hlXorn (e : Fin 8) (op : BmOp) : Statement (.hlXorn e op) := fun _ => Nat.zero_le _
theorem hlSt (e : Fin 8) (op : BmOp) : Statement (.hlSt e op) := fun _ => Nat.zero_le _
theorem hlStn (e : Fin 8) (op : BmOp) : Statement (.hlStn e op) := fun _ => Nat.zero_le _
theorem hlSet (e : Fin 8) (op : BmOp) : Statement (.hlSet e op) := fun _ => Nat.zero_le _
theorem hlRst (e : Fin 8) (op : BmOp) : Statement (.hlRst e op) := fun _ => Nat.zero_le _
theorem hlPld (e : Fin 8) (op : BmOp) : Statement (.hlPld e op) := fun _ => Nat.zero_le _
theorem hlPldn (e : Fin 8) (op : BmOp) : Statement (.hlPldn e op) := fun _ => Nat.zero_le _
theorem hlRedg (e : Fin 8) (op : BmOp) : Statement (.hlRedg e op) := fun _ => Nat.zero_le _
theorem hlFedg (e : Fin 8) (op : BmOp) : Statement (.hlFedg e op) := fun _ => Nat.zero_le _
theorem hlNop (e : Fin 8) : Statement (.hlNop e) := fun _ => Nat.zero_le _
theorem hlEnd (e : Fin 8) : Statement (.hlEnd e) := fun _ => Nat.zero_le _
theorem hlBkpt (e : Fin 8) : Statement (.hlBkpt e) := fun _ => Nat.zero_le _
theorem hlRet (e : Fin 8) : Statement (.hlRet e) := fun _ => Nat.zero_le _
theorem hlPush (e : Fin 8) : Statement (.hlPush e) := fun _ => Nat.zero_le _
theorem hlPop (e : Fin 8) : Statement (.hlPop e) := fun _ => Nat.zero_le _
theorem hlAnds (e : Fin 8) : Statement (.hlAnds e) := fun _ => Nat.zero_le _
theorem hlOrs (e : Fin 8) : Statement (.hlOrs e) := fun _ => Nat.zero_le _
theorem hlXors (e : Fin 8) : Statement (.hlXors e) := fun _ => Nat.zero_le _
theorem hlNotba (e : Fin 8) : Statement (.hlNotba e) := fun _ => Nat.zero_le _
theorem hlSetba (e : Fin 8) : Statement (.hlSetba e) := fun _ => Nat.zero_le _
theorem hlClrba (e : Fin 8) : Statement (.hlClrba e) := fun _ => Nat.zero_le _
theorem hlZtb (e : Fin 8) : Statement (.hlZtb e) := fun _ => Nat.zero_le _
theorem hlNtb (e : Fin 8) : Statement (.hlNtb e) := fun _ => Nat.zero_le _
theorem hlVtb (e : Fin 8) : Statement (.hlVtb e) := fun _ => Nat.zero_le _
theorem hlCtb (e : Fin 8) : Statement (.hlCtb e) := fun _ => Nat.zero_le _
theorem hlClrf (e : Fin 8) : Statement (.hlClrf e) := fun _ => Nat.zero_le _
theorem hlAdd (e : Fin 8) (d x y : Fin 16) : Statement (.hlAdd e d x y) := fun _ => Nat.zero_le _
theorem hlAdc (e : Fin 8) (d x y : Fin 16) : Statement (.hlAdc e d x y) := fun _ => Nat.zero_le _
theorem hlSub (e : Fin 8) (d x y : Fin 16) : Statement (.hlSub e d x y) := fun _ => Nat.zero_le _
theorem hlSbc (e : Fin 8) (d x y : Fin 16) : Statement (.hlSbc e d x y) := fun _ => Nat.zero_le _
theorem hlAnd (e : Fin 8) (d x y : Fin 16) : Statement (.hlAnd e d x y) := fun _ => Nat.zero_le _
theorem hlOr (e : Fin 8) (d x y : Fin 16) : Statement (.hlOr e d x y) := fun _ => Nat.zero_le _
theorem hlXor (e : Fin 8) (d x y : Fin 16) : Statement (.hlXor e d x y) := fun _ => Nat.zero_le _
theorem hlAndn (e : Fin 8) (d x y : Fin 16) : Statement (.hlAndn e d x y) := fun _ => Nat.zero_le _
theorem hlNot (e : Fin 8) (d x : Fin 16) : Statement (.hlNot e d x) := fun _ => Nat.zero_le _
theorem hlNeg (e : Fin 8) (d x : Fin 16) : Statement (.hlNeg e d x) := fun _ => Nat.zero_le _
theorem hlAbs (e : Fin 8) (d x : Fin 16) : Statement (.hlAbs e d x) := fun _ => Nat.zero_le _
theorem hlMov (e : Fin 8) (d x : Fin 16) : Statement (.hlMov e d x) := fun _ => Nat.zero_le _
theorem hlMin (e : Fin 8) (d x y : Fin 16) : Statement (.hlMin e d x y) := fun _ => Nat.zero_le _
theorem hlMax (e : Fin 8) (d x y : Fin 16) : Statement (.hlMax e d x y) := fun _ => Nat.zero_le _
theorem hlMinu (e : Fin 8) (d x y : Fin 16) : Statement (.hlMinu e d x y) := fun _ => Nat.zero_le _
theorem hlMaxu (e : Fin 8) (d x y : Fin 16) : Statement (.hlMaxu e d x y) := fun _ => Nat.zero_le _
theorem hlMul (e : Fin 8) (d x y : Fin 16) : Statement (.hlMul e d x y) := fun _ => Nat.zero_le _
theorem hlMulh (e : Fin 8) (d x y : Fin 16) : Statement (.hlMulh e d x y) := fun _ => Nat.zero_le _
theorem hlMulhu (e : Fin 8) (d x y : Fin 16) : Statement (.hlMulhu e d x y) := fun _ => Nat.zero_le _
theorem hlDiv (e : Fin 8) (d x y : Fin 16) : Statement (.hlDiv e d x y) := fun _ => Nat.zero_le _
theorem hlDivu (e : Fin 8) (d x y : Fin 16) : Statement (.hlDivu e d x y) := fun _ => Nat.zero_le _
theorem hlRem (e : Fin 8) (d x y : Fin 16) : Statement (.hlRem e d x y) := fun _ => Nat.zero_le _
theorem hlRemu (e : Fin 8) (d x y : Fin 16) : Statement (.hlRemu e d x y) := fun _ => Nat.zero_le _
theorem hlAddi (e : Fin 8) (d x : Fin 16) (imm : BitVec 14) : Statement (.hlAddi e d x imm) := fun _ => Nat.zero_le _
theorem hlAndi (e : Fin 8) (d x : Fin 16) (imm : BitVec 14) : Statement (.hlAndi e d x imm) := fun _ => Nat.zero_le _
theorem hlOri (e : Fin 8) (d x : Fin 16) (imm : BitVec 14) : Statement (.hlOri e d x imm) := fun _ => Nat.zero_le _
theorem hlXori (e : Fin 8) (d x : Fin 16) (imm : BitVec 14) : Statement (.hlXori e d x imm) := fun _ => Nat.zero_le _
theorem hlMuli (e : Fin 8) (d x : Fin 16) (imm : BitVec 14) : Statement (.hlMuli e d x imm) := fun _ => Nat.zero_le _
theorem hlMovi (e : Fin 8) (d : Fin 16) (imm : BitVec 16) : Statement (.hlMovi e d imm) := fun _ => Nat.zero_le _
theorem hlMovu (e : Fin 8) (d : Fin 16) (imm : BitVec 16) : Statement (.hlMovu e d imm) := fun _ => Nat.zero_le _
theorem hlMovh (e : Fin 8) (d : Fin 16) (imm : BitVec 16) : Statement (.hlMovh e d imm) := fun _ => Nat.zero_le _
theorem hlIcmp (e : Fin 8) (p : Bool) (cond : Fin 10) (x y : Fin 16) : Statement (.hlIcmp e p cond x y) := fun _ => Nat.zero_le _
theorem hlIcmpi (e : Fin 8) (p : Bool) (cond : Fin 8) (x : Fin 16) (imm : BitVec 14) : Statement (.hlIcmpi e p cond x imm) := fun _ => Nat.zero_le _
theorem hlShl (e : Fin 8) (d x y : Fin 16) : Statement (.hlShl e d x y) := fun _ => Nat.zero_le _
theorem hlShr (e : Fin 8) (d x y : Fin 16) : Statement (.hlShr e d x y) := fun _ => Nat.zero_le _
theorem hlSar (e : Fin 8) (d x y : Fin 16) : Statement (.hlSar e d x y) := fun _ => Nat.zero_le _
theorem hlRol (e : Fin 8) (d x y : Fin 16) : Statement (.hlRol e d x y) := fun _ => Nat.zero_le _
theorem hlShli (e : Fin 8) (d x : Fin 16) (n : Fin 32) : Statement (.hlShli e d x n) := fun _ => Nat.zero_le _
theorem hlShri (e : Fin 8) (d x : Fin 16) (n : Fin 32) : Statement (.hlShri e d x n) := fun _ => Nat.zero_le _
theorem hlSari (e : Fin 8) (d x : Fin 16) (n : Fin 32) : Statement (.hlSari e d x n) := fun _ => Nat.zero_le _
theorem hlRoli (e : Fin 8) (d x : Fin 16) (n : Fin 32) : Statement (.hlRoli e d x n) := fun _ => Nat.zero_le _
theorem hlLdb (e : Fin 8) (x : Fin 16) (n : Fin 32) : Statement (.hlLdb e x n) := fun _ => Nat.zero_le _
theorem hlPldb (e : Fin 8) (x : Fin 16) (n : Fin 32) : Statement (.hlPldb e x n) := fun _ => Nat.zero_le _
theorem hlStb (e : Fin 8) (d : Fin 16) (n : Fin 32) : Statement (.hlStb e d n) := fun _ => Nat.zero_le _
theorem hlBtw (e : Fin 8) (d : Fin 16) : Statement (.hlBtw e d) := fun _ => Nat.zero_le _
theorem hlWtb (e : Fin 8) (x : Fin 16) : Statement (.hlWtb e x) := fun _ => Nat.zero_le _
theorem hlAndb (e : Fin 8) (x : Fin 16) (n : Fin 32) : Statement (.hlAndb e x n) := fun _ => Nat.zero_le _
theorem hlOrb (e : Fin 8) (x : Fin 16) (n : Fin 32) : Statement (.hlOrb e x n) := fun _ => Nat.zero_le _
theorem hlLdw (e : Fin 8) (d : Fin 16) (sp : Fin 8) (addr : BitVec 19) : Statement (.hlLdw e d sp addr) := fun _ => Nat.zero_le _
theorem hlStw (e : Fin 8) (d : Fin 16) (sp : Fin 8) (addr : BitVec 19) : Statement (.hlStw e d sp addr) := fun _ => Nat.zero_le _
theorem hlLdx (e : Fin 8) (d : Fin 16) (sp : Fin 8) (wb : Fin 16) (ofs : BitVec 15) : Statement (.hlLdx e d sp wb ofs) := fun _ => Nat.zero_le _
theorem hlStx (e : Fin 8) (d : Fin 16) (sp : Fin 8) (wb : Fin 16) (ofs : BitVec 15) : Statement (.hlStx e d sp wb ofs) := fun _ => Nat.zero_le _
theorem hlFld (e : Fin 8) (d : Fin 8) (sp : Fin 8) (addr : BitVec 19) : Statement (.hlFld e d sp addr) := fun _ => Nat.zero_le _
theorem hlFst (e : Fin 8) (d : Fin 8) (sp : Fin 8) (addr : BitVec 19) : Statement (.hlFst e d sp addr) := fun _ => Nat.zero_le _
theorem hlFldx (e : Fin 8) (d : Fin 8) (sp : Fin 8) (wb : Fin 16) (ofs : BitVec 15) : Statement (.hlFldx e d sp wb ofs) := fun _ => Nat.zero_le _
theorem hlFstx (e : Fin 8) (d : Fin 8) (sp : Fin 8) (wb : Fin 16) (ofs : BitVec 15) : Statement (.hlFstx e d sp wb ofs) := fun _ => Nat.zero_le _
theorem hlBr (e : Fin 8) (cond : Fin 15) (target : BitVec 17) : Statement (.hlBr e cond target) := fun _ => Nat.zero_le _
theorem hlCall (e : Fin 8) (frame : BitVec 8) (target : BitVec 17) : Statement (.hlCall e frame target) := fun _ => Nat.zero_le _
theorem hlFadd (e : Fin 8) (d x y : Fin 8) : Statement (.hlFadd e d x y) := fun _ => Nat.zero_le _
theorem hlFsub (e : Fin 8) (d x y : Fin 8) : Statement (.hlFsub e d x y) := fun _ => Nat.zero_le _
theorem hlFmul (e : Fin 8) (d x y : Fin 8) : Statement (.hlFmul e d x y) := fun _ => Nat.zero_le _
theorem hlFdiv (e : Fin 8) (d x y : Fin 8) : Statement (.hlFdiv e d x y) := fun _ => Nat.zero_le _
theorem hlFsqrt (e : Fin 8) (d x : Fin 8) : Statement (.hlFsqrt e d x) := fun _ => Nat.zero_le _
theorem hlFmadd (e : Fin 8) (d x y : Fin 8) : Statement (.hlFmadd e d x y) := fun _ => Nat.zero_le _
theorem hlFmin (e : Fin 8) (d x y : Fin 8) : Statement (.hlFmin e d x y) := fun _ => Nat.zero_le _
theorem hlFmax (e : Fin 8) (d x y : Fin 8) : Statement (.hlFmax e d x y) := fun _ => Nat.zero_le _
theorem hlFabs (e : Fin 8) (d x : Fin 8) : Statement (.hlFabs e d x) := fun _ => Nat.zero_le _
theorem hlFneg (e : Fin 8) (d x : Fin 8) : Statement (.hlFneg e d x) := fun _ => Nat.zero_le _
theorem hlFmov (e : Fin 8) (d x : Fin 8) : Statement (.hlFmov e d x) := fun _ => Nat.zero_le _
theorem hlFcmpCompare (e : Fin 8) (p : Bool) (cond : Fin 7) (x y : Fin 8) : Statement (.hlFcmpCompare e p cond x y) := fun _ => Nat.zero_le _
theorem hlFcvtw (e : Fin 8) (d : Fin 8) (x : Fin 16) : Statement (.hlFcvtw e d x) := fun _ => Nat.zero_le _
theorem hlFcvtu (e : Fin 8) (d : Fin 8) (x : Fin 16) : Statement (.hlFcvtu e d x) := fun _ => Nat.zero_le _
theorem hlWcvtf (e : Fin 8) (d : Fin 16) (x : Fin 8) : Statement (.hlWcvtf e d x) := fun _ => Nat.zero_le _
theorem hlWtrf (e : Fin 8) (d : Fin 16) (x : Fin 8) : Statement (.hlWtrf e d x) := fun _ => Nat.zero_le _
theorem hlFcvts (e : Fin 8) (d : Fin 8) (x : Fin 16) : Statement (.hlFcvts e d x) := fun _ => Nat.zero_le _
theorem hlScvtf (e : Fin 8) (d : Fin 16) (x : Fin 8) : Statement (.hlScvtf e d x) := fun _ => Nat.zero_le _
theorem hlTon (e : Fin 8) (x : Bool) (wn : Fin 16) (idx : BitVec 12) : Statement (.hlTon e x wn idx) := fun _ => Nat.zero_le _
theorem hlTof (e : Fin 8) (x : Bool) (wn : Fin 16) (idx : BitVec 12) : Statement (.hlTof e x wn idx) := fun _ => Nat.zero_le _
theorem hlTp (e : Fin 8) (x : Bool) (wn : Fin 16) (idx : BitVec 12) : Statement (.hlTp e x wn idx) := fun _ => Nat.zero_le _
theorem hlTrst (e : Fin 8) (x : Bool) (wn : Fin 16) (idx : BitVec 12) : Statement (.hlTrst e x wn idx) := fun _ => Nat.zero_le _
theorem timerExpiry (n : Fin 4096) : Statement (.timerExpiry n) := fun _ => Nat.zero_le _
theorem hlCtu (e : Fin 8) (x : Bool) (wn : Fin 16) (idx : BitVec 12) : Statement (.hlCtu e x wn idx) := fun _ => Nat.zero_le _
theorem hlCtd (e : Fin 8) (x : Bool) (wn : Fin 16) (idx : BitVec 12) : Statement (.hlCtd e x wn idx) := fun _ => Nat.zero_le _
theorem hlCrst (e : Fin 8) (x : Bool) (wn : Fin 16) (idx : BitVec 12) : Statement (.hlCrst e x wn idx) := fun _ => Nat.zero_le _
theorem hlCldv (e : Fin 8) (x : Bool) (wn : Fin 16) (idx : BitVec 12) : Statement (.hlCldv e x wn idx) := fun _ => Nat.zero_le _
theorem hlHrd (e : Fin 8) (d x : Fin 16) : Statement (.hlHrd e d x) := fun _ => Nat.zero_le _
theorem hlHwr (e : Fin 8) (x y : Fin 16) : Statement (.hlHwr e x y) := fun _ => Nat.zero_le _
theorem hlHrdf (e : Fin 8) (d : Fin 8) (x : Fin 16) : Statement (.hlHrdf e d x) := fun _ => Nat.zero_le _
theorem hlHwrf (e : Fin 8) (x : Fin 16) (y : Fin 8) : Statement (.hlHwrf e x y) := fun _ => Nat.zero_le _
theorem hlVld (e : Fin 8) (x : Fin 16) : Statement (.hlVld e x) := fun _ => Nat.zero_le _
theorem hlTsnap (e : Fin 8) (d : Fin 16) : Statement (.hlTsnap e d) := fun _ => Nat.zero_le _
theorem hlTexe (e : Fin 8) (d : Fin 16) : Statement (.hlTexe e d) := fun _ => Nat.zero_le _
theorem hlMpost (e : Fin 8) (d x y : Fin 16) : Statement (.hlMpost e d x y) := fun _ => Nat.zero_le _
theorem hlMrecv (e : Fin 8) (d x : Fin 16) : Statement (.hlMrecv e d x) := fun _ => Nat.zero_le _
theorem hlEvt (e : Fin 8) (x y : Fin 16) (imm : BitVec 8) : Statement (.hlEvt e x y imm) := fun _ => Nat.zero_le _
theorem hlPrd (e : Fin 8) (d x : Fin 16) : Statement (.hlPrd e d x) := fun _ => Nat.zero_le _
theorem hlPwr (e : Fin 8) (x y : Fin 16) : Statement (.hlPwr e x y) := fun _ => Nat.zero_le _
theorem hlPmode (e : Fin 8) (x y : Fin 16) : Statement (.hlPmode e x y) := fun _ => Nat.zero_le _
theorem hlPhwr (e : Fin 8) (x y : Fin 16) : Statement (.hlPhwr e x y) := fun _ => Nat.zero_le _
theorem switchGap (e : Fin 8) : Statement (.switchGap e) := fun _ => Nat.zero_le _
theorem switchDrain (e : Fin 8) : Statement (.switchDrain e) := fun _ => Nat.zero_le _
theorem vnrWithdraw (e : Fin 8) : Statement (.vnrWithdraw e) := fun _ => Nat.zero_le _
theorem veneerSwitch (e : Fin 8) : Statement (.veneerSwitch e) := fun _ => Nat.zero_le _
theorem switchTimeout (e : Fin 8) : Statement (.switchTimeout e) := fun _ => Nat.zero_le _
theorem forceEnable (req : Fin 15) (v : Word) : Statement (.forceEnable req v) := fun _ => Nat.zero_le _
theorem forceUpdate (req : Fin 15) (v : Word) : Statement (.forceUpdate req v) := fun _ => Nat.zero_le _
theorem forceClear (req : Fin 15) : Statement (.forceClear req) := fun _ => Nat.zero_le _
theorem ltBankWrite (n : Fin 8) (v : Word) : Statement (.ltBankWrite n v) := fun _ => Nat.zero_le _
theorem descriptorWrite (req : Fin 15) (g : Fin 512) (i : Fin 36) (v : Word) : Statement (.descriptorWrite req g i v) := fun _ => Nat.zero_le _
theorem hardLimitWrite (g : Fin 512) (hi : Bool) (v : Word) : Statement (.hardLimitWrite g hi v) := fun _ => Nat.zero_le _
theorem slotOff (g : Fin 512) (glu : Option (Fin 32)) : Statement (.slotOff g glu) := fun _ => Nat.zero_le _
theorem openHold (g : Fin 512) (glu : Option (Fin 32)) : Statement (.openHold g glu) := fun _ => Nat.zero_le _
theorem openManual (g : Fin 512) (glu : Option (Fin 32)) : Statement (.openManual g glu) := fun _ => Nat.zero_le _
theorem closeZero (g : Fin 512) (glu : Option (Fin 32)) : Statement (.closeZero g glu) := fun _ => Nat.zero_le _
theorem closePreset (g : Fin 512) (glu : Option (Fin 32)) : Statement (.closePreset g glu) := fun _ => Nat.zero_le _
theorem closeUser (g : Fin 512) (glu : Option (Fin 32)) : Statement (.closeUser g glu) := fun _ => Nat.zero_le _
theorem slotWithdraw (g : Fin 512) (glu : Option (Fin 32)) : Statement (.slotWithdraw g glu) := fun _ => Nat.zero_le _
theorem tileWake (n : Fin 8) : Statement (.tileWake n) := fun _ => Nat.zero_le _
theorem loopUpdate (n : Fin 8) (ns : Fin 4) : Statement (.loopUpdate n ns) := fun _ => Nat.zero_le _
theorem staleTimeout (g : Fin 512) : Statement (.staleTimeout g) := fun _ => Nat.zero_le _
theorem rampStep (g : Fin 512) : Statement (.rampStep g) := fun _ => Nat.zero_le _
theorem fbcmdGo (g : Fin 512) : Statement (.fbcmdGo g) := fun _ => Nat.zero_le _
theorem cclr (g : Fin 512) : Statement (.cclr g) := fun _ => Nat.zero_le _
theorem seqBankWrite (u : Fin 2) (v : Word) : Statement (.seqBankWrite u v) := fun _ => Nat.zero_le _
theorem progWrite (n : Fin 16) (v : Word) : Statement (.progWrite n v) := fun _ => Nat.zero_le _
theorem ctxStart (n : Fin 16) (step : BitVec 16) : Statement (.ctxStart n step) := fun _ => Nat.zero_le _
theorem ctxPause (n : Fin 16) (step : BitVec 16) : Statement (.ctxPause n step) := fun _ => Nat.zero_le _
theorem ctxContinue (n : Fin 16) (step : BitVec 16) : Statement (.ctxContinue n step) := fun _ => Nat.zero_le _
theorem ctxAbort (n : Fin 16) (step : BitVec 16) : Statement (.ctxAbort n step) := fun _ => Nat.zero_le _
theorem ctxStop (n : Fin 16) (step : BitVec 16) : Statement (.ctxStop n step) := fun _ => Nat.zero_le _
theorem stepEvaluation (n : Fin 16) : Statement (.stepEvaluation n) := fun _ => Nat.zero_le _
theorem rampWrite (n : Fin 16) (gen : Fin 4) : Statement (.rampWrite n gen) := fun _ => Nat.zero_le _
theorem pageArrival (u : Fin 2) (ok : Bool) : Statement (.pageArrival u ok) := fun _ => Nat.zero_le _
theorem gluBuild (n : Fin 32) : Statement (.gluBuild n) := fun _ => Nat.zero_le _
theorem gluLaunch (n : Fin 32) : Statement (.gluLaunch n) := fun _ => Nat.zero_le _
theorem gluCancel (n : Fin 32) : Statement (.gluCancel n) := fun _ => Nat.zero_le _
theorem gluFree (n : Fin 32) : Statement (.gluFree n) := fun _ => Nat.zero_le _
theorem armReceived (n : Fin 32) (seg : Fin 16) (dev : Fin 32) (t : Dbl) : Statement (.armReceived n seg dev t) := fun _ => Nat.zero_le _
theorem replyReceived (n part : Fin 32) (armed : Bool) : Statement (.replyReceived n part armed) := fun _ => Nat.zero_le _
theorem gluDeadline (n : Fin 32) : Statement (.gluDeadline n) := fun _ => Nat.zero_le _
theorem commitReceived (n : Fin 32) (seg : Fin 16) (dev : Fin 32) : Statement (.commitReceived n seg dev) := fun _ => Nat.zero_le _
theorem abortReceived (n : Fin 32) (seg : Fin 16) (dev : Fin 32) : Statement (.abortReceived n seg dev) := fun _ => Nat.zero_le _
theorem gluSwitch (n : Fin 32) : Statement (.gluSwitch n) := fun _ => Nat.zero_le _
theorem gluNodec (n : Fin 32) : Statement (.gluNodec n) := fun _ => Nat.zero_le _
theorem reportReceived (n part : Fin 32) (switched ofs late : Bool) : Statement (.reportReceived n part switched ofs late) := fun _ => Nat.zero_le _
theorem reportWindow (n : Fin 32) : Statement (.reportWindow n) := fun _ => Nat.zero_le _
theorem modeIdle (n : Fin 8) : Statement (.modeIdle n) := fun _ => Nat.zero_le _
theorem modeContinuous (n : Fin 8) : Statement (.modeContinuous n) := fun _ => Nat.zero_le _
theorem modeTimed (n : Fin 8) (tt : Fin 64) : Statement (.modeTimed n tt) := fun _ => Nat.zero_le _
theorem entWrite (n : Fin 8) (k : Fin 17) (v : Word) : Statement (.entWrite n k v) := fun _ => Nat.zero_le _
theorem roundStart (n : Fin 8) : Statement (.roundStart n) := fun _ => Nat.zero_le _
theorem conversionDone (n : Fin 8) (code : BitVec 16) (ovr : Bool) : Statement (.conversionDone n code ovr) := fun _ => Nat.zero_le _
theorem anaCal (n : Fin 8) : Statement (.anaCal n) := fun _ => Nat.zero_le _
theorem calibrationRound (n : Fin 8) (ref : BitVec 16) : Statement (.calibrationRound n ref) := fun _ => Nat.zero_le _
theorem resRead (req : Fin 15) (n : Fin 8) (k : Fin 16) : Statement (.resRead req n k) := fun _ => Nat.zero_le _
theorem aoHclm (req : Fin 15) (m : Fin 16) (on : Bool) : Statement (.aoHclm req m on) := fun _ => Nat.zero_le _
theorem aoValWrite (req : Fin 15) (m : Fin 16) (v : BitVec 16) : Statement (.aoValWrite req m v) := fun _ => Nat.zero_le _
theorem aoUpdate (m : Fin 16) : Statement (.aoUpdate m) := fun _ => Nat.zero_le _
theorem posCtlWrite (n : Fin 16) (v : Word) : Statement (.posCtlWrite n v) := fun _ => Nat.zero_le _
theorem acceptedTransition (n : Fin 16) (a b : Bool) : Statement (.acceptedTransition n a b) := fun _ => Nat.zero_le _
theorem index (n : Fin 16) : Statement (.index n) := fun _ => Nat.zero_le _
theorem toothEdge (n : Fin 16) : Statement (.toothEdge n) := fun _ => Nat.zero_le _
theorem phaseStep (n : Fin 16) (sin cos : Int) : Statement (.phaseStep n sin cos) := fun _ => Nat.zero_le _
theorem ssiFrame (n : Fin 16) (before after : Bool) (v : Word) : Statement (.ssiFrame n before after v) := fun _ => Nat.zero_le _
theorem publication (n : Fin 16) : Statement (.publication n) := fun _ => Nat.zero_le _
theorem posClr (n : Fin 16) : Statement (.posClr n) := fun _ => Nat.zero_le _
theorem setp (n : Fin 16) : Statement (.setp n) := fun _ => Nat.zero_le _
theorem digCtlWrite (g : Fin 8) (v : Word) : Statement (.digCtlWrite g v) := fun _ => Nat.zero_le _
theorem diStateChange (n : Fin 64) (level : Bool) : Statement (.diStateChange n level) := fun _ => Nat.zero_le _
theorem wireBreak (n : Fin 64) (brk : Bool) : Statement (.wireBreak n brk) := fun _ => Nat.zero_le _
theorem lpiMeasurement (volt : BitVec 16) : Statement (.lpiMeasurement volt) := fun _ => Nat.zero_le _
theorem dqHclm (req : Fin 15) (n : Fin 32) (on : Bool) : Statement (.dqHclm req n on) := fun _ => Nat.zero_le _
theorem dqValWrite (req : Fin 15) (n : Fin 32) (v : BitVec 16) : Statement (.dqValWrite req n v) := fun _ => Nat.zero_le _
theorem pwmPeriod (n : Fin 32) : Statement (.pwmPeriod n) := fun _ => Nat.zero_le _
theorem overheat (n : Fin 32) : Statement (.overheat n) := fun _ => Nat.zero_le _
theorem ovtRetry (n : Fin 32) : Statement (.ovtRetry n) := fun _ => Nat.zero_le _
theorem dqRst (n : Fin 32) : Statement (.dqRst n) := fun _ => Nat.zero_le _
theorem groupOverload (g : Fin 4) : Statement (.groupOverload g) := fun _ => Nat.zero_le _
theorem readbackMismatch (n : Fin 32) : Statement (.readbackMismatch n) := fun _ => Nat.zero_le _
theorem openLoad (n : Fin 32) : Statement (.openLoad n) := fun _ => Nat.zero_le _
theorem lpMeasurement (g : Fin 4) (volt : BitVec 16) : Statement (.lpMeasurement g volt) := fun _ => Nat.zero_le _
theorem siChange (k : Fin 8) (chB closed : Bool) : Statement (.siChange k chB closed) := fun _ => Nat.zero_le _
theorem discExpiry (k : Fin 8) : Statement (.discExpiry k) := fun _ => Nat.zero_le _
theorem safetyCycle (ok : Bool) : Statement (.safetyCycle ok) := fun _ => Nat.zero_le _
theorem ifault : Statement (.ifault) := fun _ => Nat.zero_le _
theorem testPulse (p : Fin 4) (b : Fin 2) : Statement (.testPulse p b) := fun _ => Nat.zero_le _
theorem testPulseEnd (p : Fin 4) (b : Fin 2) (low : Bool) : Statement (.testPulseEnd p b low) := fun _ => Nat.zero_le _
theorem configure (same : Bool) : Statement (.configure same) := fun _ => Nat.zero_le _
theorem setpw : Statement (.setpw) := fun _ => Nat.zero_le _
theorem logread : Statement (.logread) := fun _ => Nat.zero_le _
theorem readback : Statement (.readback) := fun _ => Nat.zero_le _
theorem lockoutEnd : Statement (.lockoutEnd) := fun _ => Nat.zero_le _
theorem recEnrol (acc : Acc) (e : Fin 8192) (v : Word) : Statement (.recEnrol acc e v) := fun _ => Nat.zero_le _
theorem sweep : Statement (.sweep) := fun _ => Nat.zero_le _
theorem ringWrite : Statement (.ringWrite) := fun _ => Nat.zero_le _
theorem recEnable (v : Word) : Statement (.recEnable v) := fun _ => Nat.zero_le _
theorem recDisable : Statement (.recDisable) := fun _ => Nat.zero_le _
theorem recArm : Statement (.recArm) := fun _ => Nat.zero_le _
theorem softtrig : Statement (.softtrig) := fun _ => Nat.zero_le _
theorem clrcnt : Statement (.clrcnt) := fun _ => Nat.zero_le _
theorem triggerAct : Statement (.triggerAct) := fun _ => Nat.zero_le _
theorem hostBurst : Statement (.hostBurst) := fun _ => Nat.zero_le _
theorem hbRdWrite (v : Word) : Statement (.hbRdWrite v) := fun _ => Nat.zero_le _
theorem recFrame : Statement (.recFrame) := fun _ => Nat.zero_le _
theorem refill (l : Fin 511) : Statement (.refill l) := fun _ => Nat.zero_le _
theorem scribeWrite : Statement (.scribeWrite) := fun _ => Nat.zero_le _
theorem evrEnable (en : Bool) : Statement (.evrEnable en) := fun _ => Nat.zero_le _
theorem evrClr (req : Fin 15) : Statement (.evrClr req) := fun _ => Nat.zero_le _
theorem cursorWrite (req : Fin 15) (v : Word) : Statement (.cursorWrite req v) := fun _ => Nat.zero_le _
theorem limCfgWrite (l : Fin 511) (v : Word) : Statement (.limCfgWrite l v) := fun _ => Nat.zero_le _
theorem canMode (n : Fin 16) (m : Fin 4) : Statement (.canMode n m) := fun _ => Nat.zero_le _
theorem integrationDone (n : Fin 16) : Statement (.integrationDone n) := fun _ => Nat.zero_le _
theorem canPush (n : Fin 16) (tag : BitVec 16) : Statement (.canPush n tag) := fun _ => Nat.zero_le _
theorem canCancel (n : Fin 16) (tag : BitVec 16) (bus : Fin 3) (sof : Word) : Statement (.canCancel n tag bus sof) := fun _ => Nat.zero_le _
theorem dpop (n : Fin 16) : Statement (.dpop n) := fun _ => Nat.zero_le _
theorem recover (n : Fin 16) : Statement (.recover n) := fun _ => Nat.zero_le _
theorem recoveryDone (n : Fin 16) : Statement (.recoveryDone n) := fun _ => Nat.zero_le _
theorem canFrameSent (n : Fin 16) (sof : Word) : Statement (.canFrameSent n sof) := fun _ => Nat.zero_le _
theorem txError (n : Fin 16) (lec : Fin 8) (sof : Word) : Statement (.txError n lec sof) := fun _ => Nat.zero_le _
theorem canFrameReceived (n : Fin 16) (w0 w1 : Word) (data : List Byte) (sof : Word) : Statement (.canFrameReceived n w0 w1 data sof) := by
  intro h; simp [Instr.wf] at h; simp [Instr.load]; omega
theorem canPop (n : Fin 16) : Statement (.canPop n) := fun _ => Nat.zero_le _
theorem snap (n : Fin 16) : Statement (.snap n) := fun _ => Nat.zero_le _
theorem stationAbsent (n : Fin 16) (f : Fin 32) : Statement (.stationAbsent n f) := fun _ => Nat.zero_le _
theorem portModeWrite (p : Fin 8) (m : Fin 8) : Statement (.portModeWrite p m) := fun _ => Nat.zero_le _
theorem ethFrameReceived (p : Fin 8) (bytes : List Byte) (sync : Option (Bool × Int)) : Statement (.ethFrameReceived p bytes sync) := by
  intro h; simp [Instr.wf] at h; simp [Instr.load]; omega
theorem masterLoss (b : Bool) : Statement (.masterLoss b) := fun _ => Nat.zero_le _
theorem holdoverUpdate : Statement (.holdoverUpdate) := fun _ => Nat.zero_le _
theorem ethStationAbsent (j : Fin 64) : Statement (.ethStationAbsent j) := fun _ => Nat.zero_le _
theorem supervisionFrame (q : Fin 4) : Statement (.supervisionFrame q) := fun _ => Nat.zero_le _
theorem cellReceived (p : Fin 4) (errs : Nat) (lseq ack : BitVec 8) (nak : Bool) : Statement (.cellReceived p errs lseq ack nak) := fun _ => Nat.zero_le _
theorem portTrained (p : Fin 4) (ver : Nat) : Statement (.portTrained p ver) := fun _ => Nat.zero_le _
theorem pljFrameReceived (p : Fin 4) (typ : Fin 8) (h0 h1 h2 h3 : Word) (body : List Word) : Statement (.pljFrameReceived p typ h0 h1 h2 h3 body) := by
  intro h; simp [Instr.wf] at h; simp [Instr.load]; omega
theorem rootSync : Statement (.rootSync) := fun _ => Nat.zero_le _
theorem delayExchange (p : Fin 4) (d : Nat) : Statement (.delayExchange p d) := fun _ => Nat.zero_le _
theorem presenceFrame : Statement (.presenceFrame) := fun _ => Nat.zero_le _
theorem deviceAbsent (d : Fin 32) : Statement (.deviceAbsent d) := fun _ => Nat.zero_le _
theorem mbxRetry (m : Fin 64) : Statement (.mbxRetry m) := fun _ => Nat.zero_le _
theorem roleDecision : Statement (.roleDecision) := fun _ => Nat.zero_le _
theorem epochStart : Statement (.epochStart) := fun _ => Nat.zero_le _
theorem inputSetFrame : Statement (.inputSetFrame) := fun _ => Nat.zero_le _
theorem replayEntry : Statement (.replayEntry) := fun _ => Nat.zero_le _
theorem econfReceived (k : Nat) : Statement (.econfReceived k) := fun _ => Nat.zero_le _
theorem cwaitExpiry : Statement (.cwaitExpiry) := fun _ => Nat.zero_le _
theorem mirFrame (seq : Word) (m : Mirror) : Statement (.mirFrame seq m) := fun h => mirror_load m (of_decide_eq_true h)
theorem duoResync : Statement (.duoResync) := fun _ => Nat.zero_le _
theorem transferDone (src : Machine.Dev) : Statement (.transferDone src) := fun _ => Nat.zero_le _
theorem heartbeat (rx : Option (Fin 3 × Hb)) : Statement (.heartbeat rx) := fun _ => Nat.zero_le _
theorem replayDry : Statement (.replayDry) := fun _ => Nat.zero_le _
theorem partnerLost : Statement (.partnerLost) := fun _ => Nat.zero_le _
theorem duoSwitch : Statement (.duoSwitch) := fun _ => Nat.zero_le _
theorem duoLeave : Statement (.duoLeave) := fun _ => Nat.zero_le _
theorem chCfgWrite (m : Fin 64) (v : Word) : Statement (.chCfgWrite m v) := fun _ => Nat.zero_le _
theorem post (acc : Acc) (m : Fin 64) (tag : Word) : Statement (.post acc m tag) := fun _ => Nat.zero_le _
theorem take (req : Fin 15) (m : Fin 64) : Statement (.take req m) := fun _ => Nat.zero_le _
theorem mbxRel (req : Fin 15) (m : Fin 64) : Statement (.mbxRel req m) := fun _ => Nat.zero_le _
theorem mbxAlloc (req : Fin 15) (m : Fin 64) : Statement (.mbxAlloc req m) := fun _ => Nat.zero_le _
theorem spiTransaction (op : BitVec 8) (off : Word) (reads : Nat) (words : List Word) : Statement (.spiTransaction op off reads words) := by
  intro h; simp [Instr.wf] at h; simp [Instr.load]; omega
theorem hostReset : Statement (.hostReset) := fun _ => Nat.zero_le _
theorem info (session : Fin 16) : Statement (.info session) := fun _ => Nat.zero_le _
theorem imgWrite (session : Fin 16) : Statement (.imgWrite session) := fun _ => Nat.zero_le _
theorem imgCommit (session : Fin 16) : Statement (.imgCommit session) := fun _ => Nat.zero_le _
theorem hostStart (session : Fin 16) : Statement (.hostStart session) := fun _ => Nat.zero_le _
theorem hostScribe (session : Fin 16) : Statement (.hostScribe session) := fun _ => Nat.zero_le _
theorem keyEnrol (req : Fin 15) (slot : Fin 4) (page : BitVec 14) : Statement (.keyEnrol req slot page) := fun _ => Nat.zero_le _
theorem keyRevoke (req : Fin 15) (slot : Fin 4) (page : BitVec 14) : Statement (.keyRevoke req slot page) := fun _ => Nat.zero_le _
theorem attest (req : Fin 15) (page : BitVec 14) : Statement (.attest req page) := fun _ => Nat.zero_le _
theorem lcsTransition (req : Fin 15) (target : Fin 8) (page : BitVec 14) : Statement (.lcsTransition req target page) := fun _ => Nat.zero_le _
theorem idBuildDone (ok : Bool) : Statement (.idBuildDone ok) := fun _ => Nat.zero_le _
theorem tamper (src : Fin 3) : Statement (.tamper src) := fun _ => Nat.zero_le _
theorem storeWipeDone : Statement (.storeWipeDone) := fun _ => Nat.zero_le _
theorem feedMeasurement (va vb : BitVec 16) : Statement (.feedMeasurement va vb) := fun _ => Nat.zero_le _
theorem pfail : Statement (.pfail) := fun _ => Nat.zero_le _
theorem halt (cut : Option Nat) (capOk : Bool) (bad : List Nat) (fails : List (Nat × Nat)) : Statement (.halt cut capOk bad fails) := fun _ => Nat.zero_le _
theorem holdupReady : Statement (.holdupReady) := fun _ => Nat.zero_le _
theorem resetN : Statement (.resetN) := fun _ => Nat.zero_le _
theorem deviceReset (watchdog : Bool) : Statement (.deviceReset watchdog) := fun _ => Nat.zero_le _
theorem deviceColdReset : Statement (.deviceColdReset) := fun _ => Nat.zero_le _
theorem factoryReset : Statement (.factoryReset) := fun _ => Nat.zero_le _
theorem unitReset (code : BitVec 8) : Statement (.unitReset code) := fun _ => Nat.zero_le _
theorem aonReset : Statement (.aonReset) := fun _ => Nat.zero_le _
theorem powerGood (boot : Fin 4) (capOk : Bool) (bad : List Nat) (fails : List (Nat × Nat)) : Statement (.powerGood boot capOk bad fails) := fun _ => Nat.zero_le _
theorem startDecision (known : Bool) : Statement (.startDecision known) := fun _ => Nat.zero_le _
theorem controlResume : Statement (.controlResume) := fun _ => Nat.zero_le _
theorem resetNRelease (boot : Fin 4) (capOk : Bool) (bad : List Nat) (fails : List (Nat × Nat)) : Statement (.resetNRelease boot capOk bad fails) := fun _ => Nat.zero_le _
theorem autorevReturn : Statement (.autorevReturn) := fun _ => Nat.zero_le _
theorem duplicateEntryForgotten (q : Fin 4) : Statement (.duplicateEntryForgotten q) := fun _ => Nat.zero_le _
theorem macEntryAgeing : Statement (.macEntryAgeing) := fun _ => Nat.zero_le _
theorem pwmOnPhaseEnd (n : Fin 32) : Statement (.pwmOnPhaseEnd n) := fun _ => Nat.zero_le _
theorem canReceiveError (n : Fin 16) (lec : Fin 8) (eight : Bool) : Statement (.canReceiveError n lec eight) := fun _ => Nat.zero_le _
theorem gateEntryEnd (p : Fin 8) : Statement (.gateEntryEnd p) := fun _ => Nat.zero_le _
theorem ptpMasterSync (p : Fin 8) : Statement (.ptpMasterSync p) := fun _ => Nat.zero_le _

end Sys2Proof.Laws.Load
end

