-- ==== Sys2Proof/Tests/Slice0.lean ====
section
/-! SUPPORT. The model's own tests: ill-formed commands refused, and for each statement states and operands that meet its
hypotheses, with what the rules say happens there. -/

namespace Sys2Proof.Tests
open Sys2Proof.Machine

set_option maxRecDepth 100000
set_option Elab.async false

/-- The device after reset. -/
def z : Dev := Dev.reset
/-- The device that a command leaves. -/
def ev (c : Instr) (d : Dev) : Dev :=
  match exec c ⟨d, []⟩ with
  | .next t => t.dev
  | .fault _ => d
  | .refused _ => d
/-- The registers but those listed are as before. -/
def kept (x d : Dev) (as : List Nat) : Bool :=
  x.regs.filter (fun r => !as.contains r.1) == d.regs.filter (fun r => !as.contains r.1)
/-- One record of a source is offered, and nothing else happens to the Scribe. -/
def told (x d : Dev) (src : Nat) : Bool :=
  d.scribe.offers.length == x.scribe.offers.length + 1 && (d.scribe.offers.getLast?.map (·.src)) == some src &&
    { d.scribe with offers := [] } == { x.scribe with offers := [] }
/-- The values of a tick stand at its start as they stand now. -/
def snap (d : Dev) : Dev := { d with start := ⟨d.regs, d.points, d.forces, d.ctxs⟩ }


/-! ## Ill-formed commands are refused -/

theorem test_wf_undefined_size : (Instr.undefinedAccess ⟨0, true⟩ 0 0 false).wf = false := by decide +kernel
theorem test_wf_window_size : (Instr.windowAccess ⟨0, true⟩ 0 0 none false).wf = false := by decide +kernel
theorem test_wf_phase : (Instr.phaseStep 0 32769 0).wf = false := by decide +kernel
theorem test_wf_can_data : (Instr.canFrameReceived 0 0 0 (List.replicate 65 0) 0).wf = false := by decide +kernel
theorem test_wf_eth_frame : (Instr.ethFrameReceived 0 [] none).wf = false := by decide +kernel
theorem test_wf_cell_errors : (Instr.cellReceived 0 199 0 0 false).wf = false := by decide +kernel
theorem test_wf_plj_body : (Instr.pljFrameReceived 0 0 0 0 0 0 [1]).wf = false := by decide +kernel
theorem test_wf_mirror : (Instr.mirFrame 0 (.recorder 0 [])).wf = false ∧ (Instr.mirFrame 0 (.page 262144 [])).wf = false ∧
    (Instr.mirFrame 0 (.scribe 0 [])).wf = false ∧ (Instr.mirFrame 0 (.half 1 [])).wf = false ∧
    (Instr.mirFrame 0 (.bank 0x2800000 [0])).wf = false := by decide +kernel
theorem test_wf_transfer : (Instr.transferDone { z with mem := [(1, 0)] }).wf = false := by decide +kernel
theorem test_wf_spi : (Instr.spiTransaction 0 0x4000000 0 []).wf = false ∧ (Instr.spiTransaction 0 0 1025 []).wf = false := by decide +kernel
theorem test_wf_starts : (Instr.halt (some 1572865) true [] []).wf = false ∧ (Instr.powerGood 0 true [1572864] []).wf = false ∧
    (Instr.resetNRelease 0 true [] [(80, 0)]).wf = false := by decide +kernel


/-! ## The queue, registers, pairs -/

def off : Dev := { z with power := { z.power with phase := .off } }

theorem test_OffDeviceRetains : off.on = false ∧ ev (.canPop 3) off = off ∧ off.tick = { off with ticks := 1, cal := off.tick.cal } := by decide +kernel
theorem test_PoweredOffAndIdle : off.on = false ∧ ev (.canPush 0 5) off = off ∧ (ev (.feedMeasurement 24000 0) off).power.goodA = 1 := by decide +kernel

/-- MEM_JIG_BOOT: RW fields alone, no action of its own. -/
theorem test_RegisterWriteByTypes : ∃ r ix, regFind A.MEM_JIG_BOOT = some (r, ix) ∧ isSaf A.MEM_JIG_BOOT = false ∧
    r.clr = false ∧ z.portOn 3 = true ∧ z.roleStandby = false ∧ z.outranked 3 (reqOff r 3 A.MEM_JIG_BOOT) = false ∧
    ∀ (x : Dev) v, x.regEffect ⟨3, true⟩ r (ix.getD 0 0) (ix.getD 1 0) A.MEM_JIG_BOOT v = x.plain ⟨3, true⟩ r A.MEM_JIG_BOOT v :=
  ⟨_, _, rfl, by decide, rfl, by decide, by decide, by decide, fun _ _ => rfl⟩
theorem test_RegisterWriteByTypes_rw :
    (ev (.registerWrite ⟨3, true⟩ (BitVec.ofNat 26 A.MEM_JIG_BOOT) 0xFFFFFFFF) z).bit A.MEM_JIG_BOOT F.MEM_JIG_BOOT_RET = true := by decide +kernel

theorem test_PairsPerRequester : (regFind A.TIME_STEP_LO).map (fun x => x.1.pair) = some true ∧ ownLatch A.TIME_STEP_LO = false ∧
    tabGet none (ev (.stageLo 3 (BitVec.ofNat 26 A.TIME_STEP_LO) 7) z).staged (reqKey 3 A.TIME_STEP_LO) = some 7 ∧
    (ev (.commitHi ⟨3, true⟩ (BitVec.ofNat 26 (A.TIME_TT_CMP_LO 5 + 4)) 1) z).pair (A.TIME_TT_CMP_LO 5) = 0x100000000 := by decide +kernel
theorem test_RefusedAccesses : regFind 0xFFFFC = none ∧ (ev (.undefinedAccess ⟨7, true⟩ 0xFFFFC 4 true) z).bus = ⟨.busError, 0⟩ ∧
    (regFind A.MEM_JIG_BOOT).map (fun x => uReach x.1 A.MEM_JIG_BOOT) = some false ∧
    told z (ev (.uViewViolation 1 (BitVec.ofNat 26 A.MEM_JIG_BOOT) true) z) 0x40 = true := by decide +kernel
theorem test_ViolationClearComesFirst : tabGet 0 z.hwSet A.SYS_UVIOL_CNT = 0 ∧
    (ev .uviolClr (ev (.uViewViolation 1 (BitVec.ofNat 26 A.MEM_JIG_BOOT) true) z)).get A.SYS_UVIOL_CNT F.SYS_UVIOL_CNT_COUNT = 1 := by decide +kernel

/-! ## Time -/

def late5 : Dev := snap (((z.onTime fun t => { t with ts := 250000, late := [5] }).set (A.TIME_TT_CTL 5) F.TIME_TT_CTL_EN 1).setPair
  (A.TIME_TT_CMP_LO 5) 100)
def per5 : Dev := snap ((late5.set (A.TIME_TT_CTL 5) F.TIME_TT_CTL_MODE 1).set (A.TIME_TT_PER 5) F.TIME_TT_PER_PER 25000)

theorem test_TimeReadsAndCommits_addend : -- 4 ns is in force; 3.996 and 4.004 ns are the bounds
    (ev (.addendCommit 3 4) z).time.newAddend = some 0x400000000 ∧
    (ev (.addendCommit 3 3) (ev (.stageLo 3 (BitVec.ofNat 26 A.TIME_ADDEND_LO) 4277787427) z)).time.newAddend = some 17162689315 ∧
    (ev (.addendCommit 3 3) (ev (.stageLo 3 (BitVec.ofNat 26 A.TIME_ADDEND_LO) 4277787426) z)).bit A.TIME_STAT F.TIME_STAT_ADDERR = true ∧
    (ev (.addendCommit 3 4) (ev (.stageLo 3 (BitVec.ofNat 26 A.TIME_ADDEND_LO) 17179870) z)).bit A.TIME_STAT F.TIME_STAT_ADDERR = true := by decide +kernel
theorem test_TimeReadsAndCommits_offsync : (ev (.ofsEstWrite 1000) (z.set A.TIME_CTL F.TIME_CTL_SRC 2)).bit A.TIME_STAT F.TIME_STAT_OFFSYNC = false ∧
    (ev (.ofsEstWrite 1001) (z.set A.TIME_CTL F.TIME_CTL_SRC 2)).bit A.TIME_STAT F.TIME_STAT_OFFSYNC = true ∧
    (ev (.ofsEstWrite 0xFFFFFC17) (z.set A.TIME_CTL F.TIME_CTL_SRC 2)).bit A.TIME_STAT F.TIME_STAT_OFFSYNC = true := by decide +kernel
theorem test_TimeReadsAndCommits_read : let d := ev (.timeNowRead 4) (z.onTime fun t => { t with ts := 0x1_2A05F200 })
    d.bus.data = 0x2A05F200 ∧ d.latched 4 A.TIME_NOW_HI = some 1 ∧ d.latched 4 A.TIME_TOD_SEC_LO = some 5 ∧
      d.latched 4 A.TIME_TOD_NS = some 0 ∧ d.latched 5 A.TIME_NOW_HI = none := by decide +kernel
theorem test_TimeEvents_calendar : let x : Dev := { z with cal := { z.cal with edge := true, commit := some 9, writeback := some 8 } }
    (ev .calLoad x).cal = { x.cal with sec := 9, tick := 0, commit := none, writeback := none } ∧
    (ev .calWriteback { x with cal := { x.cal with commit := none } }).cal.sec = 8 := by decide +kernel
theorem test_TimeEvents_seed : let x : Dev := { z with cal := ⟨3, 1, none, none, 0, true⟩, time := { z.time with seedReq := true, frac := 7 } }
    (ev .seedApply x).ts = 3000030517 ∧ (ev .seedApply x).time.frac = 0 := by decide +kernel
theorem test_TimeEvents_pulses : (ev .secondCrossing (z.onTime fun t => { t with crossed := some 4 })).time.crossed = none ∧
    (ev .ppsFall (z.onTime fun t => { t with ppsEnd := some 0 })).time.ppsEnd = none ∧
    (ev (.trgOutPulseEnd 63) (z.onTime fun t => { t with pulses := [(63, (2, 0))] })).time.pulses = [] := by decide +kernel
theorem test_ComparatorFires_oneShot : late5.ttDue 5 = true ∧ late5.wroteReg (A.TIME_TT_CTL 5) = false ∧
    late5.wroteReg (A.TIME_TT_CMP_HI 5) = false ∧ late5.ttDue 6 = false ∧ (let d := ev (.comparatorFire 5) late5;
      d.bit (A.TIME_TT_CTL 5) F.TIME_TT_CTL_EN = false ∧ d.bit (A.TIME_TT_CTL 5) F.TIME_TT_CTL_FIRED = true ∧
      d.bit (A.TIME_TT_CTL 5) F.TIME_TT_CTL_LATE = true) := by decide +kernel
theorem test_ComparatorFires_periodic : 0 < per5.get0 (A.TIME_TT_PER 5) F.TIME_TT_PER_PER ∧ per5.ttDue 5 = true ∧
    (let d := ev (.comparatorFire 5) per5;
      d.pair (A.TIME_TT_CMP_LO 5) = 300100 ∧ d.get (A.TIME_TT_MISS 5) F.TIME_TT_MISS_MISS = 2 ∧ d.time.fired = [5]) := by decide +kernel
def cu0 : Dev := ((z.set (A.TIME_CU_CTL 0) F.TIME_CU_CTL_EN 1).set (A.TIME_CU_CTL 0) F.TIME_CU_CTL_SRC 1)
theorem test_CaptureUnits_dead : cu0.cuWatches 0 1 true = true ∧ cu0.standby = false ∧
    (let x := cu0.onTime fun t => { t with lastEdge := [(0, 1)] };
     let y : Dev := { x with ticks := 4 };
      (ev (.captureEdge 0 true 0) y).cuQueue 0 ≠ [] ∧ (ev (.captureEdge 0 true 3999) { y with ticks := 3 }).cuQueue 0 = [] ∧
      (ev (.captureEdge 0 true 3999) { y with ticks := 3 }).get (A.TIME_CU_STAT 0) F.TIME_CU_STAT_LOST = 1) := by decide +kernel
theorem test_CaptureUnits_pop : let st : Stamp := ⟨5, 0, true⟩
    let x : Dev := { z with stamps := [(31, List.replicate 8 st)], time := { z.time with cuOver := [(31, ⟨9, 0, false⟩)] } }
    (ev (.cuPop 31) x).cuQueue 31 = List.replicate 7 st ++ [⟨9, 0, false⟩] ∧ (ev (.cuClr 31) x).cuQueue 31 = [] ∧
      x.bit (A.TIME_CU_CTL 31) F.TIME_CU_CTL_NOTIFY = false := by decide +kernel

/-! ## Bank pool -/

/-- Bank 3 belongs to engine 0. -/
def b3 : Dev := z.set (A.MEM_BANK_STAT 3) F.MEM_BANK_STAT_OWNER 1
/-- The privileged view may read and write bank 3 through the window. -/
def w3 : Dev := b3.set (A.MEM_BANK_CTL 3) F.MEM_BANK_CTL_PWIN 2
def lin3 : Nat := 3 * 32768

theorem test_WindowAccess : w3.on = true ∧ w3.portOn 2 = true ∧ winAccOk 0x1180010 16 = true ∧ w3.roleStandby = false ∧
    w3.syncedAs 1 = false ∧ w3.pool.portA = none ∧ 2 ≤ w3.winRights true 3 ∧ w3.wiping 3 = false := by decide +kernel
theorem test_WindowAccess_store : let d := ev (.windowAccess ⟨2, true⟩ 0x118001E 2 (some 0xABCD) false) w3
    d.byte 0x18001E = 0xCD ∧ d.byte 0x18001F = 0xAB ∧ d.byte 0x180020 = 0 ∧
      (ev (.windowAccess ⟨2, true⟩ 0x118001C 4 none false) d).bus = ⟨.ok, 0xABCD0000⟩ := by decide +kernel
theorem test_WindowAccess_refused : b3.winRights false 3 = 0 ∧ (let d := ev (.windowAccess ⟨0, false⟩ 0x1180000 4 none false) b3;
    d.bus.status = .unsupported ∧ d.get A.MEM_WDENY F.MEM_WDENY_COUNT = 1) := by decide +kernel
theorem test_WindowAccess_waits : let x := w3.set (A.MEM_BANK_STAT 3) F.MEM_BANK_STAT_WIPING 1
    x.wiping 3 = true ∧ (ev (.windowAccess ⟨2, true⟩ 0x1180000 4 none false) x).pool.waiting.length = 1 := by decide +kernel
def scrub3 : Dev := { b3 with pool := { b3.pool with scrubQueue := [lin3 + 7] } }
theorem test_ScrubberCorrects : (scrub3.pool.scrubNext 3).1 = lin3 + 7 ∧ scrub3.wiping 3 = false ∧ scrub3.poisoned (lin3 + 7) = false ∧
    (ev (.scrubRead 3 0) scrub3).lineErrs (lin3 + 7) = 0 ∧
    (ev (.scrubRead 3 2) scrub3).pool.scrubWait = [lin3 + 7] ∧ (ev (.scrubRead 3 2) scrub3).get (A.MEM_BANK_ERR 3) F.MEM_BANK_ERR_CE = 1 ∧
    (ev (.scrubRead 3 3) scrub3).poisoned (lin3 + 7) = true ∧ (ev (.scrubRead 3 3) scrub3).get (A.MEM_BANK_ERR 3) F.MEM_BANK_ERR_UE = 1 ∧
    (ev (.scrubRead 3 3) scrub3).reg A.MEM_POISON_LAST = 0x30007 := by decide +kernel
theorem test_ScrubberCorrects_writeback : let d := ev (.scrubRead 3 2) scrub3
    d.pool.scrubWait.find? (fun k => bankOfLine k == 3) = some (lin3 + 7) ∧ (ev (.scrubWriteback 3) d).lineErrs (lin3 + 7) = 0 := by decide +kernel
theorem test_BankHandover_request : tabGet 0 b3.pool.relReq 3 = 0 ∧ tabGet 0 (ev (.relreq 3) b3).pool.relReq 3 = 2 ∧
    (ev (.relcan 3) (ev (.relreq 3) b3)).pool = b3.pool ∧
    (let x := { ev (.relreq 3) b3 with ticks := 1 }; x.releaseOk 3 = true ∧ (ev (.bankRelease 3) x).released 3 = true) := by decide +kernel
def rel3 : Dev := b3.set (A.MEM_BANK_STAT 3) F.MEM_BANK_STAT_REL 1
/-- An OWNER write for engine 1 without WIPE. -/
def own2 : Word := putBits 0 F.MEM_BANK_CTL_OWNER.hi F.MEM_BANK_CTL_OWNER.lo 2
theorem test_BankHandover_owner : ownerCodes.contains 2 = true ∧ rel3.released 3 = true ∧ rel3.ownerTaken 3 = false ∧ rel3.owner 3 ≠ 0xFF ∧
    (ev (.ownerWrite 3 own2) rel3).later.length = 1 ∧ (rel3.handOver 3 2 false 0 0).owner 3 = 2 ∧
    ((rel3.putByte 0x180000 9).handOver 3 2 false 0 0).byte 0x180000 = 9 ∧
    ((rel3.putByte 0x180000 9).handOver 3 2 true 0 0).byte 0x180000 = 0 ∧ (rel3.handOver 3 2 true 0 0).wiping 3 = true ∧
    (ev (.ownerWrite 3 own2) b3).bit (A.MEM_BANK_STAT 3) F.MEM_BANK_STAT_HOREF = true := by decide +kernel
theorem test_BankHandover_wiped : (ev (.wipeDone 3) (rel3.handOver 3 2 true 0 0)).wiping 3 = false := by decide +kernel
/-- A PRESERVING test of bank 3 with save bank 79. -/
def jigP : Word := putBits (putBits (putBits 0 F.MEM_JIG_CTL_MODE.hi F.MEM_JIG_CTL_MODE.lo 1) F.MEM_JIG_CTL_BANK.hi F.MEM_JIG_CTL_BANK.lo 3)
  F.MEM_JIG_CTL_SAVE.hi F.MEM_JIG_CTL_SAVE.lo 79
def jig3 : Dev := ((z.putByte 0x180005 7).set (A.MEM_BANK_STAT 3) F.MEM_BANK_STAT_OWNER 1).set (A.MEM_BANK_STAT 3) F.MEM_BANK_STAT_REL 1
theorem test_JigTests_preserving : jig3.pool.jig = none ∧ jig3.jigOk 1 3 79 = true ∧ (let d := ev (.jigGo jigP) jig3;
    d.pool.jig = some ⟨3, 1, 79⟩ ∧ d.byte (79 * 0x80000 + 5) = 7 ∧ (ev (.jigDone []) (d.putByte 0x180005 0)).byte 0x180005 = 7 ∧
    (ev (.jigGo jigP) d).bit A.MEM_JIG_STAT F.MEM_JIG_STAT_BUSY = true) := by decide +kernel
theorem test_JigTests_background : (let x := z.set A.MEM_JIG_BG F.MEM_JIG_BG_EN 1;
    tabGet 0 (ev (.jigBgRegion []) x).pool.jigPos 79 = 1) := by decide +kernel
theorem test_JigTests_repair : (let x := b3.set (A.MEM_BANK_STAT 3) F.MEM_BANK_STAT_SOFT 2;
    (b3.repairWork 3 [4]).get (A.MEM_BANK_STAT 3) F.MEM_BANK_STAT_SOFT = 1 ∧
    (x.repairWork 3 [4]).poisoned (lineNo 3 4) = true ∧ (x.repairWork 3 [4]).bit (A.MEM_BANK_STAT 3) F.MEM_BANK_STAT_DEGRADED = true) := by decide +kernel
/-- Bank 60 belongs to the unit of sub-client 5, whose quota is 1. -/
def rm5 : Dev := (z.set (A.MEM_BANK_STAT 60) F.MEM_BANK_STAT_OWNER (subOwner 5)).set (A.MEM_RM_SUB 5) F.MEM_RM_SUB_QUOTA 1
theorem test_ResourceManager_grant : (rm5.rmAlloc 5).2 = .grant (60 * 128) ∧ ((rm5.rmAlloc 5).1.rmAlloc 5).2 = .quota ∧
    (z.rmAlloc 5).2 = .quota ∧ ((z.set (A.MEM_RM_SUB 5) F.MEM_RM_SUB_QUOTA 1).rmAlloc 5).2 = .low := by decide +kernel
theorem test_ResourceManager_free : let d := (rm5.rmAlloc 5).1
    d.pageSub 7680 = some 5 ∧ (ev (.pageFree 5 7680) d).later.length = 1 ∧ (d.pageFreed 7680).pageSub 7680 = none ∧
    ev (.pageFree 6 7680) d = d := by decide +kernel
theorem test_ResourceManager_answer : (ev .pageAlloc { rm5 with pool := { rm5.pool with pageReqs := [⟨5, 0, 1⟩] } }).pool.pageReqs = [] := by
  decide +kernel

/-! ## Program engines -/

/-- Engine 0 owns bank 3 and has its active half in it. -/
def e0 : Dev := (b3.set (A.PE_CODE 0) F.PE_CODE_ACT 3).set (A.PE_CODE 0) F.PE_CODE_AVAL 1
def run0 : Dev := e0.set (A.PE_STAT 0) F.PE_STAT_MODE 1
/-- Task 2 of engine 0 is about to execute, with the bank given. -/
def rdy (k : Task) : Dev := (((run0.setEng 0 { Eng.idle with cur := some 2 }).set (A.PE_TASK_WDT 0 2) F.PE_TASK_WDT_LIMIT 100).setTask 0 2
  { k with phase := .execute }).setTaskState 0 2 tsRunning
/-- The task's bank after an instruction. -/
def hl (c : Instr) (k : Task) : Task := (ev c (rdy k)).task 0 2
def kW : Task := { Task.idle with w := [(1, 5), (2, 3), (3, 0x80000000), (4, 0xFFFFFFFF)] }

theorem test_EngineConfigured_code : e0.peMode 0 = 0 ∧ (ev (.codeWrite 0 0x00000085) e0).reg (A.PE_CODE 0) ≠ e0.reg (A.PE_CODE 0) ∧
    (ev (.codeWrite 0 0) run0).bit (A.PE_STAT 0) F.PE_STAT_CFGERR = true ∧ run0.bit (A.PE_VNR_STAT 0) F.PE_VNR_STAT_PEND = false := by decide +kernel
def en2 : Word := putBits 0 F.PE_TASK_CTL_EN.hi F.PE_TASK_CTL_EN.lo 1
theorem test_EngineConfigured_task : e0.masksOk 0 2 0 = true ∧ e0.masksOk 0 2 1 = false ∧
    e0.taskOk 0 2 (e0.taskWord 0 en2 (e0.reg (A.PE_TASK_CTL 0 2))) = true ∧ (ev (.taskEnable 0 2 en2) e0).taskOn 0 2 = true ∧
    (ev (.taskEnable 0 2 0) (ev (.taskEnable 0 2 en2) e0)).taskOn 0 2 = false ∧
    (ev (.taskMaskWrite 0 2 1) e0).bit (A.PE_STAT 0) F.PE_STAT_CFGERR = true := by decide +kernel
/-- A block of `n` times 64 timers from number 0. -/
def tc (n : Nat) : Word := putBits 0 F.PE_TCRES_TCNT.hi F.PE_TCRES_TCNT.lo n
theorem test_EngineConfigured_blocks : (ev (.tcresWrite 0 (tc 64)) e0).get (A.PE_TCRES 0) F.PE_TCRES_TCNT = 64 ∧
    (ev (.tcresWrite 1 (tc 1)) (ev (.tcresWrite 0 (tc 64)) e0)).bit (A.PE_STAT 1) F.PE_STAT_CFGERR = true := by decide +kernel
def mm3 : Word := putBits (putBits (putBits 0 F.SYS_MMAP_EN.hi F.SYS_MMAP_EN.lo 1) F.SYS_MMAP_ENG.hi F.SYS_MMAP_ENG.lo 0)
  F.SYS_MMAP_BANK.hi F.SYS_MMAP_BANK.lo 3
theorem test_EngineConfigured_window : (ev (.mmapWrite 7 mm3) e0).mBank 7 = some 3 ∧
    (ev (.mmapWrite 7 mm3) run0).bit (A.PE_STAT 0) F.PE_STAT_CFGERR = true ∧
    (ev (.mmapWrite 6 mm3) (ev (.mmapWrite 7 mm3) e0)).mBank 6 = none := by decide +kernel
theorem test_EngineConfigured_breakpoint : e0.lcs ≠ 2 ∧ (ev (.brkWrite 0 7 0x80000004) e0).reg (A.PE_BRK 0 7) = 0x80000004 ∧
    (let x := ev (.brkWrite 0 7 0x80000004) (e0.set A.SEC_LCS_STAT F.SEC_LCS_STAT_STATE 2);
      x.lcs = 2 ∧ x.bit (A.PE_STAT 0) F.PE_STAT_CFGERR = true ∧ x.bit (A.PE_BRK 0 7) F.PE_BRK_EN = false) := by decide +kernel
/-- One line from line 4095 on, enabled; its word 3 goes to a DQ. -/
def q1 : Word := 0x80010FFF
def qdev : Dev := { e0 with policy := { e0.policy with outMap := [⟨16383, 0, mkHandle 0x19 31⟩] },
                            points := [((mkHandle 0x04 16383).toNat, ⟨7, true⟩)] }
theorem test_RegionsTaken : qdev.regionOk 0 true 15 (regionWord true q1 (qdev.reg (A.PE_QREG 0 15))) = true ∧
    (let d := ev (.regionWrite 0 true 15 q1) qdev;
      d.claim (mkHandle 0x19 31) = some (.engine 0) ∧ d.point (mkHandle 0x04 16383) = ⟨7, false⟩ ∧
      d.get (A.PE_QREG 0 15) F.PE_QREG_COUNT = 1) ∧
    (ev (.regionWrite 0 false 15 q1) run0).bit (A.PE_STAT 0) F.PE_STAT_CFGERR = true := by decide +kernel
theorem test_EngineModes_run : (let x := e0.set A.SEC_LCS_STAT F.SEC_LCS_STAT_STATE 2;
    x.ownsLive 1 3 = true ∧ (ev (.reqRun 0) x).peMode 0 = 1 ∧ (ev (.reqRun 1) x).peMode 1 = 0 ∧
    (ev (.reqRun 1) x).bit (A.PE_STAT 1) F.PE_STAT_RUNREF = true ∧
    (ev (.reqHold 0) x).bit (A.PE_STAT 0) F.PE_STAT_CFGERR = true) := by decide +kernel
theorem test_EngineModes_stop : (let x := ev (.reqStop 0) run0;
    x.peMode 0 = 1 ∧ x.get (A.PE_STAT 0) F.PE_STAT_PEND = 2 ∧ x.inCycle 0 = false ∧ (ev (.engineStop 0) x).peMode 0 = 0 ∧
    (ev (.reqHold 0) run0).peMode 0 = 2 ∧ (ev (.reqStop 0) (ev (.reqHold 0) run0)).peMode 0 = 0) := by decide +kernel
theorem test_EngineModes_step : (let x := ((rdy kW).set (A.PE_STAT 0) F.PE_STAT_MODE 2).set (A.PE_STAT 0) F.PE_STAT_TASK 2;
    x.lcs ≠ 2 ∧ ((ev (.dbgStep 0) x).eng 0).step = 1 ∧ ((ev (.dbgCyc 0) x).eng 0).step = 2) := by decide +kernel
theorem test_EngineModes_watchdog : (let x := rdy { kW with ns := 100000 };
    x.wdtNs 0 2 ≤ (x.task 0 2).ns ∧ (ev (.watchdogExpiry 0) x).peMode 0 = 0 ∧ (ev (.watchdogExpiry 0) x).taskState 0 2 = tsFaulted) := by decide +kernel
theorem test_EngineModes_wake : (let x := (((e0.setEng 0 { Eng.idle with gated := true }).set (A.PE_TASK_CTL 0 2) F.PE_TASK_CTL_EN 1).set
    (A.TIME_TT_CTL 0) F.TIME_TT_CTL_EN 1); x.wakeDue 0 = true ∧ ((ev (.engineWake 0) x).eng 0).gated = false) := by decide +kernel
/-- Task 2 is due; task 15 of a lower priority executes. -/
def due2 : Dev := ((run0.set (A.PE_TASK_CTL 0 2) F.PE_TASK_CTL_EN 1).setTaskState 0 2 tsDue).set (A.PE_TASK_CTL 0 15) F.PE_TASK_CTL_PRIO 1
theorem test_TasksStart : due2.dueTask 0 = some 2 ∧ due2.noStarts 0 = false ∧ due2.preemptedTask 0 = none ∧
    due2.taskPrio 0 2 < due2.taskPrio 0 15 ∧ ((ev (.taskStart 0) due2).eng 0).cur = some 2 ∧
    (let x := (due2.setEng 0 { Eng.idle with cur := some 15 }).setTask 0 15 { kW with phase := .execute };
      ((ev (.taskStart 0) x).eng 0).cur = some 2 ∧ (ev (.taskStart 0) x).taskState 0 15 = tsPreempted) := by decide +kernel
theorem test_TasksStart_resume : (let x := run0.setTaskState 0 15 tsPreempted;
    x.preemptedTask 0 = some 15 ∧ x.dueTask 0 = none ∧ ((ev (.taskResume 0) x).eng 0).cur = some 15) := by decide +kernel
theorem test_TasksStart_forces : (let x := (due2.setEng 0 { Eng.idle with cur := some 15 }).setTask 0 15 { kW with phase := .forces, readyAt := 3 };
      let d := ev (.taskStart 0) { x with ticks := 1 };
      (d.eng 0).cur = some 2 ∧ d.taskState 0 15 = tsPreempted ∧ (d.task 0 15).left = 2) ∧
    (let x := { run0.setTaskState 0 15 tsPreempted with ticks := 9 }.setTask 0 15 { kW with phase := .forces, readyAt := 3, left := 2 };
      ((ev (.taskResume 0) x).eng 0).cur = some 15 ∧ ((ev (.taskResume 0) x).task 0 15).readyAt = 11) := by decide +kernel
theorem test_TasksStart_timer : (let x (kind : Nat) : Dev := { e0 with timers := [(4095, ⟨8, 8, kind == 1, kind != 1, kind, true, 0⟩)] };
    ((ev (.timerExpiry 4095) (x 1)).timer 4095).q = true ∧ ((ev (.timerExpiry 4095) (x 2)).timer 4095).q = false ∧
    ((ev (.timerExpiry 4095) (x 3)).timer 4095).q = false) := by decide +kernel

/-! ## HiWard-L -/

theorem test_ready : (rdy kW).Ready 0 2 := by unfold Dev.Ready; decide

/-- What an operand resolves to, and the fault that it raises. -/
def res {α : Type} : Except HlFault α → Option α × Option HlFault
  | .ok l => (some l, none)
  | .error f => (none, some f)
theorem test_OperandsName : (let x := (rdy kW).setReg (A.PE_TCRES 0) (tc 1);
    x.hasQLine 0 2 0 = false ∧ res (x.resolve 0 2 3 4095 9) = (some (.l 4095), none) ∧ res (x.resolve 0 2 3 4096 9) = (none, some ⟨7, memInfo 3 9⟩) ∧
    res (x.resolve 0 2 4 255 9) = (some (.t 63 3), none) ∧ res (x.resolve 0 2 4 256 9) = (none, some ⟨11, memInfo 4 9⟩) ∧
    res (x.resolve 0 2 5 0 9) = (none, some ⟨11, memInfo 5 9⟩) ∧ res (x.resolve 0 2 6 0 9) = (none, some ⟨7, memInfo 6 9⟩) ∧ x.partWord 0 0 = none ∧
    res (x.resolve 0 2 0 0 9) = (none, some ⟨3, memInfo 0 9⟩)) := by decide +kernel
theorem test_OperandsName_regions : (let x := (((rdy kW).setReg (A.PE_IREG 0 1) 0x80010FFF).setReg (A.PE_TASK_MASK 0 2) 2);
    x.hasILine 0 2 4095 = true ∧ res (x.resolve 0 2 0 16383 9) = (some (.i 16383), none)) ∧
    (let x := ev (.mmapWrite 7 mm3) e0; x.partWord 0 131071 = some (7 * 131072 + 131071) ∧ x.partWord 0 131072 = none ∧
      x.ownsLive 1 3 = true) := by decide +kernel
def lbit (n : Nat) : BmOp := .direct 3 (BitVec.ofNat 24 n)
theorem test_BitMemory : (res ((rdy kW).bitRef 0 2 ((rdy kW).hlBank 0 2) (lbit 33))).1 = some ⟨.l 1, 1, 0, 3, 33⟩ ∧
    (Loc.l 1).writable = true ∧ (rdy kW).locWaits (.l 1) = false ∧
    (hl (.hlLdn 0 (lbit 33)) kW).ba = true ∧ (hl (.hlSt 0 (lbit 33)) { kW with ba := true }).lmem = [(1, 2)] ∧
    (hl (.hlRst 0 (lbit 33)) { kW with ba := true, lmem := [(1, 6)] }).lmem = [(1, 4)] ∧
    (hl (.hlFedg 0 (lbit 33)) { kW with lmem := [(1, 2)] }).ba = true ∧
    (hl (.hlFedg 0 (lbit 33)) { kW with lmem := [(1, 2)] }).lmem = [] := by decide +kernel
theorem test_BitLogic : (hl (.hlStb 0 1 1) { kW with ba := true }).rw 1 = 7 ∧ (hl (.hlStb 0 1 2) kW).rw 1 = 1 ∧
    (hl (.hlPush 0) { kW with ba := true, bits := List.replicate 15 false }).bits = true :: List.replicate 15 false ∧
    (hl (.hlXors 0) { kW with ba := true, bits := [true, false] }).ba = false ∧
    (hl (.hlXors 0) { kW with ba := true, bits := [true, false] }).bits = [false] := by decide +kernel
/-- Z, N, V, C of a bank. -/
def zn (k : Task) : List Bool := [k.z, k.n, k.v, k.c]
theorem test_IntegerArithmetic_add : (hl (.hlAdd 0 0 3 3) kW).rw 0 = 0 ∧ zn (hl (.hlAdd 0 0 3 3) kW) = [true, false, true, true] ∧
    zn (hl (.hlAdc 0 0 4 5) { kW with c := true }) = [true, false, false, true] ∧
    zn (hl (.hlSub 0 0 2 1) kW) = [false, true, false, true] ∧ zn (hl (.hlSbc 0 0 1 1) { kW with c := true }) = [false, true, false, true] := by decide +kernel
theorem test_IntegerArithmetic_signs : (hl (.hlNeg 0 0 3) kW).rw 0 = 0x80000000 ∧ (hl (.hlNeg 0 0 3) kW).v = true ∧
    (hl (.hlAbs 0 0 4) kW).rw 0 = 1 ∧ (hl (.hlMin 0 0 3 4) kW).rw 0 = 0x80000000 ∧ (hl (.hlMinu 0 0 4 3) kW).rw 0 = 0x80000000 ∧
    (hl (.hlMulh 0 0 3 3) kW).rw 0 = 0x40000000 ∧ (hl (.hlMulhu 0 0 4 4) kW).rw 0 = 0xFFFFFFFE ∧ (hl (.hlMulh 0 0 4 1) kW).rw 0 = 0xFFFFFFFF := by decide +kernel
theorem test_IntegerArithmetic_divide : (hl (.hlDiv 0 0 3 4) kW).rw 0 = 0x80000000 ∧ (hl (.hlDiv 0 0 3 4) kW).v = true ∧
    (hl (.hlDiv 0 0 1 9) kW).rw 0 = 0 ∧ (hl (.hlRem 0 0 1 9) kW).rw 0 = 5 ∧ (hl (.hlRem 0 0 1 9) kW).v = true ∧
    (hl (.hlRem 0 0 3 4) kW).rw 0 = 0 ∧ (hl (.hlRem 0 0 3 4) kW).v = false ∧ (hl (.hlDivu 0 0 4 2) kW).rw 0 = 0x55555555 ∧
    (hl (.hlRem 0 0 6 2) { kW with w := [(2, 3), (6, 0xFFFFFFFB)] }).rw 0 = 0xFFFFFFFE := by decide +kernel
theorem test_IntegerArithmetic_immediate : (hl (.hlAddi 0 0 1 0x3FFF) kW).rw 0 = 4 ∧ (hl (.hlAddi 0 0 1 0x3FFF) kW).c = true ∧
    (hl (.hlOri 0 0 9 0x3FFF) kW).rw 0 = 0x3FFF ∧ (hl (.hlMovi 0 0 0x8000) kW).rw 0 = 0xFFFF8000 ∧
    (hl (.hlMovh 0 1 0x1234) kW).rw 1 = 0x12340005 := by decide +kernel
theorem test_ComparesAndShifts_compare : (hl (.hlIcmp 0 false 2 3 1) kW).ba = true ∧ (hl (.hlIcmp 0 false 6 3 1) kW).ba = false ∧
    zn (hl (.hlIcmp 0 false 2 3 1) kW) = [false, false, true, false] ∧ (hl (.hlIcmp 0 true 9 4 4) kW).bits = [false] ∧
    (hl (.hlIcmp 0 true 9 4 4) kW).ba = true ∧ (hl (.hlIcmpi 0 false 7 4 0x3FFF) kW).ba = true := by decide +kernel
theorem test_ComparesAndShifts_shift : (hl (.hlShli 0 0 3 1) kW).c = true ∧ (hl (.hlShli 0 0 1 0) { kW with c := true }).c = true ∧
    (hl (.hlSari 0 0 3 31) kW).rw 0 = 0xFFFFFFFF ∧ (hl (.hlSari 0 0 3 31) kW).c = false ∧ (hl (.hlShri 0 0 1 1) kW).c = true ∧
    (hl (.hlRoli 0 0 3 1) kW).rw 0 = 1 ∧ (hl (.hlRoli 0 0 3 1) kW).c = true ∧ (hl (.hlShl 0 0 1 4) kW).rw 0 = 0x80000000 := by decide +kernel
theorem test_LoadsAndStores : (hl (.hlStw 0 1 3 4095) kW).lmem = [(4095, 5)] ∧ (hl (.hlLdw 0 0 3 7) { kW with lmem := [(7, 9)] }).rw 0 = 9 ∧
    (hl (.hlFld 0 7 3 2) { kW with lmem := [(2, 1), (3, 2)] }).rf 7 = 0x0000000200000001 ∧
    (hl (.hlLdx 0 0 3 1 0x7FFF) { kW with lmem := [(4, 9)] }).rw 0 = 9 ∧ (hl (.hlStw 0 1 3 0) { kW with fp := 8 }).lmem = [(8, 5)] := by decide +kernel
theorem test_LoadsAndStores_faults : (ev (.hlFst 0 0 3 1) (rdy kW)).get (A.PE_FAULT 0) F.PE_FAULT_CODE = 6 ∧
    (ev (.hlLdw 0 0 7 1) (rdy kW)).get (A.PE_FAULT 0) F.PE_FAULT_CODE = 1 ∧ (Loc.k 0).writable = false := by decide +kernel
/-- The active half of engine 0 with a code section of 64 instructions. -/
def code0 (k : Task) : Dev := ((rdy k).putWord (bankBase 3 + 8) 32).putWord (bankBase 3 + 12) 64
theorem test_FlowOfControl_branch : (code0 kW).inCode 0 95 = true ∧ (code0 kW).inCode 0 96 = false ∧ (code0 kW).Ready 0 2 ∧
    ((ev (.hlBr 0 2 95) (code0 kW)).task 0 2).idx = 95 ∧ ((ev (.hlBr 0 1 95) (code0 kW)).task 0 2).idx = 1 ∧
    (ev (.hlBr 0 0 96) (code0 kW)).get (A.PE_FAULT 0) F.PE_FAULT_CODE = 10 ∧
    (ev (.hlBr 0 0 96) (code0 kW)).reg (A.PE_FAULT_INFO 0) = 96 := by unfold Dev.Ready; decide
theorem test_FlowOfControl_call : ((ev (.hlCall 0 255 95) (code0 kW)).task 0 2).calls = [(1, 0)] ∧
    ((ev (.hlCall 0 255 95) (code0 kW)).task 0 2).fp = 1020 ∧
    (ev (.hlCall 0 255 95) (code0 { kW with fp := 3076 })).get (A.PE_FAULT 0) F.PE_FAULT_CODE = 9 ∧
    (ev (.hlCall 0 0 95) (code0 { kW with calls := List.replicate 32 (0, 0) })).get (A.PE_FAULT 0) F.PE_FAULT_CODE = 9 := by decide +kernel
theorem test_FlowOfControl : (hl (.hlEnd 0) kW).phase = .transfer ∧ (hl (.hlRet 0) { kW with calls := [(9, 4)] }).idx = 9 ∧
    (hl (.hlRet 0) { kW with calls := [(9, 4)] }).fp = 4 ∧ (ev (.hlRet 0) (rdy kW)).get (A.PE_FAULT 0) F.PE_FAULT_CODE = 9 := by decide +kernel
/-- Task 2 executes over a Q word that a force acts on. -/
def endQ : Dev := let x := ((rdy { kW with ns := 6 }).setReg (A.PE_QREG 0 15) 0x80010FFF).setReg (A.PE_TASK_MASK 0 2) 0x80000000
  { x with start := { x.start with forces := [(0, some ⟨true, false, mkHandle 0x04 16383, 0, 0xFFFFFFFF, 7, false, 0⟩)] } }
theorem test_FlowOfControl_forces : (endQ.forcesOn 0x03 0x04 (endQ.regionWords (endQ.taskQRegs 0 2))).length = 1 ∧
    (let k := (ev (.hlEnd 0) endQ).task 0 2; k.phase = .forces ∧ k.fcost = 5 ∧ k.readyAt = endQ.ticks + 1 ∧ k.ns = 9 ∧
      tabGet 0 k.work 16383 = 7) := by decide +kernel
theorem test_FlowOfControl_break : (rdy kW).lcs ≠ 2 ∧ (ev (.hlBkpt 0) (rdy kW)).peMode 0 = 2 ∧
    (ev (.hlBkpt 0) (rdy kW)).get (A.PE_STAT 0) F.PE_STAT_CAUSE = 4 ∧ (ev (.hlBkpt 0) (rdy kW)).taskState 0 2 = tsHalted := by decide +kernel
def kF : Task := { Task.idle with f := [(1, 0x3FF8000000000000), (2, 0x4000000000000000), (3, 0x7FF0000000000000), (4, 0x7FF8000000000001),
  (5, 0x8000000000000000), (6, 0xC1E0000000200000)], w := [(1, 0xFFFFFFFE), (2, 0x3FC00000)] }
theorem test_FloatArithmetic_rounds : (hl (.hlFadd 0 0 1 2) kF).rf 0 = 0x400C000000000000 ∧ (hl (.hlFmul 0 0 1 1) kF).rf 0 = 0x4002000000000000 ∧
    (hl (.hlFdiv 0 0 2 1) kF).rf 0 = 0x3FF5555555555555 ∧ (hl (.hlFsqrt 0 0 2) kF).rf 0 = 0x3FF6A09E667F3BCD ∧
    (hl (.hlFmadd 0 0 1 2) kF).rf 0 = 0x4008000000000000 := by decide +kernel
theorem test_FloatArithmetic_flags : zn (hl (.hlFneg 0 0 3) { kF with c := true }) = [false, true, true, true] ∧
    zn (hl (.hlFmov 0 0 5) kF) = [true, true, false, false] := by decide +kernel
theorem test_FloatArithmetic_compare : zn (hl (.hlFcmpCompare 0 false 2 1 2) { kF with c := true }) = [false, true, false, false] ∧
    (hl (.hlFcmpCompare 0 false 2 1 2) kF).ba = true ∧ (hl (.hlFcmpCompare 0 true 6 4 2) kF).ba = true ∧
    (hl (.hlFcmpCompare 0 true 6 4 2) kF).bits = [false] ∧ (hl (.hlFmin 0 0 4 2) kF).rf 0 = 0x4000000000000000 ∧
    (hl (.hlFmax 0 0 1 2) kF).rf 0 = 0x4000000000000000 := by decide +kernel
theorem test_FloatArithmetic_convert : (hl (.hlFcvtw 0 0 1) kF).rf 0 = 0xC000000000000000 ∧ (hl (.hlFcvtu 0 0 1) kF).rf 0 = 0x41EFFFFFFFC00000 ∧
    (hl (.hlWcvtf 0 0 1) kF).rw 0 = 2 ∧ (hl (.hlWtrf 0 0 1) kF).rw 0 = 1 ∧ (hl (.hlWcvtf 0 0 3) kF).rw 0 = 0x7FFFFFFF ∧
    (hl (.hlWcvtf 0 0 3) kF).v = true ∧ (hl (.hlWcvtf 0 0 6) kF).rw 0 = 0x80000000 ∧ (hl (.hlFcvts 0 0 2) kF).rf 0 = 0x3FF8000000000000 ∧
    (hl (.hlScvtf 0 0 1) kF).rw 0 = 0x3FC00000 := by decide +kernel
/-- Engine 0 has the timers and counters 0 to 63; timer 1 and counter 1 as given. -/
def tcs (k : Task) (o : Timer) (c : Counter) : Dev :=
  { ((rdy k).setReg (A.PE_TCRES 0) 0x00010001) with timers := [(1, o)], counters := [(1, c)] }
theorem test_TimersAndCounters_timers : (let y (b : Bool) (o : Timer) := tcs { kW with ba := b } o ⟨0, 1, false, false⟩;
    (y true ⟨8, 8, false, false, 0, false, 0⟩).get (A.PE_TCRES 0) F.PE_TCRES_TCNT = 1 ∧
    (ev (.hlTon 0 false 0 1) (y true ⟨8, 8, false, false, 1, false, 0⟩)).timer 1 = ⟨8, 0, true, false, 1, true, 0⟩ ∧
    (ev (.hlTon 0 false 0 1) (y true ⟨8, 8, true, false, 1, true, 0⟩)).timer 1 = ⟨8, 8, true, true, 1, true, 0⟩ ∧
    (ev (.hlTof 0 false 0 1) (y false ⟨8, 3, true, true, 2, false, 0⟩)).timer 1 = ⟨8, 0, false, true, 2, true, 0⟩ ∧
    (ev (.hlTof 0 false 0 1) (y false ⟨8, 8, false, true, 2, true, 0⟩)).timer 1 = ⟨8, 8, false, false, 2, true, 0⟩) := by decide +kernel
theorem test_TimersAndCounters_pulse : (let y (b : Bool) (o : Timer) := tcs { kW with ba := b } o ⟨0, 1, false, false⟩;
    (ev (.hlTp 0 false 0 1) (y true ⟨8, 3, false, false, 3, false, 0⟩)).timer 1 = ⟨8, 0, true, true, 3, true, 0⟩ ∧
    (ev (.hlTp 0 false 0 1) (y false ⟨8, 7, true, true, 3, true, 0⟩)).timer 1 = ⟨8, 7, false, true, 3, true, 0⟩ ∧
    (ev (.hlTrst 0 false 0 1) (y true ⟨8, 7, true, true, 3, true, 5⟩)).timer 1 = ⟨8, 0, false, false, 0, false, 0⟩ ∧
    (ev (.hlTp 0 false 0 64) (y true .zero)).get (A.PE_FAULT 0) F.PE_FAULT_CODE = 11 ∧
    (ev (.hlTon 0 true 4 2) (y true ⟨8, 8, true, false, 1, true, 0⟩)).timer 1 = ⟨8, 8, true, true, 1, true, 0⟩) := by decide +kernel
theorem test_TimersAndCounters_counters : (let y (c : Counter) := tcs { kW with ba := true } .zero c;
    (ev (.hlCtu 0 false 0 1) (y ⟨2, 1, false, false⟩)).counter 1 = ⟨2, 2, true, false⟩ ∧
    ((ev (.hlCtu 0 false 0 1) (y ⟨2, 1, false, false⟩)).task 0 2).ba = true ∧
    (ev (.hlCtu 0 false 0 1) (y ⟨2, 0x7FFFFFFF, false, false⟩)).counter 1 = ⟨2, 0x7FFFFFFF, true, false⟩ ∧
    (ev (.hlCtd 0 false 0 1) (y ⟨2, 0x80000000, false, false⟩)).counter 1 = ⟨2, 0x80000000, false, true⟩ ∧
    (ev (.hlCldv 0 false 0 1) (y ⟨2, 7, false, false⟩)).counter 1 = ⟨2, 2, false, false⟩ ∧
    (ev (.hlCrst 0 false 0 64) (y ⟨2, 7, false, false⟩)).get (A.PE_FAULT 0) F.PE_FAULT_CODE = 11) := by decide +kernel
theorem test_HandlesAndRecords_write : (let x := ((rdy { kW with w := [(1, 0x04003FFF), (2, 3)] }).setReg (A.PE_QREG 0 1) 0x80010FFF).setReg (A.PE_TASK_MASK 0 2) 0x20000;
    hclass 0x04003FFF = 4 ∧ validHandle 0x04003FFF = true ∧ x.hasQLine 0 2 4095 = true ∧
    ((ev (.hlHwr 0 1 2) x).task 0 2).work = [(16383, 3)] ∧ ((ev (.hlHwr 0 1 2) x).task 0 2).c = true ∧
    ((ev (.hlHwr 0 1 2) (rdy { kW with w := [(1, 0x04003FFF), (2, 3)] })).task 0 2).c = false) := by decide +kernel
theorem test_HandlesAndRecords_read : (let x := snap { (rdy { kW with w := [(1, 0x200001FF)] }) with points := [(0x200001FF, ⟨0x3FC00000, true⟩)] };
    x.kind 0x200001FF = .f32 ∧ ((ev (.hlHrd 0 0 1) x).task 0 2).rw 0 = 0x3FC00000 ∧ ((ev (.hlHrd 0 0 1) x).task 0 2).c = true ∧
    ((ev (.hlHrdf 0 0 1) x).task 0 2).rf 0 = 0x3FF8000000000000 ∧ validHandle 0x20000200 = false) ∧
    (ev (.hlHrd 0 0 1) (rdy { kW with w := [(1, 0x20000200)] })).reg (A.PE_FAULT_INFO 0) = 0x20000200 := by decide +kernel
theorem test_HandlesAndRecords_setpoint : (let x := rdy { kF with w := [(1, 0x200001FF)] };
    validHandle 0x200001FF = true ∧ x.kind 0x200001FF = .f32 ∧ (ev (.hlHwrf 0 1 1) x).point 0x200001FF = ⟨0x3FC00000, true⟩) := by decide +kernel
theorem test_HandlesAndRecords_stamp : (let k : Task := { kW with stamp := 0x500000007, ns := 40, snap := [(16383, ⟨1, true⟩)], w := [(1, 16383)] };
    let x := ((rdy k).setReg (A.PE_IREG 0 1) 0x80010FFF).setReg (A.PE_TASK_MASK 0 2) 2;
    x.hasILine 0 2 4095 = true ∧ ((ev (.hlVld 0 1) x).task 0 2).ba = true ∧ ((ev (.hlTexe 0 0) x).task 0 2).rw 0 = 40 ∧
    ((ev (.hlTsnap 0 14) x).task 0 2).rw 14 = 7 ∧ ((ev (.hlTsnap 0 14) x).task 0 2).rw 15 = 5 ∧
    (ev (.hlTsnap 0 15) x).get (A.PE_FAULT 0) F.PE_FAULT_CODE = 1) := by decide +kernel
theorem test_HandlesAndRecords_event : (let x := rdy { kW with w := [(1, 0xEFFF), (2, 4095)], lmem := [(4095, 8)] };
    ((ev (.hlEvt 0 1 2 1) x).scribe.offers.map fun o => (o.src, o.code, o.payload)) = [(1, 0xEFFF, [8])] ∧
    ((ev (.hlEvt 0 2 0 0) x).task 0 2).c = false ∧ (ev (.hlEvt 0 2 0 0) x).scribe.offers = []) := by decide +kernel
/-- The executing task is privileged. -/
def prv (k : Task) : Dev := (rdy k).set (A.PE_TASK_CTL 0 2) F.PE_TASK_CTL_PRIV 1
theorem test_PrivilegedInstructions : (rdy kW).taskPriv 0 2 = false ∧ (prv kW).taskPriv 0 2 = true ∧
    (ev (.hlPwr 0 1 2) (rdy kW)).get (A.PE_FAULT 0) F.PE_FAULT_CODE = 2 ∧
    (let x := prv { kW with w := [(1, BitVec.ofNat 32 A.MEM_JIG_BOOT), (2, 0xFFFFFFFF)] };
      (ev (.hlPwr 0 1 2) x).bit A.MEM_JIG_BOOT F.MEM_JIG_BOOT_RET = true ∧ ((ev (.hlPrd 0 0 1) x).task 0 2).c = true) ∧
    ((ev (.hlPrd 0 0 1) (prv { kW with w := [(1, 0xFFFFC)] })).task 0 2).c = false ∧
    (ev (.hlPmode 0 1 2) (prv { kW with w := [(1, 1), (2, 1)] })).bit (A.PE_STAT 1) F.PE_STAT_RUNREF = true := by decide +kernel
theorem test_PrivilegedInstructions_illegal : (ev (.hlMpost 0 15 1 2) (rdy kW)).get (A.PE_FAULT 0) F.PE_FAULT_CODE = 1 ∧
    (ev (.hlMrecv 0 14 1) (rdy kW)).get (A.PE_FAULT 0) F.PE_FAULT_CODE = 1 := by decide +kernel
theorem test_InstructionFaults : (let x := rdy { kW with bits := List.replicate 16 true };
    x.taskQRegions 0 2 = [] ∧ (ev (.hlPush 0) x).get (A.PE_FAULT 0) F.PE_FAULT_CODE = 8 ∧ (ev (.hlPush 0) x).taskState 0 2 = tsFaulted ∧
    (ev (.hlPush 0) x).get (A.PE_FAULT 0) F.PE_FAULT_TASK = 2 ∧ (ev (.hlPush 0) x).peMode 0 = 1 ∧ ((ev (.hlPush 0) x).eng 0).cur = none) ∧
    (ev (.hlPop 0) (rdy kW)).get (A.PE_FAULT 0) F.PE_FAULT_CODE = 8 := by decide +kernel
theorem test_InstructionFaults_first : (let x := ((rdy kW).set (A.PE_FAULT 0) F.PE_FAULT_CODE 12).taskFault 0 2 ⟨15, 7⟩ 4;
    x.get (A.PE_FAULT 0) F.PE_FAULT_CODE = 12 ∧ x.reg (A.PE_FAULT_INFO 0) = 0) := by decide +kernel

/-! ## Veneers and forces -/

/-- Bank 4 holds an empty veneer half for engine 0, validated: its task table at word 16 names no task. -/
def ven0 : Dev := ((((((run0.putWord (bankBase 4) 0x4C590001).putWord (bankBase 4 + 4) 1).putWord (bankBase 4 + 40) 16).putWords
  (bankBase 4 + 64) ((List.replicate 16 [0xFFFFFFFF, 0]).flatten)).set (A.MEM_BANK_STAT 4) F.MEM_BANK_STAT_OWNER 1).set
  (A.PE_CODE 0) F.PE_CODE_VEN 4).set (A.PE_CODE 0) F.PE_CODE_VVAL 1
def vpend : Dev := { (ev (.switchGap 0) ven0) with ticks := 5 }
theorem test_VeneerChange_request : ven0.vnrCheck 0 = none ∧ (ven0.eng 0).vnr = none ∧ run0.vnrCheck 0 = some 2 ∧
    (vpend.eng 0).vnr = some ⟨false, 0, none⟩ ∧ vpend.bit (A.PE_VNR_STAT 0) F.PE_VNR_STAT_PEND = true ∧
    (ev (.switchDrain 0) run0).get (A.PE_VNR_STAT 0) F.PE_VNR_STAT_CAUSE = 2 ∧ ev (.switchGap 0) vpend = vpend := by decide +kernel
theorem test_VeneerChange_ends : (ev (.vnrWithdraw 0) vpend).get (A.PE_VNR_STAT 0) F.PE_VNR_STAT_CAUSE = 9 ∧
    (let x : Dev := { vpend with ticks := vpend.vnrBound 0 }; (ev (.switchTimeout 0) x).get (A.PE_VNR_STAT 0) F.PE_VNR_STAT_CAUSE = 8) := by decide +kernel
theorem test_VeneerChange_switch : vpend.peMode 0 = 1 ∧ vpend.inCycle 0 = false ∧ (vpend.carryPlan 0).stores = [] ∧
    (let d := ev (.veneerSwitch 0) vpend; d.get (A.PE_CODE 0) F.PE_CODE_ACT = 4 ∧ d.get (A.PE_CODE 0) F.PE_CODE_VEN = 3 ∧
      (d.eng 0).vnr = some ⟨false, 0, some 255⟩ ∧ d.mem = vpend.mem) := by decide +kernel
/-- Requester 3 stages a force of setpoint 511 in entry 0. -/
def frc : Dev := (z.setReg (reqKey 3 A.SYS_FRC_KEY) 0x200001FF).setReg (reqKey 3 A.SYS_FRC_VAL) 0x3F800000
def frc1 : Dev := ev (.forceEnable 3 0xFFFFFFFF) frc
theorem test_ForceCommits_enable : frc.vnrRunning (F.SYS_FRC_CTL_ENG.of 0xFFFFFFFF) = false ∧ validHandle 0x200001FF = true ∧
    forceClass 0x20 = true ∧ frc.forceDup 0 0x200001FF 0 = false ∧ (frc1.forceAt 0).isSome = true ∧ frc1.now 0x200001FF = ⟨0x3F800000, true⟩ ∧
    frc1.get A.SYS_FRC_STAT F.SYS_FRC_STAT_USED = 1 := by decide +kernel
theorem test_ForceCommits_refused : (ev (.forceEnable 3 0) (frc.setReg (reqKey 3 A.SYS_FRC_KEY) 0x20000200)).get A.SYS_FRC_STAT F.SYS_FRC_STAT_LAST = 1 ∧
    (let x := frc1.set (reqKey 3 A.SYS_FRC_SEL) F.SYS_FRC_SEL_ENTRY 1;
      x.forceDup 1 0x200001FF 0 = true ∧ (ev (.forceEnable 3 0) x).get A.SYS_FRC_STAT F.SYS_FRC_STAT_LAST = 2 ∧
      x.forceAt 1 = none ∧ (ev (.forceUpdate 3 0) x).get A.SYS_FRC_STAT F.SYS_FRC_STAT_LAST = 5) := by decide +kernel
theorem test_ForceCommits_change : (let x := frc1.setReg (reqKey 3 A.SYS_FRC_VAL) 0x40000000;
    ((ev (.forceUpdate 3 0) x).forceAt 0).map (fun f => (f.value, f.valid)) = some (0x40000000, false) ∧
    (ev (.forceClear 3) x).forces = []) := by decide +kernel
/-- The Q word 16383 of engine 0, which is in STOP, has setpoint 511 as its destination; requester 3 stages a force of it. -/
def frcQ : Dev := (({ e0 with policy := { e0.policy with outMap := [⟨16383, 0, 0x200001FF⟩] } }.setReg (A.PE_QREG 0 15) 0x80010FFF).setReg
  (reqKey 3 A.SYS_FRC_KEY) (mkHandle 0x04 16383)).setReg (reqKey 3 A.SYS_FRC_MASK) 0xFFFFFFFF |>.setReg (reqKey 3 A.SYS_FRC_VAL) 7
theorem test_ForceCommits_stands : frcQ.qStands 4095 = true ∧ frcQ.forceDup 0 (mkHandle 0x04 16383) 0xFFFFFFFF = false ∧
    (let x := ev (.forceEnable 3 0xFFFFFFFF) frcQ; x.now 0x200001FF = ⟨7, true⟩ ∧ x.get A.SYS_FRC_STAT F.SYS_FRC_STAT_LAST = 0 ∧
      (ev (.forceClear 3) x).now 0x200001FF = ⟨0, false⟩) := by decide +kernel
theorem test_ForceCommits_running : (let x := frc.setEng 7 { Eng.idle with vnr := some ⟨true, 0, some 9⟩ };
    x.vnrRunning 7 = true ∧ F.SYS_FRC_CTL_ENG.of 0xFFFFFFFF = 7 ∧ (ev (.forceEnable 3 0xFFFFFFFF) x).get A.SYS_FRC_STAT F.SYS_FRC_STAT_LAST = 4) := by decide +kernel

/-! ## Loop tiles -/

/-- Tile 7 has accepted bank 5. -/
def t7 : Dev := ((z.set (A.LT_CFG 7) F.LT_CFG_BANK 5).set (A.MEM_BANK_STAT 5) F.MEM_BANK_STAT_OWNER 0x17).onTile 7 fun t => { t with accepted := true }
/-- Slot 511 takes a mode. -/
def sl (m : Nat) : Dev := snap (t7.set (slotStat 511) F.LT_SLOT_STAT_MODE m)
theorem test_SlotRequestStands : (t7.tile 7).accepted = true ∧ (ev (.closeUser 511 (some 31)) t7).slotPend 511 = 6 ∧
    (ev (.closeUser 511 (some 31)) t7).bit (slotStat 511) F.LT_SLOT_STAT_GLUW = true ∧ (ev (.slotOff 511 none) t7).slotPend 511 = 1 := by decide +kernel
theorem test_SlotWithdrawAndClear : (ev (.slotWithdraw 511 none) (ev (.closeUser 511 (some 31)) t7)).slotPend 511 = 0 ∧
    (ev (.cclr 511) (t7.set (slotStat 511) F.LT_SLOT_STAT_CAUSE 3)).get (slotStat 511) F.LT_SLOT_STAT_CAUSE = 0 := by decide +kernel
theorem test_DescriptorWordTaken : (sl 0).slotWriteCheck 511 7 0x3F800000 = none ∧
    (ev (.descriptorWrite 3 511 7 0x3F800000) (sl 0)).reg (slotBase 511 + 28) = 0x3F800000 ∧
    (sl 0).slotWriteCheck 511 30 0x3F800000 = none ∧ (sl 2).slotWriteCheck 511 7 0x3F800000 ≠ none := by decide +kernel
theorem test_DescriptorWordTaken_limit : t7.bit (A.LT_CFG 7) F.LT_CFG_LOCK = false ∧ (d32 0x3F800000).isNan = false ∧
    (ev (.hardLimitWrite 511 true 0x3F800000) t7).reg (A.LT_SLOT_HHI 7 63) = 0x3F800000 ∧
    (d32 0x3F800000).lt (d32 (t7.reg (A.LT_SLOT_HLO 7 63))) = false := by decide +kernel
theorem test_TileBankAccepted : (let x := z.set (A.MEM_BANK_STAT 47) F.MEM_BANK_STAT_OWNER 0x10; let v : Word := putBits 0 F.LT_CFG_BANK.hi F.LT_CFG_BANK.lo 47;
    x.slotMode 63 = 0 ∧ x.owner 47 = 0x10 ∧ F.LT_CFG_BANK.of v = 47 ∧ (ev (.ltBankWrite 0 v) x).get (A.LT_CFG 0) F.LT_CFG_BANK = 47 ∧
    ((ev (.ltBankWrite 0 v) x).tile 0).accepted = true) := by decide +kernel
/-- An update of slot 511 waits; its descriptor has a gain of 1 and hard limits ±2. -/
def job7 : Job := ⟨0, 0, 0x3FF0000000000000, 0, 0, (sl 2).slotWords 511, 0, 9⟩
def jb7 : Dev := (sl 2).onLoop 511 fun l => { l with upd := some job7 }
theorem test_LoopUpdateRuns : jb7.tileJobs 7 = [(511, true, job7)] ∧ (jb7.tile 7).busy ≤ 3 ∧
    (updateWith job7.close job7.words (jb7.slotSt 511) job7.e job7.ff).isSome = true ∧
    ((ev (.loopUpdate 7 3) jb7).tile 7).busy = 28 ∧ ((ev (.loopUpdate 7 3) jb7).loop 511).upd = none := by decide +kernel
/-- Hard limits 1 and 2. -/
def lim12 : List Word := List.replicate 31 0 ++ [0x3F800000, 0x40000000]
theorem test_HardLimitsBound : lt64 (slotHhi lim12) (slotHlo lim12) = false ∧ hardClamp lim12 0 = 0x3FF0000000000000 ∧
    hardClamp lim12 0x4008000000000000 = 0x4000000000000000 ∧
    (updateWith 0 lim12 ⟨0, 0, 0, 0⟩ 0 0).map (·.y) = some 0x3FF0000000000000 := by decide +kernel
theorem test_TileConditions_policy : (ev (.fbcmdGo 511) t7).later = [.policy 511] := by decide +kernel
/-- Slot 511 is CLOSED on UPDATE of a converter result, silent for long. -/
def stale7 : Dev := snap ((((sl 2).setReg (slotBase 511 + 4) 0x10000000).setReg (slotBase 511 + 16) 0x80000000).onLoop 511
  fun l => { l with staleArmed := true, lastSample := 1 })
def stale8 : Dev := { stale7 with ticks := 1000000000 }
theorem test_TileConditions_stale : stale8.slotMode 511 = 2 ∧ slotKind (stale8.slotWords 511) = 2 ∧ (stale8.loop 511).staleArmed = true ∧
    stale8.staleChecked (slotWord (stale8.slotWords 511) 1) = true ∧ stale8.get0 (slotBase 511 + 0x6C) F.LT_SLOT_SUPV_FBK = 0 ∧
    F.LT_SLOT_SUPV_STALEN.of (slotWord (stale8.slotWords 511) 27) * slotMiniv (stale8.slotWords 511) < 4000000000 ∧
    (ev (.staleTimeout 511) stale8).slotMode 511 = 1 ∧ (ev (.staleTimeout 511) stale8).get (slotStat 511) F.LT_SLOT_STAT_CAUSE = causeStale := by
  decide +kernel
/-- Slot 511 is OPEN, ramps on comparator 5, which fires on this tick. -/
def ramp7 : Dev := snap ((((sl 1).setReg (slotBase 511 + 16) 0x40000005).set (A.LT_SLOT_HSTAT 7 63) F.LT_SLOT_HSTAT_RAMPING 1).onTime
  fun t => { t with fired := [5] })
theorem test_TileConditions_ramp : ramp7.slotMode 511 = 1 ∧ ramp7.ramping 511 = true ∧ slotKind (ramp7.slotWords 511) = 1 ∧
    slotIdx (ramp7.slotWords 511) = 5 ∧ (ramp7.loop 511).rampTick ≠ 1 ∧ ((ev (.rampStep 511) ramp7).loop 511).wr.isSome = true := by decide +kernel
theorem test_TileWakes : jb7.tileAwake 7 = true ∧ (ev (.tileWake 7) (jb7.set (A.LT_STAT 7) F.LT_STAT_GATED 1)).bit (A.LT_STAT 7) F.LT_STAT_GATED = false := by
  decide +kernel

/-! ## Sequencers and glue-up -/

/-- A RESIDENT program of context 0 in bank 60: two steps, the first with a transition at once to the second, and the claim
of remote point 4095. -/
def prog0 : Dev :=
  let x := ((z.set (A.MEM_BANK_STAT 60) F.MEM_BANK_STAT_OWNER 0x20).set (A.MEM_BANK_STAT 5) F.MEM_BANK_STAT_OWNER 0x20).set
    (A.SEQ_UNIT_CFG 0) F.SEQ_UNIT_CFG_BANK 5
  let x := (x.set (A.SEQ_CTX_PROG 0) F.SEQ_CTX_PROG_SRC 1).set (A.SEQ_CTX_PROG 0) F.SEQ_CTX_PROG_BANK 60
  let x := (x.putWords (bankBase 60) [0x53510001, 2, 0x00010000, 1, 200, 1]).putWords (bankBase 60 + 64) [20, 40]
  let x := (x.putWords (bankBase 60 + 80) [0x00040000, 0, 0, 12, 1, 0x40000000]).putWords (bankBase 60 + 160) [0x00040001, 100, 0x00010000, 12, 0, 0x50000000]
  x.putWord (bankBase 60 + 800) 0x31000FFF
theorem test_SequencerConfigured : z.ctxMode 15 = cmIdle ∧ (z.ctx 15).booting = false ∧ (ev (.progWrite 15 0xFFFFFFFF) z).reg (A.SEQ_CTX_PROG 15) = 0x81FFFFFF ∧
    (ev (.seqBankWrite 0 (putBits 0 F.SEQ_UNIT_CFG_BANK.hi F.SEQ_UNIT_CFG_BANK.lo 5)) (prog0.set (A.SEQ_UNIT_CFG 0) F.SEQ_UNIT_CFG_BANK 0)).get
      (A.SEQ_UNIT_CFG 0) F.SEQ_UNIT_CFG_BANK = 5 := by decide +kernel
/-- Context 15 is in a mode. -/
def cx (m : Nat) : Dev := z.setCtxMode 15 m
theorem test_ContextRequests : reqFits 2 cmRunning = true ∧ reqFits 3 cmPaused = true ∧ reqFits 4 cmRunning = true ∧ reqFits 5 cmFaulted = true ∧
    reqFits 2 cmPaused = false ∧ (ev (.ctxPause 15 7) (cx cmRunning)).later = [.ctxReq 15 2] ∧
    ((cx cmRunning).ctxReqAct 15 2).ctxMode 15 = cmPaused ∧ ((cx cmPaused).ctxReqAct 15 3).ctxMode 15 = cmRunning ∧
    ((cx cmFaulted).ctxReqAct 15 5).ctxMode 15 = cmIdle ∧ ((cx cmPaused).ctxReqAct 15 2).bit (A.SEQ_CTX_STAT 15) F.SEQ_CTX_STAT_CFGERR = true := by
  decide +kernel
theorem test_ContextStarts_image : z.resident 15 = false ∧ (let d := ev (.ctxStart 15 0xFFFF) z;
    (d.ctx 15).booting = true ∧ (d.ctx 15).waiting = some ⟨none, trStart, 0, false⟩ ∧ d.pool.pageReqs = [⟨79, 1, 0⟩]) := by decide +kernel
/-- What a look into a program gives. -/
def got {α : Type} : Dev × Prog α → Option α
  | (_, .ok a) => some a
  | _ => none
theorem test_ContextStarts_resident : prog0.resident 0 = true ∧ (prog0.ctx 0).waiting = none ∧
    (let p := prog0.progWords 0 0 0 16; p.1.headerOk 0 ((got p).getD []) = true ∧ p.1.owner (p.1.get (A.SEQ_UNIT_CFG 0) F.SEQ_UNIT_CFG_BANK) = seqSrc 0 ∧
      got (p.1.claimTable 0 (headerOf ((got p).getD []))) = some [0x31000FFF]) ∧
    (let d := ev (.ctxStart 0 1) prog0; d.ctxMode 0 = cmRunning ∧ (d.ctx 0).step = 1 ∧ d.claim 0x31000FFF = some (.context 0)) := by decide +kernel
/-- Context 0 has stood in step 0 for 50 µs. -/
def run50 (k : Nat) : Dev := (prog0.setCtxMode 0 cmRunning).onCtx 0 fun c => { c with step := k, ticks := 12500 }
theorem test_EvaluationTakesFirst : (run50 0).evalDue 0 = true ∧
    (let p := ((run50 0).onCtx 0 fun c => { c with evaled := 51 }).stepRec 0 0;
      ((got p).map fun r => (p.1.firstTrans 0 50 none 0 r.trans).isSome) = some true) ∧
    ((ev (.stepEvaluation 0) (run50 0)).ctx 0).step = 1 := by decide +kernel
theorem test_EvaluationTakesFirst_timeout : (let x := (run50 1).onCtx 0 fun c => { c with ticks := 25000 }; x.evalDue 0 = true ∧
    (ev (.stepEvaluation 0) x).ctxMode 0 = cmFaulted ∧ (ev (.stepEvaluation 0) x).get (A.SEQ_CTX_STAT 0) F.SEQ_CTX_STAT_CAUSE = scTimeout ∧
    ((ev (.stepEvaluation 0) (run50 1)).ctx 0).step = 1 ∧ (ev (.stepEvaluation 0) (run50 1)).ctxMode 0 = cmRunning) := by decide +kernel
/-- A ramp of setpoint 511 from 0 to 4 in 4 ms, by the millisecond. -/
def rmp : Ramp := ⟨true, 0x200001FF, 0, 0x4010000000000000, 4, 1, 500, 0⟩
def rmp15 : Dev := (cx cmRunning).onCtx 15 fun c => { c with ramps := [(3, rmp)] }
theorem test_RampWriteSetpoint : rmp15.rampDue 15 3 = true ∧ rmp15.reg (A.LT_SLOT_SP 7 63) = 0 ∧
    tabGet 0 rmp15.spRank 511 ≤ spPlace (.context 15) ∧ (ev (.rampWrite 15 3) rmp15).point 0x200001FF = ⟨0x40000000, true⟩ ∧
    (((ev (.rampWrite 15 3) rmp15).ctx 15).ramp 3).done = 2 := by decide +kernel
theorem test_PageArrives : (let x : Dev := { z with fetches := [(1, [⟨15, 2, 10239, true⟩])], store := [(2 * 4096 + 4095, 9)] };
    (x.ctx 15).waiting = none ∧ tabGet [] x.fetches 1 = [⟨15, 2, 10239, true⟩] ∧ (x.store.map (·.1)) = [12287]) := by decide +kernel
/-- Glue-up slot 31 is in a state. -/
def gl (st : Nat) : Dev := z.setGluState 31 st
theorem test_GlueCommands_build : (ev (.gluBuild 31) z).gluState 31 = gsBuild ∧ (ev (.gluCancel 31) (gl gsArming)).gluState 31 = gsAborted ∧
    (ev (.gluFree 31) (gl gsNotSwitched)).gluState 31 = gsFree ∧ gluFinal gsCommitted = true ∧ gluFinal gsReport = false ∧
    (ev (.gluLaunch 31) z).bit (A.GLU_STAT 31) F.GLU_STAT_CMDERR = true := by decide +kernel
theorem test_GlueCommands_launch : (let x := ((gl gsBuild).setPair (A.GLU_T_LO 31) 1000000000).set A.TIME_STAT F.TIME_STAT_OFFSYNC 0;
    x.bit A.TIME_STAT F.TIME_STAT_OFFSYNC = false ∧ x.ts.toNat + x.gluMargin 31 < x.gluT 31 ∧ (ev (.gluLaunch 31) x).gluState 31 = gsArming ∧
    (ev (.gluLaunch 31) x).later = [.gluArm 31 1]) := by decide +kernel
theorem test_GlueFrames_arm : z.standby = false ∧ ((gl gsBuild).gluParts 31) = [] ∧ (ev (.armReceived 31 15 31 77) (gl gsBuild)).gluState 31 = gsArmed ∧
    (ev (.armReceived 31 15 31 77) (gl gsBuild)).gluT 31 = 77 := by decide +kernel
/-- Participant 0 of the slot is a remote one. -/
def rem (st : Nat) : Dev := ((gl st).set (A.GLU_CTL 31) F.GLU_CTL_NPART 1).set (A.GLU_PART 31 0) F.GLU_PART_KIND 4
theorem test_GlueFrames_reply : (rem gsArming).gluParts 31 = [(0, 4, 0)] ∧ (ev (.replyReceived 31 0 false) (rem gsArming)).gluState 31 = gsAborted ∧
    (ev (.reportReceived 31 0 false false false) (rem gsReport)).gluState 31 = gsSplit ∧
    (ev (.reportReceived 31 0 true false false) (rem gsReport)).gluState 31 = gsCommitted := by decide +kernel
theorem test_GlueFrames_commit : (gl gsArmed).gluFrom 31 0 0 = true ∧ (ev (.commitReceived 31 0 0) (gl gsArmed)).gluState 31 = gsCommit ∧
    (ev (.abortReceived 31 0 0) (gl gsArmed)).gluState 31 = gsAborted := by decide +kernel
theorem test_GlueInstants : (ev (.gluDeadline 31) (gl gsArming)).gluState 31 = gsAborted ∧ (ev (.gluNodec 31) (gl gsArmed)).gluState 31 = gsNotSwitched ∧
    (let x := (rem gsReport).onTime fun t => { t with ts := 1000000000000 }; (ev (.reportWindow 31) x).gluState 31 = gsSplit) ∧
    (ev (.gluDeadline 31) (gl gsArming)).get (A.GLU_STAT 31) F.GLU_STAT_CAUSE = gcNoReply := by decide +kernel
theorem test_GlueInstants_switch : (let x := ((gl gsCommit).set A.TIME_STAT F.TIME_STAT_OFFSYNC 0).set (A.GLU_STAT 31) F.GLU_STAT_COORD 1;
    x.gluDue 31 = true ∧ (ev (.gluSwitch 31) x).gluState 31 = gsCommitted) := by decide +kernel

/-! ## Converters and outputs -/

/-- Converter 7 with hidden state as given. -/
def ad (f : Adc → Adc) : Dev := z.onAdc 7 f
def fw (f : Fld) (v : Nat) (w : Word) : Word := putBits w f.hi f.lo v
/-- An entry word: TS 2, no filter, input 3. -/
def ent3 : Word := fw F.ANA_ENT_TS 2 (fw F.ANA_ENT_INP 3 0)
theorem test_Converters_mode : F.ANA_CTL_CAL.of (z.reg (A.ANA_CTL 7)) = 0 ∧ (ev (.modeContinuous 7) z).adcMode 7 = 1 ∧
    ((ev (.modeContinuous 7) z).adc 7).due = some 4 ∧ (ev (.modeIdle 7) (ev (.modeContinuous 7) z)).adcMode 7 = 0 ∧
    (ev (.modeContinuous 7) (ad fun c => { c with busy := 1 })).adcMode 7 = 0 ∧ z.timedOk 5 (z.adcRdur 7) = false ∧
    (ev (.modeTimed 7 5) z).bit (A.ANA_STAT 7) F.ANA_STAT_CFGERR = true := by decide +kernel
theorem test_Converters_timed : (let x := per5; x.timedOk 5 (x.adcRdur 7) = true ∧ (ev (.modeTimed 7 5) x).adcMode 7 = 2 ∧
    (ev (.modeTimed 7 5) x).get (A.ANA_CTL 7) F.ANA_CTL_TT = 5) := by decide +kernel
theorem test_Converters_entry : F.ANA_ENT_FILT.of ent3 ≠ 3 ∧ entBad (ent3 &&& 0x1FFFFFFF) = false ∧ z.adcIsTimed 7 = false ∧
    ((ev (.entWrite 7 15 ent3) z).adc 7).pend = [(0, 15, ent3)] ∧ (ev (.entWrite 7 15 ent3) z).reg (A.ANA_ENT 7 15) = ent3 ∧
    entBad (fw F.ANA_ENT_FLEN 1 ent3) = true ∧
    (ev (.entWrite 7 15 (fw F.ANA_ENT_FLEN 1 ent3)) z).bit (A.ANA_STAT 7) F.ANA_STAT_CFGERR = true ∧
    ((ev (.entWrite 7 16 16) z).adc 7).pend = [(0, 16, 16)] := by decide +kernel
theorem test_Converters_round : (let x := ad fun c => { c with due := some 0, pend := [] }; x.roundDue 7 = some 0 ∧
    ((ev (.roundStart 7) x).adc 7).busy = 1 ∧ ((ev (.roundStart 7) x).adc 7).rounds = 1) ∧
    (let x := { ad fun c => { c with due := some 12, pend := [(2, 15, ent3)] } with ticks := 3 };
      x.roundDue 7 = some 12 ∧ ((ev (.roundStart 7) x).adc 7).word 15 = ent3) ∧
    (let x := ad fun c => { c with due := some 0, calReq := true }; ((ev (.calibrationRound 7 0xFFFF) x).adc 7).calRef = some (-1) ∧
      (ev (.calibrationRound 7 0xFFFF) x).bit (A.ANA_RES 7 0) F.ANA_RES_STALE = true) := by decide +kernel
/-- Entry 3, the last, is under conversion. -/
def conv : Dev := { ad fun c => { c with busy := 1, idx := 3, nent := 4, words := [(3, ent3)], lastInp := entInput ent3 } with ticks := 1000 }
theorem test_Converters_conversion : (conv.adc 7).convEnd / 4 ≤ conv.ticks ∧ kerfLen ((conv.adc 7).word 3) = 0 ∧ conv.standby = false ∧
    (ev (.conversionDone 7 0x8001 false) conv).point (mkHandle 0x10 115) = ⟨0xFFFF8001, true⟩ ∧
    (ev (.conversionDone 7 5 true) conv).point (mkHandle 0x10 115) = ⟨0x7FFF, false⟩ ∧ conv.slotFollows 7 = false ∧
    ((ev (.conversionDone 7 5 true) conv).adc 7).busy = 0 ∧ conv.Unwatched (mkHandle 0x10 115) := by unfold Dev.Unwatched; decide
theorem test_Converters_calibration : ((ev (.anaCal 7) z).adc 7).calReq = true ∧
    (let x := ad fun c => { c with busy := 2 }; ev (.anaCal 7) x = x) ∧
    (let x := snap (z.setReg (A.ANA_RES 7 15) 6); (ev (.resRead 14 7 15) x).bus = ⟨.ok, 6⟩ ∧
      ((ev (.resRead 14 7 15) x).latched 14 (A.ANA_RTS 7 15)).isSome = true) := by decide +kernel
theorem test_OutputClaims_claim : z.claim (aoHandle 15) = none ∧ (ev (.aoHclm 6 15 true) z).claim (aoHandle 15) = some (writerOf 6) ∧
    (ev (.aoHclm 6 15 false) (ev (.aoHclm 6 15 true) z)).claim (aoHandle 15) = none ∧
    (let x := ev (.aoHclm 6 15 true) z; writerOf 0 ≠ writerOf 6 ∧ (ev (.aoHclm 0 15 true) x).claims = x.claims ∧
      told x (ev (.aoHclm 0 15 true) x) 0x44 = true) ∧
    (ev (.dqHclm 0 31 true) z).claim (dqHandle 31) = some .host := by decide +kernel
theorem test_OutputClaims_write : (let x := ev (.aoHclm 6 15 true) z; (ev (.aoValWrite 6 15 0x8000) x).point (aoHandle 15) = ⟨0xFFFF8000, true⟩ ∧
    ((ev (.aoValWrite 6 15 0x8000) x).ao 15).waiting = some 1 ∧ (ev (.aoValWrite 0 15 1) x).points = x.points) ∧
    (let x := ev (.dqHclm 0 31 true) z; (ev (.dqValWrite 0 31 0xFFFF) x).point (dqHandle 31) = ⟨0xFFFF, true⟩ ∧
      (ev (.dqValWrite 6 31 1) x).points = x.points) := by decide +kernel
theorem test_OutputClaims_update : (let x (last : Nat) : Dev := { z with aos := [(15, ⟨0, some 300, last, none⟩)], ticks := 300 };
    ((ev (.aoUpdate 15) (x 51)).ao 15).waiting = none ∧ ((ev (.aoUpdate 15) (x 51)).ao 15).lastUpd = 301 ∧
    ev (.aoUpdate 15) (x 52) = x 52) := by decide +kernel

/-! ## Position channels -/

/-- Channel 15 with a type and hidden state as given. -/
def pc (type : Nat) (f : Pos → Pos) : Dev := ((z.set (A.POS_CTL 15) F.POS_CTL_TYPE type).onPos 15 f)
/-- A control word: a type, filter 5. -/
def pcw (type : Nat) : Word := fw F.POS_CTL_TYPE type (fw F.POS_CTL_FILT 5 0)
def pp : Pos → Pos := fun p => p
theorem test_PositionChannel_type : z.posType 15 = 0 ∧ (ev (.posCtlWrite 15 (pcw 5)) z).posType 15 = 5 ∧
    (ev (.posCtlWrite 15 (pcw 2)) (pc 1 pp)).bit (A.POS_STAT 15) F.POS_STAT_CFGERR = true ∧
    (let x := (pc 1 pp).storePoint (posHandle 15) ⟨9, true⟩; x.standby = false ∧ (ev (.posCtlWrite 15 (pcw 0)) x).posType 15 = 0 ∧
      (ev (.posCtlWrite 15 (pcw 0)) x).point (posHandle 15) = ⟨9, false⟩) := by decide +kernel
theorem test_PositionChannel_edges : (pc 1 pp).posType 15 = 1 ∧
    (ev (.acceptedTransition 15 true true) (pc 1 pp)).get (A.POS_QERR 15) F.POS_QERR_DATA = 1 ∧
    (ev (.acceptedTransition 15 true true) (pc 1 pp)).bit (A.POS_STAT 15) F.POS_STAT_MODE = false ∧
    (ev (.acceptedTransition 15 true true) (pc 1 fun p => { p with illegal := [0, 0, 0] })).bit (A.POS_STAT 15) F.POS_STAT_MODE = true := by decide +kernel
theorem test_PositionChannel_index : (let x := ((pc 1 pp).set (A.POS_IDX 15) F.POS_IDX_IMODE 2).setReg (A.POS_IDXREF 15) 100;
    let x := x.set (A.POS_IDX 15) F.POS_IDX_IDXQ 0;
    x.posImode 15 = 2 ∧ (x.posCh 15).illegalAt ≠ x.sampleNo + 1 ∧ x.cuWatches 31 0x5F true = false ∧
    (ev (.index 15) x).reg (A.POS_RAW 15) = 100 ∧ (ev (.index 15) x).bit (A.POS_STAT 15) F.POS_STAT_HOMED = true) := by decide +kernel
theorem test_PositionChannel_wheel : ((ev (.toothEdge 15) (pc 4 pp)).posCh 15).edges = 1 ∧ (ev (.toothEdge 15) (pc 4 pp)).reg (A.POS_RAW 15) = 1 ∧
    (let x := ((pc 3 fun p => { p with phase := some 0 }).set (A.POS_AMP 15) F.POS_AMP_AMPLO 1).set (A.POS_AMP 15) F.POS_AMP_AMPHI 65535;
      x.ampOk 15 500000 0 = true ∧ phase12 500000 0 = 0 ∧ (ev (.phaseStep 15 0 500000) x).regs = x.regs ∧
      ((ev (.phaseStep 15 100000 500000) x).posCh 15).phase = some (phase12 500000 100000)) := by decide +kernel
theorem test_PositionChannel_ssi : (let x (t : Nat) := { pc 5 fun p => { p with ssi := some (0, 7) } with ticks := t };
    0 + (x 1000000).ssiLen 15 ≤ (x 1000000).ns + 3 ∧ (ev (.ssiFrame 15 true false 0) (x 1000000)).reg (A.POS_LATCH 15) = 7 ∧
    ((ev (.ssiFrame 15 true false 0) (x 1000000)).posCh 15).ssi = none ∧
    (ev (.ssiFrame 15 true true 0) (x 1000000)).bit (A.POS_STAT 15) F.POS_STAT_SSIERR = true) := by decide +kernel
theorem test_PositionChannel_publish : (let x := { (pc 1 fun p => { p with pos := 77 }).set (A.POS_PUB 15) F.POS_PUB_IVL 1 with ticks := 125 };
    x.pubDue 15 = true ∧ x.standby = false ∧ (ev (.publication 15) x).point (posHandle 15) = ⟨77, true⟩) ∧
    (ev (.setp 15) ((pc 1 pp).setReg (A.POS_IDXREF 15) 5)).reg (A.POS_RAW 15) = 5 ∧ (ev (.posClr 15) z).later = [.posClr 15] := by decide +kernel

/-! ## Digital inputs and outputs -/

theorem test_GroupOverloadKeepsOutputs : (let d := ev (.groupOverload 3) z; d.bit (A.DIO_DQG_STAT 3) F.DIO_DQG_STAT_GOVL = true ∧
    told z d 0x46 = true ∧ d.dqLevel 31 = z.dqLevel 31) := by decide +kernel
/-- Group 7 of the inputs has counted enough samples on this tick. -/
def din : Dev := { z with diGrps := [(7, ⟨100000, true, false, none⟩)] }
theorem test_InputsAndOutputs_inputs : din.diCounted 63 0 = true ∧ din.bit (A.DIO_DI_STAT 63) F.DIO_DI_STAT_BRK = false ∧
    (ev (.diStateChange 63 true) din).point (diHandle 63) = ⟨1, true⟩ ∧ din.cuWatches 31 (0x80 + 63) true = false ∧
    (let x := din.set (A.DIO_DI_CTL 63) F.DIO_DI_CTL_BRKEN 1; (ev (.wireBreak 63 true) x).point (diHandle 63) = ⟨0, false⟩ ∧
      (ev (.wireBreak 63 true) x).bit (A.DIO_DI_STAT 63) F.DIO_DI_STAT_BRK = true) ∧
    ((ev (.digCtlWrite 7 100) z).diGrp 7).pend = some 100 := by decide +kernel
theorem test_InputsAndOutputs_supply : (ev (.lpiMeasurement 1500) { z with halted := true }).bit A.DIO_LPI_STAT F.DIO_LPI_STAT_T1INV = false ∧
    (ev (.lpiMeasurement 1499) { z with halted := true }).bit A.DIO_LPI_STAT F.DIO_LPI_STAT_T1INV = true ∧
    (let d := ev (.lpiMeasurement 1099) din; d.bit A.DIO_LPI_STAT F.DIO_LPI_STAT_T3INV = true ∧
      d.bit (A.DIO_DI_STAT 63) F.DIO_DI_STAT_LPINV = true) := by decide +kernel
/-- Output 31 with hidden state as given. -/
def dq31 (q : Dq) (t : Nat) : Dev := { z.setReg (A.DIO_DQG_STAT 3) 0 with dqs := [(31, q)], ticks := t }
theorem test_InputsAndOutputs_pwm : (let x := (dq31 { Dq.init with pwmKey := 1000 } 5).storePoint (dqHandle 31) ⟨0x8000, true⟩;
    20 ≤ pwmOnTime (x.dqCmd 31) 1000 ∧ (pwmOnTime (x.dqCmd 31) 1000 + 20) * 1000 ≤ 10000000 ∧
    ((ev (.pwmPeriod 31) x).dq 31).pwm = some (5, 125005 + 0, 250005)) ∧
    ((ev (.pwmOnPhaseEnd 31) (dq31 { Dq.init with pwm := some (0, 5, 9), pwmOn := true } 5)).dq 31).pwmOn = false := by decide +kernel
theorem test_InputsAndOutputs_overheat : (let d := ev (.overheat 31) z; d.dqOvt 31 = true ∧ d.dqLevel 31 = false ∧ told z d 0x46 = true ∧
    (ev (.ovtRetry 31) { d with ticks := 25000000 }).dqOvt 31 = false ∧
    (let x := { d.set (A.DIO_DQ_CTL 31) F.DIO_DQ_CTL_LATCH 1 with ticks := 1 }; (ev (.dqRst 31) x).dqOvt 31 = false)) := by decide +kernel
theorem test_InputsAndOutputs_checks : (let x := dq31 { Dq.init with mismSince := 1, openSince := 1 } 2500000; x.dqPwm 31 = false ∧ x.dqSusp 31 = false ∧
    (ev (.readbackMismatch 31) x).bit (A.DIO_DQ_STAT 31) F.DIO_DQ_STAT_MISM = true ∧ x.dqCmd 31 = 0 ∧
    (ev (.openLoad 31) (x.set (A.DIO_DQ_CTL 31) F.DIO_DQ_CTL_OLEN 1)).bit (A.DIO_DQ_STAT 31) F.DIO_DQ_STAT_OLOFF = true) := by decide +kernel
theorem test_InputsAndOutputs_groups : z.standby = false ∧ (let y := z.setReg (A.DIO_DQG_STAT 3) 0; let d := ev (.lpMeasurement 3 1099) y; y.bit (A.DIO_DQG_STAT 3) F.DIO_DQG_STAT_UNPWR = false ∧
    d.bit (A.DIO_DQG_STAT 3) F.DIO_DQG_STAT_UNPWR = true ∧ d.get (A.DIO_DQG_STAT 3) F.DIO_DQG_STAT_VOLT = 1099 ∧
    (let x := { d with supply := [(15, 1)], ticks := 2500000 }; (ev (.lpMeasurement 3 1801) x).bit (A.DIO_DQG_STAT 3) F.DIO_DQG_STAT_UNPWR = false ∧
      (ev (.lpMeasurement 3 1800) x).bit (A.DIO_DQG_STAT 3) F.DIO_DQG_STAT_UNPWR = true)) := by decide +kernel

/-! ## Safety island -/

/-- Input 7, EQUIVALENT, acts on pair 3, which is AUTO, with test pulses; input 6 is the reset of pair 3. -/
def sbody : List Word := List.replicate 12 0 ++ [0x80503, 5, 0x80501, 5, 0, 0, 0, 0x40647]
def saf0 : Dev := z.onSaf fun x => { x with body := sbody }
/-- Both channels of input 7 are closed. -/
def rest7 : Dev := (saf0.set (A.SAF_SI_STAT 7) F.SAF_SI_STAT_FA 1).set (A.SAF_SI_STAT 7) F.SAF_SI_STAT_FB 1
/-- Pair 3 is on. -/
def on3 : Dev := rest7.onSafOut 3 fun x => { x with on := true, next := [(0, 0), (1, 5)] }
theorem test_SafetyPaths_demand : saf0.saf.role 7 = roleEquiv ∧ saf0.saf.names 7 3 = true ∧ demandLevel (on3.saf.role 7) true = some false ∧
    (let d := ev (.siChange 7 true false) on3; (d.safOut 3).on = false ∧ d.bit (A.SAF_STO_STAT 3) F.SAF_STO_STAT_HWOPEN = true ∧
      d.bit (A.SAF_STO_STAT 3) F.SAF_STO_STAT_RSTW = false ∧ d.bit (A.SAF_SI_STAT 7) F.SAF_SI_STAT_DEMAND = true) ∧
    ev (.siChange 7 true true) on3 = on3 := by decide +kernel
theorem test_SafetyPaths_discrepancy : (let x (t : Nat) := { on3.onSafIn 7 (fun i => { i with timer := some (0, true, true) }) with ticks := t };
    (x 0).saf.disc 7 = 1250000 ∧ ev (.discExpiry 7) (x 1250000) = x 1250000 ∧
    ((ev (.discExpiry 7) (x 1250001)).safIn 7).disc = true ∧ ((ev (.discExpiry 7) (x 1250001)).safOut 3).on = false) := by decide +kernel
/-- A reset input is about to leave demand after a press of `t` ticks, on a device with DISC latched for input 7. -/
def press (t : Nat) : Dev :=
  let x := (rest7.onSafIn 6 fun i => { i with stood := some t }).onSafIn 7 fun i => { i with disc := true, seqok := true }
  (x.setBit (A.SAF_SI_STAT 6) F.SAF_SI_STAT_FA (Config.resetDemand false)).setBit (A.SAF_SI_STAT 6) F.SAF_SI_STAT_FB (!Config.resetDemand true)
theorem test_SafetyPaths_press (t : Nat) (h : 25000000 ≤ t ∧ t ≤ 1250000000) : 25000000 ≤ t ∧ t ≤ 1250000000 ∧ ((press t).safIn 6).stood = some t ∧
    (press t).saf.role 6 = roleReset ∧ (press t).saf.mask 6 = 8 ∧ ((press t).safIn 7).seqok = true ∧ ((press t).safIn 6).bothAt = 0 :=
  ⟨h.1, h.2, rfl, show bitsOf (0x80503 : Word) 1 0 = 3 by decide, show bitsOf (0x80503 : Word) 19 16 = 8 by decide, rfl, rfl⟩
theorem test_SafetyPaths_cycle : rest7.pairDemand 3 = false ∧ rest7.pairLatched 3 = false ∧ rest7.saf.enabled 3 = true ∧ rest7.stoFree = true := by decide +kernel
theorem test_SafetyPaths_fault : (ev .ifault on3).ifault = true ∧ ((ev .ifault on3).safOut 3).on = false := by decide +kernel
theorem test_SafetyPaths_pulse : on3.saf.tpen 3 = true ∧ (let d := ev (.testPulse 3 0) on3; d.bit (A.SAF_STO_STAT 3) F.SAF_STO_STAT_ON = false ∧
    tabGet none (d.safOut 3).pulse 0 = some 25000 ∧ ev (.testPulse 3 1) on3 = on3 ∧ ev (.testPulseEnd 3 0 false) d = d ∧
    (let x := { d with ticks := 25000 }; (ev (.testPulseEnd 3 0 true) x).bit (A.SAF_STO_STAT 3) F.SAF_STO_STAT_TPLAST = true ∧
      ((ev (.testPulseEnd 3 0 false) x).safOut 3).on = false)) := by decide +kernel
/-- A package with an eight-byte password and a body. -/
def pkg (n : Nat) (body : List Word) : List Word :=
  let ws := [0x53460001, BitVec.ofNat 32 n, 8, 0, 0x04030201, 0x08070605] ++ List.replicate 14 0 ++ body
  ws ++ [crcWords ws]
def pw8 : List Byte := [1, 2, 3, 4, 5, 6, 7, 8]
def sbody2 : List Word := (List.replicate 8 [0x80501, 5]).flatten ++ List.replicate 4 0x40647
/-- A request with code `c` and payload `ws` waits on MB2. -/
def sreq (c : Nat) (ws : List Word) : Dev :=
  let x := ((z.set (A.MBX_CH_CFG 2) F.MBX_CH_CFG_EN 1).set (A.MBX_CH_CFG 2) F.MBX_CH_CFG_END0 0x3F).putWords (bankBase 60) ws
  let x := (x.onMend 2 1 fun m => { m with queue := [⟨BitVec.ofNat 64 (0x1000000 + bankBase 60), BitVec.ofNat 32 c, 0, 0⟩] }).onSaf fun f =>
    { f with hash := some (saltedHash [] pw8) }
  { x with ticks := 1 }
theorem test_SafetyRequests_head : (sreq 1 []).postCheck 2 0x39 true false = .posted ∧ (sreq 1 []).endIdent 2 0 = 0x3F ∧
    (((sreq 1 []).mend 2 1).queue.map fun y => decide (y.tick < 1)) = [true] ∧ (sreq 1 []).lockLeft = 0 ∧ (sreq 1 []).allOff = true ∧
    ((sreq 1 []).set A.SEC_ID_STAT F.SEC_ID_STAT_STATE idReady).idSign.2.isSome = true := by decide +kernel
theorem test_SafetyRequests_right : (sreq 1 []).saf.hash = some (saltedHash (sreq 1 []).saf.salt pw8) := rfl
theorem test_SafetyRequests_configure : configBodyOk sbody2 = true ∧ configBodyOk (sbody2.drop 1) = false ∧
    ((((sreq 1 (pkg 20 sbody2)).payload 0x2E00000 41).bind fun ws => (package ws 20).map fun r => (ws.getD 3 0, r))) = some (0, pw8, sbody2) ∧
    (sreq 1 []).payload 0x2E00000 41 ≠ none ∧ (((sreq 1 []).payload 0x2E00000 41).bind fun ws => package ws 20) = none := by decide +kernel
theorem test_SafetyRequests_setpw : (let b : List Word := [8, 0x11111111, 0x22222222] ++ List.replicate 14 0;
    (((sreq 2 (pkg 17 b)).payload 0x2E00000 38).bind fun ws => (package ws 17).map (·.2)) = some b ∧
    (pwBytes (b.drop 1) (b.getD 0 0).toNat).isSome = true ∧ pwBytes (b.drop 1) 7 = none ∧ (sreq 2 []).lifecycle = lcProvisioned) := by decide +kernel
theorem test_SafetyRequests_answers : handleAddr 0x2E00000 = some (bankBase 60) ∧
    (let d := ev .readback (sreq 4 []); ((d.mend 2 0).queue.map fun m => m.tag) = [0] ∧ (d.mend 2 1).queue = []) ∧
    (let d := ev .logread (sreq 3 [0]); ((d.mend 2 0).queue.map fun m => m.tag) = [0]) ∧
    (let d := ev .logread (sreq 9 [0]); ((d.mend 2 0).queue.map fun m => m.tag) = [BitVec.ofNat 32 safFormat]) ∧
    (ev .setpw (sreq 4 [])).mbx = (sreq 4 []).mbx := by decide +kernel
theorem test_SafetyRequests_lockout : (let x := (sreq 3 [0]).onSaf fun f => { f with lock := 9, lockBase := 0 };
    x.lockLeft = 8 ∧ ((ev .logread x).mend 2 0).queue.map (·.tag) = [BitVec.ofNat 32 safLockout]) ∧
    (ev .lockoutEnd (z.onSaf fun f => { f with lock := 9, lockBase := 0 })).saf.lock = 9 ∧
    (ev .lockoutEnd { z.onSaf fun f => { f with lock := 9, lockBase := 0 } with ticks := 9 }).saf.lock = 0 := by decide +kernel

/-! ## Recorder and Scribe -/

/-- Entry 8191 is to record setpoint 511 raw. -/
def enr : Dev := (z.setReg (A.REC_ENR_HND 8191) 0x200001FF).setReg (A.REC_ENR_DB 8191) 0
/-- EN with FMT BITS. -/
def enrW : Word := fw F.REC_ENR_CFG_EN 1 (fw F.REC_ENR_CFG_FMT 3 0)
def enr1 : Dev := enr.recEnrol ⟨0, true⟩ 8191 enrW
theorem test_SignalRecorder_enrol : enr.enrolOk 8191 (F.REC_ENR_CFG_FMT.of enrW) = true ∧ enr1.bit (A.REC_ENR_CFG 8191) F.REC_ENR_CFG_EN = true ∧
    enr1.recPend 8191 = true ∧ (ev (.recEnrol ⟨0, true⟩ 8191 0) enr1).bit (A.REC_ENR_CFG 8191) F.REC_ENR_CFG_EN = false ∧
    z.enrolOk 0 3 = false ∧ (ev (.recEnrol ⟨0, true⟩ 0 enrW) z).bit A.REC_STAT F.REC_STAT_CFGERR = true := by decide +kernel
/-- The recorder streams into page 7680. -/
def rec0 : Dev := ((enr1.set A.REC_CTL F.REC_CTL_EN 1).setRecState recRun).onRec fun r => { r with pages := [7680] }
def chg : RecItem := .change 0x100000007 8191 0x200001FF ⟨5, true⟩ false false
theorem test_SignalRecorder_sweep : rec0.recTaking = true ∧ rec0.recWindow = false ∧ 64 < rec0.recFree ∧ rec0.enabledEntries.find? rec0.recPend = some 8191 ∧
    (ev .sweep rec0).recorder.found.length = 1 ∧ (ev .sweep rec0).recPend 8191 = false := by decide +kernel
theorem test_SignalRecorder_ring : (let x := rec0.onRec fun r => { r with queue := [chg] }; x.recorder.lossCount = [] ∧ x.recState = recRun ∧
    x.syncedAs 1 = false ∧ (ev .ringWrite x).words (7680 * 4096) 4 = [7, 5, 0x200001FF, 0x18001FFF] ∧ (ev .ringWrite x).recSeq = x.recSeq + 1) := by decide +kernel
theorem test_SignalRecorder_disable : rec0.recEnabled = true ∧ (ev .recDisable rec0).recState = recDisabled ∧
    (ev .recDisable rec0).later = [.pageFree 7680] ∧ (ev (.recEnable 0x80000001) rec0).recorder = rec0.recorder ∧
    F.REC_CTL_MODE.of (fw F.REC_CTL_MODE 1 0) ≠ rec0.get A.REC_CTL F.REC_CTL_MODE ∧
    (ev (.recEnable (fw F.REC_CTL_MODE 1 0)) rec0).bit A.REC_STAT F.REC_STAT_CFGERR = true := by decide +kernel
/-- The manager has bank 40 for the recorder's sub-client, and the ring is to have one page. -/
def rec50 : Dev := ((z.set (A.MEM_BANK_STAT 40) F.MEM_BANK_STAT_OWNER (subOwner 80)).set (A.MEM_RM_SUB 80) F.MEM_RM_SUB_QUOTA 9).set A.REC_RING F.REC_RING_PAGES 1
theorem test_SignalRecorder_enable : rec50.recEnabled = false ∧ rec50.recOwnsVolatile = false ∧
    (Dev.recAlloc (rec50.get A.REC_RING F.REC_RING_PAGES) rec50 []).2.1 = [5120] ∧ (ev (.recEnable 1) rec50).recState = recRun ∧
    (ev (.recEnable 1) rec50).recorder.pages = [5120] := by decide +kernel
theorem test_SignalRecorder_window : (let x := (rec0.set A.REC_CTL F.REC_CTL_MODE 1).setRecState recDone; x.recWindow = true ∧
    x.get A.REC_PRE F.REC_PRE_DEPTH + x.get A.REC_POST F.REC_POST_DEPTH + 1 ≤ x.recCap ∧ (ev .recArm x).recState = recArmed) ∧
    (ev .recArm rec0).bit A.REC_STAT F.REC_STAT_CFGERR = true ∧ (ev .softtrig z).later = [.softTrig] ∧
    (ev .clrcnt (z.setReg (A.REC_LOSSCNT 127) 9)).reg (A.REC_LOSSCNT 127) = 0 := by decide +kernel
theorem test_SignalRecorder_trigger : (let x := rec0.onRec fun r => { r with trigs := [⟨1, 0, 3, 0, 0, 0, 9⟩, ⟨2, 5, 1, 4, 0, 0, 0⟩] };
    x.recorder.trigs.find? (fun t => t.actAt ≤ x.ts) = some ⟨2, 5, 1, 4, 0, 0, 0⟩ ∧ (ev .triggerAct x).recorder.acting = [.trigger 2 5 1 4 0 0] ∧
    (ev .triggerAct x).recorder.trigs.length = 1) := by decide +kernel
theorem test_SignalRecorder_host : (let x := ((rec0.setReg A.REC_SEQ 2).set A.REC_HB_SIZE F.REC_HB_SIZE_DATA 1).putWord (7680 * 4096 + 16) 77;
    x.recDelivers = true ∧ x.bit A.REC_CTL F.REC_CTL_SINK = false ∧ x.recNextOut.toNat + 2 ≤ 2 ^ 32 ∧ (x.recLastOut - x.recNextOut).toNat = 2 ∧
    (ev .hostBurst x).reg A.REC_HB_WR = 2 ∧ tabGet 0 (ev .hostBurst x).recorder.hostMem 4 = 77 ∧ tabGet 0 (ev .hostBurst x).recorder.hostMem 1024 = 2 ∧
    (ev (.hbRdWrite 2) (ev .hostBurst x)).recorder.released = 2 ∧ (ev (.hbRdWrite 3) (ev .hostBurst x)).bit A.REC_STAT F.REC_STAT_CFGERR = true) := by decide +kernel
theorem test_SignalRecorder_frame : (let x := (rec0.setReg A.REC_SEQ 88).set A.REC_CTL F.REC_CTL_SINK 1; 88 ≤ (x.recLastOut - x.recNextOut).toNat ∧
    (ev .recFrame x).recorder.released = 88 ∧ (ev .recFrame x).sent.length = 1) := by decide +kernel
theorem test_ScribeRing_limiter : (let x : Dev := { ((z.set (A.EVR_LIM_CFG 511) F.EVR_LIM_CFG_REFILL 1).set (A.EVR_LIM_CFG 511) F.EVR_LIM_CFG_DEPTH 9).set
      (A.EVR_LIM_STAT 511) F.EVR_LIM_STAT_COUNT 4 with ticks := 250 };
    let y := x.setLimiter 511 ⟨1, 0, 0, 0⟩;
    ((ev (.refill 510) y).limiter 511) = ⟨2, 0, 0, 250⟩ ∧
    (ev (.refill 510) y).scribe.offers.length = 1 ∧ (ev (.refill 510) y).reg (A.EVR_LIM_STAT 511) = 0 ∧
    ev (.refill 510) { y with ticks := 249 } = { y with ticks := 249 } ∧ ((ev (.limCfgWrite 510 0xFFFFFFFF) y).limiter 511).base = 250) := by decide +kernel
/-- The Scribe has the banks 1 and 2; a record of one payload word waits. -/
def scr : Dev := (((z.set (A.MEM_BANK_STAT 1) F.MEM_BANK_STAT_OWNER 0x31).set (A.MEM_BANK_STAT 2) F.MEM_BANK_STAT_OWNER 0x31).set
  A.EVR_CFG F.EVR_CFG_BANKA 1).set A.EVR_CFG F.EVR_CFG_BANKB 2
def ofr : Offer := ⟨0x44, 0x0801, false, 0x500000007, [9]⟩
theorem test_ScribeRing_write : (let x := scr.onScribe fun c => { c with queue := [(ofr, false)] }; recLines (recLen ofr) = 2 ∧ x.codeNamed 0x801 = false ∧
    x.syncedAs 1 = false ∧ (let d := ev .scribeWrite x; d.scribe.linesDone = 1 ∧ d.words (bankBase 1) 4 = [x.reg A.EVR_NEXT, 0x08014410, 7, 5] ∧
      (ev .scribeWrite d).reg A.EVR_NEXT = x.reg A.EVR_NEXT + 1 ∧ (ev .scribeWrite d).scribe.queue = [] ∧
      (ev .scribeWrite d).word (bankBase 1 + 16) = 9)) := by decide +kernel
theorem test_ScribeRing_enable : scr.ringBanksOk = true ∧ z.ringBanksOk = false ∧ (ev (.evrEnable true) scr).bit A.EVR_CTL F.EVR_CTL_EN = true ∧
    (ev (.evrEnable true) z).bit A.EVR_STAT F.EVR_STAT_CFGERR = true ∧ (ev (.cursorWrite 14 7) z).reg (reqKey 14 A.EVR_CURSOR) = 7 := by decide +kernel
theorem test_ScribeRing_clear : scr.lifecycle ≠ 2 ∧ scr.codeNamed 4 = false ∧ (ev (.evrClr 3) scr).scribe.ring.length = 1 ∧ (ev (.evrClr 3) z).scribe.ring = [] ∧
    (let x := scr.set A.SEC_LCS_STAT F.SEC_LCS_STAT_STATE 2; x.lifecycle = 2 ∧ x.bit A.EVR_CFG F.EVR_CFG_CLRPERM = false ∧
      (ev (.evrClr 3) x).bit A.EVR_STAT F.EVR_STAT_CLRREF = true) := by decide +kernel

/-! ## CAN -/

/-- Channel 15 is NORMAL and integrated. -/
def cn : Dev := z.set (A.CN_CTL 15) F.CN_CTL_MODE 1
/-- A frame with a tag waits. -/
def ctx (tag : Nat) : CanTx := ⟨[0x123, BitVec.ofNat 32 (tag * 65536 + 2), 0, 0, 0xAABB] ++ List.replicate 15 0, 0⟩
def cnq (tags : List Nat) : Dev := cn.onCan 15 fun c => { c with tx := tags.map ctx }
theorem test_CanChannel_mode : z.canMode 15 = 0 ∧ (ev (.canMode 15 1) z).canMode 15 = 1 ∧ (ev (.canMode 15 1) z).bit (A.CN_STAT 15) F.CN_STAT_INTEG = true ∧
    (ev (.integrationDone 15) (ev (.canMode 15 1) z)).bit (A.CN_STAT 15) F.CN_STAT_INTEG = false := by decide +kernel
theorem test_CanChannel_push : frameFdf (frameWord0 (cn.reg (A.CN_TXW 15 0))) = false ∧ (ev (.canPush 15 0xFFFF) cn).get (A.CN_TXSTAT 15) F.CN_TXSTAT_PRES = 1 ∧
    (((ev (.canPush 15 0xFFFF) cn).can 15).tx.map fun y => frameTag y.words) = [0xFFFF] ∧
    (ev (.canPush 15 1) (cn.setReg (A.CN_TXW 15 0) 0xC0000000)).get (A.CN_TXSTAT 15) F.CN_TXSTAT_PRES = 3 ∧
    (ev (.canPush 15 1) (cnq (List.replicate 32 7))).get (A.CN_TXSTAT 15) F.CN_TXSTAT_PRES = 2 := by decide +kernel
theorem test_CanChannel_cancel : (let x := cnq [7, 8]; x.canContends 15 = true ∧ (ev (.canCancel 15 9 0 5) x).get (A.CN_TXSTAT 15) F.CN_TXSTAT_CRES = 3 ∧
    ((ev (.canCancel 15 7 1 5) x).can 15).done = [(0x70002, 5)] ∧ ((ev (.canCancel 15 8 2 5) x).can 15).tx = [ctx 7] ∧
    ((ev (.canCancel 15 8 2 5) x).can 15).done = [(0x80002, 0)] ∧ ((ev (.canCancel 15 7 2 5) x).can 15).last = true) := by decide +kernel
theorem test_CanChannel_sent : cn.bit (A.CN_CTL 15) F.CN_CTL_SELFRX = false ∧ (let d := ev (.canFrameSent 15 77) (cnq [7]);
    (d.can 15).tx = [] ∧ (d.can 15).done = [(0x70001, 77)] ∧ d.sent = [⟨0, 15, 0, (ctx 7).words⟩] ∧ ((ev (.dpop 15) d).can 15).done = []) := by decide +kernel
theorem test_CanChannel_errors : (let x := cnq [7]; (ev (.txError 15 1 5) x).canTec 15 = 8 ∧ x.get (A.CN_CTL 15) F.CN_CTL_RETRY = 255 ∧
    ((ev (.txError 15 1 5) x).can 15).tx = [ctx 7] ∧
    ((ev (.txError 15 1 5) (x.set (A.CN_CTL 15) F.CN_CTL_RETRY 0)).can 15).done = [(0x70003, 5)] ∧
    (ev (.canReceiveError 15 4 true) x).canRec 15 = 8 ∧ (ev (.canReceiveError 15 4 false) (x.set (A.CN_ERR 15) F.CN_ERR_REC 255)).canRec 15 = 255) := by decide +kernel
theorem test_CanChannel_busOff : (let x := cn.set (A.CN_STAT 15) F.CN_STAT_STATE 2; x.canBusOff 15 = true ∧ (ev (.recover 15) x).bit (A.CN_STAT 15) F.CN_STAT_RECOV = true ∧
    (ev (.recoveryDone 15) (ev (.recover 15) x)).get (A.CN_STAT 15) F.CN_STAT_STATE = 0) := by decide +kernel
/-- Filter 31 takes every frame, to the FIFO (1) or to fields (2); field 255 is the word at byte 0 of a frame that filter 31 takes. -/
def flt (act : Nat) : Dev := ((cn.set (A.CN_FLT_CFG 15 31) F.CN_FLT_CFG_EN 1).set (A.CN_FLT_CFG 15 31) F.CN_FLT_CFG_ACT act)
theorem test_CanChannel_receive : (flt 1).canOnBus 15 = true ∧ ((flt 1).setReg (A.CN_FLT_MASK 15 31) 0).canFilter 15 (frameWord0 0x9FFFFFFF) = some 31 ∧
    cn.canFilter 15 0 = none ∧ (ev (.canFrameReceived 15 0 0 [] 9) (cn.set (A.CN_ERR 15) F.CN_ERR_REC 127)).canRec 15 = 126 := by decide +kernel
theorem test_CanChannel_fifo : (let x := ((flt 1).setReg (A.CN_FLT_MASK 15 31) 0).onCan 15 fun c => { c with rx := List.replicate 64 [] };
    (ev (.canFrameReceived 15 0x9FFFFFFF 2 [0x34, 0x12] 9) x).get (A.CN_LOST 15) F.CN_LOST_RX = 1 ∧
    ((ev (.canPop 15) x).can 15).rx.length = 63) := by decide +kernel
theorem test_CanChannel_field : (let x := ((flt 2).setReg (A.CN_FLT_MASK 15 31) 0).setReg (A.CN_FLD_CFG 15 255) (fw F.CN_FLD_CFG_EN 1 (fw F.CN_FLD_CFG_FMT 3
      (fw F.CN_FLD_CFG_OBJ 31 0))); fieldOf (x.reg (A.CN_FLD_CFG 15 255)) 0 31 = true ∧ (canLay (x.reg (A.CN_FLD_CFG 15 255))).ofs = 0 ∧
    (ev (.canFrameReceived 15 0x9FFFFFFF 2 [0x34, 0x12] 9) x).point (canRxHandle 15 255) = ⟨0x1234, true⟩) := by decide +kernel
theorem test_CanChannel_station : (let x := { (flt 2).set (A.CN_FLT_CFG 15 31) F.CN_FLT_CFG_TMO 1 with ticks := 250000 };
    x.get (A.CN_FLT_CFG 15 31) F.CN_FLT_CFG_ABS = 0 ∧ (ev (.stationAbsent 15 31) x).bit (A.CN_FLT_CFG 15 31) F.CN_FLT_CFG_ABS = true ∧
    (ev (.snap 15) { z with ticks := 25 }).reg (A.CN_SNAP_CNT 15) = 4) := by decide +kernel

/-! ## Ethernet -/

/-- Port 7 runs at 1000 Mb/s with PTP, whose steering domain is A; the block is an ordinary clock. -/
def et : Dev := (((((z.set (A.ETH_PORT_CTL 7) F.ETH_PORT_CTL_MODE 3).set (A.ETH_PORT_CTL 7) F.ETH_PORT_CTL_PTPEN 1).set A.ETH_PTP_CFG F.ETH_PTP_CFG_ROLE 1).set
  A.ETH_PTP_CFG F.ETH_PTP_CFG_DUAL 1).set A.TIME_CTL F.TIME_CTL_SRC 2).onPtp fun p => { p with first := false }
/-- A PTP frame from station 0x060504030201. -/
def fr : List Byte := [9, 9, 9, 9, 9, 9, 1, 2, 3, 4, 5, 6, 0x88, 0xF7, 0x0B, 0x22]
theorem test_EthernetBlock_mode : z.portMode 7 = 0 ∧ (ev (.portModeWrite 7 5) z).portMode 7 = 5 ∧ ev (.portModeWrite 7 6) z = z ∧
    et.portMode 7 = 3 ∧ (ev (.portModeWrite 7 0) et).bit A.ETH_STAT F.ETH_STAT_CFGERR = true := by decide +kernel
/-- Object 63 takes the frame; field 4095 is its last half-word. -/
def rxd : Dev := (((et.set (A.ETH_RXO_CFG 63) F.ETH_RXO_CFG_EN 1).setReg (A.ETH_RXO_MAC_LO 63) 0x04030201).setReg (A.ETH_RXO_MAC_HI 63) 0x88F70605).setReg
  (A.ETH_FLD_CFG 4095) (fw F.ETH_FLD_CFG_EN 1 (fw F.ETH_FLD_CFG_FMT 3 (fw F.ETH_FLD_CFG_OBJ 63 (fw F.ETH_FLD_CFG_OFS 14 0))))
theorem test_EthernetBlock_object : et.standby = false ∧ et.pairMode 7 = 0 ∧ rxd.rxObject fr 1 = some 63 ∧ et.rxObject fr 1 = none ∧
    ethFieldOf (rxd.reg (A.ETH_FLD_CFG 4095)) 0 63 = true ∧ (ethLay (rxd.reg (A.ETH_FLD_CFG 4095))).ofs + (ethLay (rxd.reg (A.ETH_FLD_CFG 4095))).width = 16 := by
  decide +kernel
theorem test_EthernetBlock_taken : (ethLay (rxd.reg (A.ETH_FLD_CFG 4095))).value (fun i => fr.getD i 0) = 0x220B ∧
    (ev (.ethFrameReceived 7 fr none) et).sent.length = 1 ∧ (ev (.ethFrameReceived 7 fr none) et).eth.macs = [(0x060504030201, et.get (A.ETH_PORT_CTL 7) F.ETH_PORT_CTL_PVID, 7, 0)] ∧
    (ev (.ethFrameReceived 7 (List.replicate 1519 0) none) et).eth.overlong = [(7, 1)] ∧ ev (.ethFrameReceived 6 fr none) et = et := by
  decide +kernel
/-- The same frame with a PRP trailer on a redundant port, seen before or not. -/
def prp : Dev := (et.set (A.ETH_PAIR_CTL 3) F.ETH_PAIR_CTL_MODE 2)
def red : List Byte := [9, 9, 9, 9, 9, 9, 1, 2, 3, 4, 5, 6, 0x12, 0x34, 0x0B, 0x22, 0xFF, 0xFF, 0xA0, 8, 0x88, 0xFB]
theorem test_EthernetBlock_duplicate : prp.unLan 7 red = (some 0xFFFF, red.take 16) ∧ ptpOfs (red.take 16) = none ∧
    (prp.ddCheck 3 0x060504030201 0xFFFF).2 = false ∧ ((prp.ddCheck 3 0x060504030201 0xFFFF).1.ethPair 3).table = [(0x060504030201, 0xFFFF, 0)] ∧
    (let x := (prp.ddCheck 3 0x060504030201 0xFFFF).1; ev (.ethFrameReceived 7 red none) x = x ∧
      ((ev (.duplicateEntryForgotten 3) (x.set (A.ETH_PAIR_CTL 3) F.ETH_PAIR_CTL_DDTIME 0)).ethPair 3).table = []) := by decide +kernel
theorem test_EthernetBlock_sync : et.ptpSteers = true ∧ et.bit A.ETH_STAT F.ETH_STAT_ACTB = false ∧ et.residualLeft = 0 ∧
    (let d := ev (.ethFrameReceived 7 fr (some (true, -1001))) et; d.bit A.ETH_STAT F.ETH_STAT_LOCKB = false ∧ d.eth.ptp.ofsB = -1001) ∧
    (et.ptpSync false 1000).bit A.ETH_STAT F.ETH_STAT_LOCKA = true := by decide +kernel
theorem test_EthernetBlock_steer : ((et.onPtp fun p => { p with first := true }).ptpSync false (-7)).time.steps = [7] ∧
    (et.ptpSync false 1000000).reg A.TIME_OFS_EST = 1000000 ∧ (et.ptpSync false 1000000).time.newAddend.isSome = true ∧
    (et.ptpSync false 1000001).time.steps = [-1000001] := by decide +kernel
theorem test_EthernetBlock_loss : (ev (.masterLoss false) et).bit A.ETH_STAT F.ETH_STAT_HOLD = true ∧
    (let x := (et.set A.ETH_STAT F.ETH_STAT_LOCKB 1).onPtp fun p => { p with ofsB := -30 }; (ev (.masterLoss false) x).bit A.ETH_STAT F.ETH_STAT_ACTB = true ∧
      (ev (.masterLoss false) x).reg A.TIME_OFS_EST = 50) ∧
    (let x := { (ev (.masterLoss false) et) with ticks := 250000000 }; (ev .holdoverUpdate x).get A.ETH_STAT F.ETH_STAT_HAGE = 1 ∧
      (ev .holdoverUpdate x).reg A.TIME_OFS_EST = 20 + BitVec.ofNat 32 (x.get A.ETH_PTP_HOLD F.ETH_PTP_HOLD_HDRIFT)) ∧
    (let x := { ((et.set A.ETH_STAT F.ETH_STAT_ACTB 1).set A.ETH_PTP_CFG F.ETH_PTP_CFG_AUTOREV 1).onPtp (fun p => { p with lockSince := 1, ofsA := 4 }) with ticks := 4000000000 };
      (ev .autorevReturn x).bit A.ETH_STAT F.ETH_STAT_ACTB = false ∧ (ev .autorevReturn x).reg A.TIME_OFS_EST = 24) := by decide +kernel
theorem test_EthernetBlock_absent : (let x := { (rxd.set (A.ETH_RXO_CFG 63) F.ETH_RXO_CFG_TMO 1) with ticks := 2499 };
    x.get (A.ETH_RXO_CFG 63) F.ETH_RXO_CFG_EN = 1 ∧ x.get (A.ETH_RXO_CFG 63) F.ETH_RXO_CFG_ABS = 0 ∧ tabGet 0 x.eth.seen 63 + 2500 ≤ x.ticks + 1 ∧
    (x.ethStation 63 true).bit (A.ETH_RXO_CFG 63) F.ETH_RXO_CFG_ABS = true ∧ ev (.ethStationAbsent 63) { x with ticks := 2498 } = { x with ticks := 2498 }) := by
  decide +kernel
theorem test_EthernetBlock_timers : prp.pairMode 6 ≠ 0 ∧ (ev (.supervisionFrame 3) prp).sent.length = 2 ∧ ((ev (.supervisionFrame 3) prp).ethPair 3).count = 1 ∧
    (let x := { et.onPort 7 (fun p => { p with gates := [(255, 5), (1, 9)], gateIdx := some 0, gateEnd := 5 }) with ticks := 5 };
      ((ev (.gateEntryEnd 7) x).ethPort 7).gateEnd = 14 ∧ ((ev (.gateEntryEnd 7) (ev (.gateEntryEnd 7) x)).ethPort 7).gateIdx = some 1) ∧
    (ev (.ptpMasterSync 7) et).sent.length = 2 ∧ (ev (.ptpMasterSync 7) (et.set (A.ETH_PORT_CTL 7) F.ETH_PORT_CTL_ONESTEP 1)).sent.length = 1 ∧
    (let x : Dev := { et.onEth (fun e => { e with macs := [(5, 1, 7, 0)] }) with ticks := 75000000000 }; (ev .macEntryAgeing x).eth.macs = [] ∧
      ev .macEntryAgeing { x with ticks := 74999999999 } = { x with ticks := 74999999999 }) := by decide +kernel

/-! ## Plajo Link -/

/-- The ports 2 and 3 are SEGMENT ports that are UP; the device is 5 of segment 3 and not the root. -/
def pl : Dev := (((((z.set (A.PLJ_PORT_CTL 3) F.PLJ_PORT_CTL_ROLE 1).set (A.PLJ_PORT_STAT 3) F.PLJ_PORT_STAT_STATE 2).set (A.PLJ_PORT_CTL 2) F.PLJ_PORT_CTL_ROLE 1).set
  (A.PLJ_PORT_STAT 2) F.PLJ_PORT_STAT_STATE 2).set A.PLJ_ID F.PLJ_ID_SEG 3).set A.PLJ_ID F.PLJ_ID_DEV 5
theorem test_PlajoLink_cell : pl.pljState 3 = portUp ∧ pl.pljV1 3 = false ∧ lineFind 0 2 = .corrected ∧
    (let x := pl.onPljPort 3 fun p => { p with unacked := [254, 255, 0] }; let d := ev (.cellReceived 3 2 0 255 true) x;
      (d.pljPort 3).rxSeq = 0 ∧ (d.pljPort 3).unacked = [0] ∧ (d.pljPort 3).resend = 1 ∧ d.get (A.PLJ_PORT_ERR 3) F.PLJ_PORT_ERR_CE = 1 ∧
      d.get (A.PLJ_PORT_ERR 3) F.PLJ_PORT_ERR_REPLAY = 1) := by decide +kernel
theorem test_PlajoLink_bad : lineFind 7 3 = .uncorrectable ∧ ((ev (.cellReceived 3 0 7 0 false) pl).pljPort 3).fails = 1 ∧
    ev (.cellReceived 3 0 7 0 false) (ev (.cellReceived 3 0 7 0 false) pl) = ev (.cellReceived 3 0 7 0 false) pl ∧
    (let x := pl.onPljPort 3 fun p => { p with fails := 2 }; (ev (.cellReceived 3 3 0 0 false) x).pljState 3 = portTraining) ∧
    (let x := pl.set (A.PLJ_PORT_STAT 3) F.PLJ_PORT_STAT_V1 1; (ev (.cellReceived 3 3 0 0 false) x).get (A.PLJ_PORT_ERR 3) F.PLJ_PORT_ERR_UE = 1) ∧
    ev (.cellReceived 0 0 0 0 false) pl = pl := by decide +kernel
theorem test_PlajoLink_trained : (let x := (z.set (A.PLJ_PORT_CTL 3) F.PLJ_PORT_CTL_ROLE 2).set (A.PLJ_PORT_STAT 3) F.PLJ_PORT_STAT_STATE 1;
      (ev (.portTrained 3 2) x).pljState 3 = portUp ∧ (ev (.portTrained 3 1) x).pljState 3 = portDown ∧ (ev (.portTrained 3 1) x).pljV1 3 = true) ∧
    ev (.portTrained 3 1) pl = pl ∧ (ev (.delayExchange 3 65535) (ev (.delayExchange 3 1) pl)).get (A.PLJ_PORT_STAT 3) F.PLJ_PORT_STAT_DLY = 32768 := by decide +kernel
theorem test_PlajoLink_root : (let x := pl.set A.PLJ_CFG F.PLJ_CFG_ROOT 5; x.isRoot = true ∧ (ev .rootSync x).bit A.PLJ_STAT F.PLJ_STAT_SLOCK = true ∧
      (ev .rootSync x).sent.length = 1 ∧ (ev .rootSync (ev .rootSync x)).sent.length = 1) ∧ ev .rootSync pl = pl ∧
    (((ev .presenceFrame pl).pljPort 3).queue.map (·.head.headD 0)) = [headWord0 3 0 true 3 5 0] ∧ (pl.pljPort 1) = ((ev .presenceFrame pl).pljPort 1) := by decide +kernel
theorem test_PlajoLink_absent : (let x := pl.setReg A.PLJ_PRESENT 0x80000000; (x.reg A.PLJ_PRESENT).getLsbD 31 = true ∧ x.presPorts 31 = [] ∧
    ((x.pljSetPresent 31 false).reg A.PLJ_PRESENT).getLsbD 31 = false ∧ ev (.deviceAbsent 30) x = x) := by decide +kernel
/-- Channel 63 is routed to device 9, to channel 48 there; device 9 is present. -/
def rou : Dev := (((pl.set (A.PLJ_MBX_ROUTE 15) F.PLJ_MBX_ROUTE_EN 1).set (A.PLJ_MBX_ROUTE 15) F.PLJ_MBX_ROUTE_RCH 48).set
  (A.PLJ_SEGT_CFG 0) F.PLJ_SEGT_CFG_DEV 9).setReg A.PLJ_PRESENT 0x200
/-- Its head notice was sent on tick 0 with sequence 77. -/
def rou1 : Dev := ((rou.onMend 63 1 fun e => { e with queue := [⟨0, 4, 5, 0⟩] }).onPlj fun p => { p with mbxTx := [(63, (1, 77))] })
theorem test_PlajoLink_retry : (let x := { rou1 with ticks := 2500 }; x.routed 63 = true ∧ x.present (x.routeDev 63) = true ∧ x.roleStandby = false ∧
    ((ev (.mbxRetry 63) x).pljPort 3).queue.length = 1 ∧ tabGet (0, 0) (ev (.mbxRetry 63) x).plj.mbxTx 63 = (2501, 77) ∧
    ev (.mbxRetry 63) { x with ticks := 2499 } = { x with ticks := 2499 }) := by decide +kernel
/-- The fields of a frame's first two words: from device 9 of segment 3, broadcast or not. -/
def hd (bcast : Bool) (hops : Nat) : Word := headWord0 3 5 bcast 3 9 hops
theorem test_PlajoLink_forward : (let f : PljFrame := ⟨2, [headWord0 3 6 false 3 9 30, 1, 2, 3], []⟩; f.sseg = 3 ∧ f.sdev = 9 ∧ f.hops = 30 ∧ f.fseq = 1 ∧
    pl.pljKnown f = false ∧
    (let d := ev (.pljFrameReceived 3 2 (headWord0 3 6 false 3 9 30) 1 2 3 []) pl;
      tabGet [] d.plj.keys (3 * 32 + 9) = [1] ∧ (d.pljPort 2).queue = [⟨2, [headWord0 3 6 false 3 9 31, 1, 2, 3], []⟩] ∧ (d.pljPort 3).queue = [] ∧
      ev (.pljFrameReceived 3 2 (headWord0 3 6 false 3 9 30) 1 2 3 []) d = d)) ∧
    ev (.pljFrameReceived 3 2 (headWord0 3 6 false 3 9 31) 1 2 3 []) pl = pl ∧ ev (.pljFrameReceived 3 2 (headWord0 3 6 false 3 5 0) 1 2 3 []) pl = pl := by
  decide +kernel
theorem test_PlajoLink_idle : ∀ g ∈ pl.loopSlots, pl.slotMode g = 0 := by decide +kernel
theorem test_PlajoLink_unwatched : ∀ h, pl.Unwatched h := fun _ g hg => .inl (test_PlajoLink_idle g hg)
theorem test_PlajoLink_sync : (let c (half : Word) := Instr.pljFrameReceived 3 1 (hd false 0) (half <<< 16) 7 0 []; pl.isRoot = false ∧
    (ev (c 0) { pl with time := { pl.time with ts := 7 } }).bit A.PLJ_STAT F.PLJ_STAT_SLOCK = true ∧
    (ev (c 0) { pl with time := { pl.time with ts := 9 } }).bit A.PLJ_STAT F.PLJ_STAT_SLOCK = true ∧
    (ev (c 0) { pl with time := { pl.time with ts := 10 } }).bit A.PLJ_STAT F.PLJ_STAT_SLOCK = false ∧
    (ev (c 5) { pl with time := { pl.time with ts := 8 } }).bit A.PLJ_STAT F.PLJ_STAT_SLOCK = true) := by decide +kernel
theorem test_PlajoLink_remote : (ev (.pljFrameReceived 3 3 (hd false 0) 0x30000 0 0 [77, 8, 1]) pl).later = [.remote 77 8 true] ∧
    (ev (.pljFrameReceived 3 7 (hd false 0) 0x20000 0 0 [77]) pl).plj.subs = [(77, 9)] ∧
    (ev (.pljFrameReceived 3 7 (hd false 0) 0x30001 0 0 [77]) (ev (.pljFrameReceived 3 7 (hd false 0) 0x20000 0 0 [77]) pl)).plj.subs = [] := by decide +kernel
theorem test_PlajoLink_gate : (let x := pl.set A.PLJ_CFG F.PLJ_CFG_ROOT 5; (ev (.pljFrameReceived 3 6 (headWord0 4 6 false 3 9 31) 0 0 0 [8]) x).sent =
    [⟨1, x.get A.PLJ_CFG F.PLJ_CFG_GWPORT, 0x88B5, [0x59430002, 6, 8]⟩]) := by decide +kernel
theorem test_PlajoLink_presence : (let x := rou; let d := ev (.pljFrameReceived 3 7 (hd true 0) 0x10000 0 0 [0]) x;
    (d.reg A.PLJ_PRESENT).getLsbD 9 = true ∧ tabGet 0 d.plj.seen (4 * 9 + 3) = 1) := by decide +kernel
theorem test_PlajoLink_notice : (let mbc := Instr.pljFrameReceived 3 5 (hd false 0) 0x003F0055 0 0 [4, 0x0300, 6, 7]; let x := ((rou.set (A.MBX_CH_CFG 63) F.MBX_CH_CFG_EN 1).set (A.MBX_CH_CFG 63) F.MBX_CH_CFG_END0 0x38);
    x.postCheck 63 0x89 false false = .posted ∧ x.endOf 63 0x89 = some 1 ∧ x.journaled 63 1 = false ∧
    (let d := ev mbc x; (d.mend 63 0).queue = [⟨(7 : Word) ++ (6 : Word), 4, stampWord 0x89 3 false, 0⟩] ∧
      d.sent.getLast? = some ⟨2, 9, 5, [0x803F, 0x55]⟩ ∧ (ev mbc d).sent.length = d.sent.length + 1 ∧ (ev mbc d).mbx = d.mbx) ∧
    rou.postCheck 63 0x89 false false ≠ .posted ∧ ev mbc rou = rou) := by decide +kernel
theorem test_PlajoLink_acked : ((ev (.pljFrameReceived 3 5 (hd false 0) 0x80300055 0 0 [77]) rou1).mend 63 1).queue = [] ∧
    (ev (.pljFrameReceived 3 5 (hd false 0) 0x80300055 0 0 [77]) rou1).plj.mbxTx = [] ∧
    ((ev (.pljFrameReceived 3 5 (hd false 0) 0x80300055 0 0 [76]) rou1).mend 63 1).queue.length = 1 := by decide +kernel
theorem test_PlajoLink_pair : (let x := pl.set (A.PLJ_PORT_CTL 3) F.PLJ_PORT_CTL_ROLE 2; x.pljRole 3 = rolePair ∧ x.syncedAs 2 = false ∧
    ev (.pljFrameReceived 3 3 (hd false 0) 0x10000 0 0 [1]) x = x ∧ ev (.pljFrameReceived 3 5 (hd false 0) 0x10000 0 0 [1]) x = x) := by decide +kernel

/-! ## Dovetail pairs -/

/-- A pair member in a role and a pair state, in epoch 1 that began with TS64 10000. -/
def du (role sync : Nat) : Dev := ((({ z with time := { z.time with ts := 10000 } }.set A.DUO_CFG F.DUO_CFG_EN 1).setRole role).setSync sync)
/-- The partner's heartbeat: role, pair state, whether it requests a transfer. -/
def hb (role sync : Fin 4) (req : Bool) (dev : Fin 32) : Hb := ⟨role, sync, 0, false, false, false, req, dev, 0⟩
theorem test_DovetailPair_role : (let x (p : Option Hb) := (du 0 0).onDuo fun d => { d with deciding := some 0, partner := p };
    (ev .roleDecision (x (some (hb 1 1 false 9)))).duoRole = drStandby ∧ ev .roleDecision (x none) = x none ∧
    (ev .roleDecision { x none with ticks := 500000000 }).duoRole = drPrimary ∧
    ev .roleDecision { x none with ticks := 499999999 } = { x none with ticks := 499999999 } ∧ ev .roleDecision (du 0 0) = du 0 0) := by decide +kernel
theorem test_DovetailPair_enter : (let x := (du 1 2).onDuo fun d => { d with syncNext := true }; x.duoOn = true ∧ epochAt x.ts = 1 ∧ x.duo.cur = 0 ∧
    x.duo.takeover = none ∧ (ev .epochStart x).duoSync = dsSynced ∧ (ev .epochStart x).duoRel = 0 ∧ (ev .epochStart x).duo.txEpoch = 1 ∧
    (ev .epochStart (ev .epochStart x)) = ev .epochStart x) := by decide +kernel
theorem test_DovetailPair_ended : (du 1 3).syncedAs 1 = true ∧ (ev .epochStart (du 1 3)).duo.ends = [(0, 0)] ∧
    (ev .epochStart (du 1 3)).reg A.DUO_EPOCH = 0 ∧ (let x := (du 1 3).onDuo fun d => { d with switch := true };
      (ev .epochStart x).duoRole = drStandby ∧ (ev .epochStart x).duo.request = true ∧ (ev .epochStart x).get A.DUO_STAT F.DUO_STAT_CAUSE = dcHandover) := by
  decide +kernel
theorem test_DovetailPair_digest : (let x (dg : Dbl) := { ((du 2 3).onDuo fun d => { d with digestIn := [(0, dg)] }) with time := { z.time with ts := 10000 + (du 2 3).lagNs } };
    (x 5).syncedAs 2 = true ∧ (x 5).duo.handover = none ∧ (0 + 1) * 10000 + (x 5).lagNs ≤ (x 5).ts.toNat ∧ epochAt (x 5).ts ≠ (x 5).duo.cur) := by decide +kernel
theorem test_DovetailPair_handed : (let x := { ((du 2 3).onDuo fun d => { d with handover := some 0 }) with time := { z.time with ts := 10000 + (du 2 3).lagNs } };
    (ev .epochStart x).duoRole = drPrimary ∧ (ev .epochStart x).duoSync = dsOut ∧ (ev .epochStart x).reg A.REC_SEQ = x.reg A.REC_SEQ + 65536) := by decide +kernel
theorem test_DovetailPair_takeover : (let x (t : Nat) := (du 1 1).onDuo fun d => { d with takeover := some t };
    (ev .epochStart (x 0)).duo.takeover = none ∧ (ev .epochStart (x 0)).get A.DUO_GAP F.DUO_GAP_GAP = 10 ∧ (ev .epochStart (x 1)).duo.takeover = some 1) := by decide +kernel
/-- An entry of the kind, of epoch 0. -/
def ent (kind : Nat) (ts : Dbl) : DuoEntry := ⟨kind, mkHandle 0x12 7, 55, 0x80000000, [], ts⟩
theorem test_DovetailPair_frame : (let x := { (du 1 3) with duoSet := [ent 1 4] }; x.duoSet = [ent 1 4] ∧
      (ev .inputSetFrame (x.onDuo fun d => { d with cur := 1 })).duoSet = [] ∧ (ev .inputSetFrame (x.onDuo fun d => { d with cur := 1 })).duo.txEpoch = 1) ∧
    (let x := { (du 1 3) with duoSet := [ent 1 8001] }; ev .inputSetFrame x = x) ∧ (let x := { (du 1 3) with duoSet := [ent 1 8000] }; (ev .inputSetFrame x).duoSet = []) ∧
    ev .inputSetFrame (du 2 3) = du 2 3 := by decide +kernel
/-- Port 0 is a pair port that is UP. -/
def duP (x : Dev) : Dev := (x.set (A.PLJ_PORT_CTL 0) F.PLJ_PORT_CTL_ROLE 2).set (A.PLJ_PORT_STAT 0) F.PLJ_PORT_STAT_STATE 2
theorem test_DovetailPair_link : (let x := duP (du 1 3); (pairPorts x).Nodup ∧ 0 ∈ pairPorts (x.set A.DUO_CFG F.DUO_CFG_PORTB 1) ∧
    (let y := { (x.set A.DUO_CFG F.DUO_CFG_PORTB 1).onDuo (fun d => { d with cur := 1 }) with duoSet := [ent 1 4] };
      (((ev .inputSetFrame y).pljPort 0).queue.map fun f => (f.typ, f.body.drop 8)) = [(3, entryWords 0 (ent 1 4))])) := by decide +kernel
theorem test_DovetailPair_arrival : (let x := duP ((du 2 3).set A.DUO_CFG F.DUO_CFG_LAG 20); let c := Instr.pljFrameReceived 0 3 0 0x10000 0 0 ([0, 0, 0, 0x30003, 0, 0, 0, 0] ++ entryWords 0 (ent 1 40));
    x.pljState 0 = portUp ∧ x.pljRole 0 = rolePair ∧ x.syncedAs 2 = true ∧ (ev c x).duo.taken = [(0, 3)] ∧ (ev c x).duo.inbox = [ent 1 40] ∧ ev c (ev c x) = ev c x ∧
    (ev c { x with time := { x.time with ts := 20041 } }).get A.DUO_STAT F.DUO_STAT_CAUSE = dcLate) := by decide +kernel
theorem test_DovetailPair_replay : (let x (k : Nat) := ((du 2 3).set A.DUO_CFG F.DUO_CFG_LAG 9).onDuo fun d => { d with inbox := [ent k 1000], msAt := [(0, 4)] };
    (ev .replayEntry (x 1)).point (mkHandle 0x12 7) = ⟨55, true⟩ ∧ (ev .replayEntry (x 1)).duo.inbox = [] ∧ (x 5).mirrorBehind (ent 5 1000) = true ∧
    (ev .replayEntry (x 5)).get A.DUO_STAT F.DUO_STAT_CAUSE = dcLate ∧ hclass (mkHandle 0x12 7) = 0x12 ∧ (x 1).loopSlots = [] ∧
    tabGet [] (ev .replayEntry (x 9)).duo.prd ((mkHandle 0x12 7).toNat % 8) = [(55, false)] ∧
    ev .replayEntry { x 1 with time := { z.time with ts := 9999 } } = { x 1 with time := { z.time with ts := 9999 } }) := by decide +kernel
theorem test_DovetailPair_notice : (let y : DuoEntry := ⟨4, 63, 9, 0x38, [1, 0], 1000⟩; let x := (((du 2 3).set A.DUO_CFG F.DUO_CFG_LAG 9).set (A.MBX_CH_CFG 63) F.MBX_CH_CFG_END0 0x38).onDuo fun d => { d with inbox := [y] };
    x.endOf (y.id.toNat % 64) (bitsOf y.data 7 0) = some 0 ∧ x.journaled 63 0 = false ∧ ((ev .replayEntry x).mend 63 1).queue = [⟨1, 9, 0x38, 0⟩]) := by decide +kernel
theorem test_DovetailPair_econf : (let x := (du 1 3).onDuo fun d => { d with cur := 9, confirmed := 3, ends := [(4, 0), (8, 0)] };
    (ev (.econfReceived 8) x).duoRel = 8 ∧ (ev (.econfReceived 8) x).duo.ends = [] ∧ (ev (.econfReceived 4) x).duo.ends = [(8, 0)] ∧
    ev (.econfReceived 3) x = x ∧ ev (.econfReceived 9) x = x ∧
    (let y := x.set A.DUO_CFG F.DUO_CFG_CWAIT 0; (ev .cwaitExpiry y).duoRel = 4 ∧ (ev .cwaitExpiry y).get A.DUO_ERRCNT F.DUO_ERRCNT_CTO = 1) ∧
    (let y := x.set A.DUO_CFG F.DUO_CFG_CWAIT 1; ev .cwaitExpiry y = y)) := by decide +kernel
theorem test_DovetailPair_mirror : (let x := (du 1 3).onDuo fun d => { d with unacked := [(7, 0), (8, 0)] }; (ev (.mirFrame 7 .ack) x).reg A.DUO_MLAG = 1 ∧
      ev (.mirFrame 7 (.page 0 [])) x = x) ∧
    (let d := ev (.mirFrame 7 (.page 1 [0x04030201])) (du 2 1); tabGet memDefault d.store 4099 = 4 ∧ d.sent = [⟨5, 0, 5, [7]⟩] ∧ d.duo.mseqIn = 7) ∧
    (ev (.mirFrame 7 (.bank 16 [1, 2, 3, 4])) (du 2 1)).words 16 4 = [1, 2, 3, 4] ∧ ev (.mirFrame 7 .ack) (du 2 1) = du 2 1 := by decide +kernel
theorem test_DovetailPair_commands : (ev .duoResync (du 2 1)).duo.request = true ∧ ev .duoResync (du 1 1) = du 1 1 ∧ (ev .duoSwitch (du 1 3)).duo.switch = true ∧
    ev .duoSwitch (du 2 3) = du 2 3 ∧ (ev .duoLeave (du 1 3)).get A.DUO_STAT F.DUO_STAT_CAUSE = dcRequest ∧ ev .duoLeave z = z ∧
    (let x := (du 2 3).set A.DUO_CFG F.DUO_CFG_LAG 10; (ev .replayDry x).bit A.DUO_STAT F.DUO_STAT_DRY = true) ∧
    (let x := (du 2 3).set A.DUO_CFG F.DUO_CFG_LAG 11; ev .replayDry x = x) := by decide +kernel
theorem test_DovetailPair_transfer : (let src := (z.set (A.MEM_BANK_STAT 1) F.MEM_BANK_STAT_OWNER 0x38).putByte 0x80001 9; Memory.wf src.mem = true ∧
    (let d := ev (.transferDone src) (du 2 2); d.byte 0x80001 = 9 ∧ d.duo.syncNext = true ∧ d.get A.DUO_STAT F.DUO_STAT_TPCT = 100) ∧
    ((ev (.transferDone src) (du 1 2)).mem = [] ∧ ev (.transferDone src) (du 1 3) = du 1 3)) := by decide +kernel
theorem test_DovetailPair_heartbeat : (let x := du 2 1; (ev (.heartbeat none) x).sent.length = 2 ∧ (ev (.heartbeat none) (ev (.heartbeat none) x)).sent.length = 2 ∧
    (let d := ev (.heartbeat (some (2, hb 1 2 false 9))) x; d.bit A.DUO_STAT F.DUO_STAT_WIT = true ∧ d.duo.partner = none) ∧ ev (.heartbeat (some (0, hb 1 2 false 9))) z = z) := by decide +kernel
theorem test_DovetailPair_asks : (let h : Hb := { hb 2 1 true 9 with digest := (du 1 1).imageDigest }; h.digest = (du 1 1).imageDigest ∧ h.role.val = drStandby ∧
    (du 1 1).duo.syncNext = false) := ⟨rfl, rfl, rfl⟩
theorem test_DovetailPair_lost : (let x := du 1 3; x.pathHeard 0 = false ∧ x.pathHeard 1 = false ∧ (ev .partnerLost x).get A.DUO_STAT F.DUO_STAT_CAUSE = dcPartner ∧
      (let y := x.onDuo fun d => { d with seen := [(2, 1)] }; y.pathHeard 2 = true ∧ (ev .partnerLost y).get A.DUO_STAT F.DUO_STAT_CAUSE = dcLinks ∧
        { y with ticks := 16250 }.pathHeard 2 = false ∧ { y with ticks := 16249 }.pathHeard 2 = true) ∧
      (let y := x.onDuo fun d => { d with seen := [(1, 1)] }; ev .partnerLost y = y)) ∧
    (du 2 3).pathHeard 2 = false ∧ (du 2 3).syncedAs 2 = true ∧ ((du 2 3).duoTakeover dcPartner 170).duoRole = drPrimary ∧
    ((du 2 3).duoTakeover dcPartner 170).duo.takeover = some 42500 := by decide +kernel

/-! ## Mailboxes and the host -/

/-- Channel 63 joins engine 0 (identity 1) and the supervisor cores; it is enabled. -/
def mb : Dev := { ((z.set (A.MBX_CH_CFG 63) F.MBX_CH_CFG_END0 1).set (A.MBX_CH_CFG 63) F.MBX_CH_CFG_END1 0x38).set (A.MBX_CH_CFG 63) F.MBX_CH_CFG_EN 1 with ticks := 9 }
def nts (n : Nat) : List Notice := List.replicate n ⟨1, 2, 3, 4⟩
theorem test_MailboxChannel_cfg : (let v := fw F.MBX_CH_CFG_END0 0x9F (fw F.MBX_CH_CFG_END1 8 (fw F.MBX_CH_CFG_EN 1 0)); chEnds 63 v = (0x9F, 8) ∧
      identOk 0x9F = true ∧ identOk 8 = true ∧ (ev (.chCfgWrite 63 v) z).endIdent 63 0 = 0x9F ∧ (ev (.chCfgWrite 63 v) mb).bit (A.MBX_STAT 63) F.MBX_STAT_CFGERR = true) ∧
    (ev (.chCfgWrite 63 0) mb).bit (A.MBX_CH_CFG 63) F.MBX_CH_CFG_EN = false ∧
    (ev (.chCfgWrite 63 0) (mb.onMend 63 1 fun e => { e with queue := nts 1 })).bit (A.MBX_STAT 63) F.MBX_STAT_CFGERR = true := by decide +kernel
theorem test_MailboxChannel_post : identOf 7 = 1 ∧ mb.endOf 63 1 = some 0 ∧ mb.postCheck 63 1 true false = .posted ∧ mb.journaled 63 0 = false ∧
    (let d := ev (.post ⟨7, true⟩ 63 77) (mb.setReg (reqKey 7 (A.MBX_POST_LO 63)) 5); (d.mend 63 1).queue = [⟨5, 77, stampWord 1 (mb.epochOf 1) true, 9⟩] ∧
      (d.mend 63 0).pres = 1 ∧ d.bus = ⟨.ok, 0⟩) := by decide +kernel
theorem test_MailboxChannel_full : (let x := mb.onMend 63 1 fun e => { e with queue := nts 16 }; x.postCheck 63 1 true false = .full ∧
      (ev (.post ⟨7, true⟩ 63 77) x).mbx.length = 2 ∧ ((ev (.post ⟨7, true⟩ 63 77) x).mend 63 1).queue = nts 16) ∧
    (mb.onMend 63 1 fun e => { e with queue := nts 15 }).postCheck 63 1 true false = .posted ∧
    (mb.set (A.MBX_CH_CFG 63) F.MBX_CH_CFG_EN 0).postCheck 63 1 true false = .error 1 := by decide +kernel
theorem test_MailboxChannel_take : (let x := mb.onMend 63 0 fun e => { e with queue := nts 2 };
      ((ev (.take 7 63) x).mend 63 0).held = ⟨1, 2, 3, 4⟩ ∧ ((ev (.take 7 63) x).mend 63 0).queue = nts 1) ∧
    ((ev (.take 7 63) mb).mend 63 0).tok = false ∧ ((ev (.take 7 63) (mb.onMend 63 0 fun e => { e with disc := 3 })).mend 63 0).held = discNotice 3 9 ∧
    ev (.take 8 63) mb = mb ∧ mb.endOf 63 (identOf 8) = none ∧ (ev (.mbxAlloc 7 63) mb).pool.pageReqs.length = 1 := by decide +kernel
theorem test_MailboxChannel_release : (let x : Dev := (mb.onPool fun p => { p with pageOf := [(3, 64)] }).onMend 63 0 fun e => { e with held := ⟨0x1003000, 0, 0, 0⟩, heldPage := true };
    x.noticePage 63 0x1003000 = some 3 ∧ (ev (.mbxRel 7 63) x).later = [.pageFree 3]) ∧
    (ev .hostReset (z.set (A.MBX_EPOCH 0x3F) F.MBX_EPOCH_EPOCH 255)).epochOf 0x3F = 0 := by decide +kernel
/-- Session 0 has a command with number 1 in page 0. -/
def hs (cmd len : Nat) (body : List Word) : Dev :=
  { ((((z.set (A.MBX_CH_CFG 4) F.MBX_CH_CFG_END0 0x3F).set (A.MBX_CH_CFG 4) F.MBX_CH_CFG_END1 0x38).putSpan 0 ([BitVec.ofNat 32 cmd, 1, BitVec.ofNat 32 len, 0] ++ body)).onMend 4 1
    fun e => { e with queue := [⟨0x1000000, 1, 0x3F, 0⟩] }) with ticks := 1 }
theorem test_HostCommands_session : sessChan 15 = 31 ∧ (hs 1 0 []).endIdent (sessChan 0) 0 = 0x3F ∧ (hs 1 0 []).endIdent (sessChan 0) 1 = 0x38 ∧
    (hs 1 0 []).recovery = false ∧ (hs 1 0 []).lifecycle ≠ lcRetired ∧ judge 1 ((hs 1 0 []).reg (A.DUO_SRC 64)) = .new ∧
    (((hs 1 0 []).payload 0x1000000 1024).map fun ws => ws.take 4) = some [1, 1, 0, 0] ∧ (ev (.info 0) (hs 1 0 [])).reg (A.DUO_SRC 64) = 1 ∧
    (ev (.info 0) (hs 1 0 [])).acks.length = 1 := by decide +kernel
theorem test_HostCommands_gap : (let x := (hs 1 0 []).setReg (A.DUO_SRC 64) 7; judge 3 1 = .gap ∧ judge 1 (x.reg (A.DUO_SRC 64)) = .dup ∧
    (ev (.info 0) ((hs 1 0 []).setReg (A.DUO_SRC 64) 0xFFFFFFF0)).hostResp = [] ∧ judge 1 0xFFFFFFF0 = .gap) := by decide +kernel
theorem test_HostCommands_write : (let d := ev (.imgWrite 0) (hs 2 9 [3, 0x3FFFFFF, 0x5A]); d.staging = [(4 * 2 ^ 26 - 1, 0x5A)] ∧
      tabGet [] d.hostResp 0 = respWords csOk 1 []) ∧ tabGet [] (ev (.imgWrite 0) (hs 2 10 [3, 0x3FFFFFF, 0x5A])).hostResp 0 = respWords csFormat 1 [] := by decide +kernel
theorem test_HostCommands_commit : (let x := hs 3 16 [3, 2904, 1, 0]; x.verifyImage (x.slotReader 3) = some 1 ∧
    tabGet [] (ev (.imgCommit 0) x).hostResp 0 = respWords csVerify 1 []) := by decide +kernel
theorem test_HostCommands_start : (let x := hs 4 8 [15, 65535]; x.ctxMode 15 = cmIdle ∧ (x.ctx 15).booting = false ∧ x.resident 15 = false ∧ (x.ctx 15).asked = [] ∧
    ((ev (.hostStart 0) x).ctx 15).booting = true ∧ (ev (.hostStart 0) x).get (A.SEQ_CTX_CTL 15) F.SEQ_CTX_CTL_STEP = 65535) := by decide +kernel
theorem test_HostCommands_scribe : (ev (.hostScribe 0) (hs 5 8 [0xFFFF, 3])).scribe.offers = [⟨0x3F, 0xFFFF, false, 0, [3]⟩] ∧
    (ev (.hostScribe 0) (hs 5 4 [0xEFFF])).scribe.offers = [] := by decide +kernel
theorem test_HostCommands_spi : (let x := (z.set A.SYS_HOST_CFG F.SYS_HOST_CFG_SPIEN 1).set A.SYS_HOST_CFG F.SYS_HOST_CFG_SPIPEN 1; x.portOn 2 = true ∧
    (ev (.spiTransaction 3 (BitVec.ofNat 32 A.SYS_ID) 1 []) x).sent = [⟨3, 0, 2, [0x5A, x.reg0 A.SYS_ID]⟩] ∧
    (ev (.spiTransaction 2 0 0 [1]) (x.set A.SYS_HOST_CFG F.SYS_HOST_CFG_SPIPEN 0)).sent = [⟨3, 0, 2, [0xE1]⟩] ∧
    (let y := z.set A.SYS_HOST_CFG F.SYS_HOST_CFG_SPIEN 0; ev (.spiTransaction 2 0 0 [1]) y = y)) := by decide +kernel

/-! ## Keys, attestation, life cycle -/

/-- A life-cycle state. -/
def lc (n : Nat) (x : Dev) : Dev := x.set A.SEC_LCS_STAT F.SEC_LCS_STAT_STATE n
theorem test_SecurityBlock_gate : (let x := z.onSec fun c => { c with wipe := some 9 }; ev (.keyEnrol 1 3 0x1000) x = { x with bus := ⟨.completerAbort, 0⟩ } ∧
    ev (.attest 14 0x1000) x = { x with bus := ⟨.busError, 0⟩ }) := by decide +kernel
theorem test_SecurityBlock_enrol : z.lifecycle = lcProvisioned ∧ (lc 0 z).lifecycle = lcBlank ∧ pageAddr 0x37FF = some (0x27FF * 4096) ∧ z.spanOk (0x27FF * 4096) 68 = true ∧ pageAddr 0x3800 = none ∧
    (ev (.keyEnrol 3 3 0x37FF) z).enrolled 3 = true ∧ (ev (.keyEnrol 3 3 0x37FF) z).get A.SEC_KEY_CTL F.SEC_KEY_CTL_RES = 1 ∧
    (ev (.keyEnrol 3 3 0x3800) z).get A.SEC_KEY_CTL F.SEC_KEY_CTL_RES = 2 ∧
    (ev (.keyEnrol 3 3 0x1000) (lc 4 z)).get A.SEC_KEY_CTL F.SEC_KEY_CTL_RES = 2 ∧ (lc 2 z).keyop 0x1000 3 18 = none ∧
    (ev (.keyEnrol 3 3 0x1000) (lc 2 z)).get A.SEC_KEY_CTL F.SEC_KEY_CTL_RES = 3 := by decide +kernel
theorem test_SecurityBlock_revoke : (let x := lc 2 (z.set (A.SEC_OWNKEY 3) F.SEC_OWNKEY_ENROLLED 1); x.liveWithout 3 = false ∧ x.liveWithout 0 = true ∧
    (ev (.keyRevoke 3 3 0x1000) x).get A.SEC_KEY_CTL F.SEC_KEY_CTL_RES = 2 ∧ x.keyop 0x1000 0 1 = none ∧
    (ev (.keyRevoke 3 0 0x1000) x).get A.SEC_KEY_CTL F.SEC_KEY_CTL_RES = 3) := by decide +kernel
/-- The host owns bank 0, and the identity is in a state. -/
def att (n : Nat) : Dev := (z.set (A.MEM_BANK_STAT 0) F.MEM_BANK_STAT_OWNER 0x3F).setIdState n
theorem test_SecurityBlock_attest : (att 2).ownsLive 0x3F 0 = true ∧ (att 2).idSign.2 = some 0 ∧
    ((att 2).set A.SEC_IDX_BLK F.SEC_IDX_BLK_C 16384).idSign.2 = none ∧ (ev (.attest 3 0x1000) z).get A.SEC_ATT_STAT F.SEC_ATT_STAT_CAUSE = 1 ∧
    (ev (.attest 3 0x1000) (att 1)).get A.SEC_ATT_STAT F.SEC_ATT_STAT_CAUSE = 2 ∧ (ev (.attest 3 0x1000) (att 3)).get A.SEC_ATT_STAT F.SEC_ATT_STAT_CAUSE = 4 ∧
    (ev (.attest 3 0x1000) ((att 2).set A.SEC_IDX_BLK F.SEC_IDX_BLK_C 16384)).get A.SEC_ATT_STAT F.SEC_ATT_STAT_CAUSE = 3 := by decide +kernel
theorem test_SecurityBlock_lifecycle : (let x := lc 0 (z.set (A.SEC_OWNKEY 3) F.SEC_OWNKEY_ENROLLED 1); let z := lc 0 z; z.lcsAllowed 1 = true ∧ z.lcsAllowed 2 = false ∧
    (ev (.lcsTransition 3 1 0) x).sec.target = some 1 ∧ (ev (.lcsTransition 3 1 0) x).sec.wipe = some 1250 ∧
    (ev (.lcsTransition 3 1 0) z).get A.SEC_LCS_STAT F.SEC_LCS_STAT_RES = 4 ∧ (ev (.lcsTransition 3 2 0) z).get A.SEC_LCS_STAT F.SEC_LCS_STAT_RES = 3 ∧
    (lc 1 z).tokenOk 2 0 = false ∧ (ev (.lcsTransition 3 2 0) (lc 1 z)).get A.SEC_LCS_STAT F.SEC_LCS_STAT_RES = 2) := by decide +kernel
theorem test_SecurityBlock_build : (att 1).idState = idBuilding ∧ (ev (.idBuildDone true) (att 1)).idState = idReady ∧ (ev (.idBuildDone false) (att 1)).idState = idFailed ∧
    ev (.idBuildDone true) (att 2) = att 2 := by decide +kernel
theorem test_SecurityBlock_wipe : (let x (t : Option Nat) := { (z.onSec fun c => { c with wipe := some 9, target := t }) with ticks := 9 };
    (ev .storeWipeDone (x none)).sec.wipe = none ∧ (ev .storeWipeDone (x none)).bit A.SEC_TAMP_STAT F.SEC_TAMP_STAT_WIPED = true ∧
    ev .storeWipeDone { x none with ticks := 8 } = { x none with ticks := 8 } ∧ (ev .storeWipeDone (x (some 2))).lifecycle = lcOperational ∧
    (x (some 2)).resettable = true ∧ (ev .storeWipeDone (x (some 2))).phase = .saving) := by decide +kernel
theorem test_SecurityBlock_tamper : (let x := z.set A.SYS_PWR_STAT F.SYS_PWR_STAT_FEEDB 1; x.feedPresent = true ∧ (ev (.tamper 2) x).bit A.SEC_TAMP_STAT F.SEC_TAMP_STAT_TEMP = true ∧
    (ev (.tamper 2) x).sec.wipe = some 1250) ∧
    (let x := (z.set A.SYS_PWR_STAT F.SYS_PWR_STAT_FEEDB 0).set A.SYS_PWR_STAT F.SYS_PWR_STAT_FEEDA 0; x.feedPresent = false ∧ ev (.tamper 1) x = x) := by decide +kernel

/-! ## Power -/

/-- A phase, and a kind of start, at a tick. -/
def ph (p : PwrPhase) (k t : Nat) : Dev := { (z.onPower fun w => { w with phase := p, kind := k }) with ticks := t }
theorem test_PowerAndStart_feeds : (let x := ev (.feedMeasurement 24000 17999) z; x.bit A.SYS_PWR_STAT F.SYS_PWR_STAT_FEEDA = true ∧ x.bit A.SYS_PWR_STAT F.SYS_PWR_STAT_LOWB = true ∧
      x.bit A.SYS_PWR_STAT F.SYS_PWR_STAT_RIDE = false) ∧ z.on = true ∧
    (let x := ev (.feedMeasurement 17999 17999) z; x.bit A.SYS_PWR_STAT F.SYS_PWR_STAT_RIDE = true ∧ x.power.ride = 1 ∧
      (ev (.feedMeasurement 18000 17999) x).get A.SYS_PWR_STAT F.SYS_PWR_STAT_RIDES = z.get A.SYS_PWR_STAT F.SYS_PWR_STAT_RIDES + 1) ∧
    (ev .holdupReady z).bit A.SYS_PWR_STAT F.SYS_PWR_STAT_HUPRDY = true := by decide +kernel
/-- Both feeds were lost on tick 0. -/
def lost (x : Dev) : Dev := (x.set A.SYS_PWR_STAT F.SYS_PWR_STAT_RIDE 1).onPower fun w => { w with ride := 1 }
theorem test_PowerAndStart_pfail : (let x := lost (ph .run 1 1500000); (ev .pfail x).phase = .saving ∧ (ev .pfail x).power.full = true ∧ (ev .pfail x).halted = true) ∧
    (let x := lost (ph .run 1 1499999); ev .pfail x = x) ∧ (ev .pfail (lost (ph .saving 2 1500000))).power.joined = true ∧
    (ev .pfail (lost (ph .recovery 2 1500000))).phase = .off := by decide +kernel
theorem test_PowerAndStart_halt : (let x := ph .saving 1 500000; x.power.pfail = true ∧ (let y := x.onPower fun w => { w with full := true, charged := true }; (ev (.halt none true [] []) y).phase = .off ∧
      (ev (.halt none true [] []) y).power.mark.isSome = true) ∧
      (let y := { (x.onPower fun w => { w with full := true }) with ticks := 499999 }; ev (.halt none true [] []) y = y)) ∧
    (let x := (ph .saving 2 500).onPower fun w => { w with resetLow := true, full := false }; (ev (.halt none true [] []) x).phase = .held) := by decide +kernel
theorem test_PowerAndStart_reset : (ev .resetN (ph .run 1 7)).phase = .saving ∧ (ev .resetN (ph .run 1 7)).power.kind = rkResetN ∧ (ev .resetN (ph .started 1 7)).phase = .held ∧
    ev .resetN (ph .held 1 7) = ph .held 1 7 ∧ (ph .recovery 1 7).resettable = true ∧ (ev (.deviceReset true) (ph .run 1 7)).power.kind = rkWatchdog ∧
    ev .deviceColdReset (ph .starting 1 7) = ph .starting 1 7 ∧ (ev .factoryReset (ph .run 1 7)).power.kind = rkFactory ∧
    (ev .factoryReset (lc 2 (ph .run 1 7))).scribe.offers.length = 1 := by decide +kernel
theorem test_PowerAndStart_release : ev (.resetNRelease 0 true [] []) (ph .held 2 7) = ph .held 2 7 ∧
    (let x := (ph .saving 2 7).onPower fun w => { w with resetLow := true }; (ev (.resetNRelease 3 true [] []) x).power.boot = 3 ∧ (ev (.resetNRelease 3 true [] []) x).power.resetLow = false) ∧
    (ev (.unitReset 0) z).get A.SYS_RST_CTL F.SYS_RST_CTL_UNIT = 0 ∧ (ph .held 2 7).phase = .held := by decide +kernel
theorem test_PowerAndStart_boot : (((ph .held 2 7).bootStart 1).phase = .recovery ∧ ((ph .held 2 7).bootStart 0).phase = .starting ∧ ((lc 0 (ph .held 2 7)).bootStart 2).phase = .recovery ∧
    ((lc 1 (ph .held 2 7)).bootStart 2).phase = .starting ∧ ((ph .held 2 7).bootStart 3).bit A.SYS_START_STAT F.SYS_START_STAT_BOOTREF = true) := by decide +kernel
theorem test_PowerAndStart_decision : (ph .starting 6 7).startType true = (stFactory, 0) ∧ (lc 0 (ph .starting 1 7)).startType true = (stCold, 8) ∧ (lc 4 (ph .starting 1 7)).startType true = (stCold, 8) ∧
    (lc 2 (ph .starting 5 7)).startType true = (stCold, 7) ∧ (lc 2 (ph .starting 1 7)).startType true = (stCold, 1) ∧
    (ev (.startDecision true) (ph .starting 6 7)).phase = .started ∧ ev (.startDecision true) (ph .run 6 7) = ph .run 6 7 := by decide +kernel
theorem test_PowerAndStart_mark : (let x := (lc 2 (ph .starting 1 7)).onPower fun w => { w with mark := some ⟨0, 0, false, []⟩ }; x.startType false = (stCold, 6) ∧
    x.saveLost = false ∧ (x.set A.SYS_START_CFG F.SYS_START_CFG_RESPOL 1).startType true = (stResume, 0) ∧ (x.set A.SYS_START_CFG F.SYS_START_CFG_RESPOL 0).startType true = (stCold, 3)) := by decide +kernel
theorem test_PowerAndStart_resume : (ph .started 1 7).time.seedReq = false ∧ ev .controlResume (ph .run 1 7) = ph .run 1 7 ∧
    (let x := (ph .started 1 7).set A.SYS_START_STAT F.SYS_START_STAT_TYPE stCold; x.policyNext = none ∧ x.get A.SYS_START_STAT F.SYS_START_STAT_TYPE ≠ stResume) := by decide +kernel
theorem test_PowerAndStart_good : (let x := (ph .off 1 500000).onPower fun w => { w with goodA := 1, goodB := 0 }; x.pool.shadowErrs = [] ∧ Memory.wf x.pool.shadow = true ∧
    1 + 500000 ≤ x.ticks + 1 ∧ ev (.powerGood 0 true [] []) { x with ticks := 499999 } = { x with ticks := 499999 }) := by decide +kernel
theorem test_PowerAndStart_aon : (let x := (z.set A.SYS_PWR_STAT F.SYS_PWR_STAT_FEEDB 0).set A.SYS_PWR_STAT F.SYS_PWR_STAT_FEEDA 0; x.feedPresent = false ∧
    (ev .aonReset { x with cal := { x.cal with sec := 5 } }).cal.sec = 0) ∧ (z.set A.SYS_PWR_STAT F.SYS_PWR_STAT_FEEDB 1).feedPresent = true := by decide +kernel

end Sys2Proof.Tests
end

section
/-! Laws of shared operations that the proofs below use: commands that change nothing, counters, bytes of a number, what a
write adds to the input set of a pair, and the accesses that reach a register. -/

namespace Sys2Proof.Machine

/-! ## Commands -/

/-- An operation that leaves the device leaves the block. -/
theorem State.raw_same (s : State) (f : Dev → Dev) (h : f s.dev = s.dev) : s.raw f = .next s := by
  simp [State.raw, h]

/-! ## Counters (R5) -/

/-- A counter that saturates reads its old value and what it counted, up to its largest value. -/
theorem Dev.get_count_same (s : Dev) (a : Nat) (f : Fld) (n : Nat) (h : f.ok = true) :
    (s.count a f n).get a f = min (s.get a f + n) (2 ^ (f.hi - f.lo + 1) - 1) := by
  have hpos := Nat.two_pow_pos (f.hi - f.lo + 1)
  exact s.get_set_same a f _ h (by omega)

/-! ## Bytes (R4) -/

@[simp] theorem leBytes_length (n v : Nat) : (leBytes n v).length = n := by
  induction n generalizing v with
  | zero => rfl
  | succ n ih => simp [leBytes, ih]

/-- Byte `i` of a number is its bits from `8 i` on. -/
theorem getElem_leBytes (n v i : Nat) (h : i < (leBytes n v).length) :
    (leBytes n v)[i] = BitVec.ofNat 8 (v >>> (8 * i)) := by
  induction n generalizing v i with
  | zero => simp [leBytes] at h
  | succ n ih =>
    cases i with
    | zero => rfl
    | succ i =>
      rw [leBytes_length] at h
      have hs : v >>> (8 * (i + 1)) = (v / 256) >>> (8 * i) := by
        rw [Nat.mul_succ, Nat.add_comm, Nat.shiftRight_add, Nat.shiftRight_eq_div_pow v 8]
      rw [hs]
      exact ih (v / 256) i (by simpa using h)

/-- Storing bytes changes memory alone. -/
theorem Dev.putBytes_eq (s : Dev) (a : Nat) (bs : List Byte) :
    s.putBytes a bs = { s with mem := (s.putBytes a bs).mem } := by
  obtain ⟨m, hm⟩ := s.putBytes_frame bs a
  rw [hm]

/-! ## Without a synced pair nothing is collected or mirrored (R393, R403) -/

theorem Dev.collectWindow_alone (s : Dev) (acc : Acc) (addr size : Nat) (v : BitVec 128) (h : s.syncedAs 1 = false) :
    s.collectWindow acc addr size v = s := by
  refine foldl_keeps (· = s) _ _ s (fun y i _ hy => ?_) rfl
  subst hy
  simp only [Dev.collectWrite, Dev.collect, h, Bool.false_and, Bool.false_eq_true, if_false, ite_self]

theorem Dev.mirrorWindow_alone (s : Dev) (a : Nat) (h : s.syncedAs 1 = false) : s.mirrorWindow a = s := by
  simp [Dev.mirrorWindow, Dev.mirror, h]

/-! ## Accesses of the bus that reach a register (R5, R22, R393) -/

@[simp] theorem Dev.roleStandby_answer (s : Dev) (st : BusStatus) (d : BitVec 128) :
    (s.answer st d).roleStandby = s.roleStandby := rfl

/-- Without a synced pair nothing is collected; with one, the input set alone grows. -/
theorem Dev.collect_frame (s : Dev) (k : Nat) (i v w : Word) (x : List Word) :
    s.collect k i v w x = { s with duoSet := (s.collect k i v w x).duoSet } := by
  unfold Dev.collect
  split <;> rfl

/-- A write that enters the input set changes it alone. -/
theorem Dev.collectWrite_frame (s : Dev) (acc : Acc) (off : Nat) (v : Word) (h : Bool) :
    s.collectWrite acc off v h = { s with duoSet := (s.collectWrite acc off v h).duoSet } := by
  unfold Dev.collectWrite
  split
  · exact s.collect_frame ..
  · rfl

/-- A P-view write of a listed register, outside the safety block and of no standby, has the register's effect on the
device that has answered it and may have collected it. -/
theorem Dev.busWrite_reaches {s : Dev} {acc : Acc} {off : Nat} {r : RegDesc} {ix : List Nat} (v : Word)
    (hport : s.portOn acc.req.val = true) (hfind : regFind off = some (r, ix)) (hsaf : isSaf off = false)
    (hp : acc.pview = true) (hrole : s.roleStandby = false) :
    ∃ q, s.busWrite acc off v =
      ({ s with bus := ⟨.ok, 0⟩, duoSet := q } : Dev).regEffect acc r (ix.getD 0 0) (ix.getD 1 0) off v := by
  let y := if ownOfMember off then s.answer .ok 0 else (s.answer .ok 0).collectWrite acc off v false
  have hw : s.busWrite acc off v = y.regEffect acc r (ix.getD 0 0) (ix.getD 1 0) off v := by
    simp [Dev.busWrite, hport, hfind, hsaf, hp, hrole, y]
  have hy : y = { s with bus := ⟨.ok, 0⟩, duoSet := y.duoSet } := by
    simp only [y]
    split
    · rfl
    · exact Dev.collectWrite_frame ..
  exact ⟨y.duoSet, by rw [hw, ← hy]⟩

end Sys2Proof.Machine
end

section
/-! The device without its logic supply (O4). -/

namespace Sys2Proof.Machine

/-! ## Commands and ticks without the logic supply -/

/-- Commands that can bring a device without logic supply back (R449, R454). -/
def Wakes (c : Instr) : Prop :=
  (∃ va vb, c = .feedMeasurement va vb) ∨ (∃ b k x y, c = .powerGood b k x y) ∨ c = .aonReset ∨ ∃ k, c = .tamper k

/-- Without the logic supply a command that does not wake the device changes nothing: its meaning passes `State.go` or
`State.live`, whose guard fails. -/
theorem exec_off {c : Instr} {s : State} (h : s.dev.on = false) (hc : ¬ Wakes c) : exec c s = .next s := by
  cases c
  case feedMeasurement va vb => exact absurd (.inl ⟨va, vb, rfl⟩) hc
  case powerGood b k x y => exact absurd (.inr (.inl ⟨b, k, x, y, rfl⟩)) hc
  case aonReset => exact absurd (.inr (.inr (.inl rfl))) hc
  case tamper k => exact absurd (.inr (.inr (.inr ⟨k, rfl⟩))) hc
  all_goals exact State.raw_same _ _ (by simp [h])

/-- The crystal moves the calendar clock alone. -/
theorem Dev.calTick_frame (d : Dev) : d.calTick = { d with cal := d.calTick.cal } := by
  unfold Dev.calTick
  dsimp only
  split
  · rfl
  · split <;> rfl

/-- Without the logic supply a tick moves the count of ticks and the calendar clock, and ends the messages of the old tick. -/
theorem Dev.tick_off {d : Dev} (h : d.on = false) :
    d.tick = { d with ticks := d.ticks + 1, sent := [], cal := d.tick.cal } := by
  have e : d.tick = ({ d with ticks := d.ticks + 1, sent := [] } : Dev).calTick := by simp [Dev.tick, h]
  rw [e]
  exact Dev.calTick_frame _

/-! ## What stays -/

/-- The block has no logic supply, no waiting command wakes it, and its device stands as `d0` but for the count of ticks, the
calendar clock and the messages of the tick. -/
def State.HeldOff (d0 : Dev) (s : State) : Prop :=
  s.dev.on = false ∧ (∀ c ∈ s.pending, ¬ Wakes c) ∧
    s.dev = { d0 with ticks := s.dev.ticks, sent := s.dev.sent, cal := s.dev.cal }

/-- Every step completes, takes the front command from the queue and keeps the block held. -/
theorem State.HeldOff.step_next {d0 : Dev} {s : State} (h : s.HeldOff d0) :
    ∃ t, step s = .next t ∧ t.HeldOff d0 ∧ t.pending = s.pending.drop 1 := by
  obtain ⟨d, q⟩ := s
  obtain ⟨hoff, hq, hd⟩ := h
  dsimp only at hoff hq hd
  cases q with
  | nil =>
    have e := Dev.tick_off hoff
    refine ⟨⟨d.tick, []⟩, rfl, ⟨?_, hq, ?_⟩, rfl⟩
    · rw [e]; exact hoff
    · dsimp only
      rw [e, hd]
  | cons c q =>
    have hc : ¬ Wakes c := hq c (List.mem_cons_self ..)
    exact ⟨⟨d, q⟩, exec_off (s := ⟨d, q⟩) hoff hc, ⟨hoff, fun x hx => hq x (List.mem_cons_of_mem _ hx), hd⟩, rfl⟩

/-- Any number of steps completes, takes as many commands from the queue and keeps the block held. -/
theorem State.HeldOff.run_next {d0 : Dev} (n : Nat) : ∀ {s : State}, s.HeldOff d0 →
    ∃ t : State, Sys2Proof.core.run n s = .next t ∧ t.HeldOff d0 ∧ t.pending = s.pending.drop n := by
  induction n with
  | zero => exact fun {s} h => ⟨s, rfl, h, rfl⟩
  | succ n ih =>
    intro s h
    obtain ⟨t, hst, ht, hpt⟩ := h.step_next
    obtain ⟨u, hru, hu, hpu⟩ := ih ht
    refine ⟨u, ?_, hu, ?_⟩
    · have e : Sys2Proof.core.step s = .next t := hst
      simp only [Host.Core.run, e]
      exact hru
    · rw [hpu, hpt, List.drop_drop, Nat.add_comm]

/-- Settles O4: `State.HeldOff` is kept by every step, and holds of a block whose device is `d0` itself. -/
theorem offDeviceRetains : Obligations.OffDeviceRetains := by
  refine ⟨fun d0 s s' h hs => ?_, fun d0 q n hoff hq => ?_⟩
  · obtain ⟨t, ht, hh, -⟩ := State.HeldOff.step_next (s := s) h
    rw [ht] at hs
    cases hs
    exact hh
  · exact State.HeldOff.run_next n (s := ⟨d0, q⟩) ⟨hoff, hq, rfl⟩

end Sys2Proof.Machine
end

section
/-! The device after reset (O5). -/

namespace Sys2Proof.Machine

/-! ## States of the units after reset, from the reset values of their status registers (R6) -/

theorem Dev.ctxMode_reset : ∀ n < 16, Dev.reset.ctxMode n = cmIdle := by decide +kernel
theorem Dev.peMode_reset : ∀ e < 8, Dev.reset.peMode e = 0 := by decide +kernel
theorem Dev.taskState_reset : ∀ e < 8, ∀ t < 16, Dev.reset.taskState e t = tsIdle := by decide +kernel
theorem Dev.gluState_reset : ∀ n < 32, Dev.reset.gluState n = gsFree := by decide +kernel

/-- Settles O5: no table of the device lists an entry after reset, so that every read gives its table's default. -/
theorem resetState : Obligations.ResetState :=
  ⟨rfl, fun _ => rfl, fun _ => rfl, fun _ => rfl, fun _ => rfl, fun _ => rfl, reset_memCanonical,
    Dev.ctxMode_reset, fun e he => ⟨Dev.peMode_reset e he, Dev.taskState_reset e he⟩, Dev.gluState_reset, rfl, rfl⟩

end Sys2Proof.Machine
end

section
/-! Register writes by field types (O6): the fields of every listed register share no bit. -/

namespace Sys2Proof.Machine

/-! ## The fields of a register (R5, R7, R8) -/

/-- Two fields share no bit. -/
def Fld.apart (f g : Fld) : Bool := decide (f.hi < g.lo) || decide (g.hi < f.lo)

theorem Fld.apart_iff {f g : Fld} : f.apart g = true ↔ f.hi < g.lo ∨ g.hi < f.lo := by simp [Fld.apart]

/-- The fields of a register lie in a word and share no bit. -/
def FieldsOk (fs : List Fld) : Prop := (∀ f ∈ fs, f.ok = true) ∧ fs.Pairwise fun f g => f.apart g = true

/-- Every register of the tables is well formed. -/
theorem regBlocks_fieldsOk : ∀ b ∈ regBlocks, ∀ d ∈ b.2.2,
    (∀ f ∈ d.fields, f.ok = true) ∧ d.fields.Pairwise fun f g => f.apart g = true := by decide +kernel

theorem findIn_mem {ds : List RegDesc} {off : Nat} {r : RegDesc} {ix : List Nat} (h : findIn ds off = some (r, ix)) :
    r ∈ ds := by
  induction ds with
  | nil => simp [findIn] at h
  | cons d ds ih =>
    rw [findIn] at h
    split at h
    · cases h
      exact List.mem_cons_self ..
    · exact List.mem_cons_of_mem _ (ih h)

/-- A register found at an offset stands in the tables. -/
theorem regFind_mem {off : Nat} {r : RegDesc} {ix : List Nat} (h : regFind off = some (r, ix)) :
    ∃ b ∈ regBlocks, r ∈ b.2.2 := by
  unfold regFind findReg at h
  split at h
  · cases h
  · split at h
    case h_1 b hb => exact ⟨b, List.mem_of_find?_eq_some hb, findIn_mem h⟩
    case h_2 => cases h

/-- A register found at an offset is well formed. -/
theorem regFind_fieldsOk {off : Nat} {r : RegDesc} {ix : List Nat} (h : regFind off = some (r, ix)) :
    FieldsOk r.fields := by
  obtain ⟨b, hb, hr⟩ := regFind_mem h
  exact regBlocks_fieldsOk b hb r hr

/-! ## One field of a write -/

/-- A field is its bits. -/
theorem Fld.of_congr {f : Fld} {w w' : Word} (h : ∀ i, f.lo ≤ i → i ≤ f.hi → w.getLsbD i = w'.getLsbD i)
    (hf : f.ok = true) : f.of w = f.of w' := by
  simp only [Fld.ok, Bool.and_eq_true, decide_eq_true_eq] at hf
  refine Nat.eq_of_testBit_eq fun i => ?_
  rw [Fld.of, Fld.of, testBit_bitsOf, testBit_bitsOf]
  by_cases hi : i < f.hi - f.lo + 1
  · rw [h (f.lo + i) (by omega) (by omega)]
  · simp [hi]

/-- A field's mask has exactly the field's bits. -/
theorem Fld.getLsbD_mask {f : Fld} (hf : f.ok = true) (i : Nat) :
    f.mask.getLsbD i = (decide (f.lo ≤ i) && decide (i ≤ f.hi)) := by
  simp only [Fld.ok, Bool.and_eq_true, decide_eq_true_eq] at hf
  rw [Fld.mask, getLsbD_putBits _ _ _ _ _ hf.1]
  by_cases h : f.lo ≤ i ∧ i ≤ f.hi
  · have h1 : i - f.lo < f.hi - f.lo + 1 := by omega
    have h2 : i < 32 := by omega
    simp [h, h1, h2, Nat.testBit_two_pow_sub_one]
  · simp [h]
    omega

/-- A field put back reads as the value put. -/
theorem Fld.of_putBits {f : Fld} (hf : f.ok = true) (old v : Word) : f.of (putBits old f.hi f.lo (f.of v)) = f.of v := by
  simp only [Fld.ok, Bool.and_eq_true, decide_eq_true_eq] at hf
  rw [Fld.of, Fld.of, bitsOf_putBits_same _ _ _ _ hf.1 hf.2]
  exact Nat.mod_mod _ _

section
variable (pview locked late : Bool) (hw v : Word)

/-- A bit that a field's write leaves depends on the old word in that bit alone. -/
theorem fieldWrite_getLsbD_congr {f : Fld} (hf : f.ok = true) {old old' : Word} {i : Nat}
    (h : old.getLsbD i = old'.getLsbD i) :
    (fieldWrite pview locked late hw v old f).getLsbD i = (fieldWrite pview locked late hw v old' f).getLsbD i := by
  simp only [Fld.ok, Bool.and_eq_true, decide_eq_true_eq] at hf
  have hput (u : Nat) : (putBits old f.hi f.lo u).getLsbD i = (putBits old' f.hi f.lo u).getLsbD i := by
    rw [getLsbD_putBits _ _ _ _ _ hf.1, getLsbD_putBits _ _ _ _ _ hf.1, h]
  unfold fieldWrite
  split
  · exact h
  · cases f.kind <;> dsimp only
    case rw | rwl => split <;> simp only [h, hput]
    case w1c | w1s => simp [h]
    case ro | wo | own => exact h

/-- A field's write leaves every bit outside the field. -/
theorem fieldWrite_getLsbD_outside {f : Fld} (hf : f.ok = true) (old : Word) {i : Nat} (h : i < f.lo ∨ f.hi < i) :
    (fieldWrite pview locked late hw v old f).getLsbD i = old.getLsbD i := by
  by_cases h32 : i < 32
  case neg => rw [BitVec.getLsbD_of_ge _ _ (by omega), BitVec.getLsbD_of_ge _ _ (by omega)]
  have hm : f.mask.getLsbD i = false := by
    rw [Fld.getLsbD_mask hf]
    simp
    omega
  simp only [Fld.ok, Bool.and_eq_true, decide_eq_true_eq] at hf
  have hput (u : Nat) : (putBits old f.hi f.lo u).getLsbD i = old.getLsbD i := by
    rw [getLsbD_putBits _ _ _ _ _ hf.1, if_neg (by omega)]
    simp [h32]
  unfold fieldWrite
  split
  · rfl
  · cases f.kind <;> dsimp only
    case rw | rwl => split <;> simp only [hput]
    case w1c =>
      rw [BitVec.getLsbD_and, BitVec.getLsbD_not, BitVec.getLsbD_and, BitVec.getLsbD_and, hm]
      simp [h32]
    case w1s => simp [hm]

/-- A field after its own write, from the P view and in its turn, by its type. -/
theorem Fld.of_fieldWrite {f : Fld} (hf : f.ok = true) (old : Word) :
    f.of (fieldWrite true locked false hw v old f) =
      if f.kind = .rw ∧ f.isLegal (f.of v) = true then f.of v
      else if f.kind = .rwl ∧ locked = false ∧ f.isLegal (f.of v) = true then f.of v
      else if f.kind = .w1c then f.of (old &&& ~~~(v &&& ~~~hw))
      else if f.kind = .w1s then f.of (old ||| v)
      else f.of old := by
  have hm (i : Nat) (h1 : f.lo ≤ i) (h2 : i ≤ f.hi) : f.mask.getLsbD i = true := by
    simp [Fld.getLsbD_mask hf, h1, h2]
  unfold fieldWrite
  cases hk : f.kind
  case rw => by_cases hl : f.isLegal (f.of v) = true <;> simp [hl, Fld.of_putBits hf]
  case rwl =>
    cases locked <;> by_cases hl : f.isLegal (f.of v) = true <;> simp [hl, Fld.of_putBits hf]
  case w1c =>
    simp only [Bool.not_true, Bool.and_false]
    exact Fld.of_congr (fun i h1 h2 => by simp [hm i h1 h2]) hf
  case w1s => exact Fld.of_congr (fun i h1 h2 => by simp [hm i h1 h2]) hf
  case ro | wo | own => simp

/-! ## All fields of a write -/

/-- The fields' writes leave every bit that lies in none of them. -/
theorem foldl_fieldWrite_outside {fs : List Fld} (hok : ∀ f ∈ fs, f.ok = true) {i : Nat}
    (h : ∀ f ∈ fs, i < f.lo ∨ f.hi < i) (old : Word) :
    (fs.foldl (fieldWrite pview locked late hw v) old).getLsbD i = old.getLsbD i := by
  induction fs generalizing old with
  | nil => rfl
  | cons g fs ih =>
    rw [List.forall_mem_cons] at hok h
    rw [List.foldl_cons, ih hok.2 h.2, fieldWrite_getLsbD_outside _ _ _ _ _ hok.1 _ h.1]

/-- A field after the writes of all fields of its register is the field after its own write. -/
theorem foldl_fieldWrite_inside {fs : List Fld} (hok : FieldsOk fs) {f : Fld} (hf : f ∈ fs) {i : Nat} (h1 : f.lo ≤ i)
    (h2 : i ≤ f.hi) (old : Word) :
    (fs.foldl (fieldWrite pview locked late hw v) old).getLsbD i =
      (fieldWrite pview locked late hw v old f).getLsbD i := by
  obtain ⟨hok, hap⟩ := hok
  induction fs generalizing old with
  | nil => cases hf
  | cons g fs ih =>
    rw [List.forall_mem_cons] at hok
    rw [List.pairwise_cons] at hap
    rw [List.foldl_cons]
    rcases List.mem_cons.mp hf with rfl | hf
    · refine foldl_fieldWrite_outside _ _ _ _ _ hok.2 (fun g' hg => ?_) _
      have := Fld.apart_iff.mp (hap.1 g' hg)
      omega
    · have hg : i < g.lo ∨ g.hi < i := by
        have := Fld.apart_iff.mp (hap.1 f hf)
        omega
      rw [ih hf _ hok.2 hap.2]
      exact fieldWrite_getLsbD_congr _ _ _ _ _ (hok.2 f hf) (fieldWrite_getLsbD_outside _ _ _ _ _ hok.1 _ hg)

end

/-! ## A write by field types -/

/-- A P-view write by field types meets no P-only field. -/
theorem Dev.plain_pview (s : Dev) {acc : Acc} (d : RegDesc) (off : Nat) (v : Word) (h : acc.pview = true) :
    s.plain acc d off v =
      (s.setReg (reqOff d acc.req.val off) (s.written acc d off v)).noteWrite acc.req.val (reqOff d acc.req.val off) := by
  simp [Dev.plain, h]

/-- What a P-view write in its turn leaves in a register that no write clears. -/
theorem Dev.written_pview (s : Dev) {acc : Acc} {d : RegDesc} {off : Nat} (v : Word) (h : acc.pview = true)
    (hclr : d.clr = false) (hturn : s.outranked acc.req.val (reqOff d acc.req.val off) = false) :
    s.written acc d off v = d.fields.foldl
      (fieldWrite true (s.locked d) false (tabGet 0 s.hwSet (reqOff d acc.req.val off)) v)
      (s.reg (reqOff d acc.req.val off)) := by
  simp only [Dev.written, h, hclr, hturn]
  rfl

/-- Settles O6: the fields of a listed register share no bit, so that each stands after the write as its own type leaves
it. -/
theorem registerWriteByTypes : Obligations.RegisterWriteByTypes := by
  intro s acc off v r ix hon hport hfind hsaf hp hrole hclr heff a hturn
  obtain ⟨q, hq⟩ := Dev.busWrite_reaches v hport hfind hsaf hp hrole
  refine Does.of_go (f := (·.busWrite acc off.toNat v)) rfl hon ?_
  have hok := regFind_fieldsOk hfind
  let y : Dev := { s.dev with bus := ⟨.ok, 0⟩, duoSet := q }
  have hwrit : y.written acc r off.toNat v = r.fields.foldl
      (fieldWrite true (s.dev.locked r) false (tabGet 0 s.dev.hwSet a) v) (s.dev.reg a) :=
    y.written_pview v hp hclr hturn
  have hreg : ((y.setReg a (y.written acc r off.toNat v)).noteWrite acc.req.val a).reg a = r.fields.foldl
      (fieldWrite true (s.dev.locked r) false (tabGet 0 s.dev.hwSet a) v) (s.dev.reg a) :=
    (y.reg_setReg_same a _).trans hwrit
  show _ ∧ _
  rw [hq, heff, Dev.plain_pview _ _ _ _ hp]
  refine ⟨rfl, fun b hb => y.reg_setReg_other _ (by simpa using hb), fun f hf => ?_, fun i _ hi => ?_⟩
  · refine Eq.trans ?_ (Fld.of_fieldWrite _ _ _ (hok.1 f hf) (s.dev.reg a))
    rw [Dev.get, hreg]
    exact Fld.of_congr (fun i h1 h2 => foldl_fieldWrite_inside _ _ _ _ _ hok hf h1 h2 _) (hok.1 f hf)
  · rw [hreg]
    exact foldl_fieldWrite_outside _ _ _ _ _ hok.1 hi _

end Sys2Proof.Machine
end

section
/-! Pairs of registers (O7): latches, staging and a comparator's commit, per requester. -/

namespace Sys2Proof.Machine

/-! ## Latches and staging (R10) -/

/-- A read of the _LO half of a pair that has no latch of its own latches the _HI half for its requester, and answers. -/
theorem Dev.regAnswer_pair (s : Dev) (acc : Acc) {d : RegDesc} (ix : List Nat) {off : Nat} (hp : d.pair = true)
    (h1 : ownLatch off = false) (h2 : off ≠ A.TIME_NOW_LO) (h3 : off ≠ A.TIME_NOW_HI) (h4 : off ≠ A.AON_CAL_TICK)
    (h5 : d.base ≠ A.ANA_RES 0 0) (h6 : d.base ≠ A.ANA_RTS 0 0) :
    ∃ w, (∀ r' ix', regFind (off + 4) = some (r', ix') → w = s.regValue acc r' (ix.getD 0 0) (off + 4)) ∧
      s.regAnswer acc d ix off =
        { s with latch := tabPut none s.latch (reqKey acc.req.val (off + 4)) (some w) }.answerWord
          (s.regValue acc d (ix.getD 0 0) off) := by
  cases h : regFind (off + 4) with
  | none => exact ⟨0, by simp, by simp [Dev.regAnswer, h1, h2, h3, h4, h5, h6, hp, h]⟩
  | some p =>
    refine ⟨s.regValue acc p.1 (ix.getD 0 0) (off + 4), ?_, ?_⟩
    · rintro r' ix' ⟨⟩
      rfl
    · simp [Dev.regAnswer, h1, h2, h3, h4, h5, h6, hp, h]

/-- What a requester stages is its own: another key of the staging keeps its value. -/
theorem Dev.stageLo_does (s : Dev) (req off : Nat) (v : Word) :
    s.stageLo req off v = { s with staged := (s.stageLo req off v).staged, bus := ⟨.ok, 0⟩ } ∧
      tabGet none (s.stageLo req off v).staged (reqKey req off) = some v ∧
      ∀ k, k ≠ reqKey req off → tabGet none (s.stageLo req off v).staged k = tabGet none s.staged k :=
  ⟨rfl, tabGet_put_same none s.staged (reqKey req off) (some v), fun _ hk => tabGet_put_other none none s.staged (some v) hk⟩

/-- READ_LO_LATCH on the _LO half of a pair is its read. -/
theorem execReadLoLatch_pair (req : Fin 15) (s : State) {off : BitVec 26} {r : RegDesc} {ix : List Nat}
    (hfind : regFind off.toNat = some (r, ix)) (hpair : r.pair = true) :
    exec (.readLoLatch req off) s = s.go (·.regAnswer ⟨req, true⟩ r ix off.toNat) := by
  show execReadLoLatch _ _ _ = _
  simp [execReadLoLatch, hfind, hpair]

/-- STAGE_LO on the _LO half of a pair stages it. -/
theorem execStageLo_pair (req : Fin 15) (v : Word) (s : State) {off : BitVec 26} {r : RegDesc} {ix : List Nat}
    (hfind : regFind off.toNat = some (r, ix)) (hpair : r.pair = true) :
    exec (.stageLo req off v) s = s.go (·.stageLo req.val off.toNat v) := by
  show execStageLo _ _ _ _ = _
  simp [execStageLo, regAt, hfind, hpair]

/-! ## The commit of a comparator (R41, R42) -/

/-- The registers of the comparators' instants, as the register tables list them. -/
def ttCmpLo : RegDesc := ⟨0x581004, [(64, 32)], false, .ret, none, false, true, false, [F.TIME_TT_CMP_LO_CMP]⟩
def ttCmpHi : RegDesc := ⟨0x581008, [(64, 32)], false, .ret, none, false, false, false, [F.TIME_TT_CMP_HI_CMP]⟩

theorem regFind_ttCmpLo : ∀ n : Fin 64, regFind (A.TIME_TT_CMP_LO n) = some (ttCmpLo, [n.val]) := by decide +kernel
theorem regFind_ttCmpHi : ∀ n : Fin 64, regFind (A.TIME_TT_CMP_LO n + 4) = some (ttCmpHi, [n.val]) := by decide +kernel

/-- A write of the time unit's offsets has the time unit's effect. -/
theorem Dev.regEffect_time (s : Dev) (acc : Acc) (d : RegDesc) (i j : Nat) {off : Nat} (v : Word) (h1 : 0x580000 ≤ off)
    (h2 : off < 0x5C0000) : s.regEffect acc d i j off v = s.timeWrite acc d i off v := by
  unfold Dev.regEffect
  simp (disch := omega) only [if_neg, if_pos]

/-- The _HI write of a comparator commits its pair. -/
theorem Dev.timeWrite_ttCmpHi (s : Dev) (acc : Acc) (n : Fin 64) (i : Nat) (v : Word) :
    s.timeWrite acc ttCmpHi i (A.TIME_TT_CMP_LO n + 4) v = s.commitHi acc.req.val (A.TIME_TT_CMP_LO n + 4) v := by
  have hc : A.TIME_TT_CMP_LO n + 4 ≠ A.TIME_CTL := by simp only [A.TIME_TT_CMP_LO, A.TIME_CTL]; omega
  have ha : A.TIME_TT_CMP_LO n + 4 ≠ A.TIME_ADDEND_LO := by simp only [A.TIME_TT_CMP_LO, A.TIME_ADDEND_LO]; omega
  have hs : A.TIME_TT_CMP_LO n + 4 ≠ A.TIME_STEP_LO := by simp only [A.TIME_TT_CMP_LO, A.TIME_STEP_LO]; omega
  have hl : ttCmpHi.base ≠ A.TIME_TT_CMP_LO 0 := by decide
  have hh : ttCmpHi.base = A.TIME_TT_CMP_HI 0 := rfl
  simp only [Dev.timeWrite, hc, ha, hs, hl, if_false, decide_false, Bool.or_false, Bool.false_eq_true]
  simp [hh]

/-- A whole word put into a word is that word. -/
theorem putBits_word (old w : Word) : putBits old 31 0 (bitsOf w 31 0) = w := by
  refine BitVec.eq_of_getLsbD_eq fun i hi => ?_
  rw [getLsbD_putBits _ _ _ _ _ (by omega), if_pos (by omega), testBit_bitsOf]
  simp [hi]

/-- The commit of a comparator's pair: both halves at once, with the requester's staged low half, which it consumes. -/
theorem Dev.commitPair_ttCmp (s : Dev) (req : Nat) (n : Fin 64) (v : Word) :
    s.commitPair req (A.TIME_TT_CMP_LO n) v =
      (({ s with staged := tabPut none s.staged (reqKey req (A.TIME_TT_CMP_LO n)) none }.setReg (A.TIME_TT_CMP_LO n)
        ((tabGet none s.staged (reqKey req (A.TIME_TT_CMP_LO n))).getD (s.reg (A.TIME_TT_CMP_LO n)))).setReg
          (A.TIME_TT_CMP_LO n + 4) v) := by
  have hl : regAt (A.TIME_TT_CMP_LO n) = some ttCmpLo := by simp [regAt, regFind_ttCmpLo]
  have hh : regAt (A.TIME_TT_CMP_LO n + 4) = some ttCmpHi := by simp [regAt, regFind_ttCmpHi]
  have fl (old w : Word) : ttCmpLo.fields.foldl (fun old f => putBits old f.hi f.lo (f.of w)) old = w := putBits_word old w
  have fh (old w : Word) : ttCmpHi.fields.foldl (fun old f => putBits old f.hi f.lo (f.of w)) old = w := putBits_word old w
  simp only [Dev.commitPair, Dev.takeStaged, hl, hh, fl, fh]

/-- The commit of a comparator: its pair, MISS cleared, and the judgement for LATE. -/
theorem Dev.commitHi_ttCmp (s : Dev) (req : Nat) (n : Fin 64) (v : Word) :
    s.commitHi req (A.TIME_TT_CMP_LO n + 4) v =
      ((((s.noteWrite req (A.TIME_TT_CMP_LO n + 4)).commitPair req (A.TIME_TT_CMP_LO n) v).setReg
        (A.TIME_TT_MISS n) 0).ttJudgeLate n) := by
  have ha : A.TIME_TT_CMP_LO n + 4 ≠ A.TIME_ADDEND_HI := by simp only [A.TIME_TT_CMP_LO, A.TIME_ADDEND_HI]; omega
  have hs : A.TIME_TT_CMP_LO n + 4 ≠ A.TIME_STEP_HI := by simp only [A.TIME_TT_CMP_LO, A.TIME_STEP_HI]; omega
  have hc : A.TIME_TT_CMP_LO n + 4 ≠ A.AON_CAL_SEC_HI := by simp only [A.TIME_TT_CMP_LO, A.AON_CAL_SEC_HI]; omega
  have hl : regAt (A.TIME_TT_CMP_LO n) = some ttCmpLo := by simp [regAt, regFind_ttCmpLo]
  have hp : (!ttCmpLo.pair || !(ttCmpLo.fields.any fun f => f.kind == .own)) = false := by decide
  have hr : (decide (0x581000 ≤ A.TIME_TT_CMP_LO n) && decide (A.TIME_TT_CMP_LO n < 0x581800)) = true := by
    rw [Bool.and_eq_true, decide_eq_true_eq, decide_eq_true_eq, A.TIME_TT_CMP_LO]
    omega
  have hn : (A.TIME_TT_CMP_LO n - 0x581000) / 0x20 = n := by simp only [A.TIME_TT_CMP_LO]; omega
  simp only [Dev.commitHi, ha, hs, hc, if_false, Nat.add_sub_cancel, hl, hp, hr, hn, if_true, Bool.false_eq_true]

/-- The halves of a comparator's instant and its count of misses are three registers. -/
theorem ttCmp_apart (n : Nat) :
    A.TIME_TT_CMP_LO n + 4 ≠ A.TIME_TT_CMP_LO n ∧ A.TIME_TT_MISS n ≠ A.TIME_TT_CMP_LO n ∧
      A.TIME_TT_MISS n ≠ A.TIME_TT_CMP_LO n + 4 := by
  simp only [A.TIME_TT_CMP_LO, A.TIME_TT_MISS]
  omega

@[simp] theorem Dev.reg_ttJudgeLate (s : Dev) (n a : Nat) : (s.ttJudgeLate n).reg a = s.reg a := rfl

/-- The registers after the commit of a comparator. -/
theorem Dev.reg_commitHi_ttCmp (s : Dev) (req : Nat) (n : Fin 64) (v : Word) (a : Nat) :
    (s.commitHi req (A.TIME_TT_CMP_LO n + 4) v).reg a =
      if a = A.TIME_TT_MISS n then 0
      else if a = A.TIME_TT_CMP_LO n + 4 then v
      else if a = A.TIME_TT_CMP_LO n then
        (tabGet none s.staged (reqKey req (A.TIME_TT_CMP_LO n))).getD (s.reg (A.TIME_TT_CMP_LO n))
      else s.reg a := by
  rw [Dev.commitHi_ttCmp, Dev.commitPair_ttCmp]
  rw [Dev.reg_ttJudgeLate]
  split
  case isTrue h => rw [h, Dev.reg_setReg_same]
  case isFalse h =>
    rw [Dev.reg_setReg_other _ _ h]
    split
    case isTrue h => rw [h, Dev.reg_setReg_same]
    case isFalse h =>
      rw [Dev.reg_setReg_other _ _ h]
      split
      case isTrue h =>
        rw [h, Dev.reg_setReg_same]
        rfl
      case isFalse h =>
        rw [Dev.reg_setReg_other _ _ h]
        rfl

/-- The commit of a comparator changes registers, its requester's staging and the judgement for LATE. -/
theorem Dev.commitHi_ttCmp_frame (s : Dev) (req : Nat) (n : Fin 64) (v : Word) :
    let d := s.commitHi req (A.TIME_TT_CMP_LO n + 4) v
    d = { s with regs := d.regs, staged := tabPut none s.staged (reqKey req (A.TIME_TT_CMP_LO n)) none,
                 swWrote := d.swWrote, time := { s.time with late := d.time.late } } := by
  dsimp only
  rw [Dev.commitHi_ttCmp, Dev.commitPair_ttCmp]
  rfl

/-- COMMIT_HI on a comparator is the write of its _HI register. -/
theorem execCommitHi_ttCmp (acc : Acc) (n : Fin 64) (v : Word) (s : State) :
    exec (.commitHi acc (BitVec.ofNat 26 (A.TIME_TT_CMP_LO n + 4)) v) s =
      s.go (·.busWrite acc (A.TIME_TT_CMP_LO n + 4) v) := by
  have ho : (BitVec.ofNat 26 (A.TIME_TT_CMP_LO n + 4)).toNat = A.TIME_TT_CMP_LO n + 4 := by
    rw [BitVec.toNat_ofNat, Nat.mod_eq_of_lt]
    simp only [A.TIME_TT_CMP_LO]
    omega
  have hl : regAt (A.TIME_TT_CMP_LO n) = some ttCmpLo := by simp [regAt, regFind_ttCmpLo]
  have hp : ttCmpLo.pair = true := rfl
  show execCommitHi _ _ _ _ = _
  simp [execCommitHi, ho, hl, hp]

/-- Settles O7: each requester has keys of its own in the tables of latches and of staging. -/
theorem pairsPerRequester : Obligations.PairsPerRequester := by
  intro s req off v hon
  refine ⟨fun r ix hfind hpair => ⟨fun h1 h2 h3 h4 h5 h6 => ?_, ?_⟩, fun n hport hrole => ?_⟩
  · obtain ⟨w, hw, he⟩ := s.dev.regAnswer_pair ⟨req, true⟩ ix hpair h1 h2 h3 h4 h5 h6
    refine Does.of_go (execReadLoLatch_pair req s hfind hpair) hon ?_
    dsimp only
    rw [he]
    refine ⟨rfl, rfl, fun r' ix' h => ?_, fun k hk => tabGet_put_other none none s.dev.latch (some w) hk⟩
    rw [← hw r' ix' h]
    exact tabGet_put_same none s.dev.latch (reqKey req (off.toNat + 4)) (some w)
  · exact Does.of_go (execStageLo_pair req v s hfind hpair) hon (s.dev.stageLo_does ..)
  · intro lo
    have hsaf : isSaf (lo + 4) = false := by
      simp only [isSaf, lo, A.TIME_TT_CMP_LO, Bool.and_eq_false_iff, decide_eq_false_iff_not]
      omega
    obtain ⟨q, hq⟩ := Dev.busWrite_reaches (acc := ⟨req, true⟩) v hport (regFind_ttCmpHi n) hsaf rfl hrole
    have hlo : 0x580000 ≤ lo + 4 ∧ lo + 4 < 0x5C0000 := by simp only [lo, A.TIME_TT_CMP_LO]; omega
    obtain ⟨h1, h2, h3⟩ := ttCmp_apart n
    rw [Dev.regEffect_time _ _ _ _ _ _ hlo.1 hlo.2, Dev.timeWrite_ttCmpHi] at hq
    let y : Dev := { s.dev with bus := ⟨.ok, 0⟩, duoSet := q }
    have hreg : ∀ a, (y.commitHi req (lo + 4) v).reg a = _ := y.reg_commitHi_ttCmp req n v
    have hf := y.commitHi_ttCmp_frame req n v
    refine Does.of_go (execCommitHi_ttCmp _ n v s) hon ?_
    show _ ∧ _
    rw [hq]
    refine ⟨?_, ?_, ?_, ?_, fun k hk => ?_, fun a ha => ?_⟩
    · rw [hf]
    · unfold Dev.pair
      rw [hreg, hreg, if_neg h3.symm, if_pos rfl, if_neg h2.symm, if_neg h1.symm, if_pos rfl]
      rfl
    · rw [hreg, if_pos rfl]
    · rw [hf]
      exact tabGet_put_same none s.dev.staged (reqKey req lo) none
    · rw [hf]
      exact tabGet_put_other none none s.dev.staged none hk
    · simp only [List.mem_cons, List.not_mem_nil, or_false, not_or] at ha
      obtain ⟨ha1, ha2, ha3⟩ := ha
      rw [hreg, if_neg ha3, if_neg ha2, if_neg ha1]
      rfl

end Sys2Proof.Machine
end

section
/-! Accesses through the bank window (O14). -/

namespace Sys2Proof.Machine

/-! ## Writes within a good line (R59) -/

/-- A write of a whole line, or of a part of a good one, stores its bytes; the line holds no error and no poison then, and
no other line's poison changes. -/
theorem Dev.writeMem_good (s : Dev) (a : Nat) (bs : List Byte) (hp : s.poisoned (lineOf a) = false)
    (he : s.lineErrs (lineOf a) = 0) (hal : bs.length = 16 → a % 16 = 0) :
    ∃ po, s.writeMem a bs = ({ s with mem := (s.putBytes a bs).mem,
                                      pool := { s.pool with errs := tabPut 0 s.pool.errs (lineOf a) 0, poison := po } }, true) ∧
      tabGet false po (lineOf a) = false ∧ ∀ l, l ≠ lineOf a → tabGet false po l = tabGet false s.pool.poison l := by
  by_cases h : bs.length = 16
  · have hl : lineOf a * 16 = a := by
      have := hal h
      simp only [lineOf]
      omega
    refine ⟨tabPut false s.pool.poison (lineOf a) false, ?_, tabGet_put_same .., fun l hl => tabGet_put_other _ _ _ _ hl⟩
    simp only [Dev.writeMem, h, if_true, Dev.putLine, hl]
    rw [s.putBytes_eq a bs]
  · refine ⟨s.pool.poison, ?_, hp, fun l _ => rfl⟩
    simp only [Dev.writeMem, h, if_false, s.checkLine_good _ hp he, Dev.setErrs, Dev.onPool]
    rw [s.putBytes_eq a bs]

/-! ## Window accesses (R63, R64) -/

/-- A right that a window access needs: 1 to read, 2 to write. -/
def windowNeed (data : Option (BitVec 128)) : Nat := if data.isSome then 2 else 1

section
variable {s : Dev} (acc : Acc) (addr size : Nat) (data : Option (BitVec 128)) (same : Bool)

/-- An access without the right is refused with an error response and counted. -/
theorem Dev.windowAccess_denied (h : s.winRights acc.pview (bankOfAddr (addr - 0x1000000)) < windowNeed data) :
    s.windowAccess acc addr size data same = (s.undefinedResp acc.req.val).count A.MEM_WDENY F.MEM_WDENY_COUNT 1 := by
  unfold windowNeed at h
  simp only [Dev.windowAccess, h, if_true]

/-- An access with the right, of no standby and no synced pair, is granted. -/
theorem Dev.windowAccess_granted (h : windowNeed data ≤ s.winRights acc.pview (bankOfAddr (addr - 0x1000000)))
    (hrole : s.roleStandby = false) (hsync : s.syncedAs 1 = false) :
    s.windowAccess acc addr size data same = s.grantWindow ⟨acc, addr - 0x1000000, size, data⟩ same := by
  cases data with
  | none =>
    have hn : ¬ s.winRights acc.pview (bankOfAddr (addr - 0x1000000)) < 1 := Nat.not_lt.mpr h
    simp [Dev.windowAccess, hn]
  | some v =>
    have hn : ¬ s.winRights acc.pview (bankOfAddr (addr - 0x1000000)) < 2 := Nat.not_lt.mpr h
    simp [Dev.windowAccess, hn, hrole, s.collectWindow_alone _ _ _ _ hsync]

variable (a : Nat)

/-- A granted access of a bank under a wipe waits. -/
theorem Dev.grantWindow_waits (h : s.wiping (bankOfAddr a) = true) :
    s.grantWindow ⟨acc, a, size, data⟩ same =
      { s with pool := { s.pool with waiting := s.pool.waiting ++ [⟨acc, a, size, data⟩] } } := by
  simp only [Dev.grantWindow, h, if_true, Dev.onPool]

/-- A granted read of a good line answers its bytes. -/
theorem Dev.grantWindow_read (hw : s.wiping (bankOfAddr a) = false) (hp : s.poisoned (lineOf a) = false)
    (he : s.lineErrs (lineOf a) = 0) :
    s.grantWindow ⟨acc, a, size, none⟩ same = { s with bus := ⟨.ok, BitVec.ofNat 128 (leNat (s.bytes a size))⟩ } := by
  simp [Dev.grantWindow, hw, Dev.serveWindow, Dev.readMem, s.checkLine_good _ hp he, Dev.dataAt, he, Dev.answer]

/-- A granted write of a good line stores its bytes and answers. -/
theorem Dev.grantWindow_write (v : BitVec 128) (hw : s.wiping (bankOfAddr a) = false) {t : Dev}
    (hm : s.writeMem a (leBytes size v.toNat) = (t, true)) (hsync : t.syncedAs 1 = false) (hport : t.pool.portA = none) :
    s.grantWindow ⟨acc, a, size, some v⟩ same = { t with bus := ⟨.ok, 0⟩ } := by
  have hs : (t.answer .ok 0).syncedAs 1 = false := hsync
  have hq : (t.answer .ok 0).pool.portA = none := hport
  simp only [Dev.grantWindow, hw, Dev.serveWindow, hm, Dev.mirrorWindow_alone _ _ hs, hq, if_false, Bool.false_eq_true]
  rfl

end

theorem exec_windowAccess (acc : Acc) (addr : BitVec 26) (size : Fin 17) (data : Option (BitVec 128)) (same : Bool)
    (s : State) : exec (.windowAccess acc addr size data same) s = execWindowAccess acc addr size data same s := rfl

/-- WINDOW_ACCESS of a size and offset that R9 allows, on an enabled port. -/
theorem Does.windowAccess {s : State} {acc : Acc} {addr : BitVec 26} {size : Fin 17} {data : Option (BitVec 128)}
    {same : Bool} {P : Dev → Prop} (hon : s.dev.on = true) (hport : s.dev.portOn acc.req.val = true)
    (hok : winAccOk addr.toNat size = true) (h : P (s.dev.windowAccess acc addr.toNat size data same)) :
    Does (.windowAccess acc addr size data same) s P := by
  refine ⟨_, (exec_windowAccess ..).trans (State.go_on s _ hon), ?_⟩
  simpa only [hport, hok, Bool.not_true, Bool.false_eq_true, if_false, if_true] using h

/-- A whole line that is accessed lies on a line's boundary of the pool. -/
theorem winAccOk_aligned {addr : Nat} (h : winAccOk addr 16 = true) : (addr - 0x1000000) % 16 = 0 := by
  simp only [winAccOk, Bool.and_eq_true, beq_iff_eq, decide_eq_true_eq] at h
  omega

/-- Settles O14: a granted read answers from the good line, a granted write is one write of its line. -/
theorem windowAccess : Obligations.WindowAccess := by
  intro s acc addr size v same hon hport hok hrole hsync hportA a b x right
  refine ⟨fun hw hp he => ⟨fun hr => ?_, fun hr => ?_⟩, fun data hr => ?_, fun hw hr => ?_⟩ <;>
    refine Does.windowAccess hon hport hok ?_
  · rw [Dev.windowAccess_granted _ _ _ none _ hr hrole hsync]
    exact Dev.grantWindow_read _ _ _ _ hw hp he
  · rw [Dev.windowAccess_granted _ _ _ (some v) _ hr hrole hsync]
    have hal : (leBytes size v.toNat).length = 16 → a % 16 = 0 := by
      intro h
      rw [leBytes_length] at h
      exact winAccOk_aligned (h ▸ hok)
    obtain ⟨po, hm, hpo, hpo'⟩ := x.writeMem_good a (leBytes size v.toNat) hp he hal
    rw [Dev.grantWindow_write _ _ _ _ v hw hm hsync hportA]
    refine ⟨rfl, fun i hi => ?_, fun k hk => ?_, ?_, hpo, fun hc => ⟨?_, hc.2⟩, fun l hl => ⟨?_, hpo' l hl⟩⟩
    · have hi' : i < (leBytes size v.toNat).length := by rwa [leBytes_length]
      exact (x.byte_putBytes_at _ _ _ hi').trans (getElem_leBytes _ _ _ hi')
    · exact x.byte_putBytes_other _ _ _ (by simpa using hk)
    · exact tabGet_put_same 0 x.pool.errs (lineOf a) 0
    · exact x.wf_putBytes _ _ hc.1
    · exact tabGet_put_other 0 0 x.pool.errs 0 hl
  · rw [Dev.windowAccess_denied _ _ _ _ _ hr]
    refine ⟨rfl, ?_, fun k hk => ?_⟩
    · exact Dev.get_count_same _ _ _ _ (by decide)
    · exact Dev.reg_set_other _ _ _ (by simpa using hk)
  · rw [Dev.windowAccess_granted _ _ _ none _ hr hrole hsync]
    exact Dev.grantWindow_waits _ _ _ _ _ hw

end Sys2Proof.Machine
end

section
/-! Accesses that are refused: offsets that are not listed, and violations of the U view (O8, O9). -/

namespace Sys2Proof.Machine

/-! ## A violation (R23, R24) -/

/-- A record that is offered leaves the registers. -/
@[simp] theorem Dev.reg_offer (s : Dev) (src base : Nat) (ev : Ev) (a : Nat) : (s.offer src base ev).reg a = s.reg a := rfl

/-- COUNT and SYS_UVIOL_LAST are two registers. -/
theorem uviolCnt_ne_last : A.SYS_UVIOL_CNT ≠ A.SYS_UVIOL_LAST := by decide

section
variable (s : Dev) (off : Nat) (write : Bool)

/-- The registers after a violation: COUNT counts up, and SYS_UVIOL_LAST takes the access. -/
theorem Dev.reg_violation (a : Nat) :
    (s.violation off write).reg a =
      (((s.count A.SYS_UVIOL_CNT F.SYS_UVIOL_CNT_COUNT 1).setBit A.SYS_UVIOL_LAST F.SYS_UVIOL_LAST_WR write).set
        A.SYS_UVIOL_LAST F.SYS_UVIOL_LAST_OFFSET off).reg a := rfl

theorem Dev.uviolCount_violation :
    (s.violation off write).get A.SYS_UVIOL_CNT F.SYS_UVIOL_CNT_COUNT =
      min (s.get A.SYS_UVIOL_CNT F.SYS_UVIOL_CNT_COUNT + 1)
        (2 ^ (F.SYS_UVIOL_CNT_COUNT.hi - F.SYS_UVIOL_CNT_COUNT.lo + 1) - 1) := by
  rw [Dev.get, Dev.reg_violation, Dev.reg_set_other _ _ _ uviolCnt_ne_last, Dev.setBit,
    Dev.reg_set_other _ _ _ uviolCnt_ne_last]
  exact s.get_count_same _ _ _ (by decide)

theorem Dev.uviolOffset_violation (h : off < 2 ^ 26) :
    (s.violation off write).get A.SYS_UVIOL_LAST F.SYS_UVIOL_LAST_OFFSET = off :=
  Dev.get_set_same _ _ _ _ (by decide) h

theorem Dev.uviolWr_violation : (s.violation off write).bit A.SYS_UVIOL_LAST F.SYS_UVIOL_LAST_WR = write := by
  have hwr : (s.violation off write).get A.SYS_UVIOL_LAST F.SYS_UVIOL_LAST_WR = if write then 1 else 0 := by
    rw [Dev.get, Dev.reg_violation]
    refine (Dev.get_set_field _ _ _ _ _ (by decide) (by decide) (by decide)).trans ?_
    exact Dev.get_set_same _ _ _ _ (by decide) (by cases write <;> decide)
  rw [Dev.bit, hwr]
  cases write <;> rfl

/-- A violation writes its two registers alone. -/
theorem Dev.violation_regsKept : s.RegsKept (s.violation off write) [A.SYS_UVIOL_CNT, A.SYS_UVIOL_LAST] := by
  intro a ha
  simp only [List.mem_cons, List.not_mem_nil, or_false, not_or] at ha
  obtain ⟨hcnt, hlast⟩ := ha
  rw [Dev.reg_violation, Dev.reg_set_other _ _ _ hlast, Dev.setBit, Dev.reg_set_other _ _ _ hlast, Dev.count,
    Dev.reg_set_other _ _ _ hcnt]

/-- A violation is counted among those of its tick. -/
theorem Dev.uviolTick_violation :
    tabGet 0 (s.violation off write).hwSet A.SYS_UVIOL_CNT = tabGet 0 s.hwSet A.SYS_UVIOL_CNT + 1 :=
  tabGet_put_same 0 s.hwSet A.SYS_UVIOL_CNT _

/-- Beside its registers a violation counts among those of the tick and offers a record. -/
theorem Dev.violation_frame :
    ∃ o : Offer, o.src = 0x40 ∧
      s.violation off write =
        { s with regs := (s.violation off write).regs, free := s.free + 1,
                 hwSet := tabPut 0 s.hwSet A.SYS_UVIOL_CNT (tabGet 0 s.hwSet A.SYS_UVIOL_CNT + 1),
                 scribe := { s.scribe with offers := s.scribe.offers ++ [o] } } :=
  ⟨_, rfl, rfl⟩

end

/-- U_VIEW_VIOLATION on a register that the U view does not reach is a violation, answered with 0. -/
theorem execUViewViolation_unreached (req : Fin 15) (write : Bool) (s : State) {off : BitVec 26} {r : RegDesc}
    {ix : List Nat} (hfind : regFind off.toNat = some (r, ix)) (hreach : uReach r off.toNat = false) :
    exec (.uViewViolation req off write) s = s.go fun d => (d.violation off.toNat write).answer .ok 0 := by
  show execUViewViolation _ _ _ _ = _
  simp [execUViewViolation, regAt, hfind, hreach]

/-! ## Offsets that are not listed (R22) -/

/-- UNDEFINED_ACCESS outside the bank window, on an offset that is not listed, gets the error response. -/
theorem execUndefinedAccess_unlisted (acc : Acc) (size : Nat) (write : Bool) (s : State) {off : BitVec 26}
    (hfind : regFind off.toNat = none) (hwin : off.toNat < 0x1000000 ∨ 0x3800000 ≤ off.toNat) :
    exec (.undefinedAccess acc off size write) s = s.go (·.undefinedResp acc.req.val) := by
  have hw : ¬ (0x1000000 ≤ off.toNat ∧ off.toNat < 0x3800000) := by omega
  show execUndefinedAccess _ _ _ write _ = _
  simp [execUndefinedAccess, regAt, hfind, hw]

/-- Settles O8: an unlisted offset answers the error alone; a violation is counted, noted and offered, and answers 0. -/
theorem refusedAccesses : Obligations.RefusedAccesses := by
  intro s off write hon
  refine ⟨fun acc size hfind hwin => ?_, fun req r ix hfind hreach => ?_⟩
  · exact Does.of_go (execUndefinedAccess_unlisted acc size write s hfind hwin) hon rfl
  · refine Does.of_go (execUViewViolation_unreached req write s hfind hreach) hon ?_
    obtain ⟨o, hsrc, hframe⟩ := s.dev.violation_frame off.toNat write
    refine ⟨rfl, s.dev.uviolCount_violation .., s.dev.uviolOffset_violation _ _ off.isLt, s.dev.uviolWr_violation ..,
      ⟨o, hsrc, ?_⟩, s.dev.violation_regsKept off.toNat write⟩
    rw [hframe]
    rfl

/-! ## The clear (R24) -/

/-- With no violation on its tick a clear clears both registers. -/
theorem Dev.uviolClr_alone {s : Dev} (h : tabGet 0 s.hwSet A.SYS_UVIOL_CNT = 0) :
    s.uviolClr = (s.setReg A.SYS_UVIOL_CNT 0).setReg A.SYS_UVIOL_LAST 0 := if_pos h

/-- The violations of its own tick come after a clear: COUNT is theirs, and the last access stands. -/
theorem Dev.uviolClr_counted {s : Dev} (h : tabGet 0 s.hwSet A.SYS_UVIOL_CNT ≠ 0) :
    s.uviolClr = s.setReg A.SYS_UVIOL_CNT (tabGet 0 s.hwSet A.SYS_UVIOL_CNT) := if_neg h

/-- A clear changes registers alone. -/
theorem Dev.uviolClr_frame (s : Dev) : s.uviolClr = { s with regs := s.uviolClr.regs } := by
  by_cases h : tabGet 0 s.hwSet A.SYS_UVIOL_CNT = 0
  · rw [Dev.uviolClr_alone h]
    rfl
  · rw [Dev.uviolClr_counted h]
    rfl

@[simp] theorem Dev.on_uviolClr (s : Dev) : s.uviolClr.on = s.on := by
  rw [Dev.uviolClr_frame]
  rfl

section
variable {s : Dev}

theorem Dev.uviolCnt_uviolClr (h : tabGet 0 s.hwSet A.SYS_UVIOL_CNT = 0) : s.uviolClr.reg A.SYS_UVIOL_CNT = 0 := by
  rw [Dev.uviolClr_alone h, Dev.reg_setReg_other _ _ uviolCnt_ne_last, Dev.reg_setReg_same]

theorem Dev.uviolLast_uviolClr (h : tabGet 0 s.hwSet A.SYS_UVIOL_CNT = 0) : s.uviolClr.reg A.SYS_UVIOL_LAST = 0 := by
  rw [Dev.uviolClr_alone h, Dev.reg_setReg_same]

theorem Dev.uviolClr_regsKept (h : tabGet 0 s.hwSet A.SYS_UVIOL_CNT = 0) :
    s.RegsKept s.uviolClr [A.SYS_UVIOL_CNT, A.SYS_UVIOL_LAST] := by
  intro a ha
  simp only [List.mem_cons, List.not_mem_nil, or_false, not_or] at ha
  rw [Dev.uviolClr_alone h, Dev.reg_setReg_other _ _ ha.2, Dev.reg_setReg_other _ _ ha.1]

end

theorem exec_uviolClr (s : State) : exec .uviolClr s = s.go Dev.uviolClr := rfl

/-- Settles O9: a clear before the violation leaves 0 to count from; one after it puts the tick's own count, 1. -/
theorem violationClearComesFirst : Obligations.ViolationClearComesFirst := by
  intro s req off write r ix hon hhw hfind hreach
  refine ⟨Does.of_go (exec_uviolClr s) hon ⟨Dev.uviolCnt_uviolClr hhw, Dev.uviolLast_uviolClr hhw, s.dev.uviolClr_frame,
    Dev.uviolClr_regsKept hhw, ?_⟩, ?_⟩
  · refine Does.of_go (execUViewViolation_unreached req write _ hfind hreach) (s.dev.on_uviolClr.trans hon) ⟨?_, ?_⟩
    · have hcount := s.dev.uviolClr.uviolCount_violation off.toNat write
      rw [Dev.get, Dev.get, Dev.uviolCnt_uviolClr hhw] at hcount
      exact hcount
    · exact Dev.uviolOffset_violation _ _ _ off.isLt
  · let y := (s.dev.violation off.toNat write).answer .ok 0
    have htick : tabGet 0 y.hwSet A.SYS_UVIOL_CNT = 1 := by
      rw [Dev.answer_hwSet, Dev.uviolTick_violation, hhw]
      rfl
    have hclr : y.uviolClr = y.setReg A.SYS_UVIOL_CNT 1 := by
      rw [Dev.uviolClr_counted (by rw [htick]; decide), htick]
    refine Does.of_go (execUViewViolation_unreached req write s hfind hreach) hon ?_
    refine Does.of_go (exec_uviolClr _) hon ?_
    show y.uviolClr.get _ _ = 1 ∧ y.uviolClr.get _ _ = off.toNat
    rw [hclr]
    refine ⟨?_, ?_⟩
    · rw [Dev.get, Dev.reg_setReg_same]
      decide
    · rw [Dev.get, Dev.reg_setReg_other _ _ uviolCnt_ne_last.symm]
      exact s.dev.uviolOffset_violation _ write off.isLt

end Sys2Proof.Machine
end

section
/-! Evaluations and ramps of sequencer contexts (O41). -/

namespace Sys2Proof.Machine

/-! ## What reading a program changes (R57, R58, R208) -/

/-- `d` stands as reads of bank memory may leave `s`: they count and record errors and poison lines, and touch nothing else. -/
def Dev.ReadsTo (s d : Dev) : Prop := d = { s with regs := d.regs, free := d.free, scribe := d.scribe, pool := d.pool }

theorem Dev.ReadsTo.refl (s : Dev) : s.ReadsTo s := rfl

theorem Dev.ReadsTo.trans {s t u : Dev} (h : s.ReadsTo t) (k : t.ReadsTo u) : s.ReadsTo u := by
  unfold Dev.ReadsTo at *
  rw [k, h]

theorem Dev.ReadsTo.ctxs {s d : Dev} (h : s.ReadsTo d) : d.ctxs = s.ctxs := by
  rw [Dev.ReadsTo] at h
  rw [h]

theorem Dev.correctedRead_readsTo (s : Dev) (l : Nat) : s.ReadsTo (s.correctedRead l) := by
  unfold Dev.correctedRead
  dsimp only
  split <;> rfl

theorem Dev.checkLine_readsTo (s : Dev) (l : Nat) : s.ReadsTo (s.checkLine l).1 := by
  unfold Dev.checkLine
  split
  · exact .refl s
  · cases lineFind l (s.lineErrs l) with
    | good => exact .refl s
    | wrong => exact .refl s
    | corrected => exact s.correctedRead_readsTo l
    | uncorrectable => rfl

theorem Dev.readMem_readsTo (s : Dev) (a n : Nat) : s.ReadsTo (s.readMem a n).1 := by
  have h := s.checkLine_readsTo (lineOf a)
  unfold Dev.readMem
  split <;> (rename_i e; rwa [e] at h)

/-- The words of a program are read one after another. -/
theorem Dev.progWords_readsTo (n p k : Nat) : ∀ (s : Dev) (w : Nat), s.ReadsTo (s.progWords n p w k).1 := by
  induction k with
  | zero => exact fun s _ => .refl s
  | succ k ih =>
    intro s w
    unfold Dev.progWords
    split
    · exact .refl s
    · next q _ =>
      have hr := s.readMem_readsTo (q * 4096 + 4 * w) 4
      split
      · next t e =>
        rwa [e] at hr
      · next t v e =>
        rw [e] at hr
        have ht := ih t (w + 1)
        split
        · next u ws e' =>
          rw [e'] at ht
          exact hr.trans ht
        · exact hr.trans ht

theorem Dev.header_readsTo (s : Dev) (n : Nat) : s.ReadsTo (s.header n).1 := by
  have h := Dev.progWords_readsTo n 0 16 s 0
  unfold Dev.header
  split <;> (rename_i e; rwa [e] at h)

/-- The place of a step is read from the header and the step table. -/
theorem Dev.stepPlace_readsTo (s : Dev) (n k : Nat) : s.ReadsTo (s.stepPlace n k).1 := by
  have hh := s.header_readsTo n
  unfold Dev.stepPlace
  split
  case h_1 t h e =>
    rw [e] at hh
    have ht := Dev.progWords_readsTo n ((16 + k) / 1024) 1 t ((16 + k) % 1024)
    split
    · exact hh
    · split <;> rename_i e' <;> rw [e'] at ht
      · dsimp only
        split
        · exact hh.trans ht
        · split <;> exact hh.trans ht
      · exact hh.trans ht
      · exact hh.trans ht
  all_goals
    rename_i e
    rwa [e] at hh

/-- A step's record is read at its place: its first word, then all of it. -/
theorem Dev.stepRec_readsTo (s : Dev) (n k : Nat) : s.ReadsTo (s.stepRec n k).1 := by
  have hp := s.stepPlace_readsTo n k
  unfold Dev.stepRec
  split <;> rename_i e <;> rw [e] at hp
  · exact hp
  · exact hp
  · next t p w =>
    have ht := Dev.progWords_readsTo n p 1 t w
    split <;> rename_i e' <;> rw [e'] at ht
    · exact hp.trans ht
    · exact hp.trans ht
    · next u w0s =>
      have hu := Dev.progWords_readsTo n p (4 + 8 * bitsOf (w0s.getD 0 0) 20 18 + 4 * bitsOf (w0s.getD 0 0) 26 21) u w
      dsimp only
      split
      · exact hp.trans ht
      · split <;> rename_i e'' <;> rw [e''] at hu
        · exact hp.trans (ht.trans hu)
        · exact hp.trans (ht.trans hu)
        · split <;> exact hp.trans (ht.trans hu)

/-! ## Contexts -/

@[simp] theorem Dev.ctx_onCtx_same (s : Dev) (n : Nat) (f : Ctx → Ctx) : (s.onCtx n f).ctx n = f (s.ctx n) := by
  simp [Dev.ctx, Dev.onCtx]

/-- A transition to a step whose record is there and passes its checks enters the step on this tick. -/
theorem Dev.ctxTake_enters {s s2 s3 : Dev} {n k p w : Nat} {r : StepRec} (code : Nat) (hr : s.stepRec n k = (s2, .ok r))
    (hp : s2.stepPlace n k = (s3, .ok (p, w))) : s.ctxTake n k code = s3.ctxEnter n k code r p := by
  simp only [Dev.ctxTake, hr, hp]

section
variable (s : Dev) (n cause : Nat)

/-- A context that faults is FAULTED. -/
theorem Dev.ctxMode_ctxFault : (s.ctxFault n cause).ctxMode n = cmFaulted :=
  (Dev.get_set_field _ _ _ _ _ (by decide) (by decide) (by decide)).trans
    (Dev.get_set_same _ _ _ _ (by decide) (by decide))

/-- It shows the cause. -/
theorem Dev.ctxCause_ctxFault (h : cause < 16) :
    (s.ctxFault n cause).get (A.SEQ_CTX_STAT n) F.SEQ_CTX_STAT_CAUSE = cause :=
  Dev.get_set_same _ _ _ _ (by decide) h

@[simp] theorem Dev.points_ctxFault : (s.ctxFault n cause).points = s.points := rfl

end

/-! ## Evaluations (R202) -/

/-- The context's evaluation of this microsecond is noted. -/
def Dev.noteEval (s : Dev) (n : Nat) : Dev := s.onCtx n fun c => { c with evaled := (s.ctx n).ticks / 250 + 1 }

section
variable {s s1 : Dev} {n : Nat} {r : StepRec} (h : (s.noteEval n).stepRec n (s.ctx n).step = (s1, .ok r))
include h

/-- The first transition that holds is taken. -/
theorem Dev.ctxEval_takes {i : Nat} {t : Trans}
    (hfirst : s1.firstTrans n ((s.ctx n).ticks / 250) none 0 r.trans = some (i, t)) :
    s.ctxEval n = s1.ctxTake n t.target i := by
  unfold Dev.noteEval at h
  simp only [Dev.ctxEval, Dev.ctx_onCtx_same, h, hfirst]

/-- Where none holds, the timeout decides. -/
theorem Dev.ctxEval_noneHolds (hnone : s1.firstTrans n ((s.ctx n).ticks / 250) none 0 r.trans = none) :
    s.ctxEval n =
      if r.timeout ≠ 0 ∧ r.timeout ≤ (s.ctx n).ticks / 250 then
        if r.toFault then s1.ctxFault n scTimeout else s1.ctxTake n r.toTarget trTimeout
      else s1 := by
  unfold Dev.noteEval at h
  simp only [Dev.ctxEval, Dev.ctx_onCtx_same, h, hnone, Bool.and_eq_true, bne_iff_ne, decide_eq_true_eq]

end

/-- Reading the step's record leaves the step. -/
theorem Dev.step_noteEval_stepRec {s s1 : Dev} {n k : Nat} {x : Prog StepRec} (h : (s.noteEval n).stepRec n k = (s1, x)) :
    (s1.ctx n).step = (s.ctx n).step := by
  have hc := ((s.noteEval n).stepRec_readsTo n k).ctxs
  rw [h] at hc
  have hctx : s1.ctx n = (s.noteEval n).ctx n := congrArg (tabGet Ctx.idle · n) hc
  rw [hctx, Dev.noteEval, Dev.ctx_onCtx_same]

/-- STEP_EVALUATION on a tick on which one is due is the evaluation. -/
theorem Does.stepEvaluation {s : State} {n : Fin 16} {P : Dev → Prop} (hon : s.dev.on = true)
    (hdue : s.dev.evalDue n = true) (h : P (s.dev.ctxEval n)) : Does (.stepEvaluation n) s P := by
  have hrun : s.dev.halted = false := by
    simp only [Dev.evalDue, Bool.and_eq_true, Bool.not_eq_true'] at hdue
    exact hdue.2
  have he : exec (.stepEvaluation n) s = s.live (·.stepEvaluation n.val) := rfl
  refine Does.of_live he hon hrun ?_
  simp only [Dev.stepEvaluation, hdue, if_true]
  exact h

/-! ## Ramp writes (R204, R205, R19) -/

theorem hclass_mkHandle {c i : Nat} (hc : c < 256) (hi : i < 0x1000000) : hclass (mkHandle c i) = c := by
  simp only [hclass, mkHandle, bitsOf, BitVec.toNat_ofNat, Nat.shiftRight_eq_div_pow]
  omega

theorem hindex_mkHandle {c i : Nat} (hi : i < 0x1000000) : hindex (mkHandle c i) = i := by
  simp only [hindex, mkHandle, bitsOf, BitVec.toNat_ofNat, Nat.shiftRight_eq_div_pow]
  omega

/-- A setpoint takes binary32. -/
theorem dstValue_setpoint (s : Dev) {i : Nat} (hi : i < 512) (x : Dbl) :
    dstValue (s.kind (mkHandle 0x20 i)) 0 x = toF32 x := by
  have hc : hclass (mkHandle 0x20 i) = 0x20 := hclass_mkHandle (by omega) (by omega)
  have hk : s.kind (mkHandle 0x20 i) = .f32 := by
    simp [Dev.kind, Dev.localKind, hc, isFieldClass, classKind]
  simp [dstValue, hk]

/-- A setpoint's write by a writer that none outranks on this tick, while no SP names a handle. -/
theorem Dev.spWrite_stands {s : Dev} {w : Writer} {i : Nat} (p : Pt) (hi : i < 512)
    (hsp : s.reg (A.LT_SLOT_SP (i / 64) (i % 64)) = 0) (hrank : tabGet 0 s.spRank i ≤ spPlace w) :
    s.spWrite w i p = { s.storePoint (mkHandle 0x20 i) p with spRank := tabPut 0 s.spRank i (spPlace w) } := by
  have hc : hclass (mkHandle 0x20 i) = 0x20 := hclass_mkHandle (by omega) (by omega)
  simp [Dev.spWrite, hsp, Nat.not_lt.mpr hrank, Dev.putPoint, hc, inputClass]

/-- A context's write of such a setpoint is the setpoint's write with VALID. -/
theorem Dev.ctxWrite_setpoint {s : Dev} {n i : Nat} (v : Word) (hi : i < 512)
    (hsp : s.reg (A.LT_SLOT_SP (i / 64) (i % 64)) = 0) (hrank : tabGet 0 s.spRank i ≤ spPlace (.context n)) :
    s.ctxWrite n (mkHandle 0x20 i) v =
      { s.storePoint (mkHandle 0x20 i) ⟨v, true⟩ with spRank := tabPut 0 s.spRank i (spPlace (.context n)) } := by
  have hc : hclass (mkHandle 0x20 i) = 0x20 := hclass_mkHandle (by omega) (by omega)
  have hx : hindex (mkHandle 0x20 i) = i := hindex_mkHandle (by omega)
  simp [Dev.ctxWrite, hc, hx, hsp, Dev.spWrite_stands _ hi hsp hrank]

/-- The generator after its write at multiple `j`: it stops at the first multiple at or beyond its duration. -/
def Ramp.wrote (r : Ramp) (j : Nat) : Ramp := { r with done := j, running := decide (j * r.riv < r.dur) }

/-- A ramp write that is due notes its multiple and writes the multiple's value. -/
theorem Dev.ctxRamp_due {s : Dev} {n g : Nat} (h : s.rampDue n g = true) :
    let r := (s.ctx n).ramp g
    let j := r.ticks / (250 * r.riv)
    let y := s.setRamp n g (r.wrote j)
    s.ctxRamp n g = y.ctxWrite n r.handle (dstValue (y.kind r.handle) 0 (r.at j)) := if_pos h

@[simp] theorem Dev.ramp_setRamp_same (s : Dev) (n g : Nat) (r : Ramp) : ((s.setRamp n g r).ctx n).ramp g = r := by
  simp [Dev.setRamp, Ctx.ramp]

/-- A ramp write that is due on a setpoint that it may write. -/
theorem Dev.ctxRamp_setpoint {s : Dev} {n g i : Nat} (h : s.rampDue n g = true) (hi : i < 512)
    (hh : ((s.ctx n).ramp g).handle = mkHandle 0x20 i) (hsp : s.reg (A.LT_SLOT_SP (i / 64) (i % 64)) = 0)
    (hrank : tabGet 0 s.spRank i ≤ spPlace (.context n)) :
    let r := (s.ctx n).ramp g
    let j := r.ticks / (250 * r.riv)
    s.ctxRamp n g =
      { (s.setRamp n g (r.wrote j)).storePoint (mkHandle 0x20 i) ⟨toF32 (r.at j), true⟩ with
        spRank := tabPut 0 s.spRank i (spPlace (.context n)) } := by
  intro r j
  rw [Dev.ctxRamp_due h, hh, dstValue_setpoint _ hi]
  exact Dev.ctxWrite_setpoint (s := s.setRamp n g (r.wrote j)) _ hi hsp hrank

/-- Settles O41: an evaluation takes the first transition that holds, else its timeout; a due ramp write is one write of its
setpoint. -/
theorem evaluationsAndRamps : Obligations.EvaluationsAndRamps := by
  refine ⟨?_, ?_⟩
  · intro s n s1 r hon hdue k hrec
    refine ⟨fun i t hfirst => ?_, fun hnone h0 hk => ?_, fun hnone hk => ?_⟩ <;> refine Does.stepEvaluation hon hdue ?_
    · have htake := Dev.ctxEval_takes (s := s.dev) hrec hfirst
      exact ⟨htake, fun s2 s3 r' p w hr' hp => htake.trans (Dev.ctxTake_enters i hr' hp)⟩
    · have heval := Dev.ctxEval_noneHolds (s := s.dev) hrec hnone
      rw [if_pos ⟨h0, hk⟩] at heval
      cases hf : r.toFault with
      | true =>
        rw [heval, if_pos hf, if_pos rfl]
        exact ⟨s1.ctxMode_ctxFault n _, s1.ctxCause_ctxFault n _ (by decide), s1.points_ctxFault n _⟩
      | false =>
        have hn : ¬ r.toFault = true := by simp [hf]
        rw [heval, if_neg hn, if_neg Bool.false_ne_true]
    · have hin : ¬ (r.timeout ≠ 0 ∧ r.timeout ≤ k) := by omega
      rw [Dev.ctxEval_noneHolds (s := s.dev) hrec hnone, if_neg hin]
      exact ⟨rfl, Dev.step_noteEval_stepRec (s := s.dev) hrec⟩
  · intro s n gen i hon hrun hdue hi r j hh hsp hrank
    have he : exec (.rampWrite n gen) s = s.live (·.ctxRamp n.val gen.val) := rfl
    refine Does.of_live he hon hrun ?_
    rw [Dev.ctxRamp_setpoint hdue hi hh hsp hrank]
    refine ⟨Dev.point_storePoint_same .., Dev.ramp_setRamp_same s.dev n gen _, fun h hne => ?_, rfl⟩
    exact Dev.point_storePoint_other (s.dev.setRamp n gen _) _ hne

end Sys2Proof.Machine
end

section
/-! Writes of registers, bits and pairs, as the statements about time use them: which registers a chain of writes keeps, what
a bit or a pair reads after its write, and the keys of one requester. -/

namespace Sys2Proof.Machine

/-! ## Registers that a chain of writes keeps -/

section
variable {s d : Dev} {as : List Nat}

theorem Dev.RegsKept.refl (s : Dev) (as : List Nat) : s.RegsKept s as := fun _ _ => rfl

theorem Dev.RegsKept.trans {e : Dev} (h : s.RegsKept d as) (k : d.RegsKept e as) : s.RegsKept e as :=
  fun a ha => (k a ha).trans (h a ha)

theorem Dev.RegsKept.mono (h : s.RegsKept d as) {bs : List Nat} (hb : as ⊆ bs) : s.RegsKept d bs :=
  fun b hn => h b fun ha => hn (hb ha)

theorem Dev.RegsKept.get (h : s.RegsKept d as) {a : Nat} (f : Fld) (ha : a ∉ as) : d.get a f = s.get a f := by
  rw [Dev.get, h a ha, Dev.get]

theorem Dev.RegsKept.pair (h : s.RegsKept d as) {lo : Nat} (hlo : lo ∉ as) (hhi : lo + 4 ∉ as) : d.pair lo = s.pair lo := by
  rw [Dev.pair, h lo hlo, h (lo + 4) hhi, Dev.pair]

/-- A write of a listed register keeps the others. -/
theorem Dev.RegsKept.setReg (h : s.RegsKept d as) {a : Nat} (w : Word) (ha : a ∈ as) : s.RegsKept (d.setReg a w) as :=
  fun b hb => (d.reg_setReg_other w fun e : b = a => hb (e ▸ ha)).trans (h b hb)

theorem Dev.RegsKept.set (h : s.RegsKept d as) {a : Nat} (f : Fld) (v : Nat) (ha : a ∈ as) : s.RegsKept (d.set a f v) as :=
  h.setReg _ ha

theorem Dev.RegsKept.raise (h : s.RegsKept d as) {a : Nat} (f : Fld) (ha : a ∈ as) : s.RegsKept (d.raise a f) as :=
  h.set f 1 ha

theorem Dev.RegsKept.setPair (h : s.RegsKept d as) {a : Nat} (v : Dbl) (ha : a ∈ as) (ha' : a + 4 ∈ as) :
    s.RegsKept (d.setPair a v) as :=
  (h.setReg _ ha).setReg _ ha'

end

/-- `d` differs from `s` in registers alone. -/
def Dev.RegsOnly (s d : Dev) : Prop := ∃ r, d = { s with regs := r }

theorem Dev.RegsOnly.refl (s : Dev) : s.RegsOnly s := ⟨s.regs, rfl⟩

theorem Dev.RegsOnly.setReg {s d : Dev} (h : s.RegsOnly d) (a : Nat) (w : Word) : s.RegsOnly (d.setReg a w) := by
  obtain ⟨r, rfl⟩ := h
  exact ⟨_, rfl⟩

theorem Dev.RegsOnly.set {s d : Dev} (h : s.RegsOnly d) (a : Nat) (f : Fld) (v : Nat) : s.RegsOnly (d.set a f v) := h.setReg a _

theorem Dev.RegsOnly.eq {s d : Dev} (h : s.RegsOnly d) : d = { s with regs := d.regs } := by
  obtain ⟨r, rfl⟩ := h
  rfl

/-! ## Bits and pairs after their write -/

/-- A bit that is set reads so. -/
theorem Dev.bit_setBit_same (s : Dev) (a : Nat) (f : Fld) (b : Bool) (h : f.ok = true) : (s.setBit a f b).bit a f = b := by
  have hv : (if b then 1 else 0) < 2 ^ (f.hi - f.lo + 1) := by
    have := Nat.one_lt_two_pow (show f.hi - f.lo + 1 ≠ 0 by omega)
    split <;> omega
  rw [Dev.bit, Dev.setBit, Dev.get_set_same s a f _ h hv]
  cases b <;> rfl

/-- A status bit that is raised reads 1. -/
theorem Dev.bit_raise_same (s : Dev) (a : Nat) (f : Fld) (h : f.ok = true) : (s.raise a f).bit a f = true := by
  rw [Dev.bit, s.get_raise_same a f h]
  rfl

/-- A status bit that is raised leaves a field apart from it. -/
theorem Dev.bit_raise_field (s : Dev) (a : Nat) (f g : Fld) (hf : f.ok = true) (hg : g.ok = true)
    (h : g.hi < f.lo ∨ f.hi < g.lo) : (s.raise a f).bit a g = s.bit a g :=
  congrArg (· == 1) (s.get_set_field a f g 1 hf hg h)

/-- A pair reads back what was put. -/
@[simp] theorem Dev.pair_setPair_same (s : Dev) (lo : Nat) (v : Dbl) : (s.setPair lo v).pair lo = v := by
  have hne : lo ≠ lo + 4 := by omega
  rw [Dev.pair, Dev.setPair, Dev.reg_setReg_same, Dev.reg_setReg_other _ _ hne, Dev.reg_setReg_same]
  refine BitVec.eq_of_getLsbD_eq fun i hi => ?_
  rw [BitVec.getLsbD_append]
  by_cases h : i < 32
  · simp [h]
  · have h' : i - 32 < 32 := by omega
    have hi' : 32 + (i - 32) = i := by omega
    simp [h, h', hi']

/-! ## Commands -/

/-- A command completes as the device that it answers says. Unlike `Does.of_go` this leaves no operation applied to a device to
be reduced, which an operation that compares large numbers needs. -/
theorem Does.of_next {c : Instr} {s : State} {d : Dev} {P : Dev → Prop} (he : exec c s = .next { s with dev := d })
    (hp : P d) : Does c s P := ⟨d, he, hp⟩

/-! ## Keys of one requester (R51) -/

/-- A requester's keys of two registers are two. -/
@[simp] theorem reqKey_inj {r a b : Nat} : reqKey r a = reqKey r b ↔ a = b := by simp [reqKey]

/-- A requester's latch after one of its latches is written. -/
theorem tabGet_put_reqKey (t : Tab (Option Word)) (r a b : Nat) (w : Option Word) :
    tabGet none (tabPut none t (reqKey r a) w) (reqKey r b) = if b = a then w else tabGet none t (reqKey r b) := by
  split
  case isTrue h => rw [h, tabGet_put_same]
  case isFalse h => exact tabGet_put_other _ _ _ _ (by simpa using h)

end Sys2Proof.Machine
end

section
/-! Commands without the logic supply, and ticks (O3). -/

namespace Sys2Proof.Machine

/-- Settles O3: the four commands that the statement excepts are those that wake the device. -/
theorem poweredOffAndIdle : Obligations.PoweredOffAndIdle := by
  refine ⟨fun s c hoff hfeed hgood haon htamper => exec_off hoff ?_, fun d => ⟨rfl, Dev.tick_off⟩⟩
  rintro (⟨va, vb, h⟩ | ⟨b, k, x, y, h⟩ | h | ⟨k, h⟩)
  · exact hfeed va vb h
  · exact hgood b k x y h
  · exact haon h
  · exact htamper k h

end Sys2Proof.Machine
end

section
/-! Reads and commits of time and calendar (O10). -/

namespace Sys2Proof.Machine

/-! ## Reads that latch (R51, R37) -/

/-- A read of TIME_NOW_LO latches the high word and the three TOD registers of its instant. -/
theorem Dev.latched_timeNowRead (s : Dev) (req : Nat) :
    (s.timeNowRead req).latched req A.TIME_NOW_HI = some (BitVec.ofNat 32 (s.ts.toNat / 2 ^ 32)) ∧
      (s.timeNowRead req).latched req A.TIME_TOD_SEC_LO = some (BitVec.ofNat 32 (s.ts.toNat / second)) ∧
      (s.timeNowRead req).latched req A.TIME_TOD_SEC_HI = some (BitVec.ofNat 32 (s.ts.toNat / second / 2 ^ 32)) ∧
      (s.timeNowRead req).latched req A.TIME_TOD_NS = some (BitVec.ofNat 32 (s.ts.toNat % second)) := by
  simp [Dev.timeNowRead, Dev.latched, Dev.answerWord, tabGet_put_reqKey, Dev.ts, A.TIME_NOW_HI, A.TIME_TOD_SEC_LO,
    A.TIME_TOD_SEC_HI, A.TIME_TOD_NS]

/-- It leaves every other latch. -/
theorem Dev.latch_timeNowRead_other (s : Dev) (req : Nat) {k : Nat}
    (hk : k ∉ [A.TIME_NOW_HI, A.TIME_TOD_SEC_LO, A.TIME_TOD_SEC_HI, A.TIME_TOD_NS].map (reqKey req)) :
    tabGet none (s.timeNowRead req).latch k = tabGet none s.latch k := by
  simp only [List.map_cons, List.map_nil, List.mem_cons, List.not_mem_nil, or_false, not_or] at hk
  obtain ⟨hnow, hlo, hhi, hns⟩ := hk
  simp only [Dev.timeNowRead, Dev.answerWord, Dev.answer_latch]
  rw [tabGet_put_other _ _ _ _ hns, tabGet_put_other _ _ _ _ hhi, tabGet_put_other _ _ _ _ hlo,
    tabGet_put_other _ _ _ _ hnow]

/-- A read of TICK latches both second registers. -/
theorem Dev.latched_calTickRead (s : Dev) (req : Nat) :
    (s.calTickRead req).latched req A.AON_CAL_SEC_LO = some (s.cal.sec.setWidth 32) ∧
      (s.calTickRead req).latched req A.AON_CAL_SEC_HI = some ((s.cal.sec >>> 32).setWidth 32) := by
  simp [Dev.calTickRead, Dev.latched, Dev.answerWord, tabGet_put_reqKey, A.AON_CAL_SEC_LO, A.AON_CAL_SEC_HI]

theorem Dev.latch_calTickRead_other (s : Dev) (req : Nat) {k : Nat}
    (hk : k ∉ [A.AON_CAL_SEC_LO, A.AON_CAL_SEC_HI].map (reqKey req)) :
    tabGet none (s.calTickRead req).latch k = tabGet none s.latch k := by
  simp only [List.map_cons, List.map_nil, List.mem_cons, List.not_mem_nil, or_false, not_or] at hk
  obtain ⟨hlo, hhi⟩ := hk
  simp only [Dev.calTickRead, Dev.answerWord, Dev.answer_latch]
  rw [tabGet_put_other _ _ _ _ hhi, tabGet_put_other _ _ _ _ hlo]

/-- A read of TICK answers it alone. -/
theorem Dev.calTickRead_frame (s : Dev) (req : Nat) :
    s.calTickRead req = { s with latch := (s.calTickRead req).latch, bus := ⟨.ok, s.cal.tick.setWidth 128⟩ } := by
  have hw : (s.cal.tick.setWidth 32 : Word).setWidth 128 = s.cal.tick.setWidth 128 :=
    BitVec.eq_of_toNat_eq (by simp)
  simp [Dev.calTickRead, Dev.answerWord, Dev.answer, hw]

/-! ## Commits -/

/-- The staging of one register, consumed by its requester's commit: the entry is gone, and every other stays. -/
theorem staged_used (t : Tab (Option Word)) (r a : Nat) :
    tabGet none (tabPut none t (reqKey r a) none) (reqKey r a) = none ∧
      ∀ k, k ≠ reqKey r a → tabGet none (tabPut none t (reqKey r a) none) k = tabGet none t k :=
  ⟨tabGet_put_same .., fun _ hk => tabGet_put_other _ _ _ _ hk⟩

/-- An addend from 3.996 ns to 4.004 ns, in units of 2^-32 ns (R32). -/
def AddendOk (a : Nat) : Prop := 3996 * 2 ^ 32 ≤ a * 1000 ∧ a * 1000 ≤ 4004 * 2 ^ 32

/-- The device with a commit's low half consumed. -/
def Dev.consume (s : Dev) (req a : Nat) : Dev := { s with staged := tabPut none s.staged (reqKey req a) none }

section
variable {s : Dev} {req : Nat} {v : Word} {a : Nat}
  (ha : a = bitsOf v 3 0 * 2 ^ 32 + ((tabGet none s.staged (reqKey req A.TIME_ADDEND_LO)).getD (s.reg A.TIME_ADDEND_LO)).toNat)
include ha

/-- The commit of an addend, with the value `a` that it asks for. -/
theorem Dev.addendCommit_eq :
    s.addendCommit req v =
      if 3996 * 2 ^ 32 ≤ a * 1000 && a * 1000 ≤ 4004 * 2 ^ 32 then
        { s.consume req A.TIME_ADDEND_LO with time := { s.time with newAddend := some (BitVec.ofNat 36 a) } }
      else ((s.consume req A.TIME_ADDEND_LO).raise A.TIME_STAT F.TIME_STAT_ADDERR).offer 0x41 0x02 .addendRefused := by
  subst ha
  rfl

/-- A good addend waits for the next tick. -/
theorem Dev.addendCommit_taken (h : AddendOk a) :
    s.addendCommit req v =
      { s.consume req A.TIME_ADDEND_LO with time := { s.time with newAddend := some (BitVec.ofNat 36 a) } } := by
  rw [Dev.addendCommit_eq ha, if_pos (by simpa [AddendOk] using h)]

/-- Another is refused with ADDERR and offered to the Scribe. -/
theorem Dev.addendCommit_refused (h : ¬ AddendOk a) :
    s.addendCommit req v =
      ((s.consume req A.TIME_ADDEND_LO).raise A.TIME_STAT F.TIME_STAT_ADDERR).offer 0x41 0x02 .addendRefused := by
  rw [Dev.addendCommit_eq ha, if_neg (by simpa [AddendOk] using h)]

/-- ADDEND_COMMIT consumes its requester's staged fraction. -/
theorem Dev.staged_addendCommit : (s.addendCommit req v).staged = (s.consume req A.TIME_ADDEND_LO).staged := by
  rw [Dev.addendCommit_eq ha]
  split <;> rfl

end

/-! ## The estimate (R35) -/

/-- OFFSYNC shows that the source is none or the calendar, or the estimate lies beyond 1 µs. -/
theorem Dev.offsync_iff (s : Dev) :
    s.offsync = true ↔ s.get A.TIME_CTL F.TIME_CTL_SRC < 2 ∨ 1000 < (s.reg A.TIME_OFS_EST).toInt.natAbs := by
  simp only [Dev.offsync, Bool.or_eq_true, beq_iff_eq, decide_eq_true_eq]
  omega

/-- The estimate's write leaves the source. -/
theorem Dev.offsync_setEst (s : Dev) (v : Word) :
    (s.setReg A.TIME_OFS_EST v).offsync = true ↔ s.get A.TIME_CTL F.TIME_CTL_SRC < 2 ∨ 1000 < v.toInt.natAbs := by
  rw [Dev.offsync_iff, Dev.reg_setReg_same, Dev.get, Dev.reg_setReg_other _ _ (by decide), Dev.get]

theorem Dev.reg_ofsEstWrite (s : Dev) (v : Word) : (s.ofsEstWrite v).reg A.TIME_OFS_EST = v :=
  (Dev.reg_set_other _ _ _ (by decide)).trans (Dev.reg_setReg_same ..)

theorem exec_addendCommit (req : Fin 15) (v : Word) (s : State) :
    exec (.addendCommit req v) s = s.go (·.addendCommit req v) := rfl

/-- Settles O10: a read latches, a commit consumes, each for its own requester alone. -/
theorem timeReadsAndCommits : Obligations.TimeReadsAndCommits := by
  intro s req v hon x own used
  refine ⟨?_, ?_, ?_, ?_, ?_, ?_, ?_⟩
  · refine Does.of_go (f := (·.timeNowRead req)) rfl hon ?_
    obtain ⟨hnow, hlo, hhi, hns⟩ := x.latched_timeNowRead req
    exact ⟨rfl, hnow, hlo, hhi, hns, fun k hk => x.latch_timeNowRead_other req hk⟩
  · refine Does.of_go (f := (·.calTickRead req)) rfl hon ?_
    obtain ⟨hlo, hhi⟩ := x.latched_calTickRead req
    exact ⟨x.calTickRead_frame req, hlo, hhi, fun k hk => x.latch_calTickRead_other req hk⟩
  · intro a ok
    refine Does.of_next ((exec_addendCommit req v s).trans (s.go_on _ hon)) ?_
    have ha : a = bitsOf v 3 0 * 2 ^ 32 +
        ((tabGet none x.staged (reqKey req A.TIME_ADDEND_LO)).getD (x.reg A.TIME_ADDEND_LO)).toNat := rfl
    have hok : ok = AddendOk a := rfl
    rw [hok]
    clear_value ok a
    refine ⟨?_, fun h => ?_, fun h => ?_⟩
    · show tabGet none (x.addendCommit req v).staged _ = none ∧ ∀ k, _ → tabGet none (x.addendCommit req v).staged k = _
      rw [Dev.staged_addendCommit ha]
      exact staged_used x.staged req A.TIME_ADDEND_LO
    · rw [Dev.addendCommit_taken ha h]
      rfl
    · rw [Dev.addendCommit_refused ha h]
      exact ⟨rfl, Dev.bit_raise_same _ _ _ (by decide), List.length_append,
        Dev.RegsKept.raise (d := x.consume req A.TIME_ADDEND_LO) (Dev.RegsKept.refl x _) _ (List.mem_cons_self ..)⟩
  · refine Does.of_go (f := (·.timeStep req v)) rfl hon ⟨staged_used x.staged req A.TIME_STEP_LO, rfl⟩
  · refine Does.of_go (f := (·.ofsEstWrite v)) rfl hon ⟨rfl, x.reg_ofsEstWrite v, ?_, ?_⟩
    · rw [← x.offsync_setEst v]
      exact Eq.to_iff (congrArg (· = true) (Dev.bit_setBit_same _ _ _ _ (by decide)))
    · exact ((Dev.RegsKept.refl x _).setReg v (by decide)).set _ _ (by decide)
  · exact Does.of_go (f := Dev.seed) rfl hon rfl
  · exact Does.of_go (f := (·.calCommit req v)) rfl hon ⟨staged_used x.staged req A.AON_CAL_SEC_LO, rfl⟩

end Sys2Proof.Machine
end

section
/-! What crystal edges, seeds, whole seconds and pulse ends do (O11). -/

namespace Sys2Proof.Machine

/-! ## The calendar on a crystal edge (R37, R40) -/

/-- The calendar set to a whole second is valid, and no other register moves. -/
theorem Dev.calSet_valid (s : Dev) (v : BitVec 48) : (s.calSet v).bit A.AON_CAL_STAT F.AON_CAL_STAT_VALID = true :=
  Dev.bit_setBit_same _ _ _ true (by decide)

theorem Dev.calSet_regsKept (s : Dev) (v : BitVec 48) : s.RegsKept (s.calSet v) [A.AON_CAL_STAT] :=
  Dev.RegsKept.set (d := s.onCal fun c => { c with sec := v, tick := 0 }) (Dev.RegsKept.refl s _) _ _ (List.mem_cons_self ..)

section
variable {s : Dev} {v : BitVec 48} (he : s.cal.edge = true)
include he

/-- On an edge the committed seconds are loaded, and a write-back of the same edge is dropped. -/
theorem Dev.calLoad_committed (hc : s.cal.commit = some v) :
    s.calLoad = (s.calSet v).onCal fun c => { c with commit := none, writeback := none } := by
  simp only [Dev.calLoad, he, hc]

/-- On an edge without a commit the second crossed is written back. -/
theorem Dev.calWriteback_alone (hc : s.cal.commit = none) (hw : s.cal.writeback = some v) :
    s.calWriteback = (s.calSet v).onCal fun c => { c with writeback := none } := by
  simp [Dev.calWriteback, he, hc, hw]

end

/-! ## The seed (R38) -/

/-- The device with the time base loaded with `t1` ns. -/
def Dev.loaded (s : Dev) (t1 : Nat) : Dev :=
  s.onTime fun t => { t with
    ts := BitVec.ofNat 64 t1, frac := 0, seedReq := false,
    crossed := if s.time.ts.toNat / second < t1 / second then some (t1 / second) else t.crossed }

/-- The same with the source that the seed shows, before what a change of time brings. -/
def Dev.seeded (s : Dev) (t1 : Nat) : Dev :=
  (s.loaded t1).set A.TIME_CTL F.TIME_CTL_SRC (if (s.loaded t1).bit A.AON_CAL_STAT F.AON_CAL_STAT_VALID then 1 else 0)

@[simp] theorem Dev.bit_onTime (s : Dev) (f : Time → Time) (a : Nat) (g : Fld) : (s.onTime f).bit a g = s.bit a g := rfl

/-- A seed that was asked for comes on the crystal edge, and is seen as a step by the difference. -/
theorem Dev.seedApply_due {s : Dev} (hreq : s.time.seedReq = true) (hedge : s.cal.edge = true) {t1 : Nat}
    (ht : t1 = s.cal.sec.toNat * second + s.cal.tick.toNat * second / 32768) :
    s.seedApply = ((s.seeded t1).timeStepped ((t1 : Int) - s.ts.toNat) s.ts.toNat t1).setOffsync := by
  subst ht
  have hdue : (s.time.seedReq && s.cal.edge) = true := by rw [hreq, hedge, Bool.true_and]
  rw [Dev.seedApply, if_pos hdue, Dev.ts]
  rfl

/-- A load of the time base changes the registers and the time unit. -/
theorem Dev.seeded_frame (s : Dev) (t1 : Nat) :
    s.seeded t1 = { s with regs := (s.seeded t1).regs, time := (s.seeded t1).time } := rfl

/-- The source after a seed: the calendar where it is valid, else none. -/
theorem Dev.src_seeded (s : Dev) (t1 : Nat) :
    (s.seeded t1).get A.TIME_CTL F.TIME_CTL_SRC = if s.bit A.AON_CAL_STAT F.AON_CAL_STAT_VALID then 1 else 0 := by
  rw [Dev.seeded, Dev.get_set_same _ _ _ _ (by decide) (by split <;> decide), Dev.loaded, Dev.bit_onTime]

theorem Dev.seeded_regsKept (s : Dev) (t1 : Nat) : s.RegsKept (s.seeded t1) [A.TIME_CTL] :=
  fun _ hb => Dev.reg_set_other _ _ _ fun e => hb (List.mem_singleton.mpr e)

/-! ## Whole seconds (R47, R40) -/

/-- PPS_OUT after a second crossed: high for WIDTH ms where it is enabled. -/
def Dev.ppsEndAt (s : Dev) : Option Nat :=
  if s.bit A.TIME_PPS_CTL F.TIME_PPS_CTL_EN then some (s.ticks + s.get A.TIME_PPS_CTL F.TIME_PPS_CTL_WIDTH * 250000)
  else s.time.ppsEnd

/-- The write-back asked for by a second crossed, while OFFSYNC is clear. -/
def Dev.writebackAt (s : Dev) (sec : Nat) : Option (BitVec 48) :=
  if s.bit A.TIME_STAT F.TIME_STAT_OFFSYNC then s.cal.writeback else some (BitVec.ofNat 48 sec)

/-- A second crossed changes PPS_OUT, the write-back asked for, and the markers that are due. -/
theorem Dev.secondCrossed_eq (s : Dev) (sec : Nat) :
    s.secondCrossed sec =
      { s with recorder := (s.recMark false false false).recorder, scribe := (s.scribeMark false false false).scribe,
               time := { s.time with crossed := none, ppsEnd := s.ppsEndAt },
               cal := { s.cal with writeback := s.writebackAt sec } } := by
  simp only [Dev.secondCrossed, Dev.ppsEndAt, Dev.writebackAt]
  split
  · rw [Dev.bit_onTime]
    split <;> rfl
  · split <;> rfl

/-! ## Pulse ends (R46, R47) -/

theorem Dev.ppsFall_due {s : Dev} {e : Nat} (h : s.time.ppsEnd = some e) (he : e ≤ s.ticks) :
    s.ppsFall = s.onTime fun t => { t with ppsEnd := none } := by
  simp only [Dev.ppsFall, h, he, if_true]

theorem Dev.trgOutEnd_due {s : Dev} {n : Nat} (h : (tabGet (4, 0) s.time.pulses n).2 ≤ s.ticks) :
    s.trgOutEnd n = s.onTime fun t => { t with pulses := tabPut (4, 0) t.pulses n (4, 0) } := if_pos h

/-- Settles O11: each event acts as its own equation above says. -/
theorem timeEvents : Obligations.TimeEvents := by
  intro s hon x
  refine ⟨fun hedge v hc => ?_, fun hedge v hc hw => ?_, fun hreq hedge => ?_, fun sec hsec => ?_, fun e h he => ?_,
    fun n h => ?_⟩
  · refine Does.of_go (f := Dev.calLoad) rfl hon ?_
    rw [Dev.calLoad_committed hedge hc]
    exact ⟨rfl, x.calSet_valid v, x.calSet_regsKept v⟩
  · refine Does.of_go (f := Dev.calWriteback) rfl hon ?_
    rw [Dev.calWriteback_alone hedge hc hw]
    exact ⟨rfl, x.calSet_valid v, x.calSet_regsKept v⟩
  · intro t1
    have ht : t1 = x.cal.sec.toNat * second + x.cal.tick.toNat * second / 32768 := rfl
    clear_value t1
    refine Does.of_go (f := Dev.seedApply) rfl hon ?_
    exact ⟨x.seeded t1, rfl, rfl, rfl, x.seeded_frame t1, x.seeded_regsKept t1, x.src_seeded t1,
      Dev.seedApply_due hreq hedge ht⟩
  · refine Does.of_go (f := Dev.secondCrossing) rfl hon ?_
    have e : x.secondCrossing = x.secondCrossed sec := by simp only [Dev.secondCrossing, hsec]
    rw [e, Dev.secondCrossed_eq]
    exact ⟨rfl, rfl, rfl, rfl, rfl⟩
  · refine Does.of_go (f := Dev.ppsFall) rfl hon ?_
    exact Dev.ppsFall_due h he
  · refine Does.of_go (f := (·.trgOutEnd n)) rfl hon ?_
    rw [Dev.trgOutEnd_due h]
    exact ⟨rfl, tabGet_put_same (4, 0) x.time.pulses n (4, 0),
      fun k hk => tabGet_put_other (4, 0) (4, 0) x.time.pulses (4, 0) hk⟩

end Sys2Proof.Machine
end

section
/-! Fires of the comparators (O12). -/

namespace Sys2Proof.Machine

/-! ## The comparator after its fire (R42, R43) -/

/-- A comparator's control register is apart from its instant and its count of misses. -/
theorem ttCtl_apart (n : Nat) :
    A.TIME_TT_CTL n ≠ A.TIME_TT_CMP_LO n ∧ A.TIME_TT_CTL n ≠ A.TIME_TT_CMP_LO n + 4 ∧
      A.TIME_TT_CTL n ≠ A.TIME_TT_MISS n := by
  simp only [A.TIME_TT_CTL, A.TIME_TT_CMP_LO, A.TIME_TT_MISS]
  omega

/-- The registers that a fire may change. -/
def ttRegs (n : Nat) : List Nat := [A.TIME_TT_CTL n, A.TIME_TT_CMP_LO n, A.TIME_TT_CMP_LO n + 4, A.TIME_TT_MISS n]

/-- The period that stood at the start of the tick, in ns. -/
def Dev.ttPer0 (s : Dev) (n : Nat) : Nat := s.get0 (A.TIME_TT_PER n) F.TIME_TT_PER_PER * 4

/-- The whole periods by which a periodic comparator advances (R43). -/
def Dev.ttPeriods (s : Dev) (n : Nat) : Nat := (s.time.ts.toNat - (s.pair0 (A.TIME_TT_CMP_LO n)).toNat) / s.ttPer0 n + 1

/-- The smallest number of whole periods, at least one, that puts `c` after `t`. -/
theorem periods_after {c t per : Nat} (hc : c ≤ t) (hper : 0 < per) :
    t < c + ((t - c) / per + 1) * per ∧ c + ((t - c) / per + 1) * per ≤ t + per := by
  have hdiv := Nat.div_add_mod' (t - c) per
  have hmod := Nat.mod_lt (t - c) hper
  rw [Nat.succ_mul]
  omega

/-- A one-shot after its fire, before it is judged late: EN clears and FIRED is set. -/
def Dev.ttEnded (s : Dev) (n : Nat) : Dev :=
  (s.set (A.TIME_TT_CTL n) F.TIME_TT_CTL_EN 0).raise (A.TIME_TT_CTL n) F.TIME_TT_CTL_FIRED

/-- A periodic comparator after its fire, before it is judged late: its next instant, and the occurrences passed over. -/
def Dev.ttMoved (s : Dev) (n : Nat) : Dev :=
  (s.setPair (A.TIME_TT_CMP_LO n) (BitVec.ofNat 64 ((s.pair0 (A.TIME_TT_CMP_LO n)).toNat + s.ttPeriods n * s.ttPer0 n))).count
    (A.TIME_TT_MISS n) F.TIME_TT_MISS_MISS (s.ttPeriods n - 1)

section
variable {s : Dev} {n : Nat}

theorem Dev.ttAdvance_oneShot (hm : s.get0 (A.TIME_TT_CTL n) F.TIME_TT_CTL_MODE ≠ 1)
    (hw : s.wroteReg (A.TIME_TT_CTL n) = false) :
    s.ttAdvance n =
      if s.time.late.contains n then
        ((s.ttEnded n).raise (A.TIME_TT_CTL n) F.TIME_TT_CTL_LATE).onTime fun t => { t with late := t.late.filter (· != n) }
      else s.ttEnded n := by
  rw [Dev.get0] at hm
  simp only [Dev.ttAdvance, hm, hw, if_false, Bool.false_eq_true]
  rfl

theorem Dev.ttAdvance_periodic (hm : s.get0 (A.TIME_TT_CTL n) F.TIME_TT_CTL_MODE = 1)
    (hw : s.wroteReg (A.TIME_TT_CMP_HI n) = false) :
    s.ttAdvance n =
      if 1 < s.ttPeriods n then (s.ttMoved n).raise (A.TIME_TT_CTL n) F.TIME_TT_CTL_LATE else s.ttMoved n := by
  rw [Dev.get0] at hm
  simp only [Dev.ttAdvance, hm, hw, if_true, if_false, Bool.false_eq_true]
  rfl

end

/-- `d` differs from `s` in registers, in what hardware has set, and in the comparators that are late. -/
def Dev.FireOnly (s d : Dev) : Prop := ∃ r h l, d = { s with regs := r, hwSet := h, time := { s.time with late := l } }

section
variable {s d : Dev} (h : s.FireOnly d)
include h

theorem Dev.FireOnly.setReg (a : Nat) (w : Word) : s.FireOnly (d.setReg a w) := by
  obtain ⟨r, h, l, rfl⟩ := h
  exact ⟨_, _, _, rfl⟩

theorem Dev.FireOnly.raise (a : Nat) (f : Fld) : s.FireOnly (d.raise a f) := by
  obtain ⟨r, h, l, rfl⟩ := h
  exact ⟨_, _, _, rfl⟩

theorem Dev.FireOnly.onLate (g : List Nat → List Nat) : s.FireOnly (d.onTime fun t => { t with late := g t.late }) := by
  obtain ⟨r, h, l, rfl⟩ := h
  exact ⟨_, _, _, rfl⟩

theorem Dev.FireOnly.eq : d = { s with regs := d.regs, hwSet := d.hwSet, time := { s.time with late := d.time.late } } := by
  obtain ⟨r, h, l, rfl⟩ := h
  rfl

end

/-- The comparator's advance changes no more than that. -/
theorem Dev.ttAdvance_fireOnly (s : Dev) (n : Nat) : s.FireOnly (s.ttAdvance n) := by
  have h0 : s.FireOnly s := ⟨s.regs, s.hwSet, s.time.late, rfl⟩
  simp only [Dev.ttAdvance]
  split
  case isTrue =>
    split <;> split
    · exact h0.raise ..
    · exact (((h0.setReg ..).setReg ..).setReg ..).raise ..
    · exact h0
    · exact ((h0.setReg ..).setReg ..).setReg ..
  case isFalse =>
    split <;> split
    · exact ((h0.raise ..).raise ..).onLate _
    · exact h0.raise ..
    · exact (((h0.setReg ..).raise ..).raise ..).onLate _
    · exact (h0.setReg ..).raise ..

/-- A pulse changes the pulses alone. -/
theorem Dev.ttPulse_frame (s : Dev) (n : Nat) :
    s.ttPulse n = { s with time := { s.time with pulses := (s.ttPulse n).time.pulses } } := by
  unfold Dev.ttPulse
  dsimp only
  split <;> rfl

@[simp] theorem Dev.reg_ttPulse (s : Dev) (n a : Nat) : (s.ttPulse n).reg a = s.reg a := by rw [Dev.ttPulse_frame]; rfl

/-- With OUTEN the pulse of the comparator ends PW µs from now. -/
theorem Dev.pulse_ttPulse {s : Dev} {n : Nat} (h : s.get0 (A.TIME_TT_CTL n) F.TIME_TT_CTL_OUTEN = 1) :
    tabGet (4, 0) (s.ttPulse n).time.pulses n =
      (s.get0 (A.TIME_TT_CTL n) F.TIME_TT_CTL_OUTSEL, s.ticks + s.get0 (A.TIME_TT_CTL n) F.TIME_TT_CTL_PW * 250) := by
  have e : s.ttPulse n = s.onTime fun t => { t with
      pulses := tabPut (4, 0) t.pulses n
        (s.get0 (A.TIME_TT_CTL n) F.TIME_TT_CTL_OUTSEL, s.ticks + s.get0 (A.TIME_TT_CTL n) F.TIME_TT_CTL_PW * 250) } := if_pos h
  rw [e]
  exact tabGet_put_same _ _ _ _

/-! ## Its registers -/

section
variable (s : Dev) (n : Nat)

theorem Dev.ttEnded_regsKept : s.RegsKept (s.ttEnded n) [A.TIME_TT_CTL n] :=
  ((Dev.RegsKept.refl s _).set _ _ (List.mem_singleton_self _)).raise _ (List.mem_singleton_self _)

theorem Dev.ttMoved_regsKept :
    s.RegsKept (s.ttMoved n) [A.TIME_TT_CMP_LO n, A.TIME_TT_CMP_LO n + 4, A.TIME_TT_MISS n] :=
  ((Dev.RegsKept.refl s _).setPair _ (by simp) (by simp)).set _ _ (by simp)

theorem Dev.en_ttEnded : (s.ttEnded n).bit (A.TIME_TT_CTL n) F.TIME_TT_CTL_EN = false := by
  rw [Dev.ttEnded, Dev.bit_raise_field _ _ _ _ (by decide) (by decide) (by decide)]
  exact Dev.bit_setBit_same s _ _ false (by decide)

theorem Dev.fired_ttEnded : (s.ttEnded n).bit (A.TIME_TT_CTL n) F.TIME_TT_CTL_FIRED = true :=
  Dev.bit_raise_same _ _ _ (by decide)

theorem Dev.cmp_ttMoved :
    (s.ttMoved n).pair (A.TIME_TT_CMP_LO n) =
      BitVec.ofNat 64 ((s.pair0 (A.TIME_TT_CMP_LO n)).toNat + s.ttPeriods n * s.ttPer0 n) := by
  obtain ⟨-, hlo, hhi⟩ := ttCmp_apart n
  have hr (d : Dev) (v : Nat) : d.RegsKept (d.set (A.TIME_TT_MISS n) F.TIME_TT_MISS_MISS v) [A.TIME_TT_MISS n] :=
    (Dev.RegsKept.refl d _).set _ _ (List.mem_singleton_self _)
  rw [Dev.ttMoved, Dev.count, (hr _ _).pair (by simpa using hlo.symm) (by simpa using hhi.symm), Dev.pair_setPair_same]

theorem Dev.miss_ttMoved :
    (s.ttMoved n).get (A.TIME_TT_MISS n) F.TIME_TT_MISS_MISS =
      min (s.get (A.TIME_TT_MISS n) F.TIME_TT_MISS_MISS + (s.ttPeriods n - 1)) (2 ^ 32 - 1) := by
  obtain ⟨-, hlo, hhi⟩ := ttCmp_apart n
  rw [Dev.ttMoved, Dev.get_count_same _ _ _ _ (by decide), Dev.get, Dev.setPair, Dev.reg_setReg_other _ _ hhi,
    Dev.reg_setReg_other _ _ hlo, Dev.get]
  rfl

end

/-! ## A one-shot and a periodic comparator -/

section
variable {s : Dev} {n : Nat}

/-- A one-shot that fires: EN clears, FIRED is set, LATE where its instant lay in the past, and its instant stays. -/
theorem Dev.ttAdvance_ends (hm : s.get0 (A.TIME_TT_CTL n) F.TIME_TT_CTL_MODE ≠ 1)
    (hw : s.wroteReg (A.TIME_TT_CTL n) = false) :
    s.RegsKept (s.ttAdvance n) [A.TIME_TT_CTL n] ∧
      (s.ttAdvance n).bit (A.TIME_TT_CTL n) F.TIME_TT_CTL_EN = false ∧
      (s.ttAdvance n).bit (A.TIME_TT_CTL n) F.TIME_TT_CTL_FIRED = true ∧
      (s.time.late.contains n = true → (s.ttAdvance n).bit (A.TIME_TT_CTL n) F.TIME_TT_CTL_LATE = true) := by
  rw [Dev.ttAdvance_oneShot hm hw]
  split
  case isTrue hl =>
    simp only [Dev.bit_onTime]
    refine ⟨(s.ttEnded_regsKept n).raise _ (List.mem_singleton_self _), ?_, ?_,
      fun _ => Dev.bit_raise_same _ _ _ (by decide)⟩
    · rw [Dev.bit_raise_field _ _ _ _ (by decide) (by decide) (by decide)]
      exact s.en_ttEnded n
    · rw [Dev.bit_raise_field _ _ _ _ (by decide) (by decide) (by decide)]
      exact s.fired_ttEnded n
  case isFalse hl => exact ⟨s.ttEnded_regsKept n, s.en_ttEnded n, s.fired_ttEnded n, fun h => absurd h hl⟩

/-- A periodic comparator that fires: its instant advances by whole periods, those passed over are counted, and LATE is set
where there are any. -/
theorem Dev.ttAdvance_moves (hm : s.get0 (A.TIME_TT_CTL n) F.TIME_TT_CTL_MODE = 1)
    (hw : s.wroteReg (A.TIME_TT_CMP_HI n) = false) :
    s.RegsKept (s.ttAdvance n) (ttRegs n) ∧
      (s.ttAdvance n).pair (A.TIME_TT_CMP_LO n) =
        BitVec.ofNat 64 ((s.pair0 (A.TIME_TT_CMP_LO n)).toNat + s.ttPeriods n * s.ttPer0 n) ∧
      (1 < s.ttPeriods n → (s.ttAdvance n).bit (A.TIME_TT_CTL n) F.TIME_TT_CTL_LATE = true) ∧
      (s.ttAdvance n).get (A.TIME_TT_MISS n) F.TIME_TT_MISS_MISS =
        min (s.get (A.TIME_TT_MISS n) F.TIME_TT_MISS_MISS + (s.ttPeriods n - 1)) (2 ^ 32 - 1) := by
  obtain ⟨hlo, hhi, hmiss⟩ := ttCtl_apart n
  have hkept := (s.ttMoved_regsKept n).mono (bs := ttRegs n) (List.subset_cons_self ..)
  rw [Dev.ttAdvance_periodic hm hw]
  split
  case isTrue hl =>
    have hr := (Dev.RegsKept.refl (s.ttMoved n) _).raise F.TIME_TT_CTL_LATE (List.mem_singleton_self (A.TIME_TT_CTL n))
    refine ⟨hkept.raise _ (List.mem_cons_self ..), ?_, fun _ => Dev.bit_raise_same _ _ _ (by decide), ?_⟩
    · rw [hr.pair (by simpa using hlo.symm) (by simpa using hhi.symm), s.cmp_ttMoved n]
    · rw [hr.get _ (by simpa using hmiss.symm), s.miss_ttMoved n]
  case isFalse hl => exact ⟨hkept, s.cmp_ttMoved n, fun h => absurd h hl, s.miss_ttMoved n⟩

end

/-- In either mode a fire that no write of its tick stands over changes the comparator's own registers alone. -/
theorem Dev.ttAdvance_regsKept {s : Dev} {n : Nat} (hctl : s.wroteReg (A.TIME_TT_CTL n) = false)
    (hcmp : s.wroteReg (A.TIME_TT_CMP_HI n) = false) : s.RegsKept (s.ttAdvance n) (ttRegs n) := by
  by_cases hm : s.get0 (A.TIME_TT_CTL n) F.TIME_TT_CTL_MODE = 1
  · exact (Dev.ttAdvance_moves hm hcmp).1
  · exact (Dev.ttAdvance_ends hm hctl).1.mono (by simp [ttRegs])

/-! ## The fire (R41, R45) -/

/-- The comparator has fired on this tick, and has not advanced yet. -/
def Dev.noteFire (s : Dev) (n : Nat) : Dev := s.onTime fun t => { t with fired := t.fired ++ [n] }

/-- The device after a fire of comparator `n`, before the fire reaches its consumers. -/
def Dev.ttFired (s : Dev) (n : Nat) : Dev := ((s.noteFire n).ttAdvance n).ttPulse n

/-- A fire that is due reaches its consumers. -/
theorem Dev.comparatorFire_due {s : Dev} {n : Nat} (h : s.ttDue n = true) :
    s.comparatorFire n =
      if ((s.ttFired n).fireField n).standby then ((s.ttFired n).fireField n).fireDry n
      else ((((s.ttFired n).fireField n).collect 2 (BitVec.ofNat 32 n) 0 0 []).captureNow (0x10 + n) true).fireUnits n := by
  have hdue : ¬ (!s.ttDue n) = true := by simp [h]
  rw [Dev.comparatorFire, if_neg hdue]
  rfl

/-- A fire changes registers, what hardware has set, the late comparators and the pulses, and is noted for its tick. -/
theorem Dev.ttFired_frame (s : Dev) (n : Nat) :
    s.ttFired n = { s with regs := (s.ttFired n).regs, hwSet := (s.ttFired n).hwSet,
                           time := { s.time with fired := s.time.fired ++ [n], late := (s.ttFired n).time.late,
                                                 pulses := (s.ttFired n).time.pulses } } := by
  unfold Dev.ttFired
  rw [Dev.ttPulse_frame, ((s.noteFire n).ttAdvance_fireOnly n).eq]
  rfl

section
variable (s : Dev) (n a : Nat)

/-- The registers after a fire are those of the comparator's advance. -/
@[simp] theorem Dev.reg_ttFired : (s.ttFired n).reg a = ((s.noteFire n).ttAdvance n).reg a := Dev.reg_ttPulse ..
@[simp] theorem Dev.get_ttFired (f : Fld) : (s.ttFired n).get a f = ((s.noteFire n).ttAdvance n).get a f := by simp [Dev.get]
@[simp] theorem Dev.bit_ttFired (f : Fld) : (s.ttFired n).bit a f = ((s.noteFire n).ttAdvance n).bit a f := by simp [Dev.bit]
@[simp] theorem Dev.pair_ttFired : (s.ttFired n).pair a = ((s.noteFire n).ttAdvance n).pair a := by simp [Dev.pair]

end

/-- A comparator that has fired on this tick is due no more. -/
theorem Dev.ttDue_ttFired (s : Dev) (n : Nat) : (s.ttFired n).ttDue n = false := by
  have hf : (s.ttFired n).time.fired = s.time.fired ++ [n] := by rw [Dev.ttFired_frame]
  simp [Dev.ttDue, hf]

theorem Dev.pulse_ttFired {s : Dev} {n : Nat} (h : s.get0 (A.TIME_TT_CTL n) F.TIME_TT_CTL_OUTEN = 1) :
    tabGet (4, 0) (s.ttFired n).time.pulses n =
      (s.get0 (A.TIME_TT_CTL n) F.TIME_TT_CTL_OUTSEL, s.ticks + s.get0 (A.TIME_TT_CTL n) F.TIME_TT_CTL_PW * 250) := by
  have hf := ((s.noteFire n).ttAdvance_fireOnly n).eq
  have hget (f : Fld) : ((s.noteFire n).ttAdvance n).get0 (A.TIME_TT_CTL n) f = s.get0 (A.TIME_TT_CTL n) f := by rw [hf]; rfl
  have hticks : ((s.noteFire n).ttAdvance n).ticks = s.ticks := by rw [hf]; rfl
  rw [Dev.ttFired, Dev.pulse_ttPulse (by rw [hget, h]), hget, hget, hticks]

/-- The instant that a due periodic comparator advances to lies after the time, by one period at most. -/
theorem Dev.next_after {s : Dev} {n : Nat} (hdue : s.ttDue n = true) (hper : 0 < s.ttPer0 n)
    (hfit : s.ttPer0 n + s.time.ts.toNat < 2 ^ 64) :
    let c := (s.pair0 (A.TIME_TT_CMP_LO n)).toNat + s.ttPeriods n * s.ttPer0 n
    s.time.ts.toNat < c ∧ c ≤ s.time.ts.toNat + s.ttPer0 n ∧ (BitVec.ofNat 64 c).toNat = c := by
  have hle : (s.pair0 (A.TIME_TT_CMP_LO n)).toNat ≤ s.time.ts.toNat := by
    simp only [Dev.ttDue, Bool.and_eq_true, decide_eq_true_eq] at hdue
    exact BitVec.le_def.mp hdue.1.2
  obtain ⟨hafter, hby⟩ := periods_after hle hper
  exact ⟨hafter, hby, Nat.mod_eq_of_lt (by unfold Dev.ttPeriods; omega)⟩

/-- Settles O12: a fire that is due is noted, ends a one-shot or moves a periodic comparator, and then reaches its consumers. -/
theorem comparatorFires : Obligations.ComparatorFires := by
  intro s n hon hrun x lo ctl
  have he : exec (.comparatorFire n) s = s.live (·.comparatorFire n) := rfl
  refine ⟨fun hno => Does.of_live he hon hrun ?_, fun hdue hctl hcmp hper hfit => Does.of_live he hon hrun ?_⟩
  · show x.comparatorFire n = x
    rw [Dev.comparatorFire, hno]
    rfl
  · have hper' : 0 < x.ttPer0 n := Nat.mul_pos hper (by decide)
    refine ⟨x.ttFired n, ?_, ?_, x.ttDue_ttFired n, fun a ha => ?_, fun hm => ?_, fun hm => ?_, Dev.pulse_ttFired,
      Dev.comparatorFire_due hdue⟩
    · rw [x.ttFired_frame n]
    · rw [x.ttFired_frame n]
    · exact (x.reg_ttFired n a).trans (Dev.ttAdvance_regsKept (s := x.noteFire n) hctl hcmp a ha)
    · obtain ⟨hkept, hen, hfired, hlate⟩ := Dev.ttAdvance_ends (s := x.noteFire n) hm hctl
      obtain ⟨hlo, hhi, -⟩ := ttCtl_apart n
      simp only [Dev.bit_ttFired, Dev.pair_ttFired]
      exact ⟨hen, hfired, hlate, hkept.pair (by simpa using hlo.symm) (by simpa using hhi.symm)⟩
    · obtain ⟨-, hcmp', hlate, hmiss⟩ := Dev.ttAdvance_moves (s := x.noteFire n) hm hcmp
      obtain ⟨hafter, hby, hnat⟩ := Dev.next_after hdue hper' hfit
      simp only [Dev.bit_ttFired, Dev.pair_ttFired, Dev.get_ttFired]
      have hnext : (((x.noteFire n).ttAdvance n).pair lo).toNat = (x.pair0 lo).toNat + x.ttPeriods n * x.ttPer0 n :=
        (congrArg BitVec.toNat hcmp').trans hnat
      refine ⟨x.ttPeriods n, Nat.succ_pos _, hnext, ?_, ?_, hlate, hmiss⟩
      · exact BitVec.lt_def.mpr (hnext ▸ hafter)
      · exact hnext ▸ hby

end Sys2Proof.Machine
end

section
/-! Capture units (O13). -/

namespace Sys2Proof.Machine

/-- A fold over one number more is one turn more. -/
theorem Dev.each_succ (s : Dev) (n : Nat) (f : Dev → Nat → Dev) : s.each (n + 1) f = f (s.each n f) n := by
  simp [Dev.each, upto, List.range_succ]

/-! ## Edges in the dead time (R50) -/

/-- Unit `u` counts an edge of its input that comes in the dead time. -/
def Dev.loseEdge (src : Nat) (rising : Bool) (s : Dev) (u : Nat) : Dev :=
  if s.cuWatches u src rising then s.count (A.TIME_CU_STAT u) F.TIME_CU_STAT_LOST 1 else s

section
variable (s : Dev) (src : Nat) (rising : Bool)

theorem Dev.RegsOnly.loseEdge {d : Dev} (h : s.RegsOnly d) (u : Nat) : s.RegsOnly (Dev.loseEdge src rising d u) := by
  unfold Dev.loseEdge
  split
  · exact h.set ..
  · exact h

theorem Dev.loseEdge_regsKept (u : Nat) : s.RegsKept (Dev.loseEdge src rising s u) [A.TIME_CU_STAT u] := by
  unfold Dev.loseEdge
  split
  · exact (Dev.RegsKept.refl s _).set _ _ (List.mem_singleton_self _)
  · exact Dev.RegsKept.refl s _

/-- The units' status registers are apart from each other and from the units' control registers. -/
theorem cuStat_inj {u v : Nat} : A.TIME_CU_STAT u = A.TIME_CU_STAT v ↔ u = v := by
  simp only [A.TIME_CU_STAT]
  omega

theorem cuCtl_notMem_stats (m u : Nat) : A.TIME_CU_CTL u ∉ (upto m).map A.TIME_CU_STAT := by
  simp only [upto, List.mem_map, List.mem_range, A.TIME_CU_CTL, A.TIME_CU_STAT, not_exists, not_and]
  omega

theorem Dev.lost_loseEdge (u : Nat) :
    (Dev.loseEdge src rising s u).get (A.TIME_CU_STAT u) F.TIME_CU_STAT_LOST =
      if s.cuWatches u src rising then
        min (s.get (A.TIME_CU_STAT u) F.TIME_CU_STAT_LOST + 1) (2 ^ (F.TIME_CU_STAT_LOST.hi - F.TIME_CU_STAT_LOST.lo + 1) - 1)
      else s.get (A.TIME_CU_STAT u) F.TIME_CU_STAT_LOST := by
  unfold Dev.loseEdge
  split
  · exact Dev.get_count_same _ _ _ _ (by decide)
  · rfl

/-- Edges lost by the units below `m` change registers alone. -/
theorem Dev.loseEdges_regsOnly (m : Nat) : s.RegsOnly (s.each m (Dev.loseEdge src rising)) :=
  foldl_keeps s.RegsOnly _ (upto m) s (fun _ u _ hd => hd.loseEdge s src rising u) (Dev.RegsOnly.refl s)

/-- Of these only their status registers. -/
theorem Dev.loseEdges_regsKept (m : Nat) :
    s.RegsKept (s.each m (Dev.loseEdge src rising)) ((upto m).map A.TIME_CU_STAT) :=
  foldl_keeps (fun d => s.RegsKept d ((upto m).map A.TIME_CU_STAT)) _ (upto m) s
    (fun d u hu hd => hd.trans ((d.loseEdge_regsKept src rising u).mono (by simpa using ⟨u, hu, rfl⟩)))
    (Dev.RegsKept.refl s _)

/-- Each unit below `m` that watches the input has counted the edge. -/
theorem Dev.lost_loseEdges (m u : Nat) :
    (s.each m (Dev.loseEdge src rising)).get (A.TIME_CU_STAT u) F.TIME_CU_STAT_LOST =
      if u < m then (Dev.loseEdge src rising s u).get (A.TIME_CU_STAT u) F.TIME_CU_STAT_LOST
      else s.get (A.TIME_CU_STAT u) F.TIME_CU_STAT_LOST := by
  induction m with
  | zero => rfl
  | succ m ih =>
    rw [Dev.each_succ]
    by_cases hu : u = m
    · subst hu
      have hctl := s.loseEdges_regsKept src rising u _ (cuCtl_notMem_stats u u)
      rw [if_neg (Nat.lt_irrefl u)] at ih
      rw [if_pos (Nat.lt_succ_self u), Dev.lost_loseEdge, Dev.lost_loseEdge, ih, Dev.cuWatches, hctl, Dev.cuWatches]
    · rw [((s.each m _).loseEdge_regsKept src rising m).get _ (by simpa [cuStat_inj] using hu), ih]
      simp [show u < m + 1 ↔ u < m by omega]

end

/-- An edge in the dead time is lost by the units that watch it. -/
theorem Dev.edgeIn_dead {s : Dev} {inp ps : Nat} {rising : Bool} (h0 : tabGet 0 s.time.lastEdge inp ≠ 0)
    (hdead : s.ticks * 4000 + ps + 1 < tabGet 0 s.time.lastEdge inp + 16000) :
    s.edgeIn inp rising ps = s.each 32 (Dev.loseEdge (inp + 1) rising) := by
  have hcap : s.captureEdge inp rising ps = (s.each 32 (Dev.loseEdge (inp + 1) rising), none) :=
    if_pos (by simp [h0, hdead])
  simp only [Dev.edgeIn, hcap]

/-! ## Edges that are stamped (R48, R50) -/

/-- In control, and on no standby, every unit that watches the source takes the stamp. -/
theorem Dev.capture_all {s : Dev} (hrun : s.halted = false) (hstand : s.standby = false) (src : Nat) (x : Stamp) :
    s.capture src x = s.each 32 fun y u => if y.cuWatches u src x.rising then y.cuStore u x else y := by
  simp only [Dev.capture, hrun, hstand, Bool.or_self, Bool.false_eq_true, if_false]

/-- The dead time of an input starts with the edge at `now`. -/
def Dev.noteEdge (s : Dev) (inp now : Nat) : Dev := s.onTime fun t => { t with lastEdge := tabPut 0 t.lastEdge inp now }

section
variable {s : Dev} {inp ps : Nat} {rising : Bool} {st : Stamp} (hrun : s.halted = false) (hstand : s.standby = false)
  (hfree : tabGet 0 s.time.lastEdge inp = 0 ∨ tabGet 0 s.time.lastEdge inp + 16000 ≤ s.ticks * 4000 + ps + 1)
  (hst : s.edgeStamp ps rising = st) (hpol : st.rising = rising)
include hrun hstand hfree hst hpol

/-- An edge out of the dead time is stamped by the units that watch it. -/
theorem Dev.captureEdge_stamped :
    s.captureEdge inp rising ps =
      ((s.noteEdge inp (s.ticks * 4000 + ps + 1)).each 32 fun y u =>
        if y.cuWatches u (inp + 1) rising then y.cuStore u st else y, some st) := by
  have hlive : ¬ (tabGet 0 s.time.lastEdge inp != 0 &&
      decide (s.ticks * 4000 + ps + 1 < tabGet 0 s.time.lastEdge inp + 16000)) = true := by
    rw [Bool.and_eq_true, bne_iff_ne, decide_eq_true_eq]
    omega
  refine (if_neg hlive).trans ?_
  show ((s.noteEdge inp (s.ticks * 4000 + ps + 1)).capture (inp + 1) (s.edgeStamp ps rising), some (s.edgeStamp ps rising)) = _
  rw [hst, Dev.capture_all (s := s.noteEdge inp _) hrun hstand, hpol]

/-- It triggers the recorder where that watches it. -/
theorem Dev.edgeIn_stamped :
    s.edgeIn inp rising ps =
      let y := (s.noteEdge inp (s.ticks * 4000 + ps + 1)).each 32 fun y u =>
        if y.cuWatches u (inp + 1) rising then y.cuStore u st else y
      if inp < 4 ∧ y.trgInOn inp rising = true then y.recTrigger st.ts st.frac 1 inp else y := by
  simp only [Dev.edgeIn, Dev.captureEdge_stamped hrun hstand hfree hst hpol, Bool.and_eq_true, decide_eq_true_eq]

end

/-! ## The queue (R49) -/

section
variable (s : Dev) (u : Nat) (q : List Stamp)

/-- The registers that show a unit's queue. -/
def cuRegs (u : Nat) : List Nat := [A.TIME_CU_STAT u, A.TIME_CU_TS_LO u, A.TIME_CU_TS_LO u + 4]

theorem cuStat_apart : A.TIME_CU_STAT u ≠ A.TIME_CU_TS_LO u ∧ A.TIME_CU_STAT u ≠ A.TIME_CU_TS_LO u + 4 := by
  simp only [A.TIME_CU_STAT, A.TIME_CU_TS_LO]
  omega

theorem cuCtl_notMem_cuRegs : A.TIME_CU_CTL u ∉ cuRegs u := by
  simp only [cuRegs, List.mem_cons, List.not_mem_nil, or_false, not_or, A.TIME_CU_CTL, A.TIME_CU_STAT, A.TIME_CU_TS_LO]
  omega

@[simp] theorem Dev.reg_onTime (f : Time → Time) (a : Nat) : (s.onTime f).reg a = s.reg a := rfl

/-- Beside its unit's queue only registers change. -/
theorem Dev.setCuQueue_regsOnly : ({ s with stamps := tabPut [] s.stamps u q } : Dev).RegsOnly (s.setCuQueue u q) :=
  ((((((Dev.RegsOnly.refl _).set ..).set ..).set ..).setReg ..).setReg ..)

@[simp] theorem Dev.cuQueue_onTime (f : Time → Time) (k : Nat) : (s.onTime f).cuQueue k = s.cuQueue k := rfl
@[simp] theorem Dev.cuQueue_set (a : Nat) (f : Fld) (v k : Nat) : (s.set a f v).cuQueue k = s.cuQueue k := rfl
@[simp] theorem Dev.time_setCuQueue : (s.setCuQueue u q).time = s.time := by rw [(s.setCuQueue_regsOnly u q).eq]

@[simp] theorem Dev.cuQueue_setCuQueue_same : (s.setCuQueue u q).cuQueue u = q := by
  rw [(s.setCuQueue_regsOnly u q).eq]
  exact tabGet_put_same [] s.stamps u q

theorem Dev.cuQueue_setCuQueue_other {k : Nat} (h : k ≠ u) : (s.setCuQueue u q).cuQueue k = s.cuQueue k := by
  rw [(s.setCuQueue_regsOnly u q).eq]
  exact tabGet_put_other [] [] s.stamps q h

theorem Dev.setCuQueue_frame :
    s.setCuQueue u q = { s with regs := (s.setCuQueue u q).regs, stamps := (s.setCuQueue u q).stamps } := by
  rw [(s.setCuQueue_regsOnly u q).eq]

/-- A queue shows in its unit's registers alone. -/
theorem Dev.setCuQueue_regsKept : s.RegsKept (s.setCuQueue u q) (cuRegs u) := by
  have h0 : s.RegsKept { s with stamps := tabPut [] s.stamps u q } (cuRegs u) := fun _ _ => rfl
  have hm : A.TIME_CU_STAT u ∈ cuRegs u := List.mem_cons_self ..
  exact (((h0.set _ _ hm).set _ _ hm).set _ _ hm).setPair _ (by simp [cuRegs]) (by simp [cuRegs])

/-- The head's time shows in the unit's pair; 0 where the queue is empty. -/
theorem Dev.head_setCuQueue : (s.setCuQueue u q).pair (A.TIME_CU_TS_LO u) = (q.headD ⟨0, 0, false⟩).ts :=
  Dev.pair_setPair_same ..

/-- A field of the unit's status apart from the head's fraction and polarity stands as LEVEL's write leaves it. -/
theorem Dev.get_setCuQueue {f : Fld} (hf : f.ok = true)
    (hpol : f.hi < F.TIME_CU_STAT_HEADPOL.lo ∨ F.TIME_CU_STAT_HEADPOL.hi < f.lo)
    (hfrac : f.hi < F.TIME_CU_STAT_HEADFRAC.lo ∨ F.TIME_CU_STAT_HEADFRAC.hi < f.lo) :
    (s.setCuQueue u q).get (A.TIME_CU_STAT u) f =
      (s.set (A.TIME_CU_STAT u) F.TIME_CU_STAT_LEVEL q.length).get (A.TIME_CU_STAT u) f := by
  obtain ⟨hlo, hhi⟩ := cuStat_apart u
  rw [Dev.setCuQueue, Dev.setPair, Dev.get, Dev.reg_setReg_other _ _ hhi, Dev.reg_setReg_other _ _ hlo]
  refine (Dev.get_set_field _ _ _ _ _ (by decide) hf hpol).trans ?_
  exact (Dev.get_set_field _ _ _ _ _ (by decide) hf hfrac).trans rfl

theorem Dev.level_setCuQueue (h : q.length < 16) :
    (s.setCuQueue u q).get (A.TIME_CU_STAT u) F.TIME_CU_STAT_LEVEL = q.length := by
  rw [Dev.get_setCuQueue _ _ _ (by decide) (by decide) (by decide), Dev.get_set_same _ _ _ _ (by decide) h]

/-- Showing a queue leaves LOST. -/
theorem Dev.lost_setCuQueue :
    (s.setCuQueue u q).get (A.TIME_CU_STAT u) F.TIME_CU_STAT_LOST = s.get (A.TIME_CU_STAT u) F.TIME_CU_STAT_LOST := by
  rw [Dev.get_setCuQueue _ _ _ (by decide) (by decide) (by decide),
    Dev.get_set_field _ _ _ _ _ (by decide) (by decide) (by decide)]

end

/-! ## POP and CLR (R49) -/

section
variable {s : Dev} {n : Nat} {h : Stamp} {q : List Stamp} (hq : s.cuQueue n = h :: q)
include hq

/-- With no stamp waiting a POP takes the head. -/
theorem Dev.cuPop_head (hover : s.time.cuOver.find? (fun p => p.1 == n) = none) : s.cuPop n = s.setCuQueue n q := by
  simp only [Dev.cuPop, hq, List.drop_succ_cons, List.drop_zero, Dev.time_setCuQueue, hover]

/-- A stamp that found the queue full enters after the POP of its tick. -/
theorem Dev.cuPop_over {st : Stamp} (hover : s.time.cuOver = [(n, st)]) :
    s.cuPop n = ((s.setCuQueue n q).onTime fun t => { t with cuOver := t.cuOver.erase (n, st) }).cuPut n st := by
  have hfind : s.time.cuOver.find? (fun p => p.1 == n) = some (n, st) := by simp [hover]
  simp only [Dev.cuPop, hq, List.drop_succ_cons, List.drop_zero, Dev.time_setCuQueue, hfind]

end

/-- Without NOTIFY a unit with room stores a stamp at its tail, and nothing else. -/
theorem Dev.cuPut_room {s : Dev} {u : Nat} (x : Stamp) (hroom : (s.cuQueue u).length < 8)
    (hquiet : s.bit (A.TIME_CU_CTL u) F.TIME_CU_CTL_NOTIFY = false) : s.cuPut u x = s.setCuQueue u (s.cuQueue u ++ [x]) := by
  have hq : (s.setCuQueue u (s.cuQueue u ++ [x])).bit (A.TIME_CU_CTL u) F.TIME_CU_CTL_NOTIFY = false := by
    rw [Dev.bit, (s.setCuQueue_regsKept u _).get _ (cuCtl_notMem_cuRegs u)]
    exact hquiet
  simp only [Dev.cuPut, hroom, hq, if_true, Bool.false_eq_true, if_false]

/-- A full queue that a POP has made room in takes the stamp that waits, without loss. -/
theorem Dev.cuPop_enters {s : Dev} {n : Nat} {h st : Stamp} {q : List Stamp} (hq : s.cuQueue n = h :: q) (hlen : q.length < 8)
    (hover : s.time.cuOver = [(n, st)]) (hquiet : s.bit (A.TIME_CU_CTL n) F.TIME_CU_CTL_NOTIFY = false) :
    (s.cuPop n).cuQueue n = q ++ [st] ∧ (s.cuPop n).time.cuOver = [] ∧
      (s.cuPop n).get (A.TIME_CU_STAT n) F.TIME_CU_STAT_LOST = s.get (A.TIME_CU_STAT n) F.TIME_CU_STAT_LOST := by
  have hpop := Dev.cuPop_over hq hover
  generalize hy : ((s.setCuQueue n q).onTime fun t => { t with cuOver := t.cuOver.erase (n, st) }) = y at hpop
  have hyq : y.cuQueue n = q := by rw [← hy]; exact s.cuQueue_setCuQueue_same n q
  have hyr (a : Nat) : y.reg a = (s.setCuQueue n q).reg a := by rw [← hy, Dev.reg_onTime]
  have hyo : y.time.cuOver = [] := by
    rw [← hy]
    simp [Dev.onTime, hover]
  have hyn : y.bit (A.TIME_CU_CTL n) F.TIME_CU_CTL_NOTIFY = false := by
    rw [Dev.bit, Dev.get, hyr, s.setCuQueue_regsKept n q _ (cuCtl_notMem_cuRegs n)]
    exact hquiet
  have hput : s.cuPop n = y.setCuQueue n (q ++ [st]) := by
    rw [hpop, Dev.cuPut_room st (by rw [hyq]; exact hlen) hyn, hyq]
  rw [hput]
  refine ⟨y.cuQueue_setCuQueue_same n _, hyo, ?_⟩
  rw [Dev.lost_setCuQueue, Dev.get, hyr, ← Dev.get, Dev.lost_setCuQueue]

section
variable (s : Dev) (n : Nat)

/-- CLR changes registers, the queue, and the stamps that wait for room. -/
theorem Dev.cuClr_frame :
    s.cuClr n = { s with regs := (s.cuClr n).regs, stamps := (s.cuClr n).stamps,
                         time := { s.time with cuOver := (s.cuClr n).time.cuOver } } := by
  rw [Dev.cuClr, ((s.setCuQueue_regsOnly n []).set ..).eq]
  rfl

/-- Its registers are those of an empty queue with LOST cleared. -/
theorem Dev.reg_cuClr (a : Nat) :
    (s.cuClr n).reg a = ((s.setCuQueue n []).set (A.TIME_CU_STAT n) F.TIME_CU_STAT_LOST 0).reg a := by
  rw [Dev.cuClr, Dev.reg_onTime]

theorem Dev.cuClr_regsKept : s.RegsKept (s.cuClr n) (cuRegs n) := fun a ha =>
  (s.reg_cuClr n a).trans ((s.setCuQueue_regsKept n []).set _ _ (List.mem_cons_self ..) a ha)

theorem Dev.level_cuClr : (s.cuClr n).get (A.TIME_CU_STAT n) F.TIME_CU_STAT_LEVEL = 0 := by
  rw [Dev.get, Dev.reg_cuClr, ← Dev.get, Dev.get_set_field _ _ _ _ _ (by decide) (by decide) (by decide),
    Dev.level_setCuQueue _ _ _ (by decide), List.length_nil]

theorem Dev.lost_cuClr : (s.cuClr n).get (A.TIME_CU_STAT n) F.TIME_CU_STAT_LOST = 0 := by
  rw [Dev.get, Dev.reg_cuClr, ← Dev.get, Dev.get_set_same _ _ _ _ (by decide) (by decide)]

theorem Dev.cuQueue_cuClr (k : Nat) : (s.cuClr n).cuQueue k = (s.setCuQueue n []).cuQueue k := by
  rw [Dev.cuClr, Dev.cuQueue_onTime, Dev.cuQueue_set]

end

/-- Settles O13: an edge is lost or stamped by the units that watch it, and POP comes before the stamp of its tick. -/
theorem captureUnits : Obligations.CaptureUnits := by
  intro s inp rising ps n hon hrun hstand x last now
  have hedge : exec (.captureEdge inp rising ps) s = s.live (·.edgeIn inp rising ps) := rfl
  have hpop : exec (.cuPop n) s = s.go (·.cuPop n) := rfl
  refine ⟨fun h0 hdead => ?_, fun hfree => ?_, fun h q hq hover hlen => ?_, fun h q st hq hlen hover hquiet => ?_, ?_⟩
  · refine Does.of_live hedge hon hrun ?_
    rw [Dev.edgeIn_dead h0 hdead]
    refine ⟨(x.loseEdges_regsOnly (inp + 1) rising 32).eq, fun u hu => ?_, x.loseEdges_regsKept (inp + 1) rising 32⟩
    rw [Dev.lost_loseEdges, if_pos hu, Dev.lost_loseEdge]
  · refine Does.of_live hedge hon hrun ?_
    exact Dev.edgeIn_stamped hrun hstand hfree rfl rfl
  · refine Does.of_go hpop hon ?_
    rw [Dev.cuPop_head hq hover]
    exact ⟨x.setCuQueue_frame n q, x.cuQueue_setCuQueue_same n q, x.level_setCuQueue n q (by omega), x.head_setCuQueue n q,
      fun k hk => x.cuQueue_setCuQueue_other n q hk, x.setCuQueue_regsKept n q⟩
  · refine Does.of_go hpop hon ?_
    exact Dev.cuPop_enters hq (by omega) hover hquiet
  · refine Does.of_go (f := (·.cuClr n)) rfl hon ?_
    exact ⟨x.cuClr_frame n, (x.cuQueue_cuClr n n).trans (x.cuQueue_setCuQueue_same n []), x.level_cuClr n, x.lost_cuClr n,
      fun k hk => (x.cuQueue_cuClr n k).trans (x.cuQueue_setCuQueue_other n [] hk), x.cuClr_regsKept n⟩

end Sys2Proof.Machine
end

section
/-! The contents of a bank that is zeroed or copied: what zeroing and copying change, and what the bank reads then. -/

namespace Sys2Proof.Machine

/-! ## Cells of a table with rising keys -/

section
variable {α : Type}

/-- A table has no entry at or below its bound. -/
theorem tabFind_of_tabAbove {k : Nat} : ∀ {t : Tab α} {c : Nat}, k ≤ c → tabAbove (some c) t = true → tabFind t k = none
  | [], _, _, _ => rfl
  | (k', _) :: t, c, hc, h => by
    simp only [tabAbove, Bool.and_eq_true, decide_eq_true_eq] at h
    have hne : k ≠ k' := by omega
    simp only [tabFind, hne, if_false]
    exact tabFind_of_tabAbove (by omega) h.2

/-- Of a table filtered by keys the entries of the keys that stay are found. -/
theorem tabFind_filter (q : Nat → Bool) (t : Tab α) (k : Nat) :
    tabFind (t.filter fun c => q c.1) k = if q k then tabFind t k else none := by
  induction t with
  | nil => simp
  | cons c t ih =>
    obtain ⟨k', v⟩ := c
    by_cases hk : k = k'
    · subst hk
      cases hq : q k <;> simp [hq, tabFind, ih]
    · cases hq : q k' <;> simp [hq, tabFind, hk, ih]

end

/-! ## Cells written one after another -/

section
variable (f : Nat → Nat)

/-- Cells written one after another, each at its key's image under `f`. -/
def Dev.putCells (s : Dev) (cs : List Host.Cell) : Dev := cs.foldl (fun s c => s.putByte (f c.1) c.2) s

theorem Dev.putCells_cons (s : Dev) (c : Host.Cell) (cs : List Host.Cell) :
    s.putCells f (c :: cs) = (s.putByte (f c.1) c.2).putCells f cs := rfl

/-- They change memory alone. -/
theorem Dev.putCells_frame (cs : List Host.Cell) : ∀ s : Dev, ∃ m, s.putCells f cs = { s with mem := m } := by
  induction cs with
  | nil => exact fun s => ⟨s.mem, rfl⟩
  | cons c cs ih => exact fun s => (ih (s.putByte (f c.1) c.2)).imp fun _ h => h

/-- A byte that is no cell's image stays. -/
theorem Dev.byte_putCells_other {k : Nat} : ∀ (cs : List Host.Cell) (s : Dev), (∀ c ∈ cs, k ≠ f c.1) →
    (s.putCells f cs).byte k = s.byte k := by
  intro cs
  induction cs with
  | nil => exact fun _ _ => rfl
  | cons c cs ih =>
    intro s h
    rw [List.forall_mem_cons] at h
    rw [Dev.putCells_cons, ih _ h.2, Dev.byte_putByte_other _ _ h.1]

/-- The image of a key that no other key shares reads the key's cell, of cells with rising keys. -/
theorem Dev.byte_putCells_at {k : Nat} : ∀ (cs : List Host.Cell) (b : Option Nat) (s : Dev), tabAbove b cs = true →
    (∀ c ∈ cs, f k = f c.1 → k = c.1) → (s.putCells f cs).byte (f k) = (tabFind cs k).getD (s.byte (f k)) := by
  intro cs
  induction cs with
  | nil => exact fun _ _ _ _ => rfl
  | cons c cs ih =>
    intro b s ha hf
    obtain ⟨k', v⟩ := c
    rw [List.forall_mem_cons] at hf
    simp only [tabAbove, Bool.and_eq_true] at ha
    rw [Dev.putCells_cons, ih _ _ ha.2 hf.2]
    by_cases hk : k = k'
    · subst hk
      simp [tabFind, tabFind_of_tabAbove (Nat.le_refl k) ha.2]
    · have hne : f k ≠ f k' := fun e => hk (hf.1 e)
      simp [tabFind, hk, Dev.byte_putByte_other _ _ hne]

end

/-! ## Zeroing and copying a bank (R63, R69) -/

/-- An address of a bank's 512 KiB lies in the bank, and no other address does. -/
theorem bankOfAddr_eq_iff {a b : Nat} : bankOfAddr a = b ↔ bankBase b ≤ a ∧ a < bankBase b + 0x80000 := by
  simp only [bankOfAddr, bankBase]
  omega

theorem bankOfAddr_bankBase {b i : Nat} (h : i < 0x80000) : bankOfAddr (bankBase b + i) = b :=
  bankOfAddr_eq_iff.mpr ⟨Nat.le_add_right .., Nat.add_lt_add_left h _⟩

/-- A zeroed bank reads 0; the other banks stay. -/
theorem Dev.byte_zeroBank (s : Dev) (b a : Nat) :
    (s.zeroBank b).byte a = if bankOfAddr a = b then 0 else s.byte a := by
  have h := tabFind_filter (fun k => bankOfAddr k != b) s.mem a
  simp only [Dev.byte, Dev.zeroBank, tabGet, h]
  by_cases e : bankOfAddr a = b <;> simp [e, memDefault]

theorem Dev.zeroBank_memOnly (s : Dev) (b : Nat) : s.MemOnly (s.zeroBank b) (bankBase b) 0x80000 := by
  refine ⟨⟨_, _, rfl⟩, fun k hk => ?_⟩
  have hb : bankOfAddr k ≠ b := fun e => by
    have := bankOfAddr_eq_iff.mp e
    omega
  rw [Dev.byte_zeroBank, if_neg hb]

/-- The address in bank `dst` that a copy writes for an address. -/
def copyAddr (dst a : Nat) : Nat := bankBase dst + a % 0x80000

theorem bankOfAddr_copyAddr (dst a : Nat) : bankOfAddr (copyAddr dst a) = dst :=
  bankOfAddr_bankBase (Nat.mod_lt _ (by decide))

theorem copyAddr_bankBase {src i : Nat} (dst : Nat) (h : i < 0x80000) : copyAddr dst (bankBase src + i) = bankBase dst + i := by
  simp only [copyAddr, bankBase]
  omega

/-- Addresses of one bank have different places in the copy. -/
theorem copyAddr_inj {dst a b : Nat} (hb : bankOfAddr a = bankOfAddr b) (h : copyAddr dst a = copyAddr dst b) : a = b := by
  simp only [copyAddr, bankOfAddr] at h hb
  omega

/-- The cells of a bank. -/
def Dev.bankCells (s : Dev) (b : Nat) : List Host.Cell := s.mem.filter fun c => bankOfAddr c.1 == b

theorem Dev.bankOfAddr_of_mem_bankCells {s : Dev} {b : Nat} {c : Host.Cell} (h : c ∈ s.bankCells b) : bankOfAddr c.1 = b :=
  beq_iff_eq.mp (List.mem_filter.mp h).2

/-- Copying a bank zeroes the other and writes the cells into it; the pool takes the poison. -/
theorem Dev.copyBank_eq (s : Dev) (src dst : Nat) : ∃ p, s.copyBank src dst =
    { (s.zeroBank dst).putCells (copyAddr dst) ((s.zeroBank dst).bankCells src) with pool := p } := ⟨_, rfl⟩

theorem Dev.copyBank_memOnly (s : Dev) (src dst : Nat) : s.MemOnly (s.copyBank src dst) (bankBase dst) 0x80000 := by
  refine (s.zeroBank_memOnly dst).trans ?_
  obtain ⟨p, hp⟩ := s.copyBank_eq src dst
  obtain ⟨m, hm⟩ := Dev.putCells_frame (copyAddr dst) ((s.zeroBank dst).bankCells src) (s.zeroBank dst)
  refine ⟨⟨m, p, by rw [hp, hm]⟩, fun k hk => ?_⟩
  have hc : ∀ c ∈ (s.zeroBank dst).bankCells src, k ≠ copyAddr dst c.1 := fun c _ e => by
    have := bankOfAddr_eq_iff.mp (bankOfAddr_copyAddr dst c.1)
    omega
  rw [hp]
  exact Dev.byte_putCells_other _ _ _ hc

/-- The copy reads as the bank does. -/
theorem Dev.byte_copyBank {s : Dev} {src dst i : Nat} (hne : src ≠ dst) (hwf : Memory.wf s.mem = true) (hi : i < 0x80000) :
    (s.copyBank src dst).byte (bankBase dst + i) = s.byte (bankBase src + i) := by
  obtain ⟨p, hp⟩ := s.copyBank_eq src dst
  have hsrc : bankOfAddr (bankBase src + i) = src := bankOfAddr_bankBase hi
  have hrise : tabAbove none ((s.zeroBank dst).bankCells src) = true := by
    have h := Memory.wf_filter _ (fun c => bankOfAddr c.1 == src) (s.wf_zeroBank dst hwf)
    simp only [Memory.wf, tabWf, Bool.and_eq_true] at h
    exact h.1
  have hat := Dev.byte_putCells_at (copyAddr dst) (k := bankBase src + i) _ none (s.zeroBank dst) hrise
    fun c hc => copyAddr_inj (hsrc.trans (Dev.bankOfAddr_of_mem_bankCells hc).symm)
  have hcell : tabFind ((s.zeroBank dst).bankCells src) (bankBase src + i) = tabFind s.mem (bankBase src + i) := by
    rw [Dev.bankCells, tabFind_filter (fun k => bankOfAddr k == src), Dev.zeroBank,
      tabFind_filter (fun k => bankOfAddr k != dst)]
    simp [hsrc, hne]
  rw [copyAddr_bankBase dst hi, hcell, Dev.byte_zeroBank, if_pos (bankOfAddr_bankBase hi)] at hat
  rw [hp]
  exact hat

end Sys2Proof.Machine
end

section
/-! The scrubber (O15): what a scrub read and a write back of a line change. -/

namespace Sys2Proof.Machine

/-! ## What a read of a line finds (R56) -/

theorem lineFind_zero (l : Nat) : lineFind l 0 = .good := rfl

theorem lineFind_one_or_two (l : Nat) {n : Nat} (h1 : 1 ≤ n) (h2 : n ≤ 2) : lineFind l n = .corrected := by
  have h0 : n ≠ 0 := by omega
  simp only [lineFind, h0, h2, if_true, if_false]

theorem lineFind_three (l : Nat) : lineFind l 3 = .uncorrectable := rfl

/-! ## A corrected and a poisoned line (R57, R58) -/

@[simp] theorem Dev.lineErrs_setErrs_same (s : Dev) (l n : Nat) : (s.setErrs l n).lineErrs l = n :=
  tabGet_put_same 0 s.pool.errs l n

theorem Dev.lineErrs_setErrs_other (s : Dev) {l k : Nat} (n : Nat) (h : k ≠ l) : (s.setErrs l n).lineErrs k = s.lineErrs k :=
  tabGet_put_other 0 0 s.pool.errs n h

@[simp] theorem Dev.poisoned_setPoison_same (s : Dev) (l : Nat) (b : Bool) : (s.setPoison l b).poisoned l = b :=
  tabGet_put_same false s.pool.poison l b

theorem Dev.poisoned_setPoison_other (s : Dev) {l k : Nat} (b : Bool) (h : k ≠ l) :
    (s.setPoison l b).poisoned k = s.poisoned k :=
  tabGet_put_other false false s.pool.poison b h

section
variable (s : Dev) (l : Nat)

/-- A corrected read writes the bank's error counts alone of the registers. -/
theorem Dev.reg_correctedRead (a : Nat) :
    (s.correctedRead l).reg a = (s.count (A.MEM_BANK_ERR (bankOfLine l)) F.MEM_BANK_ERR_CE 1).reg a := by
  unfold Dev.correctedRead
  dsimp only
  split <;> rfl

/-- It leaves the errors of the lines and their poison. -/
theorem Dev.errs_correctedRead : (s.correctedRead l).pool.errs = s.pool.errs := by
  unfold Dev.correctedRead
  dsimp only
  split <;> rfl

theorem Dev.poison_correctedRead : (s.correctedRead l).pool.poison = s.pool.poison := by
  unfold Dev.correctedRead
  dsimp only
  split <;> rfl

/-- A corrected line as the scrubber leaves it: out of its queue, and waiting for its write back. -/
def Dev.scrubHold : Dev := s.onPool fun p => { p with
  scrubQueue := p.scrubQueue.filter (· != l), scrubWait := p.scrubWait.filter (· != l) ++ [l] }

theorem Dev.mem_scrubWait_scrubHold : l ∈ (s.scrubHold l).pool.scrubWait :=
  List.mem_append_right _ (List.mem_singleton_self l)

theorem Dev.scrubCorrected_frame {d : Dev} (hd : d = (s.correctedRead l).scrubHold l) :
    d = { s with regs := d.regs, pool := d.pool, scribe := d.scribe, free := d.free } := by
  subst hd
  rw [Dev.scrubHold, s.correctedRead_readsTo l]
  rfl

/-- A corrected line is counted in its bank's CE. -/
theorem Dev.ce_correctedRead {b : Nat} (hb : bankOfLine l = b) : (s.correctedRead l).get (A.MEM_BANK_ERR b) F.MEM_BANK_ERR_CE =
    min (s.get (A.MEM_BANK_ERR b) F.MEM_BANK_ERR_CE + 1) 65535 := by
  rw [Dev.get, s.reg_correctedRead l, hb]
  exact s.get_count_same _ _ _ (by decide)

theorem Dev.correctedRead_regsKept {b : Nat} (hb : bankOfLine l = b) : s.RegsKept (s.correctedRead l) [A.MEM_BANK_ERR b] :=
  fun a ha => by
    rw [s.reg_correctedRead l, hb]
    exact (Dev.RegsKept.refl s _).set _ _ (List.mem_cons_self ..) a ha

/-- Poisoning a line counts UE and names the line in MEM_POISON_LAST. -/
theorem Dev.reg_poisonLine (a : Nat) : (s.poisonLine l).reg a =
    ((s.count (A.MEM_BANK_ERR (bankOfLine l)) F.MEM_BANK_ERR_UE 1).setReg A.MEM_POISON_LAST
      (BitVec.ofNat 32 (bankOfLine l * 65536 + l % 32768))).reg a := rfl

theorem Dev.poisonLine_readsTo : s.ReadsTo (s.poisonLine l) := rfl

theorem Dev.lineErrs_poisonLine : (s.poisonLine l).lineErrs l = 0 := Dev.lineErrs_setErrs_same (s.setPoison l true) l 0

theorem Dev.poisoned_poisonLine : (s.poisonLine l).poisoned l = true := s.poisoned_setPoison_same l true

/-- An uncorrectable line is counted in its bank's UE. -/
theorem Dev.ue_poisonLine {b : Nat} (hb : bankOfLine l = b) (hlt : b < 80) :
    (s.poisonLine l).get (A.MEM_BANK_ERR b) F.MEM_BANK_ERR_UE = min (s.get (A.MEM_BANK_ERR b) F.MEM_BANK_ERR_UE + 1) 65535 := by
  have hne : A.MEM_BANK_ERR b ≠ A.MEM_POISON_LAST := by
    simp only [A.MEM_BANK_ERR, A.MEM_POISON_LAST]
    omega
  rw [Dev.get, s.reg_poisonLine l, hb, Dev.reg_setReg_other _ _ hne]
  exact s.get_count_same _ _ _ (by decide)

theorem Dev.poisonLast_poisonLine {b : Nat} (hb : bankOfLine l = b) :
    (s.poisonLine l).reg A.MEM_POISON_LAST = BitVec.ofNat 32 (b * 65536 + l % 32768) := by
  rw [s.reg_poisonLine l, hb, Dev.reg_setReg_same]

theorem Dev.poisonLine_regsKept {b : Nat} (hb : bankOfLine l = b) :
    s.RegsKept (s.poisonLine l) [A.MEM_BANK_ERR b, A.MEM_POISON_LAST] := fun a ha => by
  rw [s.reg_poisonLine l, hb]
  exact ((Dev.RegsKept.refl s _).set _ _ (List.mem_cons_self ..)).setReg _ (by simp) a ha

end

/-! ## The scrub read and the write back (R60) -/

/-- Taking the next line moves the queue and the pass alone. -/
theorem Pool.scrubNext_frame {p q : Pool} {b l : Nat} (h : p.scrubNext b = (l, q)) :
    q = { p with scrubQueue := q.scrubQueue, scrubPos := q.scrubPos, passCe := q.passCe } := by
  unfold Pool.scrubNext at h
  split at h <;> (cases h; rfl)

/-- The device whose scrubber has taken line `l` and left the pool `p`: `n` stored bits of the line are wrong. -/
def Dev.scrubFound (s : Dev) (p : Pool) (l n : Nat) : Dev := ({ s with pool := p } : Dev).setErrs l n

/-- What the scrubber does with a line by what its read finds. -/
def Dev.scrubOutcome (s : Dev) (l : Nat) : LineFind → Dev
  | .good | .wrong => s
  | .corrected => (s.correctedRead l).scrubHold l
  | .uncorrectable => s.poisonLine l

/-- A scrub read of a bank that no wipe holds, of a line that is not poisoned. -/
theorem Dev.scrubRead_eq {s : Dev} {b l : Nat} {p : Pool} (bits : Nat) (hw : s.wiping b = false)
    (hn : s.pool.scrubNext b = (l, p)) (hp : s.poisoned l = false) :
    s.scrubRead b bits =
      (s.scrubFound p l (s.lineErrs l + bits)).scrubOutcome l (lineFind l (s.lineErrs l + bits)) := by
  have hq := Pool.scrubNext_frame hn
  have hp' : ({ s with pool := p } : Dev).poisoned l = false := by rw [hq]; exact hp
  have he : ({ s with pool := p } : Dev).lineErrs l = s.lineErrs l := by rw [hq]; rfl
  simp only [Dev.scrubRead, hw, hn, hp', he, Dev.lineErrs_setErrs_same, Bool.false_eq_true, if_false]
  cases lineFind l (s.lineErrs l + bits) <;> rfl

/-- What the scrubber found stands in the pool; no line's poison is another. -/
theorem Dev.poison_scrubFound {s : Dev} {b l : Nat} {p : Pool} (n : Nat) (hn : s.pool.scrubNext b = (l, p)) :
    (s.scrubFound p l n).pool.poison = s.pool.poison := by
  rw [Pool.scrubNext_frame hn]
  rfl

theorem Dev.lineErrs_scrubFound (s : Dev) (p : Pool) (l n : Nat) : (s.scrubFound p l n).lineErrs l = n :=
  Dev.lineErrs_setErrs_same _ l n

/-- SCRUB_READ of a bank that no wipe holds, of a line that is not poisoned, by what it finds. -/
theorem Does.scrubRead {s : State} {bank : Fin 80} {bits : Fin 146} {l : Nat} {p : Pool} {P : Dev → Prop}
    (hon : s.dev.on = true) (hw : s.dev.wiping bank = false) (hn : s.dev.pool.scrubNext bank = (l, p))
    (hp : s.dev.poisoned l = false) {f : LineFind} (hf : lineFind l (s.dev.lineErrs l + bits.val) = f)
    (h : P ((s.dev.scrubFound p l (s.dev.lineErrs l + bits.val)).scrubOutcome l f)) : Does (.scrubRead bank bits) s P := by
  refine Does.of_go (f := (·.scrubRead bank bits)) rfl hon ?_
  rw [Dev.scrubRead_eq _ hw hn hp, hf]
  exact h

/-- The write back of line `j`, not poisoned: the line waits no more and holds no error. -/
theorem Dev.scrubWriteback_eq {s : Dev} {b j : Nat} (hj : s.pool.scrubWait.find? (fun l => bankOfLine l == b) = some j)
    (hp : s.poisoned j = false) :
    s.scrubWriteback b = (s.onPool fun p => { p with scrubWait := p.scrubWait.filter (· != j) }).setErrs j 0 := by
  have hp' : (s.onPool fun p => { p with scrubWait := p.scrubWait.filter (· != j) }).poisoned j = false := hp
  simp only [Dev.scrubWriteback, hj, hp', Bool.false_eq_true, if_false]

theorem Dev.notMem_scrubWait_writeback {s : Dev} {b j : Nat}
    (hj : s.pool.scrubWait.find? (fun l => bankOfLine l == b) = some j) (hp : s.poisoned j = false) :
    j ∉ (s.scrubWriteback b).pool.scrubWait := by
  rw [Dev.scrubWriteback_eq hj hp]
  simp [Dev.setErrs, Dev.onPool]

end Sys2Proof.Machine
end

section
/-! The Jig (O15): requested tests, background tests, and row repair during work. -/

namespace Sys2Proof.Machine

/-! ## Registers of the Jig and of the banks -/

/-- No bank's status register is a register of the Jig. -/
theorem bankStat_ne_jig (b : Nat) : A.MEM_BANK_STAT b ≠ A.MEM_JIG_CTL := by
  simp only [A.MEM_BANK_STAT, A.MEM_JIG_CTL]
  omega

/-- Whether a test is allowed turns on the banks' status registers alone. -/
theorem Dev.RegsKept.jigOk {s d : Dev} (h : s.RegsKept d [A.MEM_JIG_CTL]) (mode bank save : Nat) :
    d.jigOk mode bank save = s.jigOk mode bank save := by
  have hget (b : Nat) (f : Fld) : d.get (A.MEM_BANK_STAT b) f = s.get (A.MEM_BANK_STAT b) f :=
    h.get f (by simpa using bankStat_ne_jig b)
  simp only [Dev.jigOk, Dev.released, Dev.owner, Dev.bit, hget]

/-- The fields of a request stand in MEM_JIG_CTL. -/
def Dev.jigSet (s : Dev) (j : JigRun) : Dev :=
  ((s.set A.MEM_JIG_CTL F.MEM_JIG_CTL_MODE j.mode).set A.MEM_JIG_CTL F.MEM_JIG_CTL_BANK j.bank).set
    A.MEM_JIG_CTL F.MEM_JIG_CTL_SAVE j.save

section
variable (s : Dev) (j : JigRun)

theorem Dev.jigSet_regsKept : s.RegsKept (s.jigSet j) [A.MEM_JIG_CTL] :=
  (((Dev.RegsKept.refl s _).set _ _ (List.mem_singleton_self _)).set _ _ (List.mem_singleton_self _)).set _ _
    (List.mem_singleton_self _)

theorem Dev.save_jigSet (h : j.save < 128) : (s.jigSet j).get A.MEM_JIG_CTL F.MEM_JIG_CTL_SAVE = j.save :=
  Dev.get_set_same _ _ _ _ (by decide) h

theorem Dev.bank_jigSet (h : j.bank < 128) : (s.jigSet j).get A.MEM_JIG_CTL F.MEM_JIG_CTL_BANK = j.bank := by
  rw [Dev.jigSet, Dev.get_set_field _ _ _ _ _ (by decide) (by decide) (by decide)]
  exact Dev.get_set_same _ _ _ _ (by decide) h

theorem Dev.mode_jigSet (h : j.mode < 4) : (s.jigSet j).get A.MEM_JIG_CTL F.MEM_JIG_CTL_MODE = j.mode := by
  rw [Dev.jigSet, Dev.get_set_field _ _ _ _ _ (by decide) (by decide) (by decide),
    Dev.get_set_field _ _ _ _ _ (by decide) (by decide) (by decide)]
  exact Dev.get_set_same _ _ _ _ (by decide) h

end

/-! ## A request (R69) -/

/-- The request that a write of MEM_JIG_CTL makes. -/
def jigRequest (v : Word) : JigRun := ⟨F.MEM_JIG_CTL_BANK.of v, F.MEM_JIG_CTL_MODE.of v, F.MEM_JIG_CTL_SAVE.of v⟩

/-- A request of defined encodings. -/
def JigRun.Defined (j : JigRun) : Prop := j.mode ≤ 2 ∧ j.bank < 80 ∧ 48 ≤ j.save ∧ j.save < 80

/-- What the begin of a test copies: PRESERVING saves the bank. -/
def Dev.jigSave (s : Dev) (j : JigRun) : Dev := if j.mode = 1 then s.copyBank j.bank j.save else s

/-- A test begins. -/
def Dev.jigBegin (s : Dev) (j : JigRun) : Dev :=
  ((s.jigSave j).onPool fun p => { p with jig := some j }).set A.MEM_JIG_STAT F.MEM_JIG_STAT_RUN 1

/-- A request of defined encodings starts its test where none runs and it is allowed, else it is refused with BUSY. -/
theorem Dev.jigGo_eq (s : Dev) {v : Word} {j : JigRun} (hv : jigRequest v = j) (hj : j.Defined) :
    s.jigGo v = if s.pool.jig.isNone && s.jigOk j.mode j.bank j.save then (s.jigSet j).jigBegin j
      else (s.jigSet j).raise A.MEM_JIG_STAT F.MEM_JIG_STAT_BUSY := by
  subst hv
  obtain ⟨hmode, hbank, hlo, hhi⟩ := hj
  have lmode : F.MEM_JIG_CTL_MODE.isLegal (jigRequest v).mode = true := by simpa [Fld.isLegal, F.MEM_JIG_CTL_MODE] using hmode
  have lbank : F.MEM_JIG_CTL_BANK.isLegal (jigRequest v).bank = true := by
    simpa [Fld.isLegal, F.MEM_JIG_CTL_BANK] using Nat.le_of_lt_succ hbank
  have lsave : F.MEM_JIG_CTL_SAVE.isLegal (jigRequest v).save = true := by
    simpa [Fld.isLegal, F.MEM_JIG_CTL_SAVE] using ⟨hlo, Nat.le_of_lt_succ hhi⟩
  have hset : ((s.set A.MEM_JIG_CTL F.MEM_JIG_CTL_MODE (F.MEM_JIG_CTL_MODE.of v)).set
      A.MEM_JIG_CTL F.MEM_JIG_CTL_BANK (F.MEM_JIG_CTL_BANK.of v)).set
      A.MEM_JIG_CTL F.MEM_JIG_CTL_SAVE (F.MEM_JIG_CTL_SAVE.of v) = s.jigSet (jigRequest v) := rfl
  simp only [jigRequest] at lmode lbank lsave
  simp only [Dev.jigGo, lmode, lbank, lsave, if_true, hset]
  rw [s.mode_jigSet (jigRequest v) (by omega), s.bank_jigSet (jigRequest v) (by omega), s.save_jigSet (jigRequest v) (by omega),
    (s.jigSet_regsKept (jigRequest v)).jigOk]
  rfl

theorem Dev.jigGo_starts {s : Dev} {v : Word} (hj : (jigRequest v).Defined) (hn : s.pool.jig = none)
    (hok : s.jigOk (jigRequest v).mode (jigRequest v).bank (jigRequest v).save = true) :
    s.jigGo v = (s.jigSet (jigRequest v)).jigBegin (jigRequest v) := by
  rw [s.jigGo_eq rfl hj, hn, hok]
  rfl

theorem Dev.jigGo_refused {s : Dev} {v : Word} (hj : (jigRequest v).Defined)
    (hno : s.pool.jig ≠ none ∨ s.jigOk (jigRequest v).mode (jigRequest v).bank (jigRequest v).save = false) :
    s.jigGo v = (s.jigSet (jigRequest v)).raise A.MEM_JIG_STAT F.MEM_JIG_STAT_BUSY := by
  rw [s.jigGo_eq rfl hj, if_neg]
  simp only [Bool.and_eq_true, Option.isNone_iff_eq_none, not_and, Bool.not_eq_true]
  exact fun h => hno.resolve_left (not_not_intro h)

section
variable (s : Dev) (j : JigRun)

theorem Dev.jigSave_of_mode_eq (h : j.mode = 1) : s.jigSave j = s.copyBank j.bank j.save := if_pos h

theorem Dev.jigSave_of_mode_ne (h : j.mode ≠ 1) : s.jigSave j = s := if_neg h

theorem Dev.jigSave_memOnly : s.MemOnly (s.jigSave j) (bankBase j.save) 0x80000 := by
  unfold Dev.jigSave
  split
  · exact s.copyBank_memOnly j.bank j.save
  · exact Dev.MemOnly.refl s _ _

theorem Dev.jigBegin_frame : s.jigBegin j =
    { s with regs := (s.jigBegin j).regs, mem := (s.jigBegin j).mem, pool := (s.jigBegin j).pool } := by
  rw [Dev.jigBegin, (s.jigSave_memOnly j).eq]
  rfl

theorem Dev.mem_jigBegin : (s.jigBegin j).mem = (s.jigSave j).mem := rfl

theorem Dev.byte_jigBegin (a : Nat) : (s.jigBegin j).byte a = (s.jigSave j).byte a := rfl

theorem Dev.jigBegin_regsKept : s.RegsKept (s.jigBegin j) [A.MEM_JIG_STAT] :=
  Dev.RegsKept.set (d := (s.jigSave j).onPool fun p => { p with jig := some j })
    (fun a _ => (s.jigSave_memOnly j).reg a) _ _ (List.mem_singleton_self _)

theorem Dev.run_jigBegin : (s.jigBegin j).bit A.MEM_JIG_STAT F.MEM_JIG_STAT_RUN = true :=
  Dev.bit_setBit_same _ _ _ true (by decide)

/-! ## The end of a test (R69) -/

/-- What the end of a test leaves in the bank: zeroes, the contents saved, or what stands there. -/
def Dev.jigRestore : Dev := if j.mode = 0 then s.zeroBank j.bank else if j.mode = 1 then s.copyBank j.save j.bank else s

/-- A test that found no failing line ends. -/
def Dev.jigEnd : Dev :=
  ((((s.jigRestore j).onPool fun p => { p with jig := none }).set A.MEM_JIG_STAT F.MEM_JIG_STAT_RUN 0).set
    A.MEM_JIG_STAT F.MEM_JIG_STAT_FAILROWS 0).raise A.MEM_JIG_STAT F.MEM_JIG_STAT_DONE

theorem Dev.jigDone_nil (h : s.pool.jig = some j) : s.jigDone [] = s.jigEnd j := by
  simp only [Dev.jigDone, h]
  rfl

theorem Dev.jigRestore_destructive (h : j.mode = 0) : s.jigRestore j = s.zeroBank j.bank := if_pos h

theorem Dev.jigRestore_preserving (h : j.mode = 1) : s.jigRestore j = s.copyBank j.save j.bank := by
  simp only [Dev.jigRestore, h, Nat.one_ne_zero, if_true, if_false]

theorem Dev.jigRestore_transparent (h : j.mode = 2) : s.jigRestore j = s := by simp [Dev.jigRestore, h]

theorem Dev.jigRestore_memOnly : s.MemOnly (s.jigRestore j) (bankBase j.bank) 0x80000 := by
  unfold Dev.jigRestore
  split
  · exact s.zeroBank_memOnly j.bank
  · split
    · exact s.copyBank_memOnly j.save j.bank
    · exact Dev.MemOnly.refl s _ _

theorem Dev.jigEnd_frame : s.jigEnd j =
    { s with regs := (s.jigEnd j).regs, mem := (s.jigEnd j).mem, pool := (s.jigEnd j).pool, hwSet := (s.jigEnd j).hwSet } := by
  rw [Dev.jigEnd, (s.jigRestore_memOnly j).eq]
  rfl

theorem Dev.mem_jigEnd : (s.jigEnd j).mem = (s.jigRestore j).mem := rfl

theorem Dev.byte_jigEnd (a : Nat) : (s.jigEnd j).byte a = (s.jigRestore j).byte a := rfl

theorem Dev.jigEnd_regsKept : s.RegsKept (s.jigEnd j) [A.MEM_JIG_STAT] :=
  (((Dev.RegsKept.set (d := (s.jigRestore j).onPool fun p => { p with jig := none })
    (fun a _ => (s.jigRestore_memOnly j).reg a) _ _ (List.mem_singleton_self _)).set _ _ (List.mem_singleton_self _))).raise _
    (List.mem_singleton_self _)

theorem Dev.done_jigEnd : (s.jigEnd j).bit A.MEM_JIG_STAT F.MEM_JIG_STAT_DONE = true := Dev.bit_raise_same _ _ _ (by decide)

theorem Dev.run_jigEnd : (s.jigEnd j).bit A.MEM_JIG_STAT F.MEM_JIG_STAT_RUN = false := by
  rw [Dev.jigEnd, Dev.bit_raise_field _ _ _ _ (by decide) (by decide) (by decide), Dev.bit,
    Dev.get_set_field _ _ _ _ _ (by decide) (by decide) (by decide), Dev.get_set_same _ _ _ _ (by decide) (by decide)]
  rfl

theorem Dev.failRows_jigEnd : (s.jigEnd j).get A.MEM_JIG_STAT F.MEM_JIG_STAT_FAILROWS = 0 := by
  rw [Dev.jigEnd, Dev.get, Dev.reg_raise, ← Dev.get, Dev.get_set_field _ _ _ _ _ (by decide) (by decide) (by decide)]
  exact Dev.get_set_same _ _ _ _ (by decide) (by decide)

end

/-! ## Background tests (R70) -/

/-- A bank without a failing line: its next region has been tested, unless a wipe holds it. -/
def Dev.jigNext (s : Dev) (b : Nat) : Dev :=
  if s.wiping b then s
  else s.onPool fun p => { p with jigPos := tabPut 0 p.jigPos b ((tabGet 0 p.jigPos b + 1) % 128) }

theorem Dev.jigBg_nil (s : Dev) (h : s.bit A.MEM_JIG_BG F.MEM_JIG_BG_EN = true) : s.jigBg [] = s.each 80 Dev.jigNext := by
  simp only [Dev.jigBg, h, if_true]
  rfl

/-- Tests of the first `n` banks move the regions of those that no wipe holds, and nothing else. -/
theorem Dev.each_jigNext (s : Dev) (n : Nat) : ∃ t, s.each n Dev.jigNext = { s with pool := { s.pool with jigPos := t } } ∧
    ∀ b, tabGet 0 t b =
      if b < n ∧ s.wiping b = false then (tabGet 0 s.pool.jigPos b + 1) % 128 else tabGet 0 s.pool.jigPos b := by
  induction n with
  | zero => exact ⟨s.pool.jigPos, rfl, by simp⟩
  | succ n ih =>
    obtain ⟨t, ht, hpos⟩ := ih
    rw [Dev.each_succ, ht]
    cases hw : s.wiping n with
    | true =>
      refine ⟨t, if_pos hw, fun b => ?_⟩
      rw [hpos]
      by_cases hb : b = n
      · simp [hb, hw]
      · have : b < n + 1 ↔ b < n := by omega
        simp only [this]
    | false =>
      have hw' : ¬ s.wiping n = true := by simp [hw]
      refine ⟨_, if_neg hw', fun b => ?_⟩
      by_cases hb : b = n
      · subst hb
        rw [tabGet_put_same, hpos]
        simp [hw]
      · have : b < n + 1 ↔ b < n := by omega
        rw [tabGet_put_other _ _ _ _ hb, hpos]
        simp only [this]

/-! ## Row repair during work (R72) -/

/-- Lines of a bank poisoned one after another. -/
def Dev.poisonLines (s : Dev) (b : Nat) (lines : List Nat) : Dev := lines.foldl (fun s l => s.setPoison (lineNo b l) true) s

section
variable (s : Dev) (b : Nat)

theorem Dev.poisonLines_frame (lines : List Nat) : ∃ p, s.poisonLines b lines = { s with pool := p } := by
  induction lines generalizing s with
  | nil => exact ⟨s.pool, rfl⟩
  | cons l lines ih => exact ih (s.setPoison (lineNo b l) true)

/-- A line that is poisoned stays so. -/
theorem Dev.poisonLines_keeps {k : Nat} (lines : List Nat) (h : s.poisoned k = true) :
    (s.poisonLines b lines).poisoned k = true := by
  refine foldl_keeps (fun d => d.poisoned k = true) _ lines s (fun d l _ hd => ?_) h
  by_cases hk : k = lineNo b l
  · subst hk
    exact d.poisoned_setPoison_same _ true
  · rw [d.poisoned_setPoison_other true hk, hd]

theorem Dev.poisoned_poisonLines (lines : List Nat) : ∀ l ∈ lines,
    (s.poisonLines b lines).poisoned (lineNo b l) = true := by
  induction lines generalizing s with
  | nil => simp
  | cons k lines ih =>
    intro l hl
    rcases List.mem_cons.mp hl with rfl | hl
    · exact Dev.poisonLines_keeps _ b lines (s.poisoned_setPoison_same _ true)
    · exact ih _ l hl

variable (lines : List Nat)

/-- With a spare row free, it is taken. -/
theorem Dev.repairWork_spare
    (h : s.get (A.MEM_BANK_STAT b) F.MEM_BANK_STAT_SOFT + s.get (A.MEM_BANK_STAT b) F.MEM_BANK_STAT_FUSED < 2) :
    s.repairWork b lines = (s.set (A.MEM_BANK_STAT b) F.MEM_BANK_STAT_SOFT
      (s.get (A.MEM_BANK_STAT b) F.MEM_BANK_STAT_SOFT + 1)).offer 0x42 0x03 .rowRepaired := by
  simp only [Dev.repairWork, Dev.takeSpare, h, if_true]

/-- Without one, the failing lines are poisoned and the bank is DEGRADED. -/
theorem Dev.repairWork_degraded
    (h : 2 ≤ s.get (A.MEM_BANK_STAT b) F.MEM_BANK_STAT_SOFT + s.get (A.MEM_BANK_STAT b) F.MEM_BANK_STAT_FUSED) :
    s.repairWork b lines =
      ((s.poisonLines b lines).set (A.MEM_BANK_STAT b) F.MEM_BANK_STAT_DEGRADED 1).offer 0x42 0x03 .bankDegraded := by
  simp only [Dev.repairWork, Dev.takeSpare, Nat.not_lt.mpr h, if_false]
  rfl

theorem Dev.poisonLines_reg (a : Nat) : (s.poisonLines b lines).reg a = s.reg a := by
  obtain ⟨p, hp⟩ := s.poisonLines_frame b lines
  rw [hp]
  rfl

theorem Dev.poisonLines_mem : (s.poisonLines b lines).mem = s.mem := by
  obtain ⟨p, hp⟩ := s.poisonLines_frame b lines
  rw [hp]

/-- A spare that is taken counts in SOFT, and nothing of the pool or memory changes. -/
theorem Dev.repairWork_of_spare
    (h : s.get (A.MEM_BANK_STAT b) F.MEM_BANK_STAT_SOFT + s.get (A.MEM_BANK_STAT b) F.MEM_BANK_STAT_FUSED < 2) :
    (s.repairWork b lines).get (A.MEM_BANK_STAT b) F.MEM_BANK_STAT_SOFT = s.get (A.MEM_BANK_STAT b) F.MEM_BANK_STAT_SOFT + 1 ∧
    (s.repairWork b lines).pool = s.pool ∧ (s.repairWork b lines).mem = s.mem ∧
    s.RegsKept (s.repairWork b lines) [A.MEM_BANK_STAT b] := by
  rw [s.repairWork_spare b lines h]
  have hlt : s.get (A.MEM_BANK_STAT b) F.MEM_BANK_STAT_SOFT + 1 < 4 := by omega
  exact ⟨Dev.get_set_same s _ _ _ (by decide) hlt, rfl, rfl, (Dev.RegsKept.refl s _).set _ _ (List.mem_singleton_self _)⟩

/-- A bank without a spare keeps its owner and its bytes; its failing lines read as poisoned. -/
theorem Dev.repairWork_of_noSpare
    (h : 2 ≤ s.get (A.MEM_BANK_STAT b) F.MEM_BANK_STAT_SOFT + s.get (A.MEM_BANK_STAT b) F.MEM_BANK_STAT_FUSED) :
    (∀ l ∈ lines, (s.repairWork b lines).poisoned (lineNo b l) = true) ∧
    (s.repairWork b lines).bit (A.MEM_BANK_STAT b) F.MEM_BANK_STAT_DEGRADED = true ∧
    (s.repairWork b lines).owner b = s.owner b ∧ (s.repairWork b lines).mem = s.mem ∧
    s.RegsKept (s.repairWork b lines) [A.MEM_BANK_STAT b] := by
  rw [s.repairWork_degraded b lines h]
  have hreg : s.RegsKept (s.poisonLines b lines) [A.MEM_BANK_STAT b] := fun a _ => s.poisonLines_reg b lines a
  refine ⟨s.poisoned_poisonLines b lines, Dev.bit_setBit_same _ _ _ true (by decide), ?_, s.poisonLines_mem b lines,
    hreg.set _ _ (List.mem_singleton_self _)⟩
  refine (Dev.get_set_field _ _ _ _ _ (by decide) (by decide) (by decide)).trans ?_
  rw [Dev.get, s.poisonLines_reg]
  rfl

end

/-! ## The statement -/

/-- Settles O15: a scrub read acts by what it finds in the line, a test copies, zeroes or keeps a bank, and a row that fails
during work takes a spare or has its lines poisoned. -/
theorem scrubberAndJig : Obligations.ScrubberAndJig := by
  unfold Obligations.ScrubberAndJig
  constructor
  · intro s bank bits l p hon hw hn hp hb n err
    let y := s.dev.scrubFound p l n
    have hpo : y.pool.poison = s.dev.pool.poison := Dev.poison_scrubFound n hn
    have hn' : y.lineErrs l = n := Dev.lineErrs_scrubFound ..
    refine ⟨fun h => ?_, fun h1 h2 => ?_, fun h => ?_, fun j hj hpj => ?_⟩
    · exact Does.scrubRead hon hw hn hp ((congrArg (lineFind l) h).trans (lineFind_zero l)) ⟨rfl, hn'.trans h, hpo, rfl⟩
    · refine Does.scrubRead hon hw hn hp (lineFind_one_or_two l h1 h2) ⟨y.scrubCorrected_frame l rfl, ?_,
        Dev.mem_scrubWait_scrubHold _ l, (y.poison_correctedRead l).trans hpo, y.ce_correctedRead l hb,
        y.correctedRead_regsKept l hb⟩
      exact (congrArg (tabGet 0 · l) (y.errs_correctedRead l)).trans hn'
    · exact Does.scrubRead hon hw hn hp ((congrArg (lineFind l) h).trans (lineFind_three l)) ⟨y.poisonLine_readsTo l,
        y.poisoned_poisonLine l, y.lineErrs_poisonLine l, y.ue_poisonLine l hb bank.isLt, y.poisonLast_poisonLine l hb,
        y.poisonLine_regsKept l hb⟩
    · refine Does.of_go (f := (·.scrubWriteback bank)) rfl hon ?_
      have hgone := Dev.notMem_scrubWait_writeback hj hpj
      rw [Dev.scrubWriteback_eq hj hpj] at hgone ⊢
      exact ⟨rfl, Dev.lineErrs_setErrs_same _ j 0, hgone, fun k hk => Dev.lineErrs_setErrs_other _ 0 hk, rfl⟩
  · intro s v hon x mode bank save fldOk
    let j : JigRun := jigRequest v
    let y := x.jigSet j
    have hy : x.RegsKept y [A.MEM_JIG_CTL] := x.jigSet_regsKept j
    refine ⟨fun hf hnone hok => ?_, fun hf hno => ?_, fun r hr => ?_, fun hen => ?_, ?_⟩
    · refine Does.of_go (f := (·.jigGo v)) rfl hon ?_
      rw [Dev.jigGo_starts hf hnone hok]
      refine ⟨rfl, y.run_jigBegin j, y.jigBegin_frame j, ?_, fun h => ?_,
        fun h hne hwf => ⟨fun i hi => ?_, (y.jigSave_memOnly j).2⟩⟩
      · exact (hy.mono (by simp)).trans ((y.jigBegin_regsKept j).mono (by simp))
      · rw [y.mem_jigBegin j, y.jigSave_of_mode_ne j h]
        rfl
      · rw [y.byte_jigBegin j, y.jigSave_of_mode_eq j h]
        exact Dev.byte_copyBank hne hwf.1 hi
    · refine Does.of_go (f := (·.jigGo v)) rfl hon ?_
      rw [Dev.jigGo_refused hf hno]
      exact ⟨Dev.bit_raise_same _ _ _ (by decide), rfl, (hy.mono (by simp)).raise _ (by simp)⟩
    · refine Does.of_go (f := (·.jigDone [])) rfl hon ?_
      rw [x.jigDone_nil r hr]
      refine ⟨rfl, x.done_jigEnd r, x.run_jigEnd r, x.failRows_jigEnd r, x.jigEnd_frame r, x.jigEnd_regsKept r,
        fun h i hi => ?_, fun h hne hwf i hi => ?_, fun h => ?_, (x.jigRestore_memOnly r).2⟩
      · rw [x.byte_jigEnd r, x.jigRestore_destructive r h, Dev.byte_zeroBank, if_pos (bankOfAddr_bankBase hi)]
      · rw [x.byte_jigEnd r, x.jigRestore_preserving r h, Dev.byte_copyBank hne.symm hwf.1 hi]
      · rw [x.mem_jigEnd r, x.jigRestore_transparent r h]
    · refine Does.of_go (f := (·.jigBg [])) rfl hon ?_
      obtain ⟨t, ht, hpos⟩ := x.each_jigNext 80
      rw [x.jigBg_nil hen, ht]
      refine ⟨rfl, fun b hb => (hpos b).trans ?_⟩
      cases x.wiping b <;> simp [hb]
    · exact fun b lines => ⟨x.repairWork_of_spare b lines, x.repairWork_of_noSpare b lines⟩

end Sys2Proof.Machine
end

section
/-! Rows of the statements about Hiward-L, and what an instruction gives the task's bank. -/

namespace Sys2Proof.Machine

/-! ## Rows of a statement -/

theorem each_nil {α β : Type} {P : α → β → Prop} : ∀ a b, (a, b) ∈ ([] : List (α × β)) → P a b := by simp

/-- What holds of the first row and of each row after it holds of each row. -/
theorem each_cons {α β : Type} {P : α → β → Prop} {a : α} {b : β} {l : List (α × β)} (h : P a b)
    (hl : ∀ a b, (a, b) ∈ l → P a b) : ∀ a' b', (a', b') ∈ (a, b) :: l → P a' b' := by
  intro a' b' hm
  obtain he | hm := List.mem_cons.1 hm
  · obtain ⟨rfl, rfl⟩ := Prod.mk.inj he
    exact h
  · exact hl a' b' hm

theorem each3_nil {α β γ : Type} {P : α → β → γ → Prop} : ∀ a b c, (a, b, c) ∈ ([] : List (α × β × γ)) → P a b c := by simp

/-- The same for rows of three. -/
theorem each3_cons {α β γ : Type} {P : α → β → γ → Prop} {a : α} {b : β} {c : γ} {l : List (α × β × γ)} (h : P a b c)
    (hl : ∀ a b c, (a, b, c) ∈ l → P a b c) : ∀ a' b' c', (a', b', c') ∈ (a, b, c) :: l → P a' b' c' := by
  intro a' b' c' hm
  obtain he | hm := List.mem_cons.1 hm
  · cases he
    exact h
  · exact hl a' b' c' hm

/-! ## Instructions on an engine that is ready -/

/-- An instruction that works on the task's bank alone. -/
theorem Dev.Ready.onBank {c : Instr} {s : State} {e t n : Nat} {f : Task → Task} {k : Task} (h : s.dev.Ready e t)
    (he : exec c s = s.go (·.hl e (onBank n f))) (hk : f (s.dev.hlBank e t) = k) : Banks c s e t k n :=
  h.banks he (by rw [← hk]; rfl)

/-- An instruction that leaves the registers, on an engine that is ready. -/
theorem Dev.Ready.sets {c : Instr} {s : State} {e t n : Nat} {f : HlStep} {y : Dev} {k : Task} (h : s.dev.Ready e t)
    (he : exec c s = s.go (·.hl e f)) (hf : f s.dev e t (s.dev.hlBank e t) = .ok y k n) (hy : y.regs = s.dev.regs) :
    Does c s fun d => d = y.setTask e t { k with ns := k.ns + n } := by
  have hrun : (y.setTask e t { k with ns := k.ns + n }).peMode e = 1 := by
    obtain ⟨-, -, -, -, hm, -⟩ := h
    rw [← hm]
    show F.PE_STAT_MODE.of (tabGet _ y.regs _) = _
    rw [hy]
    rfl
  exact (h.after he hf).mono fun d hd => hd.trans (Dev.stepped_run _ _ _ hrun)

/-- A push with room. -/
theorem Task.push_room {k : Task} (h : k.bits.length < 16) : k.push = some { k with bits := k.ba :: k.bits } := if_pos h

end Sys2Proof.Machine
end

section
/-! The bit-memory instructions, bit logic and the bit stack (O23). -/

namespace Sys2Proof.Machine

/-! ## Bit-memory instructions whose operand resolves and answers (R108) -/

section
variable {s y z : Dev} {e t : Nat} {k k' : Task} {op : BmOp} {r : BitRef} {w : Word}

theorem bitRead_ok (f : Bool → Bool → Bool) (hr : s.bitRef e t k op = .ok r) (hw : s.locWaits r.loc = false)
    (hl : s.locRead k r.loc = (y, some w)) :
    bitRead op false f s e t k = .ok y { k with ba := f k.ba (w.getLsbD r.bit) } (1 + r.cost) := by
  simp [bitRead, hr, hw, hl]

theorem bitRead_push (f : Bool → Bool → Bool) (hr : s.bitRef e t k op = .ok r) (hw : s.locWaits r.loc = false)
    (hl : s.locRead k r.loc = (y, some w)) (hb : k.bits.length < 16) :
    bitRead op true f s e t k =
      .ok y { k with ba := f k.ba (w.getLsbD r.bit), bits := k.ba :: k.bits } (1 + r.cost) := by
  simp [bitRead, hr, hw, hl, Task.push_room hb]

theorem bitEdge_ok (f : Bool → Bool → Bool) (hr : s.bitRef e t k op = .ok r) (hw : s.locWaits r.loc = false)
    (hl : s.locRead k r.loc = (y, some w)) (hwr : r.loc.writable = true)
    (hs : y.locWrite k r.loc (setBitOf (y.locBeneath k r.loc) r.bit k.ba) = (z, k', true)) :
    bitEdge op f s e t k = .ok z { k' with ba := f k.ba (w.getLsbD r.bit) } (1 + r.cost) := by
  simp [bitEdge, hr, hw, hl, hwr, hs]

/-- An instruction that stores nothing. -/
theorem bitWrite_none {f : Bool → Option Bool} (hr : s.bitRef e t k op = .ok r) (hw : s.locWaits r.loc = false)
    (hwr : r.loc.writable = true) (hf : f k.ba = none) : bitWrite op f s e t k = .ok s k (1 + r.cost) := by
  simp [bitWrite, hr, hw, hwr, hf]

theorem bitWrite_some {f : Bool → Option Bool} {b : Bool} (hr : s.bitRef e t k op = .ok r) (hw : s.locWaits r.loc = false)
    (hwr : r.loc.writable = true) (hf : f k.ba = some b)
    (hs : s.locWrite k r.loc (setBitOf (s.locBeneath k r.loc) r.bit b) = (y, k', true)) :
    bitWrite op f s e t k = .ok y k' (1 + r.cost) := by
  simp [bitWrite, hr, hw, hwr, hf, hs]

end

/-! ## Instructions of the bit stack (R109, R114) -/

theorem hsPush_room (s : Dev) (e t : Nat) {k : Task} (h : k.bits.length < 16) :
    hsPush s e t k = .ok s { k with bits := k.ba :: k.bits } 1 := by
  rw [hsPush, Task.push_room h]

theorem hsPldb_room (x : Fin 16) (n : Fin 32) (s : Dev) (e t : Nat) {k : Task} (h : k.bits.length < 16) :
    hsPldb x n s e t k = .ok s { k with ba := (k.rw x).getLsbD n, bits := k.ba :: k.bits } 1 := by
  rw [hsPldb, Task.push_room h]
  rfl

theorem popBit_cons (f : Bool → Bool → Bool) (s : Dev) (e t : Nat) {k : Task} {b : Bool} {bs : List Bool}
    (h : k.bits = b :: bs) : popBit f s e t k = .ok s { k with ba := f b k.ba, bits := bs } 1 := by
  rw [popBit, h]

/-- Settles O23: `bitRead`, `bitEdge` and `bitWrite` on an operand that answers; the others act on the bank alone. -/
theorem bitInstructions : Obligations.BitInstructions := by
  constructor
  · intro s e t op r h x k hr hw cost put
    refine ⟨fun y w hl => ?_, fun hwr => ?_⟩
    · intro b
      refine ⟨?_, fun hb => ?_, fun hwr z k' hs => ?_⟩
      · have read {c : Instr} (f : Bool → Bool → Bool) (he : exec c s = s.go (·.hl e (bitRead op false f))) :=
          h.after he (bitRead_ok f hr hw hl)
        exact each_cons (read (fun _ x => x) rfl) <| each_cons (read (fun _ x => !x) rfl) <|
          each_cons (read (fun a x => a && x) rfl) <| each_cons (read (fun a x => a && !x) rfl) <|
          each_cons (read (fun a x => a || x) rfl) <| each_cons (read (fun a x => a || !x) rfl) <|
          each_cons (read (fun a x => a ^^ x) rfl) <| each_cons (read (fun a x => a ^^ !x) rfl) each_nil
      · exact each_cons (h.after rfl (bitRead_push (fun _ b => b) hr hw hl hb)) <|
          each_cons (h.after rfl (bitRead_push (fun _ b => !b) hr hw hl hb)) each_nil
      · exact each_cons (h.after rfl (bitEdge_ok (fun a b => a && !b) hr hw hl hwr hs)) <|
          each_cons (h.after rfl (bitEdge_ok (fun a b => !a && b) hr hw hl hwr hs)) each_nil
    · have write {c : Instr} (f : Bool → Option Bool) (he : exec c s = s.go (·.hl e (bitWrite op f))) :
          (f k.ba = none → Does c s fun d => d = put x k) ∧
          (∀ b y k', f k.ba = some b → x.locWrite k r.loc (setBitOf (x.locBeneath k r.loc) r.bit b) = (y, k', true) →
            Does c s fun d => d = put y k') :=
        ⟨fun hf => h.after he (bitWrite_none hr hw hwr hf), fun _ _ _ hf hs => h.after he (bitWrite_some hr hw hwr hf hs)⟩
      exact each_cons (write some rfl) <| each_cons (write (fun a => some !a) rfl) <|
        each_cons (write (fun a => if a then some true else none) rfl) <|
        each_cons (write (fun a => if a then some false else none) rfl) each_nil
  · intro s e t d i n h k bit
    refine ⟨?_, fun hb => ⟨?_, ?_⟩, fun b bs hb => ?_⟩
    · exact each_cons (h.onBank rfl rfl) <| each_cons (h.onBank rfl rfl) <| each_cons (h.onBank rfl rfl) <|
        each_cons (h.onBank rfl rfl) <| each_cons (h.onBank rfl rfl) <| each_cons (h.onBank rfl rfl) <|
        each_cons (h.onBank rfl rfl) <| each_cons (h.onBank rfl rfl) <| each_cons (h.onBank rfl rfl) <|
        each_cons (h.onBank rfl rfl) <| each_cons (h.onBank rfl rfl) <| each_cons (h.onBank rfl rfl) <|
        each_cons (h.onBank rfl rfl) <| each_cons (h.onBank rfl rfl) <| each_cons (h.onBank rfl rfl) each_nil
    · exact h.banks rfl (hsPush_room s.dev e t hb)
    · exact h.banks rfl (hsPldb_room i n s.dev e t hb)
    · exact each_cons (h.banks rfl (popBit_cons (fun a _ => a) s.dev e t hb)) <|
        each_cons (h.banks rfl (popBit_cons (fun a x => a && x) s.dev e t hb)) <|
        each_cons (h.banks rfl (popBit_cons (fun a x => a || x) s.dev e t hb)) <|
        each_cons (h.banks rfl (popBit_cons (fun a x => xor a x) s.dev e t hb)) each_nil

end Sys2Proof.Machine
end

section
/-! Integer arithmetic and its flags (O24). -/

namespace Sys2Proof.Machine

/-! ## Integer results and their flags (R110 to R112) -/

/-- An integer that no word has as its signed value. -/
theorem not_fitsWord (n : Int) : (!fitsWord n) = (decide (n < -2147483648) || decide (2147483647 < n)) := by
  rw [Bool.eq_iff_iff]
  simp [fitsWord]
  omega

theorem addRes_eq (a b : Word) (c : Bool) : addRes a b c =
    let n : Nat := if c then 1 else 0
    let r := BitVec.ofNat 32 (a.toNat + b.toNat + n)
    let i := a.toInt + b.toInt + n
    ⟨r, isZero r, isNeg r, some (decide (i < -2147483648) || decide (2147483647 < i)),
      some (decide (2 ^ 32 ≤ a.toNat + b.toNat + n))⟩ := by
  simp [addRes, not_fitsWord, BitVec.ofNat_add]

theorem addRes_false (a b : Word) : addRes a b false =
    ⟨a + b, isZero (a + b), isNeg (a + b),
      some (decide (a.toInt + b.toInt < -2147483648) || decide (2147483647 < a.toInt + b.toInt)),
      some (decide (2 ^ 32 ≤ a.toNat + b.toNat))⟩ := by
  simp [addRes, not_fitsWord]

/-- A difference of words is that of their signed values. -/
theorem sub_sub_eq_ofInt (a b : Word) (n : Nat) : a - b - BitVec.ofNat 32 n = BitVec.ofInt 32 (a.toInt - b.toInt - n) := by
  simp [Int.sub_eq_add_neg, BitVec.ofInt_add, BitVec.ofInt_neg, BitVec.sub_eq_add_neg]

theorem subRes_eq (a b : Word) (c : Bool) : subRes a b c =
    let n : Nat := if c then 1 else 0
    let i := a.toInt - b.toInt - n
    let r := BitVec.ofInt 32 i
    ⟨r, isZero r, isNeg r, some (decide (i < -2147483648) || decide (2147483647 < i)),
      some (decide (a.toNat < b.toNat + n))⟩ := by
  simp only [subRes, not_fitsWord, sub_sub_eq_ofInt]

theorem subRes_false (a b : Word) : subRes a b false =
    ⟨a - b, a - b == 0, isNeg (a - b),
      some (decide (a.toInt - b.toInt < -2147483648) || decide (2147483647 < a.toInt - b.toInt)),
      some (decide (a.toNat < b.toNat))⟩ := by
  simp [subRes, not_fitsWord, isZero]

/-- Z of a compare. -/
theorem sub_beq_zero (a b : Word) : (a - b == 0) = (a == b) := by
  have h0 : 0 + b = b := BitVec.zero_add b
  rw [Bool.eq_iff_iff, beq_iff_eq, beq_iff_eq, BitVec.sub_eq_iff_eq_add, h0]

theorem mulRes_eq (a b : Word) : mulRes a b =
    vRes (a * b) (decide (a.toInt * b.toInt < -2147483648) || decide (2147483647 < a.toInt * b.toInt)) := by
  rw [mulRes, not_fitsWord]

theorem isNeg_eq (a : Word) : isNeg a = decide (a.toInt < 0) :=
  (BitVec.msb_eq_getLsbD_last a).symm.trans BitVec.msb_eq_toInt

theorem absRes_eq (a : Word) : absRes a = vRes (if a.toInt < 0 then -a else a) (a == 0x80000000) := by
  simp only [absRes, isNeg_eq, decide_eq_true_eq]

/-- A word's signed value fits a word. -/
theorem fitsWord_toInt (a : Word) : fitsWord a.toInt = true := by
  have h1 := a.le_toInt
  have h2 := a.toInt_lt
  simp only [fitsWord, Bool.and_eq_true, decide_eq_true_eq]
  omega

/-- The one quotient of words that is no word is that of the lowest word by −1. -/
theorem divRes_eq (a b : Word) : divRes a b =
    if b = 0 then vRes 0 true else if a = 0x80000000 ∧ b = -1 then vRes 0x80000000 true else vRes (a.sdiv b) false := by
  unfold divRes
  by_cases hb : b = 0
  · rw [if_pos hb, if_pos hb]
  by_cases h : a = 0x80000000 ∧ b = -1
  · obtain ⟨rfl, rfl⟩ := h
    decide
  · have hq : a.toInt.tdiv b.toInt = (a.sdiv b).toInt :=
      (BitVec.toInt_sdiv_of_ne_or_ne a b (Classical.not_and_iff_not_or_not.1 h)).symm
    simp only [if_neg hb, if_neg h, hq, BitVec.ofInt_toInt, fitsWord_toInt, Bool.not_true]

theorem divuRes_eq (a b : Word) : divuRes a b = if b = 0 then vRes 0 true else vRes (a / b) false := by
  rw [divuRes, BitVec.udiv_def]

theorem remRes_eq (a b : Word) : remRes a b = if b = 0 then vRes a true else vRes (a.srem b) false := by
  rw [remRes, ← BitVec.toInt_srem, BitVec.ofInt_toInt]

theorem remuRes_eq (a b : Word) : remuRes a b = if b = 0 then vRes a true else vRes (a % b) false := by
  rw [remuRes, BitVec.umod_def]

/-- Settles O24: each row of the tables is the flag computation that its instruction applies to the bank. -/
theorem integerArithmetic : Obligations.IntegerArithmetic := by
  intro s e t d i j imm h hr k a b m u ci ovr low set
  have quotient (r : Word) (v : Bool) : k.result d (vRes r v) = set r v none := rfl
  constructor
  · exact -- ADD, ADC, SUB, SBC
      each_cons (hr.onBank rfl (congrArg (k.result d) (addRes_false a b))) <|
      each_cons (hr.onBank rfl (congrArg (k.result d) (addRes_eq a b k.c))) <|
      each_cons (hr.onBank rfl (congrArg (k.result d) (subRes_false a b))) <|
      each_cons (hr.onBank rfl (congrArg (k.result d) (subRes_eq a b k.c))) <|
      -- AND, OR, XOR, ANDN, NOT, MOV, NEG, ABS
      each_cons (hr.onBank rfl rfl) <| each_cons (hr.onBank rfl rfl) <| each_cons (hr.onBank rfl rfl) <|
      each_cons (hr.onBank rfl rfl) <| each_cons (hr.onBank rfl rfl) <| each_cons (hr.onBank rfl rfl) <|
      each_cons (hr.onBank rfl rfl) <| each_cons (hr.onBank rfl (congrArg (k.result d) (absRes_eq a))) <|
      -- MIN, MAX, MINU, MAXU
      each_cons (hr.onBank rfl rfl) <| each_cons (hr.onBank rfl rfl) <| each_cons (hr.onBank rfl rfl) <|
      each_cons (hr.onBank rfl rfl) <|
      -- MUL, MULH, MULHU
      each_cons (hr.onBank rfl (congrArg (k.result d) (mulRes_eq a b))) <|
      each_cons (hr.onBank rfl rfl) <| each_cons (hr.onBank rfl rfl) <|
      -- ADDI, ANDI, ORI, XORI, MULI
      each_cons (hr.onBank rfl (congrArg (k.result d) (addRes_false a m))) <|
      each_cons (hr.onBank rfl rfl) <| each_cons (hr.onBank rfl rfl) <| each_cons (hr.onBank rfl rfl) <|
      each_cons (hr.onBank rfl (congrArg (k.result d) (mulRes_eq a m))) <|
      -- MOVI, MOVU, MOVH
      each_cons (hr.onBank rfl rfl) <| each_cons (hr.onBank rfl rfl) <| each_cons (hr.onBank rfl rfl) each_nil
  · refine each_cons (hr.onBank rfl ((congrArg (k.result d) (divRes_eq a b)).trans ?_)) <|
      each_cons (hr.onBank rfl ((congrArg (k.result d) (divuRes_eq a b)).trans ?_)) <|
      each_cons (hr.onBank rfl ((congrArg (k.result d) (remRes_eq a b)).trans ?_)) <|
      each_cons (hr.onBank rfl ((congrArg (k.result d) (remuRes_eq a b)).trans ?_)) each_nil
    all_goals simp only [apply_ite (k.result d), quotient, low]

end Sys2Proof.Machine
end

section
/-! Compares and shifts (O25). -/

namespace Sys2Proof.Machine

/-! ## Compares (R113) -/

/-- BA pushed where P is set, as it stands before a compare. -/
def Task.pushIf (k : Task) (p : Bool) : Task := if p then { k with bits := k.ba :: k.bits } else k

/-- A compare whose push, if any, has room sets its flags and writes its outcome to BA. -/
theorem compareRes_room (s : Dev) {k : Task} {p : Bool} (h : p = true → k.bits.length < 16) (b z n v c : Bool) :
    compareRes s k p (some b) { k with z := z, n := n, v := v, c := c } =
      .ok s { k.pushIf p with z := z, n := n, v := v, c := c, ba := b } 2 := by
  cases p with
  | false => rfl
  | true => rw [compareRes, if_pos rfl, Task.push_room (h rfl)]; rfl

/-- The outcomes of ICMP in the order of their codes. -/
theorem icmpCond_eq (cond : Fin 10) (a b : Word) : icmpCond cond a b =
    some ([a == b, a != b, decide (a.toInt < b.toInt), decide (a.toInt ≤ b.toInt), decide (b.toInt < a.toInt),
      decide (b.toInt ≤ a.toInt), decide (a.toNat < b.toNat), decide (a.toNat ≤ b.toNat), decide (b.toNat < a.toNat),
      decide (b.toNat ≤ a.toNat)].getD cond false) := by
  match cond with
  | 0 | 1 | 2 | 3 | 4 | 5 | 6 | 7 | 8 | 9 => rfl

/-- Those of ICMPI: its last code is GEU. -/
theorem icmpiCond_eq (cond : Fin 8) (a b : Word) : icmpiCond cond a b =
    some ([a == b, a != b, decide (a.toInt < b.toInt), decide (a.toInt ≤ b.toInt), decide (b.toInt < a.toInt),
      decide (b.toInt ≤ a.toInt), decide (a.toNat < b.toNat), decide (b.toNat ≤ a.toNat)].getD cond false) := by
  match cond with
  | 0 | 1 | 2 | 3 | 4 | 5 | 6 | 7 => rfl

/-- The flags of a compare. -/
theorem Task.flags_compare (k : Task) (a b : Word) : k.flags (subRes a b false) =
    { k with z := a == b, n := (a - b).getLsbD 31,
             v := decide (a.toInt - b.toInt < -2147483648) || decide (2147483647 < a.toInt - b.toInt),
             c := decide (a.toNat < b.toNat) } := by
  rw [subRes_false, sub_beq_zero]
  rfl

/-! ## Shifts (R114) -/

/-- A shift sets Z and N, and C where its count is not 0. -/
theorem Task.result_shift (k : Task) (d n : Nat) (r : Word) (out : Bool) :
    k.result d ⟨r, isZero r, isNeg r, none, if n = 0 then none else some out⟩ =
      { k.setW d r with z := r == 0, n := r.getLsbD 31, c := if n = 0 then k.c else out } := by
  have hc : (if n = 0 then none else some out).getD k.c = if n = 0 then k.c else out := by split <;> rfl
  rw [Task.result, hc]
  rfl

/-- Settles O25: a compare is `compareRes` on the flags of the difference, a shift is `shiftRes` on the word register. -/
theorem comparesAndShifts : Obligations.ComparesAndShifts := by
  intro s e t d i j imm cnt p hr k a flags signed q
  refine ⟨fun hp => ⟨?_, ?_⟩, ?_⟩
  · intro cond b
    refine hr.banks (f := hsIcmp p cond i j) rfl ?_
    show compareRes s.dev k p (icmpCond cond a b) (k.flags (subRes a b false)) = _
    rw [icmpCond_eq, Task.flags_compare, compareRes_room s.dev hp]
    rfl
  · intro cond b
    refine hr.banks (f := hsIcmpi p cond i imm) rfl ?_
    show compareRes s.dev k p (icmpiCond cond a b) (k.flags (subRes a b false)) = _
    rw [icmpiCond_eq, Task.flags_compare, compareRes_room s.dev hp]
    rfl
  · intro set n
    exact each_cons (hr.onBank rfl (k.result_shift d n _ _)) <| each_cons (hr.onBank rfl (k.result_shift d n _ _)) <|
      each_cons (hr.onBank rfl (k.result_shift d n _ _)) <| each_cons (hr.onBank rfl (k.result_shift d n _ _)) <|
      each_cons (hr.onBank rfl (k.result_shift d cnt _ _)) <| each_cons (hr.onBank rfl (k.result_shift d cnt _ _)) <|
      each_cons (hr.onBank rfl (k.result_shift d cnt _ _)) <|
      each_cons (hr.onBank rfl (k.result_shift d cnt _ _)) each_nil

end Sys2Proof.Machine
end

section
/-! Loads and stores of words and doubles (O26). -/

namespace Sys2Proof.Machine

section
variable {s y z : Dev} {e t sp a : Nat} {k k' k'' : Task} {l m : Loc} {v w : Word}

/-! ## Words of consecutive locations (R102) -/

theorem Dev.loadWords_cons {n : Nat} {ws : List Word} (hr : s.resolve e t sp a a = .ok l) (hw : s.locWaits l = false)
    (hl : s.locRead k l = (y, some w)) (hs : y.loadWords e t k sp (a + 1) n = .ok (z, ws)) :
    s.loadWords e t k sp a (n + 1) = .ok (z, w :: ws) := by
  simp [Dev.loadWords, hr, hw, hl, hs]

theorem Dev.storeRefs_cons {n : Nat} {ls : List Loc} (hr : s.resolve e t sp a a = .ok l) (hw : l.writable = true)
    (hs : s.storeRefs e t sp (a + 1) n = .ok ls) : s.storeRefs e t sp a (n + 1) = .ok (l :: ls) := by
  simp [Dev.storeRefs, hr, hw, hs]

theorem Dev.storeRefs_readOnly {n : Nat} (hr : s.resolve e t sp a a = .ok l) (hw : l.writable = false) :
    s.storeRefs e t sp a (n + 1) = .error ⟨5, memInfo sp a⟩ := by
  simp [Dev.storeRefs, hr, hw]

theorem Dev.storeWords_cons {xs : List (Loc × Word)} (h : s.locWrite k l v = (y, k', true)) :
    s.storeWords k ((l, v) :: xs) = y.storeWords k' xs := by
  rw [Dev.storeWords, h]

/-! ## Loads and stores by their words (R115) -/

variable {op : MwOp} {align : Bool}

/-- A load that is not misaligned gives what its words are. -/
theorem load_ok {n : Nat} {ws : List Word} (f : Task → List Word → Task) (hsp : mwSpace op ≠ 7)
    (ha : (align && decide (wordAddr k op % 2 = 1)) = false)
    (hl : s.loadWords e t k (mwSpace op) (wordAddr k op) n = .ok (y, ws)) :
    load op n align f s e t k = .ok y (f k ws) (2 + mwCost op) := by
  simp [load, hsp, ha, hl]

theorem load_word (f : Task → List Word → Task) (hsp : mwSpace op ≠ 7)
    (hr : s.resolve e t (mwSpace op) (wordAddr k op) (wordAddr k op) = .ok l) (hw : s.locWaits l = false)
    (hl : s.locRead k l = (y, some v)) : load op 1 false f s e t k = .ok y (f k [v]) (2 + mwCost op) :=
  load_ok f hsp (Bool.false_and _) (Dev.loadWords_cons hr hw hl rfl)

theorem load_double (f : Task → List Word → Task) (hsp : mwSpace op ≠ 7) (ha : wordAddr k op % 2 = 0)
    (hr : s.resolve e t (mwSpace op) (wordAddr k op) (wordAddr k op) = .ok l) (hw : s.locWaits l = false)
    (hl : s.locRead k l = (y, some v))
    (hr' : y.resolve e t (mwSpace op) (wordAddr k op + 1) (wordAddr k op + 1) = .ok m) (hw' : y.locWaits m = false)
    (hl' : y.locRead k m = (z, some w)) : load op 2 true f s e t k = .ok z (f k [v, w]) (2 + mwCost op) :=
  load_ok f hsp (by simp [ha]) (Dev.loadWords_cons hr hw hl (Dev.loadWords_cons hr' hw' hl' rfl))

theorem load_space7 {n : Nat} (f : Task → List Word → Task) (hsp : mwSpace op = 7) :
    load op n align f s e t k = .fault s ⟨1, 0⟩ := if_pos hsp

theorem load_odd {n : Nat} (f : Task → List Word → Task) (hsp : mwSpace op ≠ 7) (ha : wordAddr k op % 2 = 1) :
    load op n true f s e t k = .fault s ⟨6, memInfo (mwSpace op) (wordAddr k op)⟩ := by
  simp [load, hsp, ha]

/-- A store that is not misaligned stores its words where its operand names writable locations. -/
theorem store_ok {ls : List Loc} (vs : Task → List Word) (hsp : mwSpace op ≠ 7)
    (ha : (align && decide (wordAddr k op % 2 = 1)) = false)
    (hr : s.storeRefs e t (mwSpace op) (wordAddr k op) (vs k).length = .ok ls) (hw : ls.any s.locWaits = false)
    (hs : s.storeWords k (ls.zip (vs k)) = (y, k', true)) : store op align vs s e t k = .ok y k' (2 + mwCost op) := by
  simp [store, hsp, ha, hr, hw, hs]

theorem store_word (f : Task → Word) (hsp : mwSpace op ≠ 7)
    (hr : s.resolve e t (mwSpace op) (wordAddr k op) (wordAddr k op) = .ok l) (hw : s.locWaits l = false)
    (hwr : l.writable = true) (hs : s.locWrite k l (f k) = (y, k', true)) :
    store op false (fun k => [f k]) s e t k = .ok y k' (2 + mwCost op) :=
  store_ok _ hsp (Bool.false_and _) (Dev.storeRefs_cons hr hwr rfl) (by simp [hw]) (Dev.storeWords_cons hs)

theorem store_double (f g : Task → Word) (hsp : mwSpace op ≠ 7) (ha : wordAddr k op % 2 = 0)
    (hr : s.resolve e t (mwSpace op) (wordAddr k op) (wordAddr k op) = .ok l) (hw : s.locWaits l = false)
    (hwr : l.writable = true) (hr' : s.resolve e t (mwSpace op) (wordAddr k op + 1) (wordAddr k op + 1) = .ok m)
    (hw' : s.locWaits m = false) (hwr' : m.writable = true) (hs : s.locWrite k l (f k) = (y, k', true))
    (hs' : y.locWrite k' m (g k) = (z, k'', true)) :
    store op true (fun k => [f k, g k]) s e t k = .ok z k'' (2 + mwCost op) :=
  store_ok _ hsp (by simp [ha]) (Dev.storeRefs_cons hr hwr (Dev.storeRefs_cons hr' hwr' rfl)) (by simp [hw, hw'])
    ((Dev.storeWords_cons hs).trans (Dev.storeWords_cons hs'))

theorem store_space7 (vs : Task → List Word) (hsp : mwSpace op = 7) :
    store op align vs s e t k = .fault s ⟨1, 0⟩ := if_pos hsp

theorem store_odd (vs : Task → List Word) (hsp : mwSpace op ≠ 7) (ha : wordAddr k op % 2 = 1) :
    store op true vs s e t k = .fault s ⟨6, memInfo (mwSpace op) (wordAddr k op)⟩ := by
  simp [store, hsp, ha]

theorem store_readOnly (f : Task → Word) (hsp : mwSpace op ≠ 7)
    (hr : s.resolve e t (mwSpace op) (wordAddr k op) (wordAddr k op) = .ok l) (hwr : l.writable = false) :
    store op false (fun k => [f k]) s e t k = .fault s ⟨5, memInfo (mwSpace op) (wordAddr k op)⟩ := by
  simp [store, hsp, Dev.storeRefs_readOnly hr hwr]

end

/-- Settles O26: both forms of an operand are one load and one store of its words. -/
theorem loadsAndStores : Obligations.LoadsAndStores := by
  intro s e t d wb f sp addr ofs hr x k op ldw stw fld fst hop a put
  obtain ⟨hsp, hldw, hstw, hfld, hfst⟩ : mwSpace op = sp ∧
      exec ldw s = s.go (·.hl e (load op 1 false fun k ws => k.setW d (ws.headD 0))) ∧
      exec stw s = s.go (·.hl e (store op false fun k => [k.rw d])) ∧
      exec fld s = s.go (·.hl e (load op 2 true fun k ws => k.setF f (ws.getD 1 0 ++ ws.getD 0 0))) ∧
      exec fst s = s.go (·.hl e (store op true fun k => [(k.rf f).setWidth 32, ((k.rf f) >>> 32).setWidth 32])) := by
    simp only [List.mem_cons, Prod.mk.injEq, List.not_mem_nil, or_false] at hop
    obtain ⟨rfl, rfl, rfl, rfl, rfl⟩ | ⟨rfl, rfl, rfl, rfl, rfl⟩ := hop <;> exact ⟨rfl, rfl, rfl, rfl, rfl⟩
  rw [← hsp]
  refine ⟨fun l h7 hl hw => ⟨fun y v hv => ?_, fun y k' hwr hs => ?_, fun hwr => ?_, fun m ha => ⟨?_, ?_⟩⟩, ?_, ?_⟩
  · exact hr.after hldw (load_word _ h7 hl hw hv)
  · exact hr.after hstw (store_word _ h7 hl hw hwr hs)
  · exact hr.faults hstw (store_readOnly _ h7 hl hwr)
  · intro y z v w hv hm hwm hz
    exact hr.after hfld (load_double _ h7 ha hl hw hv hm hwm hz)
  · intro y k' z k'' hwr hwm hm hmw hs hz
    exact hr.after hfst (store_double _ _ h7 ha hl hw hwr hm hmw hwm hs hz)
  · exact fun h7 ha => ⟨hr.faults hfld (load_odd _ h7 ha), hr.faults hfst (store_odd _ h7 ha)⟩
  · exact fun h7 => ⟨hr.faults hldw (load_space7 _ h7), hr.faults hstw (store_space7 _ h7),
      hr.faults hfld (load_space7 _ h7), hr.faults hfst (store_space7 _ h7)⟩

end Sys2Proof.Machine
end

section
/-! Timers and counters (O29). -/

namespace Sys2Proof.Machine

/-! ## What an instruction does to a timer (R122) -/

section
variable {x : Timer}

theorem asKind_same {n : Nat} (h : x.kind = n) : asKind n x = x := if_pos h

/-- A timer of another kind is reset. -/
theorem asKind_other {n : Nat} (h : x.kind ≠ n) : asKind n x = ⟨x.pt, 0, false, false, n, false, 0⟩ := if_neg h

@[simp] theorem asKind_kind (n : Nat) (x : Timer) : (asKind n x).kind = n := by
  by_cases h : x.kind = n
  · rw [asKind_same h, h]
  · rw [asKind_other h]

@[simp] theorem asKind_pt (n : Nat) (x : Timer) : (asKind n x).pt = x.pt := by
  by_cases h : x.kind = n
  · rw [asKind_same h]
  · rw [asKind_other h]

/-- An ET of 0 stands below PT unless that is 0 itself. -/
theorem not_pt_zero (x : Timer) : (!decide (x.pt = 0)) = decide (0 < x.pt.toNat) := by
  rw [Bool.eq_iff_iff]
  simp [Nat.pos_iff_ne_zero, ← BitVec.toNat_inj]

theorem tonOp_low : tonOp x false = ⟨x.pt, 0, false, false, 1, false, 0⟩ := by
  simp [tonOp]

theorem tonOp_rising (h : x.kind ≠ 1 ∨ x.inp = false) :
    tonOp x true = ⟨x.pt, 0, true, decide (x.pt = 0), 1, true, 0⟩ := by
  have hin : (asKind 1 x).inp = false := by
    by_cases hk : x.kind = 1
    · rw [asKind_same hk]
      exact h.resolve_left (not_not_intro hk)
    · rw [asKind_other hk]
  simp [tonOp, hin, ← BitVec.toNat_inj]

theorem tonOp_high (hk : x.kind = 1) (hi : x.inp = true) :
    tonOp x true = { x with q := decide (x.pt.toNat ≤ x.et.toNat) } := by
  simp [tonOp, asKind_same hk, hi]

theorem tofOp_high : tofOp x true = ⟨x.pt, 0, true, true, 2, false, 0⟩ := by
  simp [tofOp]

theorem tofOp_low_other (hk : x.kind ≠ 2) : tofOp x false = ⟨x.pt, 0, false, false, 2, false, 0⟩ := by
  simp [tofOp, asKind_other hk]

theorem tofOp_falling (hk : x.kind = 2) (hi : x.inp = true) :
    tofOp x false = ⟨x.pt, 0, false, x.q && !decide (x.pt = 0), 2, true, 0⟩ := by
  rw [not_pt_zero]
  simp [tofOp, asKind_same hk, hi, hk]

theorem tofOp_low (hk : x.kind = 2) (hi : x.inp = false) :
    tofOp x false = { x with q := x.q && decide (x.et.toNat < x.pt.toNat) } := by
  simp [tofOp, asKind_same hk, hi]

/-- A timer whose ET is below PT has not expired. -/
theorem Timer.expired_before (h : x.et.toNat < x.pt.toNat) : x.expired = x := if_neg (Nat.not_le.2 h)

/-- A TP timer that is not running does not expire. -/
theorem Timer.expired_idle (hk : x.kind = 3) (hq : x.q = false) (hr : x.running = false) : x.expired = x := by
  obtain ⟨pt, et, inp, q, kind, running, ticks⟩ := x
  subst hk hq hr
  simp [Timer.expired]

theorem tpOp_other (hk : x.kind ≠ 3) : tpOp x true = ⟨x.pt, 0, true, !decide (x.pt = 0), 3, true, 0⟩ := by
  simp only [tpOp, asKind_other hk, Timer.expired_idle, not_pt_zero]
  simp

theorem tpOp_rising (hk : x.kind = 3) (hi : x.inp = false) (hq : x.q = false) (he : x.et.toNat < x.pt.toNat) :
    tpOp x true = ⟨x.pt, 0, true, true, 3, true, 0⟩ := by
  have hpt : 0 < x.pt.toNat := Nat.zero_lt_of_lt he
  simp [tpOp, asKind_same hk, Timer.expired_before he, hi, hq, hk, hpt]

theorem tpOp_running (hk : x.kind = 3) (hq : x.q = true) (he : x.et.toNat < x.pt.toNat) (b : Bool) :
    tpOp x b = { x with inp := b } := by
  simp [tpOp, asKind_same hk, Timer.expired_before he, hq, he]

end

/-! ## Instructions on a timer or counter of the engine's block (R122, R124) -/

section
variable {s : Dev} {e t : Nat} {k : Task} {x : Bool} {wn : Fin 16} {idx : BitVec 12}

theorem timerOp_inside {f : TimerOp} (h : tcNo k x wn idx < s.get (A.PE_TCRES e) F.PE_TCRES_TCNT * 64) :
    let n := s.get (A.PE_TCRES e) F.PE_TCRES_TBASE * 64 + tcNo k x wn idx
    timerOp x wn idx f s e t k = .ok (s.setTimer n (f (s.timer n) k.ba)) { k with ba := (f (s.timer n) k.ba).q } 2 :=
  if_pos h

theorem timerOp_beyond {f : TimerOp} (h : s.get (A.PE_TCRES e) F.PE_TCRES_TCNT * 64 ≤ tcNo k x wn idx) :
    timerOp x wn idx f s e t k = .fault s ⟨11, 0⟩ := if_neg (Nat.not_lt.2 h)

theorem counterOp_inside {f : Counter → Bool → Counter × Bool}
    (h : tcNo k x wn idx < s.get (A.PE_TCRES e) F.PE_TCRES_CCNT * 64) :
    let n := s.get (A.PE_TCRES e) F.PE_TCRES_CBASE * 64 + tcNo k x wn idx
    counterOp x wn idx f s e t k =
      .ok (s.setCounter n (f (s.counter n) k.ba).1) { k with ba := (f (s.counter n) k.ba).2 } 2 := if_pos h

theorem counterOp_beyond {f : Counter → Bool → Counter × Bool}
    (h : s.get (A.PE_TCRES e) F.PE_TCRES_CCNT * 64 ≤ tcNo k x wn idx) :
    counterOp x wn idx f s e t k = .fault s ⟨11, 0⟩ := if_neg (Nat.not_lt.2 h)

end

theorem crstOp_eq (c : Counter) (b : Bool) : crstOp c b = ({ c with cv := if b then 0 else c.cv }, b) := by
  cases b <;> rfl

theorem cldvOp_eq (c : Counter) (b : Bool) : cldvOp c b = ({ c with cv := if b then c.pv else c.cv }, b) := by
  cases b <;> rfl

/-- Settles O29: each clause is a case of its instruction's operation on the timer or counter that it names. -/
theorem timersAndCounters : Obligations.TimersAndCounters := by
  intro s e t x wn idx h y k i tcr tmr cnt
  refine ⟨fun hi => ?_, fun hi => ?_, fun hi => ?_, fun hi => ?_⟩
  · intro o zero
    have timer {c : Instr} {f : TimerOp} {r : Timer} (he : exec c s = s.go (·.hl e (timerOp x wn idx f)))
        (hf : f o k.ba = r) : tmr c r := by
      subst hf
      exact h.sets he (timerOp_inside hi) rfl
    refine ⟨fun hb => timer rfl ?_, fun hb hk => timer rfl ?_, fun hb hk hn => timer rfl ?_, fun hb => timer rfl ?_,
      fun hb hk => timer rfl ?_, fun hb hk hn => timer rfl ?_, fun hb hk hn => timer rfl ?_, fun hb hk => timer rfl ?_,
      fun hb hk hn hq he => timer rfl ?_, fun hk hq he => timer rfl ?_, timer rfl rfl⟩
    · rw [hb, tonOp_low]
    · rw [hb, tonOp_rising hk]
    · rw [hb, tonOp_high hk hn]
    · rw [hb, tofOp_high]
    · rw [hb, tofOp_low_other hk]
    · rw [hb, tofOp_falling hk hn]
    · rw [hb, tofOp_low hk hn]
    · rw [hb, tpOp_other hk]
    · rw [hb, tpOp_rising hk hn hq he]
    · exact tpOp_running hk hq he k.ba
  · have beyond {c : Instr} {f : TimerOp} (he : exec c s = s.go (·.hl e (timerOp x wn idx f))) : Faults c s e t ⟨11, 0⟩ :=
      h.faults he (timerOp_beyond hi)
    simp only [List.forall_mem_cons]
    exact ⟨beyond rfl, beyond rfl, beyond rfl, beyond rfl, by simp⟩
  · intro o up down
    have counter {c : Instr} {f : Counter → Bool → Counter × Bool} {r : Counter} {b : Bool}
        (he : exec c s = s.go (·.hl e (counterOp x wn idx f))) (hf : f o k.ba = (r, b)) : cnt c r b := by
      obtain ⟨rfl, rfl⟩ := Prod.mk.inj hf
      exact h.sets he (counterOp_inside hi) rfl
    exact ⟨counter rfl rfl, counter rfl rfl, counter rfl (crstOp_eq o k.ba), counter rfl (cldvOp_eq o k.ba)⟩
  · have beyond {c : Instr} {f : Counter → Bool → Counter × Bool}
        (he : exec c s = s.go (·.hl e (counterOp x wn idx f))) : Faults c s e t ⟨11, 0⟩ :=
      h.faults he (counterOp_beyond hi)
    simp only [List.forall_mem_cons]
    exact ⟨beyond rfl, beyond rfl, beyond rfl, beyond rfl, by simp⟩

end Sys2Proof.Machine
end

section
/-! Float arithmetic, compares and conversions (O28). -/

namespace Sys2Proof.Machine

/-! ## The fields of a binary64 pattern (R119) -/

/-- The exponent field of a pattern as a number. -/
theorem toNat_exponent64 (v : Dbl) : ((v >>> 52).setWidth 11 : BitVec 11).toNat = (v.toNat >>> 52) % 2 ^ 11 := by
  simp

/-- Its fraction field. -/
theorem toNat_fraction64 (v : Dbl) : (v &&& 0x000FFFFFFFFFFFFF).toNat = v.toNat % 2 ^ 52 := by
  rw [BitVec.toNat_and]
  exact Nat.and_two_pow_sub_one_eq_mod v.toNat 52

/-- Exponent and fraction together. -/
theorem toNat_magnitude64 (v : Dbl) : (v &&& 0x7FFFFFFFFFFFFFFF).toNat = v.toNat % 2 ^ 63 := by
  rw [BitVec.toNat_and]
  exact Nat.and_two_pow_sub_one_eq_mod v.toNat 63

/-- The sign of a pattern is its highest bit. -/
theorem sign64 (v : Dbl) : ((v.toNat >>> 63) % 2 == 1) = v.getLsbD 63 := by
  rw [BitVec.getLsbD, Nat.testBit_eq_decide_div_mod_eq, Nat.shiftRight_eq_div_pow]
  rfl

/-- A pattern is 0 but for its sign when both other fields are 0. -/
theorem magnitude64_eq_zero (v : Dbl) :
    v &&& 0x7FFFFFFFFFFFFFFF = 0 ↔ (v >>> 52).setWidth 11 = (0 : BitVec 11) ∧ v.toNat % 2 ^ 52 = 0 := by
  rw [← BitVec.toNat_inj, ← BitVec.toNat_inj, toNat_magnitude64, toNat_exponent64, Nat.shiftRight_eq_div_pow]
  show v.toNat % 2 ^ 63 = 0 ↔ v.toNat / 2 ^ 52 % 2 ^ 11 = 0 ∧ v.toNat % 2 ^ 52 = 0
  omega

/-- An exponent of all ones is an infinity or, with a fraction other than 0, a NaN. -/
theorem d64_special {v : Dbl} (h : (v >>> 52).setWidth 11 = (0x7FF : BitVec 11)) :
    d64 v = if v &&& 0x000FFFFFFFFFFFFF = 0 then .inf (v.getLsbD 63) else .nan := by
  have hex : (v.toNat >>> 52) % 2 ^ 11 = 2 ^ 11 - 1 := (toNat_exponent64 v).symm.trans (congrArg BitVec.toNat h)
  simp only [d64, FFmt.dec, f64, Nat.reduceSub, Nat.reduceAdd, hex, sign64, beq_self_eq_true, if_true, beq_iff_eq,
    ← BitVec.toNat_inj, toNat_fraction64]
  rfl

/-- Any other exponent is a number, and it is 0 when its exponent and fraction are. -/
theorem d64_number {v : Dbl} (h : (v >>> 52).setWidth 11 ≠ (0x7FF : BitVec 11)) :
    ∃ m e, d64 v = .num (v.getLsbD 63) m e ∧ (m = 0 ↔ v &&& 0x7FFFFFFFFFFFFFFF = 0) := by
  have hex : ((v.toNat >>> 52) % 2 ^ 11 == 2 ^ 11 - 1) = false :=
    beq_false_of_ne fun he => h (BitVec.eq_of_toNat_eq ((toNat_exponent64 v).trans he))
  have hdec : d64 v = if ((v.toNat >>> 52) % 2 ^ 11 == 0) = true then .num (v.getLsbD 63) (v.toNat % 2 ^ 52) f64.emin
      else .num (v.getLsbD 63) (v.toNat % 2 ^ 52 + 2 ^ 52) (f64.emin + ((v.toNat >>> 52) % 2 ^ 11 : Nat) - 1) := by
    simp only [d64, FFmt.dec, f64, Nat.reduceSub, Nat.reduceAdd, hex, sign64, Bool.false_eq_true, if_false]
  rw [magnitude64_eq_zero, ← BitVec.toNat_inj, toNat_exponent64]
  by_cases h0 : (v.toNat >>> 52) % 2 ^ 11 = 0
  · exact ⟨_, _, hdec.trans (if_pos (beq_iff_eq.2 h0)), fun hm => ⟨h0, hm⟩, And.right⟩
  · exact ⟨_, _, hdec.trans (if_neg (mt beq_iff_eq.1 h0)), fun hm => absurd hm (by omega), fun hz => absurd hz.1 h0⟩

/-- V of a result: an exponent of all ones. -/
theorem fIsOver_d64 (v : Dbl) : fIsOver (d64 v) = ((v >>> 52).setWidth 11 == (0x7FF : BitVec 11)) := by
  by_cases h : (v >>> 52).setWidth 11 = (0x7FF : BitVec 11)
  · rw [d64_special h, beq_iff_eq.2 h]
    split <;> rfl
  · obtain ⟨m, e, hd, -⟩ := d64_number h
    rw [hd, beq_false_of_ne h]
    rfl

/-- A NaN: an exponent of all ones and a fraction other than 0. -/
theorem isNan64_eq (v : Dbl) :
    isNan64 v = ((v >>> 52).setWidth 11 == (0x7FF : BitVec 11) && (v &&& 0x000FFFFFFFFFFFFF) != 0) := by
  rw [isNan64]
  by_cases h : (v >>> 52).setWidth 11 = (0x7FF : BitVec 11)
  · rw [d64_special h, beq_iff_eq.2 h]
    by_cases hf : v &&& 0x000FFFFFFFFFFFFF = 0
    · rw [if_pos hf, hf]
      rfl
    · rw [if_neg hf, bne_iff_ne.2 hf]
      rfl
  · obtain ⟨m, e, hd, -⟩ := d64_number h
    rw [hd, beq_false_of_ne h]
    rfl

/-- N of a result: the sign of a pattern that is not a NaN. -/
theorem fIsNeg_d64 (v : Dbl) : fIsNeg (d64 v) = (v.getLsbD 63 && !isNan64 v) := by
  rw [isNan64]
  by_cases h : (v >>> 52).setWidth 11 = (0x7FF : BitVec 11)
  · rw [d64_special h]
    split
    · exact (Bool.and_true _).symm
    · exact (Bool.and_false _).symm
  · obtain ⟨m, e, hd, -⟩ := d64_number h
    rw [hd]
    exact (Bool.and_true _).symm

/-- Z of a result: a pattern that is 0 but for its sign. -/
theorem fIsZero_d64 (v : Dbl) : fIsZero (d64 v) = (v &&& 0x7FFFFFFFFFFFFFFF == 0) := by
  by_cases h : (v >>> 52).setWidth 11 = (0x7FF : BitVec 11)
  · have hz : v &&& 0x7FFFFFFFFFFFFFFF ≠ 0 := fun hz =>
      absurd (h.symm.trans ((magnitude64_eq_zero v).1 hz).1) (by decide)
    rw [d64_special h, beq_false_of_ne hz]
    split <;> rfl
  · obtain ⟨m, e, hd, hm⟩ := d64_number h
    rw [hd, Bool.eq_iff_iff, beq_iff_eq, ← hm]
    exact beq_iff_eq

/-- A float result with its flags, by the fields of its pattern. -/
theorem Task.fresult_eq (k : Task) (d : Nat) (v : Dbl) : k.fresult d v =
    { k.setF d v with z := v &&& 0x7FFFFFFFFFFFFFFF == 0, n := v.getLsbD 63 && !isNan64 v,
                      v := (v >>> 52).setWidth 11 == (0x7FF : BitVec 11) } := by
  simp only [Task.fresult, fIsZero_d64, fIsNeg_d64, fIsOver_d64]

/-! ## NaN results (log 24) -/

/-- A pattern is a NaN by its exponent and fraction. -/
theorem FFmt.isNan_dec (f : FFmt) (n : Nat) : (f.dec n).isNan = true ↔
    (n >>> (f.p - 1)) % 2 ^ f.w = 2 ^ f.w - 1 ∧ n % 2 ^ (f.p - 1) ≠ 0 := by
  by_cases hex : (n >>> (f.p - 1)) % 2 ^ f.w = 2 ^ f.w - 1
  · by_cases hfr : n % 2 ^ (f.p - 1) = 0
    · simp [FFmt.dec, Fl.isNan, hex, hfr]
    · simp [FFmt.dec, Fl.isNan, hex, hfr]
  · have hne : ((n >>> (f.p - 1)) % 2 ^ f.w == 2 ^ f.w - 1) = false := beq_false_of_ne hex
    simp only [FFmt.dec, hne, Bool.false_eq_true, if_false]
    split <;> simp [Fl.isNan, hex]

/-- A NaN with more bits set is a NaN. -/
theorem FFmt.isNan_dec_or (f : FFmt) {n : Nat} (m : Nat) (h : (f.dec n).isNan = true) : (f.dec (n ||| m)).isNan = true := by
  rw [FFmt.isNan_dec] at h ⊢
  obtain ⟨hex, hfr⟩ := h
  constructor
  · rw [Nat.shiftRight_or_distrib, Nat.or_mod_two_pow, hex]
    have hlt : (2 ^ f.w - 1) ||| (m >>> (f.p - 1)) % 2 ^ f.w < 2 ^ f.w :=
      Nat.or_lt_two_pow (Nat.sub_lt (Nat.two_pow_pos _) Nat.one_pos) (Nat.mod_lt _ (Nat.two_pow_pos _))
    exact Nat.le_antisymm (Nat.le_sub_one_of_lt hlt) Nat.left_le_or
  · rw [Nat.or_mod_two_pow]
    exact fun h0 => hfr (Nat.or_eq_zero_iff.1 h0).1

theorem nanFree_number (tag : Nat) (a b c : Dbl) {r : Dbl} (h : isNan64 r = false) : nanFree tag a b c r = r :=
  if_neg (by simp [h])

/-- A NaN result is some NaN. -/
theorem isNan64_nanFree (tag : Nat) (a b c : Dbl) {r : Dbl} (h : isNan64 r = true) : isNan64 (nanFree tag a b c r) = true := by
  rw [nanFree, if_pos h, isNan64, d64, BitVec.toNat_or]
  exact FFmt.isNan_dec_or f64 _ (by decide)

theorem nanFree32_number (a : Dbl) {r : Word} (h : (d32 r).isNan = false) : nanFree32 a r = r := if_neg (by simp [h])

theorem isNan_nanFree32 (a : Dbl) {r : Word} (h : (d32 r).isNan = true) : (d32 (nanFree32 a r)).isNan = true := by
  rw [nanFree32, if_pos h, d32, BitVec.toNat_or]
  exact FFmt.isNan_dec_or f32 _ (by decide)

/-! ## FMIN and FMAX (R119) -/

section
variable {a b : Dbl}

theorem isNan64_fpick (less : Bool) (ha : isNan64 a = true) (hb : isNan64 b = true) : isNan64 (fpick less a b) = true := by
  have hp : fpick less a b = e64 .nan := by simp [fpick, ha, hb]
  rw [hp]
  decide

theorem fpick_nan_left (less : Bool) (ha : isNan64 a = true) (hb : isNan64 b = false) : fpick less a b = b := by
  simp [fpick, ha, hb]

theorem fpick_nan_right (less : Bool) (ha : isNan64 a = false) (hb : isNan64 b = true) : fpick less a b = a := by
  simp [fpick, ha, hb]

/-- Numbers that compare are no NaNs. -/
theorem Fl.numbers_of_cmp {x y : Fl} {o : Ordering} (h : x.cmp y = some o) : x.isNan = false ∧ y.isNan = false := by
  cases x with
  | nan => cases y <;> cases h
  | inf _ | num _ _ _ =>
    cases y with
    | nan => cases h
    | inf _ | num _ _ _ => exact ⟨rfl, rfl⟩

theorem fpick_first {less : Bool} (h : (d64 a).cmp (d64 b) = some (if less then .lt else .gt)) : fpick less a b = a := by
  obtain ⟨ha, hb⟩ : isNan64 a = false ∧ isNan64 b = false := Fl.numbers_of_cmp h
  cases less
  · have h' : (d64 a).cmp (d64 b) = some .gt := h
    simp only [fpick, ha, hb, h', Bool.and_self, Bool.false_eq_true, if_false]
  · have h' : (d64 a).cmp (d64 b) = some .lt := h
    simp only [fpick, ha, hb, h', Bool.and_self, Bool.false_eq_true, if_false, if_true]

theorem fpick_second {less : Bool} (h : (d64 a).cmp (d64 b) = some (if less then .gt else .lt)) : fpick less a b = b := by
  obtain ⟨ha, hb⟩ : isNan64 a = false ∧ isNan64 b = false := Fl.numbers_of_cmp h
  cases less
  · have h' : (d64 a).cmp (d64 b) = some .lt := h
    simp only [fpick, ha, hb, h', Bool.and_self, Bool.false_eq_true, if_false]
  · have h' : (d64 a).cmp (d64 b) = some .gt := h
    simp only [fpick, ha, hb, h', Bool.and_self, Bool.false_eq_true, if_false, if_true]

end

/-- The outcomes of a float compare in the order of their codes (R120). -/
theorem fcmpCond_eq (cond : Fin 7) (o : Option Ordering) : fcmpCond cond o =
    some ([o == some .eq, o != some .eq, o == some .lt, o == some .lt || o == some .eq, o == some .gt,
      o == some .gt || o == some .eq, o == none].getD cond false) := by
  match cond with
  | 0 | 1 | 2 | 3 | 4 | 5 | 6 => rfl

/-- Settles O28: a result is `Task.fresult` of what the operation rounds to, and a NaN among them is drawn by `nanFree`. -/
theorem floatArithmetic : Obligations.FloatArithmetic := by
  intro s e t d i j w p hr k a b expo nan set setW
  have hnan (v : Dbl) : nan v = isNan64 v := (isNan64_eq v).symm
  have hset (v : Dbl) : k.fresult d v = set v := by
    rw [Task.fresult_eq, ← hnan]
  refine ⟨?_, ?_, fun hp cond => ?_, ⟨hr.onBank rfl rfl, hr.onBank rfl rfl⟩, ?_⟩
  · have number {c : Instr} {n : Nat} {f : Task → Task} (r : Dbl) (he : exec c s = s.go (·.hl e (onBank n f)))
        (hf : f k = k.fresult d r) :
        ∃ v, (nan r = false → v = r) ∧ (nan r = true → nan v = true) ∧ Banks c s e t (set v) n :=
      ⟨r, fun _ => rfl, id, hr.onBank he (hf.trans (hset r))⟩
    have rounded {c : Instr} {n : Nat} {f : Task → Task} (tag : Nat) (x y z r : Dbl)
        (he : exec c s = s.go (·.hl e (onBank n f))) (hf : f k = k.fresult d (nanFree tag x y z r)) :
        ∃ v, (nan r = false → v = r) ∧ (nan r = true → nan v = true) ∧ Banks c s e t (set v) n := by
      simp only [hnan]
      exact ⟨_, nanFree_number tag x y z, isNan64_nanFree tag x y z, hr.onBank he (hf.trans (hset _))⟩
    exact each3_cons (rounded 0 a b 0 _ rfl rfl) <| each3_cons (rounded 1 a b 0 _ rfl rfl) <|
      each3_cons (rounded 2 a b 0 _ rfl rfl) <| each3_cons (rounded 3 a b 0 _ rfl rfl) <|
      each3_cons (rounded 4 a 0 0 _ rfl rfl) <| each3_cons (rounded 5 a b (k.rf d) _ rfl rfl) <|
      each3_cons (number _ rfl rfl) <| each3_cons (number _ rfl rfl) <| each3_cons (number _ rfl rfl) <|
      each3_cons (rounded 8 ((k.rw w).setWidth 64) 0 0 _ rfl rfl) <|
      each3_cons (number _ rfl rfl) <| each3_cons (number _ rfl rfl) each3_nil
  · have pick {c : Instr} {f : Task → Task} (tag : Nat) (less : Bool) (he : exec c s = s.go (·.hl e (onBank 2 f)))
        (hf : f k = k.fresult d (nanFree tag a b 0 (fpick less a b))) :
        ∃ v, Banks c s e t (set v) 2 ∧ (nan a = true → nan b = true → nan v = true) ∧ (nan a = true → nan b = false → v = b) ∧
          (nan a = false → nan b = true → v = a) ∧
          ((d64 a).cmp (d64 b) = some (if less then .lt else .gt) → v = a) ∧
          ((d64 a).cmp (d64 b) = some (if less then .gt else .lt) → v = b) := by
      simp only [hnan]
      refine ⟨_, hr.onBank he (hf.trans (hset _)), fun ha hb => isNan64_nanFree tag a b 0 (isNan64_fpick less ha hb),
        fun ha hb => ?_, fun ha hb => ?_, fun ho => ?_, fun ho => ?_⟩
      · rw [fpick_nan_left less ha hb, nanFree_number tag a b 0 hb]
      · rw [fpick_nan_right less ha hb, nanFree_number tag a b 0 ha]
      · rw [fpick_first ho, nanFree_number tag a b 0 (Fl.numbers_of_cmp ho).1]
      · rw [fpick_second ho, nanFree_number tag a b 0 (Fl.numbers_of_cmp ho).2]
    exact each3_cons (pick 6 true rfl rfl) <| each3_cons (pick 7 false rfl rfl) each3_nil
  · intro o q
    refine hr.banks (f := hsFcmpCompare p cond i j) rfl ?_
    show compareRes s.dev k p (fcmpCond cond o) _ = _
    rw [fcmpCond_eq, compareRes_room s.dev hp]
    rfl
  · exact ⟨nanFree32 a (narrow a), nanFree32_number a, isNan_nanFree32 a, hr.onBank rfl rfl⟩

end Sys2Proof.Machine
end

section
/-! Handles, validity, stamps and records of an engine's program (O30). -/

namespace Sys2Proof.Machine

/-! ## Reads through a handle (R126) -/

section
variable {s : Dev} {e t : Nat} {k : Task} {h v : Word} {d x y : Fin 16} {f : Fin 8}

theorem Dev.handleWaits_other (s : Dev) (hc : hclass h ≠ 0x08) : s.handleWaits h = false := by
  simp [Dev.handleWaits, hc]

theorem Dev.handleLine_other (s : Dev) (hc : hclass h ≠ 0x08) : s.handleLine h = (s, true) := by
  simp [Dev.handleLine, hc]

theorem hsHrd_valid (hv : validHandle (k.rw x) = true) (hc : hclass (k.rw x) ≠ 0x08) : hsHrd d x s e t k =
    .ok s { k.setW d (s.hread (k.rw x)).val with
              z := (s.hread (k.rw x)).val == 0, n := (s.hread (k.rw x)).val.getLsbD 31, c := (s.hread (k.rw x)).valid } 6 := by
  simp only [hsHrd, hv, s.handleWaits_other hc, s.handleLine_other hc]
  rfl

theorem hsHrd_invalid (hv : validHandle (k.rw x) = false) : hsHrd d x s e t k = .fault s ⟨12, (k.rw x).toNat⟩ := by
  simp [hsHrd, hv]

theorem hsHrdf_valid (hv : validHandle (k.rw x) = true) (hf : s.kind (k.rw x) = .f32) : hsHrdf f x s e t k =
    let p := s.hread (k.rw x)
    let v := nanFree 9 (p.val.setWidth 64) 0 0 (widen p.val)
    .ok s { k.setF f v with z := fIsZero (d64 v), n := fIsNeg (d64 v), c := p.valid } 8 := by
  simp [hsHrdf, hv, hf]

theorem hsHrdf_invalid (hv : validHandle (k.rw x) = false) : hsHrdf f x s e t k = .fault s ⟨12, (k.rw x).toNat⟩ := by
  simp [hsHrdf, hv]

/-! ## Writes through a handle (R127) -/

theorem handleWrite_q (phwr : Bool) (cost : Nat) (hc : hclass h = 0x04) (hv : validHandle h = true)
    (hq : s.hasQLine e t (hindex h / 4) = true) :
    handleWrite phwr h v cost s e t k = .ok s { k with work := tabPut 0 k.work (hindex h) v, c := true } cost := by
  have hw : s.handleWaits h = false := s.handleWaits_other (by simp [hc])
  simp [handleWrite, hv, hw, hc, hq]

theorem handleWrite_q_ignored (phwr : Bool) (cost : Nat) (hc : hclass h = 0x04) (hv : validHandle h = true)
    (hq : s.hasQLine e t (hindex h / 4) = false) :
    handleWrite phwr h v cost s e t k = .ok (s.offer (peSrc e) 0x04 .handleIgnored) { k with c := false } cost := by
  have hw : s.handleWaits h = false := s.handleWaits_other (by simp [hc])
  simp [handleWrite, hv, hw, hc, hq, handleIgnored]

theorem handleWrite_setpoint (phwr : Bool) (cost : Nat) (hc : hclass h = 0x20) (hv : validHandle h = true) :
    handleWrite phwr h v cost s e t k =
      .ok (s.spWrite (.engine e) (hindex h) ⟨v, true⟩) { k with c := true } cost := by
  have hw : s.handleWaits h = false := s.handleWaits_other (by simp [hc])
  simp [handleWrite, hv, hw, hc]

theorem handleWrite_invalid (phwr : Bool) (cost : Nat) (hv : validHandle h = false) :
    handleWrite phwr h v cost s e t k = .fault s ⟨12, h.toNat⟩ := by
  simp [handleWrite, hv]

theorem hsHwrf_setpoint (hc : hclass (k.rw x) = 0x20) (hv : validHandle (k.rw x) = true) (hf : s.kind (k.rw x) = .f32) :
    hsHwrf x f s e t k =
      .ok (s.spWrite (.engine e) (hindex (k.rw x)) ⟨nanFree32 (k.rf f) (narrow (k.rf f)), true⟩) { k with c := true } 8 := by
  simp only [hsHwrf, hv, hf, Bool.not_true, bne_self_eq_false, Bool.or_self, Bool.false_eq_true, if_false]
  exact handleWrite_setpoint false 8 hc hv

theorem hsHwrf_invalid (hv : validHandle (k.rw x) = false) : hsHwrf x f s e t k = .fault s ⟨12, (k.rw x).toNat⟩ := by
  simp [hsHwrf, hv]

/-! ## Validity, stamps, time and records (R126, R128, R130) -/

theorem hsVld_held (hw : (k.rw x).toNat < 16384) (hl : s.hasILine e t ((k.rw x).toNat / 4) = true) :
    hsVld x s e t k = .ok s { k with ba := (tabGet Pt.none k.snap (k.rw x).toNat).valid } 2 := by
  simp [hsVld, hw, hl]

theorem hsTsnap_even (hd : d.val % 2 = 0) : hsTsnap d s e t k =
    .ok s ((k.setW d (k.stamp.setWidth 32)).setW (d.val + 1) ((k.stamp >>> 32).setWidth 32)) 2 :=
  if_neg (by omega)

theorem hsTsnap_odd (hd : d.val % 2 = 1) : hsTsnap d s e t k = .fault s ⟨1, 0⟩ := if_pos hd

section
variable {imm : BitVec 8}

/-- A record of at most 16 words that stand in L space is offered where the task may write its code. -/
theorem hsEvt_fits (hn : imm.toNat ≤ 16)
    (ha : imm.toNat = 0 ∨ (k.rw y + BitVec.ofNat 32 k.fp).toNat + imm.toNat ≤ 4096) :
    hsEvt x y imm s e t k =
      if s.taskPriv e t = true ∨ (0xE000 ≤ (k.rw x).toNat ∧ (k.rw x).toNat ≤ 0xEFFF) then
        .ok (s.offerCode (peSrc e) ((k.rw x).setWidth 16) (s.taskPriv e t)
          ((upto imm.toNat).map fun i => tabGet 0 k.lmem ((k.rw y + BitVec.ofNat 32 k.fp).toNat + i)))
          { k with c := true } (4 + imm.toNat)
      else .ok s { k with c := false } (4 + imm.toNat) := by
  have hlen : ¬ 16 < imm.toNat := Nat.not_lt.2 hn
  have hspan : (decide (0 < imm.toNat) && decide (4096 < (k.rw y + BitVec.ofNat 32 k.fp).toNat + imm.toNat)) = false := by
    rw [Bool.and_eq_false_iff, decide_eq_false_iff_not, decide_eq_false_iff_not]
    omega
  have hcode : (!s.taskPriv e t && !(decide (0xE000 ≤ (k.rw x).toNat) && decide ((k.rw x).toNat ≤ 0xEFFF))) =
      !decide (s.taskPriv e t = true ∨ (0xE000 ≤ (k.rw x).toNat ∧ (k.rw x).toNat ≤ 0xEFFF)) := by
    simp only [Bool.decide_or, Bool.decide_and, Bool.decide_eq_true, Bool.not_or]
  unfold hsEvt
  simp only [hlen, hspan, hcode, if_false, Bool.false_eq_true]
  by_cases hc : s.taskPriv e t = true ∨ (0xE000 ≤ (k.rw x).toNat ∧ (k.rw x).toNat ≤ 0xEFFF)
  · simp [hc]
  · simp [hc]

end
end

/-- Settles O30: each clause is a case of its instruction, and a NaN read or written is drawn by `nanFree` or `nanFree32`. -/
theorem handlesAndRecords : Obligations.HandlesAndRecords := by
  intro s e t d i j f imm hr x k h p
  refine ⟨fun hv hc => hr.banks rfl (hsHrd_valid hv hc), fun hv hf => ?_,
    fun hc hv hq => hr.banks (f := hsHwr i j) rfl (handleWrite_q false 6 hc hv hq),
    fun hc hv hq => hr.sets (f := hsHwr i j) rfl (handleWrite_q_ignored false 6 hc hv hq) rfl, fun hc hv hf => ?_,
    fun hv => ?_, fun hw hl => hr.banks rfl (hsVld_held hw hl), fun hd => hr.banks rfl (hsTsnap_even hd),
    fun hd => hr.faults rfl (hsTsnap_odd hd), fun hns => hr.onBank rfl ?_, ?_⟩
  · exact ⟨_, nanFree_number 9 (p.val.setWidth 64) 0 0, isNan64_nanFree 9 (p.val.setWidth 64) 0 0,
      hr.banks rfl (hsHrdf_valid hv hf)⟩
  · exact ⟨_, nanFree32_number (k.rf f), isNan_nanFree32 (k.rf f), hr.after rfl (hsHwrf_setpoint hc hv hf)⟩
  · simp only [List.forall_mem_cons]
    exact ⟨hr.faults rfl (hsHrd_invalid hv), hr.faults (f := hsHwr i j) rfl (handleWrite_invalid false 6 hv),
      hr.faults rfl (hsHrdf_invalid hv), hr.faults rfl (hsHwrf_invalid hv), by simp⟩
  · have hns' : (s.dev.hlBank e t).ns ≤ 0xFFFFFFFF := Nat.le_of_lt_succ hns
    rw [Nat.min_eq_left hns']
  · intro n a hn ha
    exact ⟨fun hc => hr.sets rfl ((hsEvt_fits hn ha).trans (if_pos hc)) rfl,
      fun hp hc => hr.banks rfl ((hsEvt_fits hn ha).trans (if_neg (not_or.2 ⟨Bool.eq_false_iff.1 hp, hc⟩)))⟩

end Sys2Proof.Machine
end

section
/-! Privileged instructions and mailbox instructions of a program (O31). -/

namespace Sys2Proof.Machine

section
variable {s : Dev} {e t : Nat} {k : Task} {d x y : Fin 16}

/-! ## The privilege of a task (R132) -/

theorem privileged_granted (f : HlStep) (h : s.taskPriv e t = true) : privileged f s e t k = f s e t k := if_pos h

theorem privileged_denied (f : HlStep) (h : s.taskPriv e t = false) : privileged f s e t k = .fault s ⟨2, 0⟩ :=
  if_neg (Bool.eq_false_iff.1 h)

/-- PRD of a device that is no standby. -/
theorem hsPrd_granted (h : s.taskPriv e t = true) (hs : s.standby = false) : hsPrd d x s e t k =
    let y := s.barRead (engAcc e) (k.rw x).toNat
    let v := if y.busOk then y.busWord else 0
    .ok (y.collect 9 (BitVec.ofNat 32 e) v (if y.busOk then 1 else 0) []) { k.setW d v with c := y.busOk } 20 := by
  rw [hsPrd, privileged_granted _ h]
  simp [hs]

theorem hsPwr_granted (h : s.taskPriv e t = true) : hsPwr x y s e t k =
    let u := s.barWrite (engAcc e) (k.rw x).toNat (k.rw y)
    .ok u { k with c := u.busOk } 20 := privileged_granted _ h

/-- What PMODE asks of engine `n`, by its request code. -/
def Dev.pmodeAsk (s : Dev) (n q : Nat) : Dev :=
  if q = 1 then s.reqRun n else if q = 2 then s.reqStop n true else if q = 3 then s.reqHold n true else s

theorem hsPmode_granted (h : s.taskPriv e t = true) : hsPmode x y s e t k =
    .ok (s.pmodeAsk ((k.rw x).toNat % 8) ((k.rw y).toNat % 4)) k 4 :=
  (privileged_granted _ h).trans rfl

theorem hsPhwr_granted (h : s.taskPriv e t = true) :
    hsPhwr x y s e t k = handleWrite true (k.rw x) (k.rw y) 6 s e t k := privileged_granted _ h

/-! ## Mailboxes (R128) -/

/-- The word that MPOST answers. -/
def PostRes.word : PostRes → Word
  | .posted => 0
  | .full => 1
  | .error _ => 2

theorem PostRes.word_le (r : PostRes) : r.word.toNat ≤ 2 := by cases r <;> simp [PostRes.word]
theorem PostRes.posted_iff (r : PostRes) : r = .posted ↔ r.word = 0 := by cases r <;> simp [PostRes.word]
theorem PostRes.full_iff (r : PostRes) : r = .full ↔ r.word = 1 := by cases r <;> simp [PostRes.word]

theorem hsMpost_odd (hd : d.val % 2 = 1) : hsMpost d x y s e t k = .fault s ⟨1, 0⟩ := if_pos hd

theorem hsMpost_channel (hd : d.val % 2 = 0) (hm : (k.rw x).toNat < 64) : hsMpost d x y s e t k =
    let r := s.mbxPost (k.rw x).toNat (e + 1) (s.taskPriv e t) false (k.rw (d.val + 1) ++ k.rw d) (k.rw y)
    .ok r.1 { k.setW d r.2.word with c := r.2.word == 0 } 8 := by
  have h2 : ¬ d.val % 2 = 1 := by omega
  simp only [hsMpost, h2, if_false, Nat.not_le.2 hm]
  rfl

theorem hsMrecv_unaligned (hd : d.val % 4 ≠ 0) : hsMrecv d x s e t k = .fault s ⟨1, 0⟩ := if_pos (by simpa using hd)

theorem hsMrecv_taken {n : Nat} {u : Dev} {m : Notice} (hd : d.val % 4 = 0) (hm : (k.rw x).toNat < 64)
    (hn : s.endOf (k.rw x).toNat (e + 1) = some n) (ht : s.mbxTake (k.rw x).toNat n = (u, some m)) :
    hsMrecv d x s e t k =
      let k1 := (k.setW d (m.handle.setWidth 32)).setW (d.val + 1) ((m.handle >>> 32).setWidth 32)
      .ok u { (k1.setW (d.val + 2) m.tag).setW (d.val + 3) m.stamp with c := true } 8 := by
  simp [hsMrecv, hd, hm, hn, ht]

theorem hsMrecv_empty {n : Nat} {u : Dev} (hd : d.val % 4 = 0) (hm : (k.rw x).toNat < 64)
    (hn : s.endOf (k.rw x).toNat (e + 1) = some n) (ht : s.mbxTake (k.rw x).toNat n = (u, none)) :
    hsMrecv d x s e t k = .ok u { k with c := false } 8 := by
  simp [hsMrecv, hd, hm, hn, ht]

end

/-- Settles O31: an instruction that needs the privilege is `privileged`, and acts with it as its own equation says. -/
theorem privilegedInstructions : Obligations.PrivilegedInstructions := by
  intro s e t d i j h x k
  refine ⟨fun hp => ?_, fun hp => ⟨fun hs => h.after rfl (hsPrd_granted hp hs), h.after rfl (hsPwr_granted hp), ?_,
    fun hc hv hq => h.banks rfl ((hsPhwr_granted hp).trans (handleWrite_q true 6 hc hv hq))⟩,
    fun hd => h.faults rfl (hsMpost_odd hd), fun hd => h.faults rfl (hsMrecv_unaligned hd), fun hd hm => ?_,
    fun hd n hm hn => ⟨fun y m hy => h.after rfl (hsMrecv_taken hd hm hn hy),
      fun y hy => h.after rfl (hsMrecv_empty hd hm hn hy)⟩⟩
  · have denied {c : Instr} {f : HlStep} (he : exec c s = s.go (·.hl e (privileged f))) : Faults c s e t ⟨2, 0⟩ :=
      h.faults he (privileged_denied f hp)
    simp only [List.forall_mem_cons]
    exact ⟨denied rfl, denied rfl, denied rfl, denied rfl, by simp⟩
  · have asked {q : Nat} {f : Dev} (hf : x.pmodeAsk ((k.rw i).toNat % 8) q = f) (hq : (k.rw j).toNat % 4 = q) :
        Does (.hlPmode e i j) s fun g => g = f.hlAfter e t k 4 := by
      subst hf hq
      exact h.after rfl (hsPmode_granted hp)
    exact each_cons (asked rfl) <| each_cons (asked rfl) <| each_cons (asked rfl) <| each_cons (asked rfl) each_nil
  · exact (h.after rfl (hsMpost_channel hd hm)).mono fun g hg =>
      ⟨_, hg, PostRes.word_le _, PostRes.posted_iff _, PostRes.full_iff _⟩

end Sys2Proof.Machine
end

section
/-! Veneer changes (O32): requests and their ends, the carry of M data, the forces that are re-keyed, and the switch. -/

namespace Sys2Proof.Machine

/-! ## Engines and tasks after a write -/

@[simp] theorem Dev.eng_setEng_same (s : Dev) (e : Nat) (g : Eng) : (s.setEng e g).eng e = g := tabGet_put_same ..

theorem Dev.eng_setEng_other (s : Dev) {e k : Nat} (g : Eng) (h : k ≠ e) : (s.setEng e g).eng k = s.eng k :=
  tabGet_put_other _ _ _ _ h

@[simp] theorem Dev.reg_setEng (s : Dev) (e : Nat) (g : Eng) (a : Nat) : (s.setEng e g).reg a = s.reg a := rfl

@[simp] theorem Dev.task_setTask_same (s : Dev) (e t : Nat) (k : Task) : (s.setTask e t k).task e t = k := tabGet_put_same ..

theorem Dev.task_setTask_other (s : Dev) (e : Nat) {t u : Nat} (k : Task) (h : u ≠ t) : (s.setTask e t k).task e u = s.task e u :=
  tabGet_put_other _ _ _ _ (by omega)

/-! ## Requests and their ends (R140, R141) -/

/-- CAUSE has room for each cause of a check. -/
theorem Dev.vnrCheck_lt {s : Dev} {e k : Nat} (h : s.vnrCheck e = some k) : k < 16 := by
  have of_some {c : Nat} {o : Option Nat} {p : Prop} [Decidable p] (hlt : c < 16) (ho : o = some k → k < 16)
      (hk : (if p then some c else o) = some k) : k < 16 := by
    split at hk
    · cases hk
      exact hlt
    · exact ho hk
  refine of_some (by decide) (of_some (by decide) (of_some (by decide) (of_some (by decide) (of_some (by decide)
    (of_some (by decide) (of_some (by decide) fun hk => ?_)))))) h
  cases hk

/-- VVAL clear is a check that refuses. -/
theorem Dev.vnrCheck_notValid {s : Dev} {e : Nat} (h : s.get (A.PE_CODE e) F.PE_CODE_VVAL = 0) : s.vnrCheck e = some 2 :=
  if_pos h

section
variable {s : Dev} {e : Nat}

/-- The device while a request waits that was made on this tick. -/
def Dev.vnrWaiting (s : Dev) (e : Nat) (drain : Bool) : Dev :=
  (s.setEng e { s.eng e with vnr := some ⟨drain, s.ticks, none⟩ }).set (A.PE_VNR_STAT e) F.PE_VNR_STAT_PEND 1

/-- A request while one stands changes nothing (log 14). -/
theorem Dev.vnrRequest_standing (drain : Bool) (h : (s.eng e).vnr.isSome = true) : s.vnrRequest e drain = s := if_pos h

theorem Dev.vnrRequest_refused {c : Nat} (drain : Bool) (h : (s.eng e).vnr = none) (hc : s.vnrCheck e = some c) :
    s.vnrRequest e drain = (s.vnrEnd e c).offer (peSrc e) 0x05 .vnrRefused := by
  simp [Dev.vnrRequest, h, hc]

theorem Dev.vnrRequest_waits (drain : Bool) (h : (s.eng e).vnr = none) (hc : s.vnrCheck e = none) :
    s.vnrRequest e drain = s.vnrWaiting e drain := by
  simp [Dev.vnrRequest, Dev.vnrWaiting, h, hc]

theorem Dev.vnrWithdraw_waiting {v : Vnr} (h : (s.eng e).vnr = some v) (hv : v.endTick = none) :
    s.vnrWithdraw e = s.vnrEnd e 9 := by
  simp [Dev.vnrWithdraw, Dev.vnrEnd, h, hv]

theorem Dev.vnrTimeout_due {v : Vnr} (h : (s.eng e).vnr = some v) (hv : v.endTick = none)
    (hdue : v.reqTick + s.vnrBound e ≤ s.ticks) : s.vnrTimeout e = (s.vnrEnd e 8).offer (peSrc e) 0x05 .vnrRefused := by
  simp [Dev.vnrTimeout, h, hv, hdue]

/-- A switch begins after the tick of its request, in STOP or between the cycles of RUN. -/
theorem Dev.vnrMay_begins {v : Vnr} (h : (s.eng e).vnr = some v) (hv : v.endTick = none) (hlate : v.reqTick < s.ticks)
    (hmode : s.peMode e = 0 ∨ s.peMode e = 1 ∧ s.inCycle e = false) : s.vnrMay e = true := by
  simpa [Dev.vnrMay, h, hv, hlate] using hmode

end

section
variable (s : Dev) (e : Nat) (drain : Bool)

/-- Beside the request that the engine has, it writes registers. -/
theorem Dev.vnrWaiting_regsOnly :
    (s.setEng e { s.eng e with vnr := some ⟨drain, s.ticks, none⟩ }).RegsOnly (s.vnrWaiting e drain) :=
  (Dev.RegsOnly.refl _).set ..

theorem Dev.vnrWaiting_frame : s.vnrWaiting e drain =
    { s with regs := (s.vnrWaiting e drain).regs, engs := (s.vnrWaiting e drain).engs } := by
  obtain ⟨r, hr⟩ := s.vnrWaiting_regsOnly e drain
  rw [hr]
  rfl

theorem Dev.vnr_vnrWaiting : ((s.vnrWaiting e drain).eng e).vnr = some ⟨drain, s.ticks, none⟩ := by
  obtain ⟨r, hr⟩ := s.vnrWaiting_regsOnly e drain
  rw [hr]
  exact congrArg Eng.vnr (s.eng_setEng_same e _)

theorem Dev.eng_vnrWaiting_other {k : Nat} (h : k ≠ e) : (s.vnrWaiting e drain).eng k = s.eng k := by
  obtain ⟨r, hr⟩ := s.vnrWaiting_regsOnly e drain
  rw [hr]
  exact s.eng_setEng_other _ h

theorem Dev.pend_vnrWaiting : (s.vnrWaiting e drain).bit (A.PE_VNR_STAT e) F.PE_VNR_STAT_PEND = true :=
  congrArg (· == 1) (Dev.get_set_same _ _ _ _ (by decide) (by decide))

theorem Dev.vnrWaiting_regsKept : s.RegsKept (s.vnrWaiting e drain) [A.PE_VNR_STAT e] :=
  Dev.RegsKept.set (fun _ _ => rfl) _ _ (List.mem_singleton_self _)

end

section
variable (s : Dev) (e cause : Nat)

/-- Beside the switch that the engine has, an end writes registers. -/
theorem Dev.vnrEnd_regsOnly : (s.setEng e { s.eng e with vnr := none }).RegsOnly (s.vnrEnd e cause) :=
  ((Dev.RegsOnly.refl _).set ..).set ..

theorem Dev.vnrEnd_frame : s.vnrEnd e cause = { s with regs := (s.vnrEnd e cause).regs, engs := (s.vnrEnd e cause).engs } := by
  obtain ⟨r, hr⟩ := s.vnrEnd_regsOnly e cause
  rw [hr]
  rfl

theorem Dev.cause_vnrEnd (h : cause < 16) : (s.vnrEnd e cause).get (A.PE_VNR_STAT e) F.PE_VNR_STAT_CAUSE = cause :=
  Dev.get_set_same _ _ _ _ (by decide) h

theorem Dev.pend_vnrEnd : (s.vnrEnd e cause).bit (A.PE_VNR_STAT e) F.PE_VNR_STAT_PEND = false := by
  rw [Dev.bit, Dev.vnrEnd, Dev.get_set_field _ _ _ _ _ (by decide) (by decide) (by decide),
    Dev.get_set_same _ _ _ _ (by decide) (by decide)]
  rfl

theorem Dev.vnr_vnrEnd : ((s.vnrEnd e cause).eng e).vnr = none := by
  obtain ⟨r, hr⟩ := s.vnrEnd_regsOnly e cause
  rw [hr]
  exact congrArg Eng.vnr (s.eng_setEng_same e _)

theorem Dev.vnrEnd_regsKept : s.RegsKept (s.vnrEnd e cause) [A.PE_VNR_STAT e] :=
  Dev.RegsKept.set (Dev.RegsKept.set (fun _ _ => rfl) _ _ (List.mem_singleton_self _)) _ _ (List.mem_singleton_self _)

/-- What a device shows that has the registers and engines of an end. -/
theorem Dev.vnrEnd_ended {d : Dev} (h : cause < 16) (hregs : d.regs = (s.vnrEnd e cause).regs)
    (hengs : d.engs = (s.vnrEnd e cause).engs) :
    d.get (A.PE_VNR_STAT e) F.PE_VNR_STAT_CAUSE = cause ∧ d.bit (A.PE_VNR_STAT e) F.PE_VNR_STAT_PEND = false ∧
      (d.eng e).vnr = none ∧ s.RegsKept d [A.PE_VNR_STAT e] := by
  have hreg (a : Nat) : d.reg a = (s.vnrEnd e cause).reg a := by rw [Dev.reg, hregs, Dev.reg]
  refine ⟨?_, ?_, ?_, fun a ha => (hreg a).trans (s.vnrEnd_regsKept e cause a ha)⟩
  · rw [Dev.get, hreg]
    exact s.cause_vnrEnd e cause h
  · rw [Dev.bit, Dev.get, hreg]
    exact s.pend_vnrEnd e cause
  · rw [Dev.eng, hengs]
    exact s.vnr_vnrEnd e cause

/-- An end that is recorded adds one record of the engine. -/
theorem Dev.vnrEnd_offer : ∃ o : Offer, o.src = e + 1 ∧ (s.vnrEnd e cause).offer (peSrc e) 0x05 .vnrRefused =
    { s with regs := (s.vnrEnd e cause).regs, engs := (s.vnrEnd e cause).engs, free := s.free + 1,
             scribe := { s.scribe with offers := s.scribe.offers ++ [o] } } := by
  obtain ⟨r, hr⟩ := s.vnrEnd_regsOnly e cause
  rw [hr]
  exact ⟨_, rfl, rfl⟩

end

/-! ## Registers that a switch may write (R58, R144, R150) -/

/-- Registers of the pool that a store into a bank may write: each bank's error counts, and the line poisoned last. -/
def poolRegs : List Nat := A.MEM_POISON_LAST :: (upto 128).map A.MEM_BANK_ERR

/-- Registers that the forces of an engine write when they are re-keyed. -/
def forceRegs (e : Nat) : List Nat := [A.PE_VNR_STAT e, A.PE_FORCE_ORPHAN e, A.SYS_FRC_STAT]

theorem poolRegs_bounds {a : Nat} (h : a ∈ poolRegs) : 0x40000 ≤ a ∧ a < 0x42000 := by
  simp only [poolRegs, upto, List.mem_cons, List.mem_map, List.mem_range] at h
  obtain rfl | ⟨b, hb, rfl⟩ := h
  · decide
  · simp only [A.MEM_BANK_ERR]
    omega

theorem mmap_notMem_poolRegs {k : Nat} (h : k < 8) : A.SYS_MMAP k ∉ poolRegs := fun hm => by
  have := poolRegs_bounds hm
  simp only [A.SYS_MMAP] at this
  omega

/-- A register of an engine other than PE_VNR_STAT and PE_FORCE_ORPHAN. -/
def EngineReg (a : Nat) : Prop := 0x100000 ≤ a ∧ a % 0x10000 ≠ 0x44 ∧ a % 0x10000 ≠ 0x48

theorem EngineReg.notMem {a : Nat} (h : EngineReg a) (e : Nat) : a ∉ forceRegs e ++ poolRegs := fun hm => by
  obtain ⟨hlo, hstat, horphan⟩ := h
  rw [List.mem_append] at hm
  obtain hm | hm := hm
  · simp only [forceRegs, List.mem_cons, List.not_mem_nil, or_false, A.PE_VNR_STAT, A.PE_FORCE_ORPHAN, A.SYS_FRC_STAT] at hm
    omega
  · have := poolRegs_bounds hm
    omega

theorem EngineReg.code (e : Nat) : EngineReg (A.PE_CODE e) := by
  simp only [EngineReg, A.PE_CODE]
  omega
theorem EngineReg.stat (e : Nat) : EngineReg (A.PE_STAT e) := by
  simp only [EngineReg, A.PE_STAT]
  omega
theorem EngineReg.qreg (e : Nat) {k : Nat} (h : k < 16) : EngineReg (A.PE_QREG e k) := by
  simp only [EngineReg, A.PE_QREG]
  omega
theorem EngineReg.taskCtl (e : Nat) {t : Nat} (h : t < 16) : EngineReg (A.PE_TASK_CTL e t) := by
  simp only [EngineReg, A.PE_TASK_CTL]
  omega
theorem EngineReg.taskMask (e : Nat) {t : Nat} (h : t < 16) : EngineReg (A.PE_TASK_MASK e t) := by
  simp only [EngineReg, A.PE_TASK_MASK]
  omega
theorem EngineReg.taskStat (e : Nat) {t : Nat} (h : t < 16) : EngineReg (A.PE_TASK_STAT e t) := by
  simp only [EngineReg, A.PE_TASK_STAT]
  omega

/-! ## A store into M (R59, R101) -/

/-- `d` stands as stores into bank memory may leave `s`. -/
structure Dev.Stores (s d : Dev) : Prop where
  frame : d = { s with regs := d.regs, mem := d.mem, pool := d.pool, wrote := d.wrote, scribe := d.scribe, free := d.free }
  regs : s.RegsKept d poolRegs

theorem Dev.Stores.refl (s : Dev) : s.Stores s := ⟨rfl, .refl s _⟩

theorem Dev.Stores.trans {s d u : Dev} (h : s.Stores d) (k : d.Stores u) : s.Stores u :=
  ⟨by rw [k.frame, h.frame], h.regs.trans k.regs⟩

theorem Dev.ReadsTo.stores {s d : Dev} (h : s.ReadsTo d) (hr : s.RegsKept d poolRegs) : s.Stores d := by
  rw [Dev.ReadsTo] at h
  exact ⟨by rw [h], hr⟩

theorem Dev.checkLine_regsKept (s : Dev) {l : Nat} (hb : bankOfLine l < 128) : s.RegsKept (s.checkLine l).1 poolRegs := by
  have herr : A.MEM_BANK_ERR (bankOfLine l) ∈ poolRegs :=
    List.mem_cons_of_mem _ (List.mem_map_of_mem (List.mem_range.2 hb))
  unfold Dev.checkLine
  split
  · exact .refl s _
  · cases lineFind l (s.lineErrs l) with
    | good => exact .refl s _
    | wrong => exact .refl s _
    | corrected => exact (s.correctedRead_regsKept l rfl).mono (by simpa using herr)
    | uncorrectable => exact (s.poisonLine_regsKept l rfl).mono (by simpa using ⟨herr, List.mem_cons_self ..⟩)

/-- A write of a part of a line checks the line, and stores its bytes when the line is not lost. -/
theorem Dev.writeMem_part (s : Dev) (a : Nat) {bs : List Byte} (h : bs.length ≠ 16) : s.writeMem a bs =
    if (s.checkLine (lineOf a)).2 then (((s.checkLine (lineOf a)).1.putBytes a bs).setErrs (lineOf a) 0, true)
    else ((s.checkLine (lineOf a)).1, false) := by
  rw [Dev.writeMem, if_neg h]
  split <;> (rename_i e; simp [e])

theorem Dev.writeMem_stores (s : Dev) {a : Nat} {bs : List Byte} (h : bs.length ≠ 16) (hb : bankOfLine (lineOf a) < 128) :
    s.Stores (s.writeMem a bs).1 := by
  have hc := (s.checkLine_readsTo (lineOf a)).stores (s.checkLine_regsKept hb)
  rw [s.writeMem_part a h]
  split
  · refine hc.trans ⟨?_, fun k _ => ?_⟩
    · rw [Dev.setErrs, Dev.onPool, Dev.putBytes_eq]
    · exact Dev.reg_putBytes ..
  · exact hc

theorem Dev.writeMem_bytesKept (s : Dev) (a : Nat) {bs : List Byte} (h : bs.length ≠ 16) :
    s.BytesKept (s.writeMem a bs).1 a bs.length := fun k hk => by
  have hc : (s.checkLine (lineOf a)).1.byte k = s.byte k := by rw [Dev.byte, s.checkLine_mem, Dev.byte]
  rw [s.writeMem_part a h]
  split
  · exact (Dev.byte_putBytes_other bs _ a k hk).trans hc
  · exact hc

theorem Dev.bank_mAddr {s : Dev} {i a : Nat} (h : s.mAddr i = some a) : bankOfLine (lineOf a) < 128 := by
  have hlt : s.get (A.SYS_MMAP (i / 131072)) F.SYS_MMAP_BANK < 128 := Nat.mod_lt _ (by decide)
  simp only [Dev.mAddr, Dev.mBank, Option.map_eq_some_iff, Option.ite_none_right_eq_some, Option.some.injEq] at h
  obtain ⟨b, ⟨-, rfl⟩, rfl⟩ := h
  simp only [bankOfLine, lineOf, bankBase]
  omega

theorem Dev.mStore_stores (s : Dev) (i : Nat) (v : Word) : s.Stores (s.mStore i v).1 := by
  unfold Dev.mStore
  split
  · exact .refl s
  · next a ha =>
    have hw := s.writeMem_stores (bs := leBytes 4 v.toNat) (by simp) (Dev.bank_mAddr ha)
    split <;> (rename_i e; rw [e] at hw)
    · exact hw.trans ⟨rfl, fun _ _ => rfl⟩
    · exact hw

theorem Dev.mStore_bytesKept {s : Dev} {i a : Nat} (v : Word) (ha : s.mAddr i = some a) : s.BytesKept (s.mStore i v).1 a 4 := by
  have hw := s.writeMem_bytesKept a (bs := leBytes 4 v.toNat) (by simp)
  rw [leBytes_length] at hw
  simp only [Dev.mStore, ha]
  split <;> (rename_i e; rw [e] at hw; exact hw)

/-! ## The carry (R143, R144) -/

section
variable {s d : Dev} (h : s.Stores d)
include h

theorem Dev.Stores.mBank {k : Nat} (hk : k < 8) : d.mBank k = s.mBank k := by
  have hget (f : Fld) : d.get (A.SYS_MMAP k) f = s.get (A.SYS_MMAP k) f := h.regs.get f (mmap_notMem_poolRegs hk)
  rw [Dev.mBank, Dev.bit, hget, hget, Dev.mBank, Dev.bit]

theorem Dev.Stores.mAddr {i : Nat} (hi : i / 131072 < 8) : d.mAddr i = s.mAddr i := by
  rw [Dev.mAddr, h.mBank hi, Dev.mAddr]

theorem Dev.Stores.partWord (e m : Nat) : d.partWord e m = s.partWord e m := by
  have hp : d.partition e = s.partition e := List.filter_congr fun k hk => by
    have hk : k < 8 := List.mem_range.1 hk
    rw [h.mBank hk, h.regs.get _ (mmap_notMem_poolRegs hk)]
  rw [Dev.partWord, hp, Dev.partWord]

end

/-- A word of a partition lies in one of the eight windows. -/
theorem Dev.window_partWord {s : Dev} {e m i : Nat} (h : s.partWord e m = some i) : i / 131072 < 8 := by
  rw [Dev.partWord, Option.map_eq_some_iff] at h
  obtain ⟨k, hk, rfl⟩ := h
  have hk : k < 8 := List.mem_range.1 (List.mem_filter.1 (List.mem_of_getElem? hk)).1
  omega

theorem Dev.carryStore_stores (s : Dev) (e : Nat) (st : Nat × Word × Word) : s.Stores (s.carryStore e st) := by
  unfold Dev.carryStore
  split
  · split
    · exact s.mStore_stores _ _
    · exact .refl s
  · exact .refl s

/-- Byte `k` lies in none of the words that the stores of a list name. -/
def Dev.OutsideStores (s : Dev) (e : Nat) (sts : List (Nat × Word × Word)) (k : Nat) : Prop :=
  ∀ st ∈ sts, ∀ m b, s.partWord e st.1 = some m → s.mAddr m = some b → k < b ∨ b + 4 ≤ k

theorem Dev.byte_carryStore {s : Dev} {e k : Nat} {st : Nat × Word × Word} (h : s.OutsideStores e [st] k) :
    (s.carryStore e st).byte k = s.byte k := by
  unfold Dev.carryStore
  split
  · next m hm =>
    split
    · next a ha => exact Dev.mStore_bytesKept _ ha k (h st (List.mem_singleton_self st) m a hm ha)
    · rfl
  · rfl

/-- The device once the carry has stored. -/
def Dev.carried (s : Dev) (e : Nat) : Dev := (s.carryPlan e).stores.foldl (fun d st => d.carryStore e st) s

theorem Dev.carried_stores (s : Dev) (e : Nat) : s.Stores (s.carried e) :=
  foldl_keeps s.Stores _ _ s (fun d st _ hd => hd.trans (d.carryStore_stores e st)) (.refl s)

theorem Dev.carried_nothing {s : Dev} {e : Nat} (h : (s.carryPlan e).stores = []) : s.carried e = s := by
  rw [Dev.carried, h, List.foldl_nil]

/-- The carry leaves every byte outside its stores: each finds the windows as the switch found them. -/
theorem Dev.byte_carried {s : Dev} {e k : Nat} (h : s.OutsideStores e (s.carryPlan e).stores k) :
    (s.carried e).byte k = s.byte k := by
  refine (foldl_keeps (fun d => s.Stores d ∧ d.byte k = s.byte k) _ _ s (fun d st hst hd => ?_) ⟨.refl s, rfl⟩).2
  obtain ⟨hstores, hbyte⟩ := hd
  refine ⟨hstores.trans (d.carryStore_stores e st), (Dev.byte_carryStore fun st' hst' m b hm hb => ?_).trans hbyte⟩
  obtain rfl := List.mem_singleton.1 hst'
  rw [hstores.partWord] at hm
  rw [hstores.mAddr (Dev.window_partWord hm)] at hb
  exact h st' hst m b hm hb

/-! ## What forces and deliveries leave to the switch (R93, R150) -/

/-- Between `s` and `d` engines and tasks stand, the tick is the same, and no register is written but those of the pool and of
the forces of engine `e`. -/
structure Dev.EngineKept (e : Nat) (s d : Dev) : Prop where
  tasks : d.tasks = s.tasks
  engs : d.engs = s.engs
  ticks : d.ticks = s.ticks
  regs : s.RegsKept d (forceRegs e ++ poolRegs)

section
variable {e : Nat} {s d : Dev}

theorem Dev.EngineKept.refl (e : Nat) (s : Dev) : s.EngineKept e s := ⟨rfl, rfl, rfl, .refl s _⟩

theorem Dev.EngineKept.trans {u : Dev} (h : s.EngineKept e d) (k : d.EngineKept e u) : s.EngineKept e u :=
  ⟨k.tasks.trans h.tasks, k.engs.trans h.engs, k.ticks.trans h.ticks, h.regs.trans k.regs⟩

theorem Dev.Stores.engineKept (h : s.Stores d) : s.EngineKept e d := by
  have hregs := h.regs.mono (List.subset_append_right (forceRegs e) poolRegs)
  exact ⟨by rw [h.frame], by rw [h.frame], by rw [h.frame], hregs⟩

/-- An operation that leaves the registers, the engines, the tasks and the tick. -/
theorem Dev.EngineKept.of_eq (hr : d.regs = s.regs) (ht : d.tasks = s.tasks) (he : d.engs = s.engs) (hk : d.ticks = s.ticks) :
    s.EngineKept e d := ⟨ht, he, hk, fun a _ => by rw [Dev.reg, hr, Dev.reg]⟩

theorem Dev.EngineKept.get (h : s.EngineKept e d) {a : Nat} (ha : EngineReg a) (f : Fld) : d.get a f = s.get a f :=
  h.regs.get f (ha.notMem e)

theorem Dev.EngineKept.set (h : s.EngineKept e d) {a : Nat} (f : Fld) (v : Nat) (ha : a ∈ forceRegs e) :
    s.EngineKept e (d.set a f v) :=
  ⟨h.tasks, h.engs, h.ticks, h.regs.set f v (List.mem_append_left _ ha)⟩

theorem Dev.EngineKept.raise (h : s.EngineKept e d) {a : Nat} (f : Fld) (ha : a ∈ forceRegs e) :
    s.EngineKept e (d.raise a f) := (h.set f 1 ha).trans (.of_eq rfl rfl rfl rfl)

end

section
variable (s : Dev) (e : Nat)

theorem Dev.putPoint_engineKept (h : Word) (p : Pt) : s.EngineKept e (s.putPoint h p) := by
  unfold Dev.putPoint
  split
  · split
    · exact .refl e s
    · rw [Dev.collect_frame]
      exact .of_eq rfl rfl rfl rfl
  · exact .of_eq rfl rfl rfl rfl

theorem Dev.output_engineKept (unit : Nat) (ws : List Word) : s.EngineKept e (s.output unit ws) := by
  unfold Dev.output
  split
  · exact .of_eq rfl rfl rfl rfl
  · exact .refl e s

theorem Dev.emit_engineKept (x : Sent) : s.EngineKept e (s.emit x) := by
  unfold Dev.emit
  split
  · exact .refl e s
  · exact .of_eq rfl rfl rfl rfl

theorem Dev.offer_engineKept (src base : Nat) (ev : Ev) : s.EngineKept e (s.offer src base ev) := .of_eq rfl rfl rfl rfl

theorem Dev.spWrite_engineKept (w : Writer) (i : Nat) (p : Pt) : s.EngineKept e (s.spWrite w i p) := by
  unfold Dev.spWrite
  split
  · exact s.offer_engineKept e _ _ _
  · split
    · exact .refl e s
    · exact (s.putPoint_engineKept e _ p).trans (.of_eq rfl rfl rfl rfl)

theorem Dev.remoteWrite_engineKept (i : Nat) (p : Pt) : s.EngineKept e (s.remoteWrite i p).1 := by
  unfold Dev.remoteWrite
  dsimp only
  split
  · split
    · exact s.emit_engineKept e _
    · exact .refl e s
  · exact .refl e s

/-- A write through a handle, but for outputs, which have stop states of their own. -/
theorem Dev.deliverTo_engineKept (w : Writer) {h : Word} (p : Pt) (hao : hclass h ≠ 0x11) (hdq : hclass h ≠ 0x19) :
    s.EngineKept e (s.deliverTo w h p).1 := by
  simp only [Dev.deliverTo, hao, hdq, if_false]
  split
  · split
    · exact s.putPoint_engineKept e h p
    · exact s.offer_engineKept e _ _ _
  · split
    · exact s.spWrite_engineKept e w _ p
    · split
      · exact s.remoteWrite_engineKept e _ p
      · exact .refl e s

theorem Dev.deliver_engineKept (w : Writer) {h : Word} (p : Pt) (hao : hclass h ≠ 0x11) (hdq : hclass h ≠ 0x19) :
    s.EngineKept e (s.deliver w h p).1 :=
  (s.deliverTo_engineKept e w p hao hdq).trans (Dev.output_engineKept ..)

/-- A Q word that stands reaches its destinations, but for outputs. -/
theorem Dev.qDeliver_engineKept (o w : Nat) (fs : List Force) (p : Pt) : s.EngineKept e (s.qDeliver o w fs p true) := by
  refine foldl_keeps (s.EngineKept e) _ _ s (fun d x _ hd => hd.trans ?_) (.refl e s)
  dsimp only
  split
  · exact .refl e d
  · next hout =>
    simp only [Bool.true_and, Bool.or_eq_true, beq_iff_eq, not_or] at hout
    split
    · exact (d.mStore_stores _ _).engineKept
    · exact d.deliver_engineKept e _ _ hout.1 hout.2

theorem Dev.forceStands_engineKept (h : Word) : s.EngineKept e (s.forceStands h) := by
  unfold Dev.forceStands
  split
  · dsimp only
    split
    · split
      · exact s.qDeliver_engineKept e _ _ _ _
      · exact .refl e s
    · exact .refl e s
  · exact .refl e s

end

/-! ## Forces on Q words that follow their engine (R93) -/

/-- No Q word that has a destination stands at its stop or frozen value. -/
def Dev.NoneStands (s : Dev) : Prop := ∀ p ∈ s.policy.outMap, s.qStands (p.word / 4) = false

theorem Dev.NoneStands.forceStands {s : Dev} (hs : s.NoneStands) (h : Word) : s.forceStands h = s := by
  unfold Dev.forceStands
  split
  · dsimp only
    split
    · split
      · next hq =>
        have hnil : s.policy.outMap.filter (fun x => x.word == (imagePlace h 0).1) = [] :=
          List.filter_eq_nil_iff.2 fun p hp hw => by
            rw [← beq_iff_eq.1 hw, hs p hp] at hq
            cases hq
        rw [Dev.qDeliver, hnil, List.foldl_nil]
      · rfl
    · rfl
  · rfl

section
variable {e : Nat} {s d : Dev} (h : s.RegsKept d (forceRegs e ++ poolRegs))
include h

theorem Dev.RegsKept.qOwner (line : Nat) : d.qOwner line = s.qOwner line := by
  have hreg (k : Nat) : d.reg (A.PE_QREG (k / 16) (k % 16)) = s.reg (A.PE_QREG (k / 16) (k % 16)) :=
    h _ ((EngineReg.qreg (k / 16) (Nat.mod_lt k (by decide))).notMem e)
  simp only [Dev.qOwner, hreg]

theorem Dev.RegsKept.qStands (line : Nat) : d.qStands line = s.qStands line := by
  have hstat (o : Nat) : d.reg (A.PE_STAT o) = s.reg (A.PE_STAT o) := h _ ((EngineReg.stat o).notMem e)
  rw [Dev.qStands, h.qOwner, Dev.qStands]
  cases s.qOwner line with
  | none => rfl
  | some p =>
    dsimp only
    rw [hstat]
    refine congrArg (or _) (Bool.eq_iff_iff.2 ?_)
    rw [List.any_eq_true, List.any_eq_true]
    refine exists_congr fun t => and_congr_right fun ht => ?_
    have ht : t < 16 := List.mem_range.1 ht
    rw [h _ ((EngineReg.taskMask p.1 ht).notMem e), h _ ((EngineReg.taskCtl p.1 ht).notMem e),
      h _ ((EngineReg.taskStat p.1 ht).notMem e)]

theorem Dev.RegsKept.noneStands (hs : s.NoneStands) (hp : d.policy = s.policy) : d.NoneStands := fun p hm => by
  rw [h.qStands]
  exact hs p (hp ▸ hm)

end

/-! ## Re-keyed forces (R150) -/

/-- `d` stands as forces of engine `e` that are re-keyed, and delivered nowhere, leave `s`. -/
structure Dev.ForcesOnly (e : Nat) (s d : Dev) : Prop where
  frame : d = { s with regs := d.regs, forces := d.forces, hwSet := d.hwSet, scribe := d.scribe, free := d.free }
  regs : s.RegsKept d (forceRegs e)

section
variable {e : Nat} {s d : Dev}

theorem Dev.ForcesOnly.refl (e : Nat) (s : Dev) : s.ForcesOnly e s := ⟨rfl, .refl s _⟩

theorem Dev.ForcesOnly.trans {u : Dev} (h : s.ForcesOnly e d) (k : d.ForcesOnly e u) : s.ForcesOnly e u :=
  ⟨by rw [k.frame, h.frame], h.regs.trans k.regs⟩

theorem Dev.ForcesOnly.set (h : s.ForcesOnly e d) {a : Nat} (f : Fld) (v : Nat) (ha : a ∈ forceRegs e) :
    s.ForcesOnly e (d.set a f v) := h.trans ⟨rfl, (Dev.RegsKept.refl d _).set f v ha⟩

theorem Dev.ForcesOnly.raise (h : s.ForcesOnly e d) {a : Nat} (f : Fld) (ha : a ∈ forceRegs e) :
    s.ForcesOnly e (d.raise a f) := h.trans ⟨rfl, (Dev.RegsKept.refl d _).raise f ha⟩

theorem Dev.ForcesOnly.noneStands (h : s.ForcesOnly e d) (hs : s.NoneStands) : d.NoneStands :=
  (h.regs.mono (List.subset_append_left _ _)).noneStands hs (by rw [h.frame])

theorem Dev.ForcesOnly.mem (h : s.ForcesOnly e d) : d.mem = s.mem := by rw [h.frame]
theorem Dev.ForcesOnly.pool (h : s.ForcesOnly e d) : d.pool = s.pool := by rw [h.frame]

theorem Dev.setForce_forcesOnly (s : Dev) (e i : Nat) (f : Option Force) : s.ForcesOnly e (s.setForce i f) :=
  ⟨rfl, Dev.RegsKept.set (fun _ _ => rfl) _ _ (by simp [forceRegs])⟩

theorem Dev.setForce_engineKept (s : Dev) (e i : Nat) (f : Option Force) : s.EngineKept e (s.setForce i f) :=
  ⟨rfl, rfl, rfl, (s.setForce_forcesOnly e i f).regs.mono (List.subset_append_left _ _)⟩

end

/-- What each of its steps keeps, re-keying a force keeps. -/
theorem Dev.rekey_keeps {P : Dev → Prop} {s : Dev} {e : Nat} (bank : Nat) (old new : List Sym) (i : Nat) (f : Force) (h : P s)
    (hforce : ∀ d i f, P d → P (d.setForce i f)) (hstands : ∀ d h, P d → P (d.forceStands h))
    (hsat : ∀ d, P d → P (d.raise (A.PE_VNR_STAT e) F.PE_VNR_STAT_SAT))
    (hcount : ∀ d n, P d → P (d.set (A.PE_FORCE_ORPHAN e) F.PE_FORCE_ORPHAN_COUNT n))
    (hoffer : ∀ d, P d → P (d.offer (peSrc e) 0x05 .forceOrphan)) : P (s.rekey e bank old new i f) := by
  have hraise {d : Dev} (sat : Bool) (hd : P d) : P (if sat then d.raise (A.PE_VNR_STAT e) F.PE_VNR_STAT_SAT else d) := by
    split
    · exact hsat d hd
    · exact hd
  unfold Dev.rekey
  dsimp only
  split
  · next y key m _ =>
    have hkeyed (g : Force) : P (((s.setForce i (some g)).forceStands f.key).forceStands key) :=
      hstands _ key (hstands _ f.key (hforce s i _ h))
    split
    · exact hcount _ _ (hraise _ (hkeyed _))
    · exact hraise _ (hkeyed _)
  · split
    · exact h
    · exact hoffer _ (hcount _ _ (hstands _ _ (hforce s i _ h)))

/-- The device once the forces of the engine are re-keyed: `s` is the device that the switch found, `d` the one to go on from. -/
def Dev.rekeyed (s : Dev) (e : Nat) (d : Dev) : Dev :=
  let code := A.PE_CODE e
  let old := if s.bit code F.PE_CODE_AVAL then s.symsOf (s.get code F.PE_CODE_ACT) else []
  let ven := s.get code F.PE_CODE_VEN
  (s.engForces e).foldl (fun d p => if p.2.symid = 0 then d else d.rekey e ven old (s.symsOf ven) p.1 p.2) d

section
variable (s : Dev) (e : Nat) (d : Dev)

theorem Dev.rekeyed_engineKept : d.EngineKept e (s.rekeyed e d) := by
  refine foldl_keeps (d.EngineKept e) _ _ d (fun u p _ hu => ?_) (.refl e d)
  split
  · exact hu
  · exact Dev.rekey_keeps _ _ _ _ _ hu (fun u i f h => h.trans (u.setForce_engineKept e i f))
      (fun u k h => h.trans (u.forceStands_engineKept e k)) (fun u h => h.raise _ (by simp [forceRegs]))
      (fun u n h => h.set _ n (by simp [forceRegs])) (fun u h => h.trans (u.offer_engineKept e _ _ _))

/-- With no standing word among the destinations the forces are re-keyed and nothing is delivered. -/
theorem Dev.rekeyed_forcesOnly (hd : d.NoneStands) : d.ForcesOnly e (s.rekeyed e d) := by
  refine foldl_keeps (d.ForcesOnly e) _ _ d (fun u p _ hu => ?_) (.refl e d)
  split
  · exact hu
  · exact Dev.rekey_keeps _ _ _ _ _ hu (fun u i f h => h.trans (u.setForce_forcesOnly e i f))
      (fun u k h => by rwa [(h.noneStands hd).forceStands]) (fun u h => h.raise _ (by simp [forceRegs]))
      (fun u n h => h.set _ n (by simp [forceRegs])) (fun u h => h.trans ⟨rfl, fun _ _ => rfl⟩)

end

/-! ## The halves, the tasks and the breakpoints (R143) -/

/-- A fold over slots of which each turn changes its own, as a reader of the slots sees it. -/
theorem Dev.each_slot {β : Type} {g : Dev → Nat → β} {f : Dev → Nat → Dev} {h : β → β}
    (hsame : ∀ d t, g (f d t) t = h (g d t)) (hother : ∀ d t u, u ≠ t → g (f d t) u = g d u) (s : Dev) (n u : Nat) :
    g (s.each n f) u = if u < n then h (g s u) else g s u := by
  induction n with
  | zero => rfl
  | succ n ih =>
    rw [Dev.each_succ]
    by_cases hu : u = n
    · subst hu
      rw [hsame, ih, if_neg (Nat.lt_irrefl u), if_pos (Nat.lt_succ_self u)]
    · rw [hother _ _ _ hu, ih]
      simp [show u < n + 1 ↔ u < n by omega]

/-- The veneer half becomes the active half, valid, and the active half the veneer half, not valid. -/
def Dev.halvesSwapped (s : Dev) (e : Nat) : Dev :=
  let code := A.PE_CODE e
  (((s.set code F.PE_CODE_ACT (s.get code F.PE_CODE_VEN)).set code F.PE_CODE_VEN (s.get code F.PE_CODE_ACT)).set
    code F.PE_CODE_AVAL 1).set code F.PE_CODE_VVAL 0

/-- A task loses its W and F registers, and is IDLE if it was FAULTED. -/
def Dev.taskCleared (e : Nat) (s : Dev) (t : Nat) : Dev :=
  let s := s.setTask e t { s.task e t with w := [], f := [] }
  if s.taskState e t = tsFaulted then s.setTaskState e t tsIdle else s

/-- A breakpoint is disabled. -/
def Dev.brkOff (e : Nat) (s : Dev) (k : Nat) : Dev := s.set (A.PE_BRK e k) F.PE_BRK_EN 0

theorem Dev.vnrSwap_eq (s : Dev) (e : Nat) :
    s.vnrSwap e = ((s.halvesSwapped e).each 16 (Dev.taskCleared e)).each 8 (Dev.brkOff e) := rfl

section
variable (s : Dev) (e : Nat)

theorem Dev.halvesSwapped_regsKept : s.RegsKept (s.halvesSwapped e) [A.PE_CODE e] :=
  ((((Dev.RegsKept.refl s _).set _ _ (List.mem_singleton_self _)).set _ _ (List.mem_singleton_self _)).set _ _
    (List.mem_singleton_self _)).set _ _ (List.mem_singleton_self _)

theorem Dev.halvesSwapped_regsOnly : s.RegsOnly (s.halvesSwapped e) :=
  ((((Dev.RegsOnly.refl s).set ..).set ..).set ..).set ..

theorem Dev.act_halvesSwapped :
    (s.halvesSwapped e).get (A.PE_CODE e) F.PE_CODE_ACT = s.get (A.PE_CODE e) F.PE_CODE_VEN := by
  rw [Dev.halvesSwapped, Dev.get_set_field _ _ _ _ _ (by decide) (by decide) (by decide),
    Dev.get_set_field _ _ _ _ _ (by decide) (by decide) (by decide),
    Dev.get_set_field _ _ _ _ _ (by decide) (by decide) (by decide)]
  exact Dev.get_set_same _ _ _ _ (by decide) (Nat.mod_lt _ (by decide))

theorem Dev.ven_halvesSwapped :
    (s.halvesSwapped e).get (A.PE_CODE e) F.PE_CODE_VEN = s.get (A.PE_CODE e) F.PE_CODE_ACT := by
  rw [Dev.halvesSwapped, Dev.get_set_field _ _ _ _ _ (by decide) (by decide) (by decide),
    Dev.get_set_field _ _ _ _ _ (by decide) (by decide) (by decide)]
  exact Dev.get_set_same _ _ _ _ (by decide) (Nat.mod_lt _ (by decide))

theorem Dev.aval_halvesSwapped : (s.halvesSwapped e).get (A.PE_CODE e) F.PE_CODE_AVAL = 1 := by
  rw [Dev.halvesSwapped, Dev.get_set_field _ _ _ _ _ (by decide) (by decide) (by decide)]
  exact Dev.get_set_same _ _ _ _ (by decide) (by decide)

theorem Dev.vval_halvesSwapped : (s.halvesSwapped e).get (A.PE_CODE e) F.PE_CODE_VVAL = 0 :=
  Dev.get_set_same _ _ _ _ (by decide) (by decide)

theorem taskStat_inj {t u : Nat} : A.PE_TASK_STAT e t = A.PE_TASK_STAT e u ↔ t = u := by
  simp only [A.PE_TASK_STAT]
  omega

theorem brk_inj {k m : Nat} : A.PE_BRK e k = A.PE_BRK e m ↔ k = m := by
  simp only [A.PE_BRK]
  omega

theorem Dev.taskCleared_frame (t : Nat) : Dev.taskCleared e s t =
    { s with regs := (Dev.taskCleared e s t).regs, tasks := (Dev.taskCleared e s t).tasks } := by
  unfold Dev.taskCleared
  dsimp only
  split <;> rfl

theorem Dev.taskCleared_regsKept (t : Nat) : s.RegsKept (Dev.taskCleared e s t) [A.PE_TASK_STAT e t] := by
  unfold Dev.taskCleared
  dsimp only
  split
  · exact Dev.RegsKept.set (fun _ _ => rfl) _ _ (List.mem_singleton_self _)
  · exact fun _ _ => rfl

theorem Dev.tasks_taskCleared (t : Nat) :
    (Dev.taskCleared e s t).tasks = (s.setTask e t { s.task e t with w := [], f := [] }).tasks := by
  unfold Dev.taskCleared
  dsimp only
  split <;> rfl

theorem Dev.taskState_taskCleared (t : Nat) : (Dev.taskCleared e s t).taskState e t =
    if s.taskState e t = tsFaulted then tsIdle else s.taskState e t := by
  have hkept : (s.setTask e t { s.task e t with w := [], f := [] }).taskState e t = s.taskState e t := rfl
  rw [Dev.taskCleared, hkept]
  split
  · exact Dev.get_set_same _ _ _ _ (by decide) (by decide)
  · exact hkept

end

/-- Registers that the swap writes. -/
def swapRegs (e : Nat) : List Nat := A.PE_CODE e :: ((upto 16).map (A.PE_TASK_STAT e) ++ (upto 8).map (A.PE_BRK e))

/-- `d` stands as the swap may leave `s`. -/
structure Dev.SwapOnly (e : Nat) (s d : Dev) : Prop where
  frame : d = { s with regs := d.regs, tasks := d.tasks }
  regs : s.RegsKept d (swapRegs e)

theorem Dev.RegsOnly.task {s d : Dev} (h : s.RegsOnly d) (e t : Nat) : d.task e t = s.task e t := by
  obtain ⟨r, rfl⟩ := h
  rfl

theorem Dev.RegsOnly.swapOnly {e : Nat} {s d : Dev} (h : s.RegsOnly d) (hr : s.RegsKept d (swapRegs e)) : s.SwapOnly e d := by
  obtain ⟨r, rfl⟩ := h
  exact ⟨rfl, hr⟩

section
variable {e : Nat} {s d : Dev} (h : s.SwapOnly e d)
include h

theorem Dev.SwapOnly.trans {u : Dev} (k : d.SwapOnly e u) : s.SwapOnly e u :=
  ⟨by rw [k.frame, h.frame], h.regs.trans k.regs⟩

theorem Dev.SwapOnly.engs : d.engs = s.engs := by rw [h.frame]
theorem Dev.SwapOnly.ticks : d.ticks = s.ticks := by rw [h.frame]
theorem Dev.SwapOnly.mem : d.mem = s.mem := by rw [h.frame]
theorem Dev.SwapOnly.pool : d.pool = s.pool := by rw [h.frame]

end

section
variable (s : Dev) (e : Nat)

theorem Dev.tasksCleared_regsKept : s.RegsKept (s.each 16 (Dev.taskCleared e)) ((upto 16).map (A.PE_TASK_STAT e)) :=
  foldl_keeps (fun d => s.RegsKept d ((upto 16).map (A.PE_TASK_STAT e))) _ _ s
    (fun d t ht hd => hd.trans ((d.taskCleared_regsKept e t).mono (by simpa using ⟨t, ht, rfl⟩))) (.refl s _)

theorem Dev.brksOff_regsKept : s.RegsKept (s.each 8 (Dev.brkOff e)) ((upto 8).map (A.PE_BRK e)) :=
  foldl_keeps (fun d => s.RegsKept d ((upto 8).map (A.PE_BRK e))) _ _ s
    (fun _ _ hk hd => hd.set _ _ (List.mem_map_of_mem hk)) (.refl s _)

theorem Dev.brksOff_regsOnly : s.RegsOnly (s.each 8 (Dev.brkOff e)) :=
  foldl_keeps s.RegsOnly _ _ s (fun _ _ _ hd => hd.set ..) (.refl s)

theorem Dev.SwapOnly.refl : s.SwapOnly e s := ⟨rfl, .refl s _⟩

theorem Dev.tasksCleared_swapOnly : s.SwapOnly e (s.each 16 (Dev.taskCleared e)) := by
  refine foldl_keeps (s.SwapOnly e) _ _ s (fun d t ht hd => hd.trans ⟨d.taskCleared_frame e t, ?_⟩) (.refl s e)
  have hmem : A.PE_TASK_STAT e t ∈ swapRegs e := List.mem_cons_of_mem _ (List.mem_append_left _ (List.mem_map_of_mem ht))
  exact (d.taskCleared_regsKept e t).mono (List.cons_subset.2 ⟨hmem, List.nil_subset _⟩)

theorem Dev.brksOff_swapOnly : s.SwapOnly e (s.each 8 (Dev.brkOff e)) :=
  (s.brksOff_regsOnly e).swapOnly ((s.brksOff_regsKept e).mono fun _ ha => List.mem_cons_of_mem _ (List.mem_append_right _ ha))

theorem Dev.vnrSwap_swapOnly : s.SwapOnly e (s.vnrSwap e) := by
  have hhalves : s.SwapOnly e (s.halvesSwapped e) :=
    (s.halvesSwapped_regsOnly e).swapOnly ((s.halvesSwapped_regsKept e).mono (by simp [swapRegs]))
  exact (hhalves.trans (Dev.tasksCleared_swapOnly _ e)).trans (Dev.brksOff_swapOnly _ e)

/-- What the swap leaves of PE_CODE: tasks and breakpoints have registers of their own. -/
theorem Dev.code_vnrSwap (f : Fld) : (s.vnrSwap e).get (A.PE_CODE e) f = (s.halvesSwapped e).get (A.PE_CODE e) f := by
  have hbrk : A.PE_CODE e ∉ (upto 8).map (A.PE_BRK e) := by
    simp only [List.mem_map, A.PE_CODE, A.PE_BRK, not_exists, not_and]
    omega
  have htask : A.PE_CODE e ∉ (upto 16).map (A.PE_TASK_STAT e) := by
    simp only [List.mem_map, A.PE_CODE, A.PE_TASK_STAT, not_exists, not_and]
    omega
  rw [Dev.vnrSwap_eq, (Dev.brksOff_regsKept _ e).get f hbrk, (Dev.tasksCleared_regsKept _ e).get f htask]

theorem Dev.task_vnrSwap {t : Nat} (ht : t < 16) : (s.vnrSwap e).task e t = { s.task e t with w := [], f := [] } := by
  have hclear := Dev.each_slot (g := fun d t => d.task e t) (f := Dev.taskCleared e) (h := fun k => { k with w := [], f := [] })
    (fun d t => by rw [Dev.task, d.tasks_taskCleared]; exact d.task_setTask_same ..)
    (fun d t u hu => by rw [Dev.task, d.tasks_taskCleared]; exact d.task_setTask_other _ _ hu) (s.halvesSwapped e) 16 t
  rw [if_pos ht] at hclear
  rw [Dev.vnrSwap_eq, (Dev.brksOff_regsOnly _ e).task, hclear, (s.halvesSwapped_regsOnly e).task]

theorem Dev.taskState_vnrSwap {t : Nat} (ht : t < 16) :
    (s.vnrSwap e).taskState e t = if s.taskState e t = tsFaulted then tsIdle else s.taskState e t := by
  have hclear := Dev.each_slot (g := fun d t => d.taskState e t) (f := Dev.taskCleared e)
    (h := fun n => if n = tsFaulted then tsIdle else n) (fun d t => d.taskState_taskCleared e t)
    (fun d t u hu => (d.taskCleared_regsKept e t).get _ (by simpa [taskStat_inj] using hu)) (s.halvesSwapped e) 16 t
  have hbrk : A.PE_TASK_STAT e t ∉ (upto 8).map (A.PE_BRK e) := by
    simp only [List.mem_map, upto, List.mem_range, A.PE_TASK_STAT, A.PE_BRK, not_exists, not_and]
    omega
  have hcode : A.PE_TASK_STAT e t ∉ [A.PE_CODE e] := by
    simp only [List.mem_singleton, A.PE_TASK_STAT, A.PE_CODE]
    omega
  have hhalves : (s.halvesSwapped e).taskState e t = s.taskState e t := (s.halvesSwapped_regsKept e).get _ hcode
  rw [if_pos ht, hhalves] at hclear
  rw [Dev.vnrSwap_eq, Dev.taskState, (Dev.brksOff_regsKept _ e).get _ hbrk]
  exact hclear

theorem Dev.brk_vnrSwap {k : Nat} (hk : k < 8) : (s.vnrSwap e).bit (A.PE_BRK e k) F.PE_BRK_EN = false := by
  have hoff := Dev.each_slot (g := fun d k => d.bit (A.PE_BRK e k) F.PE_BRK_EN) (f := Dev.brkOff e) (h := fun _ => false)
    (fun d _ => congrArg (· == 1) (d.get_set_same _ _ 0 (by decide) (by decide)))
    (fun d _ m hm => congrArg (· == 1) (d.get_set_reg _ _ 0 (by simpa [brk_inj] using hm)))
    ((s.halvesSwapped e).each 16 (Dev.taskCleared e)) 8 k
  rwa [if_pos hk] at hoff

end

/-! ## The switch (R142, R143) -/

/-- Nanoseconds that a switch takes. -/
def Dev.switchNs (s : Dev) (e : Nat) : Nat :=
  1000 + (s.carryPlan e).moved + 4 * (s.carryPlan e).elems + 8 * (s.engForces e).length

/-- A switch under way shows its saturation and its duration. -/
def Dev.switchShown (s : Dev) (e : Nat) (sat : Bool) (ns : Nat) : Dev :=
  (if sat then s.raise (A.PE_VNR_STAT e) F.PE_VNR_STAT_SAT else s).set (A.PE_VNR_STAT e) F.PE_VNR_STAT_DUR ns

/-- It ends `ns` nanoseconds later. -/
def Dev.switchNoted (s : Dev) (e : Nat) (sat : Bool) (ns : Nat) : Dev :=
  let s := s.switchShown e sat ns
  s.setEng e { s.eng e with vnr := (s.eng e).vnr.map fun v => { v with endTick := some (s.ticks + cycleTicks ns) } }

section
variable (s : Dev) (e : Nat) (sat : Bool) (ns : Nat)

theorem Dev.switchShown_frame : ∃ r w, s.switchShown e sat ns = { s with regs := r, hwSet := w } := by
  cases sat with
  | false => exact ⟨_, _, s.set_regs ..⟩
  | true =>
    rw [Dev.switchShown, if_pos rfl, s.raise_regs]
    exact ⟨_, _, Dev.set_regs ..⟩

theorem Dev.switchNoted_frame : s.switchNoted e sat ns = { s with
    regs := (s.switchNoted e sat ns).regs, hwSet := (s.switchNoted e sat ns).hwSet, engs := (s.switchNoted e sat ns).engs } := by
  obtain ⟨r, w, h⟩ := s.switchShown_frame e sat ns
  rw [Dev.switchNoted, h]
  rfl

theorem Dev.tasks_switchNoted : (s.switchNoted e sat ns).tasks = s.tasks := by rw [Dev.switchNoted_frame]
theorem Dev.mem_switchNoted : (s.switchNoted e sat ns).mem = s.mem := by rw [Dev.switchNoted_frame]
theorem Dev.pool_switchNoted : (s.switchNoted e sat ns).pool = s.pool := by rw [Dev.switchNoted_frame]

theorem Dev.switchNoted_regsKept : s.RegsKept (s.switchNoted e sat ns) [A.PE_VNR_STAT e] := fun a ha => by
  have hsat : s.RegsKept (if sat then s.raise (A.PE_VNR_STAT e) F.PE_VNR_STAT_SAT else s) [A.PE_VNR_STAT e] := by
    split
    · exact (Dev.RegsKept.refl s _).raise _ (List.mem_singleton_self _)
    · exact .refl s _
  rw [Dev.switchNoted, Dev.reg_setEng]
  exact hsat.set _ _ (List.mem_singleton_self _) a ha

theorem Dev.vnr_switchNoted : ((s.switchNoted e sat ns).eng e).vnr =
    (s.eng e).vnr.map fun v => { v with endTick := some (s.ticks + cycleTicks ns) } := by
  obtain ⟨r, w, h⟩ := s.switchShown_frame e sat ns
  rw [Dev.switchNoted, h, Dev.eng_setEng_same]
  rfl

end

/-- The device after a switch: the carry, the forces, the halves with the tasks and breakpoints, and the note of its end. -/
def Dev.switched (s : Dev) (e : Nat) : Dev :=
  ((s.rekeyed e (s.carried e)).vnrSwap e).switchNoted e (s.carryPlan e).sat (s.switchNs e)

theorem Dev.veneerSwitch_begins {s : Dev} {e : Nat} (h : s.vnrMay e = true) : s.veneerSwitch e = s.switched e := if_pos h

section
variable (s : Dev) (e : Nat)

/-- The swap finds PE_CODE, the engine and its tasks as the switch found them. -/
theorem Dev.engineKept_rekeyed : s.EngineKept e (s.rekeyed e (s.carried e)) :=
  (s.carried_stores e).engineKept.trans (s.rekeyed_engineKept e _)

theorem Dev.get_switched {a : Nat} (h : a ≠ A.PE_VNR_STAT e) (f : Fld) :
    (s.switched e).get a f = ((s.rekeyed e (s.carried e)).vnrSwap e).get a f :=
  (Dev.switchNoted_regsKept _ _ _ _).get f (by simpa using h)

theorem Dev.code_switched (f : Fld) :
    (s.switched e).get (A.PE_CODE e) f = ((s.rekeyed e (s.carried e)).halvesSwapped e).get (A.PE_CODE e) f := by
  have hne : A.PE_CODE e ≠ A.PE_VNR_STAT e := by
    simp only [A.PE_CODE, A.PE_VNR_STAT]
    omega
  rw [s.get_switched e hne, Dev.code_vnrSwap]

theorem Dev.act_switched : (s.switched e).get (A.PE_CODE e) F.PE_CODE_ACT = s.get (A.PE_CODE e) F.PE_CODE_VEN := by
  rw [Dev.code_switched, Dev.act_halvesSwapped, (s.engineKept_rekeyed e).get (.code e)]

theorem Dev.ven_switched : (s.switched e).get (A.PE_CODE e) F.PE_CODE_VEN = s.get (A.PE_CODE e) F.PE_CODE_ACT := by
  rw [Dev.code_switched, Dev.ven_halvesSwapped, (s.engineKept_rekeyed e).get (.code e)]

theorem Dev.task_switched {t : Nat} (ht : t < 16) : (s.switched e).task e t = { s.task e t with w := [], f := [] } := by
  have hkept : (s.rekeyed e (s.carried e)).task e t = s.task e t := by rw [Dev.task, (s.engineKept_rekeyed e).tasks, Dev.task]
  rw [Dev.task, Dev.switched, Dev.tasks_switchNoted, ← hkept]
  exact Dev.task_vnrSwap _ e ht

theorem Dev.taskState_switched {t : Nat} (ht : t < 16) :
    (s.switched e).taskState e t = if s.taskState e t = tsFaulted then tsIdle else s.taskState e t := by
  have hne : A.PE_TASK_STAT e t ≠ A.PE_VNR_STAT e := by
    simp only [A.PE_TASK_STAT, A.PE_VNR_STAT]
    omega
  have hkept : (s.rekeyed e (s.carried e)).taskState e t = s.taskState e t := (s.engineKept_rekeyed e).get (.taskStat e ht) _
  rw [← hkept, ← Dev.taskState_vnrSwap _ _ ht]
  exact s.get_switched e hne _

theorem Dev.brk_switched {k : Nat} (hk : k < 8) : (s.switched e).bit (A.PE_BRK e k) F.PE_BRK_EN = false := by
  have hne : A.PE_BRK e k ≠ A.PE_VNR_STAT e := by
    simp only [A.PE_BRK, A.PE_VNR_STAT]
    omega
  rw [Dev.bit, s.get_switched e hne]
  exact Dev.brk_vnrSwap _ e hk

theorem Dev.vnr_switched : ((s.switched e).eng e).vnr =
    (s.eng e).vnr.map fun v => { v with endTick := some (s.ticks + cycleTicks (s.switchNs e)) } := by
  have hkept := s.engineKept_rekeyed e
  have hswap := (s.rekeyed e (s.carried e)).vnrSwap_swapOnly e
  rw [Dev.switched, Dev.vnr_switchNoted, Dev.eng, hswap.engs, hkept.engs, hswap.ticks, hkept.ticks, Dev.eng]

end

/-! ## The frame of a switch without deliveries -/

/-- `d` stands as a switch that delivers no Q word may leave `s`. -/
def Dev.SwitchOnly (s d : Dev) : Prop :=
  d = { s with regs := d.regs, tasks := d.tasks, engs := d.engs, forces := d.forces, mem := d.mem, pool := d.pool,
               wrote := d.wrote, hwSet := d.hwSet, scribe := d.scribe, free := d.free }

section
variable {s : Dev} {e : Nat}

theorem Dev.SwitchOnly.trans {d u : Dev} (h : s.SwitchOnly d) (k : d.SwitchOnly u) : s.SwitchOnly u := by
  unfold Dev.SwitchOnly at *
  rw [k, h]

theorem Dev.Stores.switchOnly {d : Dev} (h : s.Stores d) : s.SwitchOnly d := by
  rw [Dev.SwitchOnly, h.frame]

theorem Dev.ForcesOnly.switchOnly {d : Dev} (h : s.ForcesOnly e d) : s.SwitchOnly d := by
  rw [Dev.SwitchOnly, h.frame]

theorem Dev.SwapOnly.switchOnly {d : Dev} (h : s.SwapOnly e d) : s.SwitchOnly d := by
  rw [Dev.SwitchOnly, h.frame]

theorem Dev.switchNoted_switchOnly (s : Dev) (e : Nat) (sat : Bool) (ns : Nat) : s.SwitchOnly (s.switchNoted e sat ns) := by
  rw [Dev.SwitchOnly, Dev.switchNoted_frame]

variable (hs : s.NoneStands)
include hs

/-- The forces that follow the carry are delivered nowhere. -/
theorem Dev.NoneStands.rekeyed : (s.carried e).ForcesOnly e (s.rekeyed e (s.carried e)) := by
  have hstores := s.carried_stores e
  exact s.rekeyed_forcesOnly e _
    ((hstores.regs.mono (List.subset_append_right (forceRegs e) _)).noneStands hs (by rw [hstores.frame]))

theorem Dev.NoneStands.switchOnly : s.SwitchOnly (s.switched e) :=
  (((s.carried_stores e).switchOnly.trans hs.rekeyed.switchOnly).trans (Dev.vnrSwap_swapOnly _ e).switchOnly).trans
    (Dev.switchNoted_switchOnly ..)

/-- Memory and its lines are as the carry leaves them. -/
theorem Dev.NoneStands.mem_switched : (s.switched e).mem = (s.carried e).mem ∧ (s.switched e).pool = (s.carried e).pool := by
  have hswap := (s.rekeyed e (s.carried e)).vnrSwap_swapOnly e
  have hforces := hs.rekeyed (e := e)
  rw [Dev.switched, Dev.mem_switchNoted, Dev.pool_switchNoted, hswap.mem, hswap.pool, hforces.mem, hforces.pool]
  exact ⟨rfl, rfl⟩

theorem Dev.NoneStands.byte_switched {k : Nat} (h : s.OutsideStores e (s.carryPlan e).stores k) :
    (s.switched e).byte k = s.byte k := by
  rw [Dev.byte, hs.mem_switched.1]
  exact Dev.byte_carried h

/-- With nothing to carry a switch writes no register of the pool. -/
theorem Dev.NoneStands.regsKept_switched (h : (s.carryPlan e).stores = []) :
    s.RegsKept (s.switched e) (A.PE_CODE e :: A.PE_VNR_STAT e :: A.PE_FORCE_ORPHAN e :: A.SYS_FRC_STAT ::
      ((upto 16).map (A.PE_TASK_STAT e) ++ (upto 8).map (A.PE_BRK e))) := by
  have hforces := hs.rekeyed (e := e)
  have hswap := (s.rekeyed e (s.carried e)).vnrSwap_swapOnly e
  have hnoted := ((s.rekeyed e (s.carried e)).vnrSwap e).switchNoted_regsKept e (s.carryPlan e).sat (s.switchNs e)
  rw [Dev.carried_nothing h] at hforces hswap hnoted
  rw [Dev.switched, Dev.carried_nothing h]
  refine ((hforces.regs.mono ?_).trans (hswap.regs.mono ?_)).trans (hnoted.mono ?_)
  · simp [forceRegs]
  · refine List.cons_subset.2 ⟨List.mem_cons_self .., fun a ha => ?_⟩
    simp only [List.mem_cons]
    exact .inr (.inr (.inr (.inr ha)))
  · simp

end

/-- Settles O32: a request waits or ends with its cause, and a switch carries, re-keys the forces, then swaps. -/
theorem veneerChange : Obligations.VeneerChange := by
  intro s e hon x a code
  refine ⟨fun drain => ?_, Dev.vnrCheck_notValid, fun v hv hend => ?_⟩
  · have he : exec (if drain then .switchDrain e else .switchGap e) s = s.go (·.vnrRequest e.val drain) := by
      cases drain <;> rfl
    refine ⟨fun hn hc => Does.of_go he hon ?_, fun k hn hc => Does.of_go he hon ?_, fun hp => Does.of_go he hon ?_⟩
    · rw [Dev.vnrRequest_waits drain hn hc]
      exact ⟨x.vnrWaiting_frame e drain, x.vnr_vnrWaiting e drain, fun k hk => x.eng_vnrWaiting_other e drain hk,
        x.pend_vnrWaiting e drain, x.vnrWaiting_regsKept e drain⟩
    · obtain ⟨o, ho, hd⟩ := x.vnrEnd_offer e k
      rw [Dev.vnrRequest_refused drain hn hc, hd]
      obtain ⟨hcause, hpend, hvnr, hregs⟩ := x.vnrEnd_ended e k (Dev.vnrCheck_lt hc) rfl rfl
      exact ⟨hcause, hpend, rfl, hvnr, hregs, o, ho, rfl⟩
    · exact Dev.vnrRequest_standing drain hp
  · intro ended
    refine ⟨Does.of_go (f := (·.vnrWithdraw e.val)) rfl hon ?_, fun hrun hdue =>
      Does.of_live (f := (·.vnrTimeout e.val)) rfl hon hrun ?_, fun hrun hlate hmode => ?_⟩
    · rw [Dev.vnrWithdraw_waiting hv hend, Dev.vnrEnd_frame]
      obtain ⟨hcause, hpend, hvnr, hregs⟩ := x.vnrEnd_ended e 9 (by decide) rfl rfl
      exact ⟨hcause, hpend, hvnr, hregs, rfl⟩
    · obtain ⟨_, -, hd⟩ := x.vnrEnd_offer e 8
      rw [Dev.vnrTimeout_due hv hend hdue, hd]
      obtain ⟨hcause, hpend, hvnr, hregs⟩ := x.vnrEnd_ended e 8 (by decide) rfl rfl
      exact ⟨hcause, hpend, hvnr, hregs, rfl⟩
    · refine Does.of_live (f := (·.veneerSwitch e.val)) rfl hon hrun ?_
      rw [Dev.veneerSwitch_begins (Dev.vnrMay_begins hv hend hlate hmode)]
      refine ⟨x.act_switched e, x.ven_switched e, (x.code_switched e _).trans (Dev.aval_halvesSwapped ..),
        (x.code_switched e _).trans (Dev.vval_halvesSwapped ..), fun t ht => ⟨x.task_switched e ht, x.taskState_switched e ht⟩,
        fun k hk => x.brk_switched e hk, ?_, fun hs => ?_⟩
      · rw [Dev.vnr_switched, hv]
        rfl
      · have hs : x.NoneStands := hs
        refine ⟨hs.switchOnly, fun k hk => hs.byte_switched hk, fun hn => ?_⟩
        have hmem := hs.mem_switched (e := e.val)
        rw [Dev.carried_nothing hn] at hmem
        exact ⟨hmem.1, hmem.2, hs.regsKept_switched hn⟩

end Sys2Proof.Machine
end

section
/-! Requests of loop slots (O34): what an operation's write-through leaves, and what a request writes. -/

namespace Sys2Proof.Machine

/-! ## Fields and pairs beside the one written -/

/-- A bit that is set leaves a bit apart from it. -/
theorem Dev.bit_setBit_field (s : Dev) (a : Nat) (f g : Fld) (b : Bool) (hf : f.ok = true) (hg : g.ok = true)
    (h : g.hi < f.lo ∨ f.hi < g.lo) : (s.setBit a f b).bit a g = s.bit a g :=
  congrArg (· == 1) (s.get_set_field a f g _ hf hg h)

/-- A pair leaves a pair apart from it. -/
theorem Dev.pair_setPair_other (s : Dev) {a b : Nat} (v : Dbl) (h : b + 8 ≤ a ∨ a + 8 ≤ b) :
    (s.setPair a v).pair b = s.pair b :=
  have hk : s.RegsKept (s.setPair a v) [a, a + 4] :=
    (Dev.RegsKept.refl s _).setPair v List.mem_cons_self (List.mem_cons_of_mem _ List.mem_cons_self)
  hk.pair (by simp; omega) (by simp; omega)

/-- Devices that differ in registers alone, one after the other. -/
theorem Dev.RegsOnly.trans {s t d : Dev} (h : s.RegsOnly t) (k : t.RegsOnly d) : s.RegsOnly d := by
  obtain ⟨r, rfl⟩ := h
  obtain ⟨r', rfl⟩ := k
  exact ⟨r', rfl⟩

theorem Dev.RegsOnly.setPair {s d : Dev} (h : s.RegsOnly d) (a : Nat) (v : Dbl) : s.RegsOnly (d.setPair a v) :=
  (h.setReg _ _).setReg _ _

/-! ## The write-through of a slot operation (R152) -/

section
variable {s t d : Dev} {a n : Nat}

theorem Dev.MemOnly.bit (h : s.MemOnly d a n) (k : Nat) (f : Fld) : d.bit k f = s.bit k f := by rw [Dev.bit, h.get, Dev.bit]

theorem Dev.MemOnly.slotSt (h : s.MemOnly d a n) (g : Nat) : d.slotSt g = s.slotSt g := by
  simp only [Dev.slotSt, Dev.pair, h.reg]

theorem Dev.MemOnly.slotOut (h : s.MemOnly d a n) (w : List Word) (y : Dbl) : d.slotOut w y = s.slotOut w y := by
  obtain ⟨⟨m, p, rfl⟩, -⟩ := h
  rfl

theorem Dev.MemOnly.regsKept {as : List Nat} (h : t.MemOnly d a n) (hk : s.RegsKept t as) : s.RegsKept d as :=
  fun k hn => (h.reg k).trans (hk k hn)

end

/-- A write-through in a bank that stays the tile's keeps memory outside the slot's lines. -/
theorem Dev.MemOnly.bytesKept {s t d : Dev} {g : Nat} {as : List Nat} (h : t.MemOnly d (t.slotHome g) 176)
    (hmem : t.mem = s.mem) (hk : s.RegsKept t as) (hcfg : A.LT_CFG (g / 64) ∉ as) :
    s.BytesKept d (s.slotHome g) 176 := by
  have hhome : t.slotHome g = s.slotHome g := by rw [Dev.slotHome, hk.get _ hcfg, Dev.slotHome]
  exact (hhome ▸ h).2.of_mem hmem

/-! ## What stands in LT_SLOT_STAT and LT_SLOT_CTL after a request (R171, R176) -/

/-- PEND and GLUW of a slot as a request or a withdrawal leaves them. -/
def Dev.slotPended (s : Dev) (g req : Nat) (waits : Bool) : Dev :=
  (s.slotSetPend g req).setBit (slotStat g) F.LT_SLOT_STAT_GLUW waits

section
variable (s : Dev) (g req : Nat) (waits : Bool) (glu : Option Nat)

theorem Dev.slotPended_regsOnly : s.RegsOnly (s.slotPended g req waits) := ((Dev.RegsOnly.refl s).set ..).set ..

theorem Dev.slotPended_regsKept : s.RegsKept (s.slotPended g req waits) [slotStat g] :=
  ((Dev.RegsKept.refl s _).set _ _ List.mem_cons_self).set _ _ List.mem_cons_self

theorem Dev.slotPend_slotPended (h : req < 8) : (s.slotPended g req waits).slotPend g = req := by
  rw [Dev.slotPend, Dev.slotPended, Dev.setBit, Dev.get_set_field _ _ _ _ _ (by decide) (by decide) (by decide)]
  exact Dev.get_set_same _ _ _ _ (by decide) h

theorem Dev.gluw_slotPended : (s.slotPended g req waits).bit (slotStat g) F.LT_SLOT_STAT_GLUW = waits :=
  Dev.bit_setBit_same _ _ _ _ (by decide)

/-- PEND and GLUW lie in bits 2 to 5: the fields outside these stay. -/
theorem Dev.get_slotPended_field {f : Fld} (hf : f.ok = true) (h : f.hi < 2 ∨ 5 < f.lo) :
    (s.slotPended g req waits).get (slotStat g) f = s.get (slotStat g) f := by
  have hgluw : f.hi < F.LT_SLOT_STAT_GLUW.lo ∨ F.LT_SLOT_STAT_GLUW.hi < f.lo := h.imp (Nat.lt_trans · (by decide)) id
  have hpend : f.hi < F.LT_SLOT_STAT_PEND.lo ∨ F.LT_SLOT_STAT_PEND.hi < f.lo := h.imp id (Nat.lt_trans (by decide))
  rw [Dev.slotPended, Dev.setBit, Dev.get_set_field _ _ _ _ _ (by decide) hf hgluw, Dev.slotSetPend,
    Dev.get_set_field _ _ _ _ _ (by decide) hf hpend]

theorem Dev.slotGlue_regsOnly : s.RegsOnly (s.slotGlue g glu) := by
  cases glu with
  | none => exact (Dev.RegsOnly.refl s).set ..
  | some n => exact ((Dev.RegsOnly.refl s).set ..).set ..

theorem Dev.slotGlue_regsKept : s.RegsKept (s.slotGlue g glu) [A.LT_SLOT_CTL (g / 64) (g % 64)] := by
  cases glu with
  | none => exact (Dev.RegsKept.refl s _).set _ _ List.mem_cons_self
  | some n => exact ((Dev.RegsKept.refl s _).set _ _ List.mem_cons_self).set _ _ List.mem_cons_self

theorem Dev.glu_slotGlue {n : Nat} (h : n < 32) :
    (s.slotGlue g (some n)).get (A.LT_SLOT_CTL (g / 64) (g % 64)) F.LT_SLOT_CTL_GLU = n :=
  Dev.get_set_same _ _ _ _ (by decide) h

end

/-! ## Requests and withdrawals -/

/-- A device after LT_SLOT_CTL has taken GLUEN and GLU, and LT_SLOT_STAT has PEND and GLUW. -/
def Dev.slotAsked (s : Dev) (g req : Nat) (glu : Option Nat) (waits : Bool) : Dev :=
  (s.slotGlue g glu).slotPended g req waits

section
variable (s : Dev) (g req : Nat) (glu : Option Nat) (waits : Bool)

theorem Dev.slotPut_withdraw : s.slotPut g 7 glu = s.slotAsked g 0 glu false := rfl

theorem Dev.slotPut_request {req : Nat} (h : req < 7) : s.slotPut g req glu =
    (s.slotAsked g req glu glu.isSome).onLoop g fun l => { l with glu := glu.getD 0, reqTick := s.ticks + 1 } := by
  obtain ⟨r, hr⟩ := s.slotGlue_regsOnly g glu
  have ht : (s.slotGlue g glu).ticks = s.ticks := by rw [hr]
  rw [Dev.slotPut, if_neg (Nat.ne_of_lt h), ht]
  rfl

theorem Dev.slotAsked_regsOnly : s.RegsOnly (s.slotAsked g req glu waits) :=
  (s.slotGlue_regsOnly g glu).trans (Dev.slotPended_regsOnly _ g req waits)

theorem Dev.slotAsked_regsKept :
    s.RegsKept (s.slotAsked g req glu waits) [slotStat g, A.LT_SLOT_CTL (g / 64) (g % 64)] :=
  ((s.slotGlue_regsKept g glu).mono (by simp)).trans ((Dev.slotPended_regsKept _ g req waits).mono (by simp))

theorem Dev.get_slotAsked_field {f : Fld} (hf : f.ok = true) (h : f.hi < 2 ∨ 5 < f.lo) :
    (s.slotAsked g req glu waits).get (slotStat g) f = s.get (slotStat g) f := by
  rw [Dev.slotAsked, Dev.get_slotPended_field _ _ _ _ hf h,
    (s.slotGlue_regsKept g glu).get f (by simpa using slotStat_ne_ctl g)]

theorem Dev.glu_slotAsked {n : Nat} (h : n < 32) :
    (s.slotAsked g req (some n) waits).get (A.LT_SLOT_CTL (g / 64) (g % 64)) F.LT_SLOT_CTL_GLU = n := by
  rw [Dev.slotAsked, (Dev.slotPended_regsKept _ g req waits).get _ (by simpa using (slotStat_ne_ctl g).symm),
    s.glu_slotGlue g h]

end

/-- A request leaves the bank of the tile. -/
theorem ltCfg_notMem_asked (g : Nat) : A.LT_CFG (g / 64) ∉ [slotStat g, A.LT_SLOT_CTL (g / 64) (g % 64)] := by
  simpa using ⟨ltCfg_ne_stat g, ltCfg_ne_ctl g⟩

/-- `d` is `s` with a request or a withdrawal of slot `g` written through, and with the hidden states `l`. -/
structure Dev.SlotAsked (s d : Dev) (g req : Nat) (glu : Option Nat) (waits : Bool) (l : Tab Loop) : Prop where
  frame : d = { s with regs := d.regs, loops := l, mem := d.mem, pool := d.pool }
  pend : d.slotPend g = req
  gluw : d.bit (slotStat g) F.LT_SLOT_STAT_GLUW = waits
  field : ∀ f : Fld, f.ok = true → f.hi < 2 ∨ 5 < f.lo → d.get (slotStat g) f = s.get (slotStat g) f
  glu : ∀ n < 32, glu = some n → d.get (A.LT_SLOT_CTL (g / 64) (g % 64)) F.LT_SLOT_CTL_GLU = n
  regs : s.RegsKept d [slotStat g, A.LT_SLOT_CTL (g / 64) (g % 64)]
  bytes : s.BytesKept d (s.slotHome g) 176

theorem Dev.SlotAsked.loops {s d : Dev} {g req : Nat} {glu : Option Nat} {waits : Bool} {l : Tab Loop}
    (h : s.SlotAsked d g req glu waits l) : d.loops = l :=
  congrArg Dev.loops h.frame

section
variable {s : Dev} {g : Nat}

/-- The write-through of a device whose registers are those of the request, with the hidden states `l`. -/
theorem Dev.SlotAsked.of_memOnly {t d : Dev} {req : Nat} {glu : Option Nat} {waits : Bool} {l : Tab Loop} (hreq : req < 8)
    (h : t.MemOnly d (t.slotHome g) 176) (hregs : t.regs = (s.slotAsked g req glu waits).regs)
    (ht : t = { s with regs := t.regs, loops := l }) : s.SlotAsked d g req glu waits l := by
  have htreg (k : Nat) : t.reg k = (s.slotAsked g req glu waits).reg k := by rw [Dev.reg, hregs, Dev.reg]
  have hget (k : Nat) (f : Fld) : d.get k f = (s.slotAsked g req glu waits).get k f := by rw [h.get, Dev.get, htreg, Dev.get]
  have hkept : s.RegsKept t [slotStat g, A.LT_SLOT_CTL (g / 64) (g % 64)] := fun k hk =>
    (htreg k).trans (s.slotAsked_regsKept g req glu waits k hk)
  constructor
  case frame =>
    obtain ⟨⟨m, p, rfl⟩, -⟩ := h
    rw [ht]
  case pend => exact (hget _ _).trans (Dev.slotPend_slotPended _ g req _ hreq)
  case gluw => exact (congrArg (· == 1) (hget _ _)).trans (Dev.gluw_slotPended _ g req _)
  case field => exact fun f hf hi => (hget _ _).trans (s.get_slotAsked_field g req glu waits hf hi)
  case glu =>
    rintro n hn rfl
    exact (hget _ _).trans (s.glu_slotAsked g req waits hn)
  case regs => exact h.regsKept hkept
  case bytes => exact h.bytesKept (by rw [ht]) hkept (ltCfg_notMem_asked g)

variable (ha : (s.tile (g / 64)).accepted = true) (glu : Option Nat)
include ha

/-- A request of a mode also notes its glue-up slot and the tick from which it is visible. -/
theorem Dev.slotRequest_asked {req : Nat} (h : req < 7) :
    s.SlotAsked (s.slotRequest g req glu) g req glu glu.isSome
      (s.onLoop g fun l => { l with glu := glu.getD 0, reqTick := s.ticks + 1 }).loops := by
  obtain ⟨r, hr⟩ := s.slotAsked_regsOnly g req glu glu.isSome
  have hput := s.slotPut_request g glu h
  rw [s.slotRequest_accepted g req glu ha]
  refine .of_memOnly (Nat.lt_succ_of_lt h) (s.slotDo_memOnly g (·.slotPut g req glu)) ?_ ?_
  · rw [hput]
    rfl
  · rw [hput, hr]
    rfl

theorem Dev.slotRequest_withdrawn : s.SlotAsked (s.slotRequest g 7 glu) g 0 glu false s.loops := by
  obtain ⟨r, hr⟩ := s.slotAsked_regsOnly g 0 glu false
  rw [s.slotRequest_accepted g 7 glu ha]
  refine .of_memOnly (by decide) (s.slotDo_memOnly g (·.slotPut g 7 glu)) ?_ ?_
  · rw [s.slotPut_withdraw]
  · rw [s.slotPut_withdraw, hr]

end

/-- The hidden states of a device whose slot `g` is changed. -/
theorem Dev.loop_of_loops {s d : Dev} {g : Nat} {f : Loop → Loop} (h : d.loops = (s.onLoop g f).loops) :
    d.loop g = f (s.loop g) ∧ ∀ k, k ≠ g → d.loop k = s.loop k := by
  have hd (k : Nat) : d.loop k = (s.onLoop g f).loop k := by rw [Dev.loop, h, Dev.loop]
  exact ⟨(hd g).trans (s.loop_onLoop_same g f), fun k hk => (hd k).trans (s.loop_onLoop_other f hk)⟩

/-- The six requests of a mode are writes of their code. -/
theorem exec_modeRequest {g : Fin 512} {glu : Option (Fin 32)} {c : Instr} {r : Nat} (s : State)
    (h : (c, r) ∈ [(Instr.slotOff g glu, 1), (.openHold g glu, 2), (.openManual g glu, 3), (.closeZero g glu, 4),
      (.closePreset g glu, 5), (.closeUser g glu, 6)]) :
    exec c s = s.go (·.slotRequest g r (glu.map (·.val))) ∧ r < 7 := by
  simp only [List.mem_cons, Prod.mk.injEq, List.not_mem_nil, or_false] at h
  obtain ⟨rfl, rfl⟩ | ⟨rfl, rfl⟩ | ⟨rfl, rfl⟩ | ⟨rfl, rfl⟩ | ⟨rfl, rfl⟩ | ⟨rfl, rfl⟩ := h <;> exact ⟨rfl, by decide⟩

/-- CCLR clears CAUSE, and is written through (R192). -/
theorem Dev.cclr_memOnly (s : Dev) (g : Nat) :
    (s.set (slotStat g) F.LT_SLOT_STAT_CAUSE 0).MemOnly (s.cclr g) ((s.set (slotStat g) F.LT_SLOT_STAT_CAUSE 0).slotHome g) 176 :=
  s.slotDo_memOnly g (·.set (slotStat g) F.LT_SLOT_STAT_CAUSE 0)

/-- Settles O34: each request is its write of LT_SLOT_STAT and LT_SLOT_CTL, and the slot's lines alone go to the bank. -/
theorem slotRequests : Obligations.SlotRequests := by
  refine ⟨fun s g glu c r hon ha hc => ?_, fun s g glu hon ha => ⟨?_, ?_⟩⟩
  · obtain ⟨he, hr⟩ := exec_modeRequest s hc
    refine Does.of_go he hon ?_
    have h := Dev.slotRequest_asked ha (glu.map (·.val)) hr
    obtain ⟨hsame, hother⟩ := Dev.loop_of_loops h.loops
    exact ⟨by rw [h.loops]; exact h.frame, h.pend, h.field _ (by decide) (.inl (by decide)), h.gluw.trans Option.isSome_map,
      fun n hn => h.glu n n.isLt (by rw [hn]; rfl), hsame, hother, h.regs, h.bytes⟩
  · have he : exec (.slotWithdraw g glu) s = s.go (·.slotRequest g 7 (glu.map (·.val))) := rfl
    refine Does.of_go he hon ?_
    have h := Dev.slotRequest_withdrawn ha (glu.map (·.val))
    exact ⟨h.frame, h.pend, h.gluw, h.field _ (by decide) (.inl (by decide)), h.field _ (by decide) (.inr (by decide)),
      h.regs, h.bytes⟩
  · have he : exec (.cclr g) s = s.go (·.cclr g) := rfl
    refine Does.of_go he hon ?_
    have h := s.dev.cclr_memOnly g
    have hkept : s.dev.RegsKept (s.dev.set (slotStat g) F.LT_SLOT_STAT_CAUSE 0) [slotStat g] :=
      (Dev.RegsKept.refl _ _).set _ _ List.mem_cons_self
    refine ⟨?_, ?_, ?_, ?_, h.regsKept hkept, h.bytesKept (Dev.set_mem ..) hkept (by simpa using ltCfg_ne_stat g)⟩
    · obtain ⟨⟨m, p, hd⟩, -⟩ := h
      obtain ⟨r, hr⟩ := (Dev.RegsOnly.refl s.dev).set (slotStat g) F.LT_SLOT_STAT_CAUSE 0
      rw [hd, hr]
    · exact (h.get _ _).trans (Dev.get_set_same _ _ _ _ (by decide) (by decide))
    · exact (h.get _ _).trans (Dev.get_set_field _ _ _ _ _ (by decide) (by decide) (by decide))
    · exact (h.get _ _).trans (Dev.get_set_field _ _ _ _ _ (by decide) (by decide) (by decide))

end Sys2Proof.Machine
end

section
/-! The datapath's update of a loop slot, and what a slot writes within its hard limits (O37). -/

namespace Sys2Proof.Machine

/-! ## States and flags of an update (R162, R163) -/

/-- The two words of each of a slot's four states. -/
def stateRegs (g : Nat) : List Nat := (upto 8).map (A.LT_SLOT_ST1_LO (g / 64) (g % 64) + 4 * ·)

/-- What an update computes, as registers: the states and the flags. -/
def Dev.slotComputed (s : Dev) (g : Nat) (r : UpdRes) : Dev := (s.setSlotSt g r.st).setUpdFlags g r

section
variable (s : Dev) (g : Nat) (x : LoopSt) (r : UpdRes)

theorem state_mem_stateRegs {i : Nat} (h : i < 4) :
    A.LT_SLOT_ST1_LO (g / 64) (g % 64) + 8 * i ∈ stateRegs g ∧ A.LT_SLOT_ST1_LO (g / 64) (g % 64) + 8 * i + 4 ∈ stateRegs g := by
  simp only [stateRegs, upto, List.mem_map, List.mem_range]
  exact ⟨⟨2 * i, by omega, by omega⟩, ⟨2 * i + 1, by omega, by omega⟩⟩

/-- The states lie apart from LT_SLOT_STAT and from the tile's LT_CFG. -/
theorem slotStat_notMem_stateRegs : slotStat g ∉ stateRegs g := by
  simp only [stateRegs, upto, List.mem_map, List.mem_range, slotStat, A.LT_SLOT_STAT, A.LT_SLOT_ST1_LO]
  omega

theorem ltCfg_notMem_computed : A.LT_CFG (g / 64) ∉ slotStat g :: stateRegs g := by
  simp only [stateRegs, upto, List.mem_cons, List.mem_map, List.mem_range, A.LT_CFG, slotStat, A.LT_SLOT_STAT, A.LT_SLOT_ST1_LO]
  omega

theorem Dev.setSlotSt_regsOnly : s.RegsOnly (s.setSlotSt g x) :=
  ((((Dev.RegsOnly.refl s).setPair ..).setPair ..).setPair ..).setPair ..

theorem Dev.setSlotSt_regsKept : s.RegsKept (s.setSlotSt g x) (stateRegs g) := by
  have pair {d : Dev} (h : s.RegsKept d (stateRegs g)) {i : Nat} (hi : i < 4) (v : Dbl) :
      s.RegsKept (d.setPair (A.LT_SLOT_ST1_LO (g / 64) (g % 64) + 8 * i) v) (stateRegs g) :=
    h.setPair v (state_mem_stateRegs g hi).1 (state_mem_stateRegs g hi).2
  exact pair (i := 3) (pair (i := 2) (pair (i := 1) (pair (i := 0) (.refl s _) (by decide) _) (by decide) _) (by decide) _)
    (by decide) _

/-- The states read back. -/
theorem Dev.slotSt_setSlotSt : (s.setSlotSt g x).slotSt g = x := by
  simp (disch := omega) [Dev.slotSt, Dev.setSlotSt, Dev.pair_setPair_other]

theorem Dev.setUpdFlags_regsOnly : s.RegsOnly (s.setUpdFlags g r) :=
  (((((Dev.RegsOnly.refl s).set ..).set ..).set ..).set ..).set ..

theorem Dev.setUpdFlags_regsKept : s.RegsKept (s.setUpdFlags g r) [slotStat g] :=
  have flag {d : Dev} (h : s.RegsKept d [slotStat g]) (f : Fld) (b : Bool) :
      s.RegsKept (d.setBit (slotStat g) f b) [slotStat g] := h.set f _ List.mem_cons_self
  flag (flag (flag (flag (flag (.refl s _) _ _) _ _) _ _) _ _) _ _

/-- The flags read back. -/
theorem Dev.bit_setUpdFlags :
    (s.setUpdFlags g r).bit (slotStat g) F.LT_SLOT_STAT_HELD = r.held ∧
      (s.setUpdFlags g r).bit (slotStat g) F.LT_SLOT_STAT_CLAMPH = r.clampH ∧
      (s.setUpdFlags g r).bit (slotStat g) F.LT_SLOT_STAT_CLAMPL = r.clampL ∧
      (s.setUpdFlags g r).bit (slotStat g) F.LT_SLOT_STAT_SLEWA = r.slewA ∧
      (s.setUpdFlags g r).bit (slotStat g) F.LT_SLOT_STAT_LIMERR = r.limErr := by
  refine ⟨?_, ?_, ?_, ?_, ?_⟩ <;>
    simp (disch := decide) only [Dev.setUpdFlags, Dev.bit_setBit_same, Dev.bit_setBit_field]

theorem Dev.slotMode_setUpdFlags : (s.setUpdFlags g r).slotMode g = s.slotMode g := by
  simp (disch := decide) only [Dev.slotMode, Dev.setUpdFlags, Dev.setBit, Dev.get_set_field]

/-- The flags leave the states. -/
theorem Dev.slotSt_setUpdFlags : (s.setUpdFlags g r).slotSt g = s.slotSt g := by
  have hne {a : Nat} (ha : a ∈ stateRegs g) : a ∉ [slotStat g] := fun h =>
    slotStat_notMem_stateRegs g (List.mem_singleton.1 h ▸ ha)
  have hp {i : Nat} (hi : i < 4) : (s.setUpdFlags g r).pair (A.LT_SLOT_ST1_LO (g / 64) (g % 64) + 8 * i) =
      s.pair (A.LT_SLOT_ST1_LO (g / 64) (g % 64) + 8 * i) :=
    (s.setUpdFlags_regsKept g r).pair (hne (state_mem_stateRegs g hi).1) (hne (state_mem_stateRegs g hi).2)
  simp only [Dev.slotSt, hp (i := 0) (by decide), hp (i := 1) (by decide), hp (i := 2) (by decide), hp (i := 3) (by decide)]

theorem Dev.slotComputed_regsOnly : s.RegsOnly (s.slotComputed g r) :=
  (s.setSlotSt_regsOnly g r.st).trans (Dev.setUpdFlags_regsOnly _ g r)

theorem Dev.slotComputed_regsKept : s.RegsKept (s.slotComputed g r) (slotStat g :: stateRegs g) :=
  ((s.setSlotSt_regsKept g r.st).mono (by simp)).trans ((Dev.setUpdFlags_regsKept _ g r).mono (by simp))

theorem Dev.slotSt_slotComputed : (s.slotComputed g r).slotSt g = r.st :=
  (Dev.slotSt_setUpdFlags _ g r).trans (s.slotSt_setSlotSt g r.st)

theorem Dev.slotMode_slotComputed : (s.slotComputed g r).slotMode g = s.slotMode g :=
  (Dev.slotMode_setUpdFlags _ g r).trans ((s.setSlotSt_regsKept g r.st).get _ (slotStat_notMem_stateRegs g))

end

/-! ## The datapath's update of a sample (R166, R170) -/

/-- The sample's update of a slot no longer waits. -/
def Dev.slotTaken (s : Dev) (g : Nat) : Dev := s.onLoop g fun l => { l with upd := none }

/-- The device after the datapath has taken a sample's update that gives `r`, its output on its way. -/
def Dev.slotUpdated (s : Dev) (g n now : Nat) (j : Job) (r : UpdRes) : Dev :=
  let u := (s.slotTaken g).slotComputed g r
  u.onTile n fun t => { t with
    busy := now + 25, flights := t.flights ++ [⟨g, some (u.slotOut j.words r.y), (now + 25) / 4 + 3, j.tick⟩] }

/-! Tiles lie beside registers and hidden states. -/

@[simp] theorem Dev.reg_onTile (s : Dev) (n : Nat) (f : Tile → Tile) (a : Nat) : (s.onTile n f).reg a = s.reg a := rfl
@[simp] theorem Dev.get_onTile (s : Dev) (n : Nat) (f : Tile → Tile) (a : Nat) (x : Fld) : (s.onTile n f).get a x = s.get a x := rfl
@[simp] theorem Dev.slotSt_onTile (s : Dev) (n : Nat) (f : Tile → Tile) (g : Nat) : (s.onTile n f).slotSt g = s.slotSt g := rfl
@[simp] theorem Dev.slotOut_onTile (s : Dev) (n : Nat) (f : Tile → Tile) (w : List Word) (y : Dbl) :
    (s.onTile n f).slotOut w y = s.slotOut w y := rfl
@[simp] theorem Dev.tile_onTile_same (s : Dev) (n : Nat) (f : Tile → Tile) : (s.onTile n f).tile n = f (s.tile n) :=
  tabGet_put_same ..

section
variable {s : Dev} {g n ns now : Nat} {j : Job} {r : UpdRes}

theorem Dev.runJob_computes (hact : j.act = 0) (hr : updateWith j.close j.words (s.slotSt g) j.e j.ff = some r) :
    s.runJob g j = (s.slotComputed g r, some r.y) := by
  rw [Dev.runJob, if_pos hact, hr]
  rfl

/-- A datapath that is free takes the only job that waits. -/
theorem Dev.loopStep_update (hnow : now = s.ticks * 4 + ns) (hfree : (s.tile n).busy ≤ now)
    (hjob : s.tileJobs n = [(g, true, j)]) (hact : j.act = 0)
    (hr : updateWith j.close j.words (s.slotSt g) j.e j.ff = some r) :
    s.loopStep n ns = s.slotDo g (·.slotUpdated g n now j r) := by
  subst hnow
  have hrun : (s.onLoop g fun l => { l with upd := none }).runJob g j = ((s.slotTaken g).slotComputed g r, some r.y) :=
    Dev.runJob_computes hact hr
  rw [Dev.loopStep, if_neg (Nat.not_lt.2 hfree), hjob]
  refine s.slotDo_congr g ?_
  simp only [if_true, hrun]
  rfl

end

section
variable (s : Dev) (g n now : Nat) (j : Job) (r : UpdRes)

/-- What the update leaves in the device, before its write-through. -/
theorem Dev.slotUpdated_frame : s.slotUpdated g n now j r =
    { s with regs := (s.slotUpdated g n now j r).regs, loops := (s.slotTaken g).loops,
             tiles := (s.slotUpdated g n now j r).tiles } := by
  obtain ⟨q, hq⟩ := (s.slotTaken g).slotComputed_regsOnly g r
  rw [Dev.slotUpdated, hq]
  rfl

theorem Dev.get_slotUpdated (a : Nat) (f : Fld) :
    (s.slotUpdated g n now j r).get a f = ((s.slotTaken g).slotComputed g r).get a f := by
  rw [Dev.slotUpdated, Dev.get_onTile]

theorem Dev.slotUpdated_regsKept : s.RegsKept (s.slotUpdated g n now j r) (slotStat g :: stateRegs g) := fun a ha => by
  rw [Dev.slotUpdated, Dev.reg_onTile, (s.slotTaken g).slotComputed_regsKept g r a ha, Dev.slotTaken, Dev.reg_onLoop]

theorem Dev.slotSt_slotUpdated : (s.slotUpdated g n now j r).slotSt g = r.st := by
  rw [Dev.slotUpdated, Dev.slotSt_onTile, Dev.slotSt_slotComputed]

theorem Dev.slotMode_slotUpdated : (s.slotUpdated g n now j r).slotMode g = s.slotMode g := by
  rw [Dev.slotMode, Dev.get_slotUpdated, ← Dev.slotMode, Dev.slotMode_slotComputed]
  exact s.get_onLoop ..

theorem Dev.bit_slotUpdated (f : Fld) : (s.slotUpdated g n now j r).bit (slotStat g) f =
    (((s.slotTaken g).setSlotSt g r.st).setUpdFlags g r).bit (slotStat g) f := by
  rw [Dev.bit, Dev.get_slotUpdated, Dev.slotComputed, Dev.bit]

theorem Dev.tile_slotUpdated : (s.slotUpdated g n now j r).tile n = { s.tile n with
    busy := now + 25, flights := (s.tile n).flights ++
      [⟨g, some ((s.slotUpdated g n now j r).slotOut j.words r.y), (now + 25) / 4 + 3, j.tick⟩] } := by
  obtain ⟨q, hq⟩ := (s.slotTaken g).slotComputed_regsOnly g r
  rw [Dev.slotUpdated, Dev.slotOut_onTile, Dev.tile_onTile_same, hq]
  rfl

end

/-! ## Values within the hard limits (R193) -/

/-- No number is less than itself. -/
theorem lt64_self (y : Dbl) : lt64 y y = false := by
  have hcmp : (d64 y).cmp (d64 y) = none ∨ (d64 y).cmp (d64 y) = some .eq := by
    cases d64 y with
    | nan => exact .inl rfl
    | inf neg => exact .inr (by simp [Fl.cmp])
    | num neg m e => exact .inr (by simp [Fl.cmp])
  rw [lt64, Fl.lt]
  obtain h | h := hcmp <;> rw [h] <;> rfl

section
variable {w : List Word}

/-- With the limits in order a clamped value is not below the lower and not above the upper. -/
theorem hardClamp_within (h : lt64 (slotHhi w) (slotHlo w) = false) (y : Dbl) :
    lt64 (hardClamp w y) (slotHlo w) = false ∧ lt64 (slotHhi w) (hardClamp w y) = false := by
  have hlow : lt64 (max64 y (slotHlo w)) (slotHlo w) = false := by
    rw [max64]
    split
    case isTrue => exact lt64_self _
    case isFalse hy => exact eq_false_of_ne_true hy
  rw [hardClamp, min64]
  split
  case isTrue => exact ⟨h, lt64_self _⟩
  case isFalse hy => exact ⟨hlow, eq_false_of_ne_true hy⟩

/-- The output of an update is clamped last (R163). -/
theorem loopUpdate_clamped {x : LoopSt} {e ff : Dbl} {r : UpdRes} (h : loopUpdate w x e ff = some r) :
    ∃ y, r.y = hardClamp w y := by
  simp only [loopUpdate] at h
  split at h
  · cases h
  · cases h
    exact ⟨_, rfl⟩

/-- With PRESET too, where the output is the one held (R174). -/
theorem updateWith_clamped {close : Nat} {x : LoopSt} {e ff : Dbl} {r : UpdRes} (h : updateWith close w x e ff = some r) :
    ∃ y, r.y = hardClamp w y := by
  rw [updateWith] at h
  split at h
  · cases h
  next u hu =>
    split at h
    · cases h
      exact ⟨x.ypv, rfl⟩
    · cases h
      exact loopUpdate_clamped hu

end

/-- Settles O37: the datapath's step is `Dev.slotUpdated` written through, and every output is a value of `hardClamp`. -/
theorem loopUpdates : Obligations.LoopUpdates := by
  refine ⟨fun s n ns g j r hon _ hfree hjob hact hr => ?_, fun w hw => ⟨hardClamp_within hw, ?_, fun ypv k => ?_⟩⟩
  · have he : exec (.loopUpdate n ns) s = s.go (·.loopStep n ns) := rfl
    refine Does.of_go he hon ?_
    generalize hnow : s.dev.ticks * 4 + ns.val = now at hfree ⊢
    have h := s.dev.slotDo_memOnly g (·.slotUpdated g n now j r)
    rw [← Dev.loopStep_update hnow.symm hfree hjob hact hr] at h
    have hframe := s.dev.slotUpdated_frame g n now j r
    have hmem : (s.dev.slotUpdated g n now j r).mem = s.dev.mem := by rw [hframe]
    have hloops : (s.dev.slotUpdated g n now j r).loops = (s.dev.slotTaken g).loops := by rw [hframe]
    have hbit (f : Fld) := (h.bit (slotStat g) f).trans (s.dev.bit_slotUpdated g n now j r f)
    obtain ⟨hheld, hclampH, hclampL, hslewA, hlimErr⟩ := ((s.dev.slotTaken g).setSlotSt g r.st).bit_setUpdFlags g r
    have htile := (h.tile n).trans (s.dev.tile_slotUpdated g n now j r)
    refine ⟨?_, (h.slotSt g).trans (s.dev.slotSt_slotUpdated ..), (hbit _).trans hheld, (hbit _).trans hclampH,
      (hbit _).trans hclampL, (hbit _).trans hslewA, (hbit _).trans hlimErr,
      (h.get _ _).trans (s.dev.slotMode_slotUpdated ..), ?_, congrArg Tile.busy htile, ?_,
      h.bytesKept hmem (s.dev.slotUpdated_regsKept g n now j r) (ltCfg_notMem_computed g)⟩
    · obtain ⟨⟨m, q, hd⟩, -⟩ := h
      rw [hd, hframe]
    · rw [h.loop, (Dev.loop_of_loops hloops).1]
    · rw [htile, h.slotOut]
  · intro close x e ff r hr
    obtain ⟨y, hy⟩ := updateWith_clamped hr
    exact hy ▸ hardClamp_within hw y
  · exact hardClamp_within hw _

end Sys2Proof.Machine
end

section
/-! What a tile does of itself (O38): the fallback HOLD of a silent slot, and a step of a ramp. -/

namespace Sys2Proof.Machine

/-! ## Registers of a slot lie apart -/

theorem slotStat_ne_fbcnt (g : Nat) : slotStat g ≠ A.LT_SLOT_FBCNT (g / 64) (g % 64) := by
  simp only [slotStat, A.LT_SLOT_STAT, A.LT_SLOT_FBCNT]
  omega
theorem slotStat_ne_fbts (g : Nat) : slotStat g ≠ A.LT_SLOT_FBTS (g / 64) (g % 64) := by
  simp only [slotStat, A.LT_SLOT_STAT, A.LT_SLOT_FBTS]
  omega
theorem slotStat_ne_hstat (g : Nat) : slotStat g ≠ slotHstat g := by
  simp only [slotStat, slotHstat, A.LT_SLOT_STAT, A.LT_SLOT_HSTAT]
  omega
theorem slotHstat_ne_fbts (g : Nat) : slotHstat g ≠ A.LT_SLOT_FBTS (g / 64) (g % 64) := by
  simp only [slotHstat, A.LT_SLOT_HSTAT, A.LT_SLOT_FBTS]
  omega

theorem ypv_notMem_stat (g : Nat) : slotYpv g ∉ [slotHstat g, slotStat g] ∧ slotYpv g + 4 ∉ [slotHstat g, slotStat g] := by
  simp only [slotYpv, slotHstat, slotStat, A.LT_SLOT_YPV_LO, A.LT_SLOT_HSTAT, A.LT_SLOT_STAT, List.mem_cons, List.not_mem_nil, or_false]
  omega

theorem ypv_notMem_fellBack (g : Nat) :
    slotYpv g ∉ [A.LT_SLOT_FBCNT (g / 64) (g % 64), slotStat g, A.LT_SLOT_FBTS (g / 64) (g % 64)] ∧
      slotYpv g + 4 ∉ [A.LT_SLOT_FBCNT (g / 64) (g % 64), slotStat g, A.LT_SLOT_FBTS (g / 64) (g % 64)] := by
  simp only [slotYpv, slotStat, A.LT_SLOT_YPV_LO, A.LT_SLOT_FBCNT, A.LT_SLOT_FBTS, A.LT_SLOT_STAT, List.mem_cons, List.not_mem_nil,
    or_false]
  omega

/-! ## Devices that differ in registers, hidden states or offers -/

section
variable {s d : Dev} {as : List Nat}

theorem Dev.RegsOnly.count (h : s.RegsOnly d) (a : Nat) (f : Fld) (n : Nat) : s.RegsOnly (d.count a f n) := h.set ..

theorem Dev.RegsOnly.start (h : s.RegsOnly d) : d.start = s.start := by
  obtain ⟨r, rfl⟩ := h
  rfl

theorem Dev.RegsOnly.time (h : s.RegsOnly d) : d.time = s.time := by
  obtain ⟨r, rfl⟩ := h
  rfl

theorem Dev.RegsOnly.ticks (h : s.RegsOnly d) : d.ticks = s.ticks := by
  obtain ⟨r, rfl⟩ := h
  rfl

theorem Dev.RegsKept.onLoop (h : s.RegsKept d as) (g : Nat) (f : Loop → Loop) : s.RegsKept (d.onLoop g f) as := h

theorem Dev.RegsKept.offerCode (h : s.RegsKept d as) (src : Nat) (code : BitVec 16) (sec : Bool) (payload : List Word) :
    s.RegsKept (d.offerCode src code sec payload) as := h

theorem Dev.RegsKept.offer (h : s.RegsKept d as) (src base : Nat) (ev : Ev) : s.RegsKept (d.offer src base ev) as := h

end

section
variable (s : Dev) (src base g : Nat) (code : BitVec 16) (sec : Bool) (payload : List Word) (ev : Ev) (f : Loop → Loop)

@[simp] theorem Dev.get_offer (a : Nat) (x : Fld) : (s.offer src base ev).get a x = s.get a x := rfl
@[simp] theorem Dev.start_offer : (s.offer src base ev).start = s.start := rfl
@[simp] theorem Dev.get_offerCode (a : Nat) (x : Fld) : (s.offerCode src code sec payload).get a x = s.get a x := rfl
@[simp] theorem Dev.start_offerCode : (s.offerCode src code sec payload).start = s.start := rfl
@[simp] theorem Dev.time_offerCode : (s.offerCode src code sec payload).time = s.time := rfl
@[simp] theorem Dev.slotMode_onLoop (k : Nat) : (s.onLoop g f).slotMode k = s.slotMode k := rfl
@[simp] theorem Dev.slotPend_onLoop (k : Nat) : (s.onLoop g f).slotPend k = s.slotPend k := rfl
@[simp] theorem Dev.bit_onLoop (a : Nat) (x : Fld) : (s.onLoop g f).bit a x = s.bit a x := rfl
@[simp] theorem Dev.pair_onLoop (a : Nat) : (s.onLoop g f).pair a = s.pair a := rfl

end

/-! ## A pending request that is discarded (R188) -/

section
variable (s : Dev) (g : Nat)

/-- A request that stands is discarded as a withdrawal removes it, and recorded. -/
theorem Dev.discardRequest_pending (h : s.slotPend g ≠ 0) :
    s.discardRequest g = (s.slotPended g 0 false).offer (ltSrc g) 0x06 .requestDiscarded := if_neg h

theorem Dev.discardRequest_none (h : s.slotPend g = 0) : s.discardRequest g = s := if_pos h

/-- PEND and GLUW alone are written where a request is discarded. -/
theorem Dev.get_discardRequest_field {f : Fld} (hf : f.ok = true) (h : f.hi < 2 ∨ 5 < f.lo) :
    (s.discardRequest g).get (slotStat g) f = s.get (slotStat g) f := by
  by_cases hp : s.slotPend g = 0
  · rw [s.discardRequest_none g hp]
  · rw [s.discardRequest_pending g hp, Dev.get_offer, s.get_slotPended_field g 0 false hf h]

theorem Dev.slotPend_discardRequest : (s.discardRequest g).slotPend g = 0 := by
  by_cases hp : s.slotPend g = 0
  · rw [s.discardRequest_none g hp, hp]
  · rw [s.discardRequest_pending g hp, Dev.slotPend, Dev.get_offer]
    exact s.slotPend_slotPended g 0 false (by decide)

theorem Dev.discardRequest_regsKept : s.RegsKept (s.discardRequest g) [slotStat g] := by
  by_cases hp : s.slotPend g = 0
  · rw [s.discardRequest_none g hp]
    exact .refl s _
  · rw [s.discardRequest_pending g hp]
    exact (s.slotPended_regsKept g 0 false).offer _ _ _

@[simp] theorem Dev.start_discardRequest : (s.discardRequest g).start = s.start := by
  by_cases hp : s.slotPend g = 0
  · rw [s.discardRequest_none g hp]
  · rw [s.discardRequest_pending g hp, Dev.start_offer, (s.slotPended_regsOnly g 0 false).start]

end

/-! ## The note of a condition (R188) -/

/-- A device whose FBCNT has counted one condition of slot `g`. -/
def Dev.condCounted (s : Dev) (g : Nat) : Dev := s.count (A.LT_SLOT_FBCNT (g / 64) (g % 64)) F.LT_SLOT_FBCNT_COUNT 1

/-- The registers of the note: the count, and the cause where none is latched. -/
def Dev.condLatched (s : Dev) (g cause : Nat) : Dev :=
  if (s.condCounted g).get (slotStat g) F.LT_SLOT_STAT_CAUSE = 0 then
    (s.condCounted g).set (slotStat g) F.LT_SLOT_STAT_CAUSE cause
  else s.condCounted g

section
variable (s : Dev) (g cause : Nat) (ev : Ev)

/-- A condition is noted in the registers and offered to the Scribe. -/
theorem Dev.condNote_offered : ∃ code payload,
    s.condNote g cause ev = (s.condLatched g cause).offerCode (ltSrc g) code false payload := ⟨_, _, rfl⟩

theorem Dev.get_condCounted (f : Fld) : (s.condCounted g).get (slotStat g) f = s.get (slotStat g) f :=
  s.get_set_reg _ _ _ (slotStat_ne_fbcnt g)

theorem Dev.condLatched_regsOnly : s.RegsOnly (s.condLatched g cause) := by
  have hcount : s.RegsOnly (s.condCounted g) := (Dev.RegsOnly.refl s).count ..
  rw [Dev.condLatched]
  split
  case isTrue => exact hcount.set ..
  case isFalse => exact hcount

@[simp] theorem Dev.start_condNote : (s.condNote g cause ev).start = s.start := by
  obtain ⟨_, _, h⟩ := s.condNote_offered g cause ev
  rw [h, Dev.start_offerCode, (s.condLatched_regsOnly g cause).start]

@[simp] theorem Dev.ts32_condNote : (s.condNote g cause ev).ts32 = s.ts32 := by
  obtain ⟨_, _, h⟩ := s.condNote_offered g cause ev
  rw [h, Dev.ts32, Dev.time_offerCode, (s.condLatched_regsOnly g cause).time, Dev.ts32]

theorem Dev.condNote_regsKept :
    s.RegsKept (s.condNote g cause ev) [A.LT_SLOT_FBCNT (g / 64) (g % 64), slotStat g] := by
  have hcount : s.RegsKept (s.condCounted g) [A.LT_SLOT_FBCNT (g / 64) (g % 64), slotStat g] :=
    (Dev.RegsKept.refl s _).set _ _ (by simp)
  have hlatch : s.RegsKept (s.condLatched g cause) [A.LT_SLOT_FBCNT (g / 64) (g % 64), slotStat g] := by
    rw [Dev.condLatched]
    split
    case isTrue => exact hcount.set _ _ (by simp)
    case isFalse => exact hcount
  obtain ⟨_, _, h⟩ := s.condNote_offered g cause ev
  rw [h]
  exact hlatch.offerCode _ _ _ _

/-- A CAUSE that reads 0 latches the cause found. -/
theorem Dev.cause_condNote (hnone : s.get (slotStat g) F.LT_SLOT_STAT_CAUSE = 0) (hc : cause < 16) :
    (s.condNote g cause ev).get (slotStat g) F.LT_SLOT_STAT_CAUSE = cause := by
  obtain ⟨_, _, h⟩ := s.condNote_offered g cause ev
  rw [h, Dev.get_offerCode, Dev.condLatched, if_pos ((s.get_condCounted g _).trans hnone)]
  exact Dev.get_set_same _ _ _ _ (by decide) hc

/-- The fields beside CAUSE stay. -/
theorem Dev.get_condNote_field {f : Fld} (hf : f.ok = true) (h : f.hi < 16 ∨ 19 < f.lo) :
    (s.condNote g cause ev).get (slotStat g) f = s.get (slotStat g) f := by
  obtain ⟨_, _, hnote⟩ := s.condNote_offered g cause ev
  rw [hnote, Dev.get_offerCode, Dev.condLatched, ← s.get_condCounted g f]
  split
  case isTrue => exact Dev.get_set_field _ _ _ _ _ (by decide) hf h
  case isFalse => rfl

end

/-! ## The fallback HOLD of a running slot (R188) -/

/-- What every fallback leaves before the action that FBK names: the note, the time and no request. -/
def Dev.fellBack (s : Dev) (g cause : Nat) : Dev :=
  ((s.condNote g cause .loopCondition).setReg (A.LT_SLOT_FBTS (g / 64) (g % 64)) s.ts32).discardRequest g

/-- The registers of a slot that becomes OPEN HOLD, a ramp under way ended. -/
def Dev.openHeld (s : Dev) (g : Nat) : Dev :=
  ((s.rampEnd g).set (slotStat g) F.LT_SLOT_STAT_MODE 1).setBit (slotStat g) F.LT_SLOT_STAT_MAN false

section
variable (s : Dev) (g cause : Nat)

theorem Dev.rampEnd_regsKept : s.RegsKept (s.rampEnd g) [slotHstat g, slotStat g] :=
  ((Dev.RegsKept.refl s _).set _ _ (by simp)).set _ _ (by simp)

/-- The end of a ramp clears FBACT alone of LT_SLOT_STAT. -/
theorem Dev.get_rampEnd_field {f : Fld} (hf : f.ok = true) (h : f.hi < 21 ∨ 21 < f.lo) :
    (s.rampEnd g).get (slotStat g) f = s.get (slotStat g) f :=
  (Dev.get_set_field _ _ _ _ _ (by decide) hf h).trans (s.get_set_reg _ _ _ (slotStat_ne_hstat g))

theorem Dev.openHeld_regsKept : s.RegsKept (s.openHeld g) [slotHstat g, slotStat g] :=
  ((s.rampEnd_regsKept g).set _ _ (by simp)).set _ _ (by simp)

theorem Dev.slotMode_openHeld : (s.openHeld g).slotMode g = 1 :=
  (Dev.get_set_field _ _ _ _ _ (by decide) (by decide) (by decide)).trans (Dev.get_set_same _ _ _ _ (by decide) (by decide))

theorem Dev.man_openHeld : (s.openHeld g).bit (slotStat g) F.LT_SLOT_STAT_MAN = false := Dev.bit_setBit_same _ _ _ _ (by decide)

/-- PEND and CAUSE lie between MODE and FBACT, and beside MAN. -/
theorem Dev.get_openHeld_field {f : Fld} (hf : f.ok = true) (hmode : 1 < f.lo) (hact : f.hi < 21) (hman : f.hi < 15 ∨ 15 < f.lo) :
    (s.openHeld g).get (slotStat g) f = s.get (slotStat g) f :=
  calc
    _ = ((s.rampEnd g).set (slotStat g) F.LT_SLOT_STAT_MODE 1).get (slotStat g) f :=
      Dev.get_set_field _ _ _ _ _ (by decide) hf hman
    _ = (s.rampEnd g).get (slotStat g) f := Dev.get_set_field _ _ _ _ _ (by decide) hf (.inr hmode)
    _ = s.get (slotStat g) f := s.get_rampEnd_field g hf (.inl hact)

theorem Dev.fellBack_regsKept : s.RegsKept (s.fellBack g cause)
    [A.LT_SLOT_FBCNT (g / 64) (g % 64), slotStat g, A.LT_SLOT_FBTS (g / 64) (g % 64)] :=
  (((s.condNote_regsKept g cause .loopCondition).mono (by simp)).setReg _ (by simp)).trans
    ((Dev.discardRequest_regsKept _ g).mono (by simp))

/-- The fields of LT_SLOT_STAT beside PEND and GLUW are those of the note. -/
theorem Dev.get_fellBack_field {f : Fld} (hf : f.ok = true) (h : f.hi < 2 ∨ 5 < f.lo) :
    (s.fellBack g cause).get (slotStat g) f = (s.condNote g cause .loopCondition).get (slotStat g) f := by
  rw [Dev.fellBack, Dev.get_discardRequest_field _ _ hf h, Dev.get, Dev.reg_setReg_other _ _ (slotStat_ne_fbts g), Dev.get]

theorem Dev.slotMode_fellBack : (s.fellBack g cause).slotMode g = s.slotMode g :=
  (s.get_fellBack_field g cause (by decide) (.inl (by decide))).trans
    (s.get_condNote_field g cause _ (by decide) (.inl (by decide)))

/-- FBTS takes the time of the tick. -/
theorem Dev.fbts_fellBack : (s.fellBack g cause).reg (A.LT_SLOT_FBTS (g / 64) (g % 64)) = s.ts32 :=
  (Dev.discardRequest_regsKept _ g _ (by simpa using (slotStat_ne_fbts g).symm)).trans (Dev.reg_setReg_same ..)

/-- A slot that runs in one mode and goes on in another only loses an update that waits. -/
theorem Dev.setSlotMode_running {mode : Nat} (man : Bool) (hs : s.slotMode g ≠ 0) (hm : mode ≠ 0) :
    s.setSlotMode g mode man = ((s.set (slotStat g) F.LT_SLOT_STAT_MODE mode).setBit (slotStat g) F.LT_SLOT_STAT_MAN man).onLoop g
      fun l => { l with upd := none } := by
  have hrun : ((s.slotMode g == 0) == (mode == 0)) = true :=
    beq_iff_eq.2 ((beq_false_of_ne hs).trans (beq_false_of_ne hm).symm)
  rw [Dev.setSlotMode]
  exact if_pos hrun

/-- Under HOLD the slot becomes OPEN HOLD, and nothing waits for the datapath. -/
theorem Dev.fallback_hold (hfbk : s.get0 (slotBase g + 0x6C) F.LT_SLOT_SUPV_FBK = 0) (hs : s.slotMode g ≠ 0) :
    s.fallback g cause = (((s.fellBack g cause).openHeld g).onLoop g fun l => { l with upd := none }).onLoop g
      fun l => { l with wr := none } := by
  have hmode : ((s.fellBack g cause).rampEnd g).slotMode g ≠ 0 := by
    rwa [Dev.slotMode, Dev.get_rampEnd_field _ _ (by decide) (.inl (by decide)), ← Dev.slotMode, Dev.slotMode_fellBack]
  have hfbk' : (s.fellBack g cause).get0 (slotBase g + 0x6C) F.LT_SLOT_SUPV_FBK = 0 := by
    rwa [Dev.get0, Dev.reg0, Dev.fellBack, Dev.start_discardRequest, Dev.setReg_start, Dev.start_condNote]
  simp only [Dev.fallback, Dev.ts32_condNote]
  rw [← Dev.fellBack, hfbk', Dev.setSlotMode_running _ _ _ hmode (by decide), if_neg (by decide), if_neg (by decide), Dev.openHeld]

/-- `d` is `s` after slot `g` has gone to OPEN HOLD by its fallback, with nothing of its own on the way to the datapath. -/
structure Dev.HeldOpen (s d : Dev) (g cause : Nat) : Prop where
  mode : d.slotMode g = 1
  man : d.bit (slotStat g) F.LT_SLOT_STAT_MAN = false
  cause : d.get (slotStat g) F.LT_SLOT_STAT_CAUSE = cause
  pend : d.slotPend g = 0
  ypv : d.pair (slotYpv g) = s.pair (slotYpv g)
  upd : (d.loop g).upd = none
  wr : (d.loop g).wr = none
  fbts : d.reg (A.LT_SLOT_FBTS (g / 64) (g % 64)) = s.ts32

theorem Dev.fallback_heldOpen (hfbk : s.get0 (slotBase g + 0x6C) F.LT_SLOT_SUPV_FBK = 0) (hs : s.slotMode g ≠ 0)
    (hnone : s.get (slotStat g) F.LT_SLOT_STAT_CAUSE = 0) (hc : cause < 16) : s.HeldOpen (s.fallback g cause) g cause := by
  have hopen := (s.fellBack g cause).openHeld_regsKept g
  have hfell := s.fellBack_regsKept g cause
  rw [s.fallback_hold g cause hfbk hs]
  constructor
  case mode => rw [Dev.slotMode_onLoop, Dev.slotMode_onLoop, Dev.slotMode_openHeld]
  case man => rw [Dev.bit_onLoop, Dev.bit_onLoop, Dev.man_openHeld]
  case cause =>
    rw [Dev.get_onLoop, Dev.get_onLoop]
    calc
      _ = (s.fellBack g cause).get (slotStat g) F.LT_SLOT_STAT_CAUSE :=
        Dev.get_openHeld_field _ g (by decide) (by decide) (by decide) (.inr (by decide))
      _ = (s.condNote g cause .loopCondition).get (slotStat g) F.LT_SLOT_STAT_CAUSE :=
        s.get_fellBack_field g cause (by decide) (.inr (by decide))
      _ = cause := s.cause_condNote g cause _ hnone hc
  case pend =>
    rw [Dev.slotPend_onLoop, Dev.slotPend_onLoop]
    calc
      _ = (s.fellBack g cause).slotPend g :=
        Dev.get_openHeld_field _ g (by decide) (by decide) (by decide) (.inl (by decide))
      _ = 0 := Dev.slotPend_discardRequest _ g
  case ypv =>
    rw [Dev.pair_onLoop, Dev.pair_onLoop]
    calc
      _ = (s.fellBack g cause).pair (slotYpv g) := hopen.pair (ypv_notMem_stat g).1 (ypv_notMem_stat g).2
      _ = s.pair (slotYpv g) := hfell.pair (ypv_notMem_fellBack g).1 (ypv_notMem_fellBack g).2
  case upd => rw [Dev.loop_onLoop_same, Dev.loop_onLoop_same]
  case wr => rw [Dev.loop_onLoop_same]
  case fbts =>
    have hne : A.LT_SLOT_FBTS (g / 64) (g % 64) ∉ [slotHstat g, slotStat g] := by
      simpa using ⟨(slotHstat_ne_fbts g).symm, (slotStat_ne_fbts g).symm⟩
    rw [Dev.reg_onLoop, Dev.reg_onLoop]
    exact (hopen _ hne).trans (s.fbts_fellBack g cause)

/-- A condition of a CLOSED slot without a policy command starts the fallback. -/
theorem Dev.condition_closed (hmode : s.slotMode g = 2) (hpol : (s.loop g).policy = false) :
    s.condition g cause = (s.onLoop g fun l => { l with policy := false, dest := none }).fallback g cause := by
  have hmode' : (s.onLoop g fun l => { l with policy := false, dest := none }).slotMode g = 2 := hmode
  simp [Dev.condition, hpol, hmode']

end

theorem Dev.MemOnly.pair {s d : Dev} {a n : Nat} (h : s.MemOnly d a n) (k : Nat) : d.pair k = s.pair k := by
  rw [Dev.pair, h.reg, h.reg, Dev.pair]

/-- A write-through leaves what the fallback left. -/
theorem Dev.HeldOpen.of_memOnly {s t d : Dev} {g cause a n : Nat} (h : s.HeldOpen t g cause) (k : t.MemOnly d a n) :
    s.HeldOpen d g cause where
  mode := (k.get _ _).trans h.mode
  man := (k.bit _ _).trans h.man
  cause := (k.get _ _).trans h.cause
  pend := (k.get _ _).trans h.pend
  ypv := (k.pair _).trans h.ypv
  upd := k.loop g ▸ h.upd
  wr := k.loop g ▸ h.wr
  fbts := (k.reg _).trans h.fbts

/-! ## Staleness of an UPDATE slot (R183) -/

/-- A slot whose silence is found: it is not found again, and no other report of the tick waits. -/
def Dev.silenceFound (s : Dev) (g : Nat) : Dev :=
  (s.onLoop g fun l => { l with staleArmed := false }).onLoop g fun l => { l with policy := false, dest := none }

section
variable {s : Dev} {g : Nat}

theorem Dev.staleTimeout_closed (hmode : s.slotMode g = 2) (hkind : slotKind (s.slotWords g) = 2)
    (hcheck : s.staleChecked (slotWord (s.slotWords g) 1) = true) (harm : (s.loop g).staleArmed = true)
    (hlong : F.LT_SLOT_SUPV_STALEN.of (slotWord (s.slotWords g) 27) * slotMiniv (s.slotWords g) <
      (s.ticks + 1 - (s.loop g).lastSample) * 4) (hpol : (s.loop g).policy = false) :
    s.staleTimeout g = s.slotDo g fun s => (s.silenceFound g).fallback g causeStale := by
  have hpol' : ((s.onLoop g fun l => { l with staleArmed := false }).loop g).policy = false := by
    rw [Dev.loop_onLoop_same, hpol]
  rw [Dev.staleTimeout]
  refine (if_pos (by simp [hmode, hkind, hcheck, harm, hlong])).trans (s.slotDo_congr g ?_)
  exact Dev.condition_closed _ g causeStale hmode hpol'

end

/-! ## A step of a ramp (R189) -/

/-- YPV and the write that waits for the datapath as a ramp step to `y` leaves them. -/
def Dev.rampWritten (s : Dev) (g : Nat) (y : Dbl) : Dev :=
  ((s.setPair (slotYpv g) y).queueWrite g (s.slotWords g) y).onLoop g fun l =>
    { l with rampTick := s.ticks + 1, rampK := l.rampK + 1 }

/-- The ramp of a slot ends in OPEN HOLD. -/
def Dev.rampEnded (s : Dev) (g : Nat) : Dev := (s.rampEnd g).setBit (slotStat g) F.LT_SLOT_STAT_MAN false

/-- The registers that a ramp step writes. -/
def rampRegs (g : Nat) : List Nat := [slotYpv g, slotYpv g + 4, slotHstat g, slotStat g]

theorem stat_notMem_ypv (g : Nat) : slotHstat g ∉ [slotYpv g, slotYpv g + 4] ∧ slotStat g ∉ [slotYpv g, slotYpv g + 4] := by
  simp only [slotYpv, slotHstat, slotStat, A.LT_SLOT_YPV_LO, A.LT_SLOT_HSTAT, A.LT_SLOT_STAT, List.mem_cons, List.not_mem_nil, or_false]
  omega

theorem ltCfg_notMem_ramp (g : Nat) : A.LT_CFG (g / 64) ∉ rampRegs g := by
  simp only [rampRegs, slotYpv, slotHstat, slotStat, A.LT_CFG, A.LT_SLOT_YPV_LO, A.LT_SLOT_HSTAT, A.LT_SLOT_STAT, List.mem_cons,
    List.not_mem_nil, or_false]
  omega

section
variable (s : Dev) (g : Nat) (y : Dbl)

theorem Dev.rampWritten_regsKept : s.RegsKept (s.rampWritten g y) [slotYpv g, slotYpv g + 4] := by
  rw [Dev.rampWritten, Dev.queueWrite]
  exact (((Dev.RegsKept.refl s _).setPair y (by simp) (by simp)).onLoop _ _).onLoop _ _

theorem Dev.ypv_rampWritten : (s.rampWritten g y).pair (slotYpv g) = y := by
  rw [Dev.rampWritten, Dev.pair_onLoop, Dev.queueWrite, Dev.pair_onLoop, Dev.pair_setPair_same]

/-- YPV of a slot lies apart from the comparators. -/
theorem Dev.slotDeadline_setPair_ypv (w : List Word) (hg : g < 512) :
    (s.setPair (slotYpv g) y).slotDeadline w = s.slotDeadline w := by
  have htile : g / 64 < 8 := Nat.div_lt_of_lt_mul hg
  have hcmp : (s.setPair (slotYpv g) y).pair (A.TIME_TT_CMP_LO (slotIdx w)) = s.pair (A.TIME_TT_CMP_LO (slotIdx w)) :=
    s.pair_setPair_other y (by simp only [A.TIME_TT_CMP_LO, slotYpv, A.LT_SLOT_YPV_LO]; omega)
  have hpair : s.RegsOnly (s.setPair (slotYpv g) y) := (Dev.RegsOnly.refl s).setPair ..
  rw [Dev.slotDeadline, hcmp, Dev.ts, hpair.time, ← Dev.ts, ← Dev.slotDeadline]

theorem Dev.wr_rampWritten (hg : g < 512) : ((s.rampWritten g y).loop g).wr =
    some ⟨1, 0, 0, 0, y, s.slotWords g, s.ticks, s.slotDeadline (s.slotWords g)⟩ := by
  have hpair : s.RegsOnly (s.setPair (slotYpv g) y) := (Dev.RegsOnly.refl s).setPair ..
  rw [Dev.rampWritten, Dev.loop_onLoop_same, Dev.queueWrite, Dev.loop_onLoop_same, s.slotDeadline_setPair_ypv g y _ hg, hpair.ticks]

theorem Dev.rampEnd_regsOnly : s.RegsOnly (s.rampEnd g) := ((Dev.RegsOnly.refl s).set ..).set ..

theorem Dev.rampEnded_regsOnly : s.RegsOnly (s.rampEnded g) := (s.rampEnd_regsOnly g).set ..

theorem Dev.rampEnded_regsKept : s.RegsKept (s.rampEnded g) [slotHstat g, slotStat g] :=
  (s.rampEnd_regsKept g).set _ _ (by simp)

theorem Dev.ramping_rampEnd : (s.rampEnd g).ramping g = false := by
  have h : (s.rampEnd g).get (slotHstat g) F.LT_SLOT_HSTAT_RAMPING = 0 :=
    (Dev.get_set_reg _ _ _ _ (slotStat_ne_hstat g).symm).trans (Dev.get_set_same _ _ _ _ (by decide) (by decide))
  rw [Dev.ramping, Dev.bit, h]
  rfl

theorem Dev.ramping_rampEnded : (s.rampEnded g).ramping g = false :=
  (congrArg (· == 1) (Dev.get_set_reg _ _ _ _ (slotStat_ne_hstat g).symm)).trans (s.ramping_rampEnd g)

theorem Dev.slotMode_rampEnded : (s.rampEnded g).slotMode g = s.slotMode g :=
  (Dev.get_set_field _ _ _ _ _ (by decide) (by decide) (by decide)).trans
    (s.get_rampEnd_field g (by decide) (.inl (by decide)))

end

/-- `d` is `s` after a step of slot `g`'s ramp to `y`, which ends it where `done`. -/
structure Dev.RampStepped (s d : Dev) (g : Nat) (y : Dbl) (done : Bool) : Prop where
  frame : d = { s with regs := d.regs, loops := (s.rampWritten g y).loops }
  ypv : d.pair (slotYpv g) = y
  ramping : d.ramping g = !done
  mode : d.slotMode g = s.slotMode g
  regs : s.RegsKept d (rampRegs g)

section
variable {s : Dev} {g : Nat}

theorem Dev.rampWritten_stepped (y : Dbl) (hramp : s.ramping g = true) : s.RampStepped (s.rampWritten g y) g y false where
  frame := by
    obtain ⟨r, hr⟩ := (Dev.RegsOnly.refl s).setPair (slotYpv g) y
    rw [Dev.rampWritten, Dev.queueWrite, hr]
    rfl
  ypv := s.ypv_rampWritten g y
  ramping := (congrArg (· == 1) ((s.rampWritten_regsKept g y).get _ (stat_notMem_ypv g).1)).trans hramp
  mode := (s.rampWritten_regsKept g y).get _ (stat_notMem_ypv g).2
  regs := (s.rampWritten_regsKept g y).mono (by simp [rampRegs])

theorem Dev.RampStepped.ended {t : Dev} {y : Dbl} {done : Bool} (h : s.RampStepped t g y done) :
    s.RampStepped (t.rampEnded g) g y true where
  frame := by
    obtain ⟨r, hr⟩ := t.rampEnded_regsOnly g
    rw [hr, h.frame]
  ypv := ((t.rampEnded_regsKept g).pair (ypv_notMem_stat g).1 (ypv_notMem_stat g).2).trans h.ypv
  ramping := t.ramping_rampEnded g
  mode := (t.slotMode_rampEnded g).trans h.mode
  regs := h.regs.trans ((t.rampEnded_regsKept g).mono (by simp [rampRegs]))

theorem Dev.rampStep_stepped (hramp : s.ramping g = true) :
    s.RampStepped (s.rampStep g) g (rampTo (s.slotWords g) (s.pair (slotYpv g)) (s.rampInterval (s.slotWords g))).1
      (rampTo (s.slotWords g) (s.pair (slotYpv g)) (s.rampInterval (s.slotWords g))).2 := by
  generalize hr : rampTo (s.slotWords g) (s.pair (slotYpv g)) (s.rampInterval (s.slotWords g)) = r
  obtain ⟨y, done⟩ := r
  have hstep : s.rampStep g = if done then (s.rampWritten g y).rampEnded g else s.rampWritten g y := by
    rw [Dev.rampStep, hr]
    rfl
  rw [hstep]
  cases done with
  | false => exact Dev.rampWritten_stepped y hramp
  | true => exact (Dev.rampWritten_stepped y hramp).ended

/-- A fire of its comparator makes a slot that ramps write a step, once on a tick. -/
theorem Dev.rampTickCmd_fired (hhalt : s.halted = false) (hmode : s.slotMode g = 1) (hramp : s.ramping g = true)
    (hkind : slotKind (s.slotWords g) = 1) (hfire : s.time.fired.contains (slotIdx (s.slotWords g)) = true)
    (hfirst : (s.loop g).rampTick ≠ s.ticks + 1) : s.rampTickCmd g = s.slotDo g (·.rampStep g) := by
  rw [Dev.rampTickCmd]
  exact if_pos (by simpa [hhalt, hmode, hramp, hkind, hfirst] using hfire)

end

/-! ## The commands -/

/-- Settles O38: a silent slot is `Dev.fellBack` and `Dev.openHeld`, a ramp step is `Dev.rampWritten` and, at its target,
`Dev.rampEnded`; both are written through. -/
theorem tileConditions : Obligations.TileConditions := by
  refine fun s g hon => ⟨fun hacc => ?_, fun hhalt hmode hkind hcheck harm hlong hpol hfbk hcause => ?_,
    fun hhalt hmode hramp hkind hfire hfirst => ?_⟩
  · have he : exec (.fbcmdGo g) s = s.go (·.fbcmdGo g) := rfl
    exact Does.of_go he hon (if_pos hacc)
  · have he : exec (.staleTimeout g) s = s.live (·.staleTimeout g) := rfl
    refine Does.of_live he hon hhalt ?_
    have hheld := (s.dev.silenceFound g).fallback_heldOpen g causeStale hfbk (hmode ▸ (by decide : 2 ≠ 0)) hcause (by decide)
    have h := hheld.of_memOnly (s.dev.slotDo_memOnly g fun s => (s.silenceFound g).fallback g causeStale)
    rw [← Dev.staleTimeout_closed hmode hkind hcheck harm hlong hpol] at h
    exact ⟨h.mode, h.man, h.cause, h.pend, h.ypv, h.upd, h.wr, h.fbts⟩
  · have he : exec (.rampStep g) s = s.live (·.rampTickCmd g) := rfl
    refine Does.of_live he hon hhalt ?_
    have h := s.dev.slotDo_memOnly g (·.rampStep g)
    rw [← Dev.rampTickCmd_fired hhalt hmode hramp hkind hfire hfirst] at h
    have hstep := Dev.rampStep_stepped hramp
    have hmem : (s.dev.rampStep g).mem = s.dev.mem := by rw [hstep.frame]
    have hloops := congrArg Dev.loops hstep.frame
    refine ⟨?frame, (h.pair _).trans hstep.ypv, (h.bit _ _).trans hstep.ramping, ((h.get _ _).trans hstep.mode).trans hmode, ?wr,
      h.bytesKept hmem hstep.regs (ltCfg_notMem_ramp g)⟩
    case frame =>
      obtain ⟨⟨m, p, hd⟩, -⟩ := h
      rw [hd, hstep.frame]
    case wr =>
      rw [h.loop, Dev.loop, hloops]
      exact s.dev.wr_rampWritten g _ g.isLt

end Sys2Proof.Machine
end

section
/-! Sequencer programs (O39): the unit's bank, the context's program, and a page that arrives from the image store. -/

namespace Sys2Proof.Machine

/-! ## The unit's bank and the context's program (R195, R196) -/

/-- What a write of SEQ_UNIT_CFG leaves before its BANK is judged: CFGERR cleared where the write has a 1. -/
def Dev.cfgErrWritten (s : Dev) (u : Nat) (v : Word) : Dev :=
  s.setReg (A.SEQ_UNIT_CFG u) (fieldWrite true false false (tabGet 0 s.hwSet (A.SEQ_UNIT_CFG u)) v
    (s.reg (A.SEQ_UNIT_CFG u)) F.SEQ_UNIT_CFG_CFGERR)

section
variable (s : Dev) (u : Nat) (v : Word)

/-- Modes of contexts and owners of banks stand in other registers than SEQ_UNIT_CFG. -/
theorem Dev.ctxMode_cfgErrWritten (n : Nat) : (s.cfgErrWritten u v).ctxMode n = s.ctxMode n := by
  have hne : A.SEQ_CTX_STAT n ≠ A.SEQ_UNIT_CFG u := by
    simp only [A.SEQ_CTX_STAT, A.SEQ_UNIT_CFG]
    omega
  simp only [Dev.ctxMode, Dev.get, Dev.cfgErrWritten, Dev.reg_setReg_other _ _ hne]

theorem Dev.owner_cfgErrWritten (b : Nat) : (s.cfgErrWritten u v).owner b = s.owner b := by
  have hne : A.MEM_BANK_STAT b ≠ A.SEQ_UNIT_CFG u := by
    simp only [A.MEM_BANK_STAT, A.SEQ_UNIT_CFG]
    omega
  simp only [Dev.owner, Dev.get, Dev.cfgErrWritten, Dev.reg_setReg_other _ _ hne]

theorem Dev.cfgErrWritten_regsOnly : s.RegsOnly (s.cfgErrWritten u v) := (Dev.RegsOnly.refl s).setReg ..

theorem Dev.cfgErrWritten_regsKept : s.RegsKept (s.cfgErrWritten u v) [A.SEQ_UNIT_CFG u] :=
  (Dev.RegsKept.refl s _).setReg _ List.mem_cons_self

/-- A bank that the unit may have, with its contexts IDLE, is its bank after the write, whether it was so before or not. -/
theorem Dev.seqBankWrite_taken
    (hidle : ∀ k, k < 8 → s.ctxMode (8 * u + k) = cmIdle ∧ (s.ctx (8 * u + k)).booting = false)
    (hbank : F.SEQ_UNIT_CFG_BANK.of v < 48) (hown : s.owner (F.SEQ_UNIT_CFG_BANK.of v) = 0x20 + u) :
    s.seqBankWrite u v =
      if F.SEQ_UNIT_CFG_BANK.of v = (s.cfgErrWritten u v).get (A.SEQ_UNIT_CFG u) F.SEQ_UNIT_CFG_BANK then s.cfgErrWritten u v
      else (s.cfgErrWritten u v).set (A.SEQ_UNIT_CFG u) F.SEQ_UNIT_CFG_BANK (F.SEQ_UNIT_CFG_BANK.of v) := by
  have hctx (n : Nat) : (s.cfgErrWritten u v).ctx n = s.ctx n := rfl
  have hmay : ((upto 8).all (fun k => (s.cfgErrWritten u v).ctxMode (8 * u + k) == cmIdle &&
      !((s.cfgErrWritten u v).ctx (8 * u + k)).booting) && decide (F.SEQ_UNIT_CFG_BANK.of v < 48) &&
      (s.cfgErrWritten u v).owner (F.SEQ_UNIT_CFG_BANK.of v) == 0x20 + u) = true := by
    simpa [upto, Dev.ctxMode_cfgErrWritten, Dev.owner_cfgErrWritten, hctx, hbank, hown] using hidle
  exact ite_congr rfl (fun _ => rfl) fun _ => if_pos hmay

/-- An IDLE context takes its program. -/
theorem Dev.progWrite_idle {n : Nat} (hmode : s.ctxMode n = cmIdle) (hboot : (s.ctx n).booting = false) :
    s.progWrite n v = s.setReg (A.SEQ_CTX_PROG n) (v &&& 0x81FFFFFF) :=
  if_pos (by simp [hmode, hboot])

end

/-! ## Lines of a page (R4, R206) -/

/-- Bytes as a number, and back. -/
theorem leBytes_leNat (bs : List Byte) : leBytes bs.length (leNat bs) = bs := by
  induction bs with
  | nil => rfl
  | cons b bs ih =>
    have hlow : BitVec.ofNat 8 (b.toNat + 256 * leNat bs) = b :=
      BitVec.eq_of_toNat_eq (by rw [BitVec.toNat_ofNat]; omega)
    have hhigh : (b.toNat + 256 * leNat bs) / 256 = leNat bs := by omega
    rw [List.length_cons, leNat, leBytes, hlow, hhigh, ih]

theorem leNat_lt (bs : List Byte) : leNat bs < 256 ^ bs.length := by
  induction bs with
  | nil => exact Nat.one_pos
  | cons b bs ih =>
    rw [leNat, List.length_cons, Nat.pow_succ]
    omega

/-- Four bytes make a word that holds them. -/
theorem leBytes_wordOf (bs : List Byte) (h : bs.length = 4) : leBytes 4 (BitVec.ofNat 32 (leNat bs)).toNat = bs := by
  have hlt := leNat_lt bs
  rw [h] at hlt
  have hback := leBytes_leNat bs
  rwa [h, ← Nat.mod_eq_of_lt (show leNat bs < 2 ^ 32 from hlt), ← BitVec.toNat_ofNat] at hback

/-- Line `i` of a page of words. -/
def pageLine (ws : List Word) (i : Nat) : List Byte :=
  ((upto 4).map (fun j => ws.getD (4 * i + j) 0)).flatMap (fun w => leBytes 4 w.toNat)

theorem pageLine_length (ws : List Word) (i : Nat) : (pageLine ws i).length = 16 := rfl

/-- First byte in the image store of page `p` of a context's program. -/
def Dev.storeBase (s : Dev) (n p : Nat) : Nat := (s.get (A.SEQ_CTX_PROG n) F.SEQ_CTX_PROG_ADDR + p) % 262144 * 4096

/-- The lines of a page are the bytes of the image store, one after another. -/
theorem pageLine_storePage (s : Dev) (n p : Nat) {i : Nat} (hi : i < 256) :
    pageLine (s.storePage n p) i = (upto 16).map fun j => tabGet memDefault s.store (s.storeBase n p + (16 * i + j)) := by
  have hword : ∀ j ∈ upto 4, leBytes 4 ((s.storePage n p).getD (4 * i + j) 0).toNat =
      (upto 4).map fun l => tabGet memDefault s.store (s.storeBase n p + (16 * i + (4 * j + l))) := by
    intro j hj
    have hk : 4 * i + j < 1024 := by
      have := List.mem_range.1 hj
      omega
    have hsum (l : Nat) : s.storeBase n p + (16 * i + (4 * j + l)) = s.storeBase n p + 4 * (4 * i + j) + l := by omega
    simp only [hsum, Dev.storePage, upto, List.getD_eq_getElem?_getD, List.getElem?_map, List.getElem?_range hk,
      Option.map_some, Option.getD_some]
    exact leBytes_wordOf _ (by simp)
  rw [pageLine, List.flatMap_map, List.flatMap_def, List.map_congr_left hword]
  rfl

/-! ## A page written into the pool -/

/-- The lines of a page are written into a page of the pool. -/
def Dev.pageWritten (s : Dev) (pool : Nat) (ws : List Word) : Dev :=
  s.each 256 fun s i => s.putLine (pool * 256 + i) (pageLine ws i)

/-- Lines written one after another hold their bytes. -/
theorem Dev.byte_eachLine (s : Dev) (line : Nat) (lines : Nat → List Byte) (f : Nat → Byte) (m : Nat)
    (hlines : ∀ i < m, lines i = (upto 16).map fun j => f (16 * i + j)) {k : Nat} (hk : k < 16 * m) :
    (s.each m fun s i => s.putLine (line + i) (lines i)).byte (line * 16 + k) = f k := by
  induction m with
  | zero => omega
  | succ m ih =>
    have hlen : (lines m).length = 16 := by simp [hlines m m.lt_succ_self, upto]
    rw [Dev.each_succ]
    by_cases hlast : k < 16 * m
    · rw [(Dev.putLine_memOnly _ _ _ hlen).2 _ (.inl (by omega))]
      exact ih (fun i hi => hlines i (Nat.lt_succ_of_lt hi)) hlast
    · have hplace : line * 16 + k = (line + m) * 16 + (k - 16 * m) := by omega
      have hin : k - 16 * m < (lines m).length := by omega
      rw [hplace]
      refine (Dev.byte_putBytes_at (lines m) _ _ _ hin).trans ?_
      simp only [hlines m m.lt_succ_self, upto, List.getElem_map, List.getElem_range]
      exact congrArg f (by omega)

section
variable (s : Dev) (pool : Nat)

/-- The pool's page then holds the bytes of the store. -/
theorem Dev.byte_pageWritten (t : Dev) (n p : Nat) {i : Nat} (hi : i < 4096) :
    (s.pageWritten pool (t.storePage n p)).byte (pool * 4096 + i) = tabGet memDefault t.store (t.storeBase n p + i) := by
  have h := s.byte_eachLine (pool * 256) (pageLine (t.storePage n p))
    (fun k => tabGet memDefault t.store (t.storeBase n p + k)) 256 (fun i hi => pageLine_storePage t n p hi) hi
  rw [Nat.mul_assoc] at h
  rw [Dev.pageWritten]
  exact h

/-- Nothing but the page and the errors and poison of its lines changes. -/
theorem Dev.pageWritten_memOnly (ws : List Word) : s.MemOnly (s.pageWritten pool ws) (pool * 4096) 4096 := by
  rw [Dev.pageWritten, Dev.each]
  refine foldl_keeps (s.MemOnly · (pool * 4096) 4096) _ _ s (fun d i hi hd => hd.trans ?_) (.refl s _ _)
  have hlt := List.mem_range.1 hi
  obtain ⟨hframe, hbytes⟩ := d.putLine_memOnly (pool * 256 + i) _ (pageLine_length ws i)
  exact ⟨hframe, fun k hk => hbytes k (by omega)⟩

end

/-! ## The arrival (R206, R207) -/

/-- The first fetch of a unit ends: the next begins, and the context asks for its page no longer. -/
def Dev.fetchEnded (s : Dev) (u : Nat) (x : Fetch) (rest : List Fetch) : Dev :=
  ({ s with fetches := tabPut [] s.fetches u rest } : Dev).onCtx x.ctx fun c =>
    { c with asked := c.asked.filter (fun a => a.1 != x.page) }

/-- The context holds a page in a page of the pool. -/
def Dev.pageHeld (s : Dev) (x : Fetch) : Dev :=
  s.onCtx x.ctx fun c => { c with pages := tabPut 0 c.pages x.page (x.pool + 1) }

@[simp] theorem Dev.byte_pageHeld (s : Dev) (x : Fetch) (k : Nat) : (s.pageHeld x).byte k = s.byte k := rfl
@[simp] theorem Dev.pages_pageHeld (s : Dev) (x : Fetch) :
    tabGet 0 ((s.pageHeld x).ctx x.ctx).pages x.page = x.pool + 1 := by
  simp [Dev.pageHeld]

section
variable {s : Dev}

/-- A context that waits for nothing does nothing when a page has come. -/
theorem Dev.ctxAdvance_idle {n : Nat} (h : (s.ctx n).waiting = none) : s.ctxAdvance n = s := by
  simp only [Dev.ctxAdvance, h]

theorem Dev.MemOnly.ctx {d : Dev} {a k : Nat} (h : s.MemOnly d a k) (n : Nat) : d.ctx n = s.ctx n := by
  obtain ⟨⟨m, p, rfl⟩, -⟩ := h
  rfl

/-- A page that arrives for a context that waits for nothing. -/
theorem Dev.pageArrival_held {u : Nat} {x : Fetch} {rest : List Fetch} (ws : List Word)
    (hfetch : tabGet [] s.fetches u = x :: rest) (hwait : (s.ctx x.ctx).waiting = none) :
    s.pageArrival u (some ws) = ((s.fetchEnded u x rest).pageWritten x.pool ws).pageHeld x := by
  have hctx : (((s.fetchEnded u x rest).pageWritten x.pool ws).pageHeld x).ctx x.ctx =
      { (s.ctx x.ctx) with asked := (s.ctx x.ctx).asked.filter (fun a => a.1 != x.page),
                           pages := tabPut 0 (s.ctx x.ctx).pages x.page (x.pool + 1) } := by
    rw [Dev.pageHeld, Dev.ctx_onCtx_same, (Dev.pageWritten_memOnly _ _ ws).ctx, Dev.fetchEnded, Dev.ctx_onCtx_same]
    rfl
  have hidle := Dev.ctxAdvance_idle (s := ((s.fetchEnded u x rest).pageWritten x.pool ws).pageHeld x) (n := x.ctx)
    (by rw [hctx]; exact hwait)
  simp only [Dev.pageArrival, hfetch]
  exact hidle

/-- What the arrival changes beside the fetches, and in bank memory. -/
theorem Dev.pageArrival_frame {u : Nat} {x : Fetch} {rest : List Fetch} (ws : List Word)
    (hfetch : tabGet [] s.fetches u = x :: rest) (hwait : (s.ctx x.ctx).waiting = none) :
    ∃ c m p, s.pageArrival u (some ws) =
        { s with fetches := tabPut [] s.fetches u rest, ctxs := c, mem := m, pool := p } ∧
      s.BytesKept (s.pageArrival u (some ws)) (x.pool * 4096) 4096 := by
  rw [Dev.pageArrival_held ws hfetch hwait]
  obtain ⟨⟨m, p, hframe⟩, hbytes⟩ := (s.fetchEnded u x rest).pageWritten_memOnly x.pool ws
  refine ⟨(((s.fetchEnded u x rest).pageWritten x.pool ws).pageHeld x).ctxs, m, p, ?_, fun k hk => ?_⟩
  · rw [hframe]
    rfl
  · rw [Dev.byte_pageHeld, hbytes k hk]
    rfl

/-- The context holds the page. -/
theorem Dev.pages_pageArrival {u : Nat} {x : Fetch} {rest : List Fetch} (ws : List Word)
    (hfetch : tabGet [] s.fetches u = x :: rest) (hwait : (s.ctx x.ctx).waiting = none) :
    tabGet 0 ((s.pageArrival u (some ws)).ctx x.ctx).pages x.page = x.pool + 1 := by
  rw [Dev.pageArrival_held ws hfetch hwait, Dev.pages_pageHeld]

/-- The pool's page holds the bytes of the store. -/
theorem Dev.byte_pageArrival (t : Dev) (n p : Nat) {u : Nat} {x : Fetch} {rest : List Fetch}
    (hfetch : tabGet [] s.fetches u = x :: rest) (hwait : (s.ctx x.ctx).waiting = none) {i : Nat} (hi : i < 4096) :
    (s.pageArrival u (some (t.storePage n p))).byte (x.pool * 4096 + i) =
      tabGet memDefault t.store (t.storeBase n p + i) := by
  rw [Dev.pageArrival_held _ hfetch hwait, Dev.byte_pageHeld]
  exact (s.fetchEnded u x rest).byte_pageWritten x.pool t n p hi

/-- A page that arrives without an error enters the input set, then comes with its words. -/
theorem Dev.pageArrivalIn_ok {u : Nat} {x : Fetch} {rest : List Fetch} (hfetch : tabGet [] s.fetches u = x :: rest) :
    s.pageArrivalIn u true = (s.collect 0xA (BitVec.ofNat 32 x.ctx) (BitVec.ofNat 32 x.page) 0 []).pageArrival u
      (some (s.storePage x.ctx x.page)) := by
  simp only [Dev.pageArrivalIn, hfetch, if_true]

end

/-- Settles O39: the writes of SEQ_UNIT_CFG and SEQ_CTX_PROG are one register each, and a page that arrives is
`Dev.pageWritten` between the end of its fetch and its entry in the context. -/
theorem sequencerPrograms : Obligations.SequencerPrograms := by
  refine ⟨fun s v hon => ⟨fun u hidle hbank hown => ?_, fun n hmode hboot => ?_⟩,
    fun s u x rest hon hrun hstand hfetch hwait => ?_⟩
  · refine Does.of_go (f := (·.seqBankWrite u v)) rfl hon ?_
    rw [Dev.seqBankWrite_taken s.dev u v hidle hbank hown]
    have honly := s.dev.cfgErrWritten_regsOnly u v
    have hkept := s.dev.cfgErrWritten_regsKept u v
    split
    case isTrue h => exact ⟨honly.eq, h.symm, hkept⟩
    case isFalse =>
      refine ⟨(honly.set ..).eq, Dev.get_set_same _ _ _ _ (by decide) ?_, hkept.set _ _ List.mem_cons_self⟩
      exact Nat.lt_trans hbank (by decide)
  · refine Does.of_go (f := (·.progWrite n v)) rfl hon ?_
    rw [Dev.progWrite_idle s.dev v hmode hboot]
    exact ⟨rfl, Dev.reg_setReg_same .., (Dev.RegsKept.refl s.dev _).setReg _ List.mem_cons_self⟩
  · have he : exec (.pageArrival u true) s = s.live fun d => if d.standby then d else d.pageArrivalIn u true := rfl
    refine Does.of_live he hon hrun ?_
    simp only [hstand, Bool.false_eq_true, if_false]
    rw [Dev.pageArrivalIn_ok hfetch, Dev.collect_frame]
    generalize (Dev.collect _ _ _ _ _ _).duoSet = q
    let y : Dev := { s.dev with duoSet := q }
    obtain ⟨c, m, p, hframe, hbytes⟩ := Dev.pageArrival_frame (s := y) (s.dev.storePage x.ctx x.page) hfetch hwait
    refine ⟨?_, Dev.pages_pageArrival (s := y) _ hfetch hwait,
      fun i hi => Dev.byte_pageArrival (s := y) s.dev x.ctx x.page hfetch hwait hi, hbytes, ?_, ?_⟩ <;> rw [hframe]
    exact tabGet_put_same ..

end Sys2Proof.Machine
end

section
/-! Requests of sequencer contexts (O40): requests put off to the next tick, their effects, and START. -/

namespace Sys2Proof.Machine

/-! ## The registers of contexts -/

/-- STEP stands in another register than the mode. -/
theorem Dev.ctxMode_setStep (s : Dev) (n m k : Nat) :
    (s.set (A.SEQ_CTX_CTL n) F.SEQ_CTX_CTL_STEP k).ctxMode m = s.ctxMode m :=
  Dev.get_set_reg _ _ _ _ (by simp only [A.SEQ_CTX_STAT, A.SEQ_CTX_CTL]; omega)

/-- STEP stands in another register than SEQ_CTX_PROG. -/
theorem Dev.resident_setStep (s : Dev) (n m k : Nat) :
    (s.set (A.SEQ_CTX_CTL n) F.SEQ_CTX_CTL_STEP k).resident m = s.resident m :=
  congrArg (· == 1) (Dev.get_set_reg _ _ _ _ (by simp only [A.SEQ_CTX_PROG, A.SEQ_CTX_CTL]; omega))

theorem Dev.step_setStep (s : Dev) (n : Nat) (step : BitVec 16) :
    (s.set (A.SEQ_CTX_CTL n) F.SEQ_CTX_CTL_STEP step.toNat).get (A.SEQ_CTX_CTL n) F.SEQ_CTX_CTL_STEP = step.toNat :=
  Dev.get_set_same _ _ _ _ (by decide) step.isLt

/-- Hidden states of contexts lie beside the registers. -/
@[simp] theorem Dev.ctx_set (s : Dev) (a : Nat) (f : Fld) (v n : Nat) : (s.set a f v).ctx n = s.ctx n := rfl

/-- A mode that is set is the context's mode. -/
theorem Dev.ctxMode_setCtxMode (s : Dev) (n : Nat) {m : Nat} (h : m < 4) : (s.setCtxMode n m).ctxMode n = m :=
  Dev.get_set_same _ _ _ _ (by decide) h

/-- A context has one of four modes. -/
theorem Dev.ctxMode_lt (s : Dev) (n : Nat) : s.ctxMode n < 4 := Nat.mod_lt _ (by decide)

/-! ## Requests (R209) -/

section
variable (s : Dev) (n req : Nat) (step : BitVec 16)

/-- A request other than START that fits is put off to the next tick. -/
theorem Dev.ctxCtl_waits (hstart : req ≠ 1) (hfits : reqFits req (s.ctxMode n) = true)
    (hboot : (s.ctx n).booting = false) :
    s.ctxCtl n req step = (s.set (A.SEQ_CTX_CTL n) F.SEQ_CTX_CTL_STEP step.toNat).after (.ctxReq n req) := by
  simp [Dev.ctxCtl, Dev.ctxRequest, Dev.ctxMode_setStep, hstart, hfits, hboot]

/-- START of an IDLE context acts at once (log 53). -/
theorem Dev.ctxCtl_start (hmode : s.ctxMode n = cmIdle) (hboot : (s.ctx n).booting = false) :
    s.ctxCtl n 1 step = (s.set (A.SEQ_CTX_CTL n) F.SEQ_CTX_CTL_STEP step.toNat).ctxStart n := by
  simp [Dev.ctxCtl, Dev.ctxRequest, Dev.ctxMode_setStep, hmode, hboot, reqFits]

/-- A request that does not fit when it acts is ignored with CFGERR. -/
theorem Dev.ctxReqAct_unfit (h : reqFits req (s.ctxMode n) = false) : s.ctxReqAct n req = s.ctxCfgErr n := by
  simp [Dev.ctxReqAct, h]

theorem Dev.ctxReqAct_pause (h : s.ctxMode n = cmRunning) : s.ctxReqAct n 2 = s.setCtxMode n cmPaused := by
  simp [Dev.ctxReqAct, reqFits, h]

theorem Dev.ctxReqAct_continue (h : s.ctxMode n = cmPaused) :
    s.ctxReqAct n 3 = (s.setCtxMode n cmRunning).after (.ctxEnter n) := by
  simp [Dev.ctxReqAct, reqFits, h]

/-- STOP fits every mode but IDLE. -/
theorem Dev.ctxReqAct_stop (h : s.ctxMode n ≠ cmIdle) : s.ctxReqAct n 5 = s.ctxIdle n := by
  have hfits : reqFits 5 (s.ctxMode n) = true := by
    have hlt := s.ctxMode_lt n
    unfold cmIdle at h
    obtain h | h | h : s.ctxMode n = 1 ∨ s.ctxMode n = 2 ∨ s.ctxMode n = 3 := by omega
    all_goals
      rw [h]
      rfl
  simp [Dev.ctxReqAct, hfits]

/-- A refusal with CFGERR leaves the mode. -/
theorem Dev.ctxMode_ctxCfgErr : (s.ctxCfgErr n).ctxMode n = s.ctxMode n :=
  Dev.get_set_field _ _ _ _ _ (by decide) (by decide) (by decide)

end

/-! ## Claims (R205) -/

/-- A claim that is put is set, and CLAIM shows it. -/
theorem Dev.putClaim_regsOnly (s : Dev) (h : Word) (w : Option Writer) : (s.setClaim h w).RegsOnly (s.putClaim h w) := by
  have hrefl := Dev.RegsOnly.refl (s.setClaim h w)
  unfold Dev.putClaim
  dsimp only
  split
  · exact hrefl.set ..
  · split
    · exact hrefl.set ..
    · exact hrefl

theorem Dev.ctxs_putClaim (s : Dev) (h : Word) (w : Option Writer) : (s.putClaim h w).ctxs = s.ctxs := by
  rw [(s.putClaim_regsOnly h w).eq, Dev.setClaim_ctxs]

theorem Dev.claim_putClaim_eq (s : Dev) (h k : Word) (w : Option Writer) :
    (s.putClaim h w).claim k = (s.setClaim h w).claim k := by
  rw [(s.putClaim_regsOnly h w).eq]
  rfl

theorem Dev.ctxs_dropClaim (s : Dev) (h : Word) (w : Writer) : (s.dropClaim h w).ctxs = s.ctxs := by
  unfold Dev.dropClaim
  split
  · exact s.ctxs_putClaim h none
  · rfl

/-- Setting a claim leaves every other claim. -/
theorem Dev.claim_setClaim_other (s : Dev) {h k : Word} (w : Option Writer) (hne : k ≠ h) :
    (s.setClaim h w).claim k = s.claim k := by
  have : k.toNat ≠ h.toNat := fun e => hne (BitVec.eq_of_toNat_eq e)
  simp [Dev.claim, Dev.setClaim, tabGet_put_other _ _ _ _ this]

/-- A claim that is put stands, and so does a claim of the same writer that stood. -/
theorem Dev.claim_putClaim {s : Dev} {h k : Word} {w : Writer} (hk : k = h ∨ s.claim k = some w) :
    (s.putClaim h (some w)).claim k = some w := by
  rw [Dev.claim_putClaim_eq]
  by_cases he : k = h
  · rw [he, Dev.claim_setClaim_same]
  · rw [s.claim_setClaim_other _ he, hk.resolve_left he]

/-- The claims of a list are taken for a writer. -/
def Dev.claimsTaken (s : Dev) (hs : List Word) (w : Writer) : Dev := hs.foldl (fun s h => s.putClaim h (some w)) s

theorem Dev.ctxs_claimsTaken (s : Dev) (hs : List Word) (w : Writer) : (s.claimsTaken hs w).ctxs = s.ctxs :=
  foldl_keeps (fun d => d.ctxs = s.ctxs) _ hs s (fun d h _ hd => (d.ctxs_putClaim h _).trans hd) rfl

/-- Each of them is the writer's then. -/
theorem Dev.claim_claimsTaken (hs : List Word) (w : Writer) : ∀ (s : Dev) {k : Word}, (k ∈ hs ∨ s.claim k = some w) →
    (s.claimsTaken hs w).claim k = some w := by
  induction hs with
  | nil => exact fun s k hk => hk.resolve_left List.not_mem_nil
  | cons h hs ih =>
    intro s k hk
    refine ih (s.putClaim h (some w)) ?_
    rw [List.mem_cons, or_assoc] at hk
    rcases hk with he | hin | hstood
    · exact .inr (Dev.claim_putClaim (.inl he))
    · exact .inl hin
    · exact .inr (Dev.claim_putClaim (.inr hstood))

/-! ## STOP (R209) -/

/-- A context that gives up its pages holds none. -/
theorem Dev.pages_pagesDrop (s : Dev) (n : Nat) : ((s.pagesDrop n).ctx n).pages = [] := by
  simp only [Dev.pagesDrop, Dev.ctx_onCtx_same]

/-- A context that becomes IDLE keeps no ramp, no claim, no page and no boundary that waits. -/
theorem Dev.ctx_ctxIdle (s : Dev) (n : Nat) : (s.ctxIdle n).ctx n =
    { (s.pagesDrop n).ctx n with ramps := [], claims := [], waiting := none, booting := false } := by
  have hkept := foldl_keeps (fun d => d.ctxs = (s.pagesDrop n).ctxs) (fun d h => d.dropClaim h (.context n)) (s.ctx n).claims
    (s.pagesDrop n) (fun d h _ hd => (d.ctxs_dropClaim h _).trans hd) rfl
  rw [Dev.ctxIdle, Dev.setCtxMode, Dev.ctx_set, Dev.ctx_onCtx_same, Dev.ctx, hkept, Dev.ctx]

theorem Dev.ctxMode_ctxIdle (s : Dev) (n : Nat) : (s.ctxIdle n).ctxMode n = cmIdle :=
  Dev.ctxMode_setCtxMode _ _ (by decide)

/-! ## START (R206, R209) -/

/-- STEP of a request: none for the header's first step. -/
def startStep (step : BitVec 16) : Option Nat := if step = 0xFFFF then none else some step.toNat

theorem startStep_eq (step : BitVec 16) : (if step.toNat = 0xFFFF then none else some step.toNat) = startStep step := by
  have h : step.toNat = 0xFFFF ↔ step = 0xFFFF := BitVec.toNat_inj (y := 0xFFFF)
  simp only [startStep, h]

theorem startStep_getD (step : BitVec 16) (first : Nat) :
    (startStep step).getD first = if step = 0xFFFF then first else step.toNat := by
  unfold startStep
  split <;> rfl

/-- A context that has been started with the claims of its table. -/
def Ctx.started (c : Ctx) (hs : List Word) : Ctx := { c with claims := hs, booting := false, ticks := 0, step := 0 }

/-- The device after a START's checks: the context has its claims, is RUNNING, and no CAUSE stands. -/
def Dev.ctxStarted (s : Dev) (n : Nat) (hs : List Word) : Dev :=
  (((s.claimsTaken hs (.context n)).onCtx n (·.started hs)).setCtxMode n cmRunning).ctxCause n 0

section
variable {s s1 s2 : Dev} {n : Nat} {hs : List Word}

theorem Dev.ctx_ctxStarted : (s.ctxStarted n hs).ctx n = (s.ctx n).started hs := by
  rw [Dev.ctxStarted, Dev.ctxCause, Dev.ctx_set, Dev.setCtxMode, Dev.ctx_set, Dev.ctx_onCtx_same, Dev.ctx, Dev.ctxs_claimsTaken, ← Dev.ctx]

theorem Dev.ctxMode_ctxStarted : (s.ctxStarted n hs).ctxMode n = cmRunning :=
  (Dev.get_set_field _ _ _ _ _ (by decide) (by decide) (by decide)).trans (Dev.ctxMode_setCtxMode _ _ (by decide))

theorem Dev.cause_ctxStarted : (s.ctxStarted n hs).get (A.SEQ_CTX_STAT n) F.SEQ_CTX_STAT_CAUSE = 0 :=
  Dev.get_set_same _ _ _ _ (by decide) (by decide)

theorem Dev.claim_ctxStarted {h : Word} (hh : h ∈ hs) : (s.ctxStarted n hs).claim h = some (.context n) :=
  Dev.claim_claimsTaken hs _ s (.inl hh)

/-- A START whose checks pass takes a transition to its step. -/
theorem Dev.startCheck_passes {ws : List Word} (step : Option Nat) (hwords : s.progWords n 0 0 16 = (s1, .ok ws))
    (hheader : s1.headerOk n ws = true)
    (hbank : s1.owner (s1.get (A.SEQ_UNIT_CFG (n / 8)) F.SEQ_UNIT_CFG_BANK) = seqSrc n)
    (hclaims : s1.claimTable n (headerOf ws) = (s2, .ok hs)) (hwait : (s2.ctx n).waiting = none) :
    s.startCheck n step = (s2.ctxStarted n hs).ctxTake n (step.getD (headerOf ws).first) trStart := by
  have hnone : ((s2.ctxStarted n hs).ctx n).waiting = none := by
    rw [Dev.ctx_ctxStarted]
    exact hwait
  unfold Dev.ctxStarted Dev.claimsTaken Ctx.started at hnone ⊢
  simp only [Dev.startCheck, hwords, hheader, hbank, hclaims, hnone, Bool.not_true, bne_self_eq_false, Bool.false_eq_true,
    if_false]

end

/-- A context boots: it asks for the first page of its IMAGE program and waits for it. -/
def Dev.ctxBoots (s : Dev) (n : Nat) (step : Option Nat) : Dev :=
  (s.onCtx n fun c => { c with booting := true, waiting := some ⟨step, trStart, s.ticks, false⟩ }).pageAsk n 0 true

section
variable {s : Dev} {n : Nat} {step : BitVec 16}

theorem Dev.ctxStart_image (hstep : s.get (A.SEQ_CTX_CTL n) F.SEQ_CTX_CTL_STEP = step.toNat)
    (himage : s.resident n = false) :
    s.ctxStart n = s.ctxBoots n (startStep step) := by
  simp only [Dev.ctxStart, himage, Bool.false_eq_true, if_false, hstep, startStep_eq, Dev.ctxBoots]

theorem Dev.ctxStart_resident (hstep : s.get (A.SEQ_CTX_CTL n) F.SEQ_CTX_CTL_STEP = step.toNat)
    (hres : s.resident n = true) :
    s.ctxStart n = s.startCheck n (startStep step) := by
  simp only [Dev.ctxStart, hres, if_true, hstep, startStep_eq]

/-- A page that the context has not asked for is asked of the resource manager. -/
theorem Dev.pageAsk_first {p : Nat} {demand : Bool} (h : (s.ctx n).asked = []) :
    s.pageAsk n p demand = (s.onCtx n fun c => { c with asked := c.asked ++ [(p, demand)] }).onPool fun q =>
      { q with pageReqs := q.pageReqs ++ [⟨ctxSub n, 1, p⟩] } := by
  simp [Dev.pageAsk, h]

variable {k : Option Nat} (hasked : (s.ctx n).asked = [])
include hasked

theorem Dev.ctxBoots_asks : s.ctxBoots n k =
    ((s.onCtx n fun c => { c with booting := true, waiting := some ⟨k, trStart, s.ticks, false⟩ }).onCtx n fun c =>
      { c with asked := c.asked ++ [(0, true)] }).onPool fun q =>
        { q with pageReqs := q.pageReqs ++ [⟨ctxSub n, 1, 0⟩] } :=
  Dev.pageAsk_first (by rw [Dev.ctx_onCtx_same]; exact hasked)

theorem Dev.ctxBoots_frame : ∃ c, s.ctxBoots n k = { s with
    ctxs := c, pool := { s.pool with pageReqs := s.pool.pageReqs ++ [⟨ctxSub n, 1, 0⟩] } } := by
  rw [Dev.ctxBoots_asks hasked, Dev.onPool, Dev.onCtx, Dev.onCtx]
  exact ⟨_, rfl⟩

theorem Dev.ctx_ctxBoots : (s.ctxBoots n k).ctx n =
    { s.ctx n with booting := true, waiting := some ⟨k, trStart, s.ticks, false⟩, asked := [(0, true)] } := by
  have hpool (d : Dev) (f : Pool → Pool) : (d.onPool f).ctx n = d.ctx n := rfl
  rw [Dev.ctxBoots_asks hasked, hpool, Dev.ctx_onCtx_same, Dev.ctx_onCtx_same]
  simp [hasked]

end

/-! ## The commands -/

/-- A request written with STEP, other than START. -/
theorem Does.ctxCtl_waits {c : Instr} {s : State} {n : Fin 16} {req : Nat} {step : BitVec 16}
    (he : exec c s = s.go (·.ctxCtl n.val req step)) (hon : s.dev.on = true) (hstart : req ≠ 1)
    (hfits : reqFits req (s.dev.ctxMode n) = true) (hboot : (s.dev.ctx n).booting = false) :
    Does c s fun d => d = { s.dev with regs := d.regs, later := s.dev.later ++ [.ctxReq n req] } ∧
      d.get (A.SEQ_CTX_CTL n) F.SEQ_CTX_CTL_STEP = step.toNat ∧ s.dev.RegsKept d [A.SEQ_CTX_CTL n] := by
  refine Does.of_go he hon ?_
  rw [Dev.ctxCtl_waits _ _ _ _ hstart hfits hboot]
  exact ⟨rfl, s.dev.step_setStep n step, (Dev.RegsKept.refl s.dev _).set _ _ List.mem_cons_self⟩

/-- Settles O40: a request waits as `Dev.ctxCtl_waits` says and acts by its case of `Dev.ctxReqAct`; START acts at once, by
`Dev.ctxBoots` or, its checks passed, from `Dev.ctxStarted`. -/
theorem contextControl : Obligations.ContextControl := by
  refine ⟨fun s n step hon hboot => ⟨fun c req hc hfits => ?_, fun hmode => ?_, fun hmode => ?_, fun hmode => ?_,
    fun req hfits => ?_⟩, ?_⟩
  · simp only [List.mem_cons, Prod.mk.injEq, List.not_mem_nil, or_false] at hc
    obtain ⟨rfl, rfl⟩ | ⟨rfl, rfl⟩ | ⟨rfl, rfl⟩ | ⟨rfl, rfl⟩ := hc
    all_goals exact Does.ctxCtl_waits rfl hon (by decide) hfits hboot
  · rw [s.dev.ctxReqAct_pause n hmode]
    exact Dev.ctxMode_setCtxMode _ _ (by decide)
  · rw [s.dev.ctxReqAct_continue n hmode]
    exact Dev.ctxMode_setCtxMode s.dev n (by decide)
  · rw [s.dev.ctxReqAct_stop n hmode, Dev.ctx_ctxIdle]
    exact ⟨s.dev.ctxMode_ctxIdle n, rfl, rfl, s.dev.pages_pagesDrop n⟩
  · rw [s.dev.ctxReqAct_unfit n req hfits]
    exact ⟨s.dev.ctxMode_ctxCfgErr n, Dev.bit_raise_same _ _ _ (by decide)⟩
  · intro s n step hon hmode hboot s0
    have hstep : s0.get (A.SEQ_CTX_CTL n) F.SEQ_CTX_CTL_STEP = step.toNat := s.dev.step_setStep n step
    have hres : s0.resident n = s.dev.resident n := s.dev.resident_setStep n n _
    refine ⟨fun himage hasked => ?_, fun s1 s2 ws hs hprog _ hwords hheader hbank hclaims hwait => ?_⟩ <;>
      refine Does.of_go (f := (·.ctxCtl n.val 1 step)) rfl hon ?_ <;>
      rw [s.dev.ctxCtl_start n step hmode hboot]
    · have hasked0 : (s0.ctx n).asked = [] := hasked
      obtain ⟨c, hframe⟩ := Dev.ctxBoots_frame (k := startStep step) hasked0
      rw [Dev.ctxStart_image hstep (hres.trans himage), Dev.ctx_ctxBoots hasked0]
      refine ⟨?_, rfl, rfl, rfl, ?_, ?_⟩ <;> rw [hframe]
      · rfl
      · rfl
      · exact (s.dev.ctxMode_setStep n n _).trans hmode
    · rw [Dev.ctxStart_resident hstep (hres.trans hprog), Dev.startCheck_passes _ hwords hheader hbank hclaims hwait,
        startStep_getD]
      exact ⟨s2.ctxStarted n hs, Dev.ctxMode_ctxStarted, Dev.cause_ctxStarted, congrArg Ctx.claims Dev.ctx_ctxStarted,
        fun h hh => Dev.claim_ctxStarted hh, rfl⟩

end Sys2Proof.Machine
end

section
/-! Position channels (O46): the hidden state of a channel, its faults, counting with direction hysteresis, writes of its
control register, its references and SSI frames, and the publication of its points. -/

namespace Sys2Proof.Machine

/-! ## The hidden state of a channel -/

@[simp] theorem Dev.posCh_onPos_same (s : Dev) (n : Nat) (f : Pos → Pos) : (s.onPos n f).posCh n = f (s.posCh n) :=
  tabGet_put_same ..

theorem Dev.posCh_onPos_other (s : Dev) {n k : Nat} (f : Pos → Pos) (h : k ≠ n) : (s.onPos n f).posCh k = s.posCh k :=
  tabGet_put_other _ _ _ _ h

@[simp] theorem Dev.posCh_set (s : Dev) (a : Nat) (f : Fld) (v k : Nat) : (s.set a f v).posCh k = s.posCh k := rfl
@[simp] theorem Dev.posCh_raise (s : Dev) (a : Nat) (f : Fld) (k : Nat) : (s.raise a f).posCh k = s.posCh k := rfl
@[simp] theorem Dev.get_onPos (s : Dev) (n : Nat) (f : Pos → Pos) (a : Nat) (g : Fld) :
    (s.onPos n f).get a g = s.get a g := rfl
@[simp] theorem Dev.bit_onPos (s : Dev) (n : Nat) (f : Pos → Pos) (a : Nat) (g : Fld) :
    (s.onPos n f).bit a g = s.bit a g := rfl
@[simp] theorem Dev.posType_onPos (s : Dev) (n : Nat) (f : Pos → Pos) (k : Nat) :
    (s.onPos n f).posType k = s.posType k := rfl
@[simp] theorem Dev.posCh_offer (s : Dev) (src base : Nat) (ev : Ev) (k : Nat) :
    (s.offer src base ev).posCh k = s.posCh k := rfl

/-- The hidden states of the other channels and every register but those listed stay. -/
def Dev.ChannelKept (s : Dev) (n : Nat) (as : List Nat) (d : Dev) : Prop :=
  (∀ k, k ≠ n → d.posCh k = s.posCh k) ∧ s.RegsKept d as

section
variable {s d : Dev} {n : Nat} {as : List Nat}

theorem Dev.ChannelKept.refl (s : Dev) (n : Nat) (as : List Nat) : s.ChannelKept n as s := ⟨fun _ _ => rfl, .refl s as⟩

theorem Dev.ChannelKept.others (h : s.ChannelKept n as d) : ∀ k, k ≠ n → d.posCh k = s.posCh k := h.1

theorem Dev.ChannelKept.regs (h : s.ChannelKept n as d) : s.RegsKept d as := h.2

theorem Dev.ChannelKept.mono (h : s.ChannelKept n as d) {bs : List Nat} (hb : as ⊆ bs) : s.ChannelKept n bs d :=
  ⟨h.others, h.regs.mono hb⟩

/-- Registers and the other channels are all that counts. -/
theorem Dev.ChannelKept.of_eq (h : s.ChannelKept n as d) {e : Dev} (hr : e.regs = d.regs) (hp : e.poss = d.poss) :
    s.ChannelKept n as e :=
  ⟨fun k hk => (congrArg (tabGet Pos.init · k) hp).trans (h.others k hk),
    fun a ha => (congrArg (tabGet (resetWord a) · a) hr).trans (h.regs a ha)⟩

theorem Dev.ChannelKept.onPos (h : s.ChannelKept n as d) (f : Pos → Pos) : s.ChannelKept n as (d.onPos n f) :=
  ⟨fun k hk => (d.posCh_onPos_other f hk).trans (h.others k hk), h.regs⟩

theorem Dev.ChannelKept.setReg (h : s.ChannelKept n as d) {a : Nat} (w : Word) (ha : a ∈ as) :
    s.ChannelKept n as (d.setReg a w) :=
  ⟨h.others, h.regs.setReg w ha⟩

theorem Dev.ChannelKept.set (h : s.ChannelKept n as d) {a : Nat} (f : Fld) (v : Nat) (ha : a ∈ as) :
    s.ChannelKept n as (d.set a f v) :=
  h.setReg _ ha

theorem Dev.ChannelKept.raise (h : s.ChannelKept n as d) {a : Nat} (f : Fld) (ha : a ∈ as) :
    s.ChannelKept n as (d.raise a f) :=
  (h.set f 1 ha).of_eq rfl rfl

theorem Dev.ChannelKept.posSet (h : s.ChannelKept n as d) (ns : Nat) (v : Word) (ha : A.POS_RAW n ∈ as) :
    s.ChannelKept n as (d.posSet n ns v) :=
  (h.setReg v ha).onPos _

end

/-- `d` differs from `s` in registers and hidden states of channels alone. -/
def Dev.PosOnly (s d : Dev) : Prop := ∃ r p, d = { s with regs := r, poss := p }

section
variable {s d : Dev}

theorem Dev.PosOnly.refl (s : Dev) : s.PosOnly s := ⟨s.regs, s.poss, rfl⟩

theorem Dev.PosOnly.eq (h : s.PosOnly d) : d = { s with regs := d.regs, poss := d.poss } := by
  obtain ⟨r, p, rfl⟩ := h
  rfl

theorem Dev.PosOnly.onPos (h : s.PosOnly d) (n : Nat) (f : Pos → Pos) : s.PosOnly (d.onPos n f) := by
  obtain ⟨r, p, rfl⟩ := h
  exact ⟨_, _, rfl⟩

theorem Dev.PosOnly.setReg (h : s.PosOnly d) (a : Nat) (w : Word) : s.PosOnly (d.setReg a w) := by
  obtain ⟨r, p, rfl⟩ := h
  exact ⟨_, _, rfl⟩

theorem Dev.PosOnly.set (h : s.PosOnly d) (a : Nat) (f : Fld) (v : Nat) : s.PosOnly (d.set a f v) := h.setReg ..

theorem Dev.PosOnly.posSet (h : s.PosOnly d) (n ns : Nat) (v : Word) : s.PosOnly (d.posSet n ns v) := by
  obtain ⟨r, p, rfl⟩ := h
  exact ⟨_, _, rfl⟩

end

/-! ## Faults (R259) -/

section
variable (s : Dev) (n cause : Nat)

/-- A channel that is not in FAULT enters it with the cause; one in FAULT keeps its cause. -/
theorem Dev.posFault_cases :
    s.bit (A.POS_STAT n) F.POS_STAT_MODE = true ∧
      s.posFault n cause = s.onPos n (fun p => { p with causeAt := s.ticks + 1 }) ∨
    s.bit (A.POS_STAT n) F.POS_STAT_MODE = false ∧
      s.posFault n cause = (((s.onPos n fun p => { p with causeAt := s.ticks + 1 }).set (A.POS_STAT n) F.POS_STAT_MODE 1).set
        (A.POS_STAT n) F.POS_STAT_FCAUSE cause).offer 0x45 0x09 .posFault := by
  cases h : s.bit (A.POS_STAT n) F.POS_STAT_MODE
  · exact .inr ⟨rfl, if_neg (by simp [h])⟩
  · exact .inl ⟨rfl, if_pos h⟩

theorem Dev.posFault_frame : s.posFault n cause = { s with
    regs := (s.posFault n cause).regs, poss := (s.posFault n cause).poss, scribe := (s.posFault n cause).scribe,
    free := (s.posFault n cause).free } := by
  obtain ⟨-, h⟩ | ⟨-, h⟩ := s.posFault_cases n cause <;> rw [h] <;> rfl

theorem Dev.mode_posFault : (s.posFault n cause).bit (A.POS_STAT n) F.POS_STAT_MODE = true := by
  obtain ⟨hm, h⟩ | ⟨-, h⟩ := s.posFault_cases n cause <;> rw [h]
  · exact hm
  · exact congrArg (· == 1) ((Dev.get_set_field _ _ _ _ _ (by decide) (by decide) (by decide)).trans
      (Dev.get_set_same _ _ _ _ (by decide) (by decide)))

/-- The first cause stands in FCAUSE. -/
theorem Dev.cause_posFault (hm : s.bit (A.POS_STAT n) F.POS_STAT_MODE = false) (hc : cause < 16) :
    (s.posFault n cause).get (A.POS_STAT n) F.POS_STAT_FCAUSE = cause := by
  obtain ⟨hm', -⟩ | ⟨-, h⟩ := s.posFault_cases n cause
  · rw [hm] at hm'
    cases hm'
  · rw [h]
    exact Dev.get_set_same _ _ _ _ (by decide) hc

/-- A fault leaves the status bits beside MODE and FCAUSE. -/
theorem Dev.bit_posFault_field {g : Fld} (hg : g.ok = true) (h0 : 0 < g.lo) (h1 : g.hi < 28) :
    (s.posFault n cause).bit (A.POS_STAT n) g = s.bit (A.POS_STAT n) g := by
  obtain ⟨-, h⟩ | ⟨-, h⟩ := s.posFault_cases n cause <;> rw [h]
  · rfl
  · exact congrArg (· == 1) ((Dev.get_set_field _ _ _ _ _ (by decide) hg (.inl h1)).trans
      (Dev.get_set_field _ _ _ _ _ (by decide) hg (.inr h0)))

/-- A fault changes no hidden state but the tick of its cause. -/
theorem Dev.posCh_posFault : (s.posFault n cause).posCh n = { s.posCh n with causeAt := s.ticks + 1 } := by
  obtain ⟨-, h⟩ | ⟨-, h⟩ := s.posFault_cases n cause <;>
    simp only [h, Dev.posCh_offer, Dev.posCh_set, Dev.posCh_onPos_same]

variable {s n} in
theorem Dev.ChannelKept.posFault {d : Dev} {as : List Nat} (h : s.ChannelKept n as d) (cause : Nat)
    (ha : A.POS_STAT n ∈ as) : s.ChannelKept n as (d.posFault n cause) := by
  obtain ⟨-, e⟩ | ⟨-, e⟩ := d.posFault_cases n cause <;> rw [e]
  · exact h.onPos _
  · exact (((h.onPos _).set _ _ ha).set _ _ ha).of_eq rfl rfl

end

/-! ## Counting (R247, R250) -/

/-- Direction of a count. -/
def countDir (k : Int) : Int := if k < 0 then -1 else 1

/-- The device after raw has moved by `k` counts. -/
def Dev.rawMoved (s : Dev) (n : Nat) (k : Int) : Dev := s.setReg (A.POS_RAW n) (s.reg (A.POS_RAW n) + wordOfInt k)

/-- pos follows raw: without hysteresis, in the direction of the last count, or by more than one count. -/
def Dev.posFollows (s : Dev) (n : Nat) (k : Int) : Bool :=
  !s.bit (A.POS_CTL n) F.POS_CTL_HYST || (s.posCh n).dlast == countDir k || decide (1 < k.natAbs)

/-- What a count leaves in the hidden state beside pos. -/
def Pos.counted (p : Pos) (ns : Nat) (k : Int) (div : Nat) (q : Pos) : Pos :=
  { q with dlast := countDir k, cum := q.cum + k, countNs := ns + 1, ivl := if p.countNs = 0 then 0 else ns + 1 - p.countNs,
           ivlDiv := div }

/-- The channel's count moves by `k`: raw and the sum of counts at once, pos by direction hysteresis; nothing else of the
device but hidden state of the channel. -/
def Dev.CountsBy (s : Dev) (n : Nat) (k : Int) (d : Dev) : Prop :=
  d = { s with regs := d.regs, poss := d.poss } ∧ (∀ j, j ≠ n → d.posCh j = s.posCh j) ∧
  d.reg (A.POS_RAW n) = s.reg (A.POS_RAW n) + wordOfInt k ∧ (d.posCh n).cum = (s.posCh n).cum + k ∧
  (d.posCh n).dlast = (if k < 0 then -1 else 1) ∧ s.RegsKept d [A.POS_RAW n] ∧
  ((s.bit (A.POS_CTL n) F.POS_CTL_HYST = false ∨ (s.posCh n).dlast = (if k < 0 then -1 else 1) ∨ 1 < k.natAbs) →
    (d.posCh n).pos = d.reg (A.POS_RAW n)) ∧
  (s.bit (A.POS_CTL n) F.POS_CTL_HYST = true → (s.posCh n).dlast ≠ (if k < 0 then -1 else 1) → k.natAbs = 1 →
    (d.posCh n).pos = (s.posCh n).pos)

/-- Two hidden states agree in what counting reads and gives. -/
def Pos.SameCount (p q : Pos) : Prop := q.cum = p.cum ∧ q.dlast = p.dlast ∧ q.pos = p.pos

section
variable {s d : Dev} {n ns div : Nat} {k : Int} {f : Pos → Pos}

/-- A value of pos is kept with its instant. -/
theorem Dev.posCh_setPos (s : Dev) (n ns : Nat) (v : Word) :
    ∃ l, (s.setPos n ns v).posCh n = { s.posCh n with pos := v, log := l } :=
  ⟨_, s.posCh_onPos_same n _⟩

/-- A count other than 0. -/
theorem Dev.posCount_eq (hk : k ≠ 0) : s.posCount n ns k div =
    (if s.posFollows n k then (s.rawMoved n k).setPos n ns (s.reg (A.POS_RAW n) + wordOfInt k) else s.rawMoved n k).onPos n
      ((s.posCh n).counted ns k div) := by
  have hne : A.POS_CTL n ≠ A.POS_RAW n := by simp [A.POS_CTL, A.POS_RAW]
  have hhyst : (s.rawMoved n k).bit (A.POS_CTL n) F.POS_CTL_HYST = s.bit (A.POS_CTL n) F.POS_CTL_HYST := by
    rw [Dev.bit, Dev.get, Dev.rawMoved, Dev.reg_setReg_other _ _ hne, ← Dev.get, ← Dev.bit]
  rw [Dev.posFollows, ← hhyst]
  exact if_neg hk

theorem Dev.posCount_zero : s.posCount n ns 0 div = s := rfl

theorem Dev.PosOnly.posCount (h : s.PosOnly d) (n ns : Nat) (k : Int) (div : Nat) :
    s.PosOnly (d.posCount n ns k div) := by
  by_cases hk : k = 0
  · rw [hk]
    exact h
  · rw [Dev.posCount_eq hk]
    split
    · exact ((h.setReg ..).onPos ..).onPos ..
    · exact (h.setReg ..).onPos ..

theorem Dev.ChannelKept.posCount {as : List Nat} (h : s.ChannelKept n as d) (ns : Nat) (k : Int) (div : Nat)
    (ha : A.POS_RAW n ∈ as) : s.ChannelKept n as (d.posCount n ns k div) := by
  by_cases hk : k = 0
  · rw [hk]
    exact h
  · rw [Dev.posCount_eq hk]
    split
    · exact ((h.setReg _ ha).onPos _).onPos _
    · exact (h.setReg _ ha).onPos _

theorem Dev.raw_posCount (hk : k ≠ 0) :
    (s.posCount n ns k div).reg (A.POS_RAW n) = s.reg (A.POS_RAW n) + wordOfInt k := by
  rw [Dev.posCount_eq hk]
  split <;> exact s.reg_setReg_same _ _

/-- What a count leaves of the hidden state. -/
theorem Dev.posCh_posCount (hk : k ≠ 0) : ∃ l, (s.posCount n ns k div).posCh n = (s.posCh n).counted ns k div
    { s.posCh n with
      pos := if s.posFollows n k then s.reg (A.POS_RAW n) + wordOfInt k else (s.posCh n).pos, log := l } := by
  rw [Dev.posCount_eq hk, Dev.posCh_onPos_same]
  split
  · obtain ⟨l, hl⟩ := (s.rawMoved n k).posCh_setPos n ns (s.reg (A.POS_RAW n) + wordOfInt k)
    exact ⟨l, by rw [hl]; rfl⟩
  · exact ⟨(s.posCh n).log, rfl⟩

theorem Dev.posCount_countsBy (hk : k ≠ 0) : s.CountsBy n k (s.posCount n ns k div) := by
  have hkept := (Dev.ChannelKept.refl s n [A.POS_RAW n]).posCount ns k div (List.mem_singleton_self _)
  obtain ⟨l, hch⟩ := s.posCh_posCount (n := n) (ns := ns) (div := div) hk
  refine ⟨((Dev.PosOnly.refl s).posCount ..).eq, hkept.others, Dev.raw_posCount hk, ?_, ?_, hkept.regs, fun h => ?_,
    fun h1 h2 h3 => ?_⟩ <;> rw [hch]
  · rfl
  · rfl
  · have hf : s.posFollows n k = true := by
      simpa [Dev.posFollows, countDir, or_assoc] using h
    rw [Dev.raw_posCount hk]
    exact if_pos hf
  · have hf : s.posFollows n k = false := by
      simp [Dev.posFollows, countDir, h1, h2, h3]
    exact if_neg (by simp [hf])

/-- What the channel's hidden state takes before a count, beside what counting reads. -/
theorem Dev.CountsBy.of_onPos (hf : (s.posCh n).SameCount (f (s.posCh n))) (h : (s.onPos n f).CountsBy n k d) :
    s.CountsBy n k d := by
  obtain ⟨hcum, hdir, hpos⟩ := hf
  obtain ⟨h1, h2, h3, h4, h5, h6, h7, h8⟩ := h
  simp only [Dev.posCh_onPos_same, hcum, hdir, hpos] at h4 h7 h8
  exact ⟨h1, fun j hj => (h2 j hj).trans (s.posCh_onPos_other f hj), h3, h4, h5, h6, h7, h8⟩

/-- What it takes after. -/
theorem Dev.CountsBy.onPos (h : s.CountsBy n k d) (hf : (d.posCh n).SameCount (f (d.posCh n))) :
    s.CountsBy n k (d.onPos n f) := by
  obtain ⟨hcum, hdir, hpos⟩ := hf
  obtain ⟨h1, h2, h3, h4, h5, h6, h7, h8⟩ := h
  refine ⟨?_, fun j hj => (d.posCh_onPos_other f hj).trans (h2 j hj), h3, ?_, ?_, h6, ?_, ?_⟩
  · rw [h1]
    rfl
  all_goals simp only [Dev.posCh_onPos_same, hcum, hdir, hpos]
  · exact h4
  · exact h5
  · exact h7
  · exact h8

end

/-! ## Directions (R248) -/

theorem Dev.posSign_cases (s : Dev) (n : Nat) : s.posSign n = -1 ∨ s.posSign n = 1 := by
  unfold Dev.posSign
  split
  · exact .inl rfl
  · exact .inr rfl

theorem Dev.posSign_ne_zero (s : Dev) (n : Nat) : s.posSign n ≠ 0 := by
  obtain h | h := s.posSign_cases n <;> rw [h] <;> decide

theorem quadDir_ne_zero (a b isA : Bool) : quadDir a b isA ≠ 0 := by
  unfold quadDir
  dsimp only
  split <;> split <;> decide

/-! ## Illegal transitions (R249) -/

/-- Samples of illegal transitions within the 1023 samples before `k`. -/
def Pos.illegalNear (p : Pos) (k : Nat) : List Nat := p.illegal.filter fun x => decide (k ≤ x + 1023)

/-- An illegal transition at sample `k` is counted and noted. -/
def Dev.illegalCounted (s : Dev) (n k : Nat) : Dev :=
  (s.count (A.POS_QERR n) F.POS_QERR_DATA 1).onPos n fun p =>
    { p with illegal := (k :: (s.posCh n).illegalNear k).take 8, illegalAt := k + 1 }

section
variable (s : Dev) (n k : Nat)

theorem Dev.posIllegal_eq : s.posIllegal n k =
    if 3 ≤ ((s.posCh n).illegalNear k).length then (s.illegalCounted n k).posFault n pcQerr else s.illegalCounted n k := rfl

theorem Dev.illegalCounted_kept : s.ChannelKept n [A.POS_QERR n] (s.illegalCounted n k) :=
  ((Dev.ChannelKept.refl s n _).set _ _ (List.mem_singleton_self _)).onPos _

theorem Dev.stat_illegalCounted : (s.illegalCounted n k).reg (A.POS_STAT n) = s.reg (A.POS_STAT n) :=
  (s.illegalCounted_kept n k).regs _ (by simp [A.POS_STAT, A.POS_QERR])

theorem Dev.posIllegal_kept : s.ChannelKept n [A.POS_QERR n, A.POS_STAT n] (s.posIllegal n k) := by
  have h := (s.illegalCounted_kept n k).mono (bs := [A.POS_QERR n, A.POS_STAT n]) (by simp)
  rw [Dev.posIllegal_eq]
  split
  · exact h.posFault _ (by simp)
  · exact h

theorem Dev.posIllegal_frame : s.posIllegal n k = { s with
    regs := (s.posIllegal n k).regs, poss := (s.posIllegal n k).poss, scribe := (s.posIllegal n k).scribe,
    free := (s.posIllegal n k).free } := by
  rw [Dev.posIllegal_eq]
  split
  · rw [Dev.posFault_frame]
    rfl
  · rfl

theorem Dev.qerr_posIllegal : (s.posIllegal n k).get (A.POS_QERR n) F.POS_QERR_DATA =
    min (s.get (A.POS_QERR n) F.POS_QERR_DATA + 1) (2 ^ 32 - 1) := by
  have hcount : (s.illegalCounted n k).get (A.POS_QERR n) F.POS_QERR_DATA =
      min (s.get (A.POS_QERR n) F.POS_QERR_DATA + 1) (2 ^ 32 - 1) := s.get_count_same _ _ _ (by decide)
  rw [Dev.posIllegal_eq]
  split
  · have hkept := (Dev.ChannelKept.refl (s.illegalCounted n k) n _).posFault pcQerr (List.mem_singleton_self _)
    rw [hkept.regs.get _ (by simp [A.POS_STAT, A.POS_QERR]), hcount]
  · exact hcount

/-- The fourth within 1023 samples is a fault, with its cause unless one stands. -/
theorem Dev.fault_posIllegal (h : 3 ≤ ((s.posCh n).illegalNear k).length) :
    (s.posIllegal n k).bit (A.POS_STAT n) F.POS_STAT_MODE = true ∧
      (s.bit (A.POS_STAT n) F.POS_STAT_MODE = false → (s.posIllegal n k).get (A.POS_STAT n) F.POS_STAT_FCAUSE = pcQerr) := by
  rw [Dev.posIllegal_eq, if_pos h]
  refine ⟨Dev.mode_posFault .., fun hm => Dev.cause_posFault _ _ _ ?_ (by decide)⟩
  rwa [Dev.bit, Dev.get, s.stat_illegalCounted]

theorem Dev.stat_posIllegal (h : ((s.posCh n).illegalNear k).length < 3) :
    (s.posIllegal n k).reg (A.POS_STAT n) = s.reg (A.POS_STAT n) := by
  rw [Dev.posIllegal_eq, if_neg (by omega), s.stat_illegalCounted]

/-- The lines A and B after their transitions. -/
def Dev.linesMoved (s : Dev) (n : Nat) (ta tb : Bool) : Dev :=
  s.onPos n fun p => { p with a := (s.posCh n).a != ta, b := (s.posCh n).b != tb }

theorem Dev.posCh_linesMoved (ta tb : Bool) : (s.linesMoved n ta tb).posCh n =
    { s.posCh n with a := (s.posCh n).a != ta, b := (s.posCh n).b != tb } := by
  rw [Dev.linesMoved, Dev.posCh_onPos_same]

/-- A sample at which both lines have changed is an illegal transition. -/
theorem Dev.posTransition_illegal :
    s.posTransition n true true = (s.linesMoved n true true).posIllegal n s.sampleNo := rfl

/-- A transition of one line is a count. -/
theorem Dev.posTransition_count {ta tb : Bool} (h : ta ≠ tb) : s.posTransition n ta tb =
    (s.linesMoved n ta tb).posCount n (s.sampleNo * 5)
      (quadDir ((s.posCh n).a != ta) ((s.posCh n).b != tb) ta * s.posSign n) 1 := by
  cases ta <;> cases tb
  · exact absurd rfl h
  · rfl
  · rfl
  · exact absurd rfl h

end

/-! ## Writes of the control register (R246) -/

/-- A field that takes the field of a word reads as that. -/
theorem Dev.get_set_of (s : Dev) (a : Nat) (f : Fld) (w : Word) (hf : f.ok = true) : (s.set a f (f.of w)).get a f = f.of w :=
  s.get_set_same a f _ hf (Nat.mod_lt _ (Nat.two_pow_pos _))

/-- RESV, DIR and HYST, which every write of the control register sets. -/
def Dev.posOptions (s : Dev) (n : Nat) (v : Word) : Dev :=
  ((s.set (A.POS_CTL n) F.POS_CTL_RESV (F.POS_CTL_RESV.of v)).set (A.POS_CTL n) F.POS_CTL_DIR (F.POS_CTL_DIR.of v)).set
    (A.POS_CTL n) F.POS_CTL_HYST (F.POS_CTL_HYST.of v)

/-- TYPE and FILT with them. -/
def Dev.posTyped (s : Dev) (n : Nat) (v : Word) : Dev :=
  ((s.posOptions n v).set (A.POS_CTL n) F.POS_CTL_TYPE (F.POS_CTL_TYPE.of v)).set (A.POS_CTL n) F.POS_CTL_FILT
    (F.POS_CTL_FILT.of v)

/-- The channel after its TYPE has been written OFF, its points apart. -/
def Dev.posStopped (s : Dev) (n : Nat) (v : Word) : Dev :=
  (((s.posTyped n v).onPos n Pos.restart).set (A.POS_STAT n) F.POS_STAT_MODE 0).set (A.POS_STAT n) F.POS_STAT_FCAUSE 0

/-- DIR and HYST stand as written. -/
def Dev.OptionsTaken (n : Nat) (v : Word) (d : Dev) : Prop :=
  d.get (A.POS_CTL n) F.POS_CTL_DIR = F.POS_CTL_DIR.of v ∧ d.get (A.POS_CTL n) F.POS_CTL_HYST = F.POS_CTL_HYST.of v

section
variable (s : Dev) (n : Nat) (v : Word)

theorem Dev.posOptions_kept : s.ChannelKept n [A.POS_CTL n] (s.posOptions n v) := by
  have hmem := List.mem_singleton_self (A.POS_CTL n)
  exact (((Dev.ChannelKept.refl s n _).set _ _ hmem).set _ _ hmem).set _ _ hmem

theorem Dev.posOptions_regsOnly : s.RegsOnly (s.posOptions n v) := (((Dev.RegsOnly.refl s).set ..).set ..).set ..

theorem Dev.posOptions_only : s.PosOnly (s.posOptions n v) := by
  obtain ⟨r, h⟩ := s.posOptions_regsOnly n v
  exact ⟨r, s.poss, h⟩

theorem Dev.posTyped_only : s.PosOnly (s.posTyped n v) := ((s.posOptions_only n v).set ..).set ..

theorem Dev.posStopped_only : s.PosOnly (s.posStopped n v) := (((s.posTyped_only n v).onPos ..).set ..).set ..

theorem Dev.posTyped_kept : s.ChannelKept n [A.POS_CTL n] (s.posTyped n v) := by
  have hmem := List.mem_singleton_self (A.POS_CTL n)
  exact ((s.posOptions_kept n v).set _ _ hmem).set _ _ hmem

theorem Dev.posStopped_kept : s.ChannelKept n [A.POS_CTL n, A.POS_STAT n] (s.posStopped n v) := by
  have h := (s.posTyped_kept n v).mono (bs := [A.POS_CTL n, A.POS_STAT n]) (by simp)
  exact ((h.onPos _).set _ _ (by simp)).set _ _ (by simp)

/-- A field beside RESV, DIR and HYST stays. -/
theorem Dev.get_posOptions_field {g : Fld} (hg : g.ok = true) (h : g.hi < 3 ∨ 5 < g.lo) :
    (s.posOptions n v).get (A.POS_CTL n) g = s.get (A.POS_CTL n) g := by
  have hr : F.POS_CTL_RESV.lo = 5 ∧ F.POS_CTL_RESV.hi = 5 := ⟨rfl, rfl⟩
  have hd : F.POS_CTL_DIR.lo = 4 ∧ F.POS_CTL_DIR.hi = 4 := ⟨rfl, rfl⟩
  have hh : F.POS_CTL_HYST.lo = 3 ∧ F.POS_CTL_HYST.hi = 3 := ⟨rfl, rfl⟩
  rw [Dev.posOptions, Dev.get_set_field _ _ _ _ _ (by decide) hg (by omega),
    Dev.get_set_field _ _ _ _ _ (by decide) hg (by omega), Dev.get_set_field _ _ _ _ _ (by decide) hg (by omega)]

theorem Dev.posOptions_taken : Dev.OptionsTaken n v (s.posOptions n v) := by
  refine ⟨?_, Dev.get_set_of _ _ _ _ (by decide)⟩
  rw [Dev.posOptions, Dev.get_set_field _ _ _ _ _ (by decide) (by decide) (by decide), Dev.get_set_of _ _ _ _ (by decide)]

/-- TYPE and FILT leave the fields apart from them. -/
theorem Dev.get_posTyped_field {g : Fld} (hg : g.ok = true) (h1 : 2 < g.lo) (h2 : g.hi < 16) :
    (s.posTyped n v).get (A.POS_CTL n) g = (s.posOptions n v).get (A.POS_CTL n) g := by
  rw [Dev.posTyped, Dev.get_set_field _ _ _ _ _ (by decide) hg (.inl h2),
    Dev.get_set_field _ _ _ _ _ (by decide) hg (.inr h1)]

theorem Dev.posTyped_taken : Dev.OptionsTaken n v (s.posTyped n v) := by
  obtain ⟨hdir, hhyst⟩ := s.posOptions_taken n v
  exact ⟨(s.get_posTyped_field n v (by decide) (by decide) (by decide)).trans hdir,
    (s.get_posTyped_field n v (by decide) (by decide) (by decide)).trans hhyst⟩

variable {s n v} in
/-- Hidden states of channels lie beside the options. -/
theorem Dev.OptionsTaken.onPos (h : Dev.OptionsTaken n v s) (f : Pos → Pos) : Dev.OptionsTaken n v (s.onPos n f) := h

theorem Dev.posType_posTyped : (s.posTyped n v).posType n = F.POS_CTL_TYPE.of v := by
  rw [Dev.posType, Dev.posTyped, Dev.get_set_field _ _ _ _ _ (by decide) (by decide) (by decide),
    Dev.get_set_of _ _ _ _ (by decide)]

theorem Dev.filt_posTyped : (s.posTyped n v).get (A.POS_CTL n) F.POS_CTL_FILT = F.POS_CTL_FILT.of v :=
  Dev.get_set_of _ _ _ _ (by decide)

variable {s n v} (hty : F.POS_CTL_TYPE.of v ≤ 5) (hfi : F.POS_CTL_FILT.of v ≠ 0)
include hty hfi

/-- From OFF every TYPE and FILT is taken; another TYPE starts the decoder anew. -/
theorem Dev.posCtlWrite_fromOff (h0 : s.posType n = 0) : s.posCtlWrite n v =
    if F.POS_CTL_TYPE.of v ≠ 0 then (s.posTyped n v).onPos n Pos.restart
    else if F.POS_CTL_FILT.of v = s.get (A.POS_CTL n) F.POS_CTL_FILT then s.posOptions n v else s.posTyped n v := by
  have hold : F.POS_CTL_TYPE.of (s.reg (A.POS_CTL n)) = 0 := h0
  simp only [Dev.posCtlWrite, if_pos hty, if_neg hfi, hold, Dev.get, Dev.posTyped, Dev.posOptions]
  by_cases hz : F.POS_CTL_TYPE.of v = 0
  · by_cases hf : F.POS_CTL_FILT.of v = F.POS_CTL_FILT.of (s.reg (A.POS_CTL n)) <;> simp [hz, hf]
  · simp [hz]

/-- Between two types the options alone are taken. -/
theorem Dev.posCtlWrite_refused (h0 : s.posType n ≠ 0) (hz : F.POS_CTL_TYPE.of v ≠ 0)
    (hne : F.POS_CTL_TYPE.of v ≠ s.posType n ∨ F.POS_CTL_FILT.of v ≠ s.get (A.POS_CTL n) F.POS_CTL_FILT) :
    s.posCtlWrite n v = (s.posOptions n v).raise (A.POS_STAT n) F.POS_STAT_CFGERR := by
  have hold : F.POS_CTL_TYPE.of (s.reg (A.POS_CTL n)) ≠ 0 := h0
  have hdiff : ¬ (F.POS_CTL_TYPE.of v = F.POS_CTL_TYPE.of (s.reg (A.POS_CTL n)) ∧
      F.POS_CTL_FILT.of v = F.POS_CTL_FILT.of (s.reg (A.POS_CTL n))) := fun h => hne.elim (· h.1) (· h.2)
  simp only [Dev.posCtlWrite, if_pos hty, if_neg hfi, Bool.and_eq_true, decide_eq_true_eq, beq_iff_eq, Bool.or_eq_true,
    if_neg hdiff, if_neg (not_or.mpr ⟨hold, hz⟩), Dev.posOptions]

omit hty in
/-- To OFF the channel stops and both points lose VALID. -/
theorem Dev.posCtlWrite_off (h0 : s.posType n ≠ 0) (hz : F.POS_CTL_TYPE.of v = 0) : s.posCtlWrite n v =
    ((s.posStopped n v).publish (posHandle n) ⟨(s.point (posHandle n)).val, false⟩).publish (velHandle n)
      ⟨(s.point (velHandle n)).val, false⟩ := by
  have hold : 0 ≠ F.POS_CTL_TYPE.of (s.reg (A.POS_CTL n)) := Ne.symm h0
  simp only [Dev.posCtlWrite, if_neg hfi, hz, Nat.zero_le, if_true, Bool.and_eq_true, decide_eq_true_eq, hold, false_and,
    if_false, beq_self_eq_true, Bool.or_true, Dev.posStopped, Dev.posTyped, Dev.posOptions]
  rfl

end

/-! ## Points that no loop slot watches (R158, R395) -/

/-- Registers that decide neither the role in a pair nor a slot's mode. -/
theorem posRegs_apart (n : Nat) : A.DUO_STAT ∉ [A.POS_CTL n, A.POS_STAT n] ∧
    ∀ g, slotStat g ∉ [A.POS_CTL n, A.POS_STAT n] := by
  refine ⟨?_, fun g => ?_⟩ <;>
    simp only [List.mem_cons, List.not_mem_nil, or_false, slotStat, A.LT_SLOT_STAT, A.DUO_STAT, A.POS_CTL, A.POS_STAT] <;>
    omega

section
variable {s d : Dev} {h : Word} {p : Pt} {as : List Nat}

/-- A point stays unwatched while the slots, their modes and the start of the tick stay. -/
theorem Dev.Unwatched.of_kept (hu : s.Unwatched h) (hl : d.loops = s.loops) (hs : d.start = s.start) (hk : s.RegsKept d as)
    (ha : ∀ g, slotStat g ∉ as) : d.Unwatched h := by
  intro g hg
  rw [Dev.loopSlots, hl] at hg
  rw [Dev.slotMode, hk.get _ (ha g), ← Dev.slotMode, Dev.reg0, Dev.reg0, hs]
  exact hu g hg

theorem Dev.standby_of_kept (hk : s.RegsKept d as) (hd : d.duo = s.duo) (ha : A.DUO_STAT ∉ as) : d.standby = s.standby := by
  rw [Dev.standby, Dev.syncedAs, hk _ ha, hd]
  rfl

/-- Without a slot that watches it, a new value of a point has no effect on the loops. -/
theorem Dev.feedbackUpdate_unwatched (hu : s.Unwatched h) : s.feedbackUpdate h p = s := by
  refine foldl_keeps (· = s) _ _ s (fun y g hg hy => ?_) rfl
  subst hy
  refine if_neg fun hc => ?_
  simp only [Bool.and_eq_true, beq_iff_eq, bne_iff_ne] at hc
  obtain ⟨⟨⟨⟨hkind, hfb⟩, hmode⟩, -⟩, -⟩ := hc
  obtain h1 | h2 | h3 := hu g hg
  · exact hmode h1
  · exact h2 hkind
  · exact h3 hfb

/-- The point behind a handle takes a value; beside it only the notes of the tick change. -/
def Dev.Published (s : Dev) (h : Word) (p : Pt) (d : Dev) : Prop :=
  d = { s with points := d.points, wrote := d.wrote, duoSet := d.duoSet } ∧ d.point h = p ∧
    ∀ k, k ≠ h → d.point k = s.point k

/-- In control, and on no standby, a unit's point takes the value. -/
theorem Dev.publish_published (hst : s.standby = false) (hrun : s.halted = false) (hu : s.Unwatched h)
    (hc : inputClass (hclass h) = true) : s.Published h p (s.publish h p) := by
  have hput : s.putPoint h p = (s.storePoint h p).collect 1 h p.val (s.pointData h p) [] := by
    simp [Dev.putPoint, hc, hst, hrun]
  have hpub : s.publish h p = (s.storePoint h p).collect 1 h p.val (s.pointData h p) [] := by
    rw [Dev.publish, hst, if_neg Bool.false_ne_true, hput]
    refine Dev.feedbackUpdate_unwatched ?_
    rw [Dev.collect_frame]
    exact hu
  rw [hpub, Dev.collect_frame]
  exact ⟨rfl, s.point_storePoint_same h p, fun k hk => s.point_storePoint_other p hk⟩

end

theorem hclass_posHandle (n : Fin 16) : hclass (posHandle n) = 0x12 := hclass_mkHandle (by omega) (by omega)

theorem hclass_velHandle (n : Fin 16) : hclass (velHandle n) = 0x13 := hclass_mkHandle (by omega) (by omega)

theorem posHandle_ne_velHandle (n : Fin 16) : posHandle n ≠ velHandle n := fun h => by
  have hc := congrArg hclass h
  rw [hclass_posHandle, hclass_velHandle] at hc
  exact absurd hc (by decide)

/-- Both points of a channel take values. -/
theorem Dev.publish_both {s : Dev} {n : Fin 16} (hst : s.standby = false) (hrun : s.halted = false)
    (hp : s.Unwatched (posHandle n)) (hv : s.Unwatched (velHandle n)) (p q : Pt) :
    let d := (s.publish (posHandle n) p).publish (velHandle n) q
    d = { s with points := d.points, wrote := d.wrote, duoSet := d.duoSet } ∧ d.point (posHandle n) = p ∧
      d.point (velHandle n) = q ∧ ∀ h, h ≠ posHandle n → h ≠ velHandle n → d.point h = s.point h := by
  obtain ⟨e1, p1, o1⟩ := Dev.publish_published (p := p) hst hrun hp (by rw [hclass_posHandle]; rfl)
  generalize s.publish (posHandle n) p = y at e1 p1 o1 ⊢
  have hst' : y.standby = false := by rw [e1]; exact hst
  have hrun' : y.halted = false := by rw [e1]; exact hrun
  have hv' : y.Unwatched (velHandle n) := by rw [e1]; exact hv
  obtain ⟨e2, p2, o2⟩ := Dev.publish_published (p := q) hst' hrun' hv' (by rw [hclass_velHandle]; rfl)
  generalize y.publish (velHandle n) q = d at e2 p2 o2 ⊢
  refine ⟨?_, (o2 _ (posHandle_ne_velHandle n)).trans p1, p2, fun h h1 h2 => (o2 h h2).trans (o1 h h1)⟩
  rw [e2, e1]

/-! ## References (R251) -/

/-- An edge that no unit watches leaves the device. -/
theorem Dev.capture_unwatched {s : Dev} {src : Nat} {x : Stamp} (h : ∀ u, u < 32 → s.cuWatches u src x.rising = false) :
    s.capture src x = s := by
  unfold Dev.capture
  split
  · rfl
  · refine foldl_keeps (· = s) _ _ s (fun y u hu hy => ?_) rfl
    subst hy
    exact if_neg (by simp [h u (List.mem_range.mp hu)])

/-- raw and pos stand at the reference, and the channel has its home. -/
theorem Dev.homed_set (s : Dev) (n ns : Nat) (v : Word) :
    let d := (s.posSet n ns v).set (A.POS_STAT n) F.POS_STAT_HOMED 1
    d.reg (A.POS_RAW n) = v ∧ (d.posCh n).pos = v ∧ d.bit (A.POS_STAT n) F.POS_STAT_HOMED = true ∧
      s.ChannelKept n [A.POS_RAW n, A.POS_STAT n] d := by
  have hne : A.POS_RAW n ≠ A.POS_STAT n := by simp [A.POS_RAW, A.POS_STAT]
  obtain ⟨l, hpos⟩ := (s.setReg (A.POS_RAW n) v).posCh_setPos n ns v
  refine ⟨(Dev.reg_set_other _ _ _ hne).trans (s.reg_setReg_same _ v), congrArg Pos.pos hpos,
    Dev.bit_setBit_same _ _ _ true (by decide), ?_⟩
  exact ((Dev.ChannelKept.refl s n _).posSet ns v (by simp)).set _ _ (by simp)

/-- The channel with raw latched, as a reference does. -/
def Dev.posLatched (s : Dev) (n : Nat) (v : Word) : Dev := s.setReg (A.POS_LATCH n) v

section
variable {s : Dev} {n : Nat} (hcap : ∀ u, u < 32 → ∀ up, s.cuWatches u (0x50 + n) up = false)
include hcap

/-- A reference in HOME, no unit watching. -/
theorem Dev.posReference_home (ns per cause : Nat) (hmode : s.posImode n = 2) : s.posReference n ns per cause =
    ((s.posLatched n (s.reg (A.POS_RAW n))).posSet n ns (s.reg (A.POS_IDXREF n))).set (A.POS_STAT n) F.POS_STAT_HOMED 1 := by
  have hnow : s.captureNow (0x50 + n) true = s := Dev.capture_unwatched fun u hu => hcap u hu true
  have hkept : s.RegsKept (s.posLatched n (s.posRaw n)) [A.POS_LATCH n] :=
    (Dev.RegsKept.refl s _).setReg _ (List.mem_singleton_self _)
  have hmode' : (s.posLatched n (s.posRaw n)).posImode n = 2 := by
    rw [← hmode, Dev.posImode, Dev.posImode, Dev.bit, hkept.get _ (by simp [A.POS_IDX, A.POS_LATCH]),
      hkept.get _ (by simp [A.POS_STAT, A.POS_LATCH]), ← Dev.bit]
  have href : (s.posLatched n (s.posRaw n)).reg (A.POS_IDXREF n) = s.reg (A.POS_IDXREF n) :=
    hkept _ (by simp [A.POS_IDXREF, A.POS_LATCH])
  rw [Dev.posLatched] at hmode' href
  simp only [Dev.posReference, hnow, hmode', href]
  rfl

/-- What an index sets in HOME. -/
theorem Dev.posReference_homes (ns per cause : Nat) (hmode : s.posImode n = 2) :
    let d := s.posReference n ns per cause
    d = { s with regs := d.regs, poss := d.poss } ∧ d.reg (A.POS_LATCH n) = s.reg (A.POS_RAW n) ∧
      d.reg (A.POS_RAW n) = s.reg (A.POS_IDXREF n) ∧ (d.posCh n).pos = s.reg (A.POS_IDXREF n) ∧
      d.bit (A.POS_STAT n) F.POS_STAT_HOMED = true ∧ s.RegsKept d [A.POS_RAW n, A.POS_STAT n, A.POS_LATCH n] ∧
      ∀ k, k ≠ n → d.posCh k = s.posCh k := by
  rw [Dev.posReference_home hcap ns per cause hmode]
  obtain ⟨hraw, hpos, hhomed, hkept⟩ :=
    (s.posLatched n (s.reg (A.POS_RAW n))).homed_set n ns (s.reg (A.POS_IDXREF n))
  have hlatch : s.RegsKept (s.posLatched n (s.reg (A.POS_RAW n))) [A.POS_RAW n, A.POS_STAT n, A.POS_LATCH n] :=
    (Dev.RegsKept.refl s _).setReg _ (by simp)
  refine ⟨((((Dev.PosOnly.refl s).setReg ..).posSet ..).set ..).eq, ?_, hraw, hpos, hhomed,
    hlatch.trans (hkept.regs.mono (by simp)), hkept.others⟩
  exact (hkept.regs _ (by simp [A.POS_LATCH, A.POS_RAW, A.POS_STAT])).trans (s.reg_setReg_same _ _)

end

/-! ## SSI frames (R257) -/

/-- A count leaves the state of SSI frames. -/
theorem Dev.ssi_posCount (s : Dev) (n ns : Nat) (k : Int) (div : Nat) :
    ((s.posCount n ns k div).posCh n).ssi = (s.posCh n).ssi ∧
      ((s.posCount n ns k div).posCh n).ssiErrs = (s.posCh n).ssiErrs := by
  by_cases hk : k = 0
  · rw [hk]
    exact ⟨rfl, rfl⟩
  · obtain ⟨l, h⟩ := s.posCh_posCount (n := n) (ns := ns) (div := div) hk
    rw [h]
    exact ⟨rfl, rfl⟩

section
variable {s : Dev} {n : Nat} {latched a : Word} (hty : s.posType n = 5)
  (hcap : ∀ u, u < 32 → ∀ up, s.cuWatches u (0x50 + n) up = false)
include hty hcap

/-- A good frame of an SSI channel, no unit watching: a count by its difference, then its value. -/
theorem Dev.ssiAct_eq : s.ssiAct n latched a = ((s.posLatched n latched).posCount n s.ns
    (a - (s.posLatched n latched).posRaw n).toInt 1).posSet n s.ns a := by
  have hnow : s.captureNow (0x50 + n) true = s := Dev.capture_unwatched fun u hu => hcap u hu true
  have hty' : (s.posLatched n latched).posType n = 5 := by
    rw [← hty, Dev.posType, Dev.get, Dev.posLatched, Dev.reg_setReg_other _ _ (by simp [A.POS_CTL, A.POS_LATCH])]
    rfl
  rw [Dev.posLatched] at hty' ⊢
  simp only [Dev.ssiAct, hnow, if_pos hty']

/-- What a good frame sets. -/
theorem Dev.ssiAct_sets :
    let d := s.ssiAct n latched a
    d = { s with regs := d.regs, poss := d.poss } ∧ d.reg (A.POS_RAW n) = a ∧ (d.posCh n).pos = a ∧
      (d.posCh n).ssi = (s.posCh n).ssi ∧ (d.posCh n).ssiErrs = (s.posCh n).ssiErrs ∧ d.reg (A.POS_LATCH n) = latched ∧
      s.ChannelKept n [A.POS_RAW n, A.POS_LATCH n] d := by
  rw [Dev.ssiAct_eq hty hcap]
  generalize (a - (s.posLatched n latched).posRaw n).toInt = k
  have hkept : s.ChannelKept n [A.POS_RAW n, A.POS_LATCH n] ((s.posLatched n latched).posCount n s.ns k 1) :=
    ((Dev.ChannelKept.refl s n _).setReg latched (by simp)).posCount _ _ _ (by simp)
  have hlatch : ((s.posLatched n latched).posCount n s.ns k 1).reg (A.POS_LATCH n) = latched :=
    (((Dev.ChannelKept.refl _ n _).posCount _ _ _ (List.mem_singleton_self _)).regs _
      (by simp [A.POS_LATCH, A.POS_RAW])).trans (s.reg_setReg_same _ _)
  obtain ⟨hssi, herrs⟩ := (s.posLatched n latched).ssi_posCount n s.ns k 1
  have honly : s.PosOnly ((s.posLatched n latched).posCount n s.ns k 1) := ((Dev.PosOnly.refl s).setReg ..).posCount ..
  generalize (s.posLatched n latched).posCount n s.ns k 1 = y at hkept hlatch hssi herrs honly ⊢
  obtain ⟨l, hset⟩ := (y.setReg (A.POS_RAW n) a).posCh_setPos n s.ns a
  rw [← Dev.posSet] at hset
  refine ⟨(honly.posSet ..).eq, y.reg_setReg_same _ a, congrArg Pos.pos hset, (congrArg Pos.ssi hset).trans hssi,
    (congrArg Pos.ssiErrs hset).trans herrs, ?_, hkept.posSet _ _ (by simp)⟩
  exact (y.reg_setReg_other a (by simp [A.POS_LATCH, A.POS_RAW])).trans hlatch

end

/-- The channel's frame has ended without an error. -/
def Dev.ssiEnded (s : Dev) (n : Nat) : Dev :=
  (s.onPos n fun p => { p with ssi := none }).onPos n fun p => { p with ssiErrs := 0 }

/-- The channel's frame has ended in error. -/
def Dev.ssiErred (s : Dev) (n : Nat) : Dev :=
  ((s.onPos n fun p => { p with ssi := none }).raise (A.POS_STAT n) F.POS_STAT_SSIERR).onPos n
    fun p => { p with ssiErrs := (s.posCh n).ssiErrs + 1 }

section
variable (s : Dev) (n : Nat)

theorem Dev.ssiEnded_kept : s.ChannelKept n [] (s.ssiEnded n) := ((Dev.ChannelKept.refl s n _).onPos _).onPos _

theorem Dev.posCh_ssiEnded : (s.ssiEnded n).posCh n = { s.posCh n with ssi := none, ssiErrs := 0 } := by
  simp only [Dev.ssiEnded, Dev.posCh_onPos_same]

theorem Dev.ssiEnded_only : s.PosOnly (s.ssiEnded n) := ((Dev.PosOnly.refl s).onPos ..).onPos ..

theorem Dev.ssiErred_kept : s.ChannelKept n [A.POS_STAT n] (s.ssiErred n) :=
  (((Dev.ChannelKept.refl s n _).onPos _).raise _ (List.mem_singleton_self _)).onPos _

theorem Dev.ssierr_ssiErred : (s.ssiErred n).bit (A.POS_STAT n) F.POS_STAT_SSIERR = true :=
  (Dev.bit_onPos ..).trans (Dev.bit_raise_same _ _ _ (by decide))

theorem Dev.posCh_ssiErred :
    (s.ssiErred n).posCh n = { s.posCh n with ssi := none, ssiErrs := (s.posCh n).ssiErrs + 1 } := by
  simp only [Dev.ssiErred, Dev.posCh_onPos_same, Dev.posCh_raise]

theorem Dev.ssiErred_frame : s.ssiErred n = { s with
    regs := (s.ssiErred n).regs, poss := (s.ssiErred n).poss, hwSet := (s.ssiErred n).hwSet } := by
  obtain ⟨r, p, h⟩ := (Dev.PosOnly.refl s).onPos n fun p => { p with ssi := none }
  rw [Dev.ssiErred, h]
  rfl

end

section
variable {s : Dev} {n t0 : Nat} {latched v : Word} (hssi : (s.posCh n).ssi = some (t0, latched))
  (hend : t0 + s.ssiLen n ≤ s.ns + 3)
include hssi hend

/-- A frame with a good start and stop acts. -/
theorem Dev.ssiFrame_good : s.ssiFrame n true false v = (s.ssiEnded n).ssiAct n latched (s.ssiValue n v) := by
  simp only [Dev.ssiFrame, hssi, if_pos hend, Bool.not_false, Bool.and_self, if_true]
  rfl

/-- What a good frame does in an SSI channel, no unit watching. -/
theorem Dev.ssiFrame_sets (hty : s.posType n = 5) (hcap : ∀ u, u < 32 → ∀ up, s.cuWatches u (0x50 + n) up = false) :
    let d := s.ssiFrame n true false v
    d = { s with regs := d.regs, poss := d.poss } ∧ d.reg (A.POS_RAW n) = s.ssiValue n v ∧
      (d.posCh n).pos = s.ssiValue n v ∧ (d.posCh n).ssi = none ∧ (d.posCh n).ssiErrs = 0 ∧
      d.reg (A.POS_LATCH n) = latched ∧ s.RegsKept d [A.POS_RAW n, A.POS_LATCH n] ∧
      ∀ k, k ≠ n → d.posCh k = s.posCh k := by
  have hended := s.ssiEnded_kept n
  have hch := s.posCh_ssiEnded n
  have hsets := Dev.ssiAct_sets (s := s.ssiEnded n) (n := n) (latched := latched) (a := s.ssiValue n v) hty hcap
  have hstart := (s.ssiEnded_only n).eq
  rw [Dev.ssiFrame_good hssi hend]
  generalize s.ssiEnded n = y at hended hch hsets hstart ⊢
  generalize y.ssiAct n latched (s.ssiValue n v) = d at hsets ⊢
  obtain ⟨hframe, hraw, hpos, hno, herrs, hlatch, hkept⟩ := hsets
  rw [hch] at hno herrs
  refine ⟨?_, hraw, hpos, hno, herrs, hlatch, (hended.regs.mono (List.nil_subset _)).trans hkept.regs,
    fun k hk => (hkept.others k hk).trans (hended.others k hk)⟩
  rw [hframe, hstart]

/-- A frame without them is in error; the fourth in a row is a fault. -/
theorem Dev.ssiFrame_bad {before after : Bool} (hbad : before = false ∨ after = true) : s.ssiFrame n before after v =
    if 4 ≤ (s.posCh n).ssiErrs + 1 then (s.ssiErred n).posFault n pcSsiFrame else s.ssiErred n := by
  have hgood : ¬ (before && !after) = true := by
    rcases hbad with rfl | rfl <;> simp
  simp only [Dev.ssiFrame, hssi, if_pos hend, if_neg hgood, Dev.posCh_onPos_same, Dev.ssiErred]

/-- What a frame in error does. -/
theorem Dev.ssiFrame_errs {before after : Bool} (hbad : before = false ∨ after = true) :
    let d := s.ssiFrame n before after v
    d.bit (A.POS_STAT n) F.POS_STAT_SSIERR = true ∧
      d = { s with regs := d.regs, poss := d.poss, hwSet := d.hwSet, scribe := d.scribe, free := d.free } ∧
      (d.posCh n).ssi = none ∧ (d.posCh n).ssiErrs = (s.posCh n).ssiErrs + 1 ∧ s.RegsKept d [A.POS_STAT n] ∧
      (∀ k, k ≠ n → d.posCh k = s.posCh k) ∧
      (4 ≤ (s.posCh n).ssiErrs + 1 → d.bit (A.POS_STAT n) F.POS_STAT_MODE = true) := by
  have hbit := s.ssierr_ssiErred n
  have hkept := s.ssiErred_kept n
  have hch := s.posCh_ssiErred n
  have hframe := s.ssiErred_frame n
  rw [Dev.ssiFrame_bad hssi hend hbad]
  generalize s.ssiErred n = y at hbit hkept hch hframe ⊢
  by_cases hfour : 4 ≤ (s.posCh n).ssiErrs + 1
  · rw [if_pos hfour]
    have hfault := hkept.posFault pcSsiFrame (List.mem_singleton_self _)
    have hframe' := y.posFault_frame n pcSsiFrame
    have hbit' := (y.bit_posFault_field n pcSsiFrame (g := F.POS_STAT_SSIERR) (by decide) (by decide)
      (by decide)).trans hbit
    have hmode := y.mode_posFault n pcSsiFrame
    have hch' := y.posCh_posFault n pcSsiFrame
    rw [hch] at hch'
    generalize y.posFault n pcSsiFrame = d at hfault hframe' hbit' hmode hch' ⊢
    refine ⟨hbit', ?_, congrArg Pos.ssi hch', congrArg Pos.ssiErrs hch', hfault.regs, hfault.others, fun _ => hmode⟩
    rw [hframe', hframe]
  · rw [if_neg hfour]
    refine ⟨hbit, ?_, congrArg Pos.ssi hch, congrArg Pos.ssiErrs hch, hkept.regs, hkept.others, fun h => absurd h hfour⟩
    rw [hframe]

end

/-! ## Toothed wheels and sin/cos (R253, R255) -/

/-- The first edge of a wheel counts one. -/
theorem Dev.wheelEdge_first {s : Dev} {n : Nat} (h : (s.posCh n).edges = 0) : s.wheelEdge n =
    (s.posCount n (s.sampleNo * 5) (s.posSign n) 1).onPos n fun p => { p with edge := s.sampleNo + 1, edges := 1 } :=
  if_pos h

/-- A front-end sample takes its phase. -/
def Dev.phaseTaken (s : Dev) (n : Nat) (ph : Nat) : Dev :=
  s.onPos n fun q => { q with phase := some ph, samples := q.samples + 1 }

/-- A step between two phases, the nearer way around. -/
def phaseDiff (old ph : Nat) : Int := (((ph + 4096 - old + 2048) % 4096 : Nat) : Int) - 2048

/-- A step of less than a quarter turn, the amplitude in its limits, is a count. -/
theorem Dev.phaseStep_count {s : Dev} {n old : Nat} {sin cos : Int} (hph : (s.posCh n).phase = some old)
    (hamp : s.ampOk n cos sin = true) (hd : (phaseDiff old (phase12 cos sin)).natAbs < 1024) :
    s.phaseStep n sin cos =
      (s.phaseTaken n (phase12 cos sin)).posCount n s.ns (phaseDiff old (phase12 cos sin) * s.posSign n) 1 := by
  have hkept := (Dev.ChannelKept.refl s n [A.POS_RAW n]).onPos fun q =>
    { q with phase := some (phase12 cos sin), samples := q.samples + 1 }
  have hkept := hkept.posCount s.ns (phaseDiff old (phase12 cos sin) * s.posSign n) 1 (List.mem_singleton_self _)
  have hamp' : ((s.phaseTaken n (phase12 cos sin)).posCount n s.ns (phaseDiff old (phase12 cos sin) * s.posSign n) 1).ampOk n
      cos sin = true := by
    rw [← hamp, Dev.ampOk, Dev.ampOk, Dev.phaseTaken, hkept.regs.get _ (by simp [A.POS_AMP, A.POS_RAW]),
      hkept.regs.get _ (by simp [A.POS_AMP, A.POS_RAW])]
  have hsmall : ¬ 1024 ≤ (phaseDiff old (phase12 cos sin)).natAbs := by omega
  rw [Dev.phaseTaken, phaseDiff] at hamp' ⊢
  rw [phaseDiff] at hsmall
  simp only [Dev.phaseStep, hph, if_neg hsmall]
  exact if_pos hamp'

/-! ## Publication (R247) -/

section
variable {s : Dev} {n : Nat}

/-- The channel on the tick of its publication: VMODE stands, its points apart. -/
def Dev.posDue (s : Dev) (n : Nat) : Dev :=
  (s.onPos n fun p => { p with lastPub := s.ticks + 1 }).setBit (A.POS_STAT n) F.POS_STAT_VMODE (s.posVel n).2

theorem Dev.posDue_kept : s.ChannelKept n [A.POS_STAT n] (s.posDue n) :=
  ((Dev.ChannelKept.refl s n _).onPos _).set _ _ (List.mem_singleton_self _)

theorem Dev.posDue_only : s.PosOnly (s.posDue n) := ((Dev.PosOnly.refl s).onPos ..).set ..

theorem Dev.posSeen_posDue : (s.posDue n).posSeen n = s.posSeen n := by
  have hch : (s.posDue n).posCh n = { s.posCh n with lastPub := s.ticks + 1 } :=
    s.posCh_onPos_same n fun p => { p with lastPub := s.ticks + 1 }
  simp only [Dev.posSeen, hch]
  rfl

/-- VMODE leaves the bits of the status beside it. -/
theorem Dev.bit_posDue_field {g : Fld} (hg : g.ok = true) (h : g.hi < 9 ∨ 9 < g.lo) :
    (s.posDue n).bit (A.POS_STAT n) g = s.bit (A.POS_STAT n) g :=
  (Dev.bit_setBit_field _ _ _ _ _ (by decide) hg h).trans (s.bit_onPos n _ _ g)

theorem Dev.posValid_posDue : (s.posDue n).posValid n = s.posValid n := by
  rw [Dev.posValid, Dev.posType, Dev.posDue_kept.regs.get _ (by simp [A.POS_CTL, A.POS_STAT]),
    Dev.bit_posDue_field (by decide) (by decide), ← Dev.posType, ← Dev.posValid]

theorem Dev.posHomed_posDue : (s.posDue n).posHomed n = s.posHomed n := by
  rw [Dev.posHomed, Dev.posDue_kept.regs.get _ (by simp [A.POS_IDX, A.POS_STAT]),
    Dev.bit_posDue_field (by decide) (by decide), ← Dev.posHomed]

/-- A due publication writes both points. -/
theorem Dev.publication_eq (h : s.pubDue n = true) : s.publication n =
    ((s.posDue n).publish (posHandle n) ⟨s.posSeen n, s.posValid n && s.posHomed n⟩).publish (velHandle n)
      ⟨(s.posVel n).1, s.posValid n⟩ := by
  rw [← Dev.posSeen_posDue, ← Dev.posHomed_posDue, ← Dev.posValid_posDue]
  exact if_pos h

end

/-! ## The commands -/

section
variable {s : State} {n : Fin 16}

/-- A transition acts in an incremental channel. -/
theorem Does.acceptedTransition {P : Dev → Prop} (ta tb : Bool) (hon : s.dev.on = true) (hrun : s.dev.halted = false)
    (hty : s.dev.posType n = 1 ∨ s.dev.posType n = 2) (h : P (s.dev.posTransition n ta tb)) :
    Does (.acceptedTransition n ta tb) s P := by
  refine Does.of_live (f := fun d => if d.posType n = 1 || d.posType n = 2 then d.posTransition n ta tb else d) rfl hon
    hrun ?_
  have hact : (decide (s.dev.posType n = 1) || decide (s.dev.posType n = 2)) = true := by simpa using hty
  simpa only [if_pos hact] using h

/-- A tooth edge acts in a wheel's channel. -/
theorem Does.toothEdge {P : Dev → Prop} (hon : s.dev.on = true) (hrun : s.dev.halted = false) (hty : s.dev.posType n = 4)
    (h : P (s.dev.wheelEdge n)) : Does (.toothEdge n) s P := by
  refine Does.of_live (f := fun d => if d.posType n = 4 then d.wheelEdge n else d) rfl hon hrun ?_
  simpa only [if_pos hty] using h

/-- A front-end sample acts in a sin/cos channel. -/
theorem Does.phaseStep {P : Dev → Prop} (sin cos : Int) (hon : s.dev.on = true) (hrun : s.dev.halted = false)
    (hty : s.dev.posType n = 3) (h : P (s.dev.phaseStep n sin cos)) : Does (.phaseStep n sin cos) s P := by
  refine Does.of_live (f := fun d => if d.posType n = 3 then d.phaseStep n sin cos else d) rfl hon hrun ?_
  simpa only [if_pos hty] using h

end

section
variable {s : Dev} {n : Nat} {v : Word} (hty : F.POS_CTL_TYPE.of v ≤ 5) (hfi : F.POS_CTL_FILT.of v ≠ 0)
include hfi

include hty in
/-- What a write from OFF does. -/
theorem Dev.posCtlWrite_takes (h0 : s.posType n = 0) :
    let d := s.posCtlWrite n v
    d.posType n = F.POS_CTL_TYPE.of v ∧ d.get (A.POS_CTL n) F.POS_CTL_FILT = F.POS_CTL_FILT.of v ∧ Dev.OptionsTaken n v d ∧
      d = { s with regs := d.regs, poss := d.poss } ∧ s.RegsKept d [A.POS_CTL n] ∧ ∀ k, k ≠ n → d.posCh k = s.posCh k := by
  have htyped := s.posTyped_kept n v
  rw [Dev.posCtlWrite_fromOff hty hfi h0]
  by_cases hz : F.POS_CTL_TYPE.of v = 0
  · rw [if_neg (not_not_intro hz)]
    by_cases hf : F.POS_CTL_FILT.of v = s.get (A.POS_CTL n) F.POS_CTL_FILT
    · rw [if_pos hf, hz, hf]
      have hopts := s.posOptions_kept n v
      exact ⟨(s.get_posOptions_field n v (by decide) (by decide)).trans h0,
        s.get_posOptions_field n v (by decide) (by decide),
        s.posOptions_taken n v, (s.posOptions_only n v).eq, hopts.regs, hopts.others⟩
    · rw [if_neg hf]
      exact ⟨s.posType_posTyped n v, s.filt_posTyped n v, s.posTyped_taken n v, (s.posTyped_only n v).eq,
        htyped.regs, htyped.others⟩
  · rw [if_pos hz]
    exact ⟨(Dev.posType_onPos ..).trans (s.posType_posTyped n v), (Dev.get_onPos ..).trans (s.filt_posTyped n v),
      (s.posTyped_taken n v).onPos _, ((s.posTyped_only n v).onPos ..).eq, (htyped.onPos _).regs, (htyped.onPos _).others⟩

include hty in
/-- What a write from one type to another does. -/
theorem Dev.posCtlWrite_refuses (h0 : s.posType n ≠ 0) (hz : F.POS_CTL_TYPE.of v ≠ 0)
    (hne : F.POS_CTL_TYPE.of v ≠ s.posType n ∨ F.POS_CTL_FILT.of v ≠ s.get (A.POS_CTL n) F.POS_CTL_FILT) :
    let d := s.posCtlWrite n v
    d.posType n = s.posType n ∧ d.get (A.POS_CTL n) F.POS_CTL_FILT = s.get (A.POS_CTL n) F.POS_CTL_FILT ∧
      Dev.OptionsTaken n v d ∧ d.bit (A.POS_STAT n) F.POS_STAT_CFGERR = true ∧
      d = { s with regs := d.regs, hwSet := d.hwSet } ∧ s.RegsKept d [A.POS_CTL n, A.POS_STAT n] := by
  rw [Dev.posCtlWrite_refused hty hfi h0 hz hne]
  obtain ⟨hdir, hhyst⟩ := s.posOptions_taken n v
  have hctl (g : Fld) : ((s.posOptions n v).raise (A.POS_STAT n) F.POS_STAT_CFGERR).get (A.POS_CTL n) g =
      (s.posOptions n v).get (A.POS_CTL n) g := Dev.get_set_reg _ _ _ _ (by simp [A.POS_CTL, A.POS_STAT])
  have hopts := (s.posOptions_kept n v).mono (bs := [A.POS_CTL n, A.POS_STAT n]) (by simp)
  refine ⟨(hctl _).trans (s.get_posOptions_field n v (by decide) (by decide)),
    (hctl _).trans (s.get_posOptions_field n v (by decide) (by decide)), ⟨(hctl _).trans hdir, (hctl _).trans hhyst⟩,
    Dev.bit_raise_same _ _ _ (by decide), ?_, (hopts.raise _ (by simp)).regs⟩
  obtain ⟨r, h⟩ := s.posOptions_regsOnly n v
  rw [h]
  rfl

end

/-- TYPE, MODE and FCAUSE of a channel that has stopped. -/
theorem Dev.posStopped_status (s : Dev) (n : Nat) {v : Word} (hz : F.POS_CTL_TYPE.of v = 0) :
    (s.posStopped n v).posType n = 0 ∧ (s.posStopped n v).bit (A.POS_STAT n) F.POS_STAT_MODE = false ∧
      (s.posStopped n v).get (A.POS_STAT n) F.POS_STAT_FCAUSE = 0 := by
  have hne : A.POS_CTL n ≠ A.POS_STAT n := by simp [A.POS_CTL, A.POS_STAT]
  refine ⟨?_, ?_, Dev.get_set_same _ _ _ _ (by decide) (by decide)⟩
  · rw [Dev.posType, Dev.posStopped, Dev.get_set_reg _ _ _ _ hne, Dev.get_set_reg _ _ _ _ hne, Dev.get_onPos, ← Dev.posType,
      Dev.posType_posTyped, hz]
  · rw [Dev.posStopped, Dev.bit, Dev.get_set_field _ _ _ _ _ (by decide) (by decide) (by decide),
      Dev.get_set_same _ _ _ _ (by decide) (by decide)]
    rfl

section
variable {s : Dev} {n : Fin 16} (hst : s.standby = false) (hrun : s.halted = false) (hp : s.Unwatched (posHandle n))
  (hv : s.Unwatched (velHandle n))
include hst hrun hp hv

/-- Both points take values after a change of the channel's state, its control and its status. -/
theorem Dev.publish_both_after {y : Dev} (hy : y = { s with regs := y.regs, poss := y.poss })
    (hk : s.ChannelKept n [A.POS_CTL n, A.POS_STAT n] y) (p q : Pt) :
    let d := (y.publish (posHandle n) p).publish (velHandle n) q
    d = { s with regs := d.regs, poss := d.poss, points := d.points, wrote := d.wrote, duoSet := d.duoSet } ∧
      d.regs = y.regs ∧ (∀ k, k ≠ n.val → d.posCh k = s.posCh k) ∧ d.point (posHandle n) = p ∧
      d.point (velHandle n) = q ∧ ∀ h, h ≠ posHandle n → h ≠ velHandle n → d.point h = s.point h := by
  obtain ⟨hduo, hslot⟩ := posRegs_apart n
  have hst' : y.standby = false := (Dev.standby_of_kept hk.regs (by rw [hy]) hduo).trans hst
  have hrun' : y.halted = false := by rw [hy]; exact hrun
  have hu {h : Word} (hu : s.Unwatched h) : y.Unwatched h := hu.of_kept (by rw [hy]) (by rw [hy]) hk.regs hslot
  have hpoint (h : Word) : y.point h = s.point h := by rw [hy]; rfl
  obtain ⟨hframe, hpp, hvp, hother⟩ := Dev.publish_both hst' hrun' (hu hp) (hu hv) p q
  generalize (y.publish (posHandle n) p).publish (velHandle n) q = d at hframe hpp hvp hother ⊢
  refine ⟨?_, by rw [hframe], fun k hk' => ?_, hpp, hvp, fun h h1 h2 => (hother h h1 h2).trans (hpoint h)⟩
  · rw [hframe, hy]
  · rw [← hk.others k hk', hframe]
    rfl

/-- What a write of OFF does. -/
theorem Dev.posCtlWrite_stops {v : Word} (hfi : F.POS_CTL_FILT.of v ≠ 0) (h0 : s.posType n ≠ 0)
    (hz : F.POS_CTL_TYPE.of v = 0) :
    let d := s.posCtlWrite n v
    d.posType n = 0 ∧ d.bit (A.POS_STAT n) F.POS_STAT_MODE = false ∧ d.get (A.POS_STAT n) F.POS_STAT_FCAUSE = 0 ∧
      d.point (posHandle n) = ⟨(s.point (posHandle n)).val, false⟩ ∧
      d.point (velHandle n) = ⟨(s.point (velHandle n)).val, false⟩ ∧ s.RegsKept d [A.POS_CTL n, A.POS_STAT n] ∧
      (∀ k, k ≠ n.val → d.posCh k = s.posCh k) ∧
      d = { s with regs := d.regs, poss := d.poss, points := d.points, wrote := d.wrote, duoSet := d.duoSet } := by
  have hkept := s.posStopped_kept n v
  obtain ⟨hty, hmode, hcause⟩ := s.posStopped_status n hz
  obtain ⟨hframe, hregs, hothers, hpp, hvp, -⟩ := Dev.publish_both_after hst hrun hp hv (y := s.posStopped n v)
    (s.posStopped_only n v).eq hkept
    ⟨(s.point (posHandle n)).val, false⟩ ⟨(s.point (velHandle n)).val, false⟩
  rw [← Dev.posCtlWrite_off hfi h0 hz] at hframe hregs hothers hpp hvp
  have hreg (a : Nat) : (s.posCtlWrite n v).reg a = (s.posStopped n v).reg a := by rw [Dev.reg, hregs, Dev.reg]
  refine ⟨?_, ?_, ?_, hpp, hvp, fun a ha => (hreg a).trans (hkept.regs a ha), hothers, hframe⟩
  · rw [← hty, Dev.posType, Dev.get, hreg, ← Dev.get, ← Dev.posType]
  · rw [← hmode, Dev.bit, Dev.get, hreg, ← Dev.get, ← Dev.bit]
  · rw [← hcause, Dev.get, hreg, ← Dev.get]

/-- What a due publication does. -/
theorem Dev.publication_writes (hdue : s.pubDue n = true) :
    let d := s.publication n
    d.point (posHandle n) = ⟨s.posSeen n, s.posValid n && s.posHomed n⟩ ∧
      d.point (velHandle n) = ⟨(s.posVel n).1, s.posValid n⟩ ∧ d.bit (A.POS_STAT n) F.POS_STAT_VMODE = (s.posVel n).2 ∧
      (∀ k, k ≠ n.val → d.posCh k = s.posCh k) ∧
      d = { s with regs := d.regs, poss := d.poss, points := d.points, wrote := d.wrote, duoSet := d.duoSet } ∧
      s.RegsKept d [A.POS_STAT n] ∧ ∀ h, h ≠ posHandle n → h ≠ velHandle n → d.point h = s.point h := by
  have hkept : s.ChannelKept n [A.POS_STAT n] (s.posDue n) := Dev.posDue_kept
  have hvmode : (s.posDue n).bit (A.POS_STAT n) F.POS_STAT_VMODE = (s.posVel n).2 := Dev.bit_setBit_same _ _ _ _ (by decide)
  obtain ⟨hframe, hregs, hothers, hpp, hvp, hother⟩ := Dev.publish_both_after hst hrun hp hv (y := s.posDue n)
    Dev.posDue_only.eq (hkept.mono (by simp)) ⟨s.posSeen n, s.posValid n && s.posHomed n⟩ ⟨(s.posVel n).1, s.posValid n⟩
  rw [← Dev.publication_eq hdue] at hframe hregs hothers hpp hvp hother
  have hreg (a : Nat) : (s.publication n).reg a = (s.posDue n).reg a := by rw [Dev.reg, hregs, Dev.reg]
  refine ⟨hpp, hvp, ?_, hothers, hframe, fun a ha => (hreg a).trans (hkept.regs a ha), hother⟩
  rw [← hvmode, Dev.bit, Dev.get, hreg, ← Dev.get, ← Dev.bit]

end

section
variable {s : Dev} {n : Nat}

/-- A transition of one line counts one in its direction, and the line has its new level. -/
theorem Dev.posTransition_counts {ta tb : Bool} (h : ta ≠ tb) :
    s.CountsBy n (quadDir ((s.posCh n).a != ta) ((s.posCh n).b != tb) ta * s.posSign n) (s.posTransition n ta tb) ∧
      ((s.posTransition n ta tb).posCh n).a = ((s.posCh n).a != ta) ∧
      ((s.posTransition n ta tb).posCh n).b = ((s.posCh n).b != tb) := by
  have hne : quadDir ((s.posCh n).a != ta) ((s.posCh n).b != tb) ta * s.posSign n ≠ 0 :=
    Int.mul_ne_zero (quadDir_ne_zero _ _ _) (s.posSign_ne_zero n)
  rw [s.posTransition_count n h]
  obtain ⟨l, hch⟩ := (s.linesMoved n ta tb).posCh_posCount (n := n) (ns := s.sampleNo * 5) (div := 1) hne
  rw [Dev.posCh_linesMoved] at hch
  refine ⟨(Dev.posCount_countsBy hne).of_onPos ⟨rfl, rfl, rfl⟩, ?_, ?_⟩ <;> rw [hch] <;> rfl

/-- What a transition of both lines does. -/
theorem Dev.posTransition_illegals :
    let d := s.posTransition n true true
    let near := (s.posCh n).illegal.filter fun k => s.sampleNo ≤ k + 1023
    d = { s with regs := d.regs, poss := d.poss, scribe := d.scribe, free := d.free } ∧
      (∀ k, k ≠ n → d.posCh k = s.posCh k) ∧ d.reg (A.POS_RAW n) = s.reg (A.POS_RAW n) ∧
      d.get (A.POS_QERR n) F.POS_QERR_DATA = min (s.get (A.POS_QERR n) F.POS_QERR_DATA + 1) (2 ^ 32 - 1) ∧
      s.RegsKept d [A.POS_QERR n, A.POS_STAT n] ∧
      (3 ≤ near.length → d.bit (A.POS_STAT n) F.POS_STAT_MODE = true ∧
        (s.bit (A.POS_STAT n) F.POS_STAT_MODE = false → d.get (A.POS_STAT n) F.POS_STAT_FCAUSE = pcQerr)) ∧
      (near.length < 3 → d.reg (A.POS_STAT n) = s.reg (A.POS_STAT n)) := by
  have hnear : ((s.linesMoved n true true).posCh n).illegalNear s.sampleNo =
      (s.posCh n).illegal.filter fun k => s.sampleNo ≤ k + 1023 := by
    rw [Dev.posCh_linesMoved]
    rfl
  have hkept := (s.linesMoved n true true).posIllegal_kept n s.sampleNo
  rw [s.posTransition_illegal n, ← hnear]
  exact ⟨Dev.posIllegal_frame .., fun k hk => (hkept.others k hk).trans (s.posCh_onPos_other _ hk),
    hkept.regs _ (by simp [A.POS_RAW, A.POS_QERR, A.POS_STAT]), Dev.qerr_posIllegal .., hkept.regs,
    Dev.fault_posIllegal _ _ _, Dev.stat_posIllegal _ _ _⟩

/-- The first edge of a wheel. -/
theorem Dev.wheelEdge_counts (h : (s.posCh n).edges = 0) :
    s.CountsBy n (s.posSign n) (s.wheelEdge n) ∧ ((s.wheelEdge n).posCh n).edges = 1 := by
  rw [Dev.wheelEdge_first h]
  refine ⟨(Dev.posCount_countsBy (s.posSign_ne_zero n)).onPos ⟨rfl, rfl, rfl⟩, ?_⟩
  rw [Dev.posCh_onPos_same]

section
variable {old : Nat} {sin cos : Int} (hph : (s.posCh n).phase = some old) (hamp : s.ampOk n cos sin = true)
include hph hamp

/-- A phase step counts the difference. -/
theorem Dev.phaseStep_counts (h0 : phaseDiff old (phase12 cos sin) ≠ 0)
    (hd : (phaseDiff old (phase12 cos sin)).natAbs < 1024) :
    s.CountsBy n (phaseDiff old (phase12 cos sin) * s.posSign n) (s.phaseStep n sin cos) ∧
      ((s.phaseStep n sin cos).posCh n).phase = some (phase12 cos sin) := by
  have hne : phaseDiff old (phase12 cos sin) * s.posSign n ≠ 0 := Int.mul_ne_zero h0 (s.posSign_ne_zero n)
  rw [Dev.phaseStep_count hph hamp hd]
  obtain ⟨l, hch⟩ := Dev.posCh_posCount (s := s.phaseTaken n (phase12 cos sin)) (n := n) (ns := s.ns) (div := 1) hne
  rw [Dev.phaseTaken, Dev.posCh_onPos_same] at hch
  refine ⟨(Dev.posCount_countsBy hne).of_onPos ⟨rfl, rfl, rfl⟩, ?_⟩
  rw [Dev.phaseTaken, hch]
  rfl

/-- Without a difference the phase is taken alone. -/
theorem Dev.phaseStep_still (h0 : phaseDiff old (phase12 cos sin) = 0) :
    let d := s.phaseStep n sin cos
    d = { s with poss := d.poss } ∧ (∀ k, k ≠ n → d.posCh k = s.posCh k) ∧
      (d.posCh n).phase = some (phase12 cos sin) := by
  have htaken : s.phaseStep n sin cos = s.phaseTaken n (phase12 cos sin) := by
    rw [Dev.phaseStep_count hph hamp (by rw [h0]; decide), h0, Int.zero_mul, Dev.posCount_zero]
  rw [htaken]
  exact ⟨rfl, fun k hk => s.posCh_onPos_other _ hk, congrArg Pos.phase (s.posCh_onPos_same n _)⟩

end

end

/-- An index at a good level in an incremental channel is a reference. -/
theorem Dev.posIndex_reference {s : Dev} {n : Nat} (hty : s.posType n = 1)
    (ha : (s.posCh n).a = (s.get (A.POS_IDX n) F.POS_IDX_IDXQ % 2 == 1))
    (hb : (s.posCh n).b = (s.get (A.POS_IDX n) F.POS_IDX_IDXQ / 2 == 1)) (hill : (s.posCh n).illegalAt ≠ s.sampleNo + 1) :
    s.posIndex n = s.posReference n s.sampleNs (s.reg (A.POS_IDXPER n)).toNat pcIndex := by
  simp [Dev.posIndex, hty, ha, hb, hill]

/-- Settles O46: each command is one operation on its channel, whose effect the lemmas above say. -/
theorem positionChannel : Obligations.PositionChannel := by
  intro s n hon
  refine ⟨fun v hty hfi => ⟨fun h0 => ?_, fun h0 hz hne => ?_, fun h0 hz hst hrun hp hv => ?_⟩,
    fun hrun hty => ⟨fun ta tb hne => ?_, ?_⟩, fun hrun hty hcap ha hb hill hmode => ?_, fun hrun hty h0 => ?_,
    fun sin cos old hrun hty hph hamp => ⟨fun h0 hd => ?_, fun h0 => ?_⟩,
    fun t0 latched before after v hrun hssi hend => ⟨?_, fun hbad => ?_⟩, fun hrun hdue hst hp hv => ?_, ?_, ?_⟩
  · exact Does.of_go (f := (·.posCtlWrite n v)) rfl hon (Dev.posCtlWrite_takes hty hfi h0)
  · exact Does.of_go (f := (·.posCtlWrite n v)) rfl hon (Dev.posCtlWrite_refuses hty hfi h0 hz hne)
  · exact Does.of_go (f := (·.posCtlWrite n v)) rfl hon (Dev.posCtlWrite_stops hst hrun hp hv hfi h0 hz)
  · exact Does.acceptedTransition ta tb hon hrun hty (Dev.posTransition_counts hne)
  · exact Does.acceptedTransition true true hon hrun hty Dev.posTransition_illegals
  · refine Does.of_live (f := (·.posIndex n)) rfl hon hrun ?_
    rw [Dev.posIndex_reference hty ha hb hill]
    exact Dev.posReference_homes hcap _ _ _ hmode
  · exact Does.toothEdge hon hrun hty (Dev.wheelEdge_counts h0)
  · exact Does.phaseStep sin cos hon hrun hty (Dev.phaseStep_counts hph hamp h0 hd)
  · exact Does.phaseStep sin cos hon hrun hty (Dev.phaseStep_still hph hamp h0)
  · rintro rfl rfl hty hcap
    exact Does.of_live (f := (·.ssiFrame n true false v)) rfl hon hrun (Dev.ssiFrame_sets hssi hend hty hcap)
  · exact Does.of_live (f := (·.ssiFrame n before after v)) rfl hon hrun (Dev.ssiFrame_errs hssi hend hbad)
  · exact Does.of_live (f := (·.publication n)) rfl hon hrun (Dev.publication_writes hst hrun hp hv hdue)
  · obtain ⟨hraw, hpos, hhomed, hkept⟩ := s.dev.homed_set n s.dev.ns (s.dev.reg (A.POS_IDXREF n))
    exact Does.of_go (f := (·.posSetp n)) rfl hon
      ⟨(((Dev.PosOnly.refl _).posSet ..).set ..).eq, hraw, hpos, hhomed, hkept.regs, hkept.others⟩
  · exact Does.of_go (f := (·.after (.posClr n))) rfl hon rfl

end Sys2Proof.Machine
end

section
/-! The commands of the queue, in order (O1, O2). -/

namespace Sys2Proof.Machine

/-- Settles O1. -/
theorem stepTakesFrontCommand : Obligations.StepTakesFrontCommand := fun _ _ => rfl

/-- The device that a command leaves, whatever waits behind it. -/
def Dev.commanded (d : Dev) (c : Instr) : Dev :=
  match exec c ⟨d, []⟩ with
  | .next t => t.dev
  | .fault _ => d
  | .refused _ => d

/-- Every meaning is one operation on the device: it completes, and neither reads nor moves the commands that wait. -/
theorem exec_commanded (c : Instr) (s : State) : exec c s = .next { s with dev := s.dev.commanded c } := by
  cases c <;> rfl

/-- With a command in front a run goes on from the device that the command leaves. -/
theorem run_cons (c : Instr) (d : Dev) (n : Nat) (q : List Instr) :
    Sys2Proof.core.run (n + 1) ⟨d, c :: q⟩ = Sys2Proof.core.run n ⟨d.commanded c, q⟩ := by
  have hstep : Sys2Proof.core.step ⟨d, c :: q⟩ = .next ⟨d.commanded c, q⟩ := exec_commanded c ⟨d, q⟩
  simp only [Host.Core.run, hstep]

/-- As many steps as there are commands in front leave what these do to the device, and the commands behind. -/
theorem run_front (a b : List Instr) : ∀ d : Dev,
    Sys2Proof.core.run a.length ⟨d, a ++ b⟩ = .next ⟨a.foldl Dev.commanded d, b⟩ := by
  induction a with
  | nil => exact fun d => rfl
  | cons c a ih => exact fun d => (run_cons c d a.length (a ++ b)).trans (ih (d.commanded c))

/-- Settles O2: the device is the fold of the commands in front, whatever stands behind. -/
theorem queueIsServedInOrder : Obligations.QueueIsServedInOrder := fun d a b =>
  ⟨a.foldl Dev.commanded d, run_front a b d, by simpa only [List.append_nil] using run_front a [] d⟩

end Sys2Proof.Machine
end

section
/-! A group overload (O47). -/

namespace Sys2Proof.Machine

/-- The point of an output as it stands: a force on it, else its command point (R147, R279). -/
theorem Dev.now_dqHandle (s : Dev) {n : Nat} (hn : n < 32) :
    s.now (dqHandle n) = match forceOn (actingForces s.forces) (dqHandle n) with
      | some f => ⟨f.value, f.valid⟩
      | none => s.point (dqHandle n) := by
  have hc : hclass (dqHandle n) = 0x19 := hclass_mkHandle (by omega) (by omega)
  simp only [Dev.now, Dev.ptIn, hc]
  rfl

/-- Outputs with the same command points, forces, claims, hidden states and registers have the same levels; of the group's
register UNPWR alone counts. -/
theorem Dev.dqLevel_congr {s d : Dev} {n : Nat} (hn : n < 32) (hdq : d.dq n = s.dq n)
    (hpt : d.point (dqHandle n) = s.point (dqHandle n)) (hf : d.forces = s.forces) (hcl : d.claims = s.claims)
    (hctl : d.reg (A.DIO_DQ_CTL n) = s.reg (A.DIO_DQ_CTL n)) (hstat : d.reg (A.DIO_DQ_STAT n) = s.reg (A.DIO_DQ_STAT n))
    (hunp : d.dqUnpowered n = s.dqUnpowered n) : d.dqLevel n = s.dqLevel n := by
  have hpwm : d.dqPwm n = s.dqPwm n := by
    simp only [Dev.dqPwm, Dev.claim, Dev.bit, Dev.get, hcl, hctl]
  have hcmd : d.dqCmd n = s.dqCmd n := by
    simp only [Dev.dqCmd, d.now_dqHandle hn, s.now_dqHandle hn, hdq, hpt, hf]
  have hovt : d.bit (A.DIO_DQ_STAT n) F.DIO_DQ_STAT_OVT = s.bit (A.DIO_DQ_STAT n) F.DIO_DQ_STAT_OVT := by
    simp only [Dev.bit, Dev.get, hstat]
  simp only [Dev.dqLevel, hunp, hovt, hpwm, hcmd, hdq]

section
variable (s : Dev) (g : Nat)

/-- A group that is overloaded: GOVL is set and a record is offered (R272). -/
def Dev.groupOverloaded : Dev := (s.raise (A.DIO_DQG_STAT g) F.DIO_DQG_STAT_GOVL).offer 0x46 0x0A .groupOverload

theorem Dev.groupOverloaded_regsKept : s.RegsKept (s.groupOverloaded g) [A.DIO_DQG_STAT g] :=
  ((Dev.RegsKept.refl s _).raise _ (List.mem_singleton_self _)).offer _ _ _

/-- GOVL lies apart from UNPWR, in the group's own register. -/
theorem Dev.dqUnpowered_groupOverloaded (n : Nat) : (s.groupOverloaded g).dqUnpowered n = s.dqUnpowered n := by
  by_cases h : A.DIO_DQG_STAT (n / 8) = A.DIO_DQG_STAT g
  · rw [Dev.dqUnpowered, Dev.dqUnpowered, h]
    exact s.bit_raise_field _ _ _ rfl rfl (.inl (by decide))
  · simp only [Dev.dqUnpowered, Dev.bit, (s.groupOverloaded_regsKept g).get _ (by simpa using h)]

/-- The registers of the outputs are not those of the groups. -/
theorem dqReg_ne_group {n : Nat} (hn : n < 32) :
    A.DIO_DQ_CTL n ≠ A.DIO_DQG_STAT g ∧ A.DIO_DQ_STAT n ≠ A.DIO_DQG_STAT g := by
  simp only [A.DIO_DQ_CTL, A.DIO_DQ_STAT, A.DIO_DQG_STAT]; omega

end

/-- Settles O47: no field that an output's level depends on is among those that the overload writes. -/
theorem groupOverloadKeepsOutputs : Obligations.GroupOverloadKeepsOutputs := by
  intro s g hon
  have hkept := s.dev.groupOverloaded_regsKept g
  refine Does.of_go (f := (·.groupOverloaded g)) rfl hon
    ⟨s.dev.bit_raise_same _ _ rfl, ⟨_, rfl⟩, fun n hn => ?_, hkept, rfl⟩
  obtain ⟨hctl, hstat⟩ := dqReg_ne_group g.val hn
  have hstat := hkept (A.DIO_DQ_STAT n) (by simpa using hstat)
  exact ⟨rfl, rfl, hstat,
    Dev.dqLevel_congr hn rfl rfl rfl rfl (hkept _ (by simpa using hctl)) hstat (s.dev.dqUnpowered_groupOverloaded g n)⟩

end Sys2Proof.Machine
end

section
/-! Words in bank memory: what a span of lines reads as once it is written (R4). -/

namespace Sys2Proof.Machine

theorem leNat_leBytes (n v : Nat) : leNat (leBytes n v) = v % 256 ^ n := by
  induction n generalizing v with
  | zero => rw [leBytes, leNat, Nat.pow_zero, Nat.mod_one]
  | succ n ih =>
    rw [leBytes, leNat, ih, BitVec.toNat_ofNat, show 256 ^ (n + 1) = 256 * 256 ^ n from Nat.pow_succ']
    exact Nat.mod_mul.symm

theorem ofNat_leNat_wordBytes (w : Word) : BitVec.ofNat 32 (leNat (wordBytes w)) = w := by
  rw [wordBytes, leNat_leBytes, show (256 : Nat) ^ 4 = 2 ^ 32 from rfl, Nat.mod_eq_of_lt w.isLt, BitVec.ofNat_toNat,
    BitVec.setWidth_eq]

/-- A word whose four bytes stand in memory. -/
theorem Dev.word_of_bytes {s : Dev} {a : Nat} {w : Word} (h : ∀ j < 4, s.byte (a + j) = (wordBytes w).getD j 0) :
    s.word a = w := by
  have hbytes : s.bytes a 4 = wordBytes w := by
    refine List.ext_getElem (by simp [Dev.bytes, upto, wordBytes]) fun j hj hj' => ?_
    have hj4 : j < 4 := by simpa [wordBytes] using hj'
    simpa [Dev.bytes, upto, List.getD_eq_getElem?_getD, List.getElem?_eq_getElem hj'] using h j hj4
  rw [Dev.word, hbytes, ofNat_leNat_wordBytes]

/-- Words that stand in memory one after another. -/
theorem Dev.words_of_word {s : Dev} {a n : Nat} {ws : List Word} (hn : ws.length = n)
    (h : ∀ i < n, s.word (a + 4 * i) = ws.getD i 0) : s.words a n = ws := by
  refine List.ext_getElem (by simp [Dev.words, upto, hn]) fun i hi hi' => ?_
  simpa [Dev.words, upto, List.getD_eq_getElem?_getD, List.getElem?_eq_getElem hi'] using h i (hn ▸ hi')

/-- Line `i` of a list of words, filled up with zeros. -/
def wordLine (ws : List Word) (i : Nat) : List Byte := (upto 4).flatMap fun j => wordBytes (ws.getD (4 * i + j) 0)

theorem wordLine_length (ws : List Word) (i : Nat) : (wordLine ws i).length = 16 := rfl

/-- Byte `k` of a list of words. -/
def wordsByte (ws : List Word) (k : Nat) : Byte := (wordBytes (ws.getD (k / 4) 0)).getD (k % 4) 0

theorem wordLine_eq (ws : List Word) (i : Nat) : wordLine ws i = (upto 16).map fun j => wordsByte ws (16 * i + j) := by
  have hword : ∀ j ∈ upto 4, wordBytes (ws.getD (4 * i + j) 0) = (upto 4).map fun l => wordsByte ws (16 * i + (4 * j + l)) := by
    intro j _
    have hplace : ∀ l ∈ upto 4, wordsByte ws (16 * i + (4 * j + l)) = (wordBytes (ws.getD (4 * i + j) 0)).getD l 0 := by
      intro l hl
      have hl4 := List.mem_range.1 hl
      have hdiv : (16 * i + (4 * j + l)) / 4 = 4 * i + j := by omega
      have hmod : (16 * i + (4 * j + l)) % 4 = l := by omega
      rw [wordsByte, hdiv, hmod]
    rw [List.map_congr_left hplace]
    rfl
  rw [wordLine, List.flatMap_def, List.map_congr_left hword]
  rfl

section
variable (s : Dev) (line : Nat) (ws : List Word)

/-- A span changes its own lines alone. -/
theorem Dev.putSpan_memOnly {n : Nat} (hn : (ws.length + 3) / 4 * 16 ≤ n) :
    s.MemOnly (s.putSpan line ws) (line * 16) n := by
  refine foldl_keeps (s.MemOnly · (line * 16) n) _ _ s (fun d i hi hd => hd.trans ?_) (.refl s _ _)
  have hlt := List.mem_range.1 hi
  obtain ⟨hframe, hbytes⟩ := d.putLine_memOnly (line + i) _ (wordLine_length ws i)
  exact ⟨hframe, fun k hk => hbytes k (by omega)⟩

/-- A span holds its words. -/
theorem Dev.word_putSpan {i : Nat} (hi : i < ws.length) : (s.putSpan line ws).word (line * 16 + 4 * i) = ws.getD i 0 := by
  refine Dev.word_of_bytes fun j hj => ?_
  have hdiv : (4 * i + j) / 4 = i := by omega
  have hmod : (4 * i + j) % 4 = j := by omega
  have hbyte := s.byte_eachLine line (wordLine ws) (wordsByte ws) ((ws.length + 3) / 4) (fun i _ => wordLine_eq ws i)
    (k := 4 * i + j) (by omega)
  rw [wordsByte, hdiv, hmod, ← Nat.add_assoc] at hbyte
  exact hbyte

/-- The words from the `k`th word of a span on. -/
theorem Dev.words_putSpan {k n : Nat} (h : k + n ≤ ws.length) :
    (s.putSpan line ws).words (line * 16 + 4 * k) n = (ws.drop k).take n := by
  refine Dev.words_of_word (by simp; omega) fun i hi => ?_
  have hplace : line * 16 + 4 * k + 4 * i = line * 16 + 4 * (k + i) := by omega
  rw [hplace, s.word_putSpan line ws (by omega)]
  simp [List.getD_eq_getElem?_getD, hi]

end

end Sys2Proof.Machine
end

section
/-! Owner keys, attestation and the life cycle (O59): what a request reads, and what it leaves. -/

namespace Sys2Proof.Machine

/-! ## Registers that an operation may write -/

/-- `d` differs from `s` in the registers `as` alone. -/
def Dev.RegsAt (s d : Dev) (as : List Nat) : Prop := s.RegsOnly d ∧ s.RegsKept d as

section
variable {s d : Dev} {as : List Nat}

theorem Dev.RegsAt.refl (s : Dev) (as : List Nat) : s.RegsAt s as := ⟨.refl s, .refl s as⟩

theorem Dev.RegsAt.setReg (h : s.RegsAt d as) {a : Nat} (w : Word) (ha : a ∈ as) : s.RegsAt (d.setReg a w) as :=
  ⟨h.1.setReg a w, h.2.setReg w ha⟩

theorem Dev.RegsAt.set (h : s.RegsAt d as) {a : Nat} (f : Fld) (v : Nat) (ha : a ∈ as) : s.RegsAt (d.set a f v) as :=
  h.setReg _ ha

theorem Dev.RegsAt.mono (h : s.RegsAt d as) {bs : List Nat} (hb : as ⊆ bs) : s.RegsAt d bs := ⟨h.1, h.2.mono hb⟩

theorem Dev.RegsAt.bit (h : s.RegsAt d as) {a : Nat} (f : Fld) (ha : a ∉ as) : d.bit a f = s.bit a f :=
  congrArg (· == 1) (h.2.get f ha)

theorem Dev.RegsOnly.sec (h : s.RegsOnly d) : d.sec = s.sec := by
  obtain ⟨r, rfl⟩ := h
  rfl

theorem Dev.RegsOnly.fuses (h : s.RegsOnly d) : d.fuses = s.fuses := by
  obtain ⟨r, rfl⟩ := h
  rfl

theorem Dev.RegsOnly.words (h : s.RegsOnly d) (a n : Nat) : d.words a n = s.words a n := by
  obtain ⟨r, rfl⟩ := h
  rfl

theorem Dev.RegsOnly.spanOk (h : s.RegsOnly d) (a n : Nat) : d.spanOk a n = s.spanOk a n := by
  obtain ⟨r, rfl⟩ := h
  rfl

theorem Dev.RegsOnly.windowImage (h : s.RegsOnly d) (page : Nat) : d.windowImage page = s.windowImage page := by
  obtain ⟨r, rfl⟩ := h
  rfl

theorem Dev.RegsOnly.ownerKey (h : s.RegsOnly d) (k : Nat) : d.ownerKey k = s.ownerKey k := by
  obtain ⟨r, rfl⟩ := h
  rfl

/-! ## What the checks of the security block read (R437, R439, R444) -/

/-- The listed registers are none that an image is checked against. -/
def NotKeyRegs (as : List Nat) : Prop := A.SEC_MINVER ∉ as ∧ ∀ k, A.SEC_OWNKEY k ∉ as

section
variable (h : s.RegsAt d as) (hk : NotKeyRegs as)
include h hk

theorem Dev.RegsAt.enrolled (k : Nat) : d.enrolled k = s.enrolled k := h.bit _ (hk.2 k)

theorem Dev.RegsAt.revoked (k : Nat) : d.revoked k = s.revoked k := h.bit _ (hk.2 k)

theorem Dev.RegsAt.liveWithout (k : Nat) : d.liveWithout k = s.liveWithout k := by
  simp only [Dev.liveWithout, h.enrolled hk, h.revoked hk]

theorem Dev.RegsAt.verifyImage (rd : Reader) : d.verifyImage rd = s.verifyImage rd := by
  simp only [Dev.verifyImage, h.enrolled hk, h.revoked hk, h.1.fuses, h.1.ownerKey, h.2.get _ hk.1]

theorem Dev.RegsAt.keyop (page k need : Nat) : d.keyop page k need = s.keyop page k need := by
  simp only [Dev.keyop, h.1.windowImage, h.verifyImage hk]

theorem Dev.RegsAt.tokenOk (hl : A.SEC_LCS_STAT ∉ as) (target page : Nat) : d.tokenOk target page = s.tokenOk target page := by
  simp only [Dev.tokenOk, h.1.windowImage, h.verifyImage hk, h.2.get _ hl]

end

theorem Dev.RegsAt.lifecycle (h : s.RegsAt d as) (hl : A.SEC_LCS_STAT ∉ as) : d.lifecycle = s.lifecycle := h.2.get _ hl

theorem Dev.RegsAt.lcsAllowed (h : s.RegsAt d as) (hl : A.SEC_LCS_STAT ∉ as) (target : Nat) :
    d.lcsAllowed target = s.lcsAllowed target := by
  simp only [Dev.lcsAllowed, h.lifecycle hl, h.2.get _ hl]

end

theorem notKeyRegs_keyCtl : NotKeyRegs [A.SEC_KEY_CTL] := by
  refine ⟨by decide, fun k => ?_⟩
  simp only [A.SEC_OWNKEY, A.SEC_KEY_CTL, List.mem_singleton]
  omega

theorem notKeyRegs_lcsCtl : NotKeyRegs [A.SEC_LCS_CTL] := by
  refine ⟨by decide, fun k => ?_⟩
  simp only [A.SEC_OWNKEY, A.SEC_LCS_CTL, List.mem_singleton]
  omega

/-! ## Accesses during a wipe and else (R446) -/

theorem Dev.secGate_wiping {s : Dev} (req : Nat) (f : Dev → Dev) (h : s.sec.wipe.isSome = true) :
    s.secGate req f = { s with bus := ⟨if req ≤ 1 then .completerAbort else .busError, 0⟩ } := if_pos h

/-- A command of the security block, while no wipe is under way, is its operation with an answer. -/
theorem Does.sec {c : Instr} {s : State} {req : Nat} {f : Dev → Dev} {P : Dev → Prop} (he : exec c s = s.go (·.secGate req f))
    (hon : s.dev.on = true) (hw : s.dev.sec.wipe = none) (h : P ((f s.dev).answer .ok 0)) : Does c s P := by
  refine Does.of_go he hon ?_
  show P (s.dev.secGate req f)
  rwa [Dev.secGate, if_neg (by simp [hw])]

/-! ## The operation registers (R439, R442, R444) -/

section
variable (s : Dev)

/-- SEC_KEY_CTL with an operation, a slot and a page asked for. -/
def Dev.keyAsked (op k page : Nat) : Dev :=
  ((s.set A.SEC_KEY_CTL F.SEC_KEY_CTL_OP op).set A.SEC_KEY_CTL F.SEC_KEY_CTL_SLOT k).set A.SEC_KEY_CTL F.SEC_KEY_CTL_PAGE page

theorem Dev.keyAsked_regsAt (op k page : Nat) : s.RegsAt (s.keyAsked op k page) [A.SEC_KEY_CTL] :=
  (((Dev.RegsAt.refl s _).set _ _ (List.mem_singleton_self _)).set _ _ (List.mem_singleton_self _)).set _ _
    (List.mem_singleton_self _)

/-- The fields of the word that asks for an operation. -/
theorem keyCtlWord_fields {op k page : Nat} (hop : op < 4) (hk : k < 4) (hp : page < 2 ^ 14) :
    F.SEC_KEY_CTL_GO.of (keyCtlWord op k page) = 1 ∧ F.SEC_KEY_CTL_OP.of (keyCtlWord op k page) = op ∧
      F.SEC_KEY_CTL_SLOT.of (keyCtlWord op k page) = k ∧ F.SEC_KEY_CTL_PAGE.of (keyCtlWord op k page) = page := by
  have hw : (keyCtlWord op k page).toNat = 2 ^ 31 + op * 2 ^ 18 + k * 2 ^ 16 + page := by
    rw [keyCtlWord, BitVec.toNat_ofNat]
    exact Nat.mod_eq_of_lt (by omega)
  simp only [Fld.of, bitsOf, hw, F.SEC_KEY_CTL_GO, F.SEC_KEY_CTL_OP, F.SEC_KEY_CTL_SLOT, F.SEC_KEY_CTL_PAGE,
    Nat.shiftRight_eq_div_pow]
  omega

theorem Dev.keyCtl_enrol {k page : Nat} (hk : k < 4) (hp : page < 2 ^ 14) :
    s.keyCtl (keyCtlWord 1 k page) = (s.keyAsked 1 k page).keyEnrol k page := by
  obtain ⟨hgo, hop, hslot, hpage⟩ := keyCtlWord_fields (op := 1) (by omega) hk hp
  simp only [Dev.keyCtl, hgo, hop, hslot, hpage]
  rfl

theorem Dev.keyCtl_revoke {k page : Nat} (hk : k < 4) (hp : page < 2 ^ 14) :
    s.keyCtl (keyCtlWord 2 k page) = (s.keyAsked 2 k page).keyRevoke k page := by
  obtain ⟨hgo, hop, hslot, hpage⟩ := keyCtlWord_fields (op := 2) (by omega) hk hp
  simp only [Dev.keyCtl, hgo, hop, hslot, hpage]
  rfl

/-- SEC_ATT_CTL with a page asked for. -/
def Dev.attAsked (page : Nat) : Dev := s.set A.SEC_ATT_CTL F.SEC_ATT_CTL_PAGE page

theorem Dev.attCtl_attest {page : Nat} (hp : page < 2 ^ 14) :
    s.attCtl (BitVec.ofNat 32 (2 ^ 31 + page)) = (s.attAsked page).attest page := by
  have hw : (BitVec.ofNat 32 (2 ^ 31 + page)).toNat = 2 ^ 31 + page := by
    rw [BitVec.toNat_ofNat]
    exact Nat.mod_eq_of_lt (by omega)
  have hgo : F.SEC_ATT_CTL_GO.of (BitVec.ofNat 32 (2 ^ 31 + page)) = 1 := by
    simp only [Fld.of, bitsOf, hw, F.SEC_ATT_CTL_GO, Nat.shiftRight_eq_div_pow]
    omega
  have hpage : F.SEC_ATT_CTL_PAGE.of (BitVec.ofNat 32 (2 ^ 31 + page)) = page := by
    simp only [Fld.of, bitsOf, hw, F.SEC_ATT_CTL_PAGE, Nat.shiftRight_eq_div_pow]
    omega
  simp only [Dev.attCtl, hgo, hpage, if_true, Dev.attAsked]

/-- SEC_LCS_CTL with a target and a page asked for; a reserved target is not taken (R8). -/
def Dev.lcsAsked (t page : Nat) : Dev :=
  (if t ≤ 4 then s.set A.SEC_LCS_CTL F.SEC_LCS_CTL_TARGET t else s).set A.SEC_LCS_CTL F.SEC_LCS_CTL_PAGE page

theorem Dev.lcsAsked_regsAt (t page : Nat) : s.RegsAt (s.lcsAsked t page) [A.SEC_LCS_CTL] := by
  refine Dev.RegsAt.set ?_ _ _ (List.mem_singleton_self _)
  split
  · exact (Dev.RegsAt.refl s _).set _ _ (List.mem_singleton_self _)
  · exact .refl s _

theorem Dev.lcsCtl_request {t page : Nat} (ht : t < 8) (hp : page < 2 ^ 14) :
    s.lcsCtl (BitVec.ofNat 32 (2 ^ 31 + t * 2 ^ 20 + page)) = (s.lcsAsked t page).lcsRequest t page := by
  have hw : (BitVec.ofNat 32 (2 ^ 31 + t * 2 ^ 20 + page)).toNat = 2 ^ 31 + t * 2 ^ 20 + page := by
    rw [BitVec.toNat_ofNat]
    exact Nat.mod_eq_of_lt (by omega)
  generalize hv : BitVec.ofNat 32 (2 ^ 31 + t * 2 ^ 20 + page) = v at hw
  have hgo : F.SEC_LCS_CTL_GO.of v = 1 := by
    simp only [Fld.of, bitsOf, hw, F.SEC_LCS_CTL_GO, Nat.shiftRight_eq_div_pow]
    omega
  have htgt : F.SEC_LCS_CTL_TARGET.of v = t := by
    simp only [Fld.of, bitsOf, hw, F.SEC_LCS_CTL_TARGET, Nat.shiftRight_eq_div_pow]
    omega
  have hpage : F.SEC_LCS_CTL_PAGE.of v = page := by
    simp only [Fld.of, bitsOf, hw, F.SEC_LCS_CTL_PAGE, Nat.shiftRight_eq_div_pow]
    omega
  have hlegal : F.SEC_LCS_CTL_TARGET.isLegal t = true ↔ t ≤ 4 := by
    simp [Fld.isLegal, F.SEC_LCS_CTL_TARGET]
  simp only [Dev.lcsCtl, hgo, htgt, hpage, if_true, Dev.lcsAsked, hlegal]

end

/-! ## Owner keys (R439) -/

section
variable {s t : Dev} (h : s.RegsAt t [A.SEC_KEY_CTL])
include h

/-- A result alone. -/
theorem Dev.RegsAt.keyRes {r : Nat} (hr : r < 8) :
    let d := (t.keyRes r).answer .ok 0
    (d.get A.SEC_KEY_CTL F.SEC_KEY_CTL_RES = r ∧ d.bus = ⟨.ok, 0⟩) ∧ d = { s with regs := d.regs, bus := d.bus } ∧
      s.RegsKept d [A.SEC_KEY_CTL] := by
  obtain ⟨⟨rs, rfl⟩, hkept⟩ := h
  exact ⟨⟨Dev.get_set_same _ _ _ _ rfl hr, rfl⟩, rfl, hkept.set _ _ (List.mem_singleton_self _)⟩

/-- A failed check leaves its result and a record. -/
theorem Dev.RegsAt.keyFailed :
    let d := ((t.keyRes keyVerify).offer 0x4C 0x12 .imageRefused).answer .ok 0
    (d.get A.SEC_KEY_CTL F.SEC_KEY_CTL_RES = 3 ∧ d.bus = ⟨.ok, 0⟩) ∧
      (∃ o : Offer, o.src = 0x4C ∧ d.scribe = { s.scribe with offers := s.scribe.offers ++ [o] }) ∧
      d = { s with regs := d.regs, bus := d.bus, scribe := d.scribe, free := d.free } ∧ s.RegsKept d [A.SEC_KEY_CTL] := by
  obtain ⟨⟨rs, rfl⟩, hkept⟩ := h
  exact ⟨⟨Dev.get_set_same _ _ _ _ rfl (by decide), rfl⟩, ⟨_, rfl, rfl⟩, rfl, hkept.set _ _ (List.mem_singleton_self _)⟩

end

theorem ownKey_ne_keyCtl (k : Nat) : A.SEC_OWNKEY k ≠ A.SEC_KEY_CTL := by
  simp only [A.SEC_OWNKEY, A.SEC_KEY_CTL]
  omega

section
variable {s t : Dev} {k : Nat} (h : s.RegsAt t [A.SEC_KEY_CTL])
include h

/-- Both registers that an enrolment or a revocation writes. -/
theorem Dev.RegsAt.ownKeySet (f : Fld) (r : Nat) :
    s.RegsAt ((t.set (A.SEC_OWNKEY k) f 1).keyRes r) [A.SEC_KEY_CTL, A.SEC_OWNKEY k] :=
  ((h.mono (bs := [A.SEC_KEY_CTL, A.SEC_OWNKEY k]) (by simp)).set f 1 (by simp)).set _ r (by simp)

/-- A key is enrolled: kept, its hash fused, its slot marked. -/
theorem Dev.RegsAt.fuseKey (ws : List Word) :
    let d := (t.fuseKey k ws).answer .ok 0
    (d.get A.SEC_KEY_CTL F.SEC_KEY_CTL_RES = 1 ∧ d.bus = ⟨.ok, 0⟩) ∧ d.enrolled k = true ∧ tabGet [] d.sec.keys k = ws ∧
      tabGet 0 d.fuses.ownHash k = Config.shake256 (ws.flatMap wordBytes) ∧
      (∀ j, j ≠ k → tabGet [] d.sec.keys j = tabGet [] s.sec.keys j ∧ tabGet 0 d.fuses.ownHash j = tabGet 0 s.fuses.ownHash j) ∧
      d = { s with regs := d.regs, bus := d.bus, sec := { s.sec with keys := d.sec.keys }, fuses := { s.fuses with ownHash := d.fuses.ownHash } } ∧
      s.RegsKept d [A.SEC_KEY_CTL, A.SEC_OWNKEY k] := by
  have hkept := (h.ownKeySet (k := k) F.SEC_OWNKEY_ENROLLED keyDone).2
  obtain ⟨⟨rs, rfl⟩, -⟩ := h
  refine ⟨⟨Dev.get_set_same _ _ _ _ rfl (by decide), rfl⟩, ?_, tabGet_put_same .., tabGet_put_same ..,
    fun j hj => ⟨tabGet_put_other _ _ _ _ hj, tabGet_put_other _ _ _ _ hj⟩, rfl, hkept⟩
  have hmark := Dev.get_set_same { s with regs := rs } (A.SEC_OWNKEY k) F.SEC_OWNKEY_ENROLLED 1 rfl (by decide)
  have hres := Dev.get_set_reg ({ s with regs := rs }.set (A.SEC_OWNKEY k) F.SEC_OWNKEY_ENROLLED 1) F.SEC_KEY_CTL_RES
    F.SEC_OWNKEY_ENROLLED keyDone (ownKey_ne_keyCtl k)
  exact congrArg (· == 1) (hres.trans hmark)

/-- A key is revoked: its slot is marked. -/
theorem Dev.RegsAt.keyRevoked :
    let d := ((t.set (A.SEC_OWNKEY k) F.SEC_OWNKEY_REVOKED 1).keyRes keyDone).answer .ok 0
    (d.get A.SEC_KEY_CTL F.SEC_KEY_CTL_RES = 1 ∧ d.bus = ⟨.ok, 0⟩) ∧ d.revoked k = true ∧
      d = { s with regs := d.regs, bus := d.bus } ∧ s.RegsKept d [A.SEC_KEY_CTL, A.SEC_OWNKEY k] := by
  have hkept := (h.ownKeySet (k := k) F.SEC_OWNKEY_REVOKED keyDone).2
  obtain ⟨⟨rs, rfl⟩, -⟩ := h
  refine ⟨⟨Dev.get_set_same _ _ _ _ rfl (by decide), rfl⟩, ?_, rfl, hkept⟩
  have hmark := Dev.get_set_same { s with regs := rs } (A.SEC_OWNKEY k) F.SEC_OWNKEY_REVOKED 1 rfl (by decide)
  have hres := Dev.get_set_reg ({ s with regs := rs }.set (A.SEC_OWNKEY k) F.SEC_OWNKEY_REVOKED 1) F.SEC_KEY_CTL_RES
    F.SEC_OWNKEY_REVOKED keyDone (ownKey_ne_keyCtl k)
  exact congrArg (· == 1) (hres.trans hmark)

end

section
variable {s : Dev} {k page : Nat}

theorem Dev.keyEnrol_refused (h : s.lifecycle = lcRetired ∨ s.enrolled k = true) : s.keyEnrol k page = s.keyRes keyRefused :=
  if_pos (by simpa using h)

section
variable (hlc : s.lifecycle ≠ lcRetired) (hen : s.enrolled k = false)
include hlc hen

/-- Early in life a key comes bare, in a page that can be read. -/
theorem Dev.keyEnrol_bare {a : Nat} (hopen : s.lifecycle = lcBlank ∨ s.lifecycle = lcProvisioned)
    (ha : pageAddr page = some a) :
    s.keyEnrol k page = if s.spanOk a 68 then s.fuseKey k (s.words a 17) else s.keyRes keyRefused := by
  simp only [Dev.keyEnrol, hlc, hen, hopen, ha, ← Bool.decide_or, decide_true, decide_false, Bool.or_false, if_true,
    Bool.false_eq_true, if_false]

theorem Dev.keyEnrol_noPage (hopen : s.lifecycle = lcBlank ∨ s.lifecycle = lcProvisioned) (ha : pageAddr page = none) :
    s.keyEnrol k page = s.keyRes keyRefused := by
  simp only [Dev.keyEnrol, hlc, hen, hopen, ha, ← Bool.decide_or, decide_true, decide_false, Bool.or_false, if_true,
    Bool.false_eq_true, if_false]

section
variable (hclosed : ¬(s.lifecycle = lcBlank ∨ s.lifecycle = lcProvisioned))
include hclosed

/-- Later a key comes by a KEYOP. -/
theorem Dev.keyEnrol_keyop {ws : List Word} (hop : s.keyop page k 18 = some ws) :
    s.keyEnrol k page = s.fuseKey k (ws.drop 1) := by
  simp only [Dev.keyEnrol, hlc, hen, hclosed, hop, ← Bool.decide_or, decide_false, Bool.or_false, Bool.false_eq_true, if_false]

theorem Dev.keyEnrol_failed (hop : s.keyop page k 18 = none) :
    s.keyEnrol k page = (s.keyRes keyVerify).offer 0x4C 0x12 .imageRefused := by
  simp only [Dev.keyEnrol, hlc, hen, hclosed, hop, ← Bool.decide_or, decide_false, Bool.or_false, Bool.false_eq_true, if_false]

end

end

theorem Dev.keyRevoke_refused (h : s.lifecycle = lcBlank ∨ s.lifecycle = lcRetired ∨ s.liveWithout k = false) :
    s.keyRevoke k page = s.keyRes keyRefused := if_pos (by simpa [or_assoc] using h)

section
variable (h : ¬(s.lifecycle = lcBlank ∨ s.lifecycle = lcRetired ∨ s.liveWithout k = false))
include h

theorem Dev.keyRevoke_keyop {ws : List Word} (hop : s.keyop page k 1 = some ws) :
    s.keyRevoke k page = (s.set (A.SEC_OWNKEY k) F.SEC_OWNKEY_REVOKED 1).keyRes keyDone := by
  refine (if_neg (by simpa [or_assoc] using h)).trans ?_
  simp only [hop]

theorem Dev.keyRevoke_failed (hop : s.keyop page k 1 = none) :
    s.keyRevoke k page = (s.keyRes keyVerify).offer 0x4C 0x12 .imageRefused := by
  refine (if_neg (by simpa [or_assoc] using h)).trans ?_
  simp only [hop]

end

end

/-- KEY_ENROL acts on the device that holds its request. -/
theorem Does.keyEnrol {s : State} {req : Fin 15} {k : Fin 4} {page : BitVec 14} {P : Dev → Prop} (hon : s.dev.on = true)
    (hw : s.dev.sec.wipe = none) (h : P (((s.dev.keyAsked 1 k page.toNat).keyEnrol k page.toNat).answer .ok 0)) :
    Does (.keyEnrol req k page) s P := by
  refine Does.sec (f := (·.keyCtl (keyCtlWord 1 k page.toNat))) rfl hon hw ?_
  rwa [s.dev.keyCtl_enrol k.isLt page.isLt]

/-- KEY_REVOKE acts on the device that holds its request. -/
theorem Does.keyRevoke {s : State} {req : Fin 15} {k : Fin 4} {page : BitVec 14} {P : Dev → Prop} (hon : s.dev.on = true)
    (hw : s.dev.sec.wipe = none) (h : P (((s.dev.keyAsked 2 k page.toNat).keyRevoke k page.toNat).answer .ok 0)) :
    Does (.keyRevoke req k page) s P := by
  refine Does.sec (f := (·.keyCtl (keyCtlWord 2 k page.toNat))) rfl hon hw ?_
  rwa [s.dev.keyCtl_revoke k.isLt page.isLt]

/-! ## Attestation (R441, R442) -/

theorem Dev.RegsKept.ownsLive {s d : Dev} {as : List Nat} (h : s.RegsKept d as) (hb : ∀ b, A.MEM_BANK_STAT b ∉ as) (code b : Nat) :
    d.ownsLive code b = s.ownsLive code b := by
  simp only [Dev.ownsLive, Dev.owner, Dev.bit, h.get _ (hb b)]

/-- A request of a quote refused. -/
theorem Dev.attFail_answered (s : Dev) {page n : Nat} (hn : n < 16) :
    let d := (attFail (s.attAsked page) n).answer .ok 0
    d.get A.SEC_ATT_STAT F.SEC_ATT_STAT_STATE = 3 ∧ d.get A.SEC_ATT_STAT F.SEC_ATT_STAT_CAUSE = n ∧ d.bus = ⟨.ok, 0⟩ ∧
      d = { s with regs := d.regs, bus := d.bus } ∧ s.RegsKept d [A.SEC_ATT_STAT, A.SEC_ATT_CTL] := by
  refine ⟨?_, Dev.get_set_same _ _ _ _ rfl hn, rfl, rfl, ?_⟩
  · exact (Dev.get_set_field _ _ _ _ _ rfl rfl (.inl (by decide))).trans (Dev.get_set_same _ _ _ _ rfl (by decide))
  · exact (((Dev.RegsKept.refl s _).set _ _ (by simp)).set _ _ (by simp)).set _ _ (by simp)

/-- What the choice of an index leaves: the next index, the limit of the block, and the registers that show them. -/
theorem Dev.idSign_some {s : Dev} {i : Nat} (h : s.idSign.2 = some i) :
    i = s.sec.next ∧ s.idSign.1.sec.next = i + 1 ∧ s.RegsKept s.idSign.1 [A.SEC_IDX_BLK, A.SEC_ID_STAT] ∧
      s.idSign.1 = { s with regs := s.idSign.1.regs, sec := { s.sec with next := s.idSign.1.sec.next, limit := s.idSign.1.sec.limit } } := by
  unfold Dev.idSign at h ⊢
  split at h
  · cases h
  split at h
  · split at h
    · cases h
    case isFalse hno hlim hblk =>
      cases h
      simp only [hno, hlim, hblk, if_true, if_false]
      exact ⟨hlim, rfl, ((Dev.RegsKept.refl s _).set _ _ (by simp)).set _ _ (by simp), rfl⟩
  case isFalse hno hlim =>
    cases h
    simp only [hno, hlim, if_false]
    exact ⟨trivial, rfl, (Dev.RegsKept.refl s _).set _ _ (by simp), rfl⟩

/-! ## Quotes (R442) -/

/-- The listed registers are none that a quote tells. -/
def NotQuoteRegs (as : List Nat) : Prop :=
  (∀ k < 8, A.SEC_ATT_NONCE k ∉ as) ∧ (∀ e, A.PE_CODE e ∉ as) ∧
    ∀ a ∈ [A.SYS_ID, A.SEC_LCS_STAT, A.SAF_CFG_CRC, A.EVR_NEXT, A.SEC_MINVER], a ∉ as

/-- A quote tells what it is not made to change: registers, time and digests. -/
theorem Dev.quote_congr {s d : Dev} {as : List Nat} (h : s.RegsKept d as) (has : NotQuoteRegs as) (ht : d.time = s.time)
    (hfw : d.sysfw = s.sysfw) (hpol : d.policyImg = s.policyImg) (hhalf : d.halfDigest = s.halfDigest) (i : Nat) :
    d.quote i = s.quote i := by
  obtain ⟨hnonce, hcode, hfix⟩ := has
  have hnonces : (upto 8).map (fun k => d.reg (A.SEC_ATT_NONCE k)) = (upto 8).map fun k => s.reg (A.SEC_ATT_NONCE k) :=
    List.map_congr_left fun k hk => h _ (hnonce k (List.mem_range.1 hk))
  simp only [Dev.quote, Dev.quoteDigests, Dev.lifecycle, ht, hfw, hpol, hhalf, h.get _ (hcode _), hnonces,
    h.get _ (hfix A.SEC_LCS_STAT (by simp)), h _ (hfix A.SYS_ID (by simp)), h _ (hfix A.SAF_CFG_CRC (by simp)),
    h _ (hfix A.EVR_NEXT (by simp)), h _ (hfix A.SEC_MINVER (by simp))]

theorem Dev.quote_length (s : Dev) (i : Nat) : (s.quote i).length = 100 := by
  simp [Dev.quote, Dev.quoteDigests, digestWords, upto]

theorem sigWords_length (i : Nat) (msg : List Word) : (sigWords i msg).length = 705 := by simp [sigWords, upto]

theorem pageAddr_aligned {page a : Nat} (h : pageAddr page = some a) : a % 16 = 0 := by
  rw [pageAddr] at h
  split at h
  · have := Option.some.inj h
    omega
  · cases h

/-- The registers of the security block that a quote writes. -/
def quoteRegs : List Nat := [A.SEC_ATT_STAT, A.SEC_ATT_CTL, A.SEC_IDX_BLK, A.SEC_ID_STAT]

theorem notQuoteRegs : NotQuoteRegs quoteRegs := by
  refine ⟨fun k _ => ?_, fun e => ?_, by decide⟩ <;>
  · simp only [A.SEC_ATT_NONCE, A.PE_CODE, quoteRegs, A.SEC_ATT_STAT, A.SEC_ATT_CTL, A.SEC_IDX_BLK, A.SEC_ID_STAT, List.mem_cons,
      List.not_mem_nil, or_false]
    omega

/-- A quote stands in its page. -/
def Dev.quoted (s : Dev) (a i : Nat) : Dev :=
  ((s.putSpan (lineOf a) (s.quote i ++ sigWords i (s.quote i))).set A.SEC_ATT_STAT F.SEC_ATT_STAT_STATE 2).set
    A.SEC_ATT_STAT F.SEC_ATT_STAT_CAUSE 0

section
variable (s : Dev) {a : Nat} (ha : a % 16 = 0) (i : Nat)
include ha

/-- The page holds the quote and its signature, and nothing else in memory changes. -/
theorem Dev.quoted_page : (s.quoted a i).words a 100 = s.quote i ∧ (s.quoted a i).words (a + 400) 705 = sigWords i (s.quote i) ∧
    s.BytesKept (s.quoted a i) a 4096 := by
  have hline : lineOf a * 16 = a := by
    simp only [lineOf]
    omega
  have hq := s.quote_length i
  have hsig := sigWords_length i (s.quote i)
  have hquote := s.words_putSpan (lineOf a) (s.quote i ++ sigWords i (s.quote i)) (k := 0) (n := 100) (by simp [hq])
  have hsigs := s.words_putSpan (lineOf a) (s.quote i ++ sigWords i (s.quote i)) (k := 100) (n := 705) (by simp [hq, hsig])
  have hkept := (s.putSpan_memOnly (lineOf a) (s.quote i ++ sigWords i (s.quote i)) (n := 4096) (by simp [hq, hsig])).2
  rw [hline] at hquote hsigs hkept
  refine ⟨hquote.trans ?_, hsigs.trans ?_, hkept⟩
  · rw [List.drop_zero, List.take_left' hq]
  · rw [List.drop_left' hq, List.take_of_length_le hsig.le]

end

theorem Dev.quoted_frame (s : Dev) (a i : Nat) :
    s.RegsKept (s.quoted a i) [A.SEC_ATT_STAT] ∧
      s.quoted a i = { s with regs := (s.quoted a i).regs, mem := (s.quoted a i).mem, pool := (s.quoted a i).pool } := by
  have hspan := s.putSpan_memOnly (lineOf a) (s.quote i ++ sigWords i (s.quote i)) (Nat.le_refl _)
  have hkept : s.RegsKept (s.putSpan (lineOf a) (s.quote i ++ sigWords i (s.quote i))) [A.SEC_ATT_STAT] := fun b _ => hspan.reg b
  refine ⟨(hkept.set _ _ (by simp)).set _ _ (by simp), ?_⟩
  obtain ⟨⟨m, p, hframe⟩, -⟩ := hspan
  simp only [Dev.quoted, hframe]
  rfl

theorem Dev.quoted_stat (s : Dev) (a i : Nat) :
    (s.quoted a i).get A.SEC_ATT_STAT F.SEC_ATT_STAT_STATE = 2 ∧ (s.quoted a i).get A.SEC_ATT_STAT F.SEC_ATT_STAT_CAUSE = 0 :=
  ⟨(Dev.get_set_field _ _ _ _ _ rfl rfl (.inl (by decide))).trans (Dev.get_set_same _ _ _ _ rfl (by decide)),
    Dev.get_set_same _ _ _ _ rfl (by decide)⟩

/-- The quote of a device `y` that differs from `s` in what the choice of an index writes. -/
theorem Dev.quoted_answered {s y z : Dev} {a i : Nat} (ha : a % 16 = 0) (hy : s.RegsKept y quoteRegs)
    (hframe : y = { s with regs := y.regs, sec := { s.sec with next := y.sec.next, limit := y.sec.limit } })
    (hz : y.quoted a i = z) :
    let d := z.answer .ok 0
    d.get A.SEC_ATT_STAT F.SEC_ATT_STAT_STATE = 2 ∧ d.get A.SEC_ATT_STAT F.SEC_ATT_STAT_CAUSE = 0 ∧
      d.sec.next = y.sec.next ∧ d.bus = ⟨.ok, 0⟩ ∧ d.words a 100 = s.quote i ∧
      d.words (a + 400) 705 = sigWords i (s.quote i) ∧ s.BytesKept d a 4096 ∧
      d = { s with regs := d.regs, bus := d.bus, mem := d.mem, pool := d.pool, sec := { s.sec with next := d.sec.next, limit := d.sec.limit } } ∧
      s.RegsKept d quoteRegs := by
  have hquote : y.quote i = s.quote i := by
    refine Dev.quote_congr hy notQuoteRegs ?_ ?_ ?_ ?_ i <;> rw [hframe]
  have hmem : y.mem = s.mem := by rw [hframe]
  obtain ⟨hstate, hcause⟩ := y.quoted_stat a i
  obtain ⟨hpage, hsig, hbytes⟩ := y.quoted_page ha i
  obtain ⟨hkept, hd⟩ := y.quoted_frame a i
  rw [hquote, hz] at hpage hsig
  rw [hz] at hstate hcause hbytes hkept hd
  refine ⟨hstate, hcause, ?_, rfl, hpage, hsig, Dev.BytesKept.of_mem hbytes hmem, ?_, hy.trans (hkept.mono (by simp [quoteRegs]))⟩
  · have hsec : z.sec = y.sec := by rw [hd]
    exact congrArg Sec.next hsec
  · rw [hd, hframe]
    rfl

/-- A quote signed with the index that the choice gives: what it leaves of the device that asks for it. -/
theorem Dev.attested {s : Dev} {page i : Nat} (hi : (s.attAsked page).idSign.2 = some i) :
    let y := (s.attAsked page).idSign.1
    i = s.sec.next ∧ y.sec.next = i + 1 ∧ s.RegsKept y quoteRegs ∧
      y = { s with regs := y.regs, sec := { s.sec with next := y.sec.next, limit := y.sec.limit } } := by
  obtain ⟨hnext, hnext', hsign, hframe⟩ := Dev.idSign_some hi
  have hasked : s.RegsKept (s.attAsked page) quoteRegs := (Dev.RegsKept.refl s _).set _ _ (by simp [quoteRegs])
  refine ⟨hnext, hnext', hasked.trans (hsign.mono (by simp [quoteRegs])), ?_⟩
  generalize (s.attAsked page).idSign.1 = y at hframe
  rw [hframe]
  rfl

/-! ## The life cycle (R444) -/

/-- The registers that a request of a transition writes. -/
def lcsRegs : List Nat := [A.SEC_LCS_CTL, A.SEC_LCS_STAT]

section
variable {s t : Dev} (h : s.RegsAt t [A.SEC_LCS_CTL])
include h

/-- A result of a request: the state stands, and RES tells the result. -/
theorem Dev.RegsAt.lcsRes {r : Nat} (hr : r < 8) :
    s.RegsAt (t.lcsRes r) lcsRegs ∧ (t.lcsRes r).lifecycle = s.lifecycle ∧
      (t.lcsRes r).get A.SEC_LCS_STAT F.SEC_LCS_STAT_RES = r :=
  ⟨(h.mono (by simp [lcsRegs])).set _ _ (by simp [lcsRegs]),
    (Dev.get_set_field _ _ _ _ _ rfl rfl (.inl (by decide))).trans (h.lifecycle (by decide)),
    Dev.get_set_same _ _ _ _ rfl hr⟩

end

section
variable {s : Dev} {t page : Nat}

theorem Dev.lcsRequest_denied (h : s.lcsAllowed t = false) : s.lcsRequest t page = s.lcsRes 3 := if_pos (by simp [h])

section
variable (h : s.lcsAllowed t = true)
include h

/-- The first transition asks for an enrolled key, and for no token. -/
theorem Dev.lcsRequest_first (hfirst : s.lifecycle = lcBlank ∧ t = lcProvisioned) :
    s.lcsRequest t page =
      if (upto 4).any s.enrolled then (s.onSec fun x => { x with target := some t }).wipeStart else s.lcsRes 4 := by
  obtain ⟨hlc, rfl⟩ := hfirst
  simp only [Dev.lcsRequest, h, hlc, Bool.not_true, Bool.false_eq_true, if_false, decide_true, Bool.and_self, if_true]

/-- Any other asks for a token. -/
theorem Dev.lcsRequest_token (hfirst : ¬(s.lifecycle = lcBlank ∧ t = lcProvisioned)) :
    s.lcsRequest t page =
      if s.tokenOk t page then (s.onSec fun x => { x with target := some t }).wipeStart
      else (s.lcsRes 2).offer 0x4C 0x12 .imageRefused := by
  have hno : (decide (s.lifecycle = lcBlank) && decide (t = lcProvisioned)) = false := by
    rw [← Bool.decide_and]
    exact decide_eq_false hfirst
  simp only [Dev.lcsRequest, h, hno, Bool.not_true, Bool.false_eq_true, if_false]

end

theorem Dev.wipeStart_none (h : s.sec.wipe = none) :
    s.wipeStart = s.onSec fun x => { x with wipe := some (s.ticks + 1250) } := if_neg (by simp [h])

theorem Dev.wipeStart_sec (s : Dev) : s.wipeStart = { s with sec := { s.sec with wipe := some (s.sec.wipe.getD (s.ticks + 1250)) } } := by
  unfold Dev.wipeStart
  cases h : s.sec.wipe with
  | none => rfl
  | some t =>
    simp only [Option.isSome_some, if_true, Option.getD_some]
    rw [← h]

end

/-- LCS_TRANSITION acts on the device that holds its request. -/
theorem Does.lcsTransition {s : State} {req : Fin 15} {t : Fin 8} {page : BitVec 14} {P : Dev → Prop} (hon : s.dev.on = true)
    (hw : s.dev.sec.wipe = none) (h : P (((s.dev.lcsAsked t page.toNat).lcsRequest t page.toNat).answer .ok 0)) :
    Does (.lcsTransition req t page) s P := by
  refine Does.sec (f := (·.lcsCtl (BitVec.ofNat 32 (2 ^ 31 + t.val * 2 ^ 20 + page.toNat)))) rfl hon hw ?_
  rwa [s.dev.lcsCtl_request t.isLt page.isLt]

/-! ## The identity build (R440) -/

section
variable (s : Dev)

/-- The rest of a block is skipped. -/
theorem Dev.idSkip_frame : s.idSkip = { s with regs := s.idSkip.regs, sec := { s.sec with next := 64 * s.blocks, limit := 64 * s.blocks } } := rfl

theorem Dev.idSkip_regsKept : s.RegsKept s.idSkip [A.SEC_ID_STAT] :=
  (Dev.RegsKept.refl s _).set _ _ (List.mem_singleton_self _)

theorem Dev.idState_idSkip : s.idSkip.idState = s.idState := Dev.get_set_field _ _ _ _ _ rfl rfl (.inr (by decide))

theorem Dev.idState_setIdState {v : Nat} (hv : v < 4) : (s.setIdState v).idState = v := Dev.get_set_same _ _ _ _ rfl hv

theorem Dev.blocks_setIdState (v : Nat) : (s.setIdState v).blocks = s.blocks := Dev.get_set_reg _ _ _ _ (by decide)

/-- A state of the identity key taken, and the rest of its block skipped. -/
theorem Dev.idStateTaken {v : Nat} (hv : v < 4) :
    let d := (s.setIdState v).idSkip
    d.idState = v ∧ d = { s with regs := d.regs, sec := { s.sec with next := 64 * s.blocks, limit := 64 * s.blocks } } ∧
      s.RegsKept d [A.SEC_ID_STAT] := by
  refine ⟨(Dev.idState_idSkip _).trans (s.idState_setIdState hv), ?_,
    ((Dev.RegsKept.refl s _).set _ _ (List.mem_singleton_self _)).trans (Dev.idSkip_regsKept _)⟩
  rw [Dev.idSkip_frame, s.blocks_setIdState]
  rfl

end

/-! ## The end of a wipe (R446) -/

/-- The registers that the end of a wipe writes. -/
def wipeRegs : List Nat := [A.SEC_TAMP_STAT, A.SEC_ID_STAT, A.SEC_ATT_STAT]

theorem Dev.get_setReg_other (s : Dev) {a b : Nat} (w : Word) (f : Fld) (h : b ≠ a) : (s.setReg a w).get b f = s.get b f :=
  congrArg f.of (s.reg_setReg_other w h)

theorem Dev.get_onSec (s : Dev) (g : Sec → Sec) (a : Nat) (f : Fld) : (s.onSec g).get a f = s.get a f := rfl

section
variable (s : Dev)

/-- What stands of the store once it is wiped. -/
theorem Dev.wipeOver_does :
    let d := s.wipeOver
    d.sec = { s.sec with wipe := none, next := 64 * s.blocks, limit := 64 * s.blocks } ∧
      d.bit A.SEC_TAMP_STAT F.SEC_TAMP_STAT_WIPED = true ∧ d.saf = { s.saf with hash := none, salt := [], log := [] } ∧
      d.reg A.SEC_ATT_STAT = 0 ∧ d.idState = (if s.fuses.idRoot then idBuilding else idNone) ∧
      (∃ o : Offer, o.src = 0x4C ∧ d.scribe = { s.scribe with offers := s.scribe.offers ++ [o] }) ∧
      d = { s with regs := d.regs, hwSet := d.hwSet, sec := d.sec, saf := d.saf, scribe := d.scribe, free := d.free } ∧
      s.RegsKept d wipeRegs := by
  let y := (((s.onSec fun x => { x with wipe := none }).raise A.SEC_TAMP_STAT F.SEC_TAMP_STAT_WIPED).offer 0x4C 0x12
    .wipeComplete).onSaf fun x => { x with hash := none, salt := [], log := [] }
  have hy : s.RegsKept y wipeRegs := (Dev.RegsKept.refl s _).raise _ (by simp [wipeRegs])
  have hblocks : y.blocks = s.blocks := Dev.get_set_reg _ _ _ _ (by decide)
  obtain ⟨hid, hframe, hkept⟩ := y.idStateTaken (v := if s.fuses.idRoot then idBuilding else idNone) (by split <;> decide)
  obtain ⟨z, hz⟩ : ∃ z, (y.setIdState (if s.fuses.idRoot then idBuilding else idNone)).idSkip = z := ⟨_, rfl⟩
  have hover : s.wipeOver = z.setReg A.SEC_ATT_STAT 0 := hz ▸ rfl
  rw [hz] at hid hframe hkept
  have hbit : z.bit A.SEC_TAMP_STAT F.SEC_TAMP_STAT_WIPED = true :=
    (congrArg (· == 1) (hkept.get _ (by decide))).trans (Dev.bit_raise_same _ _ _ rfl)
  rw [hover]
  refine ⟨?_, (congrArg (· == 1) (Dev.get_setReg_other _ _ _ (by decide))).trans hbit, ?_, Dev.reg_setReg_same ..,
    (Dev.get_setReg_other _ _ _ (by decide)).trans hid, ?_, ?_,
    (hy.trans (hkept.mono (by simp [wipeRegs]))).setReg _ (by simp [wipeRegs])⟩
  · rw [hframe, hblocks]
    rfl
  · rw [hframe]
    rfl
  · rw [hframe]
    exact ⟨_, rfl, rfl⟩
  · rw [hframe]
    rfl

end

/-! ## The state fuses (R444) -/

/-- `d` differs from `s` in the registers that the state fuses show in, in fuses and in what an offer writes. -/
structure Dev.FuseOnly (s d : Dev) : Prop where
  frame : d = { s with regs := d.regs, hwSet := d.hwSet, fuses := d.fuses, scribe := d.scribe, free := d.free }
  regs : s.RegsKept d [A.SEC_LCS_STAT, A.SEC_TAMP_CFG]

theorem Dev.FuseOnly.refl (s : Dev) : s.FuseOnly s := ⟨rfl, .refl s _⟩

theorem Dev.FuseOnly.trans {s t d : Dev} (h : s.FuseOnly t) (k : t.FuseOnly d) : s.FuseOnly d :=
  ⟨by rw [k.frame, h.frame], h.regs.trans k.regs⟩

section
variable (s : Dev) (k : Nat)

/-- The state and the count of transitions. -/
def Dev.stateFused : Dev :=
  (s.set A.SEC_LCS_STAT F.SEC_LCS_STAT_STATE k).count A.SEC_LCS_STAT F.SEC_LCS_STAT_TCOUNT 1

/-- A transition to SERVICE uses one of those left. -/
def Dev.serviceUsed : Dev :=
  if k = lcService then s.set A.SEC_LCS_STAT F.SEC_LCS_STAT_SVCLEFT (s.get A.SEC_LCS_STAT F.SEC_LCS_STAT_SVCLEFT - 1) else s

/-- A transition to OPERATIONAL locks the tamper configuration. -/
def Dev.tamperLocked : Dev := if k = lcOperational then s.raise A.SEC_TAMP_CFG F.SEC_TAMP_CFG_LOCK else s

/-- The identity root stands from the first transition on until RETIRED. -/
def Dev.rootFused (start : Nat) : Dev :=
  if k = lcRetired then { s with fuses := { s.fuses with idRoot := false } }
  else if start = lcBlank then { s with fuses := { s.fuses with idRoot := true } } else s

theorem Dev.lcsFuse_eq : s.lcsFuse k =
    (((((s.stateFused k).serviceUsed k).tamperLocked k).rootFused k s.lifecycle).lcsRes 1).offer 0x4C 0x12 .lcsDone := rfl

theorem Dev.stateFused_fuseOnly : s.FuseOnly (s.stateFused k) :=
  ⟨rfl, ((Dev.RegsKept.refl s _).set _ _ (by simp)).set _ _ (by simp)⟩

theorem Dev.serviceUsed_fuseOnly : s.FuseOnly (s.serviceUsed k) := by
  unfold Dev.serviceUsed
  split
  · exact ⟨rfl, (Dev.RegsKept.refl s _).set _ _ (by simp)⟩
  · exact .refl s

theorem Dev.tamperLocked_fuseOnly : s.FuseOnly (s.tamperLocked k) := by
  unfold Dev.tamperLocked
  split
  · exact ⟨rfl, (Dev.RegsKept.refl s _).raise _ (by simp)⟩
  · exact .refl s

theorem Dev.rootFused_fuseOnly (start : Nat) : s.FuseOnly (s.rootFused k start) := by
  unfold Dev.rootFused
  split
  · exact ⟨rfl, fun _ _ => rfl⟩
  · split
    · exact ⟨rfl, fun _ _ => rfl⟩
    · exact .refl s

theorem Dev.get_rootFused (start a : Nat) (f : Fld) : (s.rootFused k start).get a f = s.get a f := by
  unfold Dev.rootFused
  split
  · rfl
  · split <;> rfl

theorem Dev.lcsFuse_fuseOnly : s.FuseOnly (s.lcsFuse k) := by
  have hservice := (s.stateFused_fuseOnly k).trans (Dev.serviceUsed_fuseOnly _ k)
  have hroot := (hservice.trans (Dev.tamperLocked_fuseOnly _ k)).trans (Dev.rootFused_fuseOnly _ k s.lifecycle)
  exact hroot.trans ⟨rfl, (Dev.RegsKept.refl _ _).set _ _ (by simp)⟩

/-- A field of SEC_LCS_STAT apart from SVCLEFT and RES is as the state fuses left it. -/
theorem Dev.get_lcsFuse {f : Fld} (hf : f.ok = true)
    (hsvc : f.hi < F.SEC_LCS_STAT_SVCLEFT.lo ∨ F.SEC_LCS_STAT_SVCLEFT.hi < f.lo)
    (hres : f.hi < F.SEC_LCS_STAT_RES.lo ∨ F.SEC_LCS_STAT_RES.hi < f.lo) :
    (s.lcsFuse k).get A.SEC_LCS_STAT f = (s.stateFused k).get A.SEC_LCS_STAT f := by
  have hservice (t : Dev) : (t.serviceUsed k).get A.SEC_LCS_STAT f = t.get A.SEC_LCS_STAT f := by
    unfold Dev.serviceUsed
    split
    · exact t.get_set_field _ _ _ _ rfl hf hsvc
    · rfl
  have htamper (t : Dev) : (t.tamperLocked k).get A.SEC_LCS_STAT f = t.get A.SEC_LCS_STAT f := by
    unfold Dev.tamperLocked
    split
    · exact t.get_set_reg _ _ _ (by decide)
    · rfl
  rw [s.lcsFuse_eq k, Dev.get_offer, Dev.lcsRes, Dev.get_set_field _ _ _ _ _ rfl hf hres, Dev.get_rootFused, htamper, hservice]

/-- A transition to OPERATIONAL leaves the tamper configuration locked. -/
theorem Dev.lock_lcsFuse : (s.lcsFuse lcOperational).bit A.SEC_TAMP_CFG F.SEC_TAMP_CFG_LOCK = true := by
  rw [s.lcsFuse_eq, Dev.bit, Dev.get_offer, Dev.lcsRes, Dev.get_set_reg _ _ _ _ (by decide), Dev.get_rootFused,
    Dev.tamperLocked, if_pos rfl, Dev.get_raise_same _ _ _ rfl]
  rfl

/-- What the state fuses show. -/
theorem Dev.lcsFuse_does (hk : k ≤ 4) :
    let d := s.lcsFuse k
    d.lifecycle = k ∧ d.get A.SEC_LCS_STAT F.SEC_LCS_STAT_RES = 1 ∧
      d.get A.SEC_LCS_STAT F.SEC_LCS_STAT_TCOUNT = min (s.get A.SEC_LCS_STAT F.SEC_LCS_STAT_TCOUNT + 1) 65535 ∧
      (k = lcOperational → d.bit A.SEC_TAMP_CFG F.SEC_TAMP_CFG_LOCK = true) ∧ (k = lcRetired → d.fuses.idRoot = false) := by
  have hstate : (s.set A.SEC_LCS_STAT F.SEC_LCS_STAT_STATE k).get A.SEC_LCS_STAT F.SEC_LCS_STAT_STATE = k :=
    s.get_set_same _ _ _ rfl (show k < 8 by omega)
  have hcount : (s.stateFused k).get A.SEC_LCS_STAT F.SEC_LCS_STAT_TCOUNT =
      min (s.get A.SEC_LCS_STAT F.SEC_LCS_STAT_TCOUNT + 1) 65535 := by
    rw [Dev.stateFused, Dev.get_count_same _ _ _ _ rfl, Dev.get_set_field _ _ _ _ _ rfl rfl (.inr (by decide))]
    rfl
  refine ⟨?_, Dev.get_set_same _ _ _ _ rfl (by decide), ?_, fun h => h ▸ s.lock_lcsFuse, ?_⟩
  · refine (s.get_lcsFuse k rfl (.inl (by decide)) (.inl (by decide))).trans ?_
    exact (Dev.get_set_field _ _ _ _ _ rfl rfl (.inl (by decide))).trans hstate
  · exact (s.get_lcsFuse k (f := F.SEC_LCS_STAT_TCOUNT) rfl (.inr (by decide)) (.inr (by decide))).trans hcount
  · rintro rfl
    rfl

end

/-! ## The save that a reset begins (R451, R454) -/

/-- `d` differs from `s` in engine states and the registers of the veneer units. -/
structure Dev.VnrOnly (s d : Dev) : Prop where
  frame : d = { s with regs := d.regs, engs := d.engs }
  regs : s.RegsKept d ((upto 8).map A.PE_VNR_STAT)

theorem Dev.vnrWithdraw_vnrOnly {s d : Dev} (h : s.VnrOnly d) {e : Nat} (he : e ∈ upto 8) : s.VnrOnly (d.vnrWithdraw e) := by
  have hmem : A.PE_VNR_STAT e ∈ (upto 8).map A.PE_VNR_STAT := List.mem_map_of_mem he
  unfold Dev.vnrWithdraw
  split
  · split
    · exact h
    · have hkept : s.RegsKept (d.setEng e { d.eng e with vnr := none }) ((upto 8).map A.PE_VNR_STAT) := h.regs
      refine ⟨?_, (hkept.set _ _ hmem).set _ _ hmem⟩
      rw [h.frame]
      rfl
  · exact h

theorem Dev.vnrsWithdrawn_vnrOnly (s : Dev) : s.VnrOnly (s.each 8 Dev.vnrWithdraw) :=
  foldl_keeps s.VnrOnly _ _ s (fun _ _ he hd => Dev.vnrWithdraw_vnrOnly hd he) ⟨rfl, .refl s _⟩

/-- The device at the start of a save, with its requests of the veneer units still standing. -/
def Dev.saveBegun (s : Dev) (kind : Nat) (full : Bool) : Dev :=
  { s with power := { s.power with
             phase := .saving, kind := kind, full := full && s.phase == .run, tp := s.ticks,
             charged := s.bit A.SYS_PWR_STAT F.SYS_PWR_STAT_HUPRDY,
             next := ⟨s.ts, s.cal.sec, s.bit A.AON_CAL_STAT F.AON_CAL_STAT_VALID, (upto 48).filter (fun b => s.owner b != 0)⟩,
             pfDone := false, joined := false },
           halted := true, duo := { s.duo with stored := s.duoRole } }

/-- A save keeps the security block and the safety island, and its kind and scope are told. -/
theorem Dev.beginSave_does (s : Dev) (kind : Nat) (full : Bool) :
    let d := s.beginSave kind full
    s.RegsKept d ((upto 8).map A.PE_VNR_STAT) ∧ d.sec = s.sec ∧ d.saf = s.saf ∧ d.fuses = s.fuses ∧ d.phase = .saving ∧
      d.power.kind = kind ∧ d.power.full = (full && s.phase == .run) ∧ d.halted = true := by
  obtain ⟨hframe, hregs⟩ := (s.saveBegun kind full).vnrsWithdrawn_vnrOnly
  obtain ⟨y, hy⟩ : ∃ y, (s.saveBegun kind full).each 8 Dev.vnrWithdraw = y := ⟨_, rfl⟩
  have hd : s.beginSave kind full = (((y.recMark false false true).scribeMark false false true).onRec
      fun r => { r with halted := true }).onScribe fun c => { c with halted := true } := by
    rw [← hy]
    rfl
  rw [hy] at hframe hregs
  rw [hd, hframe]
  exact ⟨hregs, rfl, rfl, rfl, rfl, rfl, rfl, rfl⟩

/-! ## Trips (R445) -/

section
variable (s : Dev) {src : Nat}

theorem Dev.tamper_blind (h : s.feedPresent = false ∨ (src = 0 ∧ s.bit A.SEC_TAMP_CFG F.SEC_TAMP_CFG_LIDEN = false)) :
    s.tamper src = s := if_pos (by simpa using h)

/-- The flag of a source. -/
def tamperFlag (src : Nat) : Fld :=
  if src = 0 then F.SEC_TAMP_STAT_LID else if src = 1 then F.SEC_TAMP_STAT_GLITCH else F.SEC_TAMP_STAT_TEMP

theorem tamperFlag_ok (src : Nat) : (tamperFlag src).ok = true := by
  unfold tamperFlag
  split
  · rfl
  · split <;> rfl

/-- A trip raises the flag of its source, drops a transition that waits and wipes the store, with a record. -/
theorem Dev.tamper_trips (h : ¬(s.feedPresent = false ∨ (src = 0 ∧ s.bit A.SEC_TAMP_CFG F.SEC_TAMP_CFG_LIDEN = false))) :
    s.tamper src = { s.raise A.SEC_TAMP_STAT (tamperFlag src) with
      sec := { s.sec with target := none, wipe := some (s.sec.wipe.getD (s.ticks + 1250)) } }.offer 0x4C 0x12 .tamper := by
  have hraise : (if src = 0 then s.raise A.SEC_TAMP_STAT F.SEC_TAMP_STAT_LID
      else if src = 1 then s.raise A.SEC_TAMP_STAT F.SEC_TAMP_STAT_GLITCH else s.raise A.SEC_TAMP_STAT F.SEC_TAMP_STAT_TEMP) =
      s.raise A.SEC_TAMP_STAT (tamperFlag src) := by
    unfold tamperFlag
    split
    · rfl
    · split <;> rfl
  refine (if_neg (by simpa using h)).trans ?_
  simp only [hraise, Dev.wipeStart_sec]
  rfl

end

/-! ## Wipes that end -/

/-- The device whose transition has been programmed. -/
def Dev.transitioned (s : Dev) (k : Nat) : Dev := (s.wipeOver.onSec fun x => { x with target := none }).lcsFuse k

section
variable {s : Dev}

theorem Dev.storeWipeDone_none (h : s.sec.wipe = none) : s.storeWipeDone = s := by simp only [Dev.storeWipeDone, h]

section
variable {t : Nat} (h : s.sec.wipe = some t)
include h

theorem Dev.storeWipeDone_early (ht : s.ticks < t) : s.storeWipeDone = s := by
  simp only [Dev.storeWipeDone, h, if_neg (Nat.not_le.2 ht)]

section
variable (ht : t ≤ s.ticks)
include ht

theorem Dev.storeWipeDone_alone (htgt : s.sec.target = none) : s.storeWipeDone = s.wipeOver := by
  have hover : s.wipeOver.sec.target = none := by rw [s.wipeOver_does.1]; exact htgt
  simp only [Dev.storeWipeDone, h, if_pos ht, hover]

theorem Dev.storeWipeDone_transition {k : Nat} (htgt : s.sec.target = some k) :
    s.storeWipeDone = if (s.transitioned k).resettable then (s.transitioned k).beginSave rkCold false else s.transitioned k := by
  have hover : s.wipeOver.sec.target = some k := by rw [s.wipeOver_does.1]; exact htgt
  simp only [Dev.storeWipeDone, h, if_pos ht, hover]
  rfl

end

end

end

/-- What a programmed transition leaves of a wiped store. -/
theorem Dev.transitioned_does (s : Dev) (k : Nat) :
    let d := s.transitioned k
    d.sec = { s.sec with wipe := none, target := none, next := 64 * s.blocks, limit := 64 * s.blocks } ∧
      d.saf = { s.saf with hash := none, salt := [], log := [] } ∧ d.power = s.power ∧
      d.bit A.SEC_TAMP_STAT F.SEC_TAMP_STAT_WIPED = true ∧ d.reg A.SEC_ATT_STAT = 0 := by
  obtain ⟨hsec, hwiped, hsaf, hatt, -, -, hframe, hkept⟩ := s.wipeOver_does
  obtain ⟨y, hy⟩ : ∃ y, s.wipeOver = y := ⟨_, rfl⟩
  obtain ⟨hfuse, hregs⟩ := (y.onSec fun x => { x with target := none }).lcsFuse_fuseOnly k
  rw [Dev.transitioned, hy]
  rw [hy] at hsec hwiped hsaf hatt hframe
  refine ⟨?_, ?_, ?_, (congrArg (· == 1) (hregs.get _ (by decide))).trans hwiped, (hregs _ (by decide)).trans hatt⟩
  · rw [hfuse]
    exact congrArg (fun x : Sec => { x with target := none }) hsec
  · rw [hfuse]
    exact hsaf
  · rw [hfuse, hframe]
    rfl

/-! ## The operations, on the device that holds the request -/

section
variable (s : Dev) {k page : Nat}

/-- The request of a key operation leaves what decides it. -/
theorem Dev.keyAsked_reads (op : Nat) : (s.keyAsked op k page).lifecycle = s.lifecycle ∧
    (∀ j, (s.keyAsked op k page).enrolled j = s.enrolled j) ∧ (∀ j, (s.keyAsked op k page).liveWithout j = s.liveWithout j) ∧
    (∀ n, (s.keyAsked op k page).keyop page k n = s.keyop page k n) :=
  have h := s.keyAsked_regsAt op k page
  ⟨h.lifecycle (by decide), h.enrolled notKeyRegs_keyCtl, h.liveWithout notKeyRegs_keyCtl, h.keyop notKeyRegs_keyCtl page k⟩

/-- The request of a transition leaves what decides it. -/
theorem Dev.lcsAsked_reads (t : Nat) : (s.lcsAsked t page).lifecycle = s.lifecycle ∧
    (s.lcsAsked t page).lcsAllowed t = s.lcsAllowed t ∧ (s.lcsAsked t page).tokenOk t page = s.tokenOk t page ∧
    (s.lcsAsked t page).enrolled = s.enrolled :=
  have h := s.lcsAsked_regsAt t page
  ⟨h.lifecycle (by decide), h.lcsAllowed (by decide) t, h.tokenOk notKeyRegs_lcsCtl (by decide) t page,
    funext (h.enrolled notKeyRegs_lcsCtl)⟩

end

/-- ATTEST acts on the device that holds its request. -/
theorem Does.attest {s : State} {req : Fin 15} {page : BitVec 14} {P : Dev → Prop} (hon : s.dev.on = true)
    (hw : s.dev.sec.wipe = none) (h : P (((s.dev.attAsked page.toNat).attest page.toNat).answer .ok 0)) :
    Does (.attest req page) s P := by
  refine Does.sec (f := (·.attCtl (BitVec.ofNat 32 (2 ^ 31 + page.toNat)))) rfl hon hw ?_
  rwa [s.dev.attCtl_attest page.isLt]

section
variable {s : Dev} {page a : Nat} (ha : pageAddr page = some a)

theorem Dev.attest_noPage (ha : pageAddr page = none) : s.attest page = attFail s 1 := by simp only [Dev.attest, ha]

include ha

theorem Dev.attest_unowned (ho : s.ownsLive 0x3F (bankOfAddr a) = false) : s.attest page = attFail s 1 := by
  simp only [Dev.attest, ha, ho, Bool.not_false, if_true]

section
variable (ho : s.ownsLive 0x3F (bankOfAddr a) = true)
include ho

theorem Dev.attest_building (hid : s.idState = idBuilding) : s.attest page = attFail s 2 := by
  simp only [Dev.attest, ha, ho, hid, Bool.not_true, Bool.false_eq_true, if_false, if_true]

theorem Dev.attest_notReady (hb : s.idState ≠ idBuilding) (hr : s.idState ≠ idReady) : s.attest page = attFail s 4 := by
  simp only [Dev.attest, ha, ho, hb, bne_iff_ne.2 hr, Bool.not_true, Bool.false_eq_true, if_false, if_true]

section
variable (hr : s.idState = idReady)
include hr

theorem Dev.attest_spent (hsign : s.idSign.2 = none) : s.attest page = attFail s.idSign.1 3 := by
  have hb : ¬ idReady = idBuilding := by decide
  rcases hs : s.idSign with ⟨y, o⟩
  obtain rfl : o = none := by simpa [hs] using hsign
  simp only [Dev.attest, ha, ho, hr, hb, hs, bne_self_eq_false, Bool.not_true, Bool.false_eq_true, if_false]

theorem Dev.attest_signed {i : Nat} (hsign : s.idSign.2 = some i) : s.attest page = s.idSign.1.quoted a i := by
  have hb : ¬ idReady = idBuilding := by decide
  rcases hs : s.idSign with ⟨y, o⟩
  obtain rfl : o = some i := by simpa [hs] using hsign
  simp only [Dev.attest, Dev.quoted, ha, ho, hr, hb, hs, bne_self_eq_false, Bool.not_true, Bool.false_eq_true, if_false]

end

end

end

/-- Without an index to choose the device stands. -/
theorem Dev.idSign_none {s : Dev} (h : s.idSign.2 = none) : s.idSign.1 = s := by
  unfold Dev.idSign at h ⊢
  split
  · rfl
  case isFalse hno =>
    rw [if_neg hno] at h
    split
    case isTrue hlim =>
      rw [if_pos hlim] at h
      split
      · rfl
      case isFalse hblk =>
        rw [if_neg hblk] at h
        cases h
    case isFalse hlim =>
      rw [if_neg hlim] at h
      cases h

/-- The choice of an index reads the identity's state, its blocks and the indexes alone. -/
theorem Dev.idSign_congr {s d : Dev} (hid : d.idState = s.idState) (hblk : d.blocks = s.blocks) (hsec : d.sec = s.sec) :
    d.idSign.2 = s.idSign.2 := by
  simp only [Dev.idSign, hid, hblk, hsec, apply_ite Prod.snd, Dev.set, Dev.setReg_sec]

/-- The request of a quote leaves what decides it. -/
theorem Dev.attAsked_reads (s : Dev) (page : Nat) : (∀ b, (s.attAsked page).ownsLive 0x3F b = s.ownsLive 0x3F b) ∧
    (s.attAsked page).idState = s.idState ∧ (s.attAsked page).idSign.2 = s.idSign.2 := by
  have h : s.RegsKept (s.attAsked page) [A.SEC_ATT_CTL] := (Dev.RegsKept.refl s _).set _ _ (List.mem_singleton_self _)
  have hbank (b : Nat) : A.MEM_BANK_STAT b ∉ [A.SEC_ATT_CTL] := by
    simp only [A.MEM_BANK_STAT, A.SEC_ATT_CTL, List.mem_singleton]
    omega
  have hid : (s.attAsked page).idState = s.idState := h.get _ (by decide)
  exact ⟨Dev.RegsKept.ownsLive h hbank 0x3F, hid, Dev.idSign_congr hid (h.get _ (by decide)) rfl⟩

/-- A wipe that a transition begins. -/
theorem Dev.lcsBegins {s t : Dev} (h : s.RegsAt t [A.SEC_LCS_CTL]) (hw : s.sec.wipe = none) (k : Nat) :
    let d := ((t.onSec fun x => { x with target := some k }).wipeStart).answer .ok 0
    (s.RegsKept d lcsRegs ∧ d.lifecycle = s.lifecycle ∧ d.bus = ⟨.ok, 0⟩) ∧
      d = { s with regs := d.regs, bus := d.bus, sec := { s.sec with target := some k, wipe := some (s.ticks + 1250) } } := by
  have hwt : (t.onSec fun x => { x with target := some k }).sec.wipe = none := (congrArg Sec.wipe h.1.sec).trans hw
  rw [Dev.wipeStart_none hwt]
  obtain ⟨⟨r, rfl⟩, hkept⟩ := h
  exact ⟨⟨hkept.mono (by simp [lcsRegs]), hkept.get _ (by decide), rfl⟩, rfl⟩

/-- A request of a transition that is refused. -/
theorem Dev.lcsRefused {s t : Dev} (h : s.RegsAt t [A.SEC_LCS_CTL]) {n : Nat} (hn : n < 8) :
    let d := (t.lcsRes n).answer .ok 0
    (s.RegsKept d lcsRegs ∧ d.lifecycle = s.lifecycle ∧ d.bus = ⟨.ok, 0⟩) ∧
      d.get A.SEC_LCS_STAT F.SEC_LCS_STAT_RES = n ∧ d = { s with regs := d.regs, bus := d.bus } := by
  obtain ⟨hat, hlc, hres⟩ := h.lcsRes hn
  obtain ⟨⟨r, hr⟩, hkept⟩ := hat
  rw [hr] at hkept hlc hres ⊢
  exact ⟨⟨hkept, hlc, rfl⟩, hres, rfl⟩

/-- A request of a transition whose token does not serve. -/
theorem Dev.lcsFailed {s t : Dev} (h : s.RegsAt t [A.SEC_LCS_CTL]) :
    let d := ((t.lcsRes 2).offer 0x4C 0x12 .imageRefused).answer .ok 0
    (s.RegsKept d lcsRegs ∧ d.lifecycle = s.lifecycle ∧ d.bus = ⟨.ok, 0⟩) ∧
      (∃ o : Offer, o.src = 0x4C ∧ d.scribe = { s.scribe with offers := s.scribe.offers ++ [o] }) ∧
      d.get A.SEC_LCS_STAT F.SEC_LCS_STAT_RES = 2 ∧
      d = { s with regs := d.regs, bus := d.bus, scribe := d.scribe, free := d.free } := by
  obtain ⟨hat, hlc, hres⟩ := h.lcsRes (r := 2) (by decide)
  obtain ⟨⟨r, hr⟩, hkept⟩ := hat
  rw [hr] at hkept hlc hres ⊢
  exact ⟨⟨hkept, hlc, rfl⟩, ⟨_, rfl, rfl⟩, hres, rfl⟩

/-! ## The end of a wipe, with and without a transition that waited for it -/

section
variable {s : Dev} {t : Nat} (h : s.sec.wipe = some t) (ht : t ≤ s.ticks)
include h ht

/-- The store is empty then, whatever waited. -/
theorem Dev.storeWipeDone_wipes :
    let d := s.storeWipeDone
    d.sec.wipe = none ∧ d.sec.target = none ∧ d.bit A.SEC_TAMP_STAT F.SEC_TAMP_STAT_WIPED = true ∧
      d.saf = { s.saf with hash := none, salt := [], log := [] } ∧ d.sec.next = 64 * s.blocks ∧ d.reg A.SEC_ATT_STAT = 0 := by
  cases hk : s.sec.target with
  | none =>
    obtain ⟨hsec, hwiped, hsaf, hatt, -⟩ := s.wipeOver_does
    rw [Dev.storeWipeDone_alone h ht hk]
    dsimp only
    rw [hsec]
    exact ⟨rfl, hk, hwiped, hsaf, rfl, hatt⟩
  | some k =>
    obtain ⟨hsec, hsaf, -, hwiped, hatt⟩ := s.transitioned_does k
    rw [Dev.storeWipeDone_transition h ht hk]
    dsimp only
    split
    · obtain ⟨hkept, hsec', hsaf', -⟩ := (s.transitioned k).beginSave_does rkCold false
      rw [hsec', hsec]
      exact ⟨rfl, rfl, (congrArg (· == 1) (hkept.get _ (by decide))).trans hwiped, hsaf'.trans hsaf, rfl,
        (hkept _ (by decide)).trans hatt⟩
    · rw [hsec]
      exact ⟨rfl, rfl, hwiped, hsaf, rfl, hatt⟩

/-- A transition that waited is programmed, and resets a device that a reset reaches. -/
theorem Dev.storeWipeDone_programs {k : Nat} (hk : s.sec.target = some k) (hle : k ≤ 4) :
    let d := s.storeWipeDone
    d.lifecycle = k ∧ d.get A.SEC_LCS_STAT F.SEC_LCS_STAT_RES = 1 ∧
      d.get A.SEC_LCS_STAT F.SEC_LCS_STAT_TCOUNT = min (s.get A.SEC_LCS_STAT F.SEC_LCS_STAT_TCOUNT + 1) 65535 ∧
      (k = lcOperational → d.bit A.SEC_TAMP_CFG F.SEC_TAMP_CFG_LOCK = true) ∧ (k = lcRetired → d.fuses.idRoot = false) ∧
      (s.resettable = true → d.phase = .saving ∧ d.power.kind = rkCold ∧ d.power.full = false ∧ d.halted = true) ∧
      (s.resettable = false → d.power = s.power) := by
  obtain ⟨-, -, hpow, -⟩ := s.transitioned_does k
  obtain ⟨-, -, -, -, -, -, -, hover⟩ := s.wipeOver_does
  obtain ⟨hlc, hres, hcnt, hlock, hroot⟩ := (s.wipeOver.onSec fun x => { x with target := none }).lcsFuse_does k hle
  rw [Dev.get_onSec, hover.get _ (by decide)] at hcnt
  have hsame : (s.transitioned k).resettable = s.resettable := by simp only [Dev.resettable, Dev.phase, hpow]
  rw [Dev.storeWipeDone_transition h ht hk, hsame]
  dsimp only
  split
  case isTrue hr =>
    obtain ⟨hkept, -, -, hfuses, hphase, hkind, hfull, hhalt⟩ := (s.transitioned k).beginSave_does rkCold false
    have hstat := hkept A.SEC_LCS_STAT (by decide)
    generalize (s.transitioned k).beginSave rkCold false = d at *
    exact ⟨(congrArg F.SEC_LCS_STAT_STATE.of hstat).trans hlc, (congrArg F.SEC_LCS_STAT_RES.of hstat).trans hres,
      (congrArg F.SEC_LCS_STAT_TCOUNT.of hstat).trans hcnt, fun h => (congrArg (· == 1) (hkept.get _ (by decide))).trans (hlock h), fun h => hfuses ▸ hroot h,
      fun _ => ⟨hphase, hkind, hfull, hhalt⟩, fun h => absurd hr (by simp [h])⟩
  case isFalse hr => exact ⟨hlc, hres, hcnt, hlock, hroot, fun h => absurd h hr, fun _ => hpow⟩

end

/-- Settles O59: a request is its operation on the device that holds it, and the wipe ends as `Dev.wipeOver` says. -/
theorem securityBlock : Obligations.SecurityBlock := by
  intro s
  refine ⟨fun hon req k page t hw => ?gate, fun hon hw req k page => ?keys, fun hon hw req page => ?attest,
    fun hon hw req t page => ?lcs, fun hon => ?wipe, fun src => ?tamper⟩
  case gate =>
    have hgate {c : Instr} {f : Dev → Dev} (he : exec c s = s.go (·.secGate req.val f)) :
        Does c s fun d => d = { s.dev with bus := ⟨if req.val ≤ 1 then .completerAbort else .busError, 0⟩ } :=
      Does.of_go he hon (Dev.secGate_wiping req.val f hw)
    simp only [List.forall_mem_cons, List.not_mem_nil, false_implies, implies_true, and_true]
    exact ⟨hgate rfl, hgate rfl, hgate rfl, hgate rfl⟩
  case keys =>
    have he := s.dev.keyAsked_regsAt 1 k page.toNat
    have hr := s.dev.keyAsked_regsAt 2 k page.toNat
    obtain ⟨helc, heen, -, hekey⟩ := s.dev.keyAsked_reads (k := k) (page := page.toNat) 1
    obtain ⟨hrlc, -, hrlive, hrkey⟩ := s.dev.keyAsked_reads (k := k) (page := page.toNat) 2
    refine ⟨fun h => Does.keyEnrol hon hw ?_, fun hlc hen => ⟨fun hopen => ⟨fun a ha => ⟨fun hs => Does.keyEnrol hon hw ?_,
      fun hs => Does.keyEnrol hon hw ?_⟩, fun ha => Does.keyEnrol hon hw ?_⟩, fun hclosed => ⟨fun ws hws => Does.keyEnrol hon hw ?_,
      fun hno => Does.keyEnrol hon hw ?_⟩⟩, fun h => Does.keyRevoke hon hw ?_,
      fun h => ⟨fun hno => Does.keyRevoke hon hw ?_, fun ws hws => Does.keyRevoke hon hw ?_⟩⟩
    · rw [Dev.keyEnrol_refused (by rwa [helc, heen])]
      exact he.keyRes (by decide)
    · rw [Dev.keyEnrol_bare (by rwa [helc]) (by rwa [heen]) (by rwa [helc]) ha, he.1.spanOk, if_pos hs, he.1.words]
      exact he.fuseKey _
    · rw [Dev.keyEnrol_bare (by rwa [helc]) (by rwa [heen]) (by rwa [helc]) ha, he.1.spanOk, if_neg (by simp [hs])]
      exact he.keyRes (by decide)
    · rw [Dev.keyEnrol_noPage (by rwa [helc]) (by rwa [heen]) (by rwa [helc]) ha]
      exact he.keyRes (by decide)
    · rw [Dev.keyEnrol_keyop (by rwa [helc]) (by rwa [heen]) (by rwa [helc]) ((hekey 18).trans hws)]
      exact he.fuseKey _
    · rw [Dev.keyEnrol_failed (by rwa [helc]) (by rwa [heen]) (by rwa [helc]) ((hekey 18).trans hno)]
      exact he.keyFailed
    · rw [Dev.keyRevoke_refused (by rwa [hrlc, hrlive])]
      exact hr.keyRes (by decide)
    · rw [Dev.keyRevoke_failed (by rwa [hrlc, hrlive]) ((hrkey 1).trans hno)]
      exact hr.keyFailed
    · rw [Dev.keyRevoke_keyop (by rwa [hrlc, hrlive]) ((hrkey 1).trans hws)]
      exact hr.keyRevoked
  case attest =>
    obtain ⟨hown, hid, hsign⟩ := s.dev.attAsked_reads page.toNat
    refine ⟨fun ha => Does.attest hon hw ?_, fun a ha => ⟨fun ho => Does.attest hon hw ?_, fun ho => ⟨fun hb => Does.attest hon hw ?_,
      fun hb hr => Does.attest hon hw ?_, fun hr hno => Does.attest hon hw ?_, fun i hr hi => Does.attest hon hw ?_⟩⟩⟩
    · rw [Dev.attest_noPage ha]
      exact s.dev.attFail_answered (by decide)
    · rw [Dev.attest_unowned ha ((hown _).trans ho)]
      exact s.dev.attFail_answered (by decide)
    · rw [Dev.attest_building ha ((hown _).trans ho) (hid.trans hb)]
      exact s.dev.attFail_answered (by decide)
    · rw [Dev.attest_notReady ha ((hown _).trans ho) (by rwa [hid]) (by rwa [hid])]
      exact s.dev.attFail_answered (by decide)
    · rw [Dev.attest_spent ha ((hown _).trans ho) (hid.trans hr) (hsign.trans hno), Dev.idSign_none (hsign.trans hno)]
      exact s.dev.attFail_answered (by decide)
    · rw [Dev.attest_signed ha ((hown _).trans ho) (hid.trans hr) (hsign.trans hi)]
      obtain ⟨hnext, hnext', hkept, hframe⟩ := Dev.attested (hsign.trans hi)
      obtain ⟨hstate, hcause, hsec, hbus, hq, hsig, hbytes, hd, hregs⟩ := Dev.quoted_answered (pageAddr_aligned ha) hkept hframe rfl
      exact ⟨hstate, hcause, hnext, hsec.trans hnext', hbus, hq, hsig, hbytes, hd, hregs⟩
  case lcs =>
    have ht := s.dev.lcsAsked_regsAt t page.toNat
    obtain ⟨hlc, hall, htok, hen⟩ := s.dev.lcsAsked_reads (page := page.toNat) t
    refine ⟨fun h => Does.lcsTransition hon hw ?_, fun h => ⟨fun hf => ⟨fun hk => Does.lcsTransition hon hw ?_,
      fun hk => Does.lcsTransition hon hw ?_⟩, fun hf => ⟨fun hk => Does.lcsTransition hon hw ?_,
      fun hk => Does.lcsTransition hon hw ?_⟩⟩⟩
    · rw [Dev.lcsRequest_denied (hall.trans h)]
      exact Dev.lcsRefused ht (by decide)
    · rw [Dev.lcsRequest_first (hall.trans h) (by rwa [hlc]), hen, if_pos hk]
      exact Dev.lcsBegins ht hw t
    · rw [Dev.lcsRequest_first (hall.trans h) (by rwa [hlc]), hen, if_neg (by simp [hk])]
      exact Dev.lcsRefused ht (by decide)
    · rw [Dev.lcsRequest_token (hall.trans h) (by rwa [hlc]), htok, if_pos hk]
      exact Dev.lcsBegins ht hw t
    · rw [Dev.lcsRequest_token (hall.trans h) (by rwa [hlc]), htok, if_neg (by simp [hk])]
      exact Dev.lcsFailed ht
  case wipe =>
    refine ⟨fun ok hb => Does.of_go (f := (·.idBuildDone ok)) rfl hon ?_, fun ok hb => Does.of_go (f := (·.idBuildDone ok)) rfl hon (if_neg hb),
      fun hn => Does.of_go rfl hon (Dev.storeWipeDone_none hn), fun t hs => ⟨fun ht => Does.of_go rfl hon (Dev.storeWipeDone_early hs ht),
      fun ht => ⟨Does.of_go rfl hon ?_, fun hn => Does.of_go rfl hon ?_, fun k hk hle => Does.of_go rfl hon ?_⟩⟩⟩
    · have hv : (if ok then idReady else idFailed) < 4 := by split <;> decide
      obtain ⟨hid, hd, hkept⟩ := s.dev.idStateTaken hv
      rw [Dev.idBuildDone, if_pos hb]
      exact ⟨hid, hd, hkept⟩
    · exact Dev.storeWipeDone_wipes hs ht
    · obtain ⟨-, -, -, -, hid, hrec, hframe, hkept⟩ := s.dev.wipeOver_does
      rw [Dev.storeWipeDone_alone hs ht hn]
      exact ⟨hrec, hid, hframe, hkept⟩
    · exact Dev.storeWipeDone_programs hs ht hk hle
  case tamper =>
    refine ⟨fun hb => Does.of_raw (f := (·.tamper src.val)) rfl (s.dev.tamper_blind hb), fun hb => Does.of_raw (f := (·.tamper src.val)) rfl ?_⟩
    rw [s.dev.tamper_trips hb]
    exact ⟨Dev.bit_raise_same _ _ _ (tamperFlag_ok _), ⟨_, rfl, rfl⟩, (Dev.RegsKept.refl s.dev _).raise _ (List.mem_singleton_self _), rfl, rfl⟩

end Sys2Proof.Machine
end

section
/-! The Scribe: limiters, ring, clear and cursors (O52). -/

namespace Sys2Proof.Machine

/-! ## Limiters (R327) -/

section
variable (s : Dev) (l : Nat)

/-- A limiter that stands in the table. -/
theorem Dev.limiter_of_some {s : Dev} {l : Nat} {m : Limiter} (h : tabGet none s.scribe.limiters l = some m) :
    s.limiter l = m := by
  rw [Dev.limiter, h]
  rfl

@[simp] theorem Dev.limiter_setLimiter (m : Limiter) : (s.setLimiter l m).limiter l = m :=
  Dev.limiter_of_some (tabGet_put_same none s.scribe.limiters l (some m))

/-- A limiter with another token, from its next instant on. -/
def Dev.tokenAdded : Dev :=
  s.setLimiter l { s.limiter l with
    tokens := min ((s.limiter l).tokens + 1) (s.get (A.EVR_LIM_CFG l) F.EVR_LIM_CFG_DEPTH)
    base := (s.limiter l).base + s.get (A.EVR_LIM_CFG l) F.EVR_LIM_CFG_REFILL * 250 }

/-- The record of the offers that a limiter suppressed. -/
def Dev.suppressedOffer : Offer :=
  ⟨0x31, 0x0002, false, s.time.ts, [BitVec.ofNat 32 l,
    BitVec.ofNat 32 (s.get (A.EVR_LIM_STAT l) F.EVR_LIM_STAT_COUNT), (s.limiter l).firstTs.setWidth 32,
    ((s.limiter l).firstTs >>> 32).setWidth 32, (s.limiter l).firstCode.setWidth 32]⟩

/-- Before its instant a refill does nothing. -/
theorem Dev.refill_early (h : s.ticks < (s.limiter l).base + s.get (A.EVR_LIM_CFG l) F.EVR_LIM_CFG_REFILL * 250) :
    s.refill l = s := by
  rw [Dev.refill]
  exact if_neg (by omega)

variable (h : (s.limiter l).base + s.get (A.EVR_LIM_CFG l) F.EVR_LIM_CFG_REFILL * 250 ≤ s.ticks)
include h

/-- A due refill of a limiter that suppressed nothing adds the token alone. -/
theorem Dev.refill_due_none (hn : s.get (A.EVR_LIM_STAT l) F.EVR_LIM_STAT_COUNT = 0) : s.refill l = s.tokenAdded l := by
  rw [Dev.refill]
  exact (if_pos h).trans (if_neg (by omega))

/-- A due refill reports and clears what the limiter suppressed. -/
theorem Dev.refill_due_some (hn : 0 < s.get (A.EVR_LIM_STAT l) F.EVR_LIM_STAT_COUNT) :
    s.refill l = ((s.tokenAdded l).onScribe fun c => { c with offers := c.offers ++ [s.suppressedOffer l] }).setReg
      (A.EVR_LIM_STAT l) 0 := by
  rw [Dev.refill]
  exact (if_pos h).trans (if_pos hn)

end

/-- What a limiter keeps of the first offer suppressed does not depend on its configuration. -/
theorem Dev.limiter_first {s d : Dev} (h : d.scribe = s.scribe) (l : Nat) :
    (d.limiter l).firstTs = (s.limiter l).firstTs ∧ (d.limiter l).firstCode = (s.limiter l).firstCode := by
  simp only [Dev.limiter, h]
  cases tabGet none s.scribe.limiters l <;> exact ⟨rfl, rfl⟩

/-- A limiter's configuration as a write of two values other than 0 leaves it. -/
def Dev.limiterSet (s : Dev) (l : Nat) (v : Word) : Dev :=
  (s.set (A.EVR_LIM_CFG l) F.EVR_LIM_CFG_REFILL (F.EVR_LIM_CFG_REFILL.of v)).set (A.EVR_LIM_CFG l) F.EVR_LIM_CFG_DEPTH
    (F.EVR_LIM_CFG_DEPTH.of v)

theorem Dev.limCfgWrite_nonzero (s : Dev) (l : Nat) {v : Word} (hr : F.EVR_LIM_CFG_REFILL.of v ≠ 0)
    (hd : F.EVR_LIM_CFG_DEPTH.of v ≠ 0) :
    s.limCfgWrite l v = (s.limiterSet l v).setLimiter l { (s.limiterSet l v).limiter l with
      tokens := F.EVR_LIM_CFG_DEPTH.of v, base := s.ticks } := by
  have hdepth : (s.limiterSet l v).get (A.EVR_LIM_CFG l) F.EVR_LIM_CFG_DEPTH = F.EVR_LIM_CFG_DEPTH.of v :=
    Dev.get_set_of _ _ _ _ rfl
  rw [Dev.limCfgWrite]
  dsimp only
  rw [if_neg hr, if_neg hd, ← Dev.limiterSet, hdepth]
  rfl

section
variable {s : State} (hon : s.dev.on = true) (l : Fin 511)
include hon

/-- What a due refill leaves (R327). -/
theorem refill_due_does (h : (s.dev.limiter (l.val + 1)).base + s.dev.get (A.EVR_LIM_CFG (l.val + 1)) F.EVR_LIM_CFG_REFILL * 250 ≤ s.dev.ticks) :
    Does (.refill l) s fun d => d = { s.dev with regs := d.regs, scribe := d.scribe } ∧
      d.limiter (l.val + 1) = { s.dev.limiter (l.val + 1) with
        tokens := min ((s.dev.limiter (l.val + 1)).tokens + 1) (s.dev.get (A.EVR_LIM_CFG (l.val + 1)) F.EVR_LIM_CFG_DEPTH)
        base := (s.dev.limiter (l.val + 1)).base + s.dev.get (A.EVR_LIM_CFG (l.val + 1)) F.EVR_LIM_CFG_REFILL * 250 } ∧
      (s.dev.get (A.EVR_LIM_STAT (l.val + 1)) F.EVR_LIM_STAT_COUNT = 0 →
        d.regs = s.dev.regs ∧ d.scribe.offers = s.dev.scribe.offers) ∧
      (0 < s.dev.get (A.EVR_LIM_STAT (l.val + 1)) F.EVR_LIM_STAT_COUNT →
        d.reg (A.EVR_LIM_STAT (l.val + 1)) = 0 ∧ s.dev.RegsKept d [A.EVR_LIM_STAT (l.val + 1)] ∧
        ∃ o : Offer, o.code = 2 ∧ o.payload.take 2 = [BitVec.ofNat 32 (l.val + 1),
            BitVec.ofNat 32 (s.dev.get (A.EVR_LIM_STAT (l.val + 1)) F.EVR_LIM_STAT_COUNT)] ∧
          d.scribe.offers = s.dev.scribe.offers ++ [o]) := by
  refine Does.of_go (f := (·.refill (l.val + 1))) rfl hon ?_
  generalize l.val + 1 = k at h ⊢
  rcases Nat.eq_zero_or_pos (s.dev.get (A.EVR_LIM_STAT k) F.EVR_LIM_STAT_COUNT) with hn | hn
  · rw [s.dev.refill_due_none k h hn]
    exact ⟨rfl, s.dev.limiter_setLimiter k _, fun _ => ⟨rfl, rfl⟩, fun h0 => absurd hn (by omega)⟩
  · rw [s.dev.refill_due_some k h hn]
    refine ⟨rfl, Dev.limiter_of_some (tabGet_put_same none s.dev.scribe.limiters k (some _)), fun h0 => absurd h0 (by omega), fun _ => ⟨Dev.reg_setReg_same _ _ _, ?_,
      s.dev.suppressedOffer k, rfl, rfl, rfl⟩⟩
    exact (Dev.RegsKept.refl s.dev _).setReg (d := s.dev) _ (List.mem_singleton_self _)

/-- What a write of a limiter's configuration leaves (R327). -/
theorem limCfgWrite_does (v : Word) (hr : F.EVR_LIM_CFG_REFILL.of v ≠ 0) (hd : F.EVR_LIM_CFG_DEPTH.of v ≠ 0) :
    Does (.limCfgWrite l v) s fun d => d = { s.dev with regs := d.regs, scribe := d.scribe } ∧
      s.dev.RegsKept d [A.EVR_LIM_CFG (l.val + 1)] ∧
      d.get (A.EVR_LIM_CFG (l.val + 1)) F.EVR_LIM_CFG_REFILL = F.EVR_LIM_CFG_REFILL.of v ∧
      d.get (A.EVR_LIM_CFG (l.val + 1)) F.EVR_LIM_CFG_DEPTH = F.EVR_LIM_CFG_DEPTH.of v ∧
      (d.limiter (l.val + 1)).tokens = F.EVR_LIM_CFG_DEPTH.of v ∧ (d.limiter (l.val + 1)).base = s.dev.ticks ∧
      (d.limiter (l.val + 1)).firstTs = (s.dev.limiter (l.val + 1)).firstTs ∧
      (d.limiter (l.val + 1)).firstCode = (s.dev.limiter (l.val + 1)).firstCode := by
  refine Does.of_go (f := (·.limCfgWrite (l.val + 1) v)) rfl hon ?_
  generalize l.val + 1 = k
  rw [s.dev.limCfgWrite_nonzero k hr hd]
  obtain ⟨hts, hcode⟩ := Dev.limiter_first (s := s.dev) (d := s.dev.limiterSet k v) rfl k
  have hrefill : (s.dev.limiterSet k v).get (A.EVR_LIM_CFG k) F.EVR_LIM_CFG_REFILL = F.EVR_LIM_CFG_REFILL.of v :=
    (Dev.get_set_field _ _ _ _ _ rfl rfl (by decide)).trans (Dev.get_set_of _ _ _ _ rfl)
  refine ⟨rfl, ?_, hrefill, Dev.get_set_of _ _ _ _ rfl, ?_⟩
  · exact ((Dev.RegsKept.refl s.dev _).set _ _ (List.mem_singleton_self _)).set _ _ (List.mem_singleton_self _)
  · simp only [Dev.limiter_setLimiter]
    exact ⟨trivial, trivial, hts, hcode⟩

end

/-! ## What the writer may change -/

/-- `d` differs from `s` in registers, the Scribe and bank memory alone. -/
def Dev.RingOnly (s d : Dev) : Prop := ∃ r c m p, d = { s with regs := r, scribe := c, mem := m, pool := p }

section
variable {s d : Dev} (h : s.RingOnly d)
include h

theorem Dev.RingOnly.eq : d = { s with regs := d.regs, scribe := d.scribe, mem := d.mem, pool := d.pool } := by
  obtain ⟨r, c, m, p, rfl⟩ := h
  rfl

theorem Dev.RingOnly.setReg (a : Nat) (w : Word) : s.RingOnly (d.setReg a w) := by
  obtain ⟨r, c, m, p, rfl⟩ := h
  exact ⟨_, _, _, _, rfl⟩

theorem Dev.RingOnly.onScribe (f : Scribe → Scribe) : s.RingOnly (d.onScribe f) := by
  obtain ⟨r, c, m, p, rfl⟩ := h
  exact ⟨_, _, _, _, rfl⟩

theorem Dev.RingOnly.memOnly {e : Dev} {a n : Nat} (k : d.MemOnly e a n) : s.RingOnly e := by
  obtain ⟨r, c, m, p, rfl⟩ := h
  obtain ⟨⟨m', p', rfl⟩, -⟩ := k
  exact ⟨_, _, _, _, rfl⟩

end

theorem Dev.RingOnly.refl (s : Dev) : s.RingOnly s := ⟨_, _, _, _, rfl⟩

/-! ## A line of the ring (R323) -/

/-- The four words of line `i` of a record, filled up with zeros. -/
def lineWords (ws : List Word) (i : Nat) : List Word := ((ws.drop (4 * i)).take 4 ++ [0, 0, 0, 0]).take 4

theorem lineWords_length (ws : List Word) (i : Nat) : (lineWords ws i).length = 4 := by
  simp [lineWords]

theorem wordLine_four : ∀ {ws : List Word}, ws.length = 4 → wordLine ws 0 = ws.flatMap fun w => leBytes 4 w.toNat
  | [_, _, _, _], _ => rfl

/-- Four words make a span of one line. -/
theorem Dev.putSpan_four (s : Dev) (line : Nat) {ws : List Word} (h : ws.length = 4) :
    s.putSpan line ws = s.putLine line (ws.flatMap fun w => leBytes 4 w.toNat) := by
  rw [← wordLine_four h, Dev.putSpan, h]
  exact s.each_succ 0 _

section
variable (s : Dev) (ws : List Word) (i : Nat)

/-- The line of the pool that takes line `i` of the record being written. -/
def Dev.ringLineAt : Nat := lineOf (s.ringAddr (s.scribe.pos + 16 * i))

theorem Dev.ringLine_eq : s.ringLine ws i = s.putSpan (s.ringLineAt i) (lineWords ws i) :=
  (s.putSpan_four _ (lineWords_length ws i)).symm

theorem Dev.ringLine_memOnly : s.MemOnly (s.ringLine ws i) (s.ringLineAt i * 16) 16 := by
  rw [s.ringLine_eq]
  exact s.putSpan_memOnly _ _ (by rw [lineWords_length])

theorem Dev.words_ringLine : (s.ringLine ws i).words (s.ringLineAt i * 16) 4 = lineWords ws i := by
  rw [s.ringLine_eq]
  have h := s.words_putSpan (s.ringLineAt i) (lineWords ws i) (k := 0) (n := 4) (by rw [lineWords_length])
  rwa [List.drop_zero, List.take_of_length_le (by rw [lineWords_length])] at h

theorem Dev.ringLine_scribe : (s.ringLine ws i).scribe = s.scribe := by
  obtain ⟨⟨m, p, h⟩, -⟩ := s.ringLine_memOnly ws i
  rw [h]

/-- The place of a line depends on the writing position and on EVR_CFG. -/
theorem Dev.ringLineAt_congr {s d : Dev} (hp : d.scribe.pos = s.scribe.pos) (hc : d.reg A.EVR_CFG = s.reg A.EVR_CFG) :
    d.ringLineAt i = s.ringLineAt i := by
  simp only [Dev.ringLineAt, Dev.ringAddr, Dev.get, hp, hc]

/-- The banks of the ring depend on EVR_CFG and the owners. -/
theorem Dev.ringBanksOk_setReg (a : Nat) (w : Word) (hc : A.EVR_CFG ≠ a) (hb : ∀ n, A.MEM_BANK_STAT n ≠ a) :
    (s.setReg a w).ringBanksOk = s.ringBanksOk := by
  simp only [Dev.ringBanksOk, s.get_setReg_other w _ hc, fun n f => s.get_setReg_other w f (hb n)]

end

/-! ## The acceptance of a record (R326, R328, R80) -/

/-- An enabled event task names a code of the Scribe. -/
def Dev.taskNames (s : Dev) (code e t : Nat) : Bool :=
  F.PE_TASK_CTL_EN.of (s.reg (A.PE_TASK_CTL e t)) == 1 && F.PE_TASK_CTL_KIND.of (s.reg (A.PE_TASK_CTL e t)) == 1 &&
    F.PE_TASK_CTL_ECLS.of (s.reg (A.PE_TASK_CTL e t)) == 3 && F.PE_TASK_CTL_EIDX.of (s.reg (A.PE_TASK_CTL e t)) == code

theorem Dev.codeNamed_eq_false (s : Dev) (code : Nat) :
    s.codeNamed code = false ↔ ∀ e < 8, ∀ t < 16, s.taskNames code e t = false := by
  simp only [Dev.codeNamed, List.any_eq_false, upto, List.mem_range, Bool.not_eq_true]
  rfl

/-- A code that no task names makes no task due. -/
theorem Dev.taskEvent_unnamed {s : Dev} {code : Nat} (h : s.codeNamed code = false) : s.taskEvent 3 code = s := by
  refine foldl_keeps (· = s) _ _ s (fun x e he hx => ?_) rfl
  subst hx
  refine foldl_keeps (· = x) _ _ x (fun y t ht hy => ?_) rfl
  subst hy
  have hun := (y.codeNamed_eq_false code).1 h e (List.mem_range.1 he) t (List.mem_range.1 ht)
  refine if_neg fun hc => ?_
  rw [Dev.taskNames] at hun
  rw [hun] at hc
  exact absurd hc (by simp)

/-- A record whose code no task names is accepted in silence. -/
theorem Dev.accepted_unnamed {s : Dev} {code : BitVec 16} (h : s.codeNamed code.toNat = false) : s.accepted code = s := by
  rw [Dev.accepted]
  split
  · rfl
  · rw [h]
    exact Dev.taskEvent_unnamed h

/-- The registers that the writer may change. -/
def ringRegs : List Nat := [A.EVR_OLDEST, A.EVR_NEXT, A.EVR_STAT]

theorem taskCtl_not_ringReg {e t : Nat} (he : e < 8) (ht : t < 16) : A.PE_TASK_CTL e t ∉ ringRegs := by
  simp only [ringRegs, List.mem_cons, List.not_mem_nil, or_false, A.PE_TASK_CTL, A.EVR_OLDEST, A.EVR_NEXT, A.EVR_STAT]
  omega

theorem Dev.RegsKept.codeNamed {s d : Dev} (h : s.RegsKept d ringRegs) {code : Nat} (hc : s.codeNamed code = false) :
    d.codeNamed code = false := by
  rw [Dev.codeNamed_eq_false] at hc ⊢
  intro e he t ht
  rw [Dev.taskNames, h _ (taskCtl_not_ringReg he ht)]
  exact hc e he t ht

theorem Dev.RegsKept.syncedAs {s d : Dev} (h : s.RegsKept d ringRegs) (role : Nat) : d.syncedAs role = s.syncedAs role := by
  rw [Dev.syncedAs, h _ (by decide)]
  rfl

/-- The Scribe with a record that is whole in the ring under its number. -/
def Scribe.withRecord (c : Scribe) (seq : Word) (o : Offer) : Scribe :=
  { c with ring := c.ring ++ [⟨seq, c.pos, recLen o, o.sec⟩]
           pos := (c.pos + 16 * recLines (recLen o)) % 0x100000
           linesDone := 0 }

/-- A record that is whole in the ring, no pair being synced. -/
theorem Dev.ringAccept_alone {s : Dev} (o : Offer) (h : s.syncedAs 1 = false) : s.ringAccept o =
    ((s.onScribe (·.withRecord (s.reg A.EVR_NEXT) o)).setReg A.EVR_NEXT (s.reg A.EVR_NEXT + 1)).setOldest := by
  rw [Dev.ringAccept, Dev.mirror, h]
  rfl

/-! ## The writer (R328) -/

section
variable (s : Dev) (o : Offer) (mirror : Bool)

/-- The ring with room for a further line of the head record. -/
def Dev.roomMade : Dev := (s.onScribe fun c => { c with ring := evict (c.linesDone + 1) c.ring }).setOldest

/-- The ring with a further line of the head record. -/
def Dev.lineWritten : Dev := s.roomMade.ringLine (recWords o mirror (s.reg A.EVR_NEXT)) s.scribe.linesDone

theorem Dev.roomMade_regsKept : s.RegsKept s.roomMade [A.EVR_OLDEST] :=
  (Dev.RegsKept.refl s _).setReg (d := s.onScribe _) _ (List.mem_singleton_self _)

/-- A line that the writer moves stands in memory, and nothing else changes there. -/
theorem Dev.lineWritten_spec : s.RingOnly (s.lineWritten o mirror) ∧ s.RegsKept (s.lineWritten o mirror) [A.EVR_OLDEST] ∧
    (s.lineWritten o mirror).scribe = { s.scribe with ring := evict (s.scribe.linesDone + 1) s.scribe.ring } ∧
    (s.lineWritten o mirror).words (s.ringLineAt s.scribe.linesDone * 16) 4 =
      lineWords (recWords o mirror (s.reg A.EVR_NEXT)) s.scribe.linesDone ∧
    s.BytesKept (s.lineWritten o mirror) (s.ringLineAt s.scribe.linesDone * 16) 16 := by
  have hplace : s.roomMade.ringLineAt s.scribe.linesDone = s.ringLineAt s.scribe.linesDone :=
    Dev.ringLineAt_congr _ rfl (s.roomMade_regsKept _ (by decide))
  have hmem := s.roomMade.ringLine_memOnly (recWords o mirror (s.reg A.EVR_NEXT)) s.scribe.linesDone
  have hwords := s.roomMade.words_ringLine (recWords o mirror (s.reg A.EVR_NEXT)) s.scribe.linesDone
  rw [hplace] at hmem hwords
  exact ⟨(((Dev.RingOnly.refl s).onScribe _).setReg _ _).memOnly hmem, hmem.regsKept s.roomMade_regsKept,
    s.roomMade.ringLine_scribe _ _, hwords, hmem.2.of_mem rfl⟩

variable {s o mirror} {rest : List (Offer × Bool)} (hq : s.scribe.queue = (o, mirror) :: rest)
include hq

/-- A line of the head record that is not its last. -/
theorem Dev.scribeWrite_line (h : s.scribe.linesDone + 1 < recLines (recLen o)) :
    s.scribeWrite = (s.lineWritten o mirror).onScribe fun c => { c with linesDone := s.scribe.linesDone + 1 } := by
  have hnext := s.roomMade_regsKept A.EVR_NEXT (by decide)
  rw [Dev.scribeWrite, Dev.scribeLine, hq]
  dsimp only
  rw [if_pos h]
  dsimp only
  rw [Dev.lineWritten, ← hnext]
  rfl

/-- The last line of the head record. -/
theorem Dev.scribeWrite_last (h : recLines (recLen o) ≤ s.scribe.linesDone + 1) :
    s.scribeWrite = ((((s.lineWritten o mirror).ringAccept o).onScribe fun c => { c with queue := rest }).setQlevel).accepted o.code := by
  have hnext := s.roomMade_regsKept A.EVR_NEXT (by decide)
  rw [Dev.scribeWrite, Dev.scribeLine, hq]
  dsimp only
  rw [if_neg (by omega)]
  dsimp only
  rw [Dev.lineWritten, ← hnext]
  rfl

end

section
variable {s : State} (hon : s.dev.on = true) {o : Offer} {mirror : Bool} {rest : List (Offer × Bool)}
  (hq : s.dev.scribe.queue = (o, mirror) :: rest)
include hon hq

/-- What the writer leaves after a line that is not the last (R328). -/
theorem scribeWrite_line_does (h : s.dev.scribe.linesDone + 1 < recLines (recLen o)) : Does .scribeWrite s fun d =>
    d = { s.dev with regs := d.regs, scribe := d.scribe, mem := d.mem, pool := d.pool } ∧
      d.scribe.linesDone = s.dev.scribe.linesDone + 1 ∧ d.scribe.queue = s.dev.scribe.queue ∧ s.dev.RegsKept d [A.EVR_OLDEST] ∧
      d.words (s.dev.ringLineAt s.dev.scribe.linesDone * 16) 4 =
        lineWords (recWords o mirror (s.dev.reg A.EVR_NEXT)) s.dev.scribe.linesDone ∧
      s.dev.BytesKept d (s.dev.ringLineAt s.dev.scribe.linesDone * 16) 16 := by
  refine Does.of_go (f := Dev.scribeWrite) rfl hon ?_
  rw [Dev.scribeWrite_line hq h]
  obtain ⟨honly, hkept, hscribe, hwords, hbytes⟩ := s.dev.lineWritten_spec o mirror
  exact ⟨(honly.onScribe _).eq, rfl, (congrArg Scribe.queue hscribe :), hkept, hwords, hbytes⟩

/-- What the writer leaves after the last line (R328). -/
theorem scribeWrite_last_does (h : recLines (recLen o) ≤ s.dev.scribe.linesDone + 1) (hsync : s.dev.syncedAs 1 = false)
    (hname : s.dev.codeNamed o.code.toNat = false) : Does .scribeWrite s fun d =>
    d = { s.dev with regs := d.regs, scribe := d.scribe, mem := d.mem, pool := d.pool } ∧
      d.reg A.EVR_NEXT = s.dev.reg A.EVR_NEXT + 1 ∧ d.scribe.queue = rest ∧ d.scribe.linesDone = 0 ∧
      d.scribe.ring.getLast? = some ⟨s.dev.reg A.EVR_NEXT, s.dev.scribe.pos, recLen o, o.sec⟩ ∧
      s.dev.RegsKept d [A.EVR_OLDEST, A.EVR_NEXT, A.EVR_STAT] ∧
      d.words (s.dev.ringLineAt s.dev.scribe.linesDone * 16) 4 =
        lineWords (recWords o mirror (s.dev.reg A.EVR_NEXT)) s.dev.scribe.linesDone ∧
      s.dev.BytesKept d (s.dev.ringLineAt s.dev.scribe.linesDone * 16) 16 := by
  refine Does.of_go (f := Dev.scribeWrite) rfl hon ?_
  rw [Dev.scribeWrite_last hq h]
  obtain ⟨honly, hkept, hscribe, hwords, hbytes⟩ := s.dev.lineWritten_spec o mirror
  generalize s.dev.lineWritten o mirror = y at *
  have hy : s.dev.RegsKept y ringRegs := hkept.mono (by simp [ringRegs])
  have hnext : y.reg A.EVR_NEXT = s.dev.reg A.EVR_NEXT := hkept _ (by decide)
  rw [Dev.ringAccept_alone o ((hy.syncedAs 1).trans hsync)]
  have hz : s.dev.RegsKept ((((y.onScribe (·.withRecord (y.reg A.EVR_NEXT) o)).setReg A.EVR_NEXT
      (y.reg A.EVR_NEXT + 1)).setOldest.onScribe fun c => { c with queue := rest }).setQlevel) ringRegs :=
    ((hy.setReg (d := y) _ (by decide)).setReg _ (by decide)).setReg (a := A.EVR_STAT) _ (by decide)
  rw [Dev.accepted_unnamed (hz.codeNamed hname)]
  refine ⟨(((((honly.onScribe _).setReg _ _).setReg _ _).onScribe _).setReg _ _).eq, ?_, rfl, rfl, ?_, hz, hwords, hbytes⟩
  · exact ((Dev.reg_setReg_other _ _ (by decide)).trans (Dev.reg_setReg_other _ _ (by decide))).trans
      ((Dev.reg_setReg_same _ _ _).trans (by rw [hnext]))
  · refine (List.getLast?_concat ..).trans ?_
    rw [hnext, hscribe]

end

section
variable (s : Dev)

/-! ## The clear (R332) -/

/-- The Scribe with an empty ring. -/
def Dev.ringCleared : Dev := (s.onScribe fun c => { c with ring := [], linesDone := 0 }).setOldest

/-- The CLEARED record of the clear that a requester asks for. -/
def Dev.clearRecord (req : Nat) : Offer := s.ringCleared.clearedOffer (s.reg A.EVR_NEXT - s.reg A.EVR_OLDEST).toNat req

theorem Dev.ringCleared_regsKept : s.RegsKept s.ringCleared [A.EVR_OLDEST] :=
  (Dev.RegsKept.refl s _).setReg (d := s.onScribe _) _ (List.mem_singleton_self _)

theorem Dev.reg_oldest_ringCleared : s.ringCleared.reg A.EVR_OLDEST = s.reg A.EVR_NEXT := Dev.reg_setReg_same _ _ _

theorem Dev.ringBanksOk_ringCleared : s.ringCleared.ringBanksOk = s.ringBanksOk :=
  (s.onScribe _).ringBanksOk_setReg _ _ (by decide) (by intro n; simp only [A.MEM_BANK_STAT, A.EVR_OLDEST]; omega)

theorem Dev.evrClr_refused (req : Nat) (h : s.lifecycle = 2 ∧ s.bit A.EVR_CFG F.EVR_CFG_CLRPERM = false) :
    s.evrClr req = s.raise A.EVR_STAT F.EVR_STAT_CLRREF := by
  obtain ⟨hlife, hperm⟩ := h
  rw [Dev.evrClr, if_pos]
  rw [hperm, Bool.not_false, Bool.and_true, decide_eq_true_eq]
  exact hlife

/-- An empty ring starts with the next number. -/
theorem Dev.ringCleared_spec : s.ringCleared = { s with regs := s.ringCleared.regs, scribe := s.ringCleared.scribe } ∧
    s.ringCleared.scribe.ring = [] ∧ s.ringCleared.reg A.EVR_OLDEST = s.reg A.EVR_NEXT ∧
    s.RegsKept s.ringCleared [A.EVR_OLDEST] :=
  ⟨rfl, rfl, s.reg_oldest_ringCleared, s.ringCleared_regsKept⟩

/-- A clear that is allowed empties the ring, and writes its record if the ring's banks are its own. -/
theorem Dev.evrClr_allowed (req : Nat) (h : ¬(s.lifecycle = 2 ∧ s.bit A.EVR_CFG F.EVR_CFG_CLRPERM = false)) :
    s.evrClr req = if s.ringBanksOk then (s.ringCleared.ringWhole (s.clearRecord req)).accepted 0x0004 else s.ringCleared := by
  rw [Dev.evrClr, if_neg, ← s.ringBanksOk_ringCleared]
  · rfl
  · simpa [Dev.lifecycle] using h

theorem Dev.evrClr_noBanks (req : Nat) (h : ¬(s.lifecycle = 2 ∧ s.bit A.EVR_CFG F.EVR_CFG_CLRPERM = false))
    (hbanks : s.ringBanksOk = false) : s.evrClr req = s.ringCleared := by
  rw [s.evrClr_allowed _ h, hbanks, if_neg Bool.false_ne_true]

/-- The ring with the two lines of the CLEARED record. -/
def Dev.clearLines (req : Nat) : Dev :=
  (s.ringCleared.ringLine (recWords (s.clearRecord req) false (s.reg A.EVR_NEXT)) 0).ringLine
    (recWords (s.clearRecord req) false (s.reg A.EVR_NEXT)) 1

theorem Dev.recLines_clearRecord (req : Nat) : recLines (recLen (s.clearRecord req)) = 2 := by
  simp [Dev.clearRecord, Dev.clearedOffer, recLen, recPayloadWords, recLines]

theorem Dev.ringWhole_cleared (req : Nat) :
    s.ringCleared.ringWhole (s.clearRecord req) = (s.clearLines req).ringAccept (s.clearRecord req) := by
  have hnext := s.ringCleared_regsKept A.EVR_NEXT (by decide)
  rw [Dev.ringWhole, hnext, s.recLines_clearRecord]
  rfl

theorem Dev.clearLines_spec (req : Nat) : s.RingOnly (s.clearLines req) ∧ s.RegsKept (s.clearLines req) [A.EVR_OLDEST] ∧
    (s.clearLines req).scribe = { s.scribe with ring := [], linesDone := 0 } ∧
    ∀ a, a / 16 ≠ s.ringLineAt 0 → a / 16 ≠ s.ringLineAt 1 → (s.clearLines req).byte a = s.byte a := by
  rw [Dev.clearLines]
  generalize recWords (s.clearRecord req) false (s.reg A.EVR_NEXT) = ws
  have hfst := s.ringCleared.ringLine_memOnly ws 0
  have hscribe := s.ringCleared.ringLine_scribe ws 0
  have hplace := Dev.ringLineAt_congr 0 (s := s) (d := s.ringCleared) rfl (s.ringCleared_regsKept _ (by decide))
  generalize s.ringCleared.ringLine ws 0 = y at *
  have hkept := hfst.regsKept s.ringCleared_regsKept
  have hsnd := y.ringLine_memOnly ws 1
  have hplace1 := Dev.ringLineAt_congr 1 (s := s) (d := y) (by rw [hscribe]; rfl) (hkept _ (by decide))
  refine ⟨((((Dev.RingOnly.refl s).onScribe _).setReg _ _).memOnly hfst).memOnly hsnd, hsnd.regsKept hkept,
    (y.ringLine_scribe ws 1).trans hscribe, fun a h0 h1 => ?_⟩
  exact (hsnd.2 a (by omega)).trans (hfst.2.of_mem (s := s) rfl a (by omega))

end

theorem Dev.setOldest_cons {s : Dev} {r : RingRec} {rs : List RingRec} (h : s.scribe.ring = r :: rs) :
    s.setOldest = s.setReg A.EVR_OLDEST r.seq := by
  rw [Dev.setOldest, h]

/-- A ring that was emptied and holds the lines of one record, once that record is accepted. -/
theorem Dev.RingOnly.firstAccepted {s y : Dev} {o : Offer} (honly : s.RingOnly y) (hkept : s.RegsKept y [A.EVR_OLDEST])
    (hscribe : y.scribe = { s.scribe with ring := [], linesDone := 0 }) (hsync : s.syncedAs 1 = false)
    {code : BitVec 16} (hname : s.codeNamed code.toNat = false) :
    s.RingOnly ((y.ringAccept o).accepted code) ∧ ((y.ringAccept o).accepted code).reg A.EVR_NEXT = s.reg A.EVR_NEXT + 1 ∧
      ((y.ringAccept o).accepted code).reg A.EVR_OLDEST = s.reg A.EVR_NEXT ∧
      s.RegsKept ((y.ringAccept o).accepted code) [A.EVR_NEXT, A.EVR_OLDEST] ∧
      ((y.ringAccept o).accepted code).scribe.queue = s.scribe.queue ∧
      ((y.ringAccept o).accepted code).scribe.ring = [⟨s.reg A.EVR_NEXT, s.scribe.pos, recLen o, o.sec⟩] ∧
      ((y.ringAccept o).accepted code).mem = y.mem := by
  have hnext : y.reg A.EVR_NEXT = s.reg A.EVR_NEXT := hkept _ (by decide)
  rw [Dev.ringAccept_alone o (((hkept.mono (by simp [ringRegs])).syncedAs 1).trans hsync), hnext]
  have hring : (y.scribe.withRecord (s.reg A.EVR_NEXT) o).ring = [⟨s.reg A.EVR_NEXT, s.scribe.pos, recLen o, o.sec⟩] := by
    rw [Scribe.withRecord, hscribe]
    rfl
  have hz : s.RegsKept (((y.onScribe (·.withRecord (s.reg A.EVR_NEXT) o)).setReg A.EVR_NEXT
      (s.reg A.EVR_NEXT + 1)).setOldest) [A.EVR_NEXT, A.EVR_OLDEST] :=
    ((hkept.mono (by simp)).setReg (d := y) _ (by simp)).setReg _ (by simp)
  rw [Dev.accepted_unnamed ((hz.mono (by simp [ringRegs])).codeNamed hname)]
  refine ⟨((honly.onScribe _).setReg _ _).setReg _ _, ?_, ?_, hz, (congrArg Scribe.queue hscribe :), hring, rfl⟩
  · exact (Dev.reg_setReg_other _ _ (by decide)).trans (Dev.reg_setReg_same _ _ _)
  · rw [Dev.setOldest_cons (hring :)]
    exact Dev.reg_setReg_same _ _ _

section
variable {s : State} (hon : s.dev.on = true) (req : Fin 15)
include hon

/-- What a clear leaves when the ring's banks are not its own (R332). -/
theorem evrClr_noBanks_does (h : ¬(s.dev.lifecycle = 2 ∧ s.dev.bit A.EVR_CFG F.EVR_CFG_CLRPERM = false))
    (hbanks : s.dev.ringBanksOk = false) : Does (.evrClr req) s fun d => d = { s.dev with regs := d.regs, scribe := d.scribe } ∧
      d.scribe.ring = [] ∧ d.reg A.EVR_OLDEST = s.dev.reg A.EVR_NEXT ∧ s.dev.RegsKept d [A.EVR_OLDEST] := by
  refine Does.of_go (f := (·.evrClr req)) rfl hon ?_
  rw [s.dev.evrClr_noBanks _ h hbanks]
  exact s.dev.ringCleared_spec

/-- What a clear leaves whose record enters the ring (R332). -/
theorem evrClr_banks_does (h : ¬(s.dev.lifecycle = 2 ∧ s.dev.bit A.EVR_CFG F.EVR_CFG_CLRPERM = false))
    (hbanks : s.dev.ringBanksOk = true) (hsync : s.dev.syncedAs 1 = false) (hname : s.dev.codeNamed 4 = false) :
    Does (.evrClr req) s fun d => d = { s.dev with regs := d.regs, scribe := d.scribe, mem := d.mem, pool := d.pool } ∧
      d.reg A.EVR_NEXT = s.dev.reg A.EVR_NEXT + 1 ∧ d.reg A.EVR_OLDEST = s.dev.reg A.EVR_NEXT ∧
      s.dev.RegsKept d [A.EVR_NEXT, A.EVR_OLDEST] ∧ d.scribe.queue = s.dev.scribe.queue ∧
      (∃ len, d.scribe.ring = [⟨s.dev.reg A.EVR_NEXT, s.dev.scribe.pos, len, false⟩]) ∧
      ∀ a, a / 16 ≠ s.dev.ringLineAt 0 → a / 16 ≠ s.dev.ringLineAt 1 → d.byte a = s.dev.byte a := by
  refine Does.of_go (f := (·.evrClr req)) rfl hon ?_
  rw [s.dev.evrClr_allowed _ h, hbanks, if_pos rfl, Dev.ringWhole_cleared]
  obtain ⟨hlines, hkept, hscribe, hbytes⟩ := s.dev.clearLines_spec req
  have hsec : (s.dev.clearRecord req).sec = false := rfl
  obtain ⟨honly, hnext, hold, hregs, hqueue, hring, hmem⟩ :=
    hlines.firstAccepted (o := s.dev.clearRecord req) (code := 0x0004) hkept hscribe hsync hname
  generalize ((s.dev.clearLines req).ringAccept (s.dev.clearRecord req)).accepted 0x0004 = d at *
  rw [hsec] at hring
  exact ⟨honly.eq, hnext, hold, hregs, hqueue, ⟨_, hring⟩, fun a h0 h1 => by
    rw [Dev.byte, hmem]
    exact hbytes a h0 h1⟩

end

/-- Settles O52: the limiter's token and configuration, the line and the last line of the writer, the enable, the clear, and
the cursors, each by the rule of its command. -/
theorem scribeRing : Obligations.ScribeRing := by
  intro s hon
  refine ⟨fun l => ⟨refill_due_does hon l, fun h => ?_, limCfgWrite_does hon l⟩, fun o mirror rest hq =>
    ⟨scribeWrite_line_does hon hq, scribeWrite_last_does hon hq⟩, ?_, fun h => ?_, fun h => ?_, fun req => ⟨fun h => ?_,
    evrClr_banks_does hon req, evrClr_noBanks_does hon req, fun v => ?_⟩⟩
  · exact Does.of_go (f := (·.refill (l.val + 1))) rfl hon (s.dev.refill_early _ h)
  · exact Does.of_go (f := (·.evrEnable false)) rfl hon
      ⟨rfl, s.dev.bit_setBit_same _ _ false rfl, (Dev.RegsKept.refl s.dev _).set _ _ (List.mem_singleton_self _)⟩
  · refine Does.of_go (f := (·.evrEnable true)) rfl hon ?_
    rw [Dev.evrEnable, h]
    exact ⟨rfl, s.dev.bit_setBit_same _ _ true rfl, (Dev.RegsKept.refl s.dev _).set _ _ (List.mem_singleton_self _)⟩
  · refine Does.of_go (f := (·.evrEnable true)) rfl hon ?_
    rw [Dev.evrEnable, h]
    exact ⟨rfl, s.dev.bit_raise_same _ _ rfl, (Dev.RegsKept.refl s.dev _).raise _ (List.mem_singleton_self _)⟩
  · refine Does.of_go (f := (·.evrClr req)) rfl hon ?_
    rw [s.dev.evrClr_refused _ h]
    exact ⟨rfl, s.dev.bit_raise_same _ _ rfl, (Dev.RegsKept.refl s.dev _).raise _ (List.mem_singleton_self _)⟩
  · exact Does.of_go (f := (·.setReg (reqKey req.val A.EVR_CURSOR) v)) rfl hon
      ⟨rfl, Dev.reg_setReg_same _ _ _, (Dev.RegsKept.refl s.dev _).setReg _ (List.mem_singleton_self _)⟩

end Sys2Proof.Machine
end

section
/-! The safety island (O49): what its judgements read, and what each of its operations leaves unchanged. -/

namespace Sys2Proof.Machine

/-! ## Loops whose steps stay apart -/

/-- A loop that keeps `P` and whose step `i` changes the part `g i` alone of what is of interest: part `i` changes in step `i`,
from a device that agrees with the first in that part. -/
theorem Dev.each_at_of {α : Type} {P : Dev → Prop} (g : Nat → Dev → α) {f : Dev → Nat → Dev} {n : Nat}
    (hP : ∀ y i, i < n → P y → P (f y i)) (hg : ∀ y i j, i < n → j < n → P y → j ≠ i → g j (f y i) = g j y) {s : Dev} (hs : P s) :
    P (s.each n f) ∧ ∀ i, i < n → ∃ y, P y ∧ g i y = g i s ∧ g i (s.each n f) = g i (f y i) := by
  suffices h : ∀ m, m ≤ n → P (s.each m f) ∧ (∀ i, m ≤ i → i < n → g i (s.each m f) = g i s) ∧
      ∀ i, i < m → ∃ y, P y ∧ g i y = g i s ∧ g i (s.each m f) = g i (f y i) from ⟨(h n le_rfl).1, (h n le_rfl).2.2⟩
  intro m
  induction m with
  | zero => exact fun _ => ⟨hs, fun _ _ _ => rfl, fun i hi => absurd hi (Nat.not_lt_zero i)⟩
  | succ m ih =>
    intro hm
    obtain ⟨hp, hlater, hdone⟩ := ih (by omega)
    rw [s.each_succ]
    refine ⟨hP _ m (by omega) hp, fun i hi hn => ?_, fun i hi => ?_⟩
    · exact (hg _ m i (by omega) hn hp (by omega)).trans (hlater i (by omega) hn)
    · rcases Nat.lt_or_ge i m with him | him
      · obtain ⟨y, hy, hsame, hlast⟩ := hdone i him
        exact ⟨y, hy, hsame, (hg _ m i (by omega) (by omega) hp (by omega)).trans hlast⟩
      · obtain rfl : i = m := by omega
        exact ⟨_, hp, hlater i le_rfl (by omega), rfl⟩

/-- Such a loop whose steps are related. -/
theorem Dev.each_at {α : Type} {R : Dev → Dev → Prop} (hrefl : ∀ s, R s s) (htrans : ∀ {a b c}, R a b → R b c → R a c)
    (g : Nat → Dev → α) {f : Dev → Nat → Dev} {n : Nat} (hR : ∀ s i, i < n → R s (f s i))
    (hg : ∀ s i j, i < n → j ≠ i → g j (f s i) = g j s) (s : Dev) : R s (s.each n f) ∧
      ∀ i, i < n → ∃ y, R s y ∧ g i y = g i s ∧ g i (s.each n f) = g i (f y i) :=
  Dev.each_at_of g (fun y i hi hy => htrans hy (hR y i hi)) (fun y i j hi _ _ hj => hg y i j hi hj) (hrefl s)

/-! ## The island's registers (R299, R300) -/

def stoRegs : List Nat := (upto 4).map A.SAF_STO_STAT
def siRegs : List Nat := (upto 8).map A.SAF_SI_STAT
def islandRegs : List Nat := A.SAF_STAT :: (siRegs ++ stoRegs)

theorem stoReg_mem {p : Nat} (hp : p < 4) : A.SAF_STO_STAT p ∈ stoRegs := List.mem_map_of_mem (List.mem_range.2 hp)
theorem siReg_mem {k : Nat} (hk : k < 8) : A.SAF_SI_STAT k ∈ siRegs := List.mem_map_of_mem (List.mem_range.2 hk)
theorem stoRegs_subset : stoRegs ⊆ islandRegs := fun _ h => .tail _ (List.mem_append_right _ h)
theorem siRegs_subset : siRegs ⊆ islandRegs := fun _ h => .tail _ (List.mem_append_left _ h)
theorem safStat_mem : A.SAF_STAT ∈ islandRegs := .head _

theorem siReg_not_sto {k : Nat} (hk : k < 8) : A.SAF_SI_STAT k ∉ stoRegs := by
  simp only [stoRegs, upto, List.mem_map, List.mem_range, A.SAF_STO_STAT, A.SAF_SI_STAT, not_exists, not_and]
  omega

theorem stoReg_not_si {p : Nat} : A.SAF_STO_STAT p ∉ siRegs := by
  simp only [siRegs, upto, List.mem_map, List.mem_range, A.SAF_STO_STAT, A.SAF_SI_STAT, not_exists, not_and]
  omega

theorem safStat_not_sto : A.SAF_STAT ∉ stoRegs := by
  simp only [stoRegs, upto, List.mem_map, List.mem_range, A.SAF_STO_STAT, A.SAF_STAT, not_exists, not_and]
  omega

theorem safStat_not_si : A.SAF_STAT ∉ siRegs := by
  simp only [siRegs, upto, List.mem_map, List.mem_range, A.SAF_SI_STAT, A.SAF_STAT, not_exists, not_and]
  omega

theorem siStat_inj {j k : Nat} (h : j ≠ k) : A.SAF_SI_STAT j ≠ A.SAF_SI_STAT k := by
  simp only [A.SAF_SI_STAT]; omega

theorem stoStat_inj {p q : Nat} (h : p ≠ q) : A.SAF_STO_STAT p ≠ A.SAF_STO_STAT q := by
  simp only [A.SAF_STO_STAT]; omega

theorem Dev.RegsKept.bit {s d : Dev} {as : List Nat} (h : s.RegsKept d as) {a : Nat} (f : Fld) (ha : a ∉ as) :
    d.bit a f = s.bit a f := congrArg (· == 1) (h.get f ha)

/-! ## What the judgements read (R284, R287) -/

/-- A pair is in demand through an input that is none for resets. -/
theorem Dev.pairDemand_iff (s : Dev) (p : Nat) : s.pairDemand p = true ↔
    ∃ k, k < 8 ∧ s.saf.names k p = true ∧ s.saf.role k ≠ roleReset ∧ s.inDemand k = true := by
  simp [Dev.pairDemand, upto, and_assoc]

theorem Dev.pairLatched_iff (s : Dev) (p : Nat) : s.pairLatched p = true ↔
    s.ifault = true ∨ (s.safOut p).ofault = true ∨ ∃ k, k < 8 ∧ s.saf.names k p = true ∧ (s.safIn k).disc = true := by
  simp [Dev.pairLatched, upto, or_assoc]

/-- The configuration, the contacts and IFAULT of `d` are those of `s`. -/
structure Dev.SameReads (s d : Dev) : Prop where
  body : d.saf.body = s.saf.body
  contacts : ∀ k, k < 8 → d.bit (A.SAF_SI_STAT k) F.SAF_SI_STAT_FA = s.bit (A.SAF_SI_STAT k) F.SAF_SI_STAT_FA ∧
    d.bit (A.SAF_SI_STAT k) F.SAF_SI_STAT_FB = s.bit (A.SAF_SI_STAT k) F.SAF_SI_STAT_FB
  ifault : d.ifault = s.ifault

theorem Dev.SameReads.refl (s : Dev) : s.SameReads s := ⟨rfl, fun _ _ => ⟨rfl, rfl⟩, rfl⟩

section
variable {s d : Dev} (h : s.SameReads d)
include h

theorem Dev.SameReads.trans {e : Dev} (k : d.SameReads e) : s.SameReads e :=
  ⟨k.body.trans h.body, fun j hj => ⟨(k.contacts j hj).1.trans (h.contacts j hj).1,
    (k.contacts j hj).2.trans (h.contacts j hj).2⟩, k.ifault.trans h.ifault⟩

theorem Dev.SameReads.role (k : Nat) : d.saf.role k = s.saf.role k := by simp only [Saf.role, Saf.word, h.body]
theorem Dev.SameReads.mask (k : Nat) : d.saf.mask k = s.saf.mask k := by simp only [Saf.mask, Saf.word, h.body]
theorem Dev.SameReads.names (k p : Nat) : d.saf.names k p = s.saf.names k p := by
  simp only [Saf.names, h.role, h.mask]
theorem Dev.SameReads.enabled (p : Nat) : d.saf.enabled p = s.saf.enabled p := by
  simp only [Saf.enabled, Saf.sto, Saf.word, h.body]
theorem Dev.SameReads.auto (p : Nat) : d.saf.auto p = s.saf.auto p := by
  simp only [Saf.auto, Saf.sto, Saf.word, h.body]

theorem Dev.SameReads.chDemand {k : Nat} (hk : k < 8) (chB : Bool) : d.chDemand k chB = s.chDemand k chB := by
  obtain ⟨hfa, hfb⟩ := h.contacts k hk
  cases chB <;> simp only [Dev.chDemand, h.role, hfa, hfb, if_true, Bool.false_eq_true, if_false]

theorem Dev.SameReads.inDemand {k : Nat} (hk : k < 8) : d.inDemand k = s.inDemand k := by
  simp only [Dev.inDemand, h.chDemand hk]

theorem Dev.SameReads.pairDemand (p : Nat) : d.pairDemand p = s.pairDemand p := by
  rw [Bool.eq_iff_iff, Dev.pairDemand_iff, Dev.pairDemand_iff]
  refine exists_congr fun k => and_congr_right fun hk => ?_
  rw [h.names, h.role, h.inDemand hk]

/-- The latches of a pair depend on its own OFAULT and on DISC of the inputs. -/
theorem Dev.SameReads.pairLatched {p : Nat} (hout : (d.safOut p).ofault = (s.safOut p).ofault)
    (hin : ∀ k, k < 8 → (d.safIn k).disc = (s.safIn k).disc) : d.pairLatched p = s.pairLatched p := by
  rw [Bool.eq_iff_iff, Dev.pairLatched_iff, Dev.pairLatched_iff, h.ifault, hout]
  refine or_congr_right (or_congr_right (exists_congr fun k => and_congr_right fun hk => ?_))
  rw [h.names, hin k hk]

end

/-! ## Changes of the island -/

/-- `d` differs from `s` in the island's inputs, pairs and registers alone, with `n` records more. -/
structure Dev.IslandFramed (s d : Dev) (n : Nat) : Prop where
  frame : ∃ r i o f os, d = { s with regs := r, saf := { s.saf with ins := i, outs := o }, free := f,
                                     scribe := { s.scribe with offers := s.scribe.offers ++ os } } ∧
    os.length = n ∧ ∀ o ∈ os, o.src = 0x47
  regs : s.RegsKept d islandRegs

/-- Such a change that leaves all that the judgements read. -/
structure Dev.IslandOnly (s d : Dev) (n : Nat) : Prop extends s.IslandFramed d n, s.SameReads d where
  ready : d.safReady = s.safReady

theorem Dev.IslandFramed.trans {s d e : Dev} {m n : Nat} (h : s.IslandFramed d m) (k : d.IslandFramed e n) :
    s.IslandFramed e (m + n) := by
  refine ⟨?_, h.regs.trans k.regs⟩
  obtain ⟨r, i, o, f, os, rfl, hm, hsrc⟩ := h.frame
  obtain ⟨r', i', o', f', os', rfl, hn, hsrc'⟩ := k.frame
  refine ⟨r', i', o', f', os ++ os', ?_, by rw [List.length_append, hm, hn], fun x hx => ?_⟩
  · rw [List.append_assoc]
  · exact (List.mem_append.1 hx).elim (hsrc x) (hsrc' x)

theorem Dev.IslandOnly.refl (s : Dev) : s.IslandOnly s 0 :=
  ⟨⟨⟨_, _, _, _, [], by rw [List.append_nil], rfl, by simp⟩, .refl s _⟩, .refl s, rfl⟩

theorem Dev.IslandOnly.trans {s d e : Dev} {m n : Nat} (h : s.IslandOnly d m) (k : d.IslandOnly e n) : s.IslandOnly e (m + n) :=
  ⟨h.toIslandFramed.trans k.toIslandFramed, h.toSameReads.trans k.toSameReads, k.ready.trans h.ready⟩

theorem Dev.IslandOnly.trans_zero {s d e : Dev} {n : Nat} (h : s.IslandOnly d n) (k : d.IslandOnly e 0) : s.IslandOnly e n :=
  h.trans k

theorem Dev.IslandOnly.zero_trans {s d e : Dev} {n : Nat} (h : s.IslandOnly d 0) (k : d.IslandOnly e n) : s.IslandOnly e n :=
  Nat.zero_add n ▸ h.trans k

/-- A record of the island that is offered. -/
theorem Dev.IslandOnly.offer (s : Dev) (base : Nat) (ev : Ev) : s.IslandOnly (s.offer 0x47 base ev) 1 :=
  ⟨⟨⟨_, _, _, _, [_], rfl, rfl, by simp⟩, .refl s _⟩, ⟨rfl, fun _ _ => ⟨rfl, rfl⟩, rfl⟩, rfl⟩

/-- A change of an input's state alone. -/
theorem Dev.IslandOnly.onSafIn (s : Dev) (k : Nat) (f : SafIn → SafIn) : s.IslandOnly (s.onSafIn k f) 0 :=
  ⟨⟨⟨_, _, _, _, [], by rw [List.append_nil]; rfl, rfl, by simp⟩, .refl s _⟩, ⟨rfl, fun _ _ => ⟨rfl, rfl⟩, rfl⟩, rfl⟩

/-- A change of registers alone. -/
theorem Dev.IslandFramed.of_regsAt {s d : Dev} {as : List Nat} (h : s.RegsAt d as) (ha : as ⊆ islandRegs) : s.IslandFramed d 0 := by
  obtain ⟨⟨r, rfl⟩, hk⟩ := h
  exact ⟨⟨r, _, _, _, [], by rw [List.append_nil], rfl, by simp⟩, hk.mono ha⟩

/-- The frame of the island's operations, as O49 states it. -/
def Dev.Framed (s d : Dev) : Prop := d = { s with regs := d.regs, saf := d.saf, scribe := d.scribe, free := d.free } ∧
  s.RegsKept d islandRegs ∧ d.saf = { s.saf with ins := d.saf.ins, outs := d.saf.outs }

/-- The island has offered `n` records and the Scribe has changed in nothing else. -/
def Dev.Recorded (s d : Dev) (n : Nat) : Prop := ∃ os : List Offer, os.length = n ∧ (∀ o ∈ os, o.src = 0x47) ∧
  d.scribe = { s.scribe with offers := s.scribe.offers ++ os }

section
variable {s d : Dev} {n : Nat} (h : s.IslandFramed d n)
include h

theorem Dev.IslandFramed.stoFree : d.stoFree = s.stoFree := by
  obtain ⟨r, i, o, f, os, rfl, -⟩ := h.frame
  rfl

theorem Dev.IslandFramed.filtersRun : d.filtersRun = s.filtersRun := by
  obtain ⟨r, i, o, f, os, rfl, -⟩ := h.frame
  rfl

theorem Dev.IslandFramed.framed : s.Framed d := by
  refine ⟨?_, h.regs, ?_⟩ <;> obtain ⟨r, i, o, f, os, rfl, -⟩ := h.frame <;> rfl

theorem Dev.IslandFramed.recorded : s.Recorded d n := by
  obtain ⟨r, i, o, f, os, rfl, hn, hsrc⟩ := h.frame
  exact ⟨os, hn, hsrc, rfl⟩

end

/-! ## Showing (R299) -/

theorem Dev.onSafIn_safIn_same (s : Dev) (k : Nat) (f : SafIn → SafIn) : (s.onSafIn k f).safIn k = f (s.safIn k) :=
  tabGet_put_same SafIn.init s.saf.ins k (f (s.safIn k))

theorem Dev.onSafIn_safIn_other (s : Dev) {j k : Nat} (f : SafIn → SafIn) (h : j ≠ k) : (s.onSafIn k f).safIn j = s.safIn j :=
  tabGet_put_other SafIn.init SafIn.init s.saf.ins (f (s.safIn k)) h

theorem Dev.onSafOut_safOut_same (s : Dev) (p : Nat) (f : SafOut → SafOut) : (s.onSafOut p f).safOut p = f (s.safOut p) :=
  tabGet_put_same SafOut.init s.saf.outs p (f (s.safOut p))

theorem Dev.onSafOut_safOut_other (s : Dev) {p q : Nat} (f : SafOut → SafOut) (h : q ≠ p) :
    (s.onSafOut p f).safOut q = s.safOut q :=
  tabGet_put_other SafOut.init SafOut.init s.saf.outs (f (s.safOut p)) h

/-- What an input shows: its registers alone change, and in them not the contacts. -/
theorem Dev.siShow_regsAt (s : Dev) (k : Nat) : s.RegsAt (s.siShow k) [A.SAF_SI_STAT k] :=
  ((((Dev.RegsAt.refl s _).set _ _ (List.mem_singleton_self _)).set _ _ (List.mem_singleton_self _)).set _ _
    (List.mem_singleton_self _)).set _ _ (List.mem_singleton_self _)

section
variable (s : Dev) (k : Nat)

theorem Dev.bit_siShow_contact {f : Fld} (hf : f.ok = true) (h : f.hi < 3) :
    (s.siShow k).bit (A.SAF_SI_STAT k) f = s.bit (A.SAF_SI_STAT k) f :=
  (((Dev.bit_setBit_field _ _ _ _ _ rfl hf (.inl (h.trans (by decide)))).trans
    (Dev.bit_setBit_field _ _ _ _ _ rfl hf (.inl (h.trans (by decide))))).trans
    (Dev.bit_setBit_field _ _ _ _ _ rfl hf (.inl h))).trans
    (congrArg (· == 1) (Dev.get_set_field _ _ _ _ _ rfl hf (.inl (h.trans (by decide)))))

theorem Dev.bit_siShow_demand : (s.siShow k).bit (A.SAF_SI_STAT k) F.SAF_SI_STAT_DEMAND = s.inDemand k :=
  ((Dev.bit_setBit_field _ _ _ _ _ rfl rfl (by decide)).trans (Dev.bit_setBit_field _ _ _ _ _ rfl rfl (by decide))).trans
    (Dev.bit_setBit_same _ _ _ _ rfl)

theorem Dev.bit_siShow_disc : (s.siShow k).bit (A.SAF_SI_STAT k) F.SAF_SI_STAT_DISC = (s.safReady && (s.safIn k).disc) :=
  (Dev.bit_setBit_field _ _ _ _ _ rfl rfl (by decide)).trans (Dev.bit_setBit_same _ _ _ _ rfl)

theorem Dev.RegsOnly.saf {s d : Dev} (h : s.RegsOnly d) : d.saf = s.saf := by
  obtain ⟨r, rfl⟩ := h
  rfl

theorem Dev.siShow_saf : (s.siShow k).saf = s.saf := (s.siShow_regsAt k).1.saf

theorem Dev.siShow_islandOnly (hk : k < 8) : s.IslandOnly (s.siShow k) 0 := by
  have hat := s.siShow_regsAt k
  have hstat : A.SAF_STAT ∉ [A.SAF_SI_STAT k] := by
    simp only [List.mem_singleton, A.SAF_STAT, A.SAF_SI_STAT]; omega
  refine ⟨.of_regsAt hat (by simpa using siRegs_subset (siReg_mem hk)), ⟨congrArg Saf.body hat.1.saf, fun j hj => ?_,
    hat.bit _ hstat⟩, hat.bit _ hstat⟩
  by_cases h : j = k
  · subst h
    exact ⟨s.bit_siShow_contact j rfl (by decide), s.bit_siShow_contact j rfl (by decide)⟩
  · have hne : A.SAF_SI_STAT j ∉ [A.SAF_SI_STAT k] := by simpa using siStat_inj h
    exact ⟨hat.bit _ hne, hat.bit _ hne⟩

/-- What a pair shows: its register alone changes. -/
theorem Dev.stoShow_regsAt (p : Nat) : s.RegsAt (s.stoShow p) [A.SAF_STO_STAT p] :=
  (((Dev.RegsAt.refl s _).set _ _ (List.mem_singleton_self _)).set _ _ (List.mem_singleton_self _)).set _ _
    (List.mem_singleton_self _)

theorem Dev.stoShow_saf (p : Nat) : (s.stoShow p).saf = s.saf := (s.stoShow_regsAt p).1.saf

/-- HWOPEN, SCOPEN, TPLAST and RSTW are not among what a pair shows. -/
theorem Dev.bit_stoShow_field (p : Nat) {f : Fld} (hf : f.ok = true) (h : 1 < f.lo) (h5 : f.hi < 5 ∨ 5 < f.lo) :
    (s.stoShow p).bit (A.SAF_STO_STAT p) f = s.bit (A.SAF_STO_STAT p) f :=
  ((Dev.bit_setBit_field _ _ _ _ _ rfl hf h5).trans (Dev.bit_setBit_field _ _ _ _ _ rfl hf (.inr h))).trans
    (Dev.bit_setBit_field _ _ _ _ _ rfl hf (.inr (Nat.lt_of_succ_lt h)))

theorem Dev.bit_stoShow_on (p : Nat) :
    (s.stoShow p).bit (A.SAF_STO_STAT p) F.SAF_STO_STAT_ON = ((s.safOut p).on && (s.safOut p).pulse.isEmpty) :=
  ((Dev.bit_setBit_field _ _ _ _ _ rfl rfl (by decide)).trans (Dev.bit_setBit_field _ _ _ _ _ rfl rfl (by decide))).trans
    (Dev.bit_setBit_same _ _ _ _ rfl)

end

/-! ## Changes of one pair -/

/-- `d` differs from `s` in pair `p` and its register alone. -/
structure Dev.PairStep (s d : Dev) (p : Nat) : Prop where
  frame : ∃ r o, d = { s with regs := r, saf := { s.saf with outs := o } }
  regs : s.RegsKept d [A.SAF_STO_STAT p]
  outs : ∀ q, q ≠ p → d.safOut q = s.safOut q

/-- `d` differs from `s` in the pairs and their registers alone. -/
structure Dev.PairsOnly (s d : Dev) : Prop where
  frame : ∃ r o, d = { s with regs := r, saf := { s.saf with outs := o } }
  regs : s.RegsKept d stoRegs

theorem Dev.PairStep.refl (s : Dev) (p : Nat) : s.PairStep s p := ⟨⟨_, _, rfl⟩, .refl s _, fun _ _ => rfl⟩
theorem Dev.PairsOnly.refl (s : Dev) : s.PairsOnly s := ⟨⟨_, _, rfl⟩, .refl s _⟩

theorem Dev.PairStep.trans {s d e : Dev} {p : Nat} (h : s.PairStep d p) (k : d.PairStep e p) : s.PairStep e p := by
  refine ⟨?_, h.regs.trans k.regs, fun q hq => (k.outs q hq).trans (h.outs q hq)⟩
  obtain ⟨r, o, rfl⟩ := h.frame
  obtain ⟨r', o', rfl⟩ := k.frame
  exact ⟨_, _, rfl⟩

theorem Dev.PairsOnly.trans {s d e : Dev} (h : s.PairsOnly d) (k : d.PairsOnly e) : s.PairsOnly e := by
  refine ⟨?_, h.regs.trans k.regs⟩
  obtain ⟨r, o, rfl⟩ := h.frame
  obtain ⟨r', o', rfl⟩ := k.frame
  exact ⟨_, _, rfl⟩

theorem Dev.PairStep.onSafOut (s : Dev) (p : Nat) (f : SafOut → SafOut) : s.PairStep (s.onSafOut p f) p :=
  ⟨⟨_, _, rfl⟩, .refl s _, fun _ hq => s.onSafOut_safOut_other f hq⟩

theorem Dev.PairStep.of_regsAt {s d : Dev} {p : Nat} (h : s.RegsAt d [A.SAF_STO_STAT p]) : s.PairStep d p := by
  obtain ⟨⟨r, rfl⟩, hk⟩ := h
  exact ⟨⟨_, _, rfl⟩, hk, fun _ _ => rfl⟩

theorem Dev.PairStep.set (s : Dev) (p : Nat) (f : Fld) (v : Nat) : s.PairStep (s.set (A.SAF_STO_STAT p) f v) p :=
  .of_regsAt ((Dev.RegsAt.refl s _).set _ _ (List.mem_singleton_self _))

theorem Dev.PairStep.stoShow (s : Dev) (p : Nat) : s.PairStep (s.stoShow p) p := .of_regsAt (s.stoShow_regsAt p)

theorem Dev.PairStep.pairsOnly {s d : Dev} {p : Nat} (h : s.PairStep d p) (hp : p < 4) : s.PairsOnly d :=
  ⟨h.frame, h.regs.mono (by simpa using stoReg_mem hp)⟩

section
variable {s d : Dev} (h : s.PairsOnly d)
include h

theorem Dev.PairsOnly.islandOnly : s.IslandOnly d 0 := by
  have hbit {k : Nat} (hk : k < 8) (f : Fld) := h.regs.bit f (siReg_not_sto hk)
  refine ⟨⟨?_, h.regs.mono stoRegs_subset⟩, ⟨?_, fun k hk => ⟨hbit hk _, hbit hk _⟩, h.regs.bit _ safStat_not_sto⟩,
    h.regs.bit _ safStat_not_sto⟩
  · obtain ⟨r, o, rfl⟩ := h.frame
    exact ⟨r, _, o, _, [], by rw [List.append_nil], rfl, by simp⟩
  · obtain ⟨r, o, rfl⟩ := h.frame
    rfl

theorem Dev.PairsOnly.safIn (k : Nat) : d.safIn k = s.safIn k := by
  obtain ⟨r, o, rfl⟩ := h.frame
  rfl

end

/-- The view of a pair: its state and its register. -/
def Dev.pairView (p : Nat) (s : Dev) : SafOut × Word := (s.safOut p, s.reg (A.SAF_STO_STAT p))

theorem Dev.PairStep.view {s d : Dev} {p q : Nat} (h : s.PairStep d p) (hq : q ≠ p) : d.pairView q = s.pairView q := by
  rw [Dev.pairView, h.outs q hq, h.regs _ (by simpa using stoStat_inj hq), Dev.pairView]

theorem Dev.safOut_of_view {s d : Dev} {p : Nat} (h : d.pairView p = s.pairView p) : d.safOut p = s.safOut p :=
  congrArg Prod.fst h

theorem Dev.bit_of_view {s d : Dev} {p : Nat} (h : d.pairView p = s.pairView p) (f : Fld) :
    d.bit (A.SAF_STO_STAT p) f = s.bit (A.SAF_STO_STAT p) f :=
  congrArg (fun v : SafOut × Word => f.of v.2 == 1) h

/-- A loop over the pairs that changes one pair at a time. -/
theorem Dev.each_pairs {f : Dev → Nat → Dev} (hf : ∀ (s : Dev) p, s.PairStep (f s p) p) (s : Dev) : s.PairsOnly (s.each 4 f) ∧
    ∀ p, p < 4 → ∃ y, s.PairsOnly y ∧ y.pairView p = s.pairView p ∧ (s.each 4 f).pairView p = (f y p).pairView p :=
  Dev.each_at Dev.PairsOnly.refl Dev.PairsOnly.trans Dev.pairView (fun y p hp => (hf y p).pairsOnly hp)
    (fun y p _ _ hq => (hf y p).view hq) s

/-! ## Off through the latch (R287) -/

/-- What judges a pair off: a demand, a latch, or no configuration. -/
def Dev.mustOff (s : Dev) (p : Nat) : Bool := s.pairDemand p || s.pairLatched p || !s.saf.enabled p

/-- What judges a pair off depends on OFAULT and DISC beside what the judgements read. -/
theorem Dev.SameReads.mustOff {s d : Dev} {p : Nat} (h : s.SameReads d) (hout : (d.safOut p).ofault = (s.safOut p).ofault)
    (hin : ∀ k, k < 8 → (d.safIn k).disc = (s.safIn k).disc) : d.mustOff p = s.mustOff p := by
  rw [Dev.mustOff, h.pairDemand, h.enabled, h.pairLatched hout hin, Dev.mustOff]

theorem Dev.PairsOnly.mustOff {s d : Dev} {p : Nat} (h : s.PairsOnly d) (hout : (d.safOut p).ofault = (s.safOut p).ofault) :
    d.mustOff p = s.mustOff p :=
  h.islandOnly.toSameReads.mustOff hout fun k _ => by rw [h.safIn]

/-- A judgement of pair `p`: what its state and its register then show. -/
structure Dev.Judged (s d : Dev) (p : Nat) (off : Bool) : Prop where
  on : (d.safOut p).on = ((s.safOut p).on && !off)
  ofault : (d.safOut p).ofault = (s.safOut p).ofault
  hwopen : d.bit (A.SAF_STO_STAT p) F.SAF_STO_STAT_HWOPEN =
    (s.bit (A.SAF_STO_STAT p) F.SAF_STO_STAT_HWOPEN || ((s.safOut p).on && off))
  tplast : d.bit (A.SAF_STO_STAT p) F.SAF_STO_STAT_TPLAST = s.bit (A.SAF_STO_STAT p) F.SAF_STO_STAT_TPLAST

section
variable (s : Dev) (p : Nat)

theorem Dev.pairWait_step : s.PairStep (s.pairWait p) p := (Dev.PairStep.onSafOut s p _).trans (.set _ _ _ _)

theorem Dev.pairOff_step : s.PairStep (s.pairOff p) p :=
  ((Dev.PairStep.onSafOut s p _).trans (.set _ _ _ _)).trans (.stoShow _ _)

theorem Dev.pairWait_judged : s.Judged (s.pairWait p) p false := by
  have hout : (s.pairWait p).safOut p = { s.safOut p with byReset := false } :=
    s.onSafOut_safOut_same p fun x => { x with byReset := false }
  refine ⟨by rw [hout, Bool.not_false, Bool.and_true], by rw [hout], ?_, ?_⟩
  · rw [Bool.and_false, Bool.or_false]
    exact Dev.bit_setBit_field _ _ _ _ _ rfl rfl (by decide)
  · exact Dev.bit_setBit_field _ _ _ _ _ rfl rfl (by decide)

theorem Dev.bit_rstw_pairWait : (s.pairWait p).bit (A.SAF_STO_STAT p) F.SAF_STO_STAT_RSTW = !s.saf.auto p :=
  Dev.bit_setBit_same _ _ _ _ rfl

theorem Dev.pairOff_safOut : (s.pairOff p).safOut p = { s.safOut p with on := false, byReset := false } := by
  rw [Dev.safOut, Dev.pairOff, Dev.stoShow_saf]
  exact s.onSafOut_safOut_same p fun x => { x with on := false, byReset := false }

theorem Dev.bit_set_hwopen (v : Bool) : ((s.set (A.SAF_STO_STAT p) F.SAF_STO_STAT_HWOPEN (if v then 1 else 0)).stoShow p).bit
    (A.SAF_STO_STAT p) F.SAF_STO_STAT_HWOPEN = v :=
  (Dev.bit_stoShow_field _ _ rfl (by decide) (by decide)).trans (Dev.bit_setBit_same _ _ _ _ rfl)

/-- HWOPEN leaves RSTW and TPLAST. -/
theorem Dev.bit_set_hwopen_field (v : Nat) {f : Fld} (hf : f.ok = true) (h : 2 < f.lo) (h5 : f.hi < 5 ∨ 5 < f.lo) :
    ((s.set (A.SAF_STO_STAT p) F.SAF_STO_STAT_HWOPEN v).stoShow p).bit (A.SAF_STO_STAT p) f = s.bit (A.SAF_STO_STAT p) f :=
  (Dev.bit_stoShow_field _ _ hf (Nat.lt_of_succ_lt h) h5).trans
    (congrArg (· == 1) (s.get_set_field _ F.SAF_STO_STAT_HWOPEN f v rfl hf (.inr h)))

theorem Dev.pairOff_judged (hon : (s.safOut p).on = true) : s.Judged (s.pairOff p) p true := by
  have hout := s.pairOff_safOut p
  refine ⟨by rw [hout, hon]; rfl, by rw [hout], ?_, ?_⟩
  · rw [hon, Bool.and_self, Bool.or_true]
    exact (s.onSafOut p _).bit_set_hwopen p true
  · exact (s.onSafOut p _).bit_set_hwopen_field p 1 rfl (by decide) (by decide)

theorem Dev.bit_rstw_pairOff :
    (s.pairOff p).bit (A.SAF_STO_STAT p) F.SAF_STO_STAT_RSTW = s.bit (A.SAF_STO_STAT p) F.SAF_STO_STAT_RSTW :=
  (s.onSafOut p _).bit_set_hwopen_field p 1 rfl (by decide) (by decide)

theorem Dev.stoShow_judged : s.Judged (s.stoShow p) p false := by
  refine ⟨?_, by rw [Dev.safOut, Dev.stoShow_saf]; rfl, ?_, s.bit_stoShow_field p rfl (by decide) (by decide)⟩
  · rw [Dev.safOut, Dev.stoShow_saf, Bool.not_false, Bool.and_true]
    rfl
  · rw [Bool.and_false, Bool.or_false]
    exact s.bit_stoShow_field p rfl (by decide) (by decide)

variable {s p}

theorem Dev.Judged.refl (s : Dev) (p : Nat) : s.Judged s p false := by
  refine ⟨?_, rfl, ?_, rfl⟩ <;> simp

theorem Dev.Judged.trans {d e : Dev} {a b : Bool} (h : s.Judged d p a) (k : d.Judged e p b) : s.Judged e p (a || b) := by
  refine ⟨?_, k.ofault.trans h.ofault, ?_, k.tplast.trans h.tplast⟩
  · rw [k.on, h.on, Bool.not_or, Bool.and_assoc]
  · rw [k.hwopen, h.hwopen, h.on]
    cases (s.safOut p).on <;> cases a <;> simp

/-- A judgement that took the pair off, whichever state it was in. -/
theorem Dev.Judged.off {d : Dev} (h : s.Judged d p true) : (d.safOut p).on = false ∧
    ((s.safOut p).on = true → d.bit (A.SAF_STO_STAT p) F.SAF_STO_STAT_HWOPEN = true) := by
  refine ⟨by rw [h.on, Bool.not_true, Bool.and_false], fun hon => ?_⟩
  rw [h.hwopen, hon, Bool.and_self, Bool.or_true]

end

/-! ## The judgement of all pairs (R284, R287) -/

section
variable (s : Dev) (p : Nat)

/-- A pair in demand waits. -/
def Dev.pairWaited : Dev := if s.pairDemand p then s.pairWait p else s

/-- The judgement of one pair. -/
def Dev.pairJudge : Dev :=
  (if (s.pairWaited p).mustOff p && ((s.pairWaited p).safOut p).on then (s.pairWaited p).pairOff p else s.pairWaited p).stoShow p

theorem Dev.pairsJudge_eq : s.pairsJudge = s.each 4 Dev.pairJudge := rfl

theorem Dev.pairWaited_step : s.PairStep (s.pairWaited p) p := by
  rw [Dev.pairWaited]
  split
  · exact s.pairWait_step p
  · exact .refl s p

theorem Dev.pairWaited_judged : s.Judged (s.pairWaited p) p false := by
  rw [Dev.pairWaited]
  split
  · exact s.pairWait_judged p
  · exact .refl s p

theorem Dev.pairJudge_step : s.PairStep (s.pairJudge p) p := by
  refine ((s.pairWaited_step p).trans ?_).trans (.stoShow _ p)
  split
  · exact Dev.pairOff_step _ p
  · exact .refl _ p

/-- A pair is off after its judgement exactly as a demand, a latch or its configuration says. -/
theorem Dev.pairJudge_judged (hp : p < 4) : s.Judged (s.pairJudge p) p (s.mustOff p) ∧
    (s.pairJudge p).bit (A.SAF_STO_STAT p) F.SAF_STO_STAT_RSTW =
      if s.pairDemand p then !s.saf.auto p else s.bit (A.SAF_STO_STAT p) F.SAF_STO_STAT_RSTW := by
  have hw := s.pairWaited_judged p
  have hoff := ((s.pairWaited_step p).pairsOnly hp).mustOff hw.ofault
  have hrstw : (s.pairWaited p).bit (A.SAF_STO_STAT p) F.SAF_STO_STAT_RSTW =
      if s.pairDemand p then !s.saf.auto p else s.bit (A.SAF_STO_STAT p) F.SAF_STO_STAT_RSTW := by
    rw [Dev.pairWaited]
    split
    · exact s.bit_rstw_pairWait p
    · rfl
  rw [Dev.pairJudge, hoff]
  generalize s.pairWaited p = y at *
  have hshow {z : Dev} : (z.stoShow p).bit (A.SAF_STO_STAT p) F.SAF_STO_STAT_RSTW = z.bit (A.SAF_STO_STAT p) F.SAF_STO_STAT_RSTW :=
    z.bit_stoShow_field p rfl (by decide) (by decide)
  have hdone {z : Dev} {b : Bool} (hz : y.Judged z p b) : s.Judged (z.stoShow p) p b := by
    simpa using (hw.trans hz).trans (z.stoShow_judged p)
  cases hmust : s.mustOff p with
  | false => exact ⟨hdone (.refl y p), hshow.trans hrstw⟩
  | true =>
    cases hon : (y.safOut p).on with
    | true => exact ⟨hdone (y.pairOff_judged p hon), (hshow.trans (y.bit_rstw_pairOff p)).trans hrstw⟩
    | false =>
      refine ⟨hdone ⟨?_, rfl, ?_, rfl⟩, hshow.trans hrstw⟩ <;> simp [hon]

theorem Dev.pairsJudge_pairsOnly : s.PairsOnly s.pairsJudge := (Dev.each_pairs (fun y q => y.pairJudge_step q) s).1

variable {p} (hp : p < 4)
include hp

/-- What the judgement of all pairs leaves of a pair. -/
theorem Dev.pairsJudge_judged : s.Judged s.pairsJudge p (s.mustOff p) ∧
    s.pairsJudge.bit (A.SAF_STO_STAT p) F.SAF_STO_STAT_RSTW =
      if s.pairDemand p then !s.saf.auto p else s.bit (A.SAF_STO_STAT p) F.SAF_STO_STAT_RSTW := by
  obtain ⟨y, hy, hsame, hlast⟩ := (Dev.each_pairs (fun y q => y.pairJudge_step q) s).2 p hp
  rw [← Dev.pairsJudge_eq] at hlast
  obtain ⟨hj, hr⟩ := y.pairJudge_judged p hp
  have hout := Dev.safOut_of_view hsame
  rw [hy.mustOff (by rw [hout])] at hj
  refine ⟨⟨?_, ?_, ?_, ?_⟩, ?_⟩
  · rw [Dev.safOut_of_view hlast, hj.on, hout]
  · rw [Dev.safOut_of_view hlast, hj.ofault, hout]
  · rw [Dev.bit_of_view hlast, hj.hwopen, hout, Dev.bit_of_view hsame]
  · rw [Dev.bit_of_view hlast, hj.tplast, Dev.bit_of_view hsame]
  · rw [Dev.bit_of_view hlast, hr, hy.islandOnly.pairDemand, hy.islandOnly.auto, Dev.bit_of_view hsame]

end

/-! ## A pair off (R287) -/

/-- Pair `p` is off, through the latch if it was on. -/
def Dev.IsOff (s d : Dev) (p : Nat) : Prop :=
  (d.safOut p).on = false ∧ ((s.safOut p).on = true → d.bit (A.SAF_STO_STAT p) F.SAF_STO_STAT_HWOPEN = true)

/-- A pair that was on is still, or went off through the latch. -/
def Dev.OnOrOpen (s d : Dev) (p : Nat) : Prop :=
  (s.safOut p).on = true → (d.safOut p).on = true ∨ d.bit (A.SAF_STO_STAT p) F.SAF_STO_STAT_HWOPEN = true

section
variable {s d : Dev} {p : Nat}

theorem Dev.OnOrOpen.of_view (h : d.pairView p = s.pairView p) : s.OnOrOpen d p :=
  fun hon => .inl (by rw [Dev.safOut_of_view h, hon])

/-- A pair that must be off is off after the judgement. -/
theorem Dev.OnOrOpen.isOff (h : s.OnOrOpen d p) (hp : p < 4) (hm : d.mustOff p = true) : s.IsOff d.pairsJudge p := by
  have hj := (d.pairsJudge_judged hp).1
  rw [hm] at hj
  refine ⟨hj.off.1, fun hon => (h hon).elim hj.off.2 fun hopen => ?_⟩
  rw [hj.hwopen, hopen, Bool.true_or]

theorem Dev.OnOrOpen.pairsJudge (h : s.OnOrOpen d p) (hp : p < 4) : s.OnOrOpen d.pairsJudge p := by
  intro hon
  have hj := (d.pairsJudge_judged hp).1
  rw [hj.on, hj.hwopen]
  rcases h hon with h | h <;> rw [h]
  · cases d.mustOff p <;> simp
  · exact .inr rfl

theorem Dev.mustOff_of_demand (h : s.pairDemand p = true) : s.mustOff p = true := by
  rw [Dev.mustOff, h]
  rfl

theorem Dev.mustOff_of_latched (h : s.pairLatched p = true) : s.mustOff p = true := by
  rw [Dev.mustOff, h, Bool.or_true]
  rfl

/-- Registers of inputs and SAF_STAT leave the view of a pair. -/
theorem Dev.RegsAt.pairView {as : List Nat} (h : s.RegsAt d as) (ha : A.SAF_STO_STAT p ∉ as) : d.pairView p = s.pairView p := by
  rw [Dev.pairView, Dev.safOut, h.1.saf, h.2 _ ha]
  rfl

end

/-! ## Internal faults (R282) -/

section
variable (s : Dev)

/-- IFAULT is set and recorded. -/
def Dev.ifaultRaised : Dev := (s.set A.SAF_STAT F.SAF_STAT_IFAULT 1).offer 0x47 0x0B .ifault

theorem Dev.ifaultSet_of_fault (h : s.ifault = true) : s.ifaultSet = s := if_pos h

theorem Dev.ifaultSet_of_none (h : s.ifault = false) : s.ifaultSet = s.ifaultRaised.pairsJudge := by
  rw [Dev.ifaultSet, h, if_neg Bool.false_ne_true]
  rfl

theorem Dev.ifaultRaised_framed : s.IslandFramed s.ifaultRaised 1 :=
  (Dev.IslandFramed.of_regsAt ((Dev.RegsAt.refl s _).set _ _ (List.mem_singleton_self _)) (by simpa using safStat_mem)).trans
    (Dev.IslandOnly.offer _ _ _).toIslandFramed

theorem Dev.ifault_ifaultRaised : s.ifaultRaised.ifault = true := s.bit_setBit_same A.SAF_STAT F.SAF_STAT_IFAULT true rfl

theorem Dev.safReady_ifaultRaised : s.ifaultRaised.safReady = s.safReady :=
  s.bit_setBit_field A.SAF_STAT F.SAF_STAT_IFAULT F.SAF_STAT_READY true rfl rfl (by decide)

/-- Registers of the pairs and the inputs are not SAF_STAT. -/
theorem Dev.reg_ifaultRaised {a : Nat} (h : a ≠ A.SAF_STAT) : s.ifaultRaised.reg a = s.reg a :=
  s.reg_setReg_other _ h

theorem Dev.pairView_ifaultRaised (p : Nat) : s.ifaultRaised.pairView p = s.pairView p := by
  rw [Dev.pairView, s.reg_ifaultRaised (by simp only [A.SAF_STO_STAT, A.SAF_STAT]; omega)]
  rfl

theorem Dev.ifaultSet_spec (h : s.ifault = false) : s.IslandFramed s.ifaultSet 1 ∧ s.ifaultSet.ifault = true ∧
    s.ifaultSet.safReady = s.safReady ∧ s.ifaultSet.saf.ins = s.saf.ins ∧ ∀ p, p < 4 → s.IsOff s.ifaultSet p := by
  have hj := s.ifaultRaised.pairsJudge_pairsOnly
  have hfault := s.ifault_ifaultRaised
  rw [s.ifaultSet_of_none h]
  refine ⟨s.ifaultRaised_framed.trans hj.islandOnly.toIslandFramed, hj.islandOnly.ifault.trans hfault,
    hj.islandOnly.ready.trans s.safReady_ifaultRaised, ?_, fun p hp => ?_⟩
  · obtain ⟨r, o, hd⟩ := hj.frame
    rw [hd]
    rfl
  · refine (Dev.OnOrOpen.of_view (s.pairView_ifaultRaised p)).isOff hp (Dev.mustOff_of_latched ?_)
    exact (s.ifaultRaised.pairLatched_iff p).2 (.inl hfault)

end

/-! ## Discrepancy times (R285) -/

section
variable (s : Dev) (k : Nat)

/-- No discrepancy time of an input has passed. -/
def Dev.discWaits : Prop := ∀ t c v, (s.safIn k).timer = some (t, c, v) → s.ticks ≤ t + s.saf.disc k

theorem Dev.discJudge_waits (h : s.discWaits k) : s.discJudge k = s := by
  rw [Dev.discJudge]
  split
  · next t c v ht => exact if_neg (Nat.not_lt.2 (h t c v ht))
  · rfl

theorem Dev.discJudge_passed {t : Nat} {c v : Bool} (ht : (s.safIn k).timer = some (t, c, v)) (h : t + s.saf.disc k < s.ticks) :
    s.discJudge k = s.discLatch k := by
  rw [Dev.discJudge, ht]
  exact if_pos h

/-- DISC is latched. -/
def Dev.discSet : Dev := s.onSafIn k fun x => { x with timer := none, disc := true, seqok := false, both := false }

/-- DISC is latched, shown and recorded. -/
def Dev.discShown : Dev := ((s.discSet k).siShow k).offer 0x47 0x0B .discLatched

theorem Dev.discLatch_eq : s.discLatch k = (s.discShown k).pairsJudge := rfl

theorem Dev.discShown_saf : (s.discShown k).saf = (s.discSet k).saf := (s.discSet k).siShow_saf k

variable {k} (hk : k < 8)
include hk

theorem Dev.discShown_islandOnly : s.IslandOnly (s.discShown k) 1 :=
  ((Dev.IslandOnly.onSafIn s k _).trans_zero ((s.discSet k).siShow_islandOnly k hk)).zero_trans (.offer _ _ _)

theorem Dev.discLatch_islandOnly : s.IslandOnly (s.discLatch k) 1 :=
  (s.discShown_islandOnly hk).trans_zero (s.discShown k).pairsJudge_pairsOnly.islandOnly

theorem Dev.pairView_discShown (p : Nat) : (s.discShown k).pairView p = s.pairView p :=
  ((s.discSet k).siShow_regsAt k).pairView (by simp only [List.mem_singleton, A.SAF_STO_STAT, A.SAF_SI_STAT]; omega)

/-- What the latching of a discrepancy leaves (R285). -/
theorem Dev.discLatch_spec :
    (s.discLatch k).safIn k = { s.safIn k with timer := none, disc := true, seqok := false, both := false } ∧
      (∀ j, j ≠ k → (s.discLatch k).safIn j = s.safIn j) ∧
      (s.discLatch k).bit (A.SAF_SI_STAT k) F.SAF_SI_STAT_DISC = s.safReady ∧
      ∀ p, p < 4 → s.saf.names k p = true → s.IsOff (s.discLatch k) p := by
  have hsame := s.onSafIn_safIn_same k fun x => { x with timer := none, disc := true, seqok := false, both := false }
  have hin : (s.discShown k).safIn k = { s.safIn k with timer := none, disc := true, seqok := false, both := false } := by
    rw [Dev.safIn, s.discShown_saf]
    exact hsame
  have hj := (s.discShown k).pairsJudge_pairsOnly
  rw [s.discLatch_eq]
  refine ⟨(hj.safIn k).trans hin, fun j hjk => ?_, ?_, fun p hp hn => ?_⟩
  · rw [hj.safIn, Dev.safIn, s.discShown_saf]
    exact s.onSafIn_safIn_other _ hjk
  · refine (hj.regs.bit _ (siReg_not_sto hk)).trans (((s.discSet k).bit_siShow_disc k).trans ?_)
    rw [Dev.discSet, hsame]
    exact Bool.and_true _
  · refine (Dev.OnOrOpen.of_view (s.pairView_discShown hk p)).isOff hp (Dev.mustOff_of_latched ?_)
    refine ((s.discShown k).pairLatched_iff p).2 (.inr (.inr ⟨k, hk, ?_, ?_⟩))
    · rw [(s.discShown_islandOnly hk).names, hn]
    · rw [hin]

theorem Dev.discJudge_islandOnly : ∃ n, s.IslandOnly (s.discJudge k) n := by
  by_cases hw : s.discWaits k
  · exact ⟨0, by rw [s.discJudge_waits k hw]; exact .refl s⟩
  · simp only [Dev.discWaits, not_forall, Nat.not_le] at hw
    obtain ⟨t, c, v, ht, hpast⟩ := hw
    exact ⟨1, by rw [s.discJudge_passed k ht hpast]; exact s.discLatch_islandOnly hk⟩

theorem Dev.discJudge_onOrOpen {p : Nat} (hp : p < 4) : s.OnOrOpen (s.discJudge k) p := by
  by_cases hw : s.discWaits k
  · rw [s.discJudge_waits k hw]
    exact .of_view rfl
  · simp only [Dev.discWaits, not_forall, Nat.not_le] at hw
    obtain ⟨t, c, v, ht, hpast⟩ := hw
    rw [s.discJudge_passed k ht hpast, s.discLatch_eq]
    exact (Dev.OnOrOpen.of_view (s.pairView_discShown hk p)).pairsJudge hp

end

section
variable {s : State} (hon : s.dev.on = true)
include hon

/-- What an internal fault leaves (R282). -/
theorem ifault_does (h : s.dev.ifault = false) : Does .ifault s fun d => s.dev.Framed d ∧ s.dev.Recorded d 1 ∧
    d.ifault = true ∧ d.saf.ins = s.dev.saf.ins ∧ ∀ p, p < 4 → s.dev.IsOff d p := by
  obtain ⟨hframe, hfault, -, hins, hoff⟩ := s.dev.ifaultSet_spec h
  exact Does.of_go (f := Dev.ifaultSet) rfl hon ⟨hframe.framed, hframe.recorded, hfault, hins, hoff⟩

/-- What a discrepancy time that has passed leaves (R285). -/
theorem discExpiry_does (k : Fin 8) {t : Nat} {c v : Bool} (ht : (s.dev.safIn k).timer = some (t, c, v))
    (h : t + s.dev.saf.disc k < s.dev.ticks) : Does (.discExpiry k) s fun d =>
    s.dev.Framed d ∧ s.dev.Recorded d 1 ∧
    d.safIn k = { s.dev.safIn k with timer := none, disc := true, seqok := false, both := false } ∧
    (∀ j, j ≠ k.val → d.safIn j = s.dev.safIn j) ∧ d.bit (A.SAF_SI_STAT k) F.SAF_SI_STAT_DISC = s.dev.safReady ∧
    ∀ p, p < 4 → s.dev.saf.names k p = true → s.dev.IsOff d p := by
  have hframe := s.dev.discLatch_islandOnly k.isLt
  refine Does.of_go (f := (·.discJudge k.val)) rfl hon ?_
  rw [s.dev.discJudge_passed k ht h]
  exact ⟨hframe.framed, hframe.recorded, s.dev.discLatch_spec k.isLt⟩

end

/-! ## Showing all registers (R299) -/

/-- `d` shows what `s` holds: READY, IFAULT, the contacts, HWOPEN and RSTW stay. -/
structure Dev.ShowStep (s d : Dev) : Prop extends s.SameReads d where
  at_regs : s.RegsAt d islandRegs
  ready : d.safReady = s.safReady
  pairs : ∀ p, d.bit (A.SAF_STO_STAT p) F.SAF_STO_STAT_HWOPEN = s.bit (A.SAF_STO_STAT p) F.SAF_STO_STAT_HWOPEN ∧
    d.bit (A.SAF_STO_STAT p) F.SAF_STO_STAT_RSTW = s.bit (A.SAF_STO_STAT p) F.SAF_STO_STAT_RSTW

theorem Dev.RegsAt.trans {s d e : Dev} {as : List Nat} (h : s.RegsAt d as) (k : d.RegsAt e as) : s.RegsAt e as := by
  refine ⟨?_, h.2.trans k.2⟩
  obtain ⟨r, rfl⟩ := h.1
  obtain ⟨r', rfl⟩ := k.1
  exact ⟨_, rfl⟩

theorem Dev.ShowStep.refl (s : Dev) : s.ShowStep s := ⟨.refl s, .refl s _, rfl, fun _ => ⟨rfl, rfl⟩⟩

theorem Dev.ShowStep.trans {s d e : Dev} (h : s.ShowStep d) (k : d.ShowStep e) : s.ShowStep e :=
  ⟨h.toSameReads.trans k.toSameReads, h.at_regs.trans k.at_regs, k.ready.trans h.ready,
    fun p => ⟨(k.pairs p).1.trans (h.pairs p).1, (k.pairs p).2.trans (h.pairs p).2⟩⟩

section
variable (s : Dev)

theorem Dev.ShowStep.siShow {k : Nat} (hk : k < 8) : s.ShowStep (s.siShow k) := by
  have hat := s.siShow_regsAt k
  have hsto (p : Nat) : A.SAF_STO_STAT p ∉ [A.SAF_SI_STAT k] := by
    simp only [List.mem_singleton, A.SAF_STO_STAT, A.SAF_SI_STAT]; omega
  exact ⟨(s.siShow_islandOnly k hk).toSameReads, hat.mono (by simpa using siRegs_subset (siReg_mem hk)),
    (s.siShow_islandOnly k hk).ready, fun p => ⟨hat.bit _ (hsto p), hat.bit _ (hsto p)⟩⟩

theorem Dev.ShowStep.stoShow {p : Nat} (hp : p < 4) : s.ShowStep (s.stoShow p) := by
  have hat := s.stoShow_regsAt p
  have hi := ((Dev.PairStep.stoShow s p).pairsOnly hp).islandOnly
  refine ⟨hi.toSameReads, hat.mono (by simpa using stoRegs_subset (stoReg_mem hp)), hi.ready, fun q => ?_⟩
  by_cases h : q = p
  · subst h
    exact ⟨s.bit_stoShow_field q rfl (by decide) (by decide), s.bit_stoShow_field q rfl (by decide) (by decide)⟩
  · have hne : A.SAF_STO_STAT q ∉ [A.SAF_STO_STAT p] := by simpa using stoStat_inj h
    exact ⟨hat.bit _ hne, hat.bit _ hne⟩

/-- Fields of SAF_STAT from FAILS down to PWSET. -/
theorem Dev.ShowStep.stat {f : Fld} (v : Nat) (hf : f.ok = true) (h : 1 < f.lo) : s.ShowStep (s.set A.SAF_STAT f v) := by
  have hat : s.RegsAt (s.set A.SAF_STAT f v) [A.SAF_STAT] := (Dev.RegsAt.refl s _).set _ _ (List.mem_singleton_self _)
  have hsi (k : Nat) : A.SAF_SI_STAT k ∉ [A.SAF_STAT] := by
    simp only [List.mem_singleton, A.SAF_STAT, A.SAF_SI_STAT]; omega
  have hsto (p : Nat) : A.SAF_STO_STAT p ∉ [A.SAF_STAT] := by
    simp only [List.mem_singleton, A.SAF_STO_STAT, A.SAF_STAT]; omega
  have hfield {g : Fld} (hg : g.ok = true) (hlt : g.hi < f.lo) : (s.set A.SAF_STAT f v).bit A.SAF_STAT g = s.bit A.SAF_STAT g :=
    congrArg (· == 1) (s.get_set_field _ f g v hf hg (.inl hlt))
  exact ⟨⟨rfl, fun k _ => ⟨hat.bit _ (hsi k), hat.bit _ (hsi k)⟩, hfield rfl h⟩, hat.mono (by simpa using safStat_mem),
    hfield rfl (Nat.lt_of_succ_lt h), fun p => ⟨hat.bit _ (hsto p), hat.bit _ (hsto p)⟩⟩

/-- SAF_STAT as it is shown. -/
def Dev.statShown : Dev :=
  ((s.set A.SAF_STAT F.SAF_STAT_FAILS (if s.safReady then s.saf.fails else 0)).setBit A.SAF_STAT F.SAF_STAT_LOCKOUT
    (s.safReady && s.lockLeft != 0)).setBit A.SAF_STAT F.SAF_STAT_PWSET s.saf.hash.isSome

theorem Dev.safShow_eq : s.safShow = (s.statShown.each 8 Dev.siShow).each 4 Dev.stoShow := rfl

theorem Dev.ShowStep.statShown : s.ShowStep s.statShown :=
  ((Dev.ShowStep.stat s (f := F.SAF_STAT_FAILS) _ rfl (by decide)).trans
    (Dev.ShowStep.stat _ (f := F.SAF_STAT_LOCKOUT) _ rfl (by decide))).trans
    (Dev.ShowStep.stat _ (f := F.SAF_STAT_PWSET) _ rfl (by decide))

theorem Dev.ShowStep.safShow : s.ShowStep s.safShow := by
  have hins := foldl_keeps s.ShowStep Dev.siShow (upto 8) s.statShown
    (fun d k hk hd => hd.trans (.siShow d (List.mem_range.1 hk))) (.statShown s)
  rw [s.safShow_eq]
  exact foldl_keeps s.ShowStep Dev.stoShow (upto 4) _ (fun d p hp hd => hd.trans (.stoShow d (List.mem_range.1 hp))) hins

end

/-! ## The first cycle since the start (R283) -/

section
variable (s : Dev) (crc : Word)

/-- READY with the kept values. -/
def Dev.readyRaised : Dev :=
  ((s.set A.SAF_STAT F.SAF_STAT_READY 1).setReg A.SAF_CFG_CRC crc).setReg A.SAF_LOG_SEQ (BitVec.ofNat 32 s.saf.seq)

def cycleRegs : List Nat := A.SAF_CFG_CRC :: A.SAF_LOG_SEQ :: islandRegs

theorem Dev.safFirst_ready (h : s.safReady = true) : s.safFirst crc = s := if_pos h

theorem Dev.safFirst_start (h : s.safReady = false) : s.safFirst crc = (s.readyRaised crc).safShow := by
  rw [Dev.safFirst, h, if_neg Bool.false_ne_true]
  rfl

theorem Dev.readyRaised_regsAt : s.RegsAt (s.readyRaised crc) [A.SAF_STAT, A.SAF_CFG_CRC, A.SAF_LOG_SEQ] :=
  (((Dev.RegsAt.refl s _).set _ _ (by simp)).setReg _ (by simp)).setReg _ (by simp)

theorem Dev.bit_stat_readyRaised (f : Fld) :
    (s.readyRaised crc).bit A.SAF_STAT f = (s.set A.SAF_STAT F.SAF_STAT_READY 1).bit A.SAF_STAT f := by
  rw [Dev.bit, Dev.bit, Dev.readyRaised, Dev.get_setReg_other _ _ _ (by decide), Dev.get_setReg_other _ _ _ (by decide)]

theorem Dev.safReady_readyRaised : (s.readyRaised crc).safReady = true :=
  (s.bit_stat_readyRaised crc _).trans (s.bit_setBit_same A.SAF_STAT F.SAF_STAT_READY true rfl)

theorem Dev.ifault_readyRaised : (s.readyRaised crc).ifault = s.ifault :=
  (s.bit_stat_readyRaised crc _).trans (s.bit_setBit_field A.SAF_STAT F.SAF_STAT_READY F.SAF_STAT_IFAULT true rfl rfl (by decide))

/-- The registers of inputs and pairs are not those of the first cycle. -/
theorem islandReg_not_first (i : Nat) : A.SAF_SI_STAT i ∉ [A.SAF_STAT, A.SAF_CFG_CRC, A.SAF_LOG_SEQ] ∨ 8 ≤ i := by
  simp only [List.mem_cons, List.not_mem_nil, or_false, A.SAF_SI_STAT, A.SAF_STAT, A.SAF_CFG_CRC, A.SAF_LOG_SEQ]
  omega

theorem stoReg_not_first {p : Nat} (hp : p < 4) : A.SAF_STO_STAT p ∉ [A.SAF_STAT, A.SAF_CFG_CRC, A.SAF_LOG_SEQ] := by
  simp only [List.mem_cons, List.not_mem_nil, or_false, A.SAF_STO_STAT, A.SAF_STAT, A.SAF_CFG_CRC, A.SAF_LOG_SEQ]
  omega

/-- What the first cycle since the start shows, and that a later one leaves the registers. -/
structure Dev.FirstStep (s d : Dev) (crc : Word) : Prop extends s.SameReads d where
  at_regs : s.RegsAt d cycleRegs
  ready : d.safReady = true
  pairs : ∀ p, p < 4 → d.bit (A.SAF_STO_STAT p) F.SAF_STO_STAT_HWOPEN = s.bit (A.SAF_STO_STAT p) F.SAF_STO_STAT_HWOPEN ∧
    d.bit (A.SAF_STO_STAT p) F.SAF_STO_STAT_RSTW = s.bit (A.SAF_STO_STAT p) F.SAF_STO_STAT_RSTW
  again : s.safReady = true → d = s
  start : s.safReady = false → d.reg A.SAF_CFG_CRC = crc ∧ d.reg A.SAF_LOG_SEQ = BitVec.ofNat 32 s.saf.seq

theorem crc_not_island : A.SAF_CFG_CRC ∉ islandRegs ∧ A.SAF_LOG_SEQ ∉ islandRegs := by decide

theorem Dev.safFirst_spec : s.FirstStep (s.safFirst crc) crc := by
  cases h : s.safReady with
  | true =>
    rw [s.safFirst_ready crc h]
    exact ⟨.refl s, .refl s _, h, fun _ _ => ⟨rfl, rfl⟩, fun _ => rfl, fun h0 => absurd h (by simp [h0])⟩
  | false =>
    rw [s.safFirst_start crc h]
    have hat := s.readyRaised_regsAt crc
    have hshow := Dev.ShowStep.safShow (s.readyRaised crc)
    have hsi {k : Nat} (hk : k < 8) := (islandReg_not_first k).resolve_right (by omega)
    have hcrc : (s.readyRaised crc).reg A.SAF_CFG_CRC = crc :=
      (Dev.reg_setReg_other _ _ (by decide)).trans (Dev.reg_setReg_same _ _ _)
    have hseq : (s.readyRaised crc).reg A.SAF_LOG_SEQ = BitVec.ofNat 32 s.saf.seq := Dev.reg_setReg_same _ _ _
    refine ⟨SameReads.trans ⟨congrArg Saf.body hat.1.saf, fun k hk => ⟨hat.bit _ (hsi hk), hat.bit _ (hsi hk)⟩,
      s.ifault_readyRaised crc⟩ hshow.toSameReads, (hat.mono ?_).trans (hshow.at_regs.mono ?_),
      hshow.ready.trans (s.safReady_readyRaised crc), fun p hp => ?_, fun h1 => absurd h1 (by simp [h]), fun _ => ?_⟩
    · simp [cycleRegs, islandRegs]
    · exact fun a ha => .tail _ (.tail _ ha)
    · exact ⟨(hshow.pairs p).1.trans (hat.bit _ (stoReg_not_first hp)), (hshow.pairs p).2.trans (hat.bit _ (stoReg_not_first hp))⟩
    · exact ⟨(hshow.at_regs.2 _ crc_not_island.1).trans hcrc, (hshow.at_regs.2 _ crc_not_island.2).trans hseq⟩

end

/-! ## Pairs on and their switches (R291) -/

section
variable (s : Dev) (p : Nat)

/-- What lets a pair go on. -/
def Dev.mayGoOn : Bool := s.saf.enabled p && !s.pairDemand p && !s.pairLatched p && s.stoFree && s.filtersRun &&
  !(s.safOut p).on && !s.bit (A.SAF_STO_STAT p) F.SAF_STO_STAT_RSTW

/-- A pair that goes on. -/
def Dev.wentOn : Dev :=
  s.onSafOut p fun x => { x with on := true, byReset := false, next := s.firstPulses p, last := [], pulse := [] }

theorem Dev.pairOn_no (h : s.mayGoOn p = false) : s.pairOn p = s := if_neg (by rw [← Dev.mayGoOn, h]; exact Bool.false_ne_true)

theorem Dev.pairOn_yes (h : s.mayGoOn p = true) :
    s.pairOn p = ((s.wentOn p).set (A.SAF_STO_STAT p) F.SAF_STO_STAT_HWOPEN 0).stoShow p := if_pos h

theorem Dev.mayGoOn_of_mustOff (h : s.mustOff p = true) : s.mayGoOn p = false := by
  rw [Dev.mustOff, Bool.or_eq_true, Bool.or_eq_true, Bool.not_eq_true'] at h
  rcases h with (h | h) | h <;> simp [Dev.mayGoOn, h]

theorem Dev.pairOn_step : s.PairStep (s.pairOn p) p := by
  cases h : s.mayGoOn p with
  | false =>
    rw [s.pairOn_no p h]
    exact .refl s p
  | true =>
    rw [s.pairOn_yes p h]
    exact ((Dev.PairStep.onSafOut s p _).trans (.set _ _ _ _)).trans (.stoShow _ _)

/-- A pair that nothing keeps off is on after PAIR_ON, and its latch closed if it was off before. -/
theorem Dev.pairOn_free (hm : s.mustOff p = false) (hsto : s.stoFree = true) (hf : s.filtersRun = true)
    (hr : s.bit (A.SAF_STO_STAT p) F.SAF_STO_STAT_RSTW = false) : ((s.pairOn p).safOut p).on = true ∧
      ((s.safOut p).on = false → (s.pairOn p).bit (A.SAF_STO_STAT p) F.SAF_STO_STAT_HWOPEN = false) := by
  simp only [Dev.mustOff, Bool.or_eq_false_iff, Bool.not_eq_false'] at hm
  obtain ⟨⟨hdem, hlatch⟩, hen⟩ := hm
  have hmay : s.mayGoOn p = !(s.safOut p).on := by
    rw [Dev.mayGoOn, hen, hdem, hlatch, hsto, hf, hr]
    simp
  cases hon : (s.safOut p).on with
  | true =>
    rw [s.pairOn_no p (by rw [hmay, hon]; rfl)]
    exact ⟨hon, fun h => absurd h (by simp)⟩
  | false =>
    rw [s.pairOn_yes p (by rw [hmay, hon]; rfl)]
    refine ⟨?_, fun _ => (s.wentOn p).bit_set_hwopen p false⟩
    have hout : (s.wentOn p).safOut p = { s.safOut p with on := true, byReset := false, next := s.firstPulses p, last := [], pulse := [] } :=
      s.onSafOut_safOut_same p fun x => { x with on := true, byReset := false, next := s.firstPulses p, last := [], pulse := [] }
    rw [Dev.safOut, Dev.stoShow_saf]
    exact congrArg SafOut.on hout

/-- The switch of one pair. -/
def Dev.safSwitch : Dev := s.setBit (A.SAF_STO_STAT p) F.SAF_STO_STAT_SCOPEN (!(s.safOut p).on)

theorem Dev.safSwitch_step : s.PairStep (s.safSwitch p) p := .set _ _ _ _

variable {p} (hp : p < 4)
include hp

/-- What the last part of a safety cycle leaves of a pair. -/
theorem Dev.pairsSwitched_spec : ∃ y, s.PairsOnly y ∧ y.pairView p = s.pairView p ∧
    ((s.each 4 Dev.pairOn).safSwitches.safOut p) = (y.pairOn p).safOut p ∧
    (s.each 4 Dev.pairOn).safSwitches.bit (A.SAF_STO_STAT p) F.SAF_STO_STAT_SCOPEN = !((y.pairOn p).safOut p).on ∧
    (s.each 4 Dev.pairOn).safSwitches.bit (A.SAF_STO_STAT p) F.SAF_STO_STAT_HWOPEN =
      (y.pairOn p).bit (A.SAF_STO_STAT p) F.SAF_STO_STAT_HWOPEN := by
  obtain ⟨y, hy, hsame, hlast⟩ := (Dev.each_pairs (fun y q => y.pairOn_step q) s).2 p hp
  obtain ⟨z, -, hsame', hlast'⟩ := (Dev.each_pairs (fun y q => y.safSwitch_step q) (s.each 4 Dev.pairOn)).2 p hp
  have hout := Dev.safOut_of_view (hsame'.trans hlast)
  refine ⟨y, hy, hsame, (Dev.safOut_of_view hlast').trans hout, (Dev.bit_of_view hlast' _).trans ?_,
    (Dev.bit_of_view hlast' _).trans ?_⟩
  · rw [← hout]
    exact z.bit_setBit_same _ _ _ rfl
  · exact (z.bit_setBit_field _ _ _ _ rfl rfl (by decide)).trans (Dev.bit_of_view (hsame'.trans hlast) _)

end

/-! ## The cycle (R283) -/

section
variable (s : Dev) (ok : Bool)

/-- The device after the self-test of a cycle. -/
def Dev.tested : Dev := if ok then s else s.ifaultSet

/-- What the self-test of a cycle leaves. -/
structure Dev.TestStep (s d : Dev) (ok : Bool) : Prop where
  frame : s.IslandFramed d (if ok then 0 else if s.ifault then 0 else 1)
  ins : d.saf.ins = s.saf.ins
  ready : d.safReady = s.safReady
  ifault : d.ifault = (s.ifault || !ok)
  pairs : ∀ p, p < 4 → s.OnOrOpen d p

theorem Dev.TestStep.refl_of {s : Dev} {ok : Bool} (h : ok = true ∨ s.ifault = true) : s.TestStep s ok := by
  refine ⟨?_, rfl, rfl, ?_, fun p _ => .of_view rfl⟩
  · have hzero : (if ok then 0 else if s.ifault then 0 else 1) = 0 := by rcases h with h | h <;> simp [h]
    rw [hzero]
    exact (Dev.IslandOnly.refl s).toIslandFramed
  · rcases h with h | h <;> simp [h]

theorem Dev.tested_spec : s.TestStep (s.tested ok) ok := by
  cases ok with
  | true => exact .refl_of (.inl rfl)
  | false =>
    cases h : s.ifault with
    | true =>
      rw [Dev.tested, if_neg Bool.false_ne_true, s.ifaultSet_of_fault h]
      exact .refl_of (.inr h)
    | false =>
      obtain ⟨hframe, hfault, hready, hins, hoff⟩ := s.ifaultSet_spec h
      rw [Dev.tested, if_neg Bool.false_ne_true]
      exact ⟨by simpa [h] using hframe, hins, hready, by simp [hfault], fun p hp hon => .inr ((hoff p hp).2 hon)⟩

variable (crc : Word)

/-- The device of a cycle before its pairs are switched. -/
def Dev.cycleJudged : Dev := ((s.safFirst crc).tested ok).pairsJudge

theorem Dev.safetyCycle_eq :
    s.safetyCycle ok = ((s.cycleJudged ok (crcWords s.saf.body)).each 4 Dev.pairOn).safSwitches := rfl

theorem Dev.pairsSwitched_pairsOnly (s : Dev) : s.PairsOnly (s.each 4 Dev.pairOn).safSwitches :=
  ((Dev.each_pairs (fun y q => y.pairOn_step q) s).1).trans (Dev.each_pairs (fun y q => y.safSwitch_step q) _).1

/-- From its first part on a cycle is framed. -/
theorem Dev.safetyCycle_framed : (s.safFirst (crcWords s.saf.body)).IslandFramed (s.safetyCycle ok)
      (if ok then 0 else if (s.safFirst (crcWords s.saf.body)).ifault then 0 else 1) ∧
    (s.safetyCycle ok).saf.ins = (s.safFirst (crcWords s.saf.body)).saf.ins ∧
    (s.safetyCycle ok).safReady = (s.safFirst (crcWords s.saf.body)).safReady ∧
    (s.safetyCycle ok).ifault = ((s.safFirst (crcWords s.saf.body)).ifault || !ok) := by
  rw [s.safetyCycle_eq, Dev.cycleJudged]
  generalize s.safFirst (crcWords s.saf.body) = y
  have ht := y.tested_spec ok
  have hj := (y.tested ok).pairsJudge_pairsOnly.trans (Dev.pairsSwitched_pairsOnly _)
  refine ⟨ht.frame.trans hj.islandOnly.toIslandFramed, ?_, hj.islandOnly.ready.trans ht.ready, hj.islandOnly.ifault.trans ht.ifault⟩
  obtain ⟨r, o, hd⟩ := hj.frame
  rw [hd]
  exact ht.ins

variable {p : Nat} (hp : p < 4)
include hp

/-- A pair with a demand, a latch or no configuration, or in a cycle whose self-test failed, is off at its end. -/
theorem Dev.safetyCycle_off (h : ok = false ∨ s.mustOff p = true) : s.IsOff (s.safetyCycle ok) p ∧
    (s.safetyCycle ok).bit (A.SAF_STO_STAT p) F.SAF_STO_STAT_SCOPEN = true := by
  have hfirst := s.safFirst_spec (crcWords s.saf.body)
  rw [s.safetyCycle_eq, Dev.cycleJudged]
  generalize s.safFirst (crcWords s.saf.body) = y at *
  have ht := y.tested_spec ok
  have hsaf := hfirst.at_regs.1.saf
  have hmust : (y.tested ok).mustOff p = true := by
    cases ok with
    | false =>
      exact Dev.mustOff_of_latched (((y.tested false).pairLatched_iff p).2 (.inl (by rw [ht.ifault, Bool.not_false, Bool.or_true])))
    | true =>
      refine (hfirst.mustOff ?_ fun k _ => ?_).trans (h.resolve_left (by simp))
      · rw [Dev.safOut, hsaf]; rfl
      · rw [Dev.safIn, hsaf]; rfl
  have hon : s.OnOrOpen (y.tested ok) p := by
    refine fun hon => ht.pairs p hp ?_
    rw [Dev.safOut, hsaf]
    exact hon
  obtain ⟨hoff, hopen⟩ := hon.isOff hp hmust
  have hmust' := ((y.tested ok).pairsJudge_pairsOnly.mustOff ((y.tested ok).pairsJudge_judged hp).1.ofault).trans hmust
  obtain ⟨z, hz, hsame, hout, hsc, hhw⟩ := (y.tested ok).pairsJudge.pairsSwitched_spec hp
  have hzout := Dev.safOut_of_view hsame
  rw [z.pairOn_no p (z.mayGoOn_of_mustOff p ((hz.mustOff (by rw [hzout])).trans hmust'))] at hout hsc hhw
  refine ⟨⟨by rw [hout, hzout, hoff], fun h => ?_⟩, by rw [hsc, hzout, hoff]; rfl⟩
  rw [hhw, Dev.bit_of_view hsame, hopen h]

/-- A pair that nothing keeps off is on at the end of a cycle. -/
theorem Dev.safetyCycle_on (hok : ok = true) (hm : s.mustOff p = false) (hsto : s.stoFree = true) (hf : s.filtersRun = true)
    (hr : s.bit (A.SAF_STO_STAT p) F.SAF_STO_STAT_RSTW = false) : ((s.safetyCycle ok).safOut p).on = true ∧
      (s.safetyCycle ok).bit (A.SAF_STO_STAT p) F.SAF_STO_STAT_SCOPEN = false ∧
      ((s.safOut p).on = false → (s.safetyCycle ok).bit (A.SAF_STO_STAT p) F.SAF_STO_STAT_HWOPEN = false) := by
  subst hok
  have hfirst := s.safFirst_spec (crcWords s.saf.body)
  rw [s.safetyCycle_eq, Dev.cycleJudged, Dev.tested, if_pos rfl]
  generalize s.safFirst (crcWords s.saf.body) = y at *
  obtain ⟨r, hy⟩ := hfirst.at_regs.1
  have hyout : y.safOut p = s.safOut p := by rw [hy]; rfl
  have hmust : y.mustOff p = false := (hfirst.mustOff (by rw [hyout]) fun k _ => by rw [hy]; rfl).trans hm
  have hdem : y.pairDemand p = false := by
    rw [Dev.mustOff, Bool.or_eq_false_iff, Bool.or_eq_false_iff] at hmust
    exact hmust.1.1
  obtain ⟨hj, hjr⟩ := y.pairsJudge_judged hp
  have honly := y.pairsJudge_pairsOnly
  obtain ⟨z, hz, hsame, hout, hsc, hhw⟩ := y.pairsJudge.pairsSwitched_spec hp
  have hzout := Dev.safOut_of_view hsame
  have hzy := honly.trans hz
  have hzon : (z.safOut p).on = (s.safOut p).on := by rw [hzout, hj.on, hmust, Bool.not_false, Bool.and_true, hyout]
  obtain ⟨hon, hopen⟩ := z.pairOn_free p ((hzy.mustOff (by rw [hzout, hj.ofault])).trans hmust)
    (hzy.islandOnly.toIslandFramed.stoFree.trans (by rw [hy]; exact hsto))
    (hzy.islandOnly.toIslandFramed.filtersRun.trans (by rw [hy]; exact hf))
    (by rw [Dev.bit_of_view hsame, hjr, hdem, if_neg Bool.false_ne_true, (hfirst.pairs p hp).2, hr])
  exact ⟨by rw [hout, hon], by rw [hsc, hon]; rfl, fun h => by rw [hhw, hopen (hzon.trans h)]⟩

end

/-! ## Test pulses (R288) -/

section
variable (s : Dev) (p b : Nat)

/-- A test pulse is due. -/
def Dev.pulseDue : Prop := (s.safOut p).on = true ∧ s.saf.tpen p = true ∧ s.stoFree = true ∧
  tabGet 0 (s.safOut p).next b ≤ s.ticks ∧ tabGet none (s.safOut p).pulse b = none ∧
  (tabGet 0 (s.safOut p).last (1 - b) = 0 ∨ tabGet 0 (s.safOut p).last (1 - b) + 125000000 ≤ s.ticks + 1)

/-- A pair in a test pulse. -/
def SafOut.pulsed (y : SafOut) (b t last next : Nat) : SafOut :=
  { y with pulse := tabPut none y.pulse b (some t), last := tabPut 0 y.last b last, next := tabPut 0 y.next b next }

/-- A pair whose test pulse starts now. -/
def Dev.pulseStarted : Dev :=
  (s.onSafOut p fun y => y.pulsed b (s.ticks + pulseTicks s.saf p) (s.ticks + 1) (s.ticks + tpiTicks s.saf p)).stoShow p

theorem Dev.testPulse_due (h : s.pulseDue p b) : s.testPulse p b = s.pulseStarted p b := by
  obtain ⟨hon, hen, hfree, hnext, hnone, hother⟩ := h
  refine if_pos ?_
  rw [hon, hen, hfree, hnone]
  simpa [hnext] using hother

theorem Dev.testPulse_idle (h : ¬s.pulseDue p b) : s.testPulse p b = s := by
  refine if_neg fun hc => h ?_
  simpa [Dev.pulseDue, and_assoc] using hc

theorem Dev.pulseStarted_step : s.PairStep (s.pulseStarted p b) p := (Dev.PairStep.onSafOut s p _).trans (.stoShow _ _)

theorem Dev.pulseStarted_safOut : (s.pulseStarted p b).safOut p =
    (s.safOut p).pulsed b (s.ticks + pulseTicks s.saf p) (s.ticks + 1) (s.ticks + tpiTicks s.saf p) := by
  rw [Dev.safOut, Dev.pulseStarted, Dev.stoShow_saf]
  exact s.onSafOut_safOut_same p (·.pulsed b (s.ticks + pulseTicks s.saf p) (s.ticks + 1) (s.ticks + tpiTicks s.saf p))

theorem SafOut.pulsed_not_empty (y : SafOut) (t last next : Nat) : (y.pulsed b t last next).pulse.isEmpty = false := by
  cases h : (y.pulsed b t last next).pulse with
  | cons x xs => rfl
  | nil =>
    have hget := tabGet_put_same none y.pulse b (some t)
    rw [show tabPut none y.pulse b (some t) = [] from h] at hget
    exact absurd hget (by simp [tabGet, tabFind])

theorem Dev.bit_on_pulseStarted : (s.pulseStarted p b).bit (A.SAF_STO_STAT p) F.SAF_STO_STAT_ON = false := by
  rw [Dev.pulseStarted, Dev.bit_stoShow_on, s.onSafOut_safOut_same p, SafOut.pulsed_not_empty, Bool.and_false]

/-- A pair whose test pulse has ended, with what the pin showed. -/
def Dev.pulseEnded (low : Bool) : Dev :=
  ((s.onSafOut p fun x => { x with pulse := tabPut none x.pulse b none, ofault := x.ofault || !low }).setBit
    (A.SAF_STO_STAT p) F.SAF_STO_STAT_TPLAST low).stoShow p

theorem Dev.testPulseEnd_done {t : Nat} (low : Bool) (ht : tabGet none (s.safOut p).pulse b = some t) (h : t ≤ s.ticks) :
    s.testPulseEnd p b low =
      if low then s.pulseEnded p b low else ((s.pulseEnded p b low).offer 0x47 0x0B .stoFault).pairsJudge := by
  rw [Dev.testPulseEnd, ht]
  exact if_neg (Nat.not_lt.2 h)

theorem Dev.testPulseEnd_early (low : Bool) (h : ∀ t, tabGet none (s.safOut p).pulse b = some t → s.ticks < t) :
    s.testPulseEnd p b low = s := by
  rw [Dev.testPulseEnd]
  split
  · next t ht => exact if_pos (h t ht)
  · rfl

variable (low : Bool)

theorem Dev.pulseEnded_step : s.PairStep (s.pulseEnded p b low) p :=
  ((Dev.PairStep.onSafOut s p _).trans (.set _ _ _ _)).trans (.stoShow _ _)

theorem Dev.pulseEnded_safOut : (s.pulseEnded p b low).safOut p =
    { s.safOut p with pulse := tabPut none (s.safOut p).pulse b none, ofault := (s.safOut p).ofault || !low } := by
  rw [Dev.safOut, Dev.pulseEnded, Dev.stoShow_saf]
  exact s.onSafOut_safOut_same p fun x => { x with pulse := tabPut none x.pulse b none, ofault := x.ofault || !low }

theorem Dev.bit_tplast_pulseEnded : (s.pulseEnded p b low).bit (A.SAF_STO_STAT p) F.SAF_STO_STAT_TPLAST = low :=
  (Dev.bit_stoShow_field _ _ rfl (by decide) (by decide)).trans (Dev.bit_setBit_same _ _ _ _ rfl)

theorem Dev.pulseEnded_onOrOpen : s.OnOrOpen (s.pulseEnded p b low) p := by
  intro hon
  rw [s.pulseEnded_safOut]
  exact .inl hon

theorem Dev.PairStep.saf_frame {s d : Dev} {p : Nat} (h : s.PairStep d p) :
    d = { s with regs := d.regs, saf := d.saf } ∧ d.saf.ins = s.saf.ins := by
  obtain ⟨r, o, rfl⟩ := h.frame
  exact ⟨rfl, rfl⟩

end

section
variable {s : State} (hon : s.dev.on = true) (p : Fin 4) (b : Fin 2)
include hon

/-- What the start of a test pulse leaves (R288). -/
theorem testPulse_does (h : s.dev.pulseDue p b) : Does (.testPulse p b) s fun d =>
    d = { s.dev with regs := d.regs, saf := d.saf } ∧ s.dev.RegsKept d [A.SAF_STO_STAT p] ∧
      d.bit (A.SAF_STO_STAT p) F.SAF_STO_STAT_ON = false ∧ (∀ q, q ≠ p.val → d.safOut q = s.dev.safOut q) ∧
      d.saf.ins = s.dev.saf.ins ∧ d.safOut p = (s.dev.safOut p).pulsed b (s.dev.ticks + pulseTicks s.dev.saf p)
        (s.dev.ticks + 1) (s.dev.ticks + tpiTicks s.dev.saf p) := by
  refine Does.of_go (f := (·.testPulse p.val b.val)) rfl hon ?_
  have hstep := s.dev.pulseStarted_step p b
  rw [s.dev.testPulse_due p b h]
  exact ⟨hstep.saf_frame.1, hstep.regs, s.dev.bit_on_pulseStarted p b, hstep.outs, hstep.saf_frame.2,
    s.dev.pulseStarted_safOut p b⟩

variable {t : Nat} (ht : tabGet none (s.dev.safOut p).pulse b = some t) (h : t ≤ s.dev.ticks)
include ht h

/-- What the end of a test pulse with a pin that is low leaves (R288). -/
theorem testPulseEnd_low_does : Does (.testPulseEnd p b true) s fun d => d = { s.dev with regs := d.regs, saf := d.saf } ∧
    s.dev.RegsKept d [A.SAF_STO_STAT p] ∧ d.bit (A.SAF_STO_STAT p) F.SAF_STO_STAT_TPLAST = true ∧
    d.safOut p = { s.dev.safOut p with pulse := tabPut none (s.dev.safOut p).pulse b none } := by
  refine Does.of_go (f := (·.testPulseEnd p.val b.val true)) rfl hon ?_
  have hstep := s.dev.pulseEnded_step p b true
  have hout := s.dev.pulseEnded_safOut p b true
  rw [Bool.not_true, Bool.or_false] at hout
  rw [s.dev.testPulseEnd_done p b true ht h, if_pos rfl]
  exact ⟨hstep.saf_frame.1, hstep.regs, s.dev.bit_tplast_pulseEnded p b true, hout⟩

/-- What the end of a test pulse with a pin that is not low leaves (R288). -/
theorem testPulseEnd_high_does : Does (.testPulseEnd p b false) s fun d => s.dev.Framed d ∧ s.dev.Recorded d 1 ∧
    d.bit (A.SAF_STO_STAT p) F.SAF_STO_STAT_TPLAST = false ∧ (d.safOut p).ofault = true ∧ s.dev.IsOff d p := by
  refine Does.of_go (f := (·.testPulseEnd p.val b.val false)) rfl hon ?_
  have hframe := (((s.dev.pulseEnded_step p b false).pairsOnly p.isLt).islandOnly.zero_trans
    (.offer _ 0x0B .stoFault)).trans_zero (((s.dev.pulseEnded p b false).offer 0x47 0x0B .stoFault).pairsJudge_pairsOnly.islandOnly)
  have hj := (((s.dev.pulseEnded p b false).offer 0x47 0x0B .stoFault).pairsJudge_judged p.isLt).1
  have hfault : ((s.dev.pulseEnded p b false).safOut p).ofault = true := by
    rw [s.dev.pulseEnded_safOut p b false, Bool.not_false, Bool.or_true]
  have hoff : s.dev.OnOrOpen ((s.dev.pulseEnded p b false).offer 0x47 0x0B .stoFault) p := s.dev.pulseEnded_onOrOpen p b false
  rw [s.dev.testPulseEnd_done p b false ht h, if_neg Bool.false_ne_true]
  refine ⟨hframe.framed, hframe.recorded, hj.tplast.trans (s.dev.bit_tplast_pulseEnded p b false), hj.ofault.trans hfault,
    hoff.isOff p.isLt (Dev.mustOff_of_latched ?_)⟩
  exact (Dev.pairLatched_iff _ _).2 (.inr (.inl hfault))

end

section
variable {s : State} (hon : s.dev.on = true) (ok : Bool)
include hon

/-- What a safety cycle leaves (R283, R291). -/
theorem safetyCycle_does : Does (.safetyCycle ok) s fun d => d.safReady = true ∧
    d = { s.dev with regs := d.regs, saf := d.saf, scribe := d.scribe, free := d.free } ∧
    s.dev.RegsKept d cycleRegs ∧ d.saf = { s.dev.saf with outs := d.saf.outs } ∧
    (s.dev.safReady = true → s.dev.RegsKept d islandRegs) ∧
    (s.dev.safReady = false → d.reg A.SAF_CFG_CRC = crcWords s.dev.saf.body ∧
      d.reg A.SAF_LOG_SEQ = BitVec.ofNat 32 s.dev.saf.seq) ∧
    (∀ p, p < 4 →
      (ok = false ∨ s.dev.pairDemand p = true ∨ s.dev.pairLatched p = true ∨ s.dev.saf.enabled p = false →
        s.dev.IsOff d p ∧ d.bit (A.SAF_STO_STAT p) F.SAF_STO_STAT_SCOPEN = true) ∧
      (ok = true → s.dev.saf.enabled p = true → s.dev.pairDemand p = false → s.dev.pairLatched p = false → s.dev.stoFree = true →
        s.dev.filtersRun = true → s.dev.bit (A.SAF_STO_STAT p) F.SAF_STO_STAT_RSTW = false → (d.safOut p).on = true ∧
        d.bit (A.SAF_STO_STAT p) F.SAF_STO_STAT_SCOPEN = false ∧
        ((s.dev.safOut p).on = false → d.bit (A.SAF_STO_STAT p) F.SAF_STO_STAT_HWOPEN = false))) ∧
    (ok = true → s.dev.Recorded d 0 ∧ d.ifault = s.dev.ifault) ∧
    (ok = false → d.ifault = true ∧ s.dev.Recorded d (if s.dev.ifault then 0 else 1)) := by
  obtain ⟨x⟩ := s
  refine Does.of_go (f := (·.safetyCycle ok)) rfl hon ?_
  dsimp only at hon ⊢
  have hfirst := x.safFirst_spec (crcWords x.saf.body)
  obtain ⟨hframe, hins, hready, hfault⟩ := x.safetyCycle_framed ok
  have hoff {p : Nat} (hp : p < 4) := x.safetyCycle_off ok hp
  have hup {p : Nat} (hp : p < 4) := x.safetyCycle_on ok hp
  generalize x.safFirst (crcWords x.saf.body) = y at *
  obtain ⟨heq, hregs, hsaf⟩ := hframe.framed
  have hrec := hframe.recorded
  have hkept := hfirst.at_regs.2.trans (hregs.mono fun a ha => .tail _ (.tail _ ha))
  obtain ⟨r, rfl⟩ := hfirst.at_regs.1
  generalize x.safetyCycle ok = d at *
  refine ⟨hready.trans hfirst.ready, heq, hkept, hsaf.trans (by rw [hins]), fun h => ?_, fun h => ?_, fun p hp =>
    ⟨fun h => hoff hp (h.imp_right ?_), fun h hen hdem hlatch hsto hf hr => ?_⟩, fun h => ?_, fun h => ?_⟩
  · rw [← hfirst.again h]
    exact hregs
  · obtain ⟨hcrc, hseq⟩ := hfirst.start h
    exact ⟨(hregs _ crc_not_island.1).trans hcrc, (hregs _ crc_not_island.2).trans hseq⟩
  · rintro (h | h | h) <;> simp [Dev.mustOff, h]
  · exact hup hp h (by simp [Dev.mustOff, hen, hdem, hlatch]) hsto hf hr
  · subst h
    exact ⟨hrec, by rw [hfault, hfirst.ifault, Bool.not_true, Bool.or_false]⟩
  · subst h
    exact ⟨by rw [hfault, Bool.not_false, Bool.or_true], hfirst.ifault ▸ hrec⟩

end

/-! ## Steps of one input's state -/

/-- Steps of an input's state: DISC of every input, the pairs and the registers stay, SEQOK is kept. -/
structure Dev.InputKept (s d : Dev) : Prop where
  island : s.IslandOnly d 0
  disc : ∀ j, (d.safIn j).disc = (s.safIn j).disc
  seqok : ∀ j, (s.safIn j).seqok = true → (d.safIn j).seqok = true
  outs : d.saf.outs = s.saf.outs
  regs : d.regs = s.regs

section
variable {s d : Dev} {k : Nat}

theorem Dev.InputKept.refl (s : Dev) : s.InputKept s := ⟨.refl s, fun _ => rfl, fun _ h => h, rfl, rfl⟩

theorem Dev.InputKept.trans {e : Dev} (h : s.InputKept d) (g : d.InputKept e) : s.InputKept e :=
  ⟨h.island.trans_zero g.island, fun j => (g.disc j).trans (h.disc j), fun j hj => g.seqok j (h.seqok j hj),
    g.outs.trans h.outs, g.regs.trans h.regs⟩

theorem Dev.InputKept.onSafIn (s : Dev) (k : Nat) (f : SafIn → SafIn) (hd : (f (s.safIn k)).disc = (s.safIn k).disc)
    (hs : (s.safIn k).seqok = true → (f (s.safIn k)).seqok = true) : s.InputKept (s.onSafIn k f) := by
  have hsame := s.onSafIn_safIn_same k f
  refine ⟨.onSafIn s k f, fun j => ?_, fun j hj => ?_, rfl, rfl⟩
  · by_cases h : j = k
    · rw [h, hsame, hd]
    · rw [s.onSafIn_safIn_other f h]
  · by_cases h : j = k
    · rw [h] at hj ⊢
      rw [hsame]
      exact hs hj
    · rwa [s.onSafIn_safIn_other f h]

theorem Dev.InputKept.pairView (h : s.InputKept d) (p : Nat) : d.pairView p = s.pairView p := by
  rw [Dev.pairView, Dev.safOut, h.outs, Dev.reg, h.regs]
  rfl

end

/-! ## The discrepancy timer (R285) -/

section
variable (s : Dev) (k : Nat) (chB dem : Bool)

/-- The press of an input is as it was. -/
def Dev.PressKept (s d : Dev) (k : Nat) : Prop :=
  s.InputKept d ∧ (d.safIn k).bothAt = (s.safIn k).bothAt ∧ (d.safIn k).stood = (s.safIn k).stood

theorem Dev.PressKept.timer (t : Option (Nat × Bool × Bool)) : s.PressKept (s.onSafIn k fun x => { x with timer := t }) k := by
  have hsame := s.onSafIn_safIn_same k fun x => { x with timer := t }
  exact ⟨.onSafIn s k _ rfl fun h => h, by rw [hsame], by rw [hsame]⟩

/-- The timer starts unless the other channel has changed as well. -/
def Dev.timed : Dev :=
  if s.chDemand k (!chB) = dem then s else s.onSafIn k fun x => { x with timer := some (s.ticks, chB, dem) }

theorem Dev.timed_pressKept : s.PressKept (s.timed k chB dem) k := by
  rw [Dev.timed]
  split
  · exact ⟨.refl s, rfl, rfl⟩
  · exact .timer s k _

/-- The timer of an input starts, is satisfied, or runs on. -/
theorem Dev.discStep_pressKept : s.PressKept (s.discStep k chB dem).1 k := by
  rw [Dev.discStep]
  dsimp only
  split
  · exact s.timed_pressKept k chB dem
  · split
    · have hnone := Dev.PressKept.timer s k none
      have hstart := (s.onSafIn k fun x => { x with timer := none }).timed_pressKept k chB dem
      exact ⟨hnone.1.trans hstart.1, hstart.2.1.trans hnone.2.1, hstart.2.2.trans hnone.2.2⟩
    · exact ⟨.refl s, rfl, rfl⟩

end

/-! ## Presses (R286, R292) -/

/-- An input whose channels are no longer both in demand: how long they were is kept. -/
def SafIn.released (x : SafIn) (now : Nat) : SafIn :=
  if x.bothAt = 0 then x else { x with stood := some (now + 1 - x.bothAt), bothAt := 0 }

theorem SafIn.released_kept (x : SafIn) (now : Nat) : (x.released now).disc = x.disc ∧ (x.released now).seqok = x.seqok := by
  rw [SafIn.released]
  split <;> exact ⟨rfl, rfl⟩

/-- An input with both channels in demand. -/
def SafIn.pressed (x : SafIn) (now : Nat) : SafIn := { x with both := x.disc, bothAt := now + 1, stood := none }

/-- An input whose channels are at rest again. -/
def SafIn.rested (x : SafIn) (sat : Bool) : SafIn :=
  { x with seqok := x.seqok || (x.disc && x.both && sat), both := false, stood := none }

section
variable (s : Dev) (k : Nat) (sat : Bool)

theorem Dev.pressStep_cases : (s.inDemand k = true ∧ s.pressStep k sat = (s.onSafIn k (·.pressed s.ticks), none)) ∨
    (s.inDemand k = true ∧ s.pressStep k sat = (s.onSafIn k (·.released s.ticks), none)) ∨
    (s.inDemand k = false ∧ s.pressStep k sat =
      (s.onSafIn k (fun x => (x.released s.ticks).rested sat), some ((s.safIn k).released s.ticks).stood)) := by
  have hor : s.inDemand k = (s.chDemand k false || s.chDemand k true) := rfl
  rw [Dev.pressStep]
  dsimp only
  rw [hor]
  cases ha : s.chDemand k false <;> cases hb : s.chDemand k true
  · exact .inr (.inr ⟨rfl, rfl⟩)
  · exact .inr (.inl ⟨rfl, rfl⟩)
  · exact .inr (.inl ⟨rfl, rfl⟩)
  · exact .inl ⟨rfl, rfl⟩

theorem Dev.pressStep_inputKept : s.InputKept (s.pressStep k sat).1 := by
  obtain ⟨hdisc, hseq⟩ := (s.safIn k).released_kept s.ticks
  obtain ⟨-, h⟩ | ⟨-, h⟩ | ⟨-, h⟩ := s.pressStep_cases k sat <;> rw [h]
  · exact .onSafIn s k (·.pressed s.ticks) rfl fun h => h
  · exact .onSafIn s k (·.released s.ticks) hdisc fun h => hseq.trans h
  · refine .onSafIn s k (fun x => (x.released s.ticks).rested sat) hdisc fun h => ?_
    rw [SafIn.rested, hseq, h, Bool.true_or]

/-- A press has not ended while a channel is in demand. -/
theorem Dev.pressStep_inDemand (h : s.inDemand k = true) : (s.pressStep k sat).2 = none := by
  obtain ⟨-, he⟩ | ⟨-, he⟩ | ⟨hn, -⟩ := s.pressStep_cases k sat
  · rw [he]
  · rw [he]
  · exact absurd h (by simp [hn])

/-- A press that ends with the channels one after another. -/
theorem Dev.pressStep_over (h : s.inDemand k = false) (hb : (s.safIn k).bothAt = 0) :
    (s.pressStep k sat).2 = some (s.safIn k).stood := by
  have hrel : (s.safIn k).released s.ticks = s.safIn k := if_pos hb
  obtain ⟨hd, -⟩ | ⟨hd, -⟩ | ⟨-, he⟩ := s.pressStep_cases k sat
  · exact absurd hd (by simp [h])
  · exact absurd hd (by simp [h])
  · rw [he, hrel]

end

/-! ## Resets (R292) -/

section
variable (s : Dev) (mask j : Nat)

/-- A reset clears the fulfilled latch of an input. -/
def Dev.inputReset : Dev :=
  let x := s.safIn j
  if (s.saf.mask j &&& mask) != 0 && x.disc && x.seqok then
    (s.onSafIn j fun x => { x with disc := false, seqok := false }).siShow j
  else s

/-- A reset clears OFAULT of a pair. -/
def Dev.faultCleared : Dev := (s.onSafOut j fun x => { x with ofault := false }).stoShow j

/-- A reset lets a pair of its MASK go on that no demand and no latch concerns. -/
def Dev.pairReset : Dev :=
  if mask.testBit j then
    let s := s.faultCleared j
    if s.pairDemand j || s.pairLatched j then s
    else (s.onSafOut j fun x => { x with byReset := !x.on }).set (A.SAF_STO_STAT j) F.SAF_STO_STAT_RSTW 0
  else s

theorem Dev.safetyReset_eq (k : Nat) : s.safetyReset k =
    (s.each 8 fun y j => y.inputReset (s.saf.mask k) j).each 4 fun y p => y.pairReset (s.saf.mask k) p := rfl

end

/-! ## Latches that a reset clears (R286) -/

/-- A reset's steps over the inputs: latches only clear, DEMAND of an input stays or shows its channels. -/
structure Dev.LatchesCleared (s d : Dev) : Prop where
  island : s.IslandOnly d 0
  disc : ∀ j, (s.safIn j).disc = false → (d.safIn j).disc = false
  demand : ∀ k, k < 8 → d.bit (A.SAF_SI_STAT k) F.SAF_SI_STAT_DEMAND = s.bit (A.SAF_SI_STAT k) F.SAF_SI_STAT_DEMAND ∨
    d.bit (A.SAF_SI_STAT k) F.SAF_SI_STAT_DEMAND = s.inDemand k
  outs : d.saf.outs = s.saf.outs
  pairs : s.RegsKept d siRegs

theorem Dev.LatchesCleared.refl (s : Dev) : s.LatchesCleared s := ⟨.refl s, fun _ h => h, fun _ _ => .inl rfl, rfl, .refl s _⟩

theorem Dev.LatchesCleared.trans {s d e : Dev} (h : s.LatchesCleared d) (g : d.LatchesCleared e) : s.LatchesCleared e := by
  refine ⟨h.island.trans_zero g.island, fun j hj => g.disc j (h.disc j hj), fun k hk => ?_, g.outs.trans h.outs, h.pairs.trans g.pairs⟩
  rcases g.demand k hk with hg | hg
  · rw [hg]
    exact h.demand k hk
  · exact .inr (hg.trans (h.island.inDemand hk))

section
variable (s : Dev) (mask : Nat) {j : Nat}

/-- An input whose latch is cleared. -/
def Dev.latchCleared (s : Dev) (j : Nat) : Dev := (s.onSafIn j fun x => { x with disc := false, seqok := false }).siShow j

theorem Dev.latchCleared_disc (j : Nat) : ((s.latchCleared j).safIn j).disc = false := by
  rw [Dev.safIn, Dev.latchCleared, Dev.siShow_saf]
  exact congrArg SafIn.disc (s.onSafIn_safIn_same j fun x => { x with disc := false, seqok := false })

theorem Dev.latchCleared_other (j : Nat) {i : Nat} (h : i ≠ j) : (s.latchCleared j).safIn i = s.safIn i := by
  rw [Dev.safIn, Dev.latchCleared, Dev.siShow_saf]
  exact s.onSafIn_safIn_other (fun x => { x with disc := false, seqok := false }) h

theorem Dev.latchCleared_spec (hj : j < 8) : s.LatchesCleared (s.latchCleared j) := by
  have hat := (s.onSafIn j fun x => { x with disc := false, seqok := false }).siShow_regsAt j
  refine ⟨(Dev.IslandOnly.onSafIn s j _).trans_zero (Dev.siShow_islandOnly _ j hj), fun i hi => ?_, fun k hk => ?_,
    (congrArg Saf.outs (Dev.siShow_saf (s.onSafIn j _) j) :), hat.2.mono (by simpa using siReg_mem hj)⟩
  · by_cases h : i = j
    · rw [h, s.latchCleared_disc]
    · rw [s.latchCleared_other j h, hi]
  · by_cases h : k = j
    · subst h
      exact .inr (Dev.bit_siShow_demand _ k)
    · exact .inl (hat.bit _ (by simpa using siStat_inj h))

theorem Dev.inputReset_cases (j : Nat) : s.inputReset mask j = s.latchCleared j ∨ s.inputReset mask j = s ∧
    ((s.saf.mask j &&& mask) = 0 ∨ (s.safIn j).disc = false ∨ (s.safIn j).seqok = false) := by
  rw [Dev.inputReset]
  split
  · exact .inl rfl
  · next h =>
    refine .inr ⟨rfl, ?_⟩
    simp only [Bool.and_eq_true, bne_iff_ne, ne_eq, not_and, Bool.not_eq_true] at h
    by_cases hm : (s.saf.mask j &&& mask) = 0
    · exact .inl hm
    · cases hd : (s.safIn j).disc with
      | false => exact .inr (.inl rfl)
      | true => exact .inr (.inr (h ⟨hm, hd⟩))

/-- A reset clears the fulfilled latches of the inputs of its MASK and leaves the others. -/
theorem Dev.inputsReset_spec : s.LatchesCleared (s.each 8 fun y j => y.inputReset mask j) ∧
    ∀ j, j < 8 → (s.saf.mask j &&& mask) ≠ 0 → (s.safIn j).seqok = true →
      ((s.each 8 fun y j => y.inputReset mask j).safIn j).disc = false := by
  have hR (y : Dev) (i : Nat) (hi : i < 8) : y.LatchesCleared (y.inputReset mask i) := by
    obtain h | ⟨h, -⟩ := y.inputReset_cases mask i <;> rw [h]
    · exact y.latchCleared_spec hi
    · exact .refl y
  have hg (y : Dev) (i j : Nat) (_ : i < 8) (hj : j ≠ i) : (y.inputReset mask i).safIn j = y.safIn j := by
    obtain h | ⟨h, -⟩ := y.inputReset_cases mask i <;> rw [h]
    exact y.latchCleared_other i hj
  obtain ⟨hall, hlast⟩ := Dev.each_at Dev.LatchesCleared.refl Dev.LatchesCleared.trans (fun j d => d.safIn j) hR hg s
  refine ⟨hall, fun j hj hm hs => ?_⟩
  obtain ⟨y, hy, hsame, hdone⟩ := hlast j hj
  rw [hdone]
  obtain h | ⟨h, hno⟩ := y.inputReset_cases mask j <;> rw [h]
  · exact y.latchCleared_disc j
  · rw [hy.island.mask, hsame, hs] at hno
    rw [hsame]
    exact (hno.resolve_left hm).resolve_right (by simp)

end

/-! ## Pairs that a reset lets go (R292) -/

section
variable (s : Dev) (mask p : Nat)

theorem Dev.faultCleared_step : s.PairStep (s.faultCleared p) p := (Dev.PairStep.onSafOut s p _).trans (.stoShow _ _)

theorem Dev.faultCleared_ofault : ((s.faultCleared p).safOut p).ofault = false := by
  rw [Dev.safOut, Dev.faultCleared, Dev.stoShow_saf]
  exact congrArg SafOut.ofault (s.onSafOut_safOut_same p fun x => { x with ofault := false })

/-- A pair that waits no longer. -/
def Dev.waitOver : Dev := (s.onSafOut p fun x => { x with byReset := !x.on }).set (A.SAF_STO_STAT p) F.SAF_STO_STAT_RSTW 0

theorem Dev.waitOver_step : s.PairStep (s.waitOver p) p := (Dev.PairStep.onSafOut s p _).trans (.set _ _ _ _)

theorem Dev.waitOver_ofault : ((s.waitOver p).safOut p).ofault = (s.safOut p).ofault :=
  (congrArg SafOut.ofault (s.onSafOut_safOut_same p fun x => { x with byReset := !x.on }) :)

theorem Dev.bit_rstw_waitOver : (s.waitOver p).bit (A.SAF_STO_STAT p) F.SAF_STO_STAT_RSTW = false :=
  (s.onSafOut p fun x => { x with byReset := !x.on }).bit_setBit_same (A.SAF_STO_STAT p) F.SAF_STO_STAT_RSTW false rfl

theorem Dev.pairReset_other (h : mask.testBit p = false) : s.pairReset mask p = s := if_neg (by rw [h]; exact Bool.false_ne_true)

theorem Dev.pairReset_own (h : mask.testBit p = true) : s.pairReset mask p =
    if (s.faultCleared p).pairDemand p || (s.faultCleared p).pairLatched p then s.faultCleared p
    else (s.faultCleared p).waitOver p := if_pos h

theorem Dev.pairReset_step : s.PairStep (s.pairReset mask p) p := by
  cases h : mask.testBit p with
  | false =>
    rw [s.pairReset_other mask p h]
    exact .refl s p
  | true =>
    rw [s.pairReset_own mask p h]
    split
    · exact s.faultCleared_step p
    · exact (s.faultCleared_step p).trans (Dev.waitOver_step _ p)

theorem Dev.pairReset_ofault (h : mask.testBit p = true) : ((s.pairReset mask p).safOut p).ofault = false := by
  rw [s.pairReset_own mask p h]
  split
  · exact s.faultCleared_ofault p
  · exact (Dev.waitOver_ofault _ p).trans (s.faultCleared_ofault p)

/-- A pair of the MASK that no demand, no IFAULT and no latch of an input concerns waits no longer. -/
theorem Dev.pairReset_rstw (hp : p < 4) (h : mask.testBit p = true) (hd : s.pairDemand p = false) (hf : s.ifault = false)
    (hl : ∀ j, j < 8 → s.saf.names j p = true → (s.safIn j).disc = false) :
    (s.pairReset mask p).bit (A.SAF_STO_STAT p) F.SAF_STO_STAT_RSTW = false := by
  have honly := (s.faultCleared_step p).pairsOnly hp
  have hlatch : (s.faultCleared p).pairLatched p = false := by
    rw [Bool.eq_false_iff, ne_eq, Dev.pairLatched_iff, honly.islandOnly.ifault, hf, s.faultCleared_ofault p]
    rintro (h | h | ⟨j, hj, hn, hdisc⟩)
    · exact absurd h (by simp)
    · exact absurd h (by simp)
    · rw [honly.islandOnly.names] at hn
      rw [honly.safIn, hl j hj hn] at hdisc
      exact absurd hdisc (by simp)
  rw [s.pairReset_own mask p h, honly.islandOnly.pairDemand, hd, hlatch, Bool.or_self, if_neg Bool.false_ne_true]
  exact Dev.bit_rstw_waitOver _ p

end

/-- What a reset by input `k` leaves (R292). -/
theorem Dev.safetyReset_spec (s : Dev) {k : Nat} (hk : k < 8) (hf : s.ifault = false) : s.IslandOnly (s.safetyReset k) 0 ∧
    (s.bit (A.SAF_SI_STAT k) F.SAF_SI_STAT_DEMAND = false → s.inDemand k = false →
      (s.safetyReset k).bit (A.SAF_SI_STAT k) F.SAF_SI_STAT_DEMAND = false) ∧
    ∀ p, p < 4 → (s.saf.mask k).testBit p = true → ((s.safetyReset k).safOut p).ofault = false ∧
      (∀ j, j < 8 → s.saf.names j p = true → (s.safIn j).seqok = true → ((s.safetyReset k).safIn j).disc = false) ∧
      (s.pairDemand p = false →
        (∀ j, j < 8 → s.saf.names j p = true → (s.safIn j).disc = false ∨ (s.safIn j).seqok = true) →
        (s.safetyReset k).bit (A.SAF_STO_STAT p) F.SAF_STO_STAT_RSTW = false) := by
  rw [s.safetyReset_eq]
  generalize hmask : s.saf.mask k = mask
  obtain ⟨hins, hcleared⟩ := s.inputsReset_spec mask
  generalize (s.each 8 fun y j => y.inputReset mask j) = d at *
  obtain ⟨hpairs, hlast⟩ := Dev.each_pairs (fun (y : Dev) q => y.pairReset_step mask q) d
  refine ⟨hins.island.trans_zero hpairs.islandOnly, fun hd hin => ?_, fun p hp hbit => ?_⟩
  · rw [hpairs.regs.bit _ (siReg_not_sto hk)]
    exact (hins.demand k hk).elim (·.trans hd) (·.trans hin)
  · have hmeet {j : Nat} (hn : s.saf.names j p = true) : (s.saf.mask j &&& mask) ≠ 0 := by
      rw [Saf.names, Bool.and_eq_true] at hn
      intro h0
      have := Nat.testBit_and (s.saf.mask j) mask p
      rw [h0, hn.2, hbit] at this
      simp at this
    obtain ⟨y, hy, hsame, hdone⟩ := hlast p hp
    refine ⟨?_, fun j hj hn hs => ?_, fun hdem hall => ?_⟩
    · rw [Dev.safOut_of_view hdone, y.pairReset_ofault mask p hbit]
    · rw [hpairs.safIn, hcleared j hj (hmeet hn) hs]
    · rw [Dev.bit_of_view hdone]
      refine y.pairReset_rstw mask p hp hbit ((hy.islandOnly.pairDemand p).trans ((hins.island.pairDemand p).trans hdem))
        (hy.islandOnly.ifault.trans (hins.island.ifault.trans hf)) fun j hj hn => ?_
      rw [hy.islandOnly.names, hins.island.names] at hn
      rw [hy.safIn]
      exact (hall j hj hn).elim (hins.disc j) fun hs => hcleared j hj (hmeet hn) hs

/-- The field that shows a channel. -/
def siField (chB : Bool) : Fld := if chB then F.SAF_SI_STAT_FB else F.SAF_SI_STAT_FA

theorem siField_ok (chB : Bool) : (siField chB).ok = true := by cases chB <;> rfl

theorem Dev.chDemand_eq (s : Dev) (k : Nat) (chB : Bool) :
    s.chDemand k chB = (demandLevel (s.saf.role k) chB == some (s.bit (A.SAF_SI_STAT k) (siField chB))) := rfl

section
variable (s : Dev) (k : Nat) (chB closed : Bool)

/-! ## The contact (R284) -/

/-- The device with the contact's new level, the discrepancy time judged first. -/
def Dev.contactSet : Dev := (s.discJudge k).setBit (A.SAF_SI_STAT k) (siField chB) closed

/-- The timer and the press follow the contact. -/
def Dev.contactStep : Dev × Option (Option Nat) :=
  (s.discStep k chB (s.chDemand k chB)).1.pressStep k (s.discStep k chB (s.chDemand k chB)).2

/-- The end of a press of a RESET input. -/
def Dev.pressed (press : Option (Option Nat)) : Dev :=
  match press with
  | some t => if s.saf.role k = roleReset then s.pressEnd k t else s
  | none => s

theorem Dev.pressed_none : s.pressed k none = s := rfl

theorem Dev.pressed_reset (h : s.saf.role k = roleReset) (t : Option Nat) : s.pressed k (some t) = s.pressEnd k t := if_pos h

/-- The device once its input shows the contact and its pairs are judged. -/
def Dev.contactJudged : Dev := ((s.contactStep k chB).1.siShow k).pairsJudge

theorem Dev.siChange_same (h : s.bit (A.SAF_SI_STAT k) (siField chB) = closed) : s.siChange k chB closed = s := if_pos h

variable (hne : s.bit (A.SAF_SI_STAT k) (siField chB) = !closed)
include hne

theorem Dev.siChange_unused (h : (s.contactSet k chB closed).saf.role k = 0) : s.siChange k chB closed = s.contactSet k chB closed :=
  (if_neg (by rw [← siField, hne]; cases closed <;> simp)).trans (if_pos h)

theorem Dev.siChange_used (h : (s.contactSet k chB closed).saf.role k ≠ 0) : s.siChange k chB closed =
    ((s.contactSet k chB closed).contactJudged k chB).pressed k ((s.contactSet k chB closed).contactStep k chB).2 :=
  (if_neg (by rw [← siField, hne]; cases closed <;> simp)).trans (if_neg h)

end

section
variable (s : Dev) {k : Nat} (hk : k < 8) (chB closed : Bool)
include hk

omit hk in
theorem Dev.contactSet_regsAt :
    (s.discJudge k).RegsAt (s.contactSet k chB closed) [A.SAF_SI_STAT k] :=
  (Dev.RegsAt.refl _ _).set _ _ (List.mem_singleton_self _)

theorem Dev.contactSet_framed : ∃ n, s.IslandFramed (s.contactSet k chB closed) n := by
  obtain ⟨n, hn⟩ := s.discJudge_islandOnly hk
  exact ⟨n, hn.toIslandFramed.trans (.of_regsAt (s.contactSet_regsAt chB closed) (by simpa using siRegs_subset (siReg_mem hk)))⟩

omit hk in
theorem Dev.bit_contactSet : (s.contactSet k chB closed).bit (A.SAF_SI_STAT k) (siField chB) = closed :=
  Dev.bit_setBit_same _ _ _ _ (siField_ok chB)

theorem Dev.role_contactSet (j : Nat) : (s.contactSet k chB closed).saf.role j = s.saf.role j := by
  obtain ⟨n, hn⟩ := s.discJudge_islandOnly hk
  exact hn.role j

theorem Dev.names_contactSet (j p : Nat) : (s.contactSet k chB closed).saf.names j p = s.saf.names j p := by
  obtain ⟨n, hn⟩ := s.discJudge_islandOnly hk
  exact hn.names j p

theorem Dev.auto_contactSet (p : Nat) : (s.contactSet k chB closed).saf.auto p = s.saf.auto p := by
  obtain ⟨n, hn⟩ := s.discJudge_islandOnly hk
  exact hn.auto p

/-- The new level decides the demand of its channel. -/
theorem Dev.chDemand_contactSet : (s.contactSet k chB closed).chDemand k chB = (demandLevel (s.saf.role k) chB == some closed) := by
  rw [Dev.chDemand_eq, s.role_contactSet hk, s.bit_contactSet]

theorem Dev.pairView_contactSet (p : Nat) : (s.contactSet k chB closed).pairView p = (s.discJudge k).pairView p :=
  (s.contactSet_regsAt chB closed).pairView (by simp only [List.mem_singleton, A.SAF_STO_STAT, A.SAF_SI_STAT]; omega)

/-! ## The input and the pairs follow (R284, R285) -/

omit hk in
theorem Dev.contactStep_inputKept : s.InputKept (s.contactStep k chB).1 :=
  (s.discStep_pressKept k chB _).1.trans (Dev.pressStep_inputKept _ k _)

theorem Dev.contactJudged_islandOnly : s.IslandOnly (s.contactJudged k chB) 0 :=
  ((s.contactStep_inputKept chB).island.trans_zero (Dev.siShow_islandOnly _ k hk)).trans_zero
    (Dev.pairsJudge_pairsOnly _).islandOnly

theorem Dev.bit_demand_contactJudged :
    (s.contactJudged k chB).bit (A.SAF_SI_STAT k) F.SAF_SI_STAT_DEMAND = s.inDemand k :=
  ((Dev.pairsJudge_pairsOnly _).regs.bit _ (siReg_not_sto hk)).trans
    ((Dev.bit_siShow_demand _ k).trans ((s.contactStep_inputKept chB).island.inDemand hk))

omit hk in
theorem Dev.safIn_contactJudged (j : Nat) : (s.contactJudged k chB).safIn j = (s.contactStep k chB).1.safIn j := by
  rw [Dev.contactJudged, (Dev.pairsJudge_pairsOnly _).safIn, Dev.safIn, Dev.siShow_saf]
  rfl

theorem Dev.pairView_contactShown (p : Nat) : ((s.contactStep k chB).1.siShow k).pairView p = s.pairView p :=
  (((s.contactStep k chB).1.siShow_regsAt k).pairView (by simp only [List.mem_singleton, A.SAF_STO_STAT, A.SAF_SI_STAT]; omega)).trans
    ((s.contactStep_inputKept chB).pairView p)

theorem Dev.ofault_contactJudged {p : Nat} (hp : p < 4) :
    ((s.contactJudged k chB).safOut p).ofault = (s.safOut p).ofault := by
  rw [Dev.contactJudged, (Dev.pairsJudge_judged _ hp).1.ofault, Dev.safOut_of_view (s.pairView_contactShown hk chB p)]

/-- The end of a press is one of the reset, a record or nothing. -/
theorem Dev.pressed_islandOnly (press : Option (Option Nat)) : ∃ n, s.IslandOnly (s.pressed k press) n := by
  have hbad : s.IslandOnly (s.offer 0x47 0x0B .badPress) 1 := .offer s _ _
  cases press with
  | none => exact ⟨0, .refl s⟩
  | some t =>
    rw [Dev.pressed]
    split
    · cases t with
      | none => exact ⟨1, hbad⟩
      | some t =>
        rw [Dev.pressEnd]
        split
        · cases hf : s.ifault with
          | true => exact ⟨0, .refl s⟩
          | false => exact ⟨0, (s.safetyReset_spec hk hf).1⟩
        · exact ⟨1, hbad⟩
    · exact ⟨0, .refl s⟩

/-- A change of a contact is framed, and the contact shows its new level. -/
theorem Dev.siChange_framed (hne : s.bit (A.SAF_SI_STAT k) (siField chB) = !closed) :
    s.Framed (s.siChange k chB closed) ∧ (s.siChange k chB closed).bit (A.SAF_SI_STAT k) (siField chB) = closed := by
  obtain ⟨n, hn⟩ := s.contactSet_framed hk chB closed
  have hbit := s.bit_contactSet (k := k) chB closed
  by_cases hrole : (s.contactSet k chB closed).saf.role k = 0
  · rw [s.siChange_unused k chB closed hne hrole]
    exact ⟨hn.framed, hbit⟩
  · rw [s.siChange_used k chB closed hne hrole]
    have hjudged := (s.contactSet k chB closed).contactJudged_islandOnly hk chB
    obtain ⟨m, hm⟩ := ((s.contactSet k chB closed).contactJudged k chB).pressed_islandOnly hk
      ((s.contactSet k chB closed).contactStep k chB).2
    have hall := hjudged.trans hm
    refine ⟨(hn.trans hall.toIslandFramed).framed, Eq.trans ?_ hbit⟩
    cases chB
    · exact (hall.contacts k hk).1
    · exact (hall.contacts k hk).2

/-- A change of a contact into demand takes the pairs of the input off. -/
theorem Dev.siChange_demand (hne : s.bit (A.SAF_SI_STAT k) (siField chB) = !closed)
    (hinto : demandLevel (s.saf.role k) chB = some closed) :
    (s.siChange k chB closed).bit (A.SAF_SI_STAT k) F.SAF_SI_STAT_DEMAND = true ∧ (s.saf.role k ≠ roleReset →
      ∀ p, p < 4 → s.saf.names k p = true → s.IsOff (s.siChange k chB closed) p ∧
        (s.siChange k chB closed).bit (A.SAF_STO_STAT p) F.SAF_STO_STAT_RSTW = !s.saf.auto p) := by
  have hrole : s.saf.role k ≠ 0 := by
    intro h0
    rw [h0] at hinto
    exact absurd hinto (by simp [demandLevel, roleEquiv, roleAntiv, roleReset])
  have hdem : (s.contactSet k chB closed).inDemand k = true := by
    have hch : (s.contactSet k chB closed).chDemand k chB = true := by
      rw [s.chDemand_contactSet hk, hinto]
      exact beq_self_eq_true _
    rw [Dev.inDemand, Bool.or_eq_true]
    cases chB
    · exact .inl hch
    · exact .inr hch
  have hnone : ((s.contactSet k chB closed).contactStep k chB).2 = none := by
    refine Dev.pressStep_inDemand _ k _ ?_
    rw [((s.contactSet k chB closed).discStep_pressKept k chB _).1.island.inDemand hk, hdem]
  rw [s.siChange_used k chB closed hne (by rwa [s.role_contactSet hk]), hnone, Dev.pressed_none]
  refine ⟨((s.contactSet k chB closed).bit_demand_contactJudged hk chB).trans hdem, fun hreset p hp hn => ?_⟩
  have hkept := ((s.contactSet k chB closed).contactStep_inputKept (k := k) chB).island.trans_zero (Dev.siShow_islandOnly _ k hk)
  have hview := ((s.contactSet k chB closed).pairView_contactShown hk chB p).trans (s.pairView_contactSet hk chB closed p)
  rw [Dev.contactJudged]
  generalize ((s.contactSet k chB closed).contactStep k chB).1.siShow k = d at *
  have hpair : d.pairDemand p = true := by
    rw [hkept.pairDemand, Dev.pairDemand_iff]
    exact ⟨k, hk, by rw [s.names_contactSet hk, hn], by rwa [s.role_contactSet hk], hdem⟩
  have hopen : s.OnOrOpen d p := by
    intro hon
    rw [Dev.safOut_of_view hview, Dev.bit_of_view hview]
    exact s.discJudge_onOrOpen hk hp hon
  refine ⟨hopen.isOff hp (Dev.mustOff_of_demand hpair), ((d.pairsJudge_judged hp).2).trans ?_⟩
  rw [hpair, if_pos rfl, hkept.auto, s.auto_contactSet hk]

end

/-! ## The end of a reset press (R292, R293) -/

theorem Dev.pairsJudge_ofault (s : Dev) (q : Nat) : (s.pairsJudge.safOut q).ofault = (s.safOut q).ofault := by
  refine foldl_keeps (fun d : Dev => (d.safOut q).ofault = (s.safOut q).ofault) Dev.pairJudge (upto 4) s (fun d p hp hd => ?_) rfl
  by_cases h : q = p
  · subst h
    exact (d.pairJudge_judged q (List.mem_range.1 hp)).1.ofault.trans hd
  · rw [(d.pairJudge_step p).outs q h, hd]

/-- What a press that has ended leaves to be judged. -/
structure Dev.PressOver (s d : Dev) (k : Nat) : Prop where
  frame : s.IslandFramed d 0
  ifault : d.ifault = s.ifault
  disc : ∀ j, (d.safIn j).disc = (s.safIn j).disc
  seqok : ∀ j, (s.safIn j).seqok = true → (d.safIn j).seqok = true
  ofault : ∀ p, (d.safOut p).ofault = (s.safOut p).ofault
  names : ∀ j p, d.saf.names j p = s.saf.names j p
  mask : ∀ j, d.saf.mask j = s.saf.mask j
  demand : d.bit (A.SAF_SI_STAT k) F.SAF_SI_STAT_DEMAND = false
  rest : d.inDemand k = false
  pairs : ∀ p, s.pairDemand p = false → d.pairDemand p = false

section
variable {s : Dev} {k : Nat} (hk : k < 8) {chB closed : Bool} (hrole : s.saf.role k = roleReset)
  (hrest : demandLevel (s.saf.role k) chB ≠ some closed) (hother : s.chDemand k (!chB) = false) (hw : s.discWaits k)
include hw

theorem Dev.contactSet_waits : s.contactSet k chB closed = s.setBit (A.SAF_SI_STAT k) (siField chB) closed := by
  rw [Dev.contactSet, s.discJudge_waits k hw]

include hk hrest hother

theorem Dev.inDemand_contactSet_released : (s.contactSet k chB closed).inDemand k = false := by
  have hown : (s.contactSet k chB closed).chDemand k chB = false := by
    rw [s.chDemand_contactSet hk]
    exact beq_eq_false_iff_ne.2 hrest
  have helse : (s.contactSet k chB closed).chDemand k (!chB) = false := by
    rw [← hother, Dev.chDemand_eq, s.role_contactSet hk, Dev.contactSet_waits hw, Dev.chDemand_eq,
      s.bit_setBit_field _ _ _ _ (siField_ok _) (siField_ok _) (by cases chB <;> decide)]
  rw [Dev.inDemand, Bool.or_eq_false_iff]
  cases chB
  · exact ⟨hown, helse⟩
  · exact ⟨helse, hown⟩

include hrole

omit hrest hother in
/-- An input for resets puts no pair in demand. -/
theorem Dev.pairDemand_contactSet_reset {p : Nat} (h : s.pairDemand p = false) :
    (s.contactSet k chB closed).pairDemand p = false := by
  rw [Bool.eq_false_iff, ne_eq, Dev.pairDemand_iff] at h ⊢
  rintro ⟨j, hj, hn, hr, hin⟩
  rw [s.names_contactSet hk] at hn
  rw [s.role_contactSet hk] at hr
  have hjk : j ≠ k := fun e => hr (e ▸ hrole)
  refine h ⟨j, hj, hn, hr, ?_⟩
  rw [← hin, Dev.inDemand, Dev.inDemand]
  have hbit (f : Fld) : (s.contactSet k chB closed).bit (A.SAF_SI_STAT j) f = s.bit (A.SAF_SI_STAT j) f := by
    have hreg := (s.contactSet_regsAt chB closed).bit f (by simpa using siStat_inj hjk)
    rwa [s.discJudge_waits k hw] at hreg
  simp only [Dev.chDemand_eq, s.role_contactSet hk, hbit]

/-- A change of a contact that ends a press is the end of that press, judged from what it leaves. -/
theorem Dev.siChange_released (hne : s.bit (A.SAF_SI_STAT k) (siField chB) = !closed) (hb : (s.safIn k).bothAt = 0) :
    ∃ d, s.PressOver d k ∧ s.siChange k chB closed = d.pressEnd k (s.safIn k).stood := by
  have hin := Dev.inDemand_contactSet_released hk hrest hother hw
  have hroles := s.role_contactSet hk chB closed
  have hpairs {p : Nat} := Dev.pairDemand_contactSet_reset hk hrole hw (closed := closed) (chB := chB) (p := p)
  rw [s.siChange_used k chB closed hne (by rw [hroles, hrole]; decide)]
  rw [Dev.contactSet_waits hw] at *
  have hat : s.RegsAt (s.setBit (A.SAF_SI_STAT k) (siField chB) closed) [A.SAF_SI_STAT k] :=
    (Dev.RegsAt.refl s _).set _ _ (List.mem_singleton_self _)
  have hfault : (s.setBit (A.SAF_SI_STAT k) (siField chB) closed).ifault = s.ifault :=
    hat.bit _ (by simp only [List.mem_singleton, A.SAF_STAT, A.SAF_SI_STAT]; omega)
  generalize s.setBit (A.SAF_SI_STAT k) (siField chB) closed = y at *
  have hsaf := hat.1.saf
  have hkept := y.contactStep_inputKept (k := k) chB
  have hjudged := y.contactJudged_islandOnly hk chB
  have hdemand := (y.bit_demand_contactJudged hk chB).trans hin
  have hstep := y.discStep_pressKept k chB (y.chDemand k chB)
  have hpress : (y.contactStep k chB).2 = some (s.safIn k).stood := by
    have hyin : y.safIn k = s.safIn k := by rw [Dev.safIn, hsaf]; rfl
    refine (Dev.pressStep_over _ k _ ((hstep.1.island.inDemand hk).trans hin) (by rw [hstep.2.1, hyin, hb])).trans ?_
    rw [hstep.2.2, hyin]
  rw [hpress, Dev.pressed_reset _ _ (by rw [hjudged.role, hroles, hrole])]
  refine ⟨_, ⟨?_, hjudged.ifault.trans hfault, fun j => ?_, fun j hj => ?_, fun p => ?_, fun j p => ?_, fun j => ?_,
    hdemand, (hjudged.inDemand hk).trans hin, fun p h => (hjudged.pairDemand p).trans (hpairs h)⟩, rfl⟩
  · exact (Dev.IslandFramed.of_regsAt hat (by simpa using siRegs_subset (siReg_mem hk))).trans hjudged.toIslandFramed
  · rw [y.safIn_contactJudged, hkept.disc, Dev.safIn, hsaf]
    rfl
  · rw [y.safIn_contactJudged]
    refine hkept.seqok j ?_
    rw [Dev.safIn, hsaf]
    exact hj
  · rw [Dev.contactJudged, Dev.pairsJudge_ofault, Dev.safOut, Dev.siShow_saf, hkept.outs, hsaf]
    rfl
  · rw [hjudged.names, hsaf]
  · rw [hjudged.mask, hsaf]

end

section
variable {s d : Dev} {k : Nat} (h : s.PressOver d k)
include h

/-- A press of a time out of range is recorded, and no latch changes. -/
theorem Dev.PressOver.bad : s.Recorded (d.offer 0x47 0x0B .badPress) 1 ∧
    ∀ j, ((d.offer 0x47 0x0B .badPress).safIn j).disc = (s.safIn j).disc ∧
      ((d.offer 0x47 0x0B .badPress).safOut j).ofault = (s.safOut j).ofault :=
  ⟨(h.frame.trans (Dev.IslandOnly.offer d 0x0B .badPress).toIslandFramed).recorded, fun j => ⟨h.disc j, h.ofault j⟩⟩

/-- What a press of a time in range leaves: a reset (R292). -/
theorem Dev.PressOver.reset (hk : k < 8) (hf : s.ifault = false) :
    (d.safetyReset k).bit (A.SAF_SI_STAT k) F.SAF_SI_STAT_DEMAND = false ∧ s.Recorded (d.safetyReset k) 0 ∧
    ∀ p, p < 4 → (s.saf.mask k).testBit p = true → ((d.safetyReset k).safOut p).ofault = false ∧
      (∀ j, j < 8 → s.saf.names j p = true → (s.safIn j).seqok = true → ((d.safetyReset k).safIn j).disc = false) ∧
      (s.pairDemand p = false →
        (∀ j, j < 8 → s.saf.names j p = true → (s.safIn j).disc = false ∨ (s.safIn j).seqok = true) →
        (d.safetyReset k).bit (A.SAF_STO_STAT p) F.SAF_STO_STAT_RSTW = false) := by
  obtain ⟨hisland, hdemand, hpairs⟩ := d.safetyReset_spec hk (h.ifault.trans hf)
  refine ⟨hdemand h.demand h.rest, (h.frame.trans hisland.toIslandFramed).recorded, fun p hp hbit => ?_⟩
  obtain ⟨hfault, hclear, hwait⟩ := hpairs p hp (by rwa [h.mask])
  refine ⟨hfault, fun j hj hn hs => hclear j hj (by rwa [h.names]) (h.seqok j hs), fun hdem hall => hwait (h.pairs p hdem)
    fun j hj hn => ?_⟩
  rw [h.names] at hn
  rw [h.disc]
  exact (hall j hj hn).imp_right (h.seqok j)

end

/-! ## The obligation -/

/-- A press of 100 ms to 5 s in demand. -/
theorem Dev.pressEnd_inRange {s : Dev} (k : Nat) {t : Nat} (h1 : 25000000 ≤ t) (h2 : t ≤ 1250000000) :
    s.pressEnd k (some t) = if s.ifault then s else s.safetyReset k :=
  if_pos (by rw [Bool.and_eq_true, decide_eq_true_eq, decide_eq_true_eq]; exact ⟨h1, h2⟩)

theorem Dev.pressEnd_outOfRange {s : Dev} (k : Nat) {stood : Option Nat}
    (h : stood = none ∨ ∃ t, stood = some t ∧ (t < 25000000 ∨ 1250000000 < t)) :
    s.pressEnd k stood = s.offer 0x47 0x0B .badPress := by
  obtain rfl | ⟨t, rfl, ht⟩ := h
  · rfl
  · refine if_neg ?_
    rw [Bool.and_eq_true, decide_eq_true_eq, decide_eq_true_eq]
    omega

/-- Settles O49: each path of the island leaves what its operation's rule says; the judgement of the pairs takes off exactly
those that a demand, a latch or the configuration keeps off. -/
theorem safetyPaths : Obligations.SafetyPaths := by
  intro s hon
  refine ⟨fun k chB closed => ⟨fun h => ?_, fun hne => ⟨?_, fun hrole hw => ?_, fun hinto => ?_, fun hrole hrest hother hb hw =>
    ?_⟩⟩, fun k => ⟨fun hw => ?_, fun t c v ht h => discExpiry_does hon k ht h⟩, safetyCycle_does hon, fun h => ?_,
    ifault_does hon, fun p b => ⟨testPulse_does hon p b, fun h => ?_, fun t ht h => ⟨testPulseEnd_low_does hon p b ht h,
    testPulseEnd_high_does hon p b ht h⟩, fun low h => ?_⟩⟩
  · exact Does.of_go (f := (·.siChange k.val chB closed)) rfl hon (s.dev.siChange_same k chB closed h)
  · exact Does.of_go (f := (·.siChange k.val chB closed)) rfl hon (s.dev.siChange_framed k.isLt chB closed hne)
  · have hunused := s.dev.siChange_unused k chB closed hne (by rw [s.dev.role_contactSet k.isLt, hrole])
    refine Does.of_go (f := (·.siChange k.val chB closed)) rfl hon ?_
    rw [hunused, Dev.contactSet_waits hw]
    exact ⟨rfl, (Dev.RegsKept.refl s.dev _).set _ _ (List.mem_singleton_self _)⟩
  · exact Does.of_go (f := (·.siChange k.val chB closed)) rfl hon (s.dev.siChange_demand k.isLt chB closed hne hinto)
  · obtain ⟨d, hover, heq⟩ := Dev.siChange_released k.isLt hrole hrest hother hw hne hb
    have hdo {P : Dev → Prop} (h : P (d.pressEnd k (s.dev.safIn k).stood)) : Does (.siChange k chB closed) s P :=
      Does.of_go (f := (·.siChange k.val chB closed)) rfl hon (by rw [heq]; exact h)
    refine ⟨fun t ht h1 h2 hf => hdo ?_, fun t ht hf h1 h2 => hdo ?_, fun h => hdo ?_⟩
    · rw [ht, Dev.pressEnd_inRange k h1 h2, hover.ifault, hf, if_neg Bool.false_ne_true]
      exact hover.reset k.isLt hf
    · rw [ht, Dev.pressEnd_inRange k h1 h2, hover.ifault, hf, if_pos rfl]
      exact ⟨hover.frame.recorded, fun j => ⟨hover.disc j, hover.ofault j⟩⟩
    · rw [Dev.pressEnd_outOfRange k h]
      exact hover.bad
  · exact Does.of_go (f := (·.discJudge k.val)) rfl hon (s.dev.discJudge_waits k hw)
  · exact Does.of_go (f := Dev.ifaultSet) rfl hon (s.dev.ifaultSet_of_fault h)
  · exact Does.of_go (f := (·.testPulse p.val b.val)) rfl hon (s.dev.testPulse_idle p b h)
  · exact Does.of_go (f := (·.testPulseEnd p.val b.val low)) rfl hon (s.dev.testPulseEnd_early p b low h)

end Sys2Proof.Machine
end

section
/-! A CAN channel (O53): its registers, its FIFOs and their completions (R337-R341, R346). -/

namespace Sys2Proof.Machine

/-! ## Registers (R334) -/

/-- The registers that show a channel's FIFOs. -/
def canShown (n : Nat) : List Nat :=
  A.CN_TXSTAT n :: A.CN_TXDONE_A n :: A.CN_TXDONE_B n :: A.CN_RXCMD n :: (upto 20).map (A.CN_RXW n)

/-- The registers that show the FIFOs lie between TXSTAT and RXCMD. -/
theorem canShown_range {n a : Nat} (h : a ∈ canShown n) : A.CN_TXSTAT n ≤ a ∧ a ≤ A.CN_RXCMD n := by
  simp only [canShown, upto, List.mem_cons, List.mem_map, List.mem_range, A.CN_TXSTAT, A.CN_TXDONE_A, A.CN_TXDONE_B,
    A.CN_RXCMD, A.CN_RXW] at h ⊢
  obtain h | h | h | h | ⟨k, hk, h⟩ := h <;> omega

theorem not_mem_canShown {n a : Nat} (h : a < A.CN_TXSTAT n ∨ A.CN_RXCMD n < a) : a ∉ canShown n := by
  intro hm
  have := canShown_range hm
  omega

theorem canStat_not_shown (n : Nat) : A.CN_STAT n ∉ canShown n :=
  not_mem_canShown (.inl (by simp only [A.CN_STAT, A.CN_TXSTAT]; omega))
theorem canErr_not_shown (n : Nat) : A.CN_ERR n ∉ canShown n :=
  not_mem_canShown (.inl (by simp only [A.CN_ERR, A.CN_TXSTAT]; omega))
theorem canCtl_not_shown (n : Nat) : A.CN_CTL n ∉ canShown n :=
  not_mem_canShown (.inl (by simp only [A.CN_CTL, A.CN_TXSTAT]; omega))
theorem canFlt_not_shown (n f : Nat) : A.CN_FLT_CFG n f ∉ canShown n :=
  not_mem_canShown (.inr (by simp only [A.CN_FLT_CFG, A.CN_RXCMD]; omega))

theorem txstat_mem (n : Nat) : A.CN_TXSTAT n ∈ canShown n := .head _

/-! ## Changes of one channel -/

/-- `d` differs from `s` in channel `n`, the registers `as`, and, as far as told, the Scribe's offers and the input set. -/
structure Dev.CanStep (n : Nat) (as : List Nat) (noted set : Bool) (s d : Dev) : Prop where
  frame : ∃ r c q sc f, d = { s with regs := r, cans := c, duoSet := q, scribe := sc, free := f }
  noted : noted = false → d.scribe = s.scribe ∧ d.free = s.free
  set : set = false → d.duoSet = s.duoSet
  others : ∀ k, k ≠ n → d.can k = s.can k
  regs : s.RegsKept d as

section
variable {n : Nat} {as : List Nat} {noted set : Bool} {s d : Dev}

theorem Dev.CanStep.refl (n : Nat) (as : List Nat) (noted set : Bool) (s : Dev) : Dev.CanStep n as noted set s s :=
  ⟨⟨_, _, _, _, _, rfl⟩, fun _ => ⟨rfl, rfl⟩, fun _ => rfl, fun _ _ => rfl, .refl s _⟩

theorem Dev.CanStep.trans {e : Dev} {bs : List Nat} {noted' set' : Bool} (h : Dev.CanStep n as noted set s d)
    (k : Dev.CanStep n bs noted' set' d e) : Dev.CanStep n (as ++ bs) (noted || noted') (set || set') s e := by
  refine ⟨?_, fun hn => ?_, fun hn => ?_, fun j hj => (k.others j hj).trans (h.others j hj),
    (h.regs.mono (List.subset_append_left _ _)).trans (k.regs.mono (List.subset_append_right _ _))⟩
  · obtain ⟨r, c, q, sc, f, rfl⟩ := h.frame
    obtain ⟨r', c', q', sc', f', rfl⟩ := k.frame
    exact ⟨_, _, _, _, _, rfl⟩
  · obtain ⟨h1, h2⟩ := (Bool.or_eq_false_iff.1 hn)
    exact ⟨(k.noted h2).1.trans (h.noted h1).1, (k.noted h2).2.trans (h.noted h1).2⟩
  · obtain ⟨h1, h2⟩ := (Bool.or_eq_false_iff.1 hn)
    exact (k.set h2).trans (h.set h1)

theorem Dev.CanStep.mono (h : Dev.CanStep n as noted set s d) {bs : List Nat} (hb : as ⊆ bs) : Dev.CanStep n bs noted set s d :=
  ⟨h.frame, h.noted, h.set, h.others, h.regs.mono hb⟩

theorem Dev.CanStep.of_regsAt (h : s.RegsAt d as) : Dev.CanStep n as false false s d := by
  obtain ⟨⟨r, rfl⟩, hk⟩ := h
  exact ⟨⟨_, _, _, _, _, rfl⟩, fun _ => ⟨rfl, rfl⟩, fun _ => rfl, fun _ _ => rfl, hk⟩

theorem Dev.CanStep.set_reg (s : Dev) (n a : Nat) (f : Fld) (v : Nat) : Dev.CanStep n [a] false false s (s.set a f v) :=
  .of_regsAt ((Dev.RegsAt.refl s _).set _ _ (List.mem_singleton_self _))

theorem Dev.can_onCan_same (s : Dev) (n : Nat) (f : Can → Can) : (s.onCan n f).can n = f (s.can n) :=
  tabGet_put_same Can.init s.cans n (f (s.can n))

theorem Dev.can_onCan_other (s : Dev) {k n : Nat} (f : Can → Can) (h : k ≠ n) : (s.onCan n f).can k = s.can k :=
  tabGet_put_other Can.init Can.init s.cans (f (s.can n)) h

theorem Dev.CanStep.onCan (s : Dev) (n : Nat) (f : Can → Can) : Dev.CanStep n [] false false s (s.onCan n f) :=
  ⟨⟨_, _, _, _, _, rfl⟩, fun _ => ⟨rfl, rfl⟩, fun _ => rfl, fun _ hk => s.can_onCan_other f hk, .refl s _⟩

theorem Dev.CanStep.offer (s : Dev) (n src base : Nat) (ev : Ev) : Dev.CanStep n [] true false s (s.offer src base ev) :=
  ⟨⟨_, _, _, _, _, rfl⟩, fun h => absurd h (by decide), fun _ => rfl, fun _ _ => rfl, .refl s _⟩

theorem Dev.CanStep.draw (s : Dev) (n : Nat) : Dev.CanStep n [] true false s s.draw :=
  ⟨⟨_, _, _, _, _, rfl⟩, fun h => absurd h (by decide), fun _ => rfl, fun _ _ => rfl, .refl s _⟩

theorem Dev.CanStep.collect (s : Dev) (n kind : Nat) (id v w : Word) (xs : List Word) :
    Dev.CanStep n [] false true s (s.collect kind id v w xs) := by
  rw [s.collect_frame]
  exact ⟨⟨_, _, _, _, _, rfl⟩, fun _ => ⟨rfl, rfl⟩, fun h => absurd h (by decide), fun _ _ => rfl, .refl s _⟩

/-! ## The frames of the commands -/

section
variable (h : Dev.CanStep n as noted set s d)
include h

theorem Dev.CanStep.eq_all : d = { s with regs := d.regs, cans := d.cans, duoSet := d.duoSet, scribe := d.scribe, free := d.free } := by
  obtain ⟨r, c, q, sc, f, rfl⟩ := h.frame
  rfl

theorem Dev.CanStep.eq_noted (hs : set = false) :
    d = { s with regs := d.regs, cans := d.cans, scribe := d.scribe, free := d.free } := by
  have hq := h.set hs
  obtain ⟨r, c, q, sc, f, rfl⟩ := h.frame
  subst hq
  rfl

theorem Dev.CanStep.eq_set (hn : noted = false) : d = { s with regs := d.regs, cans := d.cans, duoSet := d.duoSet } := by
  obtain ⟨hsc, hf⟩ := h.noted hn
  obtain ⟨r, c, q, sc, f, rfl⟩ := h.frame
  subst hsc hf
  rfl

theorem Dev.CanStep.eq_cans (hn : noted = false) (hs : set = false) : d = { s with regs := d.regs, cans := d.cans } := by
  obtain ⟨hsc, hf⟩ := h.noted hn
  have hq := h.set hs
  obtain ⟨r, c, q, sc, f, rfl⟩ := h.frame
  subst hsc hf hq
  rfl

/-! ## What a channel reads beside its own state -/

theorem Dev.CanStep.halted : d.halted = s.halted := by
  obtain ⟨r, c, q, sc, f, rfl⟩ := h.frame
  rfl

theorem Dev.CanStep.ticks : d.ticks = s.ticks := by
  obtain ⟨r, c, q, sc, f, rfl⟩ := h.frame
  rfl

theorem Dev.CanStep.duo : d.duo = s.duo ∧ d.loops = s.loops ∧ d.start = s.start ∧ d.points = s.points := by
  obtain ⟨r, c, q, sc, f, rfl⟩ := h.frame
  exact ⟨rfl, rfl, rfl, rfl⟩

theorem Dev.CanStep.sent : d.sent = s.sent := by
  obtain ⟨r, c, q, sc, f, rfl⟩ := h.frame
  rfl

end

end

/-! ## Showing the FIFOs -/

section
variable (s : Dev) (n : Nat)

theorem Dev.RegsAt.eachReg {s d : Dev} {as : List Nat} (h : s.RegsAt d as) (m : Nat) (g : Nat → Nat) (v : Nat → Word)
    (hg : ∀ k, k < m → g k ∈ as) : s.RegsAt (d.each m fun y k => y.setReg (g k) (v k)) as :=
  foldl_keeps (fun y => s.RegsAt y as) _ (upto m) d (fun _ k hk hy => hy.setReg _ (hg k (List.mem_range.1 hk))) h

theorem Dev.canShow_regsAt : s.RegsAt (s.canShow n) (canShown n) := by
  have hw {k : Nat} (hk : k < 20) : A.CN_RXW n k ∈ canShown n := by
    simp only [canShown, upto, List.mem_cons, List.mem_map, List.mem_range]
    exact .inr (.inr (.inr (.inr ⟨k, hk, rfl⟩)))
  refine Dev.RegsAt.eachReg (s := s) ?_ 20 (A.CN_RXW n) (fun k => ((s.can n).rx.headD []).getD k 0) fun k hk => hw hk
  exact (((((Dev.RegsAt.refl s _).set _ _ (by simp [canShown])).set _ _ (by simp [canShown])).setReg _
    (by simp [canShown])).setReg _ (by simp [canShown])).set _ _ (by simp [canShown])

theorem Dev.RegsOnly.cans {s d : Dev} (h : s.RegsOnly d) : d.cans = s.cans := by
  obtain ⟨r, rfl⟩ := h
  rfl

theorem Dev.RegsOnly.can {s d : Dev} (h : s.RegsOnly d) (k : Nat) : d.can k = s.can k := by
  rw [Dev.can, h.cans]
  rfl

theorem Dev.can_canShow (k : Nat) : (s.canShow n).can k = s.can k := (s.canShow_regsAt n).1.can k

/-- LEVEL shows the frames that wait. -/
theorem Dev.level_canShow (h : (s.can n).tx.length < 64) :
    (s.canShow n).get (A.CN_TXSTAT n) F.CN_TXSTAT_LEVEL = (s.can n).tx.length := by
  have hkept : ((s.set (A.CN_TXSTAT n) F.CN_TXSTAT_LEVEL (s.can n).tx.length).set (A.CN_TXSTAT n) F.CN_TXSTAT_DLEVEL
      (s.can n).done.length).RegsAt (s.canShow n) (A.CN_TXDONE_A n :: A.CN_TXDONE_B n :: A.CN_RXCMD n :: (upto 20).map (A.CN_RXW n)) := by
    refine Dev.RegsAt.eachReg ?_ 20 (A.CN_RXW n) (fun k => ((s.can n).rx.headD []).getD k 0) fun k hk =>
      .tail _ (.tail _ (.tail _ (List.mem_map_of_mem (List.mem_range.2 hk))))
    exact (((Dev.RegsAt.refl _ _).setReg _ (by simp)).setReg _ (by simp)).set _ _ (by simp)
  have hne : A.CN_TXSTAT n ∉ (A.CN_TXDONE_A n :: A.CN_TXDONE_B n :: A.CN_RXCMD n :: (upto 20).map (A.CN_RXW n)) := by
    simp only [upto, List.mem_cons, List.mem_map, List.mem_range, A.CN_TXSTAT, A.CN_TXDONE_A, A.CN_TXDONE_B, A.CN_RXCMD, A.CN_RXW]
    omega
  rw [hkept.2.get _ hne, Dev.get_set_field _ _ _ _ _ rfl rfl (by decide)]
  exact s.get_set_same _ _ _ rfl h

/-! ## FIFO operations (R337, R341, R346) -/

/-- A change of a channel's FIFOs that its registers then show. -/
def Dev.canPut (f : Can → Can) : Dev := (s.onCan n f).canShow n

theorem Dev.canPut_step (f : Can → Can) : Dev.CanStep n (canShown n) false false s (s.canPut n f) :=
  (Dev.CanStep.onCan s n f).trans (.of_regsAt (Dev.canShow_regsAt _ n))

theorem Dev.can_canPut (f : Can → Can) : (s.canPut n f).can n = f (s.can n) :=
  (Dev.can_canShow _ n n).trans (s.can_onCan_same n f)

/-- A completion that finds room. -/
theorem Dev.canComplete_room (tag outcome : Nat) (sof : Word) (h : (s.can n).done.length < 32) :
    s.canComplete n tag outcome sof = (s.canPut n fun c =>
      { c with done := (s.can n).done ++ [(BitVec.ofNat 32 (tag * 65536 + outcome), sof)] }).collect 7 (BitVec.ofNat 32 n)
        (BitVec.ofNat 32 (tag * 65536 + outcome)) sof [] := by
  have hle : ¬32 ≤ (s.can n).done.length := by omega
  rw [Dev.canComplete]
  dsimp only
  rw [if_neg hle, if_neg hle]
  rfl

theorem Dev.can_collect (kind : Nat) (id v w : Word) (xs : List Word) (k : Nat) : (s.collect kind id v w xs).can k = s.can k := by
  rw [s.collect_frame]
  rfl

/-- What a completion leaves. -/
theorem Dev.canComplete_spec (tag outcome : Nat) (sof : Word) (h : (s.can n).done.length < 32) :
    Dev.CanStep n (canShown n) false true s (s.canComplete n tag outcome sof) ∧
      (s.canComplete n tag outcome sof).can n =
        { s.can n with done := (s.can n).done ++ [(BitVec.ofNat 32 (tag * 65536 + outcome), sof)] } := by
  rw [s.canComplete_room n tag outcome sof h]
  refine ⟨((s.canPut_step n _).trans (.collect _ n _ _ _ _ _)).mono (by simp), ?_⟩
  rw [Dev.can_collect, Dev.can_canPut]

/-- A channel whose frame at place `i` has left. -/
def Can.left (c : Can) (i : Nat) : Can :=
  { c with tx := c.tx.eraseIdx i
           retries := if i = 0 then 0 else c.retries
           last := if i = 0 then false else c.last }

/-- What a frame that leaves with room for its completion leaves. -/
theorem Dev.canLeave_spec {i : Nat} {y : CanTx} (hy : (s.can n).tx[i]? = some y) (outcome : Nat) (sof : Word)
    (h : (s.can n).done.length < 32) : Dev.CanStep n (canShown n) false true s (s.canLeave n i outcome sof) ∧
      (s.canLeave n i outcome sof).can n =
        { (s.can n).left i with done := (s.can n).done ++ [(BitVec.ofNat 32 (frameTag y.words * 65536 + outcome), sof)] } := by
  have he : s.canLeave n i outcome sof = (s.onCan n (·.left i)).canComplete n (frameTag y.words) outcome sof := by
    rw [Dev.canLeave, hy]
    rfl
  have hsame := s.can_onCan_same n (·.left i)
  obtain ⟨hstep, hcan⟩ := (s.onCan n (·.left i)).canComplete_spec n (frameTag y.words) outcome sof (by rw [hsame]; exact h)
  rw [he]
  refine ⟨(Dev.CanStep.onCan s n _).trans hstep, ?_⟩
  rw [hcan, hsame]
  rfl

end

theorem Dev.bit_set_apart (s : Dev) (a : Nat) (f g : Fld) (v : Nat) (hf : f.ok = true) (hg : g.ok = true)
    (h : g.hi < f.lo ∨ f.hi < g.lo) : (s.set a f v).bit a g = s.bit a g := congrArg (· == 1) (s.get_set_field a f g v hf hg h)

theorem canStat_ne_ctl (n : Nat) : A.CN_CTL n ≠ A.CN_STAT n := by simp only [A.CN_CTL, A.CN_STAT]; omega
theorem canStat_ne_err (n : Nat) : A.CN_STAT n ≠ A.CN_ERR n := by simp only [A.CN_ERR, A.CN_STAT]; omega

/-! ## Modes (R335) -/

section
variable (s : Dev) (n m : Nat)

/-- The channel with its mode written. -/
def Dev.canModeSet : Dev := s.set (A.CN_CTL n) F.CN_CTL_MODE m

/-- In CONFIG neither integration nor a recovery runs. -/
def Dev.canConfigured : Dev :=
  ((s.canModeSet n m).set (A.CN_STAT n) F.CN_STAT_INTEG 0).set (A.CN_STAT n) F.CN_STAT_RECOV 0

theorem Dev.canSetMode_config (h : m ≠ s.canMode n) (hm : m = canConfig) : s.canSetMode n m = s.canConfigured n m :=
  (if_neg h).trans (if_pos hm)

theorem Dev.canSetMode_integrate (h : m ≠ s.canMode n) (hm : m ≠ canConfig) (hw : s.canMode n = canConfig) :
    s.canSetMode n m = (s.canModeSet n m).set (A.CN_STAT n) F.CN_STAT_INTEG 1 :=
  ((if_neg h).trans (if_neg hm)).trans (if_pos hw)

theorem Dev.canSetMode_other (h : m ≠ s.canMode n) (hm : m ≠ canConfig) (hw : s.canMode n ≠ canConfig) :
    s.canSetMode n m = s.canModeSet n m := ((if_neg h).trans (if_neg hm)).trans (if_neg hw)

theorem Dev.canMode_canModeSet (hm : m < 4) : (s.canModeSet n m).canMode n = m := s.get_set_same _ _ m rfl hm

/-- A status field leaves the mode. -/
theorem Dev.canMode_set_stat (f : Fld) (v : Nat) : (s.set (A.CN_STAT n) f v).canMode n = s.canMode n :=
  s.get_set_reg f _ v (canStat_ne_ctl n)

/-- What a new mode leaves. -/
theorem Dev.canSetMode_spec (hm4 : m < 4) (h : m ≠ s.canMode n) : s.RegsAt (s.canSetMode n m) [A.CN_CTL n, A.CN_STAT n] ∧
    (s.canSetMode n m).canMode n = m ∧
    (m = 0 → (s.canSetMode n m).bit (A.CN_STAT n) F.CN_STAT_INTEG = false ∧
      (s.canSetMode n m).bit (A.CN_STAT n) F.CN_STAT_RECOV = false) ∧
    (s.canMode n = 0 → (s.canSetMode n m).bit (A.CN_STAT n) F.CN_STAT_INTEG = true) ∧
    (s.canMode n ≠ 0 → m ≠ 0 → (s.canSetMode n m).reg (A.CN_STAT n) = s.reg (A.CN_STAT n)) := by
  have hset : s.RegsAt (s.canModeSet n m) [A.CN_CTL n, A.CN_STAT n] := (Dev.RegsAt.refl s _).set _ _ (by simp)
  have hmode := s.canMode_canModeSet n m hm4
  by_cases hm : m = canConfig
  · rw [s.canSetMode_config n m h hm]
    refine ⟨(hset.set _ _ (by simp)).set _ _ (by simp),
      ((Dev.canMode_set_stat _ n _ _).trans (Dev.canMode_set_stat _ n _ _)).trans hmode, fun _ => ⟨?_, ?_⟩,
      fun h0 => absurd (hm.trans h0.symm) h, fun _ h0 => absurd hm h0⟩
    · exact (Dev.bit_set_apart _ _ _ _ _ rfl rfl (by decide)).trans (Dev.bit_setBit_same _ _ _ false rfl)
    · exact Dev.bit_setBit_same _ _ _ false rfl
  · by_cases hw : s.canMode n = canConfig
    · rw [s.canSetMode_integrate n m h hm hw]
      exact ⟨hset.set _ _ (by simp), (Dev.canMode_set_stat _ n _ _).trans hmode, fun h0 => absurd h0 hm,
        fun _ => Dev.bit_setBit_same _ _ _ true rfl, fun h0 => absurd hw h0⟩
    · rw [s.canSetMode_other n m h hm hw]
      exact ⟨hset, hmode, fun h0 => absurd h0 hm, fun h0 => absurd h0 hw,
        fun _ _ => s.reg_setReg_other _ (canStat_ne_ctl n).symm⟩

end

/-! ## PUSH (R337) -/

/-- The entry that PUSH puts together. -/
def Dev.pushedWords (s : Dev) (n tag : Nat) : List Word :=
  frameWord0 (s.reg (A.CN_TXW n 0)) :: BitVec.ofNat 32 (tag * 65536 + bitsOf (s.reg (A.CN_TXW n 1)) 4 0) :: 0 :: 0 ::
    (upto 16).map fun k => s.reg (A.CN_TXW n (4 + k))

theorem bitsOf_lt (w : Word) (hi lo : Nat) : bitsOf w hi lo < 2 ^ (hi - lo + 1) := Nat.mod_lt _ (Nat.two_pow_pos _)

/-- The tag of an entry is the upper half of its word 1. -/
theorem frameTag_of_word {ws : List Word} {tag low : Nat} (h : ws.getD 1 0 = BitVec.ofNat 32 (tag * 65536 + low)) (ht : tag < 65536)
    (hl : low < 65536) : frameTag ws = tag := by
  have hnat : (BitVec.ofNat 32 (tag * 65536 + low)).toNat = tag * 65536 + low := by
    rw [BitVec.toNat_ofNat]; exact Nat.mod_eq_of_lt (by omega)
  rw [frameTag, h, bitsOf, hnat, Nat.shiftRight_eq_div_pow]
  omega

section
variable (s : Dev) (n : Nat)

theorem Dev.pushedWords_tag {tag : Nat} (ht : tag < 65536) : frameTag (s.pushedWords n tag) = tag :=
  frameTag_of_word rfl ht (lt_trans (bitsOf_lt _ 4 0) (by decide))

theorem Dev.pushedWords_data (tag : Nat) {k : Nat} (hk : k < 16) : (s.pushedWords n tag).getD (4 + k) 0 = s.reg (A.CN_TXW n (4 + k)) := by
  have hdrop : (s.pushedWords n tag).getD (4 + k) 0 = ((upto 16).map fun k => s.reg (A.CN_TXW n (4 + k))).getD k 0 := by
    rw [Nat.add_comm]
    rfl
  rw [hdrop]
  simp [upto, List.getD_eq_getElem?_getD, hk]

/-- A frame that enters the FIFO. -/
def Dev.pushed (ws : List Word) : Dev := s.canPut n fun c => { c with tx := c.tx ++ [⟨ws, s.epochNow⟩] }

theorem Dev.canEnqueue_room {ws : List Word} (h : ¬32 ≤ (s.can n).tx.length) : s.canEnqueue n ws = some (s.pushed n ws) := if_neg h

theorem Dev.canPush_bad (tag : Nat) (h : (frameFdf (frameWord0 (s.reg (A.CN_TXW n 0))) && frameRtr (frameWord0 (s.reg (A.CN_TXW n 0)))) = true) :
    s.canPush n tag = s.set (A.CN_TXSTAT n) F.CN_TXSTAT_PRES 3 := if_pos h

theorem Dev.canPush_full (tag : Nat) (h : (frameFdf (frameWord0 (s.reg (A.CN_TXW n 0))) && frameRtr (frameWord0 (s.reg (A.CN_TXW n 0)))) = false)
    (hf : 32 ≤ (s.can n).tx.length) : s.canPush n tag = s.set (A.CN_TXSTAT n) F.CN_TXSTAT_PRES 2 := by
  have hnone (ws : List Word) : s.canEnqueue n ws = none := if_pos hf
  rw [Dev.canPush]
  dsimp only
  rw [h, if_neg Bool.false_ne_true, hnone]

theorem Dev.canPush_room (tag : Nat) (h : (frameFdf (frameWord0 (s.reg (A.CN_TXW n 0))) && frameRtr (frameWord0 (s.reg (A.CN_TXW n 0)))) = false)
    (hf : ¬32 ≤ (s.can n).tx.length) :
    s.canPush n tag = (s.pushed n (s.pushedWords n tag)).set (A.CN_TXSTAT n) F.CN_TXSTAT_PRES 1 := by
  rw [Dev.canPush]
  dsimp only
  rw [h, if_neg Bool.false_ne_true, s.canEnqueue_room n hf]
  rfl

/-- What a frame that enters the FIFO leaves. -/
theorem Dev.pushed_spec (ws : List Word) (hf : (s.can n).tx.length < 32) :
    Dev.CanStep n (canShown n) false false s ((s.pushed n ws).set (A.CN_TXSTAT n) F.CN_TXSTAT_PRES 1) ∧
      ((s.pushed n ws).set (A.CN_TXSTAT n) F.CN_TXSTAT_PRES 1).get (A.CN_TXSTAT n) F.CN_TXSTAT_PRES = 1 ∧
      ((s.pushed n ws).set (A.CN_TXSTAT n) F.CN_TXSTAT_PRES 1).get (A.CN_TXSTAT n) F.CN_TXSTAT_LEVEL = (s.can n).tx.length + 1 ∧
      ((s.pushed n ws).set (A.CN_TXSTAT n) F.CN_TXSTAT_PRES 1).can n =
        { s.can n with tx := (s.can n).tx ++ [⟨ws, s.epochNow⟩] } := by
  have hput := s.canPut_step n fun c => { c with tx := c.tx ++ [⟨ws, s.epochNow⟩] }
  have hsame := s.can_onCan_same n fun c => { c with tx := c.tx ++ [⟨ws, s.epochNow⟩] }
  have hlen : ((s.can n).tx ++ [(⟨ws, s.epochNow⟩ : CanTx)]).length = (s.can n).tx.length + 1 := List.length_append
  have hlevel := (s.onCan n fun c => { c with tx := c.tx ++ [⟨ws, s.epochNow⟩] }).level_canShow n
  rw [hsame, hlen] at hlevel
  refine ⟨(hput.trans (.set_reg _ n (A.CN_TXSTAT n) _ 1)).mono (by simp [txstat_mem]), Dev.get_set_same _ _ _ _ rfl (by decide),
    (Dev.get_set_field _ _ _ _ _ rfl rfl (by decide)).trans (hlevel (by omega)), ?_⟩
  exact (Dev.RegsOnly.can ((Dev.RegsOnly.refl _).setReg _ _) n).trans (s.can_canPut n _)

end

section
variable {s : State} (hon : s.dev.on = true) (n : Fin 16) (tag : BitVec 16)
include hon

/-- What PUSH of a frame that finds room leaves (R337). -/
theorem canPush_room_does
    (h : (frameFdf (frameWord0 (s.dev.reg (A.CN_TXW n 0))) && frameRtr (frameWord0 (s.dev.reg (A.CN_TXW n 0)))) = false)
    (hf : ¬32 ≤ (s.dev.can n).tx.length) : Does (.canPush n tag) s fun d =>
    d = { s.dev with regs := d.regs, cans := d.cans } ∧ (∀ k, k ≠ n.val → d.can k = s.dev.can k) ∧ s.dev.RegsKept d (canShown n) ∧
      d.get (A.CN_TXSTAT n) F.CN_TXSTAT_PRES = 1 ∧ d.get (A.CN_TXSTAT n) F.CN_TXSTAT_LEVEL = (s.dev.can n).tx.length + 1 ∧
      ∃ y : CanTx, d.can n = { s.dev.can n with tx := (s.dev.can n).tx ++ [y] } ∧ y.epoch = s.dev.epochNow ∧
        y.words.getD 0 0 = frameWord0 (s.dev.reg (A.CN_TXW n 0)) ∧ frameTag y.words = tag.toNat ∧
        ∀ k, k < 16 → y.words.getD (4 + k) 0 = s.dev.reg (A.CN_TXW n (4 + k)) := by
  refine Does.of_go (f := (·.canPush n tag.toNat)) rfl hon ?_
  have htag := s.dev.pushedWords_tag n tag.isLt
  have hdata {k : Nat} (hk : k < 16) := s.dev.pushedWords_data n tag.toNat hk
  have hhead : (s.dev.pushedWords n tag.toNat).getD 0 0 = frameWord0 (s.dev.reg (A.CN_TXW n 0)) := rfl
  rw [s.dev.canPush_room n _ h hf]
  generalize s.dev.pushedWords n tag.toNat = ws at *
  obtain ⟨hstep, hres, hlevel, hcan⟩ := s.dev.pushed_spec n ws (Nat.lt_of_not_le hf)
  exact ⟨hstep.eq_cans rfl rfl, hstep.others, hstep.regs, hres, hlevel, _, hcan, rfl, hhead, htag, fun k hk => hdata hk⟩

/-- What PUSH of a remote frame with FDF, or into a full FIFO, leaves (R337). -/
theorem canPush_refused_does
    (h : (frameFdf (frameWord0 (s.dev.reg (A.CN_TXW n 0))) && frameRtr (frameWord0 (s.dev.reg (A.CN_TXW n 0)))) = true ∨
      32 ≤ (s.dev.can n).tx.length) : Does (.canPush n tag) s fun d =>
    d = { s.dev with regs := d.regs } ∧ s.dev.RegsKept d [A.CN_TXSTAT n] ∧ d.get (A.CN_TXSTAT n) F.CN_TXSTAT_PRES =
      if (frameFdf (frameWord0 (s.dev.reg (A.CN_TXW n 0))) && frameRtr (frameWord0 (s.dev.reg (A.CN_TXW n 0)))) then 3 else 2 := by
  refine Does.of_go (f := (·.canPush n tag.toNat)) rfl hon ?_
  have hkept (v : Nat) : s.dev.RegsKept (s.dev.set (A.CN_TXSTAT n) F.CN_TXSTAT_PRES v) [A.CN_TXSTAT n] :=
    (Dev.RegsKept.refl s.dev _).set _ _ (List.mem_singleton_self _)
  cases hbad : (frameFdf (frameWord0 (s.dev.reg (A.CN_TXW n 0))) && frameRtr (frameWord0 (s.dev.reg (A.CN_TXW n 0)))) with
  | true =>
    rw [s.dev.canPush_bad n _ hbad]
    exact ⟨rfl, hkept 3, s.dev.get_set_same _ _ 3 rfl (by decide)⟩
  | false =>
    rw [s.dev.canPush_full n _ hbad (h.resolve_left (by rw [hbad]; exact Bool.false_ne_true))]
    exact ⟨rfl, hkept 2, s.dev.get_set_same _ _ 2 rfl (by decide)⟩

end

/-! ## CANCEL (R340) -/

section
variable (s : Dev) (n tag bus : Nat) (sof : Word)

/-- The place of the first frame with a tag. -/
def Dev.canPlace : Option Nat := (s.can n).tx.findIdx? fun y => frameTag y.words == tag

theorem Dev.canCancel_none (h : s.canPlace n tag = none) :
    s.canCancel n tag bus sof = s.set (A.CN_TXSTAT n) F.CN_TXSTAT_CRES 3 := by
  rw [Dev.canPlace] at h
  rw [Dev.canCancel, h]

theorem Dev.canCancel_won (h : s.canPlace n tag = some 0) (hb : bus = 2) (hc : s.canContends n = true) :
    s.canCancel n tag bus sof = (s.onCan n fun c => { c with last := true }).set (A.CN_TXSTAT n) F.CN_TXSTAT_CRES 2 := by
  rw [Dev.canPlace] at h
  rw [Dev.canCancel, h]
  exact if_pos (by rw [hb, hc]; rfl)

theorem Dev.canCancel_leaves {i : Nat} (h : s.canPlace n tag = some i) (hb : i ≠ 0 ∨ bus ≠ 2) : s.canCancel n tag bus sof =
    (s.canLeave n i canCancelled (if i = 0 && bus == 1 then sof else 0)).set (A.CN_TXSTAT n) F.CN_TXSTAT_CRES 1 := by
  rw [Dev.canPlace] at h
  rw [Dev.canCancel, h]
  refine if_neg ?_
  simp only [Bool.and_eq_true, decide_eq_true_eq, beq_iff_eq]
  omega

/-- The frame at the place of a tag carries it. -/
theorem Dev.frame_of_canPlace {i : Nat} (h : s.canPlace n tag = some i) :
    ∃ y, (s.can n).tx[i]? = some y ∧ frameTag y.words = tag := by
  obtain ⟨hi, htag, -⟩ := List.findIdx?_eq_some_iff_getElem.1 h
  exact ⟨_, List.getElem?_eq_getElem hi, by simpa using htag⟩

/-- What CANCEL of a frame that leaves the FIFO leaves (R340). -/
theorem Dev.canCancel_leaves_spec {i : Nat} (h : s.canPlace n tag = some i) (hb : i ≠ 0 ∨ bus ≠ 2)
    (hroom : (s.can n).done.length < 32) : Dev.CanStep n (canShown n) false true s (s.canCancel n tag bus sof) ∧
      (s.canCancel n tag bus sof).get (A.CN_TXSTAT n) F.CN_TXSTAT_CRES = 1 ∧
      (s.canCancel n tag bus sof).can n = { (s.can n).left i with
        done := (s.can n).done ++ [(BitVec.ofNat 32 (tag * 65536 + 2), if i = 0 ∧ bus = 1 then sof else 0)] } := by
  obtain ⟨y, hy, htag⟩ := s.frame_of_canPlace n tag h
  obtain ⟨hstep, hcan⟩ := s.canLeave_spec n hy canCancelled (if i = 0 && bus == 1 then sof else 0) hroom
  rw [s.canCancel_leaves n tag bus sof h hb]
  refine ⟨(hstep.trans (.set_reg _ n (A.CN_TXSTAT n) _ _)).mono (by simp [txstat_mem]), Dev.get_set_same _ _ _ _ rfl (by decide), ?_⟩
  refine (Dev.RegsOnly.can ((Dev.RegsOnly.refl _).setReg _ _) n).trans (hcan.trans ?_)
  rw [htag]
  have hstamp : (if i = 0 && bus == 1 then sof else 0) = if i = 0 ∧ bus = 1 then sof else 0 := by
    simp only [Bool.and_eq_true, decide_eq_true_eq, beq_iff_eq]
  rw [hstamp]
  rfl

end

/-! ## The error state (R343) -/

section
variable (s : Dev) (n : Nat)

/-- The error state follows the counters: STATE and BOFF of CN_STAT alone change, with a record for bus-off. -/
theorem Dev.canJudge_cases : s.canJudge n = s ∨
    (∃ v, s.canJudge n = s.set (A.CN_STAT n) F.CN_STAT_STATE v) ∨
    s.canJudge n = ((s.set (A.CN_STAT n) F.CN_STAT_STATE 2).set (A.CN_STAT n) F.CN_STAT_BOFF 1).offer 0x48 0x0E .canBusOff := by
  rw [Dev.canJudge]
  split
  · exact .inl rfl
  · split
    · exact .inr (.inr rfl)
    · exact .inr (.inl ⟨_, rfl⟩)

theorem Dev.canJudge_step : Dev.CanStep n [A.CN_STAT n] true false s (s.canJudge n) := by
  obtain h | ⟨v, h⟩ | h := s.canJudge_cases n <;> rw [h]
  · exact .refl n _ _ _ s
  · exact (Dev.CanStep.set_reg s n _ _ _).trans (.refl n [] true false _)
  · exact (((Dev.CanStep.set_reg s n _ _ _).trans (.set_reg _ n _ _ _)).trans (.offer _ n _ _ _)).mono (by simp)

theorem Dev.can_canJudge (k : Nat) : (s.canJudge n).can k = s.can k := by
  obtain h | ⟨v, h⟩ | h := s.canJudge_cases n <;> rw [h] <;> rfl

/-- Fields of CN_STAT apart from STATE and BOFF stay. -/
theorem Dev.bit_canJudge {f : Fld} (hf : f.ok = true) (h1 : 1 < f.lo) (h4 : f.hi < 4 ∨ 4 < f.lo) :
    (s.canJudge n).bit (A.CN_STAT n) f = s.bit (A.CN_STAT n) f := by
  obtain h | ⟨v, h⟩ | h := s.canJudge_cases n <;> rw [h]
  · exact s.bit_set_apart _ _ _ _ rfl hf (.inr h1)
  · exact (Dev.bit_set_apart _ _ _ _ _ rfl hf h4).trans (s.bit_set_apart _ _ _ _ rfl hf (.inr h1))

theorem Dev.canJudge_frame : (s.canJudge n).duoSet = s.duoSet ∧ (s.canJudge n).cans = s.cans := by
  obtain h | ⟨v, h⟩ | h := s.canJudge_cases n <;> rw [h] <;> exact ⟨rfl, rfl⟩

/-! ## The error counters -/

/-- A change of CN_STAT alone leaves the counters. -/
theorem Dev.CanStep.get_err {d : Dev} {noted set : Bool} {s : Dev} {n : Nat} (h : Dev.CanStep n [A.CN_STAT n] noted set s d) (f : Fld) :
    d.get (A.CN_ERR n) f = s.get (A.CN_ERR n) f :=
  h.regs.get f (by simpa using (canStat_ne_err n).symm)

/-- The lone node is not alone. -/
theorem Dev.canNotAlone_step : Dev.CanStep n [A.CN_STAT n] false false s (s.canNotAlone n) :=
  (Dev.CanStep.onCan s n _).trans (.set_reg _ n _ _ _)

theorem Dev.can_canNotAlone : (s.canNotAlone n).can n = { s.can n with ackErrs := 0 } :=
  s.can_onCan_same n fun c => { c with ackErrs := 0 }

theorem Dev.alone_canNotAlone : (s.canNotAlone n).bit (A.CN_STAT n) F.CN_STAT_ALONE = false := Dev.bit_setBit_same _ _ _ false rfl

/-- The row of acknowledgement errors after one more error. -/
def Dev.ackRow (ack : Bool) : Nat := if ack then (s.can n).ackErrs + 1 else 0

theorem Dev.canAckErr_spec (ack : Bool) : Dev.CanStep n [A.CN_STAT n] true false s (s.canAckErr n ack) ∧
    (s.canAckErr n ack).can n = { s.can n with ackErrs := s.ackRow n ack } := by
  have hstep := Dev.CanStep.onCan s n fun c => { c with ackErrs := s.ackRow n ack }
  have hcan := s.can_onCan_same n fun c => { c with ackErrs := s.ackRow n ack }
  rw [Dev.canAckErr]
  dsimp only
  rw [← Dev.ackRow]
  split
  · exact ⟨((hstep.trans (.set_reg _ n (A.CN_STAT n) _ 1)).trans (.offer _ n _ _ _)).mono (by simp), hcan⟩
  · exact ⟨(hstep.trans (.refl n [A.CN_STAT n] true false _)), hcan⟩

end

/-! ## A channel that contends (R352) -/

section
variable {s : Dev} {n : Nat}

/-- The contending head stands in the FIFO of a device that does not stand by. -/
theorem Dev.head_of_canContends (h : s.canContends n = true) : s.roleStandby = false ∧ ∃ y rest, (s.can n).tx = y :: rest := by
  simp only [Dev.canContends, Bool.and_eq_true, Bool.not_eq_true'] at h
  obtain ⟨⟨-, hrole⟩, hhead⟩ := h
  refine ⟨hrole, ?_⟩
  cases ht : (s.can n).tx with
  | nil =>
    rw [ht] at hhead
    exact absurd hhead (by simp)
  | cons y rest => exact ⟨y, rest, rfl⟩

end

/-! ## Frames sent (R339) -/

section
variable (s : Dev) (n : Nat) (sof : Word)

/-- TEC counts a frame that was sent. -/
def Dev.tecDown : Dev := s.set (A.CN_ERR n) F.CN_ERR_TEC (s.canTec n - 1)

/-- The channel as its head has been sent. -/
def Dev.headSent : Dev := (((s.tecDown n).canJudge n).canNotAlone n).canLeave n 0 canSent sof

theorem Dev.canTec_lt (s : Dev) (n : Nat) : s.canTec n < 512 := bitsOf_lt _ 8 0

/-- A head that is sent in NORMAL, without SELFRX. -/
theorem Dev.canSentHead_normal {y : CanTx} {rest : List CanTx} {z : Dev} (hz : s.headSent n sof = z) (hc : s.canContends n = true)
    (ht : (s.can n).tx = y :: rest) (hrole : z.roleStandby = false) (hmode : z.canMode n = 1)
    (hself : z.bit (A.CN_CTL n) F.CN_CTL_SELFRX = false) :
    s.canSentHead n sof = { z with sent := z.sent ++ [⟨0, n, 0, y.words⟩] } := by
  have hout : (if z.canMode n = canLoop then z else z.emit ⟨0, n, 0, y.words⟩) = { z with sent := z.sent ++ [⟨0, n, 0, y.words⟩] } := by
    rw [hmode, Dev.emit, hrole]
    rfl
  have hself' : ({ z with sent := z.sent ++ [⟨0, n, 0, y.words⟩] } : Dev).bit (A.CN_CTL n) F.CN_CTL_SELFRX = false := hself
  have hmode' : ({ z with sent := z.sent ++ [⟨0, n, 0, y.words⟩] } : Dev).canMode n = 1 := hmode
  rw [Dev.canSentHead, hc]
  refine (if_neg (by decide)).trans ?_
  rw [ht]
  dsimp only
  rw [← Dev.tecDown, ← Dev.headSent, hz, hout, hself', hmode']
  exact if_neg Bool.false_ne_true

/-- What a head that is sent leaves. -/
theorem Dev.headSent_spec {y : CanTx} {rest : List CanTx} (ht : (s.can n).tx = y :: rest) (hroom : (s.can n).done.length < 32) :
    Dev.CanStep n (A.CN_STAT n :: A.CN_ERR n :: canShown n) true true s (s.headSent n sof) ∧
      (s.headSent n sof).canTec n = s.canTec n - 1 ∧ (s.headSent n sof).bit (A.CN_STAT n) F.CN_STAT_ALONE = false ∧
      (s.headSent n sof).can n = { s.can n with
        tx := rest, retries := 0, last := false, ackErrs := 0,
        done := (s.can n).done ++ [(BitVec.ofNat 32 (frameTag y.words * 65536 + 1), sof)] } := by
  have hdown : Dev.CanStep n [A.CN_ERR n] false false s (s.tecDown n) := .set_reg s n _ _ _
  have htec : (s.tecDown n).canTec n = s.canTec n - 1 :=
    s.get_set_same (A.CN_ERR n) F.CN_ERR_TEC (s.canTec n - 1) rfl (Nat.lt_of_le_of_lt (Nat.sub_le _ _) (s.canTec_lt n))
  have hj := (s.tecDown n).canJudge_step n
  have hna := ((s.tecDown n).canJudge n).canNotAlone_step n
  have hcan : (((s.tecDown n).canJudge n).canNotAlone n).can n = { s.can n with ackErrs := 0 } := by
    rw [Dev.can_canNotAlone, Dev.can_canJudge]
    rfl
  have halone := ((s.tecDown n).canJudge n).alone_canNotAlone n
  rw [Dev.headSent]
  generalize s.tecDown n = a at *
  generalize a.canJudge n = b at *
  generalize b.canNotAlone n = c at *
  obtain ⟨hstep, hleft⟩ := c.canLeave_spec n (i := 0) (y := y) (by rw [hcan, ht]; rfl) canSent sof (by rw [hcan]; exact hroom)
  refine ⟨(((hdown.trans hj).trans hna).trans hstep).mono (by simp), ?_, ?_, ?_⟩
  · exact (hstep.regs.get _ (canErr_not_shown n)).trans (((hna.get_err _).trans (hj.get_err _)).trans htec)
  · exact (hstep.regs.bit _ (canStat_not_shown n)).trans halone
  · rw [hleft, hcan]
    simp only [Can.left, ht]
    rfl

end

/-! ## A frame sent (R339) -/

theorem duoStat_not_can (n : Nat) : A.DUO_STAT ∉ A.CN_STAT n :: A.CN_ERR n :: canShown n := by
  simp only [List.mem_cons, not_or]
  refine ⟨?_, ?_, fun h => ?_⟩
  · simp only [A.DUO_STAT, A.CN_STAT]; omega
  · simp only [A.DUO_STAT, A.CN_ERR]; omega
  · have := canShown_range h
    simp only [A.DUO_STAT, A.CN_TXSTAT, A.CN_RXCMD] at this
    omega

theorem canCtl_not_mem (n : Nat) : A.CN_CTL n ∉ A.CN_STAT n :: A.CN_ERR n :: canShown n := by
  simp only [List.mem_cons, not_or]
  refine ⟨canStat_ne_ctl n, ?_, canCtl_not_shown n⟩
  simp only [A.CN_CTL, A.CN_ERR]; omega

section
variable {s : State} (hon : s.dev.on = true) (n : Fin 16)
include hon

/-- What a frame that is sent leaves (R339). -/
theorem canFrameSent_does {y : CanTx} {rest : List CanTx} (sof : Word) (hc : s.dev.canContends n = true)
    (ht : (s.dev.can n).tx = y :: rest) (hroom : (s.dev.can n).done.length < 32) (hmode : s.dev.canMode n = 1)
    (hself : s.dev.bit (A.CN_CTL n) F.CN_CTL_SELFRX = false) : Does (.canFrameSent n sof) s fun d =>
    d = { s.dev with regs := d.regs, cans := d.cans, duoSet := d.duoSet, sent := d.sent, scribe := d.scribe, free := d.free } ∧
      (∀ k, k ≠ n.val → d.can k = s.dev.can k) ∧ s.dev.RegsKept d (A.CN_STAT n :: A.CN_ERR n :: canShown n) ∧
      d.sent = s.dev.sent ++ [⟨0, n, 0, y.words⟩] ∧ d.canTec n = s.dev.canTec n - 1 ∧
      d.can n = { s.dev.can n with
        tx := rest, retries := 0, last := false, ackErrs := 0,
        done := (s.dev.can n).done ++ [(BitVec.ofNat 32 (frameTag y.words * 65536 + 1), sof)] } ∧
      d.bit (A.CN_STAT n) F.CN_STAT_ALONE = false := by
  refine Does.of_go (f := (·.canSentHead n.val sof)) rfl hon ?_
  obtain ⟨hstep, htec, halone, hcan⟩ := s.dev.headSent_spec n sof ht hroom
  have hrole := (Dev.head_of_canContends hc).1
  generalize hz : s.dev.headSent n sof = z at *
  have hctl (f : Fld) := hstep.regs.get f (canCtl_not_mem n)
  rw [s.dev.canSentHead_normal n sof hz hc ht (by rw [Dev.roleStandby, hstep.regs.get _ (duoStat_not_can n)]; exact hrole)
    ((hctl _).trans hmode) ((congrArg (· == 1) (hctl _)).trans hself)]
  refine ⟨?_, hstep.others, hstep.regs, congrArg (· ++ _) hstep.sent, htec, hcan, halone⟩
  obtain ⟨r, c, q, sc, f, rfl⟩ := hstep.frame
  rfl

end

/-! ## Errors while sending (R339, R342) -/

section
variable (s : Dev) (n lec : Nat)

/-- The last error code with the transmit error counter. -/
def Dev.txCounted : Dev :=
  let passive := s.get (A.CN_STAT n) F.CN_STAT_STATE == 1
  let s := s.set (A.CN_ERR n) F.CN_ERR_LEC lec
  if passive && lec == lecAck then s else s.set (A.CN_ERR n) F.CN_ERR_TEC (min (s.canTec n + 8) 256)

/-- The channel after an error of its transmission, before the frame is tried again or fails. -/
def Dev.txErred : Dev := ((s.txCounted n lec).canAckErr n (lec == lecAck)).canJudge n

/-- The head is not tried again. -/
def Dev.noRetry : Bool :=
  (s.can n).last || (s.get (A.CN_CTL n) F.CN_CTL_RETRY != 255 && decide (s.get (A.CN_CTL n) F.CN_CTL_RETRY ≤ (s.can n).retries))

theorem Dev.canTxError_eq (sof : Word) (hc : s.canContends n = true) : s.canTxError n lec sof =
    if (s.txErred n lec).noRetry n then (s.txErred n lec).canLeave n 0 canFailed sof
    else (s.txErred n lec).onCan n fun c => { c with retries := c.retries + 1 } := if_neg (by rw [hc]; decide)

theorem Dev.txCounted_spec (hl : lec < 8) : Dev.CanStep n [A.CN_ERR n] false false s (s.txCounted n lec) ∧
    (s.txCounted n lec).get (A.CN_ERR n) F.CN_ERR_LEC = lec ∧ (s.txCounted n lec).can n = s.can n ∧
    (¬(s.get (A.CN_STAT n) F.CN_STAT_STATE = 1 ∧ lec = lecAck) → (s.txCounted n lec).canTec n = min (s.canTec n + 8) 256) ∧
    (s.get (A.CN_STAT n) F.CN_STAT_STATE = 1 ∧ lec = lecAck → (s.txCounted n lec).canTec n = s.canTec n) := by
  have hlec : (s.set (A.CN_ERR n) F.CN_ERR_LEC lec).get (A.CN_ERR n) F.CN_ERR_LEC = lec := s.get_set_same _ _ _ rfl hl
  have htec : (s.set (A.CN_ERR n) F.CN_ERR_LEC lec).canTec n = s.canTec n := s.get_set_field _ _ _ _ rfl rfl (by decide)
  have hset := Dev.CanStep.set_reg s n (A.CN_ERR n) F.CN_ERR_LEC lec
  have hiff : (s.get (A.CN_STAT n) F.CN_STAT_STATE == 1 && lec == lecAck) = true ↔
      s.get (A.CN_STAT n) F.CN_STAT_STATE = 1 ∧ lec = lecAck := by simp
  rw [Dev.txCounted, htec]
  split
  · next h => exact ⟨hset, hlec, rfl, fun hn => absurd (hiff.1 h) hn, fun _ => htec⟩
  · next h =>
    refine ⟨(hset.trans (.set_reg _ n (A.CN_ERR n) _ _)).mono (by simp),
      (Dev.get_set_field _ _ _ _ _ rfl rfl (by decide)).trans hlec, rfl, fun _ => ?_, fun hn => absurd (hiff.2 hn) h⟩
    exact Dev.get_set_same _ _ _ _ rfl (Nat.lt_of_le_of_lt (Nat.min_le_right _ _) (by decide))

/-- What an error of a transmission leaves, whatever becomes of the frame. -/
theorem Dev.txErred_spec (hl : lec < 8) : Dev.CanStep n [A.CN_STAT n, A.CN_ERR n] true false s (s.txErred n lec) ∧
    (s.txErred n lec).get (A.CN_ERR n) F.CN_ERR_LEC = lec ∧
    (∃ k, (s.txErred n lec).can n = { s.can n with ackErrs := k }) ∧ (s.txErred n lec).noRetry n = s.noRetry n ∧
    (¬(s.get (A.CN_STAT n) F.CN_STAT_STATE = 1 ∧ lec = lecAck) → (s.txErred n lec).canTec n = min (s.canTec n + 8) 256) ∧
    (s.get (A.CN_STAT n) F.CN_STAT_STATE = 1 ∧ lec = lecAck → (s.txErred n lec).canTec n = s.canTec n) := by
  obtain ⟨hcount, hlec, hsame, hup, hstay⟩ := s.txCounted_spec n lec hl
  rw [Dev.txErred]
  generalize s.txCounted n lec = a at *
  obtain ⟨hack, hrow⟩ := a.canAckErr_spec n (lec == lecAck)
  generalize a.canAckErr n (lec == lecAck) = b at *
  have hj := b.canJudge_step n
  have hcan := b.can_canJudge n n
  generalize b.canJudge n = c at *
  have hc : ∃ k, c.can n = { s.can n with ackErrs := k } := ⟨_, by rw [hcan, hrow, hsame]⟩
  have hctl := ((hcount.trans hack).trans hj).regs.get F.CN_CTL_RETRY (a := A.CN_CTL n) (by
    simp only [List.mem_append, List.mem_singleton, or_assoc, A.CN_CTL, A.CN_ERR, A.CN_STAT]; omega)
  have herr (f : Fld) := (hj.get_err f).trans (hack.get_err f)
  refine ⟨((hcount.trans hack).trans hj).mono (by simp), (herr _).trans hlec, hc, ?_, fun h => (herr _).trans (hup h),
    fun h => (herr _).trans (hstay h)⟩
  obtain ⟨k, hk⟩ := hc
  rw [Dev.noRetry, hctl, hk]
  rfl

end

/-- The last error code with the receive error counter. -/
def Dev.recSet (s : Dev) (n lec v : Nat) : Dev := (s.set (A.CN_ERR n) F.CN_ERR_LEC lec).set (A.CN_ERR n) F.CN_ERR_REC v

theorem Dev.recSet_spec (s : Dev) (n : Nat) {lec v : Nat} (hl : lec < 8) (hv : v < 256) :
    Dev.CanStep n [A.CN_ERR n] false false s (s.recSet n lec v) ∧ (s.recSet n lec v).get (A.CN_ERR n) F.CN_ERR_LEC = lec ∧
      (s.recSet n lec v).canRec n = v ∧ (s.recSet n lec v).cans = s.cans :=
  ⟨((Dev.CanStep.set_reg s n (A.CN_ERR n) F.CN_ERR_LEC lec).trans (.set_reg _ n (A.CN_ERR n) F.CN_ERR_REC v)).mono (by simp),
    (Dev.get_set_field _ _ _ _ _ rfl rfl (by decide)).trans (s.get_set_same _ _ _ rfl hl), Dev.get_set_same _ _ _ _ rfl hv, rfl⟩

section
variable {s : State} (hon : s.dev.on = true) (n : Fin 16)
include hon

/-- What an error of a transmission that is tried again leaves (R339, R342). -/
theorem txError_again_does (lec : Fin 8) (sof : Word) (hc : s.dev.canContends n = true) (h : s.dev.noRetry n = false) :
    Does (.txError n lec sof) s fun d => (d.get (A.CN_ERR n) F.CN_ERR_LEC = lec ∧ (∀ k, k ≠ n.val → d.can k = s.dev.can k) ∧
      (¬(s.dev.get (A.CN_STAT n) F.CN_STAT_STATE = 1 ∧ lec.val = lecAck) → d.canTec n = min (s.dev.canTec n + 8) 256) ∧
      (s.dev.get (A.CN_STAT n) F.CN_STAT_STATE = 1 ∧ lec.val = lecAck → d.canTec n = s.dev.canTec n)) ∧
      d = { s.dev with regs := d.regs, cans := d.cans, scribe := d.scribe, free := d.free } ∧
      s.dev.RegsKept d [A.CN_STAT n, A.CN_ERR n] ∧ (d.can n).tx = (s.dev.can n).tx ∧ (d.can n).retries = (s.dev.can n).retries + 1 := by
  refine Does.of_go (f := (·.canTxError n.val lec.val sof)) rfl hon ?_
  obtain ⟨hstep, hlec, ⟨k, hk⟩, hno, hup, hstay⟩ := s.dev.txErred_spec n lec lec.isLt
  rw [s.dev.canTxError_eq n lec sof hc, hno, h, if_neg Bool.false_ne_true]
  generalize s.dev.txErred n lec = a at *
  have hstep' := (hstep.trans (.onCan a n fun c => { c with retries := c.retries + 1 })).mono (bs := [A.CN_STAT n, A.CN_ERR n]) (by simp)
  have hcan := a.can_onCan_same n fun c => { c with retries := c.retries + 1 }
  rw [hk] at hcan
  exact ⟨⟨hlec, hstep'.others, hup, hstay⟩, hstep'.eq_noted rfl, hstep'.regs, by rw [hcan], by rw [hcan]⟩

/-- What an error of a transmission that fails for good leaves (R339, R341, R342). -/
theorem txError_fails_does (lec : Fin 8) (sof : Word) (hc : s.dev.canContends n = true) (hroom : (s.dev.can n).done.length < 32)
    (h : s.dev.noRetry n = true) :
    Does (.txError n lec sof) s fun d => (d.get (A.CN_ERR n) F.CN_ERR_LEC = lec ∧ (∀ k, k ≠ n.val → d.can k = s.dev.can k) ∧
      (¬(s.dev.get (A.CN_STAT n) F.CN_STAT_STATE = 1 ∧ lec.val = lecAck) → d.canTec n = min (s.dev.canTec n + 8) 256) ∧
      (s.dev.get (A.CN_STAT n) F.CN_STAT_STATE = 1 ∧ lec.val = lecAck → d.canTec n = s.dev.canTec n)) ∧
      s.dev.RegsKept d (A.CN_STAT n :: A.CN_ERR n :: canShown n) ∧ (d.can n).tx = (s.dev.can n).tx.drop 1 ∧
      d = { s.dev with regs := d.regs, cans := d.cans, duoSet := d.duoSet, scribe := d.scribe, free := d.free } ∧
      ∀ y, (s.dev.can n).tx.head? = some y →
        (d.can n).done = (s.dev.can n).done ++ [(BitVec.ofNat 32 (frameTag y.words * 65536 + 3), sof)] := by
  refine Does.of_go (f := (·.canTxError n.val lec.val sof)) rfl hon ?_
  obtain ⟨hstep, hlec, ⟨k, hk⟩, hno, hup, hstay⟩ := s.dev.txErred_spec n lec lec.isLt
  obtain ⟨-, y, rest, ht⟩ := Dev.head_of_canContends hc
  rw [s.dev.canTxError_eq n lec sof hc, hno, h, if_pos rfl]
  generalize s.dev.txErred n lec = a at *
  obtain ⟨hleave, hcan⟩ := a.canLeave_spec n (i := 0) (y := y) (by rw [hk, ht]; rfl) canFailed sof (by rw [hk]; exact hroom)
  have hall := (hstep.trans hleave).mono (bs := A.CN_STAT n :: A.CN_ERR n :: canShown n) (by simp)
  have herr (f : Fld) := hleave.regs.get f (canErr_not_shown n)
  refine ⟨⟨(herr _).trans hlec, hall.others, fun h => (herr _).trans (hup h), fun h => (herr _).trans (hstay h)⟩, hall.regs, ?_,
    hall.eq_all, fun z hz => ?_⟩
  · rw [hcan, hk]
    simp [Can.left, ht]
  · rw [ht] at hz
    obtain rfl : y = z := by simpa using hz
    rw [hcan, hk]
    rfl

/-- What an error found while receiving leaves (R342). -/
theorem canReceiveError_does (lec : Fin 8) (eight : Bool) (hbus : s.dev.canOnBus n = true) (hmode : s.dev.canMode n ≠ 3) :
    Does (.canReceiveError n lec eight) s fun d => d = { s.dev with regs := d.regs, scribe := d.scribe, free := d.free } ∧
      s.dev.RegsKept d [A.CN_STAT n, A.CN_ERR n] ∧ d.get (A.CN_ERR n) F.CN_ERR_LEC = lec ∧
      d.canRec n = min (s.dev.canRec n + if eight then 8 else 1) 255 := by
  refine Does.of_go (f := (·.canRxError n.val lec.val eight)) rfl hon ?_
  have htaken : (s.dev.canOnBus n && s.dev.canMode n != canLoop) = true := by
    rw [hbus, Bool.true_and, bne_iff_ne]
    exact hmode
  have hlt : min (s.dev.canRec n + if eight then 8 else 1) 255 < 256 := Nat.lt_of_le_of_lt (Nat.min_le_right _ _) (by decide)
  have he : s.dev.canRxError n lec.val eight =
      (s.dev.recSet n lec.val (min (s.dev.canRec n + if eight then 8 else 1) 255)).canJudge n := if_pos htaken
  rw [he]
  generalize min (s.dev.canRec n + if eight then 8 else 1) 255 = v at *
  obtain ⟨hset, hlec, hrec, hcans⟩ := s.dev.recSet_spec n lec.isLt hlt
  generalize s.dev.recSet n lec.val v = a at *
  have hj := a.canJudge_step n
  have hsame := (a.canJudge_frame n).2.trans hcans
  have hall := (hset.trans hj).mono (bs := [A.CN_STAT n, A.CN_ERR n]) (by simp)
  refine ⟨?_, hall.regs, (hj.get_err _).trans hlec, (hj.get_err _).trans hrec⟩
  have heq := hall.eq_noted rfl
  generalize a.canJudge n = d at *
  rw [hsame] at heq
  exact heq

end

/-! ## A frame heard (R342) -/

section
variable (s : Dev) (n : Nat)

/-- REC falls, from above 127 to a value from 119 to 127. -/
theorem Dev.canRecDown_spec : Dev.CanStep n [A.CN_STAT n, A.CN_ERR n] true false s (s.canRecDown n) ∧
    (s.canRecDown n).cans = s.cans ∧ (s.canRec n ≤ 127 → (s.canRecDown n).canRec n = s.canRec n - 1) ∧
    (127 < s.canRec n → 119 ≤ (s.canRecDown n).canRec n ∧ (s.canRecDown n).canRec n ≤ 127) := by
  have hspec {v : Nat} (hv : v < 256) (y : Dev) (hy : y = s.set (A.CN_ERR n) F.CN_ERR_REC v ∨ y = (s.set (A.CN_ERR n) F.CN_ERR_REC v).draw) :
      Dev.CanStep n [A.CN_STAT n, A.CN_ERR n] true false s (y.canJudge n) ∧ (y.canJudge n).cans = s.cans ∧
        (y.canJudge n).canRec n = v := by
    have hset := Dev.CanStep.set_reg s n (A.CN_ERR n) F.CN_ERR_REC v
    have hrec : (s.set (A.CN_ERR n) F.CN_ERR_REC v).canRec n = v := s.get_set_same _ _ _ rfl hv
    obtain ⟨hstep, hcans, hv⟩ : Dev.CanStep n [A.CN_ERR n] true false s y ∧ y.cans = s.cans ∧ y.canRec n = v := by
      rcases hy with rfl | rfl
      · exact ⟨(hset.trans (.refl n [] true false _)).mono (by simp), rfl, hrec⟩
      · exact ⟨(hset.trans (.draw _ n)).mono (by simp), rfl, hrec⟩
    have hj := y.canJudge_step n
    exact ⟨(hstep.trans hj).mono (by simp), (y.canJudge_frame n).2.trans hcans, (hj.get_err _).trans hv⟩
  rw [Dev.canRecDown]
  split
  · next h =>
    have hmod : (Config.freeWord s.free).toNat % 9 < 9 := Nat.mod_lt _ (by decide)
    obtain ⟨hstep, hcans, hrec⟩ := hspec (v := 119 + (Config.freeWord s.free).toNat % 9) (by omega) _ (.inr rfl)
    exact ⟨hstep, hcans, fun hle => absurd h (by omega), fun _ => by rw [hrec]; omega⟩
  · next h =>
    have hlt : s.canRec n < 256 := bitsOf_lt _ 22 15
    obtain ⟨hstep, hcans, hrec⟩ := hspec (v := s.canRec n - 1) (by omega) _ (.inl rfl)
    exact ⟨hstep, hcans, fun _ => hrec, fun hgt => absurd hgt h⟩

/-- The device as a channel has heard a frame. -/
def Dev.canHeard : Dev := ((s.canRecDown n).canNotAlone n).draw

/-- What a frame that is heard leaves, before it is matched. -/
theorem Dev.canHeard_spec : Dev.CanStep n [A.CN_STAT n, A.CN_ERR n] true false s (s.canHeard n) ∧
    (s.canHeard n).can n = { s.can n with ackErrs := 0 } ∧ (s.canHeard n).bit (A.CN_STAT n) F.CN_STAT_ALONE = false ∧
    (s.canRec n ≤ 127 → (s.canHeard n).canRec n = s.canRec n - 1) ∧
    (127 < s.canRec n → 119 ≤ (s.canHeard n).canRec n ∧ (s.canHeard n).canRec n ≤ 127) := by
  obtain ⟨hdown, hcans, hlow, hhigh⟩ := s.canRecDown_spec n
  rw [Dev.canHeard]
  generalize s.canRecDown n = a at *
  have hna := a.canNotAlone_step n
  have hcan := a.can_canNotAlone n
  have halone := a.alone_canNotAlone n
  have hsame : a.can n = s.can n := by rw [Dev.can, hcans]; rfl
  have herr := hna.get_err F.CN_ERR_REC
  rw [hsame] at hcan
  generalize a.canNotAlone n = b at *
  have hrec : b.draw.canRec n = a.canRec n := herr
  refine ⟨((hdown.trans hna).trans (.draw b n)).mono (by simp), hcan, halone, fun h => hrec.trans (hlow h), fun h => ?_⟩
  rw [hrec]
  exact hhigh h

/-! ## Filters (R345) -/

/-- The registers of the filters lie above the status registers. -/
theorem canFilterReg_not_mem (f : Nat) : A.CN_FLT_CFG n f ∉ [A.CN_STAT n, A.CN_ERR n] ∧ A.CN_FLT_ID n f ∉ [A.CN_STAT n, A.CN_ERR n] ∧
    A.CN_FLT_MASK n f ∉ [A.CN_STAT n, A.CN_ERR n] := by
  simp only [List.mem_cons, List.not_mem_nil, or_false, A.CN_FLT_CFG, A.CN_FLT_ID, A.CN_FLT_MASK, A.CN_STAT, A.CN_ERR]
  omega

theorem Dev.RegsKept.canFilter {s d : Dev} (h : s.RegsKept d [A.CN_STAT n, A.CN_ERR n]) (w0 : Word) :
    d.canFilter n w0 = s.canFilter n w0 := by
  simp only [Dev.canFilter, fun f => h _ (canFilterReg_not_mem n f).1, fun f => h _ (canFilterReg_not_mem n f).2.1,
    fun f => h _ (canFilterReg_not_mem n f).2.2]

theorem Dev.canFilter_lt {w0 : Word} {f : Nat} (h : s.canFilter n w0 = some f) : f < 32 :=
  List.mem_range.1 (List.mem_of_find?_eq_some h)

/-! ## Stations (R351) -/

/-- The station of a filter is told absent or present. -/
theorem Dev.canStation_spec (f : Nat) (absent : Bool) :
    Dev.CanStep n [A.CN_FLT_CFG n f] true true s (s.canStation n f absent) ∧ (s.canStation n f absent).cans = s.cans ∧
      (s.canStation n f absent).bit (A.CN_FLT_CFG n f) F.CN_FLT_CFG_ABS = absent ∧
      ∀ g : Fld, g.ok = true → (g.hi < 4 ∨ 4 < g.lo) →
        (s.canStation n f absent).get (A.CN_FLT_CFG n f) g = s.get (A.CN_FLT_CFG n f) g := by
  rw [Dev.canStation]
  split
  · next h => exact ⟨.refl n _ _ _ s, rfl, h, fun _ _ _ => rfl⟩
  · have hset := Dev.CanStep.set_reg s n (A.CN_FLT_CFG n f) F.CN_FLT_CFG_ABS (if absent then 1 else 0)
    rw [Dev.collect_frame]
    refine ⟨?_, rfl, s.bit_setBit_same _ _ absent rfl, fun g hg h => s.get_set_field _ _ _ _ rfl hg h⟩
    have hall := ((hset.trans (.offer _ n 0x48 0x0E .stationChange)).trans
      (.collect _ n 8 (BitVec.ofNat 32 f) (if absent then 1 else 0) (BitVec.ofNat 32 n) []))
    rw [Dev.collect_frame] at hall
    exact hall.mono (by simp)

/-! ## The receive FIFO (R346) -/

/-- A frame that finds the FIFO full is counted. -/
def Dev.dropCounted : Dev := (s.count (A.CN_LOST n) F.CN_LOST_RX 1).onCan n fun c => { c with dropped := true }

theorem Dev.dropCounted_spec : Dev.CanStep n [A.CN_LOST n] false false s (s.dropCounted n) ∧
    ((s.dropCounted n).can n).rx = (s.can n).rx ∧
    (s.dropCounted n).get (A.CN_LOST n) F.CN_LOST_RX = min (s.get (A.CN_LOST n) F.CN_LOST_RX + 1) 65535 := by
  have hcount : Dev.CanStep n [A.CN_LOST n] false false s (s.count (A.CN_LOST n) F.CN_LOST_RX 1) := .set_reg s n _ _ _
  refine ⟨(hcount.trans (.onCan _ n _)).mono (by simp), ?_, s.get_count_same (A.CN_LOST n) F.CN_LOST_RX 1 rfl⟩
  exact (congrArg Can.rx ((s.count (A.CN_LOST n) F.CN_LOST_RX 1).can_onCan_same n fun c => { c with dropped := true }) :)

/-- What a frame that finds the FIFO full leaves. -/
theorem Dev.canStore_full (ws : List Word) (h : 64 ≤ (s.can n).rx.length) :
    Dev.CanStep n [A.CN_LOST n] true false s (s.canStore n ws) ∧ ((s.canStore n ws).can n).rx = (s.can n).rx ∧
      (s.canStore n ws).get (A.CN_LOST n) F.CN_LOST_RX = min (s.get (A.CN_LOST n) F.CN_LOST_RX + 1) 65535 := by
  obtain ⟨hstep, hrx, hlost⟩ := s.dropCounted_spec n
  have he : s.canStore n ws = if !(s.can n).dropped then (s.dropCounted n).offer 0x48 0x0E .canDrop else s.dropCounted n :=
    if_pos h
  rw [he]
  split
  · exact ⟨(hstep.trans (.offer _ n _ _ _)).mono (by simp), hrx, hlost⟩
  · exact ⟨(hstep.trans (.refl n [] true false _)).mono (by simp), hrx, hlost⟩

/-- What a frame that enters the FIFO leaves. -/
theorem Dev.canStore_room (ws : List Word) (h : (s.can n).rx.length < 64) :
    Dev.CanStep n (canShown n) false true s (s.canStore n ws) ∧ ((s.canStore n ws).can n).rx = (s.can n).rx ++ [ws] := by
  have he : s.canStore n ws = (s.canPut n fun c => { c with rx := c.rx ++ [ws] }).collect 6 (BitVec.ofNat 32 n)
      (BitVec.ofNat 32 (bitsOf (ws.getD 1 0) 15 8)) 0 ws := if_neg (by omega)
  rw [he]
  refine ⟨((s.canPut_step n _).trans (.collect _ n _ _ _ _ _)).mono (by simp), ?_⟩
  rw [Dev.can_collect, Dev.can_canPut]

end

/-! ## Entries (R346) -/

theorem dlcLen_le (fdf : Bool) {dlc : Nat} (h : dlc < 16) : dlcLen fdf dlc ≤ 64 := by
  have hall : ∀ f : Bool, ∀ k < 16, dlcLen f k ≤ 64 := by decide
  exact hall fdf dlc h

/-- A byte of the data words is that byte of the frame. -/
theorem frameByte_dataWords (w0 w1 w2 w3 : Word) (f : Nat → Byte) {i : Nat} (h : i < 64) :
    frameByte (w0 :: w1 :: w2 :: w3 :: dataWords f) i = f i := by
  have hword : (w0 :: w1 :: w2 :: w3 :: dataWords f).getD (4 + i / 4) 0 =
      BitVec.ofNat 32 (leNat ((upto 4).map fun j => f (4 * (i / 4) + j))) := by
    have hdrop : (w0 :: w1 :: w2 :: w3 :: dataWords f).getD (4 + i / 4) 0 = (dataWords f).getD (i / 4) 0 := by
      rw [Nat.add_comm]
      rfl
    rw [hdrop]
    have hlt : i / 4 < 16 := by omega
    simp [dataWords, upto, List.getD_eq_getElem?_getD, hlt]
  have hbytes := leBytes_wordOf ((upto 4).map fun j => f (4 * (i / 4) + j)) rfl
  have hlt : i % 4 < (leBytes 4 (BitVec.ofNat 32 (leNat ((upto 4).map fun j => f (4 * (i / 4) + j)))).toNat).length := by
    rw [leBytes_length]
    omega
  rw [frameByte, hword, ← getElem_leBytes 4 _ _ hlt]
  simp only [hbytes]
  simp [upto, Nat.div_add_mod]

/-! ## Fields (R349) -/

theorem canRxIndex_lt (n : Fin 16) {k : Nat} (hk : k < 256) : 256 * n.val + k < 0x1000000 := by omega

theorem hclass_canRxHandle (n : Fin 16) {k : Nat} (hk : k < 256) : hclass (canRxHandle n k) = 0x38 :=
  hclass_mkHandle (by decide) (canRxIndex_lt n hk)

theorem canRxHandle_inj (n : Fin 16) {j k : Nat} (hj : j < 256) (hk : k < 256) (h : j ≠ k) : canRxHandle n j ≠ canRxHandle n k := by
  intro he
  have hi := congrArg hindex he
  rw [canRxHandle, canRxHandle, hindex_mkHandle (canRxIndex_lt n hj), hindex_mkHandle (canRxIndex_lt n hk)] at hi
  omega

/-- A field reads the bytes that it covers. -/
theorem Lay.value_congr (l : Lay) {b c : Nat → Byte} (h : ∀ i, i < l.ofs + l.width → b i = c i) : l.value b = l.value c := by
  have hpos : 0 < l.width := by
    rw [Lay.width]
    split
    · decide
    · split <;> decide
  have hbytes : (upto l.width).map (fun i => b (l.ofs + if l.be then l.width - 1 - i else i)) =
      (upto l.width).map fun i => c (l.ofs + if l.be then l.width - 1 - i else i) := by
    refine List.map_congr_left fun i hi => h _ ?_
    have := List.mem_range.1 hi
    split <;> omega
  simp only [Lay.value, hbytes, h l.ofs (by omega)]

/-- Points of receive fields alone have changed since `s`. -/
def Dev.FieldsOnly (s d : Dev) : Prop := ∃ p w q, d = { s with points := p, wrote := w, duoSet := q }

section
variable {s : Dev} (n : Fin 16) (hst : s.standby = false) (hrun : s.halted = false) (hu : ∀ k, s.Unwatched (canRxHandle n k))
include hst hrun hu

/-- A receive field that is published. -/
theorem Dev.FieldsOnly.publish {y : Dev} (hy : s.FieldsOnly y) {k : Nat} (hk : k < 256) (v : Pt) :
    s.FieldsOnly (y.publish (canRxHandle n k) v) ∧ (y.publish (canRxHandle n k) v).point (canRxHandle n k) = v ∧
      ∀ h, h ≠ canRxHandle n k → (y.publish (canRxHandle n k) v).point h = y.point h := by
  obtain ⟨p, w, q, rfl⟩ := hy
  obtain ⟨hframe, hpt, hother⟩ := Dev.publish_published (p := v) (h := canRxHandle n k)
    (s := { s with points := p, wrote := w, duoSet := q }) hst hrun (hu k) (by rw [hclass_canRxHandle n hk]; rfl)
  exact ⟨⟨_, _, _, hframe⟩, hpt, hother⟩

/-- The loop over the fields of an object: each field of the object is published, the others stay. -/
theorem Dev.eachField (sel : Word → Bool) (v : Dev → Nat → Pt) :
    s.FieldsOnly (s.each 256 fun y k => if sel (y.reg (A.CN_FLD_CFG n k)) then y.publish (canRxHandle n k) (v y k) else y) ∧
      ∀ k, k < 256 →
        (sel (s.reg (A.CN_FLD_CFG n k)) = true → ∃ y, s.FieldsOnly y ∧
          (s.each 256 fun y k => if sel (y.reg (A.CN_FLD_CFG n k)) then y.publish (canRxHandle n k) (v y k) else y).point
            (canRxHandle n k) = v y k) ∧
        (sel (s.reg (A.CN_FLD_CFG n k)) = false →
          (s.each 256 fun y k => if sel (y.reg (A.CN_FLD_CFG n k)) then y.publish (canRxHandle n k) (v y k) else y).point
            (canRxHandle n k) = s.point (canRxHandle n k)) := by
  have hreg {y : Dev} (hy : s.FieldsOnly y) (a : Nat) : y.reg a = s.reg a := by
    obtain ⟨p, w, q, rfl⟩ := hy
    rfl
  obtain ⟨hall, hlast⟩ := Dev.each_at_of (P := s.FieldsOnly) (fun k d => d.point (canRxHandle n k))
    (f := fun y k => if sel (y.reg (A.CN_FLD_CFG n k)) then y.publish (canRxHandle n k) (v y k) else y) (n := 256)
    (fun y i hi hy => by
      split
      · exact (hy.publish n hst hrun hu hi _).1
      · exact hy)
    (fun y i j hi hj hy hne => by
      split
      · exact (hy.publish n hst hrun hu hi _).2.2 _ (canRxHandle_inj n hj hi hne)
      · rfl) (s := s) ⟨_, _, _, rfl⟩
  refine ⟨hall, fun k hk => ?_⟩
  obtain ⟨y, hy, hsame, hdone⟩ := hlast k hk
  rw [hdone, hreg hy]
  refine ⟨fun h => ⟨y, hy, ?_⟩, fun h => ?_⟩
  · rw [if_pos h]
    exact (hy.publish n hst hrun hu hk _).2.1
  · rw [h, if_neg Bool.false_ne_true, hsame]

end

/-! ## A frame matched (R345) -/

/-- The bytes of a frame that is matched; beyond its length they are free. -/
def Dev.matchBytes (s : Dev) (z w1 : Word) (data : List Byte) : Nat → Byte :=
  fun i => if i < (if frameRtr z then 0 else dlcLen (frameFdf z) (bitsOf w1 3 0)) then data.getD i 0 else Config.freeByte (s.free + i)

/-- The entry of a frame that filter `f` matched. -/
def matchEntry (z w1 sof : Word) (f : Nat) (b : Nat → Byte) : List Word :=
  z :: BitVec.ofNat 32 (f * 256 + bitsOf w1 5 0) :: sof :: 0 :: dataWords b

/-- A filter has matched: its time restarts and its station is present. -/
def Dev.matched (s : Dev) (n f : Nat) : Dev :=
  (s.onCan n fun c => { c with seen := tabPut 0 c.seen f (s.ticks + 1) }).canStation n f false

theorem matchEntry_filter (z w1 sof : Word) {f : Nat} (hf : f < 32) (b : Nat → Byte) :
    bitsOf ((matchEntry z w1 sof f b).getD 1 0) 15 8 = f := by
  have hlow : bitsOf w1 5 0 < 64 := bitsOf_lt _ 5 0
  have hnat : (BitVec.ofNat 32 (f * 256 + bitsOf w1 5 0)).toNat = f * 256 + bitsOf w1 5 0 := by
    rw [BitVec.toNat_ofNat]; exact Nat.mod_eq_of_lt (by omega)
  have hword : (matchEntry z w1 sof f b).getD 1 0 = BitVec.ofNat 32 (f * 256 + bitsOf w1 5 0) := rfl
  rw [hword, bitsOf, hnat, Nat.shiftRight_eq_div_pow]
  omega

section
variable (s : Dev) (n : Nat) (z w1 : Word) (data : List Byte) (sof : Word)

theorem Dev.matchBytes_of_lt {i : Nat} (h : i < if frameRtr z then 0 else dlcLen (frameFdf z) (bitsOf w1 3 0)) :
    s.matchBytes z w1 data i = data.getD i 0 := if_pos h

theorem Dev.canMatch_none (h : s.draw.canFilter n z = none) : s.canMatch n z w1 data sof = s.draw := by
  rw [Dev.canMatch]
  dsimp only
  rw [h]

theorem Dev.canMatch_some {f : Nat} (h : s.draw.canFilter n z = some f) : s.canMatch n z w1 data sof =
    let d := s.draw.matched n f
    let act := d.get (A.CN_FLT_CFG n f) F.CN_FLT_CFG_ACT
    let y := if act % 2 = 1 then d.canStore n (matchEntry z w1 sof f (s.matchBytes z w1 data)) else d
    if 2 ≤ act then y.canFields n f (s.matchBytes z w1 data) else y := by
  rw [Dev.canMatch]
  dsimp only
  rw [h]
  rfl

theorem Dev.canMatch_fifo {f : Nat} (h : s.draw.canFilter n z = some f)
    (hact : (s.draw.matched n f).get (A.CN_FLT_CFG n f) F.CN_FLT_CFG_ACT = 1) : s.canMatch n z w1 data sof =
      (s.draw.matched n f).canStore n (matchEntry z w1 sof f (s.matchBytes z w1 data)) := by
  rw [s.canMatch_some n z w1 data sof h]
  dsimp only
  rw [hact]
  rfl

theorem Dev.canMatch_fields {f : Nat} (h : s.draw.canFilter n z = some f)
    (hact : (s.draw.matched n f).get (A.CN_FLT_CFG n f) F.CN_FLT_CFG_ACT = 2) : s.canMatch n z w1 data sof =
      (s.draw.matched n f).canFields n f (s.matchBytes z w1 data) := by
  rw [s.canMatch_some n z w1 data sof h]
  dsimp only
  rw [hact]
  rfl

theorem Dev.matched_spec (f : Nat) : Dev.CanStep n [A.CN_FLT_CFG n f] true true s (s.matched n f) ∧
    ((s.matched n f).can n).rx = (s.can n).rx ∧ (s.matched n f).bit (A.CN_FLT_CFG n f) F.CN_FLT_CFG_ABS = false ∧
    (s.matched n f).get (A.CN_FLT_CFG n f) F.CN_FLT_CFG_ACT = s.get (A.CN_FLT_CFG n f) F.CN_FLT_CFG_ACT := by
  have hseen := Dev.CanStep.onCan s n fun c => { c with seen := tabPut 0 c.seen f (s.ticks + 1) }
  have hrx : ((s.onCan n fun c => { c with seen := tabPut 0 c.seen f (s.ticks + 1) }).can n).rx = (s.can n).rx :=
    (congrArg Can.rx (s.can_onCan_same n fun c => { c with seen := tabPut 0 c.seen f (s.ticks + 1) }) :)
  have hact : (s.onCan n fun c => { c with seen := tabPut 0 c.seen f (s.ticks + 1) }).get (A.CN_FLT_CFG n f) F.CN_FLT_CFG_ACT =
    s.get (A.CN_FLT_CFG n f) F.CN_FLT_CFG_ACT := rfl
  rw [Dev.matched]
  generalize s.onCan n (fun c => { c with seen := tabPut 0 c.seen f (s.ticks + 1) }) = a at *
  obtain ⟨hstep, hcans, habs, hkept⟩ := a.canStation_spec n f false
  refine ⟨hseen.trans hstep, ?_, habs, (hkept F.CN_FLT_CFG_ACT rfl (by decide)).trans hact⟩
  rw [Dev.can, hcans, ← Dev.can, hrx]

end

/-! ## Heard frames as O53 states them -/

/-- The channel has heard a frame: it is not alone and REC has fallen. -/
def Dev.CanHeardBy (n : Nat) (x d : Dev) : Prop := d.bit (A.CN_STAT n) F.CN_STAT_ALONE = false ∧
  (∀ k, k ≠ n → d.can k = x.can k) ∧ (x.canRec n ≤ 127 → d.canRec n = x.canRec n - 1) ∧
  (127 < x.canRec n → 119 ≤ d.canRec n ∧ d.canRec n ≤ 127)

theorem Dev.CanHeardBy.of_kept {n : Nat} {x y d : Dev} (h : Dev.CanHeardBy n x y) {as : List Nat} (hk : y.RegsKept d as)
    (hs : A.CN_STAT n ∉ as) (he : A.CN_ERR n ∉ as) (ho : ∀ k, k ≠ n → d.can k = y.can k) : Dev.CanHeardBy n x d := by
  obtain ⟨h1, h2, h3, h4⟩ := h
  have hrec : d.canRec n = y.canRec n := hk.get _ he
  exact ⟨(hk.bit _ hs).trans h1, fun k hn => (ho k hn).trans (h2 k hn), fun h => hrec.trans (h3 h), fun h => by rw [hrec]; exact h4 h⟩

theorem Dev.canHeard_heardBy (s : Dev) (n : Nat) : Dev.CanHeardBy n s (s.canHeard n) := by
  obtain ⟨hstep, -, halone, hlow, hhigh⟩ := s.canHeard_spec n
  exact ⟨halone, hstep.others, hlow, hhigh⟩

/-- The status registers are not those of a filter. -/
theorem canStatus_not_flt (n f : Nat) : A.CN_STAT n ∉ [A.CN_FLT_CFG n f] ∧ A.CN_ERR n ∉ [A.CN_FLT_CFG n f] := by
  simp only [List.mem_singleton, A.CN_STAT, A.CN_ERR, A.CN_FLT_CFG]
  omega

theorem canStatus_not_lost (n : Nat) : A.CN_STAT n ∉ [A.CN_LOST n] ∧ A.CN_ERR n ∉ [A.CN_LOST n] := by
  simp only [List.mem_singleton, A.CN_STAT, A.CN_ERR, A.CN_LOST]
  omega

/-- The registers of a channel that a match may change decide neither the role in a pair nor a slot's mode. -/
theorem canMatchRegs_apart (n : Fin 16) {f : Nat} (hf : f < 32) : A.DUO_STAT ∉ [A.CN_STAT n, A.CN_ERR n] ++ [A.CN_FLT_CFG n f] ∧
    ∀ g, slotStat g ∉ [A.CN_STAT n, A.CN_ERR n] ++ [A.CN_FLT_CFG n f] := by
  refine ⟨?_, fun g => ?_⟩ <;>
    simp only [List.mem_append, List.mem_cons, List.not_mem_nil, or_false, slotStat, A.LT_SLOT_STAT, A.DUO_STAT, A.CN_STAT,
      A.CN_ERR, A.CN_FLT_CFG] <;> omega

section
variable {s : State} (hon : s.dev.on = true) (n : Fin 16) (hbus : s.dev.canOnBus n = true) (hmode : s.dev.canMode n ≠ 3)
  (hst : s.dev.standby = false) (hrun : s.dev.halted = false) (w0 w1 : Word) (data : List Byte) (sof : Word)
include hon hbus hmode hst hrun

/-- A reception is the matching of the frame on a channel that has heard it. -/
theorem Does.canReceived {P : Dev → Prop}
    (h : P (((s.dev.canRecDown n).canNotAlone n).canMatch n (frameWord0 w0) w1 data sof)) :
    Does (.canFrameReceived n w0 w1 data sof) s P := by
  refine Does.of_live (f := (·.canReceive n.val w0 w1 data sof)) rfl hon hrun ?_
  have htaken : (s.dev.canOnBus n && s.dev.canMode n != canLoop && !s.dev.standby && !s.dev.halted) = true := by
    rw [hbus, hst, hrun, bne_iff_ne.2 (show s.dev.canMode n ≠ canLoop from hmode)]
    rfl
  have he : s.dev.canReceive n w0 w1 data sof =
      ((s.dev.canRecDown n).canNotAlone n).canMatch n (frameWord0 w0) w1 data sof := if_pos htaken
  rwa [he]

/-- What a frame that no filter matches leaves (R345). -/
theorem canReceived_none_does (hf : s.dev.canFilter n (frameWord0 w0) = none) : Does (.canFrameReceived n w0 w1 data sof) s fun d =>
    Dev.CanHeardBy n s.dev d ∧ (d.can n).rx = (s.dev.can n).rx ∧ s.dev.RegsKept d [A.CN_STAT n, A.CN_ERR n] ∧
      d = { s.dev with regs := d.regs, cans := d.cans, scribe := d.scribe, free := d.free } := by
  refine Does.canReceived hon n hbus hmode hst hrun w0 w1 data sof ?_
  obtain ⟨hstep, hcan, -⟩ := s.dev.canHeard_spec n
  rw [Dev.canMatch_none _ n _ w1 data sof ((hstep.regs.canFilter n _).trans hf), ← Dev.canHeard]
  exact ⟨s.dev.canHeard_heardBy n, by rw [hcan], hstep.regs, hstep.eq_noted rfl⟩

/-- What a frame that a filter keeps for the receive FIFO leaves (R346). -/
theorem canReceived_fifo_does {f : Nat} (hf : s.dev.canFilter n (frameWord0 w0) = some f)
    (hact : s.dev.get (A.CN_FLT_CFG n f) F.CN_FLT_CFG_ACT = 1) : Does (.canFrameReceived n w0 w1 data sof) s fun d =>
    Dev.CanHeardBy n s.dev d ∧ d.bit (A.CN_FLT_CFG n f) F.CN_FLT_CFG_ABS = false ∧
      d = { s.dev with regs := d.regs, cans := d.cans, duoSet := d.duoSet, scribe := d.scribe, free := d.free } ∧
      ((s.dev.can n).rx.length < 64 → s.dev.RegsKept d (A.CN_STAT n :: A.CN_ERR n :: A.CN_FLT_CFG n f :: canShown n) ∧
        ∃ e, (d.can n).rx = (s.dev.can n).rx ++ [e] ∧ e.getD 0 0 = frameWord0 w0 ∧ bitsOf (e.getD 1 0) 15 8 = f ∧ e.getD 2 0 = sof ∧
          ∀ i, i < (if frameRtr (frameWord0 w0) then 0 else dlcLen (frameFdf (frameWord0 w0)) (bitsOf w1 3 0)) →
            frameByte e i = data.getD i 0) ∧
      (64 ≤ (s.dev.can n).rx.length → (d.can n).rx = (s.dev.can n).rx ∧
        s.dev.RegsKept d [A.CN_STAT n, A.CN_ERR n, A.CN_FLT_CFG n f, A.CN_LOST n] ∧
        d.get (A.CN_LOST n) F.CN_LOST_RX = min (s.dev.get (A.CN_LOST n) F.CN_LOST_RX + 1) 65535) := by
  refine Does.canReceived hon n hbus hmode hst hrun w0 w1 data sof ?_
  obtain ⟨hheard, hcan, -⟩ := s.dev.canHeard_spec n
  have hby := s.dev.canHeard_heardBy n
  have hfilter := (hheard.regs.canFilter n _).trans hf
  have hlt := s.dev.canFilter_lt n hf
  obtain ⟨hmatch, hsame, habs, hkeep⟩ := (s.dev.canHeard n).matched_spec n f
  have hact' := hkeep.trans ((hheard.regs.get _ (canFilterReg_not_mem n f).1).trans hact)
  have hbytes {i : Nat} := ((s.dev.canRecDown n).canNotAlone n).matchBytes_of_lt (frameWord0 w0) w1 data (i := i)
  rw [Dev.canMatch_fifo _ n _ w1 data sof hfilter hact']
  rw [← Dev.canHeard]
  generalize ((s.dev.canRecDown n).canNotAlone n).matchBytes (frameWord0 w0) w1 data = b at *
  have hrx : (((s.dev.canHeard n).matched n f).can n).rx = (s.dev.can n).rx := hsame.trans (by rw [hcan])
  have hby' := hby.of_kept hmatch.regs (canStatus_not_flt n f).1 (canStatus_not_flt n f).2 hmatch.others
  generalize (s.dev.canHeard n).matched n f = y at *
  generalize s.dev.canHeard n = a at *
  have hupto := hheard.trans hmatch
  have hentry : bitsOf ((matchEntry (frameWord0 w0) w1 sof f b).getD 1 0) 15 8 = f := matchEntry_filter _ _ _ hlt b
  rcases Nat.lt_or_ge (y.can n).rx.length 64 with hroom | hfull
  · obtain ⟨hstore, hput⟩ := y.canStore_room n (matchEntry (frameWord0 w0) w1 sof f b) hroom
    rw [hrx] at hroom
    refine ⟨hby'.of_kept hstore.regs (canStat_not_shown n) (canErr_not_shown n) hstore.others,
      (hstore.regs.bit _ (canFlt_not_shown n f)).trans habs, (hupto.trans hstore).eq_all,
      fun _ => ⟨(hupto.trans hstore).regs.mono (by simp), _, hput.trans (by rw [hrx]), rfl, hentry, rfl, fun i hi => ?_⟩,
      fun h => absurd hroom (by omega)⟩
    have hle : (if frameRtr (frameWord0 w0) then 0 else dlcLen (frameFdf (frameWord0 w0)) (bitsOf w1 3 0)) ≤ 64 := by
      split
      · exact Nat.zero_le _
      · exact dlcLen_le _ (bitsOf_lt _ 3 0)
    rw [matchEntry, frameByte_dataWords _ _ _ _ b (by omega), hbytes hi]
  · obtain ⟨hstore, hstay, hlost⟩ := y.canStore_full n (matchEntry (frameWord0 w0) w1 sof f b) hfull
    rw [hrx] at hfull
    have hkept : s.dev.get (A.CN_LOST n) F.CN_LOST_RX = y.get (A.CN_LOST n) F.CN_LOST_RX := (hupto.regs.get _ (by
      simp only [List.mem_append, List.mem_cons, List.not_mem_nil, or_false, A.CN_LOST, A.CN_STAT, A.CN_ERR, A.CN_FLT_CFG]
      omega)).symm
    refine ⟨hby'.of_kept hstore.regs (canStatus_not_lost n).1 (canStatus_not_lost n).2 hstore.others,
      (hstore.regs.bit _ (by simp only [List.mem_singleton, A.CN_FLT_CFG, A.CN_LOST]; omega)).trans habs,
      ((hupto.trans hstore).eq_all), fun h => absurd hfull (by omega), fun _ => ⟨hstay.trans hrx,
      (hupto.trans hstore).regs.mono (by simp), by rw [hlost, hkept]⟩⟩

/-- What a frame whose fields take their values leaves (R349). -/
theorem canReceived_fields_does {f : Nat} (hf : s.dev.canFilter n (frameWord0 w0) = some f)
    (hact : s.dev.get (A.CN_FLT_CFG n f) F.CN_FLT_CFG_ACT = 2) (hu : ∀ k, s.dev.Unwatched (canRxHandle n k)) :
    Does (.canFrameReceived n w0 w1 data sof) s fun d =>
    Dev.CanHeardBy n s.dev d ∧ (d.can n).rx = (s.dev.can n).rx ∧
      s.dev.RegsKept d [A.CN_STAT n, A.CN_ERR n, A.CN_FLT_CFG n f] ∧
      d = { s.dev with regs := d.regs, cans := d.cans, points := d.points, wrote := d.wrote, duoSet := d.duoSet,
                       scribe := d.scribe, free := d.free } ∧
      ∀ k, k < 256 →
        (fieldOf (s.dev.reg (A.CN_FLD_CFG n k)) 0 f = true →
          (canLay (s.dev.reg (A.CN_FLD_CFG n k))).ofs + (canLay (s.dev.reg (A.CN_FLD_CFG n k))).width ≤
            (if frameRtr (frameWord0 w0) then 0 else dlcLen (frameFdf (frameWord0 w0)) (bitsOf w1 3 0)) →
          d.point (canRxHandle n k) = ⟨(canLay (s.dev.reg (A.CN_FLD_CFG n k))).value (fun i => data.getD i 0), true⟩) ∧
        (fieldOf (s.dev.reg (A.CN_FLD_CFG n k)) 0 f = false → d.point (canRxHandle n k) = s.dev.point (canRxHandle n k)) := by
  refine Does.canReceived hon n hbus hmode hst hrun w0 w1 data sof ?_
  obtain ⟨hheard, hcan, -⟩ := s.dev.canHeard_spec n
  have hby := s.dev.canHeard_heardBy n
  have hfilter := (hheard.regs.canFilter n _).trans hf
  have hlt := s.dev.canFilter_lt n hf
  obtain ⟨hmatch, hsame, -, hkeep⟩ := (s.dev.canHeard n).matched_spec n f
  have hact' := hkeep.trans ((hheard.regs.get _ (canFilterReg_not_mem n f).1).trans hact)
  have hbytes {i : Nat} := ((s.dev.canRecDown n).canNotAlone n).matchBytes_of_lt (frameWord0 w0) w1 data (i := i)
  rw [Dev.canMatch_fields _ n _ w1 data sof hfilter hact']
  rw [← Dev.canHeard]
  generalize ((s.dev.canRecDown n).canNotAlone n).matchBytes (frameWord0 w0) w1 data = b at *
  have hrx : (((s.dev.canHeard n).matched n f).can n).rx = (s.dev.can n).rx := hsame.trans (by rw [hcan])
  have hby' := hby.of_kept hmatch.regs (canStatus_not_flt n f).1 (canStatus_not_flt n f).2 hmatch.others
  have hupto := hheard.trans hmatch
  generalize (s.dev.canHeard n).matched n f = y at *
  obtain ⟨hduo, hloops, hstart, hpoints⟩ := hupto.duo
  obtain ⟨hstat, hslots⟩ := canMatchRegs_apart n hlt
  have hfld {k : Nat} : y.reg (A.CN_FLD_CFG n k) = s.dev.reg (A.CN_FLD_CFG n k) ∨ 256 ≤ k := by
    refine (Nat.lt_or_ge k 256).imp (fun hk => hupto.regs _ ?_) id
    simp only [List.mem_append, List.mem_cons, List.not_mem_nil, or_false, A.CN_FLD_CFG, A.CN_STAT, A.CN_ERR, A.CN_FLT_CFG]
    omega
  obtain ⟨⟨p, w, q, heq⟩, hpts⟩ := Dev.eachField (s := y) n ((Dev.standby_of_kept hupto.regs hduo hstat).trans hst)
    (hupto.halted.trans hrun) (fun k => (hu k).of_kept hloops hstart hupto.regs hslots) (fun c => fieldOf c 0 f)
    (fun y k => ⟨(canLay (y.reg (A.CN_FLD_CFG n k))).value b, true⟩)
  have hdone : y.canFields n f b = y.each 256 fun y k =>
    if fieldOf (y.reg (A.CN_FLD_CFG n k)) 0 f then
      y.publish (canRxHandle n k) ⟨(canLay (y.reg (A.CN_FLD_CFG n k))).value b, true⟩ else y := rfl
  rw [hdone]
  generalize (y.each 256 fun y k => if fieldOf (y.reg (A.CN_FLD_CFG n k)) 0 f then
      y.publish (canRxHandle n k) ⟨(canLay (y.reg (A.CN_FLD_CFG n k))).value b, true⟩ else y) = d at *
  have hdregs : d.regs = y.regs := by rw [heq]
  have hdcans : d.cans = y.cans := by rw [heq]
  have hkept : y.RegsKept d [] := fun a _ => by rw [Dev.reg, hdregs]; rfl
  have hcans (k : Nat) : d.can k = y.can k := by rw [Dev.can, hdcans]; rfl
  refine ⟨hby'.of_kept hkept (by simp) (by simp) fun k _ => hcans k, by rw [hcans, hrx],
    ((hupto.regs.mono (by simp)).trans (hkept.mono (by simp))), ?_, fun k hk => ?_⟩
  · obtain ⟨r, c, q', sc, fr, rfl⟩ := hupto.frame
    rw [heq]
  · have hcfg := hfld.resolve_right (Nat.not_le.2 hk)
    obtain ⟨hsel, hother⟩ := hpts k hk
    rw [hcfg] at hsel hother
    refine ⟨fun hfield hlen => ?_, fun hfield => (hother hfield).trans (by rw [Dev.point, hpoints]; rfl)⟩
    obtain ⟨z, ⟨p', w', q', hz⟩, hpt⟩ := hsel hfield
    have hzreg : z.reg (A.CN_FLD_CFG n k) = s.dev.reg (A.CN_FLD_CFG n k) := by rw [hz]; exact hcfg
    rw [hpt, hzreg, Lay.value_congr _ fun i hi => hbytes (Nat.lt_of_lt_of_le hi hlen)]

end

/-! ## Absent stations (R351) -/

/-- A change of a station is recorded, and nothing but its register, the Scribe and the input set changes. -/
theorem Dev.canStation_changes (s : Dev) (n f : Nat) {absent : Bool} (h : s.bit (A.CN_FLT_CFG n f) F.CN_FLT_CFG_ABS ≠ absent) :
    ∃ r q fr, ∃ o : Offer, o.src = 0x48 ∧ s.canStation n f absent =
      { s with regs := r, duoSet := q, free := fr, scribe := { s.scribe with offers := s.scribe.offers ++ [o] } } := by
  have he : s.canStation n f absent = ((s.setBit (A.CN_FLT_CFG n f) F.CN_FLT_CFG_ABS absent).offer 0x48 0x0E .stationChange).collect 8
      (BitVec.ofNat 32 f) (if absent then 1 else 0) (BitVec.ofNat 32 n) [] := if_neg h
  rw [he, Dev.collect_frame]
  exact ⟨_, _, _, _, rfl, rfl⟩

theorem canFltReg_apart (n : Fin 16) {f : Nat} (hf : f < 32) : A.DUO_STAT ∉ [A.CN_FLT_CFG n f] ∧
    (∀ g, slotStat g ∉ [A.CN_FLT_CFG n f]) ∧ ∀ k, k < 256 → A.CN_FLD_CFG n k ∉ [A.CN_FLT_CFG n f] := by
  refine ⟨?_, fun g => ?_, fun k hk => ?_⟩ <;>
    simp only [List.mem_singleton, slotStat, A.LT_SLOT_STAT, A.DUO_STAT, A.CN_FLT_CFG, A.CN_FLD_CFG] <;> omega

section
variable {s : State} (hon : s.dev.on = true) (n : Fin 16) (f : Fin 32)
include hon

/-- What an absent station leaves (R351). -/
theorem stationAbsent_does (hrun : s.dev.halted = false) (hst : s.dev.standby = false)
    (hen : s.dev.get (A.CN_FLT_CFG n f) F.CN_FLT_CFG_EN = 1) (habs : s.dev.get (A.CN_FLT_CFG n f) F.CN_FLT_CFG_ABS = 0)
    (htmo : s.dev.get (A.CN_FLT_CFG n f) F.CN_FLT_CFG_TMO ≠ 0)
    (hdue : tabGet 0 (s.dev.can n).seen f + s.dev.get (A.CN_FLT_CFG n f) F.CN_FLT_CFG_TMO * 250000 ≤ s.dev.ticks + 1)
    (hu : ∀ k, s.dev.Unwatched (canRxHandle n k)) : Does (.stationAbsent n f) s fun d =>
    d.bit (A.CN_FLT_CFG n f) F.CN_FLT_CFG_ABS = true ∧ s.dev.RegsKept d [A.CN_FLT_CFG n f] ∧
      (∃ o : Offer, o.src = 0x48 ∧ d.scribe = { s.dev.scribe with offers := s.dev.scribe.offers ++ [o] }) ∧
      d = { s.dev with regs := d.regs, points := d.points, wrote := d.wrote, duoSet := d.duoSet, scribe := d.scribe, free := d.free } ∧
      ∀ k, k < 256 → fieldOf (s.dev.reg (A.CN_FLD_CFG n k)) 0 f = true → (d.point (canRxHandle n k)).valid = false := by
  refine Does.of_live (f := (·.canAbsent n.val f.val)) rfl hon hrun ?_
  have hact : s.dev.canAbsent n f = (s.dev.canStation n f true).canAbsentFields n f := by
    refine if_neg ?_
    simp only [Bool.or_eq_true, beq_iff_eq, decide_eq_true_eq, not_or]
    have hen0 : F.CN_FLT_CFG_EN.of (s.dev.reg (A.CN_FLT_CFG n f)) ≠ 0 := by
      rw [show F.CN_FLT_CFG_EN.of (s.dev.reg (A.CN_FLT_CFG n f)) = 1 from hen]
      decide
    have habs1 : F.CN_FLT_CFG_ABS.of (s.dev.reg (A.CN_FLT_CFG n f)) ≠ 1 := by
      rw [show F.CN_FLT_CFG_ABS.of (s.dev.reg (A.CN_FLT_CFG n f)) = 0 from habs]
      decide
    exact ⟨⟨⟨⟨⟨by rw [hst]; decide, by rw [hrun]; decide⟩, hen0⟩, Nat.mul_ne_zero htmo (by decide)⟩, habs1⟩, Nat.not_lt.2 hdue⟩
  obtain ⟨hstep, -, hbit, -⟩ := s.dev.canStation_spec n f true
  obtain ⟨r, q, fr, o, hsrc, hst1⟩ := s.dev.canStation_changes n f (absent := true) (by rw [Dev.bit, habs]; decide)
  obtain ⟨hstat, hslots, hflds⟩ := canFltReg_apart n f.isLt
  rw [hact]
  generalize s.dev.canStation n f true = y at *
  obtain ⟨hduo, hloops, hstart, -⟩ := hstep.duo
  obtain ⟨⟨p, w, q', heq⟩, hpts⟩ := Dev.eachField (s := y) n ((Dev.standby_of_kept hstep.regs hduo hstat).trans hst)
    (hstep.halted.trans hrun) (fun k => (hu k).of_kept hloops hstart hstep.regs hslots) (fun c => fieldOf c 0 f)
    (fun y k => ⟨if F.CN_FLD_CFG_SUBM.of (y.reg (A.CN_FLD_CFG n k)) = 1 then y.reg (A.CN_FLD_SUB n k)
      else (y.point (canRxHandle n k)).val, false⟩)
  have hdone : y.canAbsentFields n f = y.each 256 fun y k =>
    if fieldOf (y.reg (A.CN_FLD_CFG n k)) 0 f then
      y.publish (canRxHandle n k) ⟨if F.CN_FLD_CFG_SUBM.of (y.reg (A.CN_FLD_CFG n k)) = 1 then y.reg (A.CN_FLD_SUB n k)
        else (y.point (canRxHandle n k)).val, false⟩ else y := rfl
  rw [← hdone] at heq hpts
  generalize y.canAbsentFields n f = d at *
  have hdregs : d.regs = y.regs := by rw [heq]
  have hkept : y.RegsKept d [] := fun a _ => by rw [Dev.reg, hdregs]; rfl
  refine ⟨(hkept.bit _ (by simp)).trans hbit, hstep.regs.trans (hkept.mono (by simp)), ⟨o, hsrc, by rw [heq, hst1]⟩, ?_,
    fun k hk hfield => ?_⟩
  · rw [heq, hst1]
  · rw [← hstep.regs _ (hflds k hk)] at hfield
    obtain ⟨z, -, hpt⟩ := (hpts k hk).1 hfield
    rw [hpt]

end

/-! ## Heads, bus-off and snapshots (R341, R344, R346, R348) -/

section
variable (s : Dev) (n : Nat)

theorem Dev.canRecover_taken (hoff : s.canBusOff n = true) (hmode : s.canMode n ≠ 0) :
    s.canRecover n = s.set (A.CN_STAT n) F.CN_STAT_RECOV 1 := by
  refine if_pos ?_
  rw [hoff, Bool.true_and, bne_iff_ne]
  exact hmode

/-- CN_STAT after bus-off has been left. -/
def Dev.busOffLeft : Dev :=
  ((s.set (A.CN_STAT n) F.CN_STAT_RECOV 0).set (A.CN_STAT n) F.CN_STAT_STATE 0).set (A.CN_STAT n) F.CN_STAT_BOFF 0

/-- Both error counters at 0. -/
def Dev.errCleared : Dev := (s.set (A.CN_ERR n) F.CN_ERR_TEC 0).set (A.CN_ERR n) F.CN_ERR_REC 0

theorem Dev.canRecovered_taken (h : s.bit (A.CN_STAT n) F.CN_STAT_RECOV = true) :
    s.canRecovered n = (s.busOffLeft n).errCleared n := if_pos h

theorem Dev.busOffLeft_spec : s.RegsAt (s.busOffLeft n) [A.CN_STAT n, A.CN_ERR n] ∧
    (s.busOffLeft n).get (A.CN_STAT n) F.CN_STAT_STATE = 0 ∧ (s.busOffLeft n).bit (A.CN_STAT n) F.CN_STAT_BOFF = false ∧
    (s.busOffLeft n).bit (A.CN_STAT n) F.CN_STAT_RECOV = false :=
  ⟨(((Dev.RegsAt.refl s _).set _ _ (by simp)).set _ _ (by simp)).set _ _ (by simp),
    (Dev.get_set_field _ _ _ _ _ rfl rfl (by decide)).trans (Dev.get_set_same _ _ _ _ rfl (by decide)),
    Dev.bit_setBit_same _ _ _ false rfl,
    ((Dev.bit_set_apart _ _ _ _ _ rfl rfl (by decide)).trans (Dev.bit_set_apart _ _ _ _ _ rfl rfl (by decide))).trans
      (Dev.bit_setBit_same _ _ _ false rfl)⟩

theorem Dev.errCleared_spec : s.RegsAt (s.errCleared n) [A.CN_ERR n] ∧ (s.errCleared n).canTec n = 0 ∧ (s.errCleared n).canRec n = 0 :=
  ⟨((Dev.RegsAt.refl s _).set _ _ (by simp)).set _ _ (by simp),
    (Dev.get_set_field _ _ _ _ _ rfl rfl (by decide)).trans (Dev.get_set_same _ _ _ _ rfl (by decide)),
    Dev.get_set_same _ _ _ _ rfl (by decide)⟩

theorem Dev.canRecovered_spec (h : s.bit (A.CN_STAT n) F.CN_STAT_RECOV = true) :
    s.RegsAt (s.canRecovered n) [A.CN_STAT n, A.CN_ERR n] ∧ (s.canRecovered n).get (A.CN_STAT n) F.CN_STAT_STATE = 0 ∧
      (s.canRecovered n).bit (A.CN_STAT n) F.CN_STAT_BOFF = false ∧ (s.canRecovered n).bit (A.CN_STAT n) F.CN_STAT_RECOV = false ∧
      (s.canRecovered n).canTec n = 0 ∧ (s.canRecovered n).canRec n = 0 := by
  obtain ⟨hleft, hstate, hboff, hrecov⟩ := s.busOffLeft_spec n
  obtain ⟨hclear, htec, hrec⟩ := (s.busOffLeft n).errCleared_spec n
  have hne : A.CN_STAT n ∉ [A.CN_ERR n] := by simpa using canStat_ne_err n
  rw [s.canRecovered_taken n h]
  exact ⟨hleft.trans (hclear.mono (by simp)), (hclear.2.get _ hne).trans hstate, (hclear.bit _ hne).trans hboff,
    (hclear.bit _ hne).trans hrecov, htec, hrec⟩

theorem Dev.RegsAt.eq {s d : Dev} {as : List Nat} (h : s.RegsAt d as) : d = { s with regs := d.regs } := by
  obtain ⟨r, rfl⟩ := h.1
  rfl

end

/-- The retry limit decides whether the head is tried again. -/
theorem Dev.noRetry_eq_false {s : Dev} {n : Nat} (hlast : (s.can n).last = false)
    (h : s.get (A.CN_CTL n) F.CN_CTL_RETRY = 255 ∨ (s.can n).retries < s.get (A.CN_CTL n) F.CN_CTL_RETRY) : s.noRetry n = false := by
  rw [Dev.noRetry, hlast, Bool.false_or, Bool.and_eq_false_iff]
  exact h.imp (by simp) (by simp)

theorem Dev.noRetry_eq_true {s : Dev} {n : Nat} (h : (s.can n).last = true ∨
    (s.get (A.CN_CTL n) F.CN_CTL_RETRY ≠ 255 ∧ s.get (A.CN_CTL n) F.CN_CTL_RETRY ≤ (s.can n).retries)) : s.noRetry n = true := by
  rw [Dev.noRetry, Bool.or_eq_true, Bool.and_eq_true, bne_iff_ne, decide_eq_true_eq]
  exact h

/-- Settles O53: each command of a channel by the rule of its operation. -/
theorem canChannel : Obligations.CanChannel := by
  intro s n hon
  refine ⟨fun m hm => ?_, fun hrun hmode => ?_, fun tag => ⟨canPush_room_does hon n tag, fun h => canPush_refused_does hon n tag h⟩,
    fun tag bus sof => ⟨fun h => ?_, fun i h hb hroom => ?_, fun h hb hc => ?_⟩, ?_, ?_, fun hoff hmode => ?_,
    fun hrun hrec => ?_, fun y rest sof hc ht hroom hmode hself => canFrameSent_does hon n sof hc ht hroom hmode hself,
    fun lec sof hc => ⟨fun hl h => txError_again_does hon n lec sof hc (Dev.noRetry_eq_false hl h),
      fun hroom h => txError_fails_does hon n lec sof hc hroom (Dev.noRetry_eq_true h)⟩,
    canReceiveError_does hon n, fun w0 w1 data sof hbus hmode hst hrun =>
      ⟨canReceived_none_does hon n hbus hmode hst hrun w0 w1 data sof,
        fun f hf hact => canReceived_fifo_does hon n hbus hmode hst hrun w0 w1 data sof hf hact,
        fun f hf hact hu => canReceived_fields_does hon n hbus hmode hst hrun w0 w1 data sof hf hact hu⟩,
    stationAbsent_does hon n, ?_⟩
  · obtain ⟨hat, hmode, hconfig, hinteg, hother⟩ := s.dev.canSetMode_spec n m.val m.isLt hm
    exact Does.of_go (f := (·.canSetMode n.val m.val)) rfl hon ⟨hat.eq, hat.2, hmode, hconfig, hinteg, hother⟩
  · have he : s.dev.canIntegrated n = s.dev.set (A.CN_STAT n) F.CN_STAT_INTEG 0 := if_neg hmode
    refine Does.of_live (f := (·.canIntegrated n.val)) rfl hon hrun ?_
    rw [he]
    exact ⟨rfl, (Dev.RegsKept.refl s.dev _).set _ _ (List.mem_singleton_self _), s.dev.bit_setBit_same _ _ false rfl⟩
  · refine Does.of_go (f := (·.canCancel n.val tag.toNat bus.val sof)) rfl hon ?_
    rw [s.dev.canCancel_none n _ _ sof h]
    exact ⟨rfl, (Dev.RegsKept.refl s.dev _).set _ _ (List.mem_singleton_self _), s.dev.get_set_same _ _ 3 rfl (by decide)⟩
  · obtain ⟨hstep, hres, hcan⟩ := s.dev.canCancel_leaves_spec n tag.toNat bus.val sof h hb hroom
    exact Does.of_go (f := (·.canCancel n.val tag.toNat bus.val sof)) rfl hon
      ⟨hstep.eq_set rfl, hstep.others, hstep.regs, hres, by rw [hcan]; rfl, by rw [hcan]⟩
  · have hstep := ((Dev.CanStep.onCan s.dev n fun c => { c with last := true }).trans
      (.set_reg _ n (A.CN_TXSTAT n) F.CN_TXSTAT_CRES 2)).mono (bs := [A.CN_TXSTAT n]) (by simp)
    refine Does.of_go (f := (·.canCancel n.val tag.toNat bus.val sof)) rfl hon ?_
    rw [s.dev.canCancel_won n _ _ sof h hb hc]
    exact ⟨hstep.eq_cans rfl rfl, hstep.others, hstep.regs, Dev.get_set_same _ _ _ 2 rfl (by decide),
      Dev.can_onCan_same s.dev n fun c => { c with last := true }⟩
  · have hstep := s.dev.canPut_step n fun c => { c with done := c.done.drop 1 }
    exact Does.of_go (f := (·.canDpop n.val)) rfl hon
      ⟨hstep.eq_cans rfl rfl, hstep.others, hstep.regs, s.dev.can_canPut n _⟩
  · have hstep := s.dev.canPut_step n fun c => { c with rx := c.rx.drop 1, dropped := if c.rx.length ≤ 1 then false else c.dropped }
    have hcan := s.dev.can_canPut n fun c => { c with rx := c.rx.drop 1, dropped := if c.rx.length ≤ 1 then false else c.dropped }
    exact Does.of_go (f := (·.canPop n.val)) rfl hon
      ⟨hstep.eq_cans rfl rfl, hstep.others, hstep.regs, (congrArg Can.rx hcan :), (congrArg Can.tx hcan :), (congrArg Can.done hcan :)⟩
  · refine Does.of_go (f := (·.canRecover n.val)) rfl hon ?_
    rw [s.dev.canRecover_taken n hoff hmode]
    exact ⟨rfl, (Dev.RegsKept.refl s.dev _).set _ _ (List.mem_singleton_self _), s.dev.bit_setBit_same _ _ true rfl⟩
  · obtain ⟨hat, hrest⟩ := s.dev.canRecovered_spec n hrec
    exact Does.of_live (f := (·.canRecovered n.val)) rfl hon hrun ⟨hat.eq, hat.2, hrest⟩
  · refine Does.of_go (f := (·.canSnap n.val)) rfl hon ⟨rfl, ?_, Dev.pair_setPair_same _ _ _, ?_⟩
    · exact (Dev.reg_setReg_other _ _ (by simp only [A.CN_SNAP_CNT, A.CN_SNAP_TS_LO]; omega)).trans
        ((Dev.reg_setReg_other _ _ (by simp only [A.CN_SNAP_CNT, A.CN_SNAP_TS_LO]; omega)).trans (Dev.reg_setReg_same _ _ _))
    · exact ((Dev.RegsKept.refl s.dev _).setReg _ (by simp)).setPair _ (by simp)
        (by simp only [List.mem_cons, A.CN_SNAP_TS_LO, A.CN_SNAP_TS_HI]; omega)

end Sys2Proof.Machine
end

section
/-! A Dovetail member (O56): its states, the roles it takes, and the short commands of the pair (R391, R392, R396, R402,
R403, R405, R406, R409). -/

namespace Sys2Proof.Machine

/-! ## The fields of DUO_STAT and leaving the pair (R391) -/

/-- A member that is out of the pair, for a cause: nothing waits for the partner or for a replay. -/
def Dev.IsOut (d : Dev) (cause : Nat) : Prop := d.duoSync = dsOut ∧ d.get A.DUO_STAT F.DUO_STAT_CAUSE = cause ∧ d.duoSet = [] ∧
  d.duoOuts = [] ∧ d.duo.inbox = []

/-- One record of the pair has been offered and the Scribe has changed in nothing else. -/
def Dev.DuoRecorded (s d : Dev) : Prop := ∃ o : Offer, o.src = 0x4B ∧ d.scribe = { s.scribe with offers := s.scribe.offers ++ [o] }

theorem Dev.duoRecorded_offer {s d : Dev} (ev : Ev) (h : d.scribe = s.scribe) : s.DuoRecorded (d.duoOffer ev) :=
  ⟨_, rfl, by rw [← h]; rfl⟩

theorem Dev.syncedAs_iff (s : Dev) (role : Nat) : s.syncedAs role = true ↔ s.duoSync = dsSynced ∧ s.duoRole = role := by
  rw [Dev.syncedAs, Bool.and_eq_true, beq_iff_eq, beq_iff_eq]
  exact Iff.rfl

theorem Dev.syncedAs_false_of_sync {s : Dev} {role : Nat} (h : s.duoSync ≠ dsSynced) : s.syncedAs role = false := by
  rw [← Bool.not_eq_true, Dev.syncedAs_iff]
  exact fun k => h k.1

/-- Only one role is synced at a time. -/
theorem Dev.syncedAs_false_of_other {s : Dev} {role other : Nat} (h : s.syncedAs role = true) (hne : role ≠ other) :
    s.syncedAs other = false := by
  rw [← Bool.not_eq_true, Dev.syncedAs_iff]
  exact fun k => hne (((s.syncedAs_iff role).1 h).2.symm.trans k.2)

section
variable (s : Dev)

theorem Dev.duoSync_setSync {n : Nat} (h : n < 4) : (s.setSync n).duoSync = n := s.get_set_same _ _ _ rfl h
theorem Dev.duoRole_setRole {n : Nat} (h : n < 4) : (s.setRole n).duoRole = n := s.get_set_same _ _ _ rfl h
theorem Dev.duoRole_setSync (n : Nat) : (s.setSync n).duoRole = s.duoRole := s.get_set_field _ _ _ _ rfl rfl (by decide)
theorem Dev.duoSync_setRole (n : Nat) : (s.setRole n).duoSync = s.duoSync := s.get_set_field _ _ _ _ rfl rfl (by decide)

/-- A field of DUO_STAT above SYNC and ROLE is written. -/
theorem Dev.duoSync_set_high (f : Fld) (v : Nat) (hf : f.ok = true) (h : 3 < f.lo) : (s.set A.DUO_STAT f v).duoSync = s.duoSync :=
  s.get_set_field _ _ _ _ hf rfl (.inl h)

theorem Dev.duoRole_set_high (f : Fld) (v : Nat) (hf : f.ok = true) (h : 3 < f.lo) : (s.set A.DUO_STAT f v).duoRole = s.duoRole :=
  s.get_set_field _ _ _ _ hf rfl (.inl (Nat.lt_of_le_of_lt (by decide) h))

/-- The registers of a member that leaves the pair. -/
def Dev.outShown (cause : Nat) : Dev := ((s.setSync dsOut).duoCause cause).set A.DUO_STAT F.DUO_STAT_DRY 0

theorem Dev.outShown_regsAt (cause : Nat) : s.RegsAt (s.outShown cause) [A.DUO_STAT] :=
  (((Dev.RegsAt.refl s _).set _ _ (.head _)).set _ _ (.head _)).set _ _ (.head _)

theorem Dev.duoOut_frame (cause : Nat) : s.duoOut cause = { s with regs := (s.duoOut cause).regs, duoSet := [], duoOuts := [], duo := { s.duo with
    syncNext := false, inbox := [], endsIn := [], digestIn := [], ends := [], handover := none, switch := false, cover := 0 } } := rfl

theorem Dev.duoOut_regsKept (cause : Nat) : s.RegsKept (s.duoOut cause) [A.DUO_STAT] := (s.outShown_regsAt cause).2

theorem Dev.duoOut_isOut {cause : Nat} (h : cause < 16) : (s.duoOut cause).IsOut cause :=
  ⟨((Dev.duoSync_set_high _ _ _ rfl (by decide)).trans (Dev.duoSync_set_high _ _ _ rfl (by decide))).trans (s.duoSync_setSync (by decide)),
    (Dev.get_set_field _ _ _ _ _ rfl rfl (by decide)).trans (Dev.get_set_same _ _ _ _ rfl h), rfl, rfl, rfl⟩

theorem Dev.duoRole_duoOut (cause : Nat) : (s.duoOut cause).duoRole = s.duoRole :=
  ((Dev.duoRole_set_high _ _ _ rfl (by decide)).trans (Dev.duoRole_set_high _ _ _ rfl (by decide))).trans (s.duoRole_setSync _)

end

/-- What keeps DUO_STAT, the input set, the outputs and the entries that wait keeps a member out. -/
theorem Dev.IsOut.of_kept {d e : Dev} {cause : Nat} (h : d.IsOut cause) (hst : e.reg A.DUO_STAT = d.reg A.DUO_STAT)
    (hset : e.duoSet = d.duoSet) (houts : e.duoOuts = d.duoOuts) (hin : e.duo.inbox = d.duo.inbox) : e.IsOut cause := by
  obtain ⟨h1, h2, h3, h4, h5⟩ := h
  exact ⟨(congrArg F.DUO_STAT_SYNC.of hst).trans h1, (congrArg F.DUO_STAT_CAUSE.of hst).trans h2, hset.trans h3, houts.trans h4,
    hin.trans h5⟩

/-! ## Roles (R392) -/

section
variable (s : Dev)

/-- A role is taken in OUT. -/
def Dev.roleShown (role : Nat) : Dev := (s.setRole role).setSync dsOut

theorem Dev.roleShown_spec {role : Nat} (h : role < 4) : s.RegsAt (s.roleShown role) [A.DUO_STAT] ∧ (s.roleShown role).duoRole = role ∧
    (s.roleShown role).duoSync = dsOut :=
  ⟨((Dev.RegsAt.refl s _).set _ _ (.head _)).set _ _ (.head _), ((s.setRole role).duoRole_setSync dsOut).trans (s.duoRole_setRole h),
    (s.setRole role).duoSync_setSync (by decide)⟩

/-- What O56 says of a member that stands by. -/
def Dev.Stands (d : Dev) : Prop := d.duoRole = drStandby ∧ d.duoSync = dsOut ∧
  d.duo = { s.duo with deciding := none, inbox := [], request := true } ∧
  d = { s with regs := d.regs, duo := d.duo, scribe := d.scribe, free := d.free } ∧ s.RegsKept d [A.DUO_STAT] ∧ s.DuoRecorded d

/-- What O56 says of a member that leads. -/
def Dev.Leads (d : Dev) : Prop := d.duoRole = drPrimary ∧ d.duoSync = dsOut ∧ d.duo.deciding = none ∧ d.duo.inbox = [] ∧
  (s.duo.resume = false ∨ s.duo.stored ≠ drStandby → s.DuoRecorded d ∧ s.RegsKept d [A.DUO_STAT] ∧
    d = { s with regs := d.regs, duo := { s.duo with deciding := none, inbox := [], cover := 0 }, scribe := d.scribe, free := d.free })

theorem Dev.beStandby_stands : s.Stands s.beStandby := by
  obtain ⟨hat, hrole, hsync⟩ := s.roleShown_spec (role := drStandby) (by decide)
  exact ⟨hrole, hsync, rfl, rfl, hat.2, _, rfl, rfl⟩

/-- A start that does not resume a stored standby replays nothing. -/
theorem Dev.replayHeld_none {s : Dev} (h : s.duo.resume = false ∨ s.duo.stored ≠ drStandby) : s.replayHeld = s := by
  refine if_neg ?_
  rw [Bool.and_eq_true, beq_iff_eq]
  rintro ⟨hr, hs⟩
  exact h.elim (fun h => by simp [h] at hr) (· hs)

theorem Dev.bePrimary_leads {d : Dev} (h : s.RegsAt d [A.DUO_STAT]) : s.Leads d.bePrimary := by
  obtain ⟨-, hrole, hsync⟩ := d.replayHeld.roleShown_spec (role := drPrimary) (by decide)
  refine ⟨hrole, hsync, rfl, rfl, fun hnew => ?_⟩
  obtain ⟨⟨r, rfl⟩, hk⟩ := h
  have hheld : ({ s with regs := r } : Dev).replayHeld = { s with regs := r } := Dev.replayHeld_none hnew
  rw [Dev.bePrimary, hheld]
  exact ⟨⟨_, rfl, rfl⟩, hk.trans (Dev.roleShown_spec _ (role := drPrimary) (by decide)).1.2, rfl⟩

end

section
variable {s : Dev}

theorem Dev.roleDecision_idle (h : s.duoOn = false ∨ s.duo.deciding = none) : s.roleDecision = s := by
  refine if_pos ?_
  obtain h | h := h <;> simp [h]

variable {t : Nat} (hon : s.duoOn = true) (ht : s.duo.deciding = some t)
include hon ht

theorem Dev.roleDecision_alone (hp : s.duo.partner = none) :
    s.roleDecision = if t + 500000000 ≤ s.ticks then (s.duoCause dcStart).bePrimary else s := by
  simp [Dev.roleDecision, Dev.decisionDue, hon, ht, hp]

theorem Dev.roleDecision_paired {h : Hb} (hp : s.duo.partner = some h) :
    (h.role.val = drPrimary → s.roleDecision = s.beStandby) ∧
      (h.role.val = drNone → s.roleDecision = if s.winsStart h then s.bePrimary else s.beStandby) := by
  constructor <;> intro hr <;> simp [Dev.roleDecision, hon, ht, hp, hr, drNone, drPrimary]

/-- A member decides its role: at once against a partner that has none or leads, after 2 s alone. -/
theorem Dev.roleDecision_spec :
    (s.duo.partner = none → (t + 500000000 ≤ s.ticks → s.Leads s.roleDecision) ∧ (s.ticks < t + 500000000 → s.roleDecision = s)) ∧
      (∀ h, s.duo.partner = some h → (h.role.val = drPrimary → s.Stands s.roleDecision) ∧
        (h.role.val = drNone → (s.winsStart h = true → s.Leads s.roleDecision) ∧ (s.winsStart h = false → s.Stands s.roleDecision))) := by
  refine ⟨fun hp => ⟨fun hdue => ?_, fun hdue => ?_⟩, fun h hp => ⟨fun hr => ?_, fun hr => ⟨fun hw => ?_, fun hw => ?_⟩⟩⟩
  · rw [Dev.roleDecision_alone hon ht hp, if_pos hdue]
    exact s.bePrimary_leads ((Dev.RegsAt.refl s _).set _ _ (.head _))
  · rw [Dev.roleDecision_alone hon ht hp, if_neg (Nat.not_le.2 hdue)]
  · rw [(Dev.roleDecision_paired hon ht hp).1 hr]
    exact s.beStandby_stands
  · rw [(Dev.roleDecision_paired hon ht hp).2 hr, if_pos hw]
    exact s.bePrimary_leads (.refl s _)
  · rw [(Dev.roleDecision_paired hon ht hp).2 hr, if_neg (by rw [hw]; exact Bool.false_ne_true)]
    exact s.beStandby_stands

end

/-! ## Requests of the member itself (R402, R406, R409) -/

section
variable (s : Dev)

theorem Dev.duoResync_idle {s : Dev} (h : s.duoOn = false ∨ s.duoRole ≠ drStandby) : s.duoResync = s := by
  refine if_neg ?_
  rw [Bool.and_eq_true, beq_iff_eq]
  rintro ⟨hon, hr⟩
  exact h.elim (fun h => by simp [h] at hon) (· hr)

/-- Everything known has been replayed and nothing further has come. -/
def Dev.RunDry : Prop := s.syncedAs 2 = true ∧ s.duo.inbox = [] ∧ s.duo.cover + s.lagNs ≤ s.ts.toNat

theorem Dev.runDry_iff : (s.syncedAs 2 && s.duo.inbox.isEmpty && decide (s.duo.cover + s.lagNs ≤ s.ts.toNat)) = true ↔ s.RunDry := by
  rw [Bool.and_eq_true, Bool.and_eq_true, List.isEmpty_iff, decide_eq_true_eq, and_assoc]
  exact Iff.rfl

theorem Dev.replayDry_spec : (s.RunDry → s.replayDry.bit A.DUO_STAT F.DUO_STAT_DRY = true ∧ s.RegsAt s.replayDry [A.DUO_STAT]) ∧
    (¬s.RunDry → s.replayDry = s) := by
  refine ⟨fun h => ?_, fun h => if_neg (mt s.runDry_iff.1 h)⟩
  rw [show s.replayDry = s.set A.DUO_STAT F.DUO_STAT_DRY 1 from if_pos (s.runDry_iff.2 h)]
  exact ⟨s.bit_setBit_same _ _ true rfl, (Dev.RegsAt.refl s _).set _ _ (.head _)⟩

end

/-! ## Confirmation and release (R396, R412) -/

section
variable (s : Dev)

theorem Dev.econf_guard (k : Nat) : (s.syncedAs 1 && decide (s.duo.confirmed < k) && decide (k < s.duo.cur)) = true ↔
    s.syncedAs 1 = true ∧ s.duo.confirmed < k ∧ k < s.duo.cur := by
  rw [Bool.and_eq_true, Bool.and_eq_true, decide_eq_true_eq, decide_eq_true_eq, and_assoc]

theorem Dev.econf_due {k : Nat} (h : s.syncedAs 1 = true ∧ s.duo.confirmed < k ∧ k < s.duo.cur) :
    s.econf k = { s with
        duoRel := (s.econf k).duoRel
        duo := { s.duo with confirmed := k, ends := s.duo.ends.filter (fun p => decide (k < p.1)) } } ∧
      (s.econf k).duoRel = if 0 < (BitVec.ofNat 32 k - s.duoRel).toInt then BitVec.ofNat 32 k else s.duoRel := by
  rw [Dev.econf, if_pos ((s.econf_guard k).2 h)]
  dsimp only
  split
  · next hp => exact ⟨rfl, (if_pos hp).symm⟩
  · next hp => exact ⟨rfl, (if_neg hp).symm⟩

/-- The oldest unconfirmed epoch is released. -/
def Dev.cwaitReleased (n : Nat) (rest : List (Nat × Nat)) : Dev :=
  ({ s.onDuo (fun d => { d with ends := rest }) with duoRel := BitVec.ofNat 32 n }.count A.DUO_ERRCNT F.DUO_ERRCNT_CTO 1).duoOffer .duoRelease

theorem Dev.cwaitExpiry_eq {n t : Nat} {rest : List (Nat × Nat)} (h : s.duo.ends = (n, t) :: rest) :
    s.cwaitExpiry = if s.syncedAs 1 && decide (t + s.get A.DUO_CFG F.DUO_CFG_CWAIT * 250 ≤ s.ticks) then s.cwaitReleased n rest else s := by
  rw [Dev.cwaitExpiry, h]
  rfl

theorem Dev.cwaitExpiry_none (h : s.duo.ends = []) : s.cwaitExpiry = s := by rw [Dev.cwaitExpiry, h]

theorem Dev.cto_cwaitReleased (n : Nat) (rest : List (Nat × Nat)) : (s.cwaitReleased n rest).get A.DUO_ERRCNT F.DUO_ERRCNT_CTO =
    min (s.get A.DUO_ERRCNT F.DUO_ERRCNT_CTO + 1) 65535 :=
  Dev.get_count_same _ _ _ 1 rfl

theorem Dev.cwaitReleased_regsKept (n : Nat) (rest : List (Nat × Nat)) : s.RegsKept (s.cwaitReleased n rest) [A.DUO_ERRCNT] :=
  (((Dev.RegsAt.refl (s.onDuo fun d => { d with ends := rest }) _).set _ _ (.head _)) : Dev.RegsAt _ _ [A.DUO_ERRCNT]).2

end

/-! ## The takeover (R407) -/

section
variable (s : Dev)

/-- The recorder's enrolments lie in REC_ENR_CFG. -/
theorem Dev.enabledEntries_lt {e : Nat} (h : e ∈ s.enabledEntries) : e < 0x2000 := by
  obtain ⟨p, -, hp⟩ := List.mem_filterMap.1 h
  split at hp
  · next hc =>
    simp only [Bool.and_eq_true, decide_eq_true_eq] at hc
    obtain ⟨⟨⟨hlo, hhi⟩, -⟩, -⟩ := hc
    have he := Option.some.inj hp
    omega
  · cases hp

/-- Only the configurations of enabled enrolments change. -/
theorem Dev.recPendAll_regsAt : s.RegsAt s.recPendAll (s.enabledEntries.map A.REC_ENR_CFG) :=
  foldl_keeps (s.RegsAt · (s.enabledEntries.map A.REC_ENR_CFG)) _ _ s (fun _ _ he h => h.set _ _ (List.mem_map_of_mem he))
    (.refl s _)

/-- The registers outside the enrolments. -/
theorem Dev.reg_recPendAll {a : Nat} (h : a < 0x4A0000 ∨ 0x4C0000 ≤ a) : s.recPendAll.reg a = s.reg a := by
  refine s.recPendAll_regsAt.2 a fun hm => ?_
  obtain ⟨e, he, rfl⟩ := List.mem_map.1 hm
  have hlt := s.enabledEntries_lt he
  simp only [A.REC_ENR_CFG] at h
  omega

/-- The member that takes over, before its recorder goes on. -/
def Dev.tookRole (cause tko : Nat) : Dev :=
  (((s.duoOut cause).setRole drPrimary).onDuo fun d => { d with takeover := some (s.ticks + tko * 250), cover := s.duo.cover }).set
    A.DUO_GAP F.DUO_GAP_TKO tko

theorem Dev.duoTakeover_eq (cause tko : Nat) : s.duoTakeover cause tko =
    (((s.tookRole cause tko).setReg A.REC_SEQ ((s.tookRole cause tko).reg A.REC_SEQ + 65536)).recPendAll).recMark false true false := rfl

theorem Dev.tookRole_spec {cause tko : Nat} (hc : cause < 16) (ht : tko < 65536) : (s.tookRole cause tko).IsOut cause ∧
    (s.tookRole cause tko).duoRole = drPrimary ∧ (s.tookRole cause tko).get A.DUO_GAP F.DUO_GAP_TKO = tko ∧
    s.RegsKept (s.tookRole cause tko) [A.DUO_STAT, A.DUO_GAP] := by
  have hout := s.duoOut_isOut hc
  have hrole : ((s.duoOut cause).setRole drPrimary).IsOut cause :=
    ⟨((s.duoOut cause).duoSync_setRole drPrimary).trans hout.1,
      ((s.duoOut cause).get_set_field _ _ _ _ rfl rfl (by decide)).trans hout.2.1, rfl, rfl, rfl⟩
  have hst : (s.tookRole cause tko).reg A.DUO_STAT = ((s.duoOut cause).setRole drPrimary).reg A.DUO_STAT :=
    Dev.reg_set_other _ _ _ (by decide)
  refine ⟨hrole.of_kept hst rfl rfl rfl, (congrArg F.DUO_STAT_ROLE.of hst).trans ((s.duoOut cause).duoRole_setRole (by decide)),
    Dev.get_set_same _ _ _ _ rfl ht, fun a ha => ?_⟩
  simp only [List.mem_cons, not_or, List.not_mem_nil, not_false_eq_true, and_true] at ha
  obtain ⟨h1, h2⟩ := ha
  calc (s.tookRole cause tko).reg a
      = ((s.duoOut cause).setRole drPrimary).reg a := Dev.reg_set_other _ _ _ h2
    _ = (s.duoOut cause).reg a := Dev.reg_set_other _ _ _ h1
    _ = s.reg a := s.duoOut_regsKept cause a (by simpa using h1)

/-- What a takeover leaves. -/
theorem Dev.duoTakeover_spec {cause tko : Nat} (hc : cause < 16) (ht : tko < 65536) : (s.duoTakeover cause tko).IsOut cause ∧
    (s.duoTakeover cause tko).duoRole = drPrimary ∧ (s.duoTakeover cause tko).get A.DUO_GAP F.DUO_GAP_TKO = tko ∧
    (s.duoTakeover cause tko).reg A.REC_SEQ = s.reg A.REC_SEQ + 65536 ∧
    s.duoTakeover cause tko = { s with
      regs := (s.duoTakeover cause tko).regs
      duoSet := []
      duoOuts := []
      duo := (s.tookRole cause tko).duo
      recorder := (s.duoTakeover cause tko).recorder } := by
  obtain ⟨hout, hrole, htko, hkept⟩ := s.tookRole_spec hc ht
  rw [s.duoTakeover_eq]
  have hseq : ((s.tookRole cause tko).setReg A.REC_SEQ ((s.tookRole cause tko).reg A.REC_SEQ + 65536)).reg A.REC_SEQ =
      s.reg A.REC_SEQ + 65536 := by rw [Dev.reg_setReg_same, hkept _ (by decide)]
  have hframe : s.tookRole cause tko = { s with
      regs := (s.tookRole cause tko).regs, duoSet := [], duoOuts := [], duo := (s.tookRole cause tko).duo } := rfl
  generalize s.tookRole cause tko = y at *
  have hother (a : Nat) (ha : a ≠ A.REC_SEQ) (hr : a < 0x4A0000 ∨ 0x4C0000 ≤ a) :
      ((y.setReg A.REC_SEQ (y.reg A.REC_SEQ + 65536)).recPendAll).reg a = y.reg a :=
    (Dev.reg_recPendAll _ hr).trans (Dev.reg_setReg_other _ _ ha)
  have hst := hother A.DUO_STAT (by decide) (.inr (by decide))
  have hgap := hother A.DUO_GAP (by decide) (.inr (by decide))
  have hseq' := (Dev.reg_recPendAll (y.setReg A.REC_SEQ (y.reg A.REC_SEQ + 65536)) (a := A.REC_SEQ) (.inl (by decide))).trans hseq
  obtain ⟨r, hr⟩ : y.RegsOnly (y.setReg A.REC_SEQ (y.reg A.REC_SEQ + 65536)).recPendAll :=
    ((Dev.RegsOnly.refl y).setReg _ _).trans (Dev.recPendAll_regsAt _).1
  rw [hr] at hst hgap hseq' ⊢
  have hmark := congrArg (fun d : Dev => { d with regs := r, recorder := ({ y with regs := r }.recMark false true false).recorder }) hframe
  exact ⟨hout.of_kept hst rfl rfl rfl, (congrArg F.DUO_STAT_ROLE.of hst).trans hrole, (congrArg F.DUO_GAP_TKO.of hgap).trans htko,
    hseq', hmark⟩

end

/-! ## Heartbeats and the loss of the partner (R402, R405, R407, R408) -/

/-- `d` follows `s` after a heartbeat: what the heartbeat told, the role and the links stand. -/
structure Dev.HeardOnly (s d : Dev) : Prop where
  frame : d = { s with regs := d.regs, duo := d.duo, duoSet := d.duoSet, duoOuts := d.duoOuts }
  told : d.duo.seen = s.duo.seen ∧ d.duo.partner = s.duo.partner
  regs : s.RegsKept d [A.DUO_STAT]
  role : d.duoRole = s.duoRole
  links : ∀ f : Fld, f.ok = true → 8 ≤ f.lo → f.hi ≤ 10 → d.bit A.DUO_STAT f = s.bit A.DUO_STAT f

theorem Dev.HeardOnly.refl (s : Dev) : s.HeardOnly s := ⟨rfl, ⟨rfl, rfl⟩, .refl s _, rfl, fun _ _ _ _ => rfl⟩

theorem Dev.HeardOnly.trans {s d e : Dev} (h : s.HeardOnly d) (k : d.HeardOnly e) : s.HeardOnly e := by
  refine ⟨?_, ⟨k.told.1.trans h.told.1, k.told.2.trans h.told.2⟩, h.regs.trans k.regs, k.role.trans h.role,
    fun f hf h1 h2 => (k.links f hf h1 h2).trans (h.links f hf h1 h2)⟩
  have hd := h.frame
  have he := k.frame
  rw [hd] at he
  exact he

/-- A field of DUO_STAT other than ROLE and the links is written. -/
theorem Dev.HeardOnly.set (s : Dev) {f : Fld} (v : Nat) (hf : f.ok = true) (h : (1 < f.lo ∧ f.hi < 8) ∨ 10 < f.lo) :
    s.HeardOnly (s.set A.DUO_STAT f v) := by
  refine ⟨rfl, ⟨rfl, rfl⟩, (Dev.RegsKept.refl s _).set _ _ (.head _), Dev.get_set_field _ _ _ _ _ hf rfl (.inl ?_), fun g hg h1 h2 =>
    Dev.bit_set_apart _ _ _ _ _ hf hg ?_⟩
  · simp only [F.DUO_STAT_ROLE]
    omega
  · omega

theorem Dev.HeardOnly.duoOut (s : Dev) (cause : Nat) : s.HeardOnly (s.duoOut cause) := by
  have h : s.HeardOnly (s.outShown cause) :=
    ((Dev.HeardOnly.set s _ rfl (by decide)).trans (.set _ _ rfl (by decide))).trans (.set _ _ rfl (by decide))
  exact ⟨rfl, ⟨rfl, rfl⟩, h.regs, h.role, h.links⟩

/-- TRANSFER begins at a member. -/
def Dev.transferBegun (s : Dev) : Dev := (s.setSync dsTransfer).set A.DUO_STAT F.DUO_STAT_TPCT 0

theorem Dev.transferBegun_spec (s : Dev) : s.HeardOnly s.transferBegun ∧ s.transferBegun.duoSync = dsTransfer ∧
    s.transferBegun.get A.DUO_STAT F.DUO_STAT_TPCT = 0 :=
  ⟨(Dev.HeardOnly.set s _ rfl (by decide)).trans (.set _ _ rfl (by decide)),
    (Dev.duoSync_set_high _ _ _ rfl (by decide)).trans (s.duoSync_setSync (by decide)), Dev.get_set_same _ _ _ _ rfl (by decide)⟩

section
variable (s : Dev) (p : Nat) (h : Hb)

/-- The member that has taken what a heartbeat tells. -/
def Dev.heard : Dev :=
  (s.onDuo fun d => { d with partner := if p = 2 then d.partner else some h, seen := tabPut 0 d.seen p (s.ticks + 1) }).duoLinks

/-- The registers of the links. -/
def Dev.linksShown : Dev :=
  ((s.setBit A.DUO_STAT F.DUO_STAT_LNKA (s.pathHeard 0)).setBit A.DUO_STAT F.DUO_STAT_LNKB (s.pathHeard 1)).setBit
    A.DUO_STAT F.DUO_STAT_WIT (s.pathHeard 2)

theorem Dev.linksShown_spec : s.RegsAt s.linksShown [A.DUO_STAT] ∧ s.linksShown.duoSync = s.duoSync ∧ s.linksShown.duoRole = s.duoRole ∧
    s.linksShown.bit A.DUO_STAT F.DUO_STAT_LNKA = s.pathHeard 0 ∧ s.linksShown.bit A.DUO_STAT F.DUO_STAT_LNKB = s.pathHeard 1 ∧
    s.linksShown.bit A.DUO_STAT F.DUO_STAT_WIT = s.pathHeard 2 :=
  ⟨(((Dev.RegsAt.refl s _).set _ _ (.head _)).set _ _ (.head _)).set _ _ (.head _),
    ((Dev.duoSync_set_high _ _ _ rfl (by decide)).trans (Dev.duoSync_set_high _ _ _ rfl (by decide))).trans
      (Dev.duoSync_set_high _ _ _ rfl (by decide)),
    ((Dev.duoRole_set_high _ _ _ rfl (by decide)).trans (Dev.duoRole_set_high _ _ _ rfl (by decide))).trans
      (Dev.duoRole_set_high _ _ _ rfl (by decide)),
    ((Dev.bit_setBit_field _ _ _ _ _ rfl rfl (by decide)).trans (Dev.bit_setBit_field _ _ _ _ _ rfl rfl (by decide))).trans
      (s.bit_setBit_same _ _ _ rfl),
    (Dev.bit_setBit_field _ _ _ _ _ rfl rfl (by decide)).trans (Dev.bit_setBit_same _ _ _ _ rfl), Dev.bit_setBit_same _ _ _ _ rfl⟩

variable {s}

/-- A path that has just carried a sign. -/
theorem Dev.pathHeard_now {d : Dev} (ht : tabGet 0 d.duo.seen p = d.ticks + 1) : d.pathHeard p = true := by
  simp [Dev.pathHeard, ht]

/-- What every heartbeat does: it tells of the partner, and its path is heard. -/
theorem Dev.heard_spec (hon : s.duoOn = true) : tabGet 0 (s.heard p h).duo.seen p = s.ticks + 1 ∧
    (s.heard p h).duo.partner = (if p = 2 then s.duo.partner else some h) ∧ (s.heard p h).duoRole = s.duoRole ∧
    (s.heard p h).duoSync = s.duoSync ∧ s.RegsKept (s.heard p h) [A.DUO_STAT] ∧
    (p = 0 → (s.heard p h).bit A.DUO_STAT F.DUO_STAT_LNKA = true) ∧ (p = 1 → (s.heard p h).bit A.DUO_STAT F.DUO_STAT_LNKB = true) ∧
    (p = 2 → (s.heard p h).bit A.DUO_STAT F.DUO_STAT_WIT = true) ∧
    s.heard p h = { s with
      regs := (s.heard p h).regs
      duo := { s.duo with partner := (s.heard p h).duo.partner, seen := (s.heard p h).duo.seen } } := by
  have hseen : tabGet 0 (tabPut 0 s.duo.seen p (s.ticks + 1)) p = s.ticks + 1 := tabGet_put_same ..
  have he : s.heard p h = (s.onDuo fun d => { d with
      partner := if p = 2 then d.partner else some h, seen := tabPut 0 d.seen p (s.ticks + 1) }).linksShown :=
    if_neg (by rw [Bool.not_eq_true', ← Bool.not_eq_true]; exact not_not_intro hon)
  obtain ⟨hat, hsync, hrole, ha, hb, hw⟩ := (s.onDuo fun d => { d with
      partner := if p = 2 then d.partner else some h, seen := tabPut 0 d.seen p (s.ticks + 1) }).linksShown_spec
  have hnow := Dev.pathHeard_now p (d := s.onDuo fun d => { d with
      partner := if p = 2 then d.partner else some h, seen := tabPut 0 d.seen p (s.ticks + 1) }) hseen
  rw [he]
  obtain ⟨⟨r, hr⟩, hk⟩ := hat
  rw [hr] at hsync hrole ha hb hw hk ⊢
  refine ⟨hseen, rfl, hrole, hsync, hk, fun h0 => ?_, fun h1 => ?_, fun h2 => ?_, rfl⟩
  · exact ha.trans (h0 ▸ hnow)
  · exact hb.trans (h1 ▸ hnow)
  · exact hw.trans (h2 ▸ hnow)

end

/-! ## A partner's heartbeat (R402, R405) -/

/-- The digest of the images does not depend on DUO_STAT. -/
theorem Dev.heard_imageDigest {s : Dev} {p : Nat} {h : Hb} (hon : s.duoOn = true) : (s.heard p h).imageDigest = s.imageDigest := by
  obtain ⟨-, -, -, -, hkept, -, -, -, hframe⟩ := Dev.heard_spec p h hon
  have hcode (e : Nat) (he : e ∈ upto 8) : (s.heard p h).get (A.PE_CODE e) F.PE_CODE_ACT = s.get (A.PE_CODE e) F.PE_CODE_ACT := by
    have hlt := List.mem_range.1 he
    exact hkept.get _ (by simp only [List.mem_singleton, A.PE_CODE, A.DUO_STAT]; omega)
  have himg : (s.heard p h).policyImg = s.policyImg := by rw [hframe]
  have hhalf : (s.heard p h).halfDigest = s.halfDigest := by rw [hframe]
  rw [Dev.imageDigest, Dev.imageDigest, himg, hhalf]
  congr 2
  exact List.map_congr_left fun e he => by rw [hcode e he]

section
variable (s : Dev) (same : Bool) (h : Hb)

/-- What a primary does on a heartbeat of a pair link. -/
def Dev.primaryHears : Dev :=
  if h.role.val = drStandby && h.request && same && (s.duoSync == dsOut || s.duoSync == dsSynced) && !s.duo.syncNext then
    (s.duoOut (s.get A.DUO_STAT F.DUO_STAT_CAUSE)).transferBegun
  else if h.role.val = drStandby && h.sync.val == dsOut && s.duoSync == dsSynced then s.duoOut dcPartner
  else if !same && s.duoSync == dsOut then s.duoCause dcConfig
  else s

/-- What a standby does. -/
def Dev.standbyHears : Dev :=
  if !same && s.duoSync == dsOut then s.duoCause dcConfig
  else if h.role.val = drPrimary && h.sync.val == dsTransfer && s.duo.request && s.duoSync == dsOut then s.transferBegun
  else s

theorem Dev.heartbeatIn_eq {s : Dev} {p : Nat} (hon : s.duoOn = true) : s.heartbeatIn p h =
    if p = 2 then s.heard p h
    else if (s.heard p h).duoRole = drPrimary then (s.heard p h).primaryHears (h.digest == (s.heard p h).imageDigest) h
    else if (s.heard p h).duoRole = drStandby then (s.heard p h).standbyHears (h.digest == (s.heard p h).imageDigest) h
    else s.heard p h :=
  if_neg (by rw [hon]; exact Bool.false_ne_true)

theorem Dev.HeardOnly.duoCause (cause : Nat) : s.HeardOnly (s.duoCause cause) := .set s _ rfl (by decide)

theorem Dev.primaryHears_only : s.HeardOnly (s.primaryHears same h) := by
  rw [Dev.primaryHears]
  split
  · exact (Dev.HeardOnly.duoOut s _).trans (Dev.transferBegun_spec _).1
  split
  · exact .duoOut s _
  split
  · exact .duoCause s _
  · exact .refl s

theorem Dev.standbyHears_only : s.HeardOnly (s.standbyHears same h) := by
  rw [Dev.standbyHears]
  split
  · exact .duoCause s _
  split
  · exact s.transferBegun_spec.1
  · exact .refl s

/-- The standby asks for a transfer that the primary can begin. -/
def Dev.Asked : Prop := h.role.val = drStandby ∧ h.request = true ∧ same = true ∧ (s.duoSync = dsOut ∨ s.duoSync = dsSynced) ∧
  s.duo.syncNext = false

/-- What O56 says of such a heartbeat. -/
def Dev.Asks : Prop := h.role.val = drStandby ∧ h.request = true ∧ h.digest = s.imageDigest ∧
  (s.duoSync = dsOut ∨ s.duoSync = dsSynced) ∧ s.duo.syncNext = false

theorem Dev.asked_digest : s.Asked (h.digest == s.imageDigest) h ↔ s.Asks h := by rw [Dev.Asked, beq_iff_eq, Dev.Asks]

theorem Dev.asked_iff : (decide (h.role.val = drStandby) && h.request && same && (s.duoSync == dsOut || s.duoSync == dsSynced) &&
    !s.duo.syncNext) = true ↔ s.Asked same h := by
  rw [Dev.Asked]
  simp only [Bool.and_eq_true, Bool.or_eq_true, beq_iff_eq, decide_eq_true_eq, Bool.not_eq_true', and_assoc]

theorem Dev.primaryHears_asked (ha : s.Asked same h) : (s.primaryHears same h).duoSync = dsTransfer ∧
    (s.primaryHears same h).get A.DUO_STAT F.DUO_STAT_TPCT = 0 := by
  rw [show s.primaryHears same h = (s.duoOut (s.get A.DUO_STAT F.DUO_STAT_CAUSE)).transferBegun from if_pos ((s.asked_iff same h).2 ha)]
  exact (Dev.transferBegun_spec _).2

theorem Dev.primaryHears_out (ha : ¬s.Asked same h) (hr : h.role.val = drStandby) (hs : h.sync.val = dsOut)
    (hsync : s.duoSync = dsSynced) : (s.primaryHears same h).IsOut dcPartner := by
  rw [Dev.primaryHears, if_neg (mt (s.asked_iff same h).1 ha), if_pos (by simp [hr, hs, hsync])]
  exact s.duoOut_isOut (by decide)

theorem Dev.standbyHears_differs (hsame : same = false) (hsync : s.duoSync = dsOut) : (s.standbyHears same h).duoSync = dsOut ∧
    (s.standbyHears same h).get A.DUO_STAT F.DUO_STAT_CAUSE = dcConfig := by
  rw [show s.standbyHears same h = s.duoCause dcConfig from if_pos (by simp [hsame, hsync])]
  exact ⟨(s.duoSync_set_high _ _ rfl (by decide)).trans hsync, s.get_set_same _ _ _ rfl (by decide)⟩

theorem Dev.standbyHears_follows (hsame : same = true) (hsync : s.duoSync = dsOut) (hr : h.role.val = drPrimary)
    (hs : h.sync.val = dsTransfer) (hreq : s.duo.request = true) : (s.standbyHears same h).duoSync = dsTransfer ∧
    (s.standbyHears same h).get A.DUO_STAT F.DUO_STAT_TPCT = 0 := by
  rw [Dev.standbyHears, if_neg (by simp [hsame]), if_pos (by simp [hr, hs, hreq, hsync])]
  exact s.transferBegun_spec.2

end

section
variable {s : Dev} (p : Nat) (h : Hb) (hon : s.duoOn = true)
include hon

theorem Dev.heartbeatIn_only : (s.heard p h).HeardOnly (s.heartbeatIn p h) := by
  rw [Dev.heartbeatIn_eq h hon]
  split
  · exact .refl _
  split
  · exact Dev.primaryHears_only _ _ _
  split
  · exact Dev.standbyHears_only _ _ _
  · exact .refl _

/-- Every heartbeat tells of the partner and is heard on its path; the role stays. -/
theorem Dev.heartbeatIn_told : let d := s.heartbeatIn p h
    tabGet 0 d.duo.seen p = s.ticks + 1 ∧ d.duo.partner = (if p = 2 then s.duo.partner else some h) ∧
      d.duoRole = s.duoRole ∧ s.RegsKept d [A.DUO_STAT] ∧ (p = 0 → d.bit A.DUO_STAT F.DUO_STAT_LNKA = true) ∧
      (p = 1 → d.bit A.DUO_STAT F.DUO_STAT_LNKB = true) ∧
      (p = 2 → d.bit A.DUO_STAT F.DUO_STAT_WIT = true ∧ d.duoSync = s.duoSync) ∧
      d = { s with regs := d.regs, duo := d.duo, duoSet := d.duoSet, duoOuts := d.duoOuts } := by
  obtain ⟨hseen, hpartner, hrole, hsync, hkept, ha, hb, hw, hframe⟩ := Dev.heard_spec p h hon
  have hp2 (h2 : p = 2) : s.heartbeatIn p h = s.heard p h := (Dev.heartbeatIn_eq h hon).trans (if_pos h2)
  have honly := Dev.heartbeatIn_only p h hon
  generalize s.heartbeatIn p h = d at *
  generalize s.heard p h = y at *
  refine ⟨(congrArg (tabGet 0 · p) honly.told.1).trans hseen, honly.told.2.trans hpartner, honly.role.trans hrole,
    hkept.trans honly.regs, fun e => (honly.links _ rfl (by decide) (by decide)).trans (ha e),
    fun e => (honly.links _ rfl (by decide) (by decide)).trans (hb e),
    fun e => ⟨(honly.links _ rfl (by decide) (by decide)).trans (hw e), by rw [hp2 e, hsync]⟩, ?_⟩
  have hd := honly.frame
  rw [hframe] at hd
  exact hd

/-- What a heartbeat of a pair link does by the member's role. -/
theorem Dev.heartbeatIn_pair (hp : p ≠ 2) :
    (s.duoRole = drPrimary → (s.Asks h → (s.heartbeatIn p h).duoSync = dsTransfer ∧
        (s.heartbeatIn p h).get A.DUO_STAT F.DUO_STAT_TPCT = 0) ∧
      (¬s.Asks h → h.role.val = drStandby → h.sync.val = dsOut → s.duoSync = dsSynced →
        (s.heartbeatIn p h).IsOut dcPartner)) ∧
    (s.duoRole = drStandby → s.duoSync = dsOut →
      (h.digest ≠ s.imageDigest → (s.heartbeatIn p h).duoSync = dsOut ∧ (s.heartbeatIn p h).get A.DUO_STAT F.DUO_STAT_CAUSE = dcConfig) ∧
      (h.digest = s.imageDigest → h.role.val = drPrimary → h.sync.val = dsTransfer → s.duo.request = true →
        (s.heartbeatIn p h).duoSync = dsTransfer ∧ (s.heartbeatIn p h).get A.DUO_STAT F.DUO_STAT_TPCT = 0)) := by
  obtain ⟨-, -, hrole, hsync, -, -, -, -, hframe⟩ := Dev.heard_spec p h hon
  have hdig := Dev.heard_imageDigest (p := p) (h := h) hon
  have hreq : (s.heard p h).duo.request = s.duo.request := by rw [hframe]
  have hnext : (s.heard p h).duo.syncNext = s.duo.syncNext := by rw [hframe]
  have heq := Dev.heartbeatIn_eq (p := p) h hon
  rw [if_neg hp, hdig] at heq
  have hasked : (s.heard p h).Asked (h.digest == s.imageDigest) h ↔ s.Asks h := by
    rw [← s.asked_digest h, Dev.Asked, hsync, hnext, Dev.Asked]
  generalize s.heard p h = y at *
  constructor
  · intro hr
    rw [if_pos (hrole.trans hr)] at heq
    rw [heq]
    exact ⟨fun ha => y.primaryHears_asked _ h (hasked.2 ha), fun ha h1 h2 h3 =>
      y.primaryHears_out _ h (mt hasked.1 ha) h1 h2 (hsync.trans h3)⟩
  · intro hr hs
    rw [if_neg (by rw [hrole, hr]; decide), if_pos (hrole.trans hr)] at heq
    rw [heq]
    exact ⟨fun hne => y.standbyHears_differs _ h (beq_false_of_ne hne) (hsync.trans hs), fun he h1 h2 h3 =>
      y.standbyHears_follows _ h (beq_iff_eq.2 he) (hsync.trans hs) h1 h2 (hreq.trans h3)⟩

end

/-- The member's own heartbeat. -/
theorem Dev.heartbeatOut_guard {s : Dev} (hrun : s.halted = false) :
    (s.duoOn && !s.halted && (s.duo.hbSent == 0 || decide (s.duo.hbSent + 5000 ≤ s.ticks + 1))) = true ↔
      s.duoOn = true ∧ (s.duo.hbSent = 0 ∨ s.duo.hbSent + 5000 ≤ s.ticks + 1) := by
  simp [hrun]

theorem Dev.heartbeatOut_due {s : Dev} (hrun : s.halted = false)
    (h : s.duoOn = true ∧ (s.duo.hbSent = 0 ∨ s.duo.hbSent + 5000 ≤ s.ticks + 1)) : s.heartbeatOut = { s with
      duo := { s.duo with hbSent := s.ticks + 1 }
      sent := s.sent ++ [⟨5, 0, 1, hbWords s.heartbeatOf⟩] ++
        (if s.bit A.DUO_CFG F.DUO_CFG_WITEN then [⟨1, s.get A.DUO_CFG F.DUO_CFG_WPORT, 0x88B5, [0x59430003]⟩] else []) } := by
  rw [Dev.heartbeatOut, if_pos ((Dev.heartbeatOut_guard hrun).2 h)]
  have hbit : ((s.onDuo fun d => { d with hbSent := s.ticks + 1 }).pairSend 1 (hbWords s.heartbeatOf)).bit A.DUO_CFG F.DUO_CFG_WITEN =
      s.bit A.DUO_CFG F.DUO_CFG_WITEN := rfl
  dsimp only
  rw [hbit]
  split
  · rfl
  · rw [List.append_nil]
    rfl

/-! ## The loss of the partner (R405, R407, R408) -/

section
variable {s : Dev}

/-- The member is in the pair. -/
def Dev.Paired (s : Dev) : Prop := s.duoOn = true ∧ (s.duoSync = dsSynced ∨ s.duoSync = dsTransfer)

/-- A pair link has been heard. -/
def Dev.LinkHeard (s : Dev) : Prop := s.pathHeard 0 = true ∨ s.pathHeard 1 = true

theorem Dev.links_iff : (upto 2).any s.pathHeard = true ↔ s.LinkHeard := by simp [upto, List.range_succ, Dev.LinkHeard]

theorem Dev.heardAny_eq (h : ¬s.LinkHeard) : (upto 3).any s.pathHeard = s.pathHeard 2 := by
  rw [Dev.LinkHeard, not_or, Bool.not_eq_true, Bool.not_eq_true] at h
  simp [upto, List.range_succ, h.1, h.2]

theorem Dev.heardAny_of_link (h : s.LinkHeard) : (upto 3).any s.pathHeard = true := by
  obtain h | h := h <;> simp [upto, List.range_succ, h]

theorem Dev.unpaired_iff : (!s.duoOn || (s.duoSync != dsSynced && s.duoSync != dsTransfer)) = true ↔ ¬s.Paired := by
  rw [Dev.Paired]
  cases s.duoOn <;> simp [not_or]

theorem Dev.partnerLost_idle (h : ¬s.Paired ∨ s.LinkHeard) : s.partnerLost = s := by
  by_cases hp : s.Paired
  · have hl : s.LinkHeard := h.resolve_left (not_not_intro hp)
    rw [Dev.partnerLost, if_neg (fun k => Dev.unpaired_iff.1 k hp), if_pos (Dev.heardAny_of_link hl), if_pos (Dev.links_iff.2 hl)]
  · exact if_pos (Dev.unpaired_iff.2 hp)

variable (hp : s.Paired) (hl : ¬s.LinkHeard)
include hp hl

theorem Dev.partnerLost_eq : s.partnerLost = if s.pathHeard 2 then s.duoOut dcLinks
    else if s.syncedAs 2 then (s.duoTakeover dcPartner (Config.takeoverTime s.free % 171)).draw else s.duoOut dcPartner := by
  rw [Dev.partnerLost, if_neg (fun k => Dev.unpaired_iff.1 k hp), Dev.heardAny_eq hl, if_neg (mt Dev.links_iff.1 hl)]

theorem Dev.partnerLost_takeover (hw : s.pathHeard 2 = false) (hsync : s.syncedAs 2 = true) :
    s.partnerLost.IsOut dcPartner ∧ s.partnerLost.duoRole = drPrimary ∧ s.partnerLost.reg A.REC_SEQ = s.reg A.REC_SEQ + 65536 ∧
      s.partnerLost.mem = s.mem ∧ s.partnerLost.points = s.points ∧
      ∃ tko, tko ≤ 170 ∧ s.partnerLost.get A.DUO_GAP F.DUO_GAP_TKO = tko ∧ s.partnerLost.duo.takeover = some (s.ticks + tko * 250) := by
  have hlt : Config.takeoverTime s.free % 171 < 171 := Nat.mod_lt _ (by decide)
  rw [Dev.partnerLost_eq hp hl, if_neg (by rw [hw]; exact Bool.false_ne_true), if_pos hsync]
  generalize Config.takeoverTime s.free % 171 = tko at *
  obtain ⟨hout, hrole, htko, hseq, hframe⟩ := s.duoTakeover_spec (cause := dcPartner) (tko := tko) (by decide) (by omega)
  have hduo : (s.duoTakeover dcPartner tko).duo.takeover = some (s.ticks + tko * 250) := by rw [hframe]; rfl
  have hmem : (s.duoTakeover dcPartner tko).mem = s.mem := by rw [hframe]
  have hpoints : (s.duoTakeover dcPartner tko).points = s.points := by rw [hframe]
  generalize s.duoTakeover dcPartner tko = d at *
  exact ⟨hout.of_kept rfl rfl rfl rfl, hrole, hseq, hmem, hpoints, tko, by omega, htko, hduo⟩

end

/-! ## The transfer (R402) -/

/-- Entries put one after another leave the other keys. -/
theorem tabGet_putAll_other {α : Type} [DecidableEq α] (d : Nat → α) (e : α) {k : Nat} : ∀ (l t : Tab α), (∀ c ∈ l, k ≠ c.1) →
    tabGet e (l.foldl (fun t c => tabPut (d c.1) t c.1 c.2) t) k = tabGet e t k := by
  intro l
  induction l with
  | nil => exact fun _ _ => rfl
  | cons c l ih =>
    intro t h
    rw [List.forall_mem_cons] at h
    rw [List.foldl_cons, ih _ h.2, tabGet_put_other _ _ _ _ h.1]

section
variable (s src : Dev)

/-- Registers that stay the member's own in a transfer. -/
def ownReg (k : Nat) : Bool :=
  (decide (k % 0x4000000 < 0x40000) && !(decide (0x200 ≤ k % 0x4000000) && decide (k % 0x4000000 < 0x220))) ||
    (decide (0x440000 ≤ k % 0x4000000) && !(decide (0x600100 ≤ k % 0x4000000) && decide (k % 0x4000000 < 0x600240)))

/-- The bank of an address has an owner at the device that is copied. -/
def Dev.ownedAt (a : Nat) : Bool := src.get (A.MEM_BANK_STAT (a / 0x80000)) F.MEM_BANK_STAT_OWNER != 0

theorem Dev.regs_duoCopy : (s.duoCopy src).regs = (src.regs.filter fun r => !ownReg r.1).foldl
    (fun t r => tabPut (resetWord r.1) t r.1 r.2) (s.regs.filter fun r => ownReg r.1) := rfl

theorem Dev.mem_duoCopy : (s.duoCopy src).mem = (src.mem.filter fun c => src.ownedAt c.1).foldl
    (fun m c => tabPut memDefault m c.1 c.2) (s.mem.filter fun c => !src.ownedAt c.1) := rfl

/-- A transfer copies none of the member's own registers. -/
theorem Dev.reg_duoCopy {a : Nat} (h : ownReg a = true) : (s.duoCopy src).reg a = s.reg a := by
  rw [Dev.reg, s.regs_duoCopy, tabGet_putAll_other resetWord (resetWord a), tabGet, tabFind_filter ownReg, if_pos h, Dev.reg, tabGet]
  intro c hc e
  have hc' := (List.mem_filter.1 hc).2
  simp [← e, h] at hc'

theorem Dev.mem_putCells (cs : List Host.Cell) : ∀ s : Dev, (s.putCells id cs).mem = cs.foldl (fun m c => tabPut memDefault m c.1 c.2) s.mem := by
  induction cs with
  | nil => exact fun _ => rfl
  | cons c cs ih => exact fun s => ih (s.putByte c.1 c.2)

/-- A transfer copies the banks that have an owner. -/
theorem Dev.byte_duoCopy (hwf : Memory.wf src.mem = true) (a : Nat) :
    (s.duoCopy src).byte a = if src.get (A.MEM_BANK_STAT (a / 0x80000)) F.MEM_BANK_STAT_OWNER ≠ 0 then src.byte a else s.byte a := by
  have hrise : tabAbove none (src.mem.filter fun c => src.ownedAt c.1) = true :=
    tabAbove_filter _ _ _ ((Bool.and_eq_true _ _).mp hwf).1
  have hcells := Dev.byte_putCells_at id (k := a) _ _ { s with mem := s.mem.filter fun c => !src.ownedAt c.1 } hrise (fun _ _ h => h)
  have hown : src.ownedAt a = true ↔ src.get (A.MEM_BANK_STAT (a / 0x80000)) F.MEM_BANK_STAT_OWNER ≠ 0 := bne_iff_ne
  have hbase : tabGet memDefault (s.mem.filter fun c => !src.ownedAt c.1) a = if src.ownedAt a then memDefault else s.byte a := by
    rw [tabGet, tabFind_filter fun k => !src.ownedAt k]
    cases src.ownedAt a <;> rfl
  refine Eq.trans ?_ (if_congr hown rfl rfl)
  calc (s.duoCopy src).byte a
      = ({ s with mem := s.mem.filter fun c => !src.ownedAt c.1 }.putCells id (src.mem.filter fun c => src.ownedAt c.1)).byte a := by
        rw [Dev.byte, s.mem_duoCopy, ← Dev.mem_putCells _ { s with mem := s.mem.filter fun c => !src.ownedAt c.1 }, Dev.byte]
    _ = (tabFind (src.mem.filter fun c => src.ownedAt c.1) a).getD (if src.ownedAt a then memDefault else s.byte a) :=
        hcells.trans (congrArg (Option.getD _) hbase)
    _ = if src.ownedAt a then src.byte a else s.byte a := by
        rw [tabFind_filter fun k => src.ownedAt k]
        cases src.ownedAt a <;> rfl

/-- The transfer is over at this member. -/
def Dev.transferEnded (d : Dev) : Dev := (d.onDuo fun u => { u with syncNext := true }).set A.DUO_STAT F.DUO_STAT_TPCT 100

theorem Dev.transferEnded_spec (d : Dev) : d.transferEnded.get A.DUO_STAT F.DUO_STAT_TPCT = 100 ∧ d.transferEnded.duoRole = d.duoRole ∧
    d.transferEnded.duoSync = d.duoSync ∧ d.RegsKept d.transferEnded [A.DUO_STAT] :=
  ⟨Dev.get_set_same _ _ _ _ rfl (by decide), Dev.duoRole_set_high _ _ _ rfl (by decide), Dev.duoSync_set_high _ _ _ rfl (by decide),
    ((Dev.RegsAt.refl (d.onDuo fun u => { u with syncNext := true }) _).set _ _ (.head _) : Dev.RegsAt _ _ [A.DUO_STAT]).2⟩

theorem Dev.transferDone_idle {s : Dev} (h : s.duoSync ≠ dsTransfer) : s.transferDone src = s := if_pos (bne_iff_ne.2 h)

theorem Dev.transferDone_eq {s : Dev} (h : s.duoSync = dsTransfer) :
    s.transferDone src = (if s.duoRole = drStandby then s.duoCopy src else s).transferEnded :=
  if_neg (by rw [h]; decide)

/-- What both members of a transfer keep. -/
theorem Dev.transferDone_spec {s : Dev} (h : s.duoSync = dsTransfer) : let d := s.transferDone src
    d.duo = { s.duo with syncNext := true } ∧ d.get A.DUO_STAT F.DUO_STAT_TPCT = 100 ∧
      d.duoRole = s.duoRole ∧ d.duoSync = dsTransfer ∧ d.saf = s.saf ∧ d.sec = s.sec ∧ d.time = s.time ∧ d.sent = s.sent := by
  intro d
  have hd : d = (if s.duoRole = drStandby then s.duoCopy src else s).transferEnded := Dev.transferDone_eq src h
  rw [hd]
  split
  · have hst := s.reg_duoCopy src (a := A.DUO_STAT) (by decide)
    obtain ⟨htp, hrole, hsync, -⟩ := (s.duoCopy src).transferEnded_spec
    exact ⟨rfl, htp, hrole.trans (congrArg F.DUO_STAT_ROLE.of hst), (hsync.trans (congrArg F.DUO_STAT_SYNC.of hst)).trans h,
      rfl, rfl, rfl, rfl⟩
  · obtain ⟨htp, hrole, hsync, -⟩ := s.transferEnded_spec
    exact ⟨rfl, htp, hrole, hsync.trans h, rfl, rfl, rfl, rfl⟩

end

/-! ## Mirrored data (R403) -/

/-- Bytes put one after another. -/
theorem tabGet_putRun (t : Tab Byte) (base : Nat) (v : Nat → Byte) (i : Nat) : ∀ n,
    tabGet memDefault ((upto n).foldl (fun t j => tabPut memDefault t (base + j) (v j)) t) i =
      if base ≤ i ∧ i < base + n then v (i - base) else tabGet memDefault t i := by
  intro n
  induction n with
  | zero => rw [if_neg (by omega)]; rfl
  | succ n ih =>
    rw [upto, List.range_succ, List.foldl_append, List.foldl_cons, List.foldl_nil]
    by_cases hi : i = base + n
    · subst hi
      rw [tabGet_put_same, if_pos (by omega), Nat.add_sub_cancel_left]
    · rw [tabGet_put_other _ _ _ _ hi]
      refine ih.trans ?_
      by_cases hin : base ≤ i ∧ i < base + n
      · rw [if_pos hin, if_pos (by omega)]
      · rw [if_neg hin, if_neg (by omega)]

theorem wordsBytes_length (ws : List Word) : (ws.flatMap wordBytes).length = 4 * ws.length := by
  induction ws with
  | nil => rfl
  | cons w ws ih =>
    rw [List.flatMap_cons, List.length_append, ih, wordBytes, leBytes_length, List.length_cons]
    omega

section
variable (s : Dev) (seq : Word)

/-- The standby has applied a mirror record and acknowledges it. -/
def Dev.mirrored (m : Mirror) : Dev := ((s.mirrorApply m).onDuo fun d => { d with mseqIn := seq }).pairSend 5 [seq]

theorem Dev.duoConfirm_none {s : Dev} (h : s.duo.endsIn = []) : s.duoConfirm = s := by rw [Dev.duoConfirm, h]

/-- A confirmation sends, and an END frame waits no more. -/
theorem Dev.duoConfirm_frame : ∃ l x, s.duoConfirm = { s with duo := { s.duo with endsIn := l }, sent := x } := by
  rw [Dev.duoConfirm]
  split
  · split
    · exact ⟨_, _, rfl⟩
    · exact ⟨_, _, rfl⟩
  · exact ⟨_, _, rfl⟩

theorem Dev.drStandby_ne_primary {s : Dev} (h : s.duoRole = drStandby) : s.duoRole ≠ drPrimary := by rw [h]; decide

theorem Dev.mirFrame_standby {s : Dev} {m : Mirror} (hr : s.duoRole = drStandby) (hm : m ≠ .ack) :
    s.mirFrame seq m = (s.mirrored seq m).duoConfirm := by
  rw [Dev.mirFrame, if_neg (Dev.drStandby_ne_primary hr), if_pos (by simp [hr, hm])]
  rfl

theorem Dev.mirFrame_ack (hr : s.duoRole = drPrimary) : s.mirFrame seq .ack =
    (s.onDuo fun d => { d with unacked := d.unacked.filter (fun x => x.1 != seq) }).setReg A.DUO_MLAG
      (BitVec.ofNat 32 (s.duo.unacked.filter fun x => x.1 != seq).length) := by
  rw [Dev.mirFrame, if_pos hr, if_pos rfl]
  rfl

theorem Dev.mirFrame_idle {s : Dev} {m : Mirror}
    (h : (s.duoRole = drPrimary ∧ m ≠ .ack) ∨ (s.duoRole ≠ drPrimary ∧ (s.duoRole ≠ drStandby ∨ m = .ack))) : s.mirFrame seq m = s := by
  obtain ⟨hr, hm⟩ | ⟨hr, h⟩ := h
  · rw [Dev.mirFrame, if_pos hr, if_neg hm]
  · rw [Dev.mirFrame, if_neg hr, if_neg]
    rw [Bool.and_eq_true, decide_eq_true_eq, bne_iff_ne]
    rintro ⟨h1, h2⟩
    exact h.elim (· h1) h2

theorem Dev.mirFrame_mseqIn {s : Dev} {m : Mirror} (hr : s.duoRole = drStandby) (hm : m ≠ .ack) : (s.mirFrame seq m).duo.mseqIn = seq := by
  rw [Dev.mirFrame_standby seq hr hm]
  obtain ⟨l, x, h⟩ := (s.mirrored seq m).duoConfirm_frame
  rw [h]
  rfl

theorem Dev.mirFrame_page {s : Dev} (hr : s.duoRole = drStandby) (he : s.duo.endsIn = []) (n : Nat) (ws : List Word) :
    let d := s.mirFrame seq (.page n ws)
    d = { s with store := d.store, sent := s.sent ++ [⟨5, 0, 5, [seq]⟩], duo := { s.duo with mseqIn := seq } } ∧
      ∀ i, tabGet memDefault d.store i = if n * 4096 ≤ i ∧ i < n * 4096 + 4 * ws.length then
        (ws.flatMap wordBytes).getD (i - n * 4096) 0 else tabGet memDefault s.store i := by
  intro d
  have hd : d = s.mirrored seq (.page n ws) := (Dev.mirFrame_standby seq hr (by simp)).trans (Dev.duoConfirm_none he)
  rw [hd]
  refine ⟨rfl, fun i => ?_⟩
  rw [← wordsBytes_length ws]
  exact tabGet_putRun s.store (n * 4096) (fun j => (ws.flatMap wordBytes).getD j 0) i _

theorem Dev.mirFrame_bank {s : Dev} (hr : s.duoRole = drStandby) (he : s.duo.endsIn = []) (a : Nat) (ws : List Word)
    (hlen : ws.length % 4 = 0) : let d := s.mirFrame seq (.bank (16 * a) ws)
    d = { s with mem := d.mem, pool := d.pool, sent := s.sent ++ [⟨5, 0, 5, [seq]⟩], duo := { s.duo with mseqIn := seq } } ∧
      d.words (16 * a) ws.length = ws ∧ s.BytesKept d (16 * a) (4 * ws.length) := by
  intro d
  have hline : lineOf (16 * a) = a := Nat.mul_div_cancel_left a (by decide)
  have hmem := s.putSpan_memOnly a ws (n := 4 * ws.length) (by omega)
  have hwords : (s.putSpan a ws).words (16 * a) ws.length = ws := by
    have h := s.words_putSpan a ws (k := 0) (n := ws.length) (by omega)
    rwa [Nat.mul_zero, Nat.add_zero, Nat.mul_comm a 16, List.drop_zero, List.take_length] at h
  rw [Nat.mul_comm a 16] at hmem
  have happly : s.mirrorApply (.bank (16 * a) ws) = s.putSpan a ws := congrArg (s.putSpan · ws) hline
  obtain ⟨⟨m, p, hspan⟩, hkept⟩ := hmem
  rw [hspan] at happly hwords hkept
  have hd : d = s.mirrored seq (.bank (16 * a) ws) := by
    refine (Dev.mirFrame_standby seq hr (by simp)).trans (Dev.duoConfirm_none ?_)
    rw [Dev.mirrored, happly]
    exact he
  rw [hd, Dev.mirrored, happly]
  exact ⟨rfl, hwords, hkept⟩

end

/-! ## Frames of the input set that leave (R394) -/

section
variable (f : PljFrame)

theorem Dev.pljQueue_only (s : Dev) (p : Nat) : ∃ x, s.pljQueue p f = { s with plj := x } := by
  rw [Dev.pljQueue]
  split
  · exact ⟨_, rfl⟩
  · exact ⟨_, rfl⟩

/-- A frame joins the queue of a port that is UP and not of version 1. -/
theorem Dev.pljPort_pljQueue_same {s : Dev} {p : Nat} (hup : s.pljState p = portUp) (hv : s.pljV1 p = false) (hrun : s.halted = false) :
    ((s.pljQueue p f).pljPort p).queue = (s.pljPort p).queue ++ [f] := by
  have he : s.pljQueue p f = s.onPljPort p fun x => { x with queue := x.queue ++ [f] } := if_neg (by simp [hup, hv, hrun])
  have hport : ((s.onPljPort p fun x => { x with queue := x.queue ++ [f] }).pljPort p) =
      { s.pljPort p with queue := (s.pljPort p).queue ++ [f] } := tabGet_put_same PljPort.init s.plj.ports p _
  rw [he, hport]

theorem Dev.pljPort_pljQueue_other (s : Dev) {p q : Nat} (h : q ≠ p) : (s.pljQueue p f).pljPort q = s.pljPort q := by
  rw [Dev.pljQueue]
  split
  · rfl
  · exact tabGet_put_other PljPort.init PljPort.init s.plj.ports _ h

/-- A frame joins the queues of several ports. -/
def Dev.queueAll (s : Dev) (ps : List Nat) : Dev := ps.foldl (fun s p => s.pljQueue p f) s

theorem Dev.queueAll_only (ps : List Nat) : ∀ s : Dev, ∃ x, s.queueAll f ps = { s with plj := x } := by
  induction ps with
  | nil => exact fun s => ⟨_, rfl⟩
  | cons p ps ih =>
    intro s
    obtain ⟨x, hx⟩ := s.pljQueue_only f p
    obtain ⟨y, hy⟩ := ih { s with plj := x }
    exact ⟨y, by rw [Dev.queueAll, List.foldl_cons, hx]; exact hy⟩

theorem Dev.pljPort_queueAll_other {q : Nat} (ps : List Nat) : ∀ s : Dev, q ∉ ps → (s.queueAll f ps).pljPort q = s.pljPort q := by
  induction ps with
  | nil => exact fun _ _ => rfl
  | cons p ps ih =>
    intro s h
    rw [List.mem_cons, not_or] at h
    exact (ih (s.pljQueue p f) h.2).trans (s.pljPort_pljQueue_other f h.1)

theorem Dev.pljPort_queueAll {q : Nat} (ps : List Nat) : ∀ s : Dev, ps.Nodup → q ∈ ps → s.pljState q = portUp → s.pljV1 q = false →
    s.halted = false → ((s.queueAll f ps).pljPort q).queue = (s.pljPort q).queue ++ [f] := by
  induction ps with
  | nil => exact fun _ _ h => absurd h List.not_mem_nil
  | cons p ps ih =>
    intro s hnd hm hup hv hrun
    rw [List.nodup_cons] at hnd
    have hstep : s.queueAll f (p :: ps) = (s.pljQueue p f).queueAll f ps := rfl
    by_cases hq : q = p
    · subst hq
      rw [hstep, Dev.pljPort_queueAll_other f ps _ hnd.1, Dev.pljPort_pljQueue_same f hup hv hrun]
    · have hin : q ∈ ps := (List.mem_cons.1 hm).resolve_left hq
      obtain ⟨x, hx⟩ := s.pljQueue_only f p
      have hport := s.pljPort_pljQueue_other f hq
      rw [hstep]
      rw [hx] at hport ⊢
      rw [ih { s with plj := x } hnd.2 hin hup hv hrun, hport]

end

/-- A frame of the pair joins the queues of both links. -/
theorem Dev.pairFrame_eq (s : Dev) (body : List Word) : ∃ f : PljFrame, f.typ = ftRep ∧ f.body = body ∧
    s.pairFrame body = (s.nextFseq.1).queueAll f (pairPorts s) := ⟨_, rfl, rfl, rfl⟩

theorem Dev.pairFrame_only (s : Dev) (body : List Word) : ∃ x, s.pairFrame body = { s with plj := x } := by
  obtain ⟨f, -, -, he⟩ := s.pairFrame_eq body
  obtain ⟨x, hx⟩ := Dev.queueAll_only f (pairPorts s) s.nextFseq.1
  exact ⟨x, he.trans hx⟩

/-- A frame of the pair leaves on both links. -/
theorem Dev.pairFrame_queued (s : Dev) (hrun : s.halted = false) (body : List Word) (hnd : (pairPorts s).Nodup) :
    ∃ f : PljFrame, f.typ = ftRep ∧ f.body = body ∧ ∀ p ∈ pairPorts s, s.pljState p = portUp → s.pljV1 p = false →
      ((s.pairFrame body).pljPort p).queue = (s.pljPort p).queue ++ [f] := by
  obtain ⟨f, hf, hb, he⟩ := s.pairFrame_eq body
  rw [he]
  exact ⟨f, hf, hb, fun p hp hup hv => Dev.pljPort_queueAll f (pairPorts s) s.nextFseq.1 hnd hp hup hv hrun⟩

/-- The entries of a frame fill no more than its lines. -/
theorem takeLines_lines : ∀ (l : List DuoEntry) (n a : Nat), ((takeLines n l).1.map entryLines).foldl (· + ·) a ≤ a + n := by
  intro l
  induction l with
  | nil => exact fun n a => Nat.le_add_right a n
  | cons x l ih =>
    intro n a
    rw [takeLines]
    split
    · have h := ih (n - entryLines x) (a + entryLines x)
      simp only [List.map_cons, List.foldl_cons]
      omega
    · exact Nat.le_add_right a n

/-- Bit 24 above a smaller number. -/
theorem getLsbD_last {m : Nat} (last : Bool) (h : m < 2 ^ 24) : (BitVec.ofNat 32 (m + if last then 2 ^ 24 else 0)).getLsbD 24 = last := by
  rw [BitVec.getLsbD_ofNat]
  cases last with
  | false => simpa using Nat.testBit_lt_two_pow h
  | true =>
    rw [if_pos rfl, Nat.add_comm, Nat.testBit_two_pow_add_eq, Nat.testBit_lt_two_pow h]
    rfl

section
variable (s : Dev)

/-- What a frame of the input set that leaves changes, and where it goes. -/
def Dev.Sends (n : Nat) (xs : List DuoEntry) (last : Bool) (d : Dev) : Prop := d.duoSet = s.duoSet.filter (fun y => !xs.contains y) ∧
  d.duo = { s.duo with txEpoch := if last then n + 1 else n, txIdx := if last then 0 else s.duo.txIdx + 1 } ∧
  d = { s with duoSet := d.duoSet, duo := d.duo, plj := d.plj } ∧
  ((pairPorts s).Nodup → ∃ f : PljFrame, f.typ = ftRep ∧ f.body.getD 0 0 = BitVec.ofNat 32 n ∧ (f.body.getD 3 0).getLsbD 24 = last ∧
    f.body.drop 8 = xs.flatMap (entryWords (n * 10000)) ∧ ∀ p ∈ pairPorts s, s.pljState p = portUp → s.pljV1 p = false →
      (d.pljPort p).queue = (s.pljPort p).queue ++ [f])

/-- The words of a frame of the input set. -/
def Dev.inputSetBody (xs : List DuoEntry) (last hand : Bool) : List Word :=
  let k := s.duo.txEpoch
  let start := k * 10000
  let lines := (xs.map entryLines).foldl (· + ·) 2
  let dg := pairGet64 (k - 1) s.duo.digests
  [BitVec.ofNat 32 k, BitVec.ofNat 32 start, BitVec.ofNat 32 (start / 2 ^ 32),
   BitVec.ofNat 32 (lines + s.duo.txIdx % 256 * 65536 + (if last then 2 ^ 24 else 0) + (if hand then 2 ^ 25 else 0)),
   dg.setWidth 32, (dg >>> 32).setWidth 32, pairGet 0 k s.duo.msAt, 0] ++ xs.flatMap (entryWords start)

/-- The input set after a frame with entries `xs`. -/
def Dev.inputSetSent (xs : List DuoEntry) (last : Bool) (d : Dev) : Dev :=
  { d with
    duoSet := d.duoSet.filter (fun x => !xs.contains x),
    duo := { d.duo with txEpoch := if last then s.duo.txEpoch + 1 else s.duo.txEpoch, txIdx := if last then 0 else d.duo.txIdx + 1 } }

theorem Dev.sendInputSet_eq (xs : List DuoEntry) (last hand : Bool) :
    s.sendInputSet xs last hand = s.inputSetSent xs last (s.pairFrame (s.inputSetBody xs last hand)) := rfl

theorem Dev.sendInputSet_sends (hrun : s.halted = false) {xs : List DuoEntry} (last : Bool)
    (hx : (xs.map entryLines).foldl (· + ·) 2 ≤ 66) : s.Sends s.duo.txEpoch xs last (s.sendInputSet xs last false) := by
  obtain ⟨x, hframe⟩ := s.pairFrame_only (s.inputSetBody xs last false)
  have hports := s.pairFrame_queued hrun (s.inputSetBody xs last false)
  have hflag : ((s.inputSetBody xs last false).getD 3 0).getLsbD 24 = last := by
    have hidx : s.duo.txIdx % 256 < 256 := Nat.mod_lt _ (by decide)
    exact getLsbD_last last (m := (xs.map entryLines).foldl (· + ·) 2 + s.duo.txIdx % 256 * 65536) (by omega)
  rw [s.sendInputSet_eq]
  rw [hframe] at hports ⊢
  refine ⟨rfl, rfl, rfl, fun hnd => ?_⟩
  obtain ⟨f, hf, hb, hq⟩ := hports hnd
  exact ⟨f, hf, by rw [hb]; rfl, by rw [hb]; exact hflag, by rw [hb]; rfl, hq⟩

/-- The entries of the frame that is due, and the entries of its epoch that are left. -/
def Dev.inputSetCut : List DuoEntry × List DuoEntry := takeLines 64 (s.duoSet.filter fun y => epochAt y.ts == s.duo.txEpoch)

/-- The frame is full. -/
def Dev.CutFull : Prop := (s.inputSetCut.1.map entryLines).foldl (· + ·) 0 = 64 ∨ s.inputSetCut.2 ≠ []

/-- Its first entry has waited for 2 µs. -/
def Dev.CutOld : Prop := ∃ y ys, s.inputSetCut.1 = y :: ys ∧ y.ts.toNat + 2000 ≤ s.ts.toNat

theorem Dev.inputSetFrame_idle {s : Dev} (h : s.syncedAs 1 = false) : s.inputSetFrame = s := if_pos (by rw [h]; rfl)

variable {s}

theorem Dev.inputSetFrame_eq (h : s.syncedAs 1 = true) :
    (s.duo.txEpoch < s.duo.cur → s.inputSetFrame = s.sendInputSet s.inputSetCut.1 s.inputSetCut.2.isEmpty false) ∧
    (s.duo.cur ≤ s.duo.txEpoch → (s.CutFull ∨ s.CutOld → s.inputSetFrame = s.sendInputSet s.inputSetCut.1 false false) ∧
      (¬(s.CutFull ∨ s.CutOld) → s.inputSetFrame = s)) := by
  rw [Dev.inputSetFrame, if_neg (by rw [h]; exact Bool.false_ne_true), Dev.CutFull, Dev.CutOld]
  dsimp only
  rw [show takeLines 64 (s.duoSet.filter fun y => epochAt y.ts == s.duo.txEpoch) = s.inputSetCut from rfl]
  generalize s.inputSetCut = cut
  obtain ⟨xs, rest⟩ := cut
  refine ⟨fun hk => if_pos hk, fun hk => ⟨fun hdue => ?_, fun hdue => ?_⟩⟩
  · refine (if_neg (Nat.not_lt.2 hk)).trans (if_pos ?_)
    cases xs with
    | nil => simpa using hdue
    | cons y ys => simpa [or_assoc] using hdue
  · refine (if_neg (Nat.not_lt.2 hk)).trans (if_neg fun hc => hdue ?_)
    cases xs with
    | nil => simpa using hc
    | cons y ys => simpa [or_assoc] using hc

/-- The frame of the input set that is due leaves. -/
theorem Dev.inputSetFrame_spec (hrun : s.halted = false) (h : s.syncedAs 1 = true) :
    (s.duo.txEpoch < s.duo.cur → s.Sends s.duo.txEpoch s.inputSetCut.1 s.inputSetCut.2.isEmpty s.inputSetFrame) ∧
    (s.duo.cur ≤ s.duo.txEpoch → s.CutFull ∨ s.CutOld → s.Sends s.duo.txEpoch s.inputSetCut.1 false s.inputSetFrame) ∧
    (s.duo.cur ≤ s.duo.txEpoch → ¬(s.CutFull ∨ s.CutOld) → s.inputSetFrame = s) := by
  obtain ⟨hended, hopen⟩ := Dev.inputSetFrame_eq h
  have hlines : (s.inputSetCut.1.map entryLines).foldl (· + ·) 2 ≤ 66 := takeLines_lines _ 64 2
  refine ⟨fun hk => ?_, fun hk hdue => ?_, fun hk hdue => (hopen hk).2 hdue⟩
  · rw [hended hk]
    exact s.sendInputSet_sends hrun _ hlines
  · rw [(hopen hk).1 hdue]
    exact s.sendInputSet_sends hrun _ hlines

end

/-! ## A standby that is late (R395, R404) -/

theorem Dev.duoLate_spec (s : Dev) : s.duoLate.IsOut dcLate ∧ s.DuoRecorded s.duoLate ∧
    s.RegsKept s.duoLate [A.DUO_STAT, A.DUO_ERRCNT] ∧
    s.duoLate.get A.DUO_ERRCNT F.DUO_ERRCNT_LATE = min (s.get A.DUO_ERRCNT F.DUO_ERRCNT_LATE + 1) 255 := by
  have hkept := s.duoOut_regsKept dcLate
  have hcount : s.duoLate.get A.DUO_ERRCNT F.DUO_ERRCNT_LATE = min ((s.duoOut dcLate).get A.DUO_ERRCNT F.DUO_ERRCNT_LATE + 1) 255 :=
    Dev.get_count_same _ _ _ 1 rfl
  refine ⟨(s.duoOut_isOut (by decide)).of_kept (Dev.reg_set_other _ _ _ (by decide)) rfl rfl rfl, Dev.duoRecorded_offer _ rfl,
    (hkept.mono (by simp)).set _ _ (by simp), hcount.trans ?_⟩
  rw [hkept.get _ (by decide)]

/-! ## Frames of the input set that arrive (R394, R395) -/

section
variable (s : Dev) (body : List Word)

/-- The first instant, the key and the entries of a frame. -/
def frameStart : Dbl := body.getD 2 0 ++ body.getD 1 0
def frameKey : Nat × Nat := (epochAt (frameStart body), bitsOf (body.getD 3 0) 23 16)
def frameEntries : List DuoEntry := entriesOf (frameStart body).toNat body.length (body.drop 8)

theorem Dev.duoJournal_frame : ∃ m p j, s.duoJournal body = { s with mem := m, pool := p, duo := { s.duo with jpos := j } } := by
  have h : ∃ m p, (s.each ((body.length + 3) / 4) fun y i =>
      y.putLine (lineOf (bankBase (s.get A.DUO_JCFG F.DUO_JCFG_JBANK)) + (s.duo.jpos + i) % 32768)
        ((upto 4).flatMap fun j => wordBytes (body.getD (4 * i + j) 0))) = { s with mem := m, pool := p } := by
    refine foldl_keeps (fun d : Dev => ∃ m p, d = { s with mem := m, pool := p }) _ _ s (fun d i _ hd => ?_) ⟨_, _, rfl⟩
    obtain ⟨m, p, rfl⟩ := hd
    obtain ⟨⟨m', p', h⟩, -⟩ := Dev.putLine_memOnly { s with mem := m, pool := p }
      (lineOf (bankBase (s.get A.DUO_JCFG F.DUO_JCFG_JBANK)) + (s.duo.jpos + i) % 32768) _ (wordLine_length body i)
    exact ⟨m', p', h⟩
  obtain ⟨m, p, h⟩ := h
  exact ⟨m, p, (s.duo.jpos + (body.length + 3) / 4) % 32768, by rw [Dev.duoJournal]; dsimp only; rw [h]; rfl⟩

/-- What a frame leaves in the member's own state: its entries wait. -/
def Duo.framed (d : Duo) : Duo :=
  let k := epochAt (frameStart body)
  let w3 := body.getD 3 0
  let xs := frameEntries body
  let last := w3.getLsbD 24
  let ends := xs.foldl (fun c x => max c x.ts.toNat) d.cover
  { d with
    taken := d.taken ++ [frameKey body], inbox := xs.foldl (fun l x => insEntry x l) d.inbox,
    msAt := ((k, body.getD 6 0) :: d.msAt.filter (fun p => p.1 != k)).take 10, cover := if last then max ends ((k + 1) * 10000) else ends,
    digestIn := if last then d.digestIn ++ [(k - 1, body.getD 5 0 ++ body.getD 4 0)] else d.digestIn,
    endsIn := if last then d.endsIn ++ [(k, body.getD 6 0)] else d.endsIn,
    handover := if last && w3.getLsbD 25 then some k else d.handover }

/-- The journal has the frame and its entries wait. -/
def Dev.framed : Dev := ((s.duoJournal body).onDuo (Duo.framed body)).set A.DUO_STAT F.DUO_STAT_DRY 0

/-- An entry of the frame is due. -/
def Dev.FrameLate : Prop := ∃ y ∈ frameEntries body, y.ts.toNat + s.lagNs < s.ts.toNat

theorem Dev.framed_spec : s.RegsKept (s.framed body) [A.DUO_STAT] ∧ (s.framed body).bit A.DUO_STAT F.DUO_STAT_DRY = false ∧
    frameKey body ∈ (s.framed body).duo.taken ∧
    (s.framed body).duo.inbox = (frameEntries body).foldl (fun l y => insEntry y l) s.duo.inbox ∧
    s.framed body = { s with
      regs := (s.framed body).regs
      mem := (s.framed body).mem
      pool := (s.framed body).pool
      duo := (s.framed body).duo } := by
  obtain ⟨m, p, j, h⟩ := s.duoJournal_frame body
  rw [Dev.framed, h]
  exact ⟨((Dev.RegsAt.refl s _).set _ _ (.head _) : Dev.RegsAt _ _ [A.DUO_STAT]).2, Dev.bit_setBit_same _ _ _ false rfl,
    List.mem_append_right _ (List.mem_singleton_self _), rfl, rfl⟩

theorem Dev.inputSetIn_taken {s : Dev} (hkey : frameKey body ∈ s.duo.taken) : s.inputSetIn body = s :=
  if_pos (by rw [Bool.or_eq_true, List.contains_iff_mem]; exact .inr hkey)

theorem Dev.inputSetIn_eq {s : Dev} (hsync : s.syncedAs 2 = true) (hkey : frameKey body ∉ s.duo.taken) :
    s.inputSetIn body = if (frameEntries body).any fun x => decide (x.ts.toNat + (s.framed body).lagNs < (s.framed body).ts.toNat)
      then (s.framed body).duoLate else (s.framed body).duoConfirm := by
  refine if_neg ?_
  rw [Bool.or_eq_true, List.contains_iff_mem, hsync]
  exact fun h => h.elim (by simp) hkey

/-- A frame is taken once; one that comes too late takes the standby out, another one waits for its replay. -/
theorem Dev.inputSetIn_spec {s : Dev} (hsync : s.syncedAs 2 = true) (hkey : frameKey body ∉ s.duo.taken) :
    let d := s.inputSetIn body
    (s.FrameLate body → d.IsOut dcLate ∧ s.DuoRecorded d ∧ s.RegsKept d [A.DUO_STAT, A.DUO_ERRCNT] ∧
      d.get A.DUO_ERRCNT F.DUO_ERRCNT_LATE = min (s.get A.DUO_ERRCNT F.DUO_ERRCNT_LATE + 1) 255) ∧
    (¬s.FrameLate body → frameKey body ∈ d.duo.taken ∧ d.duo.inbox = (frameEntries body).foldl (fun l y => insEntry y l) s.duo.inbox ∧
      s.RegsKept d [A.DUO_STAT] ∧ d.bit A.DUO_STAT F.DUO_STAT_DRY = false ∧
      d = { s with regs := d.regs, mem := d.mem, pool := d.pool, sent := d.sent, duo := d.duo }) := by
  intro d
  have hd : d = _ := Dev.inputSetIn_eq body hsync hkey
  obtain ⟨hkept, hdry, htaken, hinbox, hframe⟩ := s.framed_spec body
  have hlag : (s.framed body).lagNs = s.lagNs := congrArg (· * 1000) (hkept.get _ (by decide))
  have hts : (s.framed body).ts = s.ts := by rw [hframe]; rfl
  have hscribe : (s.framed body).scribe = s.scribe := by rw [hframe]
  have hiff : ((frameEntries body).any fun x => decide (x.ts.toNat + s.lagNs < s.ts.toNat)) = true ↔ s.FrameLate body := by
    rw [List.any_eq_true, Dev.FrameLate]
    simp only [decide_eq_true_eq]
  rw [hlag, hts] at hd
  generalize s.framed body = y at *
  refine ⟨fun hl => ?_, fun hl => ?_⟩
  · rw [if_pos (hiff.2 hl)] at hd
    obtain ⟨hout, ⟨o, ho, hrec⟩, hregs, hcount⟩ := y.duoLate_spec
    rw [hd]
    refine ⟨hout, ⟨o, ho, by rw [hrec, hscribe]⟩, (hkept.mono (by simp)).trans hregs, hcount.trans ?_⟩
    rw [hkept.get _ (by decide)]
  · rw [if_neg (mt hiff.1 hl)] at hd
    obtain ⟨l, x, hc⟩ := y.duoConfirm_frame
    rw [hc] at hd
    rw [hd]
    refine ⟨htaken, hinbox, hkept, hdry, ?_⟩
    exact congrArg (fun z : Dev => { z with duo := { y.duo with endsIn := l }, sent := x }) hframe

/-- A frame of the input set on a pair link. -/
theorem Dev.pljFrameIn_pair {s : Dev} {p : Nat} {h1 : Word} (hup : s.pljState p = portUp) (hrole : s.pljRole p = rolePair)
    (hhalf : bitsOf h1 31 16 = 1) (h0 h2 h3 : Word) : s.pljFrameIn p ⟨ftRep, [h0, h1, h2, h3], body⟩ = s.inputSetIn body := by
  have hf : PljFrame.half ⟨ftRep, [h0, h1, h2, h3], body⟩ = 1 := hhalf
  rw [Dev.pljFrameIn, if_neg (by simp [hup]), if_neg (by rw [hrole]; decide), if_pos (by simp [hrole, hf])]

end

/-! ## The replay of an entry (R393, R395) -/

theorem Dev.duoJudgeAll_none {s : Dev} (h : s.duo.digestIn = []) : s.duoJudgeAll = s := by rw [Dev.duoJudgeAll, h]; rfl

section
variable {s : Dev} {y : DuoEntry} {rest : List DuoEntry}

theorem Dev.replayEntry_idle (h : s.duo.inbox = [] ∨ s.syncedAs 2 = false) : s.replayEntry = s := by
  rw [Dev.replayEntry]
  split
  · rfl
  · next x rest hx =>
    refine if_pos ?_
    rw [h.resolve_left (by rw [hx]; exact List.cons_ne_nil _ _)]
    rfl

variable (hin : s.duo.inbox = y :: rest) (hsync : s.syncedAs 2 = true)
include hin

theorem Dev.replayEntry_waits (hts : s.ts.toNat < y.ts.toNat + s.lagNs) : s.replayEntry = s := by
  rw [Dev.replayEntry, hin]
  exact if_pos (by simp [hts])

include hsync

theorem Dev.replayEntry_due (hts : y.ts.toNat + s.lagNs ≤ s.ts.toNat) : s.replayEntry =
    if s.mirrorBehind y then s.duoLate else ((s.onDuo fun d => { d with inbox := rest }).applyEntry y).duoJudgeAll := by
  rw [Dev.replayEntry, hin]
  exact if_neg (by simp [hsync, Nat.not_lt.2 hts])

end

/-- The device on which an entry takes effect. -/
def Dev.replaying (s : Dev) (rest : List DuoEntry) (y : DuoEntry) : Dev :=
  { s with time := { s.time with ts := y.ts }, duo := { s.duo with inbox := rest, replay := true } }

/-- The device after it. -/
def Dev.replayed (s d : Dev) : Dev := { d with time := { d.time with ts := s.ts }, bus := s.bus, duo := { d.duo with replay := false } }

theorem Dev.applyEntry_eq (s : Dev) (rest : List DuoEntry) (y : DuoEntry) :
    (s.onDuo fun d => { d with inbox := rest }).applyEntry y = s.replayed ((s.replaying rest y).entryEffect y) := rfl

section
variable {s : Dev} {y : DuoEntry} {rest : List DuoEntry} (hin : s.duo.inbox = y :: rest) (hsync : s.syncedAs 2 = true)
  (hts : y.ts.toNat + s.lagNs ≤ s.ts.toNat)
include hin hsync hts

/-- An entry other than a WRITE takes effect. -/
theorem Dev.replayEntry_effect (hk : y.kind ≠ 5) {d : Dev} (hd : (s.replaying rest y).entryEffect y = d) (hdig : d.duo.digestIn = []) :
    s.replayEntry = s.replayed d := by
  have hb : s.mirrorBehind y = false := by rw [Dev.mirrorBehind, beq_false_of_ne hk, Bool.false_and]
  rw [Dev.replayEntry_due hin hsync hts, if_neg (by rw [hb]; exact Bool.false_ne_true), s.applyEntry_eq, hd]
  exact Dev.duoJudgeAll_none hdig

omit hin hsync hts in
theorem Dev.entryEffect_point (hk : y.kind = 1) : s.entryEffect y = s.replayPoint y := by
  rw [Dev.entryEffect, hk]
  rfl

omit hin hsync hts in
theorem Dev.entryEffect_notice (hk : y.kind = 4) : s.entryEffect y = s.replayNotice y := by
  rw [Dev.entryEffect, hk]
  rfl

/-- A POINT of no converter and no input is stored. -/
theorem Dev.replayEntry_point (hdig : s.duo.digestIn = []) (hk : y.kind = 1) (h10 : hclass y.id ≠ 0x10) (h18 : hclass y.id ≠ 0x18)
    (hu : s.Unwatched y.id) : s.replayEntry.point y.id = ⟨y.value, y.data.getLsbD 31⟩ ∧
      (∀ h, h ≠ y.id → s.replayEntry.point h = s.point h) ∧
      s.replayEntry = { s with
        points := s.replayEntry.points
        wrote := s.replayEntry.wrote
        duo := { s.duo with inbox := rest, replay := false } } := by
  have hun : ((s.replaying rest y).storePoint y.id ⟨y.value, y.data.getLsbD 31⟩).Unwatched y.id :=
    hu.of_kept (as := []) rfl rfl (fun _ _ => rfl) (fun _ => List.not_mem_nil)
  have hd : (s.replaying rest y).entryEffect y = (s.replaying rest y).storePoint y.id ⟨y.value, y.data.getLsbD 31⟩ := by
    refine Eq.trans ?_ (Dev.feedbackUpdate_unwatched (p := ⟨y.value, y.data.getLsbD 31⟩) hun)
    rw [Dev.entryEffect_point hk, Dev.replayPoint]
    dsimp only
    rw [if_neg h10, if_neg h18]
  rw [Dev.replayEntry_effect hin hsync hts (by rw [hk]; decide) hd hdig]
  exact ⟨Dev.point_storePoint_same _ _ _, fun h hh => Dev.point_storePoint_other _ _ hh, rfl⟩

/-- A value for PRD waits at its engine. -/
theorem Dev.replayEntry_prd (hdig : s.duo.digestIn = []) (hk : y.kind = 9) :
    s.replayEntry = { s with duo := { s.duo with inbox := rest, replay := false, prd := s.replayEntry.duo.prd } } ∧
      tabGet [] s.replayEntry.duo.prd (y.id.toNat % 8) = tabGet [] s.duo.prd (y.id.toNat % 8) ++ [(y.value, y.data.getLsbD 0)] := by
  have hd : (s.replaying rest y).entryEffect y = (s.replaying rest y).onDuo fun d => { d with
      prd := tabPut [] d.prd (y.id.toNat % 8) (tabGet [] d.prd (y.id.toNat % 8) ++ [(y.value, y.data.getLsbD 0)]) } := by
    rw [Dev.entryEffect, hk]
    rfl
  rw [Dev.replayEntry_effect hin hsync hts (by rw [hk]; decide) hd hdig]
  exact ⟨rfl, tabGet_put_same ..⟩

end

/-! ## A notice of the input set (R393, R417) -/

/-- Mailboxes and the member's own state are unchanged. -/
def Dev.SameBoxes (s d : Dev) : Prop := d.mbx = s.mbx ∧ d.duo = s.duo

theorem Dev.SameBoxes.addEvent (s : Dev) (e t : Nat) : s.SameBoxes (s.addEvent e t) := by
  rw [Dev.addEvent]
  split
  · exact ⟨rfl, rfl⟩
  dsimp only
  split
  · exact ⟨rfl, rfl⟩
  · exact ⟨rfl, rfl⟩

theorem Dev.SameBoxes.taskEventOn (s : Dev) (es : List Nat) (cls idx : Nat) : s.SameBoxes (s.taskEventOn es cls idx) := by
  refine foldl_keeps s.SameBoxes _ es s (fun d e _ hd => ?_) ⟨rfl, rfl⟩
  refine foldl_keeps s.SameBoxes _ _ d (fun d t _ hd => ?_) hd
  have hevent : d.SameBoxes (d.eventFor e t cls idx) := by
    rw [Dev.eventFor]
    split
    · exact .addEvent d e t
    · exact ⟨rfl, rfl⟩
  exact ⟨hevent.1.trans hd.1, hevent.2.trans hd.2⟩

theorem Dev.SameBoxes.msix (s : Dev) (m : Nat) : s.SameBoxes (s.msix m) := by
  rw [Dev.msix]
  split
  · exact ⟨rfl, rfl⟩
  · exact ⟨rfl, rfl⟩

/-- A notice enters the queue of an end. -/
theorem Dev.enterQueue_spec (s : Dev) (m e : Nat) (x : Notice) :
    ((s.enterQueue m e x).mend m e).queue = (s.mend m e).queue ++ [x] ∧ (s.enterQueue m e x).duo = s.duo := by
  have hmend : (s.onMend m e fun d => { d with queue := d.queue ++ [x] }).mend m e = { s.mend m e with queue := (s.mend m e).queue ++ [x] } :=
    tabGet_put_same MbxEnd.init s.mbx (m * 2 + e) _
  have hsame : (s.onMend m e fun d => { d with queue := d.queue ++ [x] }).SameBoxes (s.enterQueue m e x) := by
    rw [Dev.enterQueue]
    split
    · exact .msix _ m
    split
    · exact .taskEventOn _ _ _ _
    · exact ⟨rfl, rfl⟩
  refine ⟨?_, hsame.2⟩
  rw [Dev.mend, hsame.1]
  exact congrArg MbxEnd.queue hmend

theorem Dev.output_duoOuts (s : Dev) (unit : Nat) (ws : List Word) : ∃ l, s.output unit ws = { s with duoOuts := l } := by
  rw [Dev.output]
  split
  · exact ⟨_, rfl⟩
  · exact ⟨_, rfl⟩

/-- A NOTICE of the input set enters the queue of the other end. -/
theorem Dev.replayEntry_notice {s : Dev} {y : DuoEntry} {rest : List DuoEntry} (hin : s.duo.inbox = y :: rest)
    (hsync : s.syncedAs 2 = true) (hts : y.ts.toNat + s.lagNs ≤ s.ts.toNat) (hdig : s.duo.digestIn = []) (hk : y.kind = 4) {e : Nat}
    (hend : s.endOf (y.id.toNat % 64) (bitsOf y.data 7 0) = some e) (hj : s.journaled (y.id.toNat % 64) e = false) :
    (s.replayEntry.mend (y.id.toNat % 64) (1 - e)).queue = (s.mend (y.id.toNat % 64) (1 - e)).queue ++
      [⟨y.extra.getD 1 0 ++ y.extra.getD 0 0, y.value, y.data, s.ticks⟩] := by
  obtain ⟨z, hz, hd⟩ : ∃ z : Dev, (∃ l, z = { s.replaying rest y with duoOuts := l }) ∧ (s.replaying rest y).entryEffect y =
      z.enterQueue (y.id.toNat % 64) (1 - e) ⟨y.extra.getD 1 0 ++ y.extra.getD 0 0, y.value, y.data, s.ticks⟩ := by
    have hend' : (s.replaying rest y).endOf (y.id.toNat % 64) (bitsOf y.data 7 0) = some e := hend
    obtain ⟨l, hl⟩ := (s.replaying rest y).output_duoOuts 0x32
      [BitVec.ofNat 32 (y.id.toNat % 64), y.value, y.data, y.extra.getD 0 0, y.extra.getD 1 0]
    have hj' : ({ s.replaying rest y with duoOuts := l } : Dev).journaled (y.id.toNat % 64) e = false := hj
    refine ⟨_, ⟨l, rfl⟩, ?_⟩
    rw [Dev.entryEffect_notice hk, Dev.replayNotice]
    dsimp only
    rw [hend', hl]
    exact if_neg (by rw [hj']; exact Bool.false_ne_true)
  obtain ⟨l, rfl⟩ := hz
  obtain ⟨hq, hduo⟩ := Dev.enterQueue_spec { s.replaying rest y with duoOuts := l } (y.id.toNat % 64) (1 - e)
    ⟨y.extra.getD 1 0 ++ y.extra.getD 0 0, y.value, y.data, s.ticks⟩
  rw [Dev.replayEntry_effect hin hsync hts (by rw [hk]; decide) hd (by rw [hduo]; exact hdig)]
  exact hq

/-! ## An epoch boundary (R393, R401, R402, R407, R409) -/

/-- The epoch under way at an epoch boundary. -/
def Dev.epochEntered (s : Dev) : Dev := s.onDuo fun d => { d with cur := epochAt s.ts }

/-- A member that collects ends its epoch and hands over when it is asked to. -/
def Dev.epochClosed (s : Dev) (was : Nat) : Dev :=
  let s := if s.syncedAs 1 then s.duoEnded was else s
  if s.syncedAs 1 && s.duo.switch then s.duoHandOver else s

/-- What a boundary judges, hands over and ends, once SYNCED is entered. -/
def Dev.epochTail (s : Dev) : Dev := (s.duoJudgeAll.duoHanded).duoCollects

theorem Dev.epochStart_idle {s : Dev} (h : s.duoOn = false ∨ epochAt s.ts = s.duo.cur) : s.epochStart = s := by
  refine if_pos ?_
  rw [Bool.or_eq_true, Bool.not_eq_true', decide_eq_true_eq]
  exact h

theorem Dev.epochStart_eq {s : Dev} (hon : s.duoOn = true) (hk : epochAt s.ts ≠ s.duo.cur) : s.epochStart =
    (if (s.epochEntered.epochClosed s.duo.cur).duo.syncNext then (s.epochEntered.epochClosed s.duo.cur).duoEnter (epochAt s.ts)
      else s.epochEntered.epochClosed s.duo.cur).epochTail := by
  refine if_neg ?_
  rw [Bool.or_eq_true, Bool.not_eq_true', decide_eq_true_eq, hon]
  exact fun h => h.elim (by simp) hk

/-! ### Judging, handing over, collecting -/

section
variable {s : Dev}

theorem Dev.duoJudgeAll_idle (h : s.syncedAs 2 = false) : s.duoJudgeAll = s := by
  refine foldl_keeps (· = s) _ _ s (fun d p _ hd => ?_) rfl
  subst hd
  exact if_neg (by rw [h]; exact Bool.false_ne_true)

theorem Dev.duoHanded_idle (h : s.syncedAs 2 = false) : s.duoHanded = s := by
  rw [Dev.duoHanded]
  split
  · exact if_neg (by rw [h]; exact Bool.false_ne_true)
  · rfl

theorem Dev.duoHanded_none (h : s.duo.handover = none) : s.duoHanded = s := by rw [Dev.duoHanded, h]

theorem Dev.duoCollects_none (h : s.duo.takeover = none) : s.duoCollects = s := by rw [Dev.duoCollects, h]

theorem Dev.duoCollects_some {t : Nat} (h : s.duo.takeover = some t) : s.duoCollects = if t ≤ s.ticks then
    (s.onDuo fun d => { d with takeover := none }).set A.DUO_GAP F.DUO_GAP_GAP (min ((s.ts.toNat - s.duo.cover) / 1000) 65535)
    else s := by rw [Dev.duoCollects, h]

/-- A member that replays nothing. -/
theorem Dev.epochTail_idle (h : s.syncedAs 2 = false) : s.epochTail = s.duoCollects := by
  rw [Dev.epochTail, Dev.duoJudgeAll_idle h, Dev.duoHanded_idle h]

end

/-! ### The epoch under way -/

theorem Dev.flushHandover_frame (n : Nat) : ∀ s : Dev, ∃ q x e i, s.flushHandover n =
    { s with duoSet := q, plj := x, duo := { s.duo with txEpoch := e, txIdx := i } } := by
  induction n with
  | zero => exact fun s => ⟨_, _, _, _, rfl⟩
  | succ n ih =>
    intro s
    have hsend (xs : List DuoEntry) (last hand : Bool) : ∃ q x e i, s.sendInputSet xs last hand =
        { s with duoSet := q, plj := x, duo := { s.duo with txEpoch := e, txIdx := i } } := by
      obtain ⟨x, hx⟩ := s.pairFrame_only (s.inputSetBody xs last hand)
      exact ⟨_, x, _, _, (s.sendInputSet_eq xs last hand).trans (congrArg (s.inputSetSent xs last) hx)⟩
    rw [Dev.flushHandover]
    dsimp only
    split
    · exact hsend _ _ _
    · generalize takeLines 64 _ = cut
      obtain ⟨q, x, e, i, h⟩ := hsend cut.1 cut.2.isEmpty false
      rw [h]
      obtain ⟨q', x', e', i', h'⟩ := ih { s with duoSet := q, plj := x, duo := { s.duo with txEpoch := e, txIdx := i } }
      exact ⟨q', x', e', i', h'⟩

theorem Dev.cur_duoHandOver (s : Dev) : s.duoHandOver.duo.cur = s.duo.cur := by
  obtain ⟨q, x, e, i, h⟩ := Dev.flushHandover_frame 512 s
  rw [Dev.duoHandOver, h]
  rfl

theorem Dev.cur_epochClosed (s : Dev) (was : Nat) : (s.epochClosed was).duo.cur = s.duo.cur := by
  have hended : (if s.syncedAs 1 then s.duoEnded was else s).duo.cur = s.duo.cur := by
    split
    · rfl
    · rfl
  rw [Dev.epochClosed]
  generalize (if s.syncedAs 1 then s.duoEnded was else s) = y at *
  split
  · exact (Dev.cur_duoHandOver _).trans hended
  · exact hended

theorem Dev.cur_duoJudge (s : Dev) (k : Nat) (d : Dbl) : (s.duoJudge k d).duo.cur = s.duo.cur := by
  rw [Dev.duoJudge]
  split
  · rfl
  · rfl

theorem Dev.cur_duoJudgeAll (s : Dev) : s.duoJudgeAll.duo.cur = s.duo.cur := by
  refine foldl_keeps (fun d : Dev => d.duo.cur = s.duo.cur) _ _ s (fun d p _ hd => ?_) rfl
  split
  · exact (d.cur_duoJudge _ _).trans hd
  · exact hd

theorem Dev.cur_duoHanded (s : Dev) : s.duoHanded.duo.cur = s.duo.cur := by
  rw [Dev.duoHanded]
  split
  · split
    · obtain ⟨-, -, -, -, h⟩ := s.duoTakeover_spec (cause := dcHandover) (tko := 0) (by decide) (by decide)
      rw [h]
      rfl
    · rfl
  · rfl

theorem Dev.cur_duoCollects (s : Dev) : s.duoCollects.duo.cur = s.duo.cur := by
  rw [Dev.duoCollects]
  split
  · split
    · rfl
    · rfl
  · rfl

/-- After a boundary the epoch under way is the one of this tick. -/
theorem Dev.cur_epochStart {s : Dev} (hon : s.duoOn = true) (hk : epochAt s.ts ≠ s.duo.cur) : s.epochStart.duo.cur = epochAt s.ts := by
  have hclosed : (s.epochEntered.epochClosed s.duo.cur).duo.cur = epochAt s.ts := s.epochEntered.cur_epochClosed s.duo.cur
  rw [Dev.epochStart_eq hon hk, Dev.epochTail, Dev.cur_duoCollects, Dev.cur_duoHanded, Dev.cur_duoJudgeAll]
  split
  · rfl
  · exact hclosed

/-! ### A member out of the pair, one that enters it, and one that has taken over -/

section
variable {s : Dev} (hon : s.duoOn = true) (hk : epochAt s.ts ≠ s.duo.cur)

theorem Dev.epochClosed_idle {was : Nat} (h : s.syncedAs 1 = false) : s.epochClosed was = s := by
  have hended : (if s.syncedAs 1 then s.duoEnded was else s) = s := if_neg (by rw [h]; exact Bool.false_ne_true)
  rw [Dev.epochClosed, hended]
  exact if_neg (by rw [h]; exact Bool.false_ne_true)

include hon hk

/-- A member that does not collect and does not enter SYNCED. -/
theorem Dev.epochStart_apart (h : s.syncedAs 1 = false) (hnext : s.duo.syncNext = false) : s.epochStart = s.epochEntered.epochTail := by
  have hclosed : s.epochEntered.epochClosed s.duo.cur = s.epochEntered := Dev.epochClosed_idle h
  rw [Dev.epochStart_eq hon hk, hclosed]
  exact congrArg Dev.epochTail (if_neg (by rw [show s.epochEntered.duo.syncNext = false from hnext]; exact Bool.false_ne_true))

theorem Dev.epochStart_out (hsync : s.duoSync ≠ dsSynced) (hnext : s.duo.syncNext = false) :
    s.epochStart = s.epochEntered.duoCollects := by
  rw [Dev.epochStart_apart hon hk (Dev.syncedAs_false_of_sync hsync) hnext]
  exact Dev.epochTail_idle (Dev.syncedAs_false_of_sync hsync)

/-- SYNCED is entered. -/
theorem Dev.epochStart_enters (hsync : s.duoSync ≠ dsSynced) (hnext : s.duo.syncNext = true) (ht : s.duo.takeover = none) :
    s.epochStart = s.epochEntered.duoEnter (epochAt s.ts) := by
  have hclosed : s.epochEntered.epochClosed s.duo.cur = s.epochEntered := Dev.epochClosed_idle (Dev.syncedAs_false_of_sync hsync)
  have hentered : s.epochEntered.duo.syncNext = true := hnext
  rw [Dev.epochStart_eq hon hk, hclosed, if_pos hentered, Dev.epochTail, Dev.duoJudgeAll_none rfl, Dev.duoHanded_none rfl]
  exact Dev.duoCollects_none ht

end

theorem Dev.duoEnter_spec (s : Dev) (k : Nat) : (s.duoEnter k).duoSync = dsSynced ∧ (s.duoEnter k).duoRole = s.duoRole ∧
    s.RegsKept (s.duoEnter k) [A.DUO_STAT] ∧ s.duoEnter k = { s with
      regs := (s.duoEnter k).regs
      duoSet := []
      duoOuts := []
      duoRel := BitVec.ofNat 32 (k - 1)
      duo := (s.duoEnter k).duo } :=
  ⟨(Dev.duoSync_set_high _ _ _ rfl (by decide)).trans (s.duoSync_setSync (by decide)),
    (Dev.duoRole_set_high _ _ _ rfl (by decide)).trans (s.duoRole_setSync _),
    (((Dev.RegsAt.refl s _).set _ _ (.head _)).set _ _ (.head _) : Dev.RegsAt _ _ [A.DUO_STAT]).2, rfl⟩

/-! ### A primary's epoch ends -/

theorem Dev.duoEnded_kept (s : Dev) (k : Nat) : s.RegsKept (s.duoEnded k) [A.DUO_EPOCH] :=
  ((Dev.RegsAt.refl s _).setReg _ (.head _) : Dev.RegsAt _ _ [A.DUO_EPOCH]).2

/-- The pair state and the role as DUO_STAT shows them. -/
theorem Dev.syncedAs_of_reg {s d : Dev} (h : d.reg A.DUO_STAT = s.reg A.DUO_STAT) (role : Nat) : d.syncedAs role = s.syncedAs role := by
  rw [Dev.syncedAs, h, Dev.syncedAs]

section
variable {s : Dev} (hon : s.duoOn = true) (hk : epochAt s.ts ≠ s.duo.cur) (hsync : s.syncedAs 1 = true)

/-- The primary whose epoch has ended. -/
def Dev.epochOver (s : Dev) : Dev := s.epochEntered.duoEnded s.duo.cur

include hsync

theorem Dev.epochClosed_synced : s.epochEntered.epochClosed s.duo.cur = if s.duo.switch then s.epochOver.duoHandOver else s.epochOver := by
  have hended : (if s.epochEntered.syncedAs 1 then s.epochEntered.duoEnded s.duo.cur else s.epochEntered) = s.epochOver := if_pos hsync
  have hover : s.epochOver.syncedAs 1 = true :=
    (Dev.syncedAs_of_reg ((s.epochEntered.duoEnded_kept s.duo.cur) _ (by decide)) 1).trans hsync
  rw [Dev.epochClosed, hended]
  rw [hover, Bool.true_and]
  rfl

include hon hk

theorem Dev.epochStart_ends (hnext : s.duo.syncNext = false) (ht : s.duo.takeover = none) (hsw : s.duo.switch = false) :
    s.epochStart = s.epochOver := by
  have hclosed := Dev.epochClosed_synced hsync
  rw [if_neg (by rw [hsw]; exact Bool.false_ne_true)] at hclosed
  have hother : s.epochOver.syncedAs 2 = false :=
    (Dev.syncedAs_of_reg ((s.epochEntered.duoEnded_kept s.duo.cur) _ (by decide)) 2).trans
      (Dev.syncedAs_false_of_other hsync (by decide))
  rw [Dev.epochStart_eq hon hk, hclosed, if_neg (by rw [show s.epochOver.duo.syncNext = false from hnext]; exact Bool.false_ne_true),
    Dev.epochTail_idle hother]
  exact Dev.duoCollects_none ht

end

/-- What the end of a primary's epoch changes. -/
theorem Dev.epochOver_spec (s : Dev) : s.epochOver.reg A.DUO_EPOCH = BitVec.ofNat 32 s.duo.cur ∧ s.RegsKept s.epochOver [A.DUO_EPOCH] ∧
    s.epochOver.duo.ends = s.duo.ends ++ [(s.duo.cur, s.ticks)] ∧
    s.epochOver.duo.digests = ((s.duo.cur, s.digestOf s.duo.cur) :: s.duo.digests).take 4 ∧
    s.epochOver = { s with
      regs := s.epochOver.regs
      duoOuts := s.duoOuts.filter (fun y => decide (s.duo.cur < epochAt y.ts))
      duo := s.epochOver.duo } :=
  ⟨Dev.reg_setReg_same _ _ _, s.epochEntered.duoEnded_kept s.duo.cur, rfl, rfl, rfl⟩

/-- The old primary after a handover. -/
theorem Dev.duoHandOver_spec (s : Dev) : s.duoHandOver.IsOut dcHandover ∧ s.duoHandOver.duoRole = drStandby ∧
    s.duoHandOver.duo.request = true ∧ s.duoHandOver.duo.syncNext = false ∧ s.duoHandOver.duo.takeover = s.duo.takeover ∧
    s.duoHandOver.acks = [] ∧ s.duoHandOver.mem = s.mem ∧ s.duoHandOver.points = s.points ∧ s.RegsKept s.duoHandOver [A.DUO_STAT] := by
  obtain ⟨q, x, e, i, h⟩ := Dev.flushHandover_frame 512 s
  have hout := Dev.duoOut_isOut ({ s with duoSet := q, plj := x, duo := { s.duo with txEpoch := e, txIdx := i } } : Dev)
    (cause := dcHandover) (by decide)
  have hkept := Dev.duoOut_regsKept ({ s with duoSet := q, plj := x, duo := { s.duo with txEpoch := e, txIdx := i } } : Dev) dcHandover
  have hduo : (({ s with duoSet := q, plj := x, duo := { s.duo with txEpoch := e, txIdx := i } } : Dev).duoOut dcHandover).duo.takeover =
    s.duo.takeover := rfl
  have hnext : (({ s with duoSet := q, plj := x, duo := { s.duo with txEpoch := e, txIdx := i } } : Dev).duoOut dcHandover).duo.syncNext =
    false := rfl
  have hmem : (({ s with duoSet := q, plj := x, duo := { s.duo with txEpoch := e, txIdx := i } } : Dev).duoOut dcHandover).mem = s.mem := rfl
  have hpoints : (({ s with duoSet := q, plj := x, duo := { s.duo with txEpoch := e, txIdx := i } } : Dev).duoOut dcHandover).points =
    s.points := rfl
  have hd : s.duoHandOver = (({ (s.flushHandover 512).duoOut dcHandover with acks := [] } : Dev).setRole drStandby).duoRequest := rfl
  rw [h] at hd
  generalize ({ s with duoSet := q, plj := x, duo := { s.duo with txEpoch := e, txIdx := i } } : Dev).duoOut dcHandover = y at *
  rw [hd]
  obtain ⟨h1, h2, h3, h4, h5⟩ := hout
  exact ⟨⟨(Dev.duoSync_setRole _ _).trans h1, (Dev.get_set_field _ _ _ _ _ rfl rfl (by decide)).trans h2, h3, h4, h5⟩,
    Dev.duoRole_setRole _ (by decide), rfl, hnext, hduo, rfl, hmem, hpoints, Dev.RegsKept.set hkept _ _ (.head _)⟩

theorem Dev.epochStart_handsOver {s : Dev} (hon : s.duoOn = true) (hk : epochAt s.ts ≠ s.duo.cur) (hsync : s.syncedAs 1 = true)
    (ht : s.duo.takeover = none) (hsw : s.duo.switch = true) : s.epochStart = s.epochOver.duoHandOver := by
  have hclosed := Dev.epochClosed_synced hsync
  rw [if_pos hsw] at hclosed
  obtain ⟨hout, -, -, hnext, htake, -⟩ := s.epochOver.duoHandOver_spec
  rw [Dev.epochStart_eq hon hk, hclosed, if_neg (by rw [hnext]; exact Bool.false_ne_true),
    Dev.epochTail_idle (Dev.syncedAs_false_of_sync (by rw [hout.1]; decide))]
  exact Dev.duoCollects_none (htake.trans ht)

/-! ### A standby judges an epoch or takes over at a boundary -/

section
variable {s : Dev}

/-- The standby has replayed an epoch to its end. -/
def Dev.judgedAt (s : Dev) (k : Nat) : Dev :=
  let s := (s.setReg A.DUO_EPOCH (BitVec.ofNat 32 k)).onDuo fun x => { x with
    digestIn := x.digestIn.filter (fun p => p.1 != k), taken := x.taken.filter (fun p => decide (k < p.1)) }
  { s with
    duoOuts := s.duoOuts.filter (fun x => decide (k < epochAt x.ts)),
    acks := s.acks.filter (fun a => decide (0 < (a.epoch - BitVec.ofNat 32 k).toInt)) }

/-- Its digest differs. -/
def Dev.diverged (s : Dev) : Dev :=
  (((s.duoOut dcDiverge).count A.DUO_ERRCNT F.DUO_ERRCNT_DIV 1).duoOffer .duoDiverge).duoRequest

theorem Dev.duoJudge_eq (k : Nat) (d : Dbl) : s.duoJudge k d = if s.digestOf k = d then s.judgedAt k else (s.judgedAt k).diverged := rfl

theorem Dev.judgedAt_spec (s : Dev) (k : Nat) : (s.judgedAt k).reg A.DUO_EPOCH = BitVec.ofNat 32 k ∧ s.RegsKept (s.judgedAt k) [A.DUO_EPOCH] :=
  ⟨Dev.reg_setReg_same _ _ _, ((Dev.RegsAt.refl s _).setReg _ (.head _) : Dev.RegsAt _ _ [A.DUO_EPOCH]).2⟩

theorem Dev.digestIn_judgedAt (s : Dev) {k : Nat} {d : Dbl} (h : s.duo.digestIn = [(k, d)]) : (s.judgedAt k).duo.digestIn = [] := by
  have hfilter : (s.judgedAt k).duo.digestIn = s.duo.digestIn.filter (fun p => p.1 != k) := rfl
  simp [hfilter, h]

theorem Dev.diverged_spec (s : Dev) : s.diverged.IsOut dcDiverge ∧ s.diverged.duo.request = true ∧ s.DuoRecorded s.diverged ∧
    s.RegsKept s.diverged [A.DUO_STAT, A.DUO_ERRCNT] ∧
    s.diverged.get A.DUO_ERRCNT F.DUO_ERRCNT_DIV = min (s.get A.DUO_ERRCNT F.DUO_ERRCNT_DIV + 1) 255 := by
  have hkept := s.duoOut_regsKept dcDiverge
  have hcount : s.diverged.get A.DUO_ERRCNT F.DUO_ERRCNT_DIV = min ((s.duoOut dcDiverge).get A.DUO_ERRCNT F.DUO_ERRCNT_DIV + 1) 255 :=
    Dev.get_count_same _ _ _ 1 rfl
  refine ⟨(s.duoOut_isOut (by decide)).of_kept (Dev.reg_set_other _ _ _ (by decide)) rfl rfl rfl, rfl, ⟨_, rfl, rfl⟩,
    (hkept.mono (by simp)).set _ _ (by simp), hcount.trans ?_⟩
  rw [hkept.get _ (by decide)]

variable (hon : s.duoOn = true) (hk : epochAt s.ts ≠ s.duo.cur) (hsync : s.syncedAs 2 = true) (hnext : s.duo.syncNext = false)
include hon hk hsync hnext

theorem Dev.epochStart_judges {e : Nat} {dg : Dbl} (ht : s.duo.takeover = none) (hh : s.duo.handover = none)
    (hdig : s.duo.digestIn = [(e, dg)]) (hts : (e + 1) * 10000 + s.lagNs ≤ s.ts.toNat) (hin : ∀ y ∈ s.duo.inbox, e < epochAt y.ts) :
    s.epochStart = s.epochEntered.duoJudge e dg := by
  have hjudge : s.epochEntered.duoJudgeAll = s.epochEntered.duoJudge e dg := by
    have hany : s.duo.inbox.any (fun y => decide (epochAt y.ts ≤ e)) = false := by
      rw [List.any_eq_false]
      exact fun y hy => by simpa using hin y hy
    have hcond : (s.epochEntered.syncedAs 2 && decide ((e + 1) * 10000 + s.epochEntered.lagNs ≤ s.epochEntered.ts.toNat) &&
        !s.epochEntered.duo.inbox.any (fun y => decide (epochAt y.ts ≤ e))) = true := by
      rw [Bool.and_eq_true, Bool.and_eq_true, Bool.not_eq_true', decide_eq_true_eq]
      exact ⟨⟨hsync, hts⟩, hany⟩
    rw [Dev.duoJudgeAll, show s.epochEntered.duo.digestIn = [(e, dg)] from hdig, List.foldl_cons, List.foldl_nil]
    exact if_pos hcond
  have hboth : (s.epochEntered.duoJudge e dg).duo.handover = none ∧ (s.epochEntered.duoJudge e dg).duo.takeover = none := by
    rw [Dev.duoJudge_eq]
    split
    · exact ⟨hh, ht⟩
    · exact ⟨rfl, ht⟩
  rw [Dev.epochStart_apart hon hk (Dev.syncedAs_false_of_other hsync (by decide)) hnext, Dev.epochTail, hjudge,
    Dev.duoHanded_none hboth.1, Dev.duoCollects_none hboth.2]

/-- With everything replayed the new primary takes over, and collects at once. -/
theorem Dev.epochStart_takesOver {j : Nat} (hdig : s.duo.digestIn = []) (hh : s.duo.handover = some j) (hin : s.duo.inbox = [])
    (hts : (j + 1) * 10000 + s.lagNs ≤ s.ts.toNat) : s.epochStart = (s.epochEntered.duoTakeover dcHandover 0).duoCollects := by
  have hcond : (s.epochEntered.syncedAs 2 && s.epochEntered.duo.inbox.isEmpty &&
      decide ((j + 1) * 10000 + s.epochEntered.lagNs ≤ s.epochEntered.ts.toNat)) = true := by
    rw [Bool.and_eq_true, Bool.and_eq_true, List.isEmpty_iff, decide_eq_true_eq]
    exact ⟨⟨hsync, hin⟩, hts⟩
  rw [Dev.epochStart_apart hon hk (Dev.syncedAs_false_of_other hsync (by decide)) hnext, Dev.epochTail,
    Dev.duoJudgeAll_none (s := s.epochEntered) hdig, Dev.duoHanded, show s.epochEntered.duo.handover = some j from hh]
  exact congrArg Dev.duoCollects (if_pos hcond)

end

/-- A takeover that is over: the gap is known. -/
def Dev.collecting (s : Dev) : Dev :=
  (s.onDuo fun d => { d with takeover := none }).set A.DUO_GAP F.DUO_GAP_GAP (min ((s.ts.toNat - s.duo.cover) / 1000) 65535)

theorem Dev.collecting_spec (s : Dev) : s.RegsKept s.collecting [A.DUO_GAP] ∧
    s.collecting.get A.DUO_GAP F.DUO_GAP_GAP = min ((s.ts.toNat - s.duo.cover) / 1000) 65535 ∧
    s.collecting.get A.DUO_GAP F.DUO_GAP_TKO = s.get A.DUO_GAP F.DUO_GAP_TKO :=
  ⟨((Dev.RegsAt.refl s _).set _ _ (.head _) : Dev.RegsAt _ _ [A.DUO_GAP]).2,
    Dev.get_set_same _ _ _ _ rfl (Nat.lt_of_le_of_lt (Nat.min_le_right _ _) (by decide)),
    Dev.get_set_field _ _ _ _ _ rfl rfl (by decide)⟩

/-! ### What each boundary leaves -/

section
variable {s : Dev} (hon : s.duoOn = true) (hk : epochAt s.ts ≠ s.duo.cur)
include hon hk

theorem Dev.epochStart_entered (hsync : s.duoSync ≠ dsSynced) (hnext : s.duo.syncNext = true) (ht : s.duo.takeover = none) :
    let k := epochAt s.ts
    let d := s.epochStart
    d.duoSync = dsSynced ∧ d.duoSet = [] ∧ d.duoOuts = [] ∧ d.duoRel = BitVec.ofNat 32 (k - 1) ∧ d.duo.confirmed = k - 1 ∧
      d.duo.txEpoch = k ∧ d.duo.inbox = [] ∧ s.RegsKept d [A.DUO_STAT] ∧ d.duoRole = s.duoRole ∧
      d = { s with regs := d.regs, duoSet := d.duoSet, duoOuts := d.duoOuts, duoRel := d.duoRel, duo := d.duo } := by
  obtain ⟨h1, h2, h3, h4⟩ := s.epochEntered.duoEnter_spec (epochAt s.ts)
  intro k d
  rw [show d = s.epochEntered.duoEnter (epochAt s.ts) from Dev.epochStart_enters hon hk hsync hnext ht]
  exact ⟨h1, rfl, rfl, rfl, rfl, rfl, rfl, h3, h2, h4⟩

theorem Dev.epochStart_handed (hsync : s.syncedAs 1 = true) (ht : s.duo.takeover = none) (hsw : s.duo.switch = true) :
    let d := s.epochStart
    d.IsOut dcHandover ∧ d.duoRole = drStandby ∧ d.duo.request = true ∧ d.acks = [] ∧ d.mem = s.mem ∧ d.points = s.points ∧
      s.RegsKept d [A.DUO_STAT, A.DUO_EPOCH] := by
  obtain ⟨-, hended, -⟩ := s.epochOver_spec
  obtain ⟨hout, hrole, hreq, -, -, hacks, hmem, hpoints, hkept⟩ := s.epochOver.duoHandOver_spec
  intro d
  rw [show d = s.epochOver.duoHandOver from Dev.epochStart_handsOver hon hk hsync ht hsw]
  exact ⟨hout, hrole, hreq, hacks, hmem, hpoints, (hended.mono (by simp)).trans (hkept.mono (by simp))⟩

theorem Dev.epochStart_compared {e : Nat} {dg : Dbl} (hsync : s.syncedAs 2 = true) (hnext : s.duo.syncNext = false)
    (ht : s.duo.takeover = none) (hh : s.duo.handover = none) (hdig : s.duo.digestIn = [(e, dg)])
    (hts : (e + 1) * 10000 + s.lagNs ≤ s.ts.toNat) (hin : ∀ y ∈ s.duo.inbox, e < epochAt y.ts) :
    let d := s.epochStart
    (s.digestOf e = dg → d.reg A.DUO_EPOCH = BitVec.ofNat 32 e ∧ s.RegsKept d [A.DUO_EPOCH] ∧ d.duo.digestIn = []) ∧
    (s.digestOf e ≠ dg → d.IsOut dcDiverge ∧ d.duo.request = true ∧ s.DuoRecorded d ∧
      s.RegsKept d [A.DUO_STAT, A.DUO_EPOCH, A.DUO_ERRCNT] ∧
      d.get A.DUO_ERRCNT F.DUO_ERRCNT_DIV = min (s.get A.DUO_ERRCNT F.DUO_ERRCNT_DIV + 1) 255) := by
  obtain ⟨hreg, hkept⟩ := s.epochEntered.judgedAt_spec e
  have hstart : s.epochStart = if s.digestOf e = dg then s.epochEntered.judgedAt e else (s.epochEntered.judgedAt e).diverged :=
    Dev.epochStart_judges hon hk hsync hnext ht hh hdig hts hin
  refine ⟨fun hsame => ?_, fun hdiff => ?_⟩
  · rw [hstart, if_pos hsame]
    exact ⟨hreg, hkept, s.epochEntered.digestIn_judgedAt hdig⟩
  · obtain ⟨hout, hreq, hrec, hregs, hcount⟩ := (s.epochEntered.judgedAt e).diverged_spec
    rw [hstart, if_neg hdiff]
    refine ⟨hout, hreq, hrec, hkept.mono (by simp) |>.trans (hregs.mono (by simp)), hcount.trans ?_⟩
    rw [hkept.get _ (by decide)]
    rfl

theorem Dev.epochStart_took {j : Nat} (hsync : s.syncedAs 2 = true) (hnext : s.duo.syncNext = false) (hdig : s.duo.digestIn = [])
    (hh : s.duo.handover = some j) (hin : s.duo.inbox = []) (hts : (j + 1) * 10000 + s.lagNs ≤ s.ts.toNat) :
    let d := s.epochStart
    d.IsOut dcHandover ∧ d.duoRole = drPrimary ∧ d.duo.takeover = none ∧ d.get A.DUO_GAP F.DUO_GAP_TKO = 0 ∧
      d.reg A.REC_SEQ = s.reg A.REC_SEQ + 65536 := by
  obtain ⟨hout, hrole, htko, hseq, hframe⟩ := s.epochEntered.duoTakeover_spec (cause := dcHandover) (tko := 0) (by decide) (by decide)
  have ht : (s.epochEntered.duoTakeover dcHandover 0).duo.takeover = some s.ticks := by rw [hframe]; rfl
  have hticks : (s.epochEntered.duoTakeover dcHandover 0).ticks = s.ticks := by rw [hframe]; rfl
  have hstart : s.epochStart = (s.epochEntered.duoTakeover dcHandover 0).collecting := by
    rw [Dev.epochStart_takesOver hon hk hsync hnext hdig hh hin hts, Dev.duoCollects_some ht, if_pos hticks.ge]
    rfl
  have hseq' : (s.epochEntered.duoTakeover dcHandover 0).reg A.REC_SEQ = s.reg A.REC_SEQ + 65536 := hseq
  intro d
  rw [show d = _ from hstart]
  generalize s.epochEntered.duoTakeover dcHandover 0 = y at *
  obtain ⟨hgap, -, hkept⟩ := y.collecting_spec
  exact ⟨hout.of_kept (hgap _ (by decide)) rfl rfl rfl, (hgap.get _ (by decide)).trans hrole, rfl, hkept.trans htko,
    (hgap _ (by decide)).trans hseq'⟩

theorem Dev.epochStart_collects {t : Nat} (hsync : s.duoSync ≠ dsSynced) (hnext : s.duo.syncNext = false) (ht : s.duo.takeover = some t) :
    let d := s.epochStart
    (t ≤ s.ticks → d = { s with regs := d.regs, duo := { s.duo with cur := epochAt s.ts, takeover := none } } ∧
      s.RegsKept d [A.DUO_GAP] ∧ d.get A.DUO_GAP F.DUO_GAP_GAP = min ((s.ts.toNat - s.duo.cover) / 1000) 65535) ∧
    (s.ticks < t → d = { s with duo := { s.duo with cur := epochAt s.ts } }) := by
  obtain ⟨hgap, hval, -⟩ := s.epochEntered.collecting_spec
  have hstart : s.epochStart = if t ≤ s.ticks then s.epochEntered.collecting else s.epochEntered := by
    rw [Dev.epochStart_out hon hk hsync hnext]
    exact Dev.duoCollects_some ht
  refine ⟨fun hdue => ?_, fun hwait => ?_⟩
  · rw [hstart, if_pos hdue]
    exact ⟨rfl, hgap, hval⟩
  · rw [hstart, if_neg (Nat.not_le.2 hwait)]
    rfl

end

section
variable {s : State} (hon : s.dev.on = true) (hrun : s.dev.halted = false)
include hon hrun

/-- A command of the pair that changes nothing. -/
theorem Does.live_idle {c : Instr} {f : Dev → Dev} (he : exec c s = s.live f) (h : f s.dev = s.dev) :
    Does c s fun d => d = s.dev := Does.of_live he hon hrun h

/-! ## The commands -/

theorem epochStart_does {P : Dev → Prop} (h : P s.dev.epochStart) : Does .epochStart s P := Does.of_live rfl hon hrun h

theorem roleDecision_does {P : Dev → Prop} (h : P s.dev.roleDecision) : Does .roleDecision s P := Does.of_live rfl hon hrun h

theorem inputSetFrame_does {P : Dev → Prop} (h : P s.dev.inputSetFrame) : Does .inputSetFrame s P := Does.of_live rfl hon hrun h

theorem replayEntry_does {P : Dev → Prop} (h : P s.dev.replayEntry) : Does .replayEntry s P := Does.of_live rfl hon hrun h

theorem partnerLost_does {P : Dev → Prop} (h : P s.dev.partnerLost) : Does .partnerLost s P := Does.of_live rfl hon hrun h

theorem mirFrame_does {P : Dev → Prop} (seq : Word) (m : Mirror) (h : P (s.dev.mirFrame seq m)) : Does (.mirFrame seq m) s P :=
  Does.of_live (f := (·.mirFrame seq m)) rfl hon hrun h

theorem transferDone_does {P : Dev → Prop} (src : Dev) (h : P (s.dev.transferDone src)) : Does (.transferDone src) s P :=
  Does.of_live (f := (·.transferDone src)) rfl hon hrun h

theorem heartbeatIn_does {P : Dev → Prop} (p : Fin 3) (h : Hb) (hp : P (s.dev.heartbeatIn p h)) :
    Does (.heartbeat (some (p, h))) s P :=
  Does.of_live (f := (·.heartbeat (some (p.val, h)))) rfl hon hrun hp

end

/-- Settles O56: each command of a pair member by the rule of its operation. -/
theorem dovetailPair : Obligations.DovetailPair := by
  intro s hon hrun
  refine ⟨⟨fun h => ?_, fun t hd ht => ?_⟩, ⟨fun h => ?_, fun hd hk => ⟨?_, fun hsync ht => ⟨fun hnext => ?_, fun hnext => ?_⟩,
      fun hsync hnext ht => ⟨fun hsw => ?_, fun hsw => ?_⟩, fun e dg hsync hnext ht hh hdig hts hin => ⟨fun hsame => ?_, fun hdiff => ?_⟩,
      fun j hsync hnext hdig hh hin hts => ?_, fun t hsync hnext ht => ⟨fun hdue => ?_, fun hwait => ?_⟩⟩⟩,
    ⟨fun h => ?_, fun h => ⟨fun hk => ?_, fun hk hdue => ?_, fun hk hdue => ?_⟩⟩, fun p h0 h1 h2 h3 body hup hrole hhalf hsync =>
      ⟨fun hkey => ?_, fun hkey hlate => ?_, fun hkey hlate => ?_⟩,
    ⟨fun h => ?_, fun y rest hin hsync => ⟨fun hts => ?_, fun hts => ⟨fun hb => ?_, fun hdig => ⟨fun hk h10 h18 hu => ?_, fun hk => ?_,
      fun e hk hend hj => ?_⟩⟩⟩⟩,
    fun n => ⟨fun h => ?_, fun h => ?_⟩, fun n t rest he => ⟨fun h => ?_, fun h => ?_⟩, fun he => ?_,
    fun seq => ⟨fun hr => ?_, fun m h => ?_, fun hr => ⟨fun m hm => ?_, fun he => ⟨fun n ws => ?_, fun a ws hlen => ?_⟩⟩⟩,
    fun hd hr => ?_, fun h => ?_, fun h => ?_, fun h => ?_, fun h => ?_, fun h => ?_, ⟨fun h => ?_, fun h => ?_⟩,
    fun src => ⟨fun h => ?_, fun h => ⟨?_, fun hr => ?_, fun hr hwf => ?_⟩⟩, ⟨fun h => ?_, fun h => ?_⟩,
    fun p h => ⟨fun hd => ?_, fun hd => ⟨?_, fun hp hr => ⟨fun ha => ?_, fun ha h1 h2 h3 => ?_⟩, fun hp hr hsync =>
      ⟨fun hdiff => ?_, fun hsame h1 h2 h3 => ?_⟩⟩⟩,
    fun h => ?_, fun hp hl hw => ?_, fun hp hl hw h2 => ?_, fun hp hl hw h2 => ?_⟩
  -- roleDecision
  · exact Does.live_idle (f := Dev.roleDecision) hon hrun rfl (Dev.roleDecision_idle h)
  · obtain ⟨halone, hpaired⟩ := Dev.roleDecision_spec hd ht
    exact ⟨fun hp => ⟨fun hdue => roleDecision_does hon hrun ((halone hp).1 hdue),
        fun hdue => Does.live_idle (f := Dev.roleDecision) hon hrun rfl ((halone hp).2 hdue)⟩,
      fun h hp => ⟨fun hr => roleDecision_does hon hrun ((hpaired h hp).1 hr),
        fun hr => ⟨fun hw => roleDecision_does hon hrun (((hpaired h hp).2 hr).1 hw),
          fun hw => roleDecision_does hon hrun (((hpaired h hp).2 hr).2 hw)⟩⟩⟩
  -- epochStart
  · exact Does.live_idle (f := Dev.epochStart) hon hrun rfl (Dev.epochStart_idle h)
  · exact epochStart_does hon hrun (Dev.cur_epochStart hd hk)
  · refine epochStart_does hon hrun ?_
    rw [Dev.epochStart_out hd hk hsync hnext]
    exact Dev.duoCollects_none ht
  · exact epochStart_does hon hrun (Dev.epochStart_entered hd hk hsync hnext ht)
  · refine epochStart_does hon hrun ?_
    rw [Dev.epochStart_ends hd hk hsync hnext ht hsw]
    exact s.dev.epochOver_spec
  · exact epochStart_does hon hrun (Dev.epochStart_handed hd hk hsync ht hsw)
  · exact epochStart_does hon hrun ((Dev.epochStart_compared hd hk hsync hnext ht hh hdig hts hin).1 hsame)
  · exact epochStart_does hon hrun ((Dev.epochStart_compared hd hk hsync hnext ht hh hdig hts hin).2 hdiff)
  · exact epochStart_does hon hrun (Dev.epochStart_took hd hk hsync hnext hdig hh hin hts)
  · exact epochStart_does hon hrun ((Dev.epochStart_collects hd hk hsync hnext ht).1 hdue)
  · exact epochStart_does hon hrun ((Dev.epochStart_collects hd hk hsync hnext ht).2 hwait)
  -- inputSetFrame
  · exact Does.live_idle (f := Dev.inputSetFrame) hon hrun rfl (Dev.inputSetFrame_idle h)
  · exact inputSetFrame_does hon hrun ((Dev.inputSetFrame_spec hrun h).1 hk)
  · exact inputSetFrame_does hon hrun ((Dev.inputSetFrame_spec hrun h).2.1 hk hdue)
  · exact Does.live_idle (f := Dev.inputSetFrame) hon hrun rfl ((Dev.inputSetFrame_spec hrun h).2.2 hk hdue)
  -- pljFrameReceived
  · refine Does.live_idle (f := (·.pljFrameIn p.val ⟨ftRep, [h0, h1, h2, h3], body⟩)) hon hrun rfl ?_
    exact (Dev.pljFrameIn_pair body hup hrole hhalf h0 h2 h3).trans (Dev.inputSetIn_taken body hkey)
  · refine Does.of_live (f := (·.pljFrameIn p.val ⟨ftRep, [h0, h1, h2, h3], body⟩)) rfl hon hrun ?_
    rw [Dev.pljFrameIn_pair body hup hrole hhalf h0 h2 h3]
    exact (Dev.inputSetIn_spec body hsync hkey).1 hlate
  · refine Does.of_live (f := (·.pljFrameIn p.val ⟨ftRep, [h0, h1, h2, h3], body⟩)) rfl hon hrun ?_
    rw [Dev.pljFrameIn_pair body hup hrole hhalf h0 h2 h3]
    exact (Dev.inputSetIn_spec body hsync hkey).2 hlate
  -- replayEntry
  · exact Does.live_idle (f := Dev.replayEntry) hon hrun rfl (Dev.replayEntry_idle h)
  · exact Does.live_idle (f := Dev.replayEntry) hon hrun rfl (Dev.replayEntry_waits hin hts)
  · refine replayEntry_does hon hrun ?_
    rw [Dev.replayEntry_due hin hsync hts, if_pos hb]
    exact s.dev.duoLate_spec
  · exact replayEntry_does hon hrun (Dev.replayEntry_point hin hsync hts hdig hk h10 h18 hu)
  · exact replayEntry_does hon hrun (Dev.replayEntry_prd hin hsync hts hdig hk)
  · exact replayEntry_does hon hrun (Dev.replayEntry_notice hin hsync hts hdig hk hend hj)
  -- econfReceived
  · exact Does.of_live (f := (·.econf n)) rfl hon hrun (s.dev.econf_due h)
  · exact Does.live_idle (f := (·.econf n)) hon hrun rfl (if_neg (mt (s.dev.econf_guard n).1 h))
  -- cwaitExpiry
  · refine Does.of_live (f := Dev.cwaitExpiry) rfl hon hrun ?_
    rw [s.dev.cwaitExpiry_eq he, if_pos (by simpa using h)]
    exact ⟨rfl, rfl, ⟨_, rfl, rfl⟩, rfl, rfl, s.dev.cwaitReleased_regsKept n rest, s.dev.cto_cwaitReleased n rest⟩
  · refine Does.live_idle (f := Dev.cwaitExpiry) hon hrun rfl ?_
    rw [s.dev.cwaitExpiry_eq he]
    exact if_neg (by simpa using h)
  · exact Does.live_idle (f := Dev.cwaitExpiry) hon hrun rfl (s.dev.cwaitExpiry_none he)
  -- mirFrame
  · refine mirFrame_does hon hrun seq .ack ?_
    rw [s.dev.mirFrame_ack seq hr]
    exact ⟨rfl, Dev.reg_setReg_same _ _ _, rfl, (Dev.RegsKept.refl s.dev _).setReg _ (.head _)⟩
  · exact mirFrame_does hon hrun seq m (Dev.mirFrame_idle seq h)
  · exact mirFrame_does hon hrun seq m (Dev.mirFrame_mseqIn seq hr hm)
  · exact mirFrame_does hon hrun seq _ (Dev.mirFrame_page seq hr he n ws)
  · exact mirFrame_does hon hrun seq _ (Dev.mirFrame_bank seq hr he a ws hlen)
  -- duoResync, duoSwitch, duoLeave
  · refine Does.of_live (f := Dev.duoResync) rfl hon hrun ?_
    exact if_pos (by simp [hd, hr])
  · exact Does.live_idle (f := Dev.duoResync) hon hrun rfl (Dev.duoResync_idle h)
  · exact Does.of_live (f := Dev.duoSwitch) rfl hon hrun (if_pos h)
  · exact Does.live_idle (f := Dev.duoSwitch) hon hrun rfl (if_neg (by rw [h]; exact Bool.false_ne_true))
  · refine Does.of_live (f := Dev.duoLeave) rfl hon hrun ?_
    rw [show s.dev.duoLeave = s.dev.duoOut dcRequest from if_pos h]
    exact ⟨s.dev.duoOut_isOut (by decide), s.dev.duoRole_duoOut _, s.dev.duoOut_regsKept _, s.dev.duoOut_frame _⟩
  · exact Does.live_idle (f := Dev.duoLeave) hon hrun rfl (if_neg (by rw [h]; exact Bool.false_ne_true))
  -- replayDry
  · obtain ⟨hdry, hat⟩ := s.dev.replayDry_spec.1 h
    exact Does.of_live (f := Dev.replayDry) rfl hon hrun ⟨hdry, hat.eq, hat.2⟩
  · exact Does.live_idle (f := Dev.replayDry) hon hrun rfl (s.dev.replayDry_spec.2 h)
  -- transferDone
  · exact transferDone_does hon hrun src (Dev.transferDone_idle src h)
  · exact transferDone_does hon hrun src (Dev.transferDone_spec src h)
  · refine transferDone_does hon hrun src ?_
    rw [Dev.transferDone_eq src h, if_neg hr]
    exact ⟨rfl, s.dev.transferEnded_spec.2.2.2⟩
  · refine transferDone_does hon hrun src ?_
    rw [Dev.transferDone_eq src h, if_pos hr]
    exact ⟨rfl, rfl, rfl, rfl, rfl, rfl, rfl, rfl, s.dev.byte_duoCopy src hwf⟩
  -- heartbeat
  · exact Does.of_live (f := (·.heartbeat none)) rfl hon hrun (Dev.heartbeatOut_due hrun h)
  · exact Does.live_idle (f := (·.heartbeat none)) hon hrun rfl (if_neg (mt (Dev.heartbeatOut_guard hrun).1 h))
  · exact heartbeatIn_does hon hrun p h (if_pos (by rw [hd]; rfl))
  · obtain ⟨h1, h2, h3, h4, h5, h6, h7, h8⟩ := Dev.heartbeatIn_told p.val h hd
    exact heartbeatIn_does hon hrun p h ⟨h1, h2, h3, h4, h5, h6, h7, h8⟩
  · exact heartbeatIn_does hon hrun p h (((Dev.heartbeatIn_pair p.val h hd hp).1 hr).1 ha)
  · exact heartbeatIn_does hon hrun p h (((Dev.heartbeatIn_pair p.val h hd hp).1 hr).2 ha h1 h2 h3)
  · exact heartbeatIn_does hon hrun p h (((Dev.heartbeatIn_pair p.val h hd hp).2 hr hsync).1 hdiff)
  · exact heartbeatIn_does hon hrun p h (((Dev.heartbeatIn_pair p.val h hd hp).2 hr hsync).2 hsame h1 h2 h3)
  -- partnerLost
  · exact partnerLost_does hon hrun (Dev.partnerLost_idle h)
  · refine partnerLost_does hon hrun ?_
    rw [Dev.partnerLost_eq hp hl, if_pos hw]
    exact ⟨s.dev.duoOut_isOut (by decide), s.dev.duoRole_duoOut _, s.dev.duoOut_regsKept _⟩
  · refine partnerLost_does hon hrun ?_
    rw [Dev.partnerLost_eq hp hl, if_neg (by rw [hw]; exact Bool.false_ne_true), if_neg (by rw [h2]; exact Bool.false_ne_true)]
    exact ⟨s.dev.duoOut_isOut (by decide), s.dev.duoRole_duoOut _, s.dev.duoOut_regsKept _⟩
  · exact partnerLost_does hon hrun (Dev.partnerLost_takeover hp hl hw h2)

end Sys2Proof.Machine
end
